-- ==== Sys2Proof/Word.lean ====
section
/-! DEFINITION. The word types of the part: bytes, sectors' addresses and the bit patterns of the numeric formats. -/

namespace Sys2Proof

/-- One byte of memory. -/
abbrev Byte := BitVec 8

/-- The 32-bit pattern of an FP32 value (02, R40). -/
abbrev F32 := BitVec 32

/-- The 16-bit pattern of a BF16 or FP16 value (02, R40). -/
abbrev F16 := BitVec 16

end Sys2Proof
end

