-- ==== Sys2Proof/Machine/LetterTypes.lean ====
section
/-! DEFINITION. The data a letter is made of: memory spaces, descriptors, destinations, the run of a letter at a
target, queue contexts and waiting completion records (03 to 10; R144, R187, R190, R209). Plain data, no meaning. -/

namespace Sys2Proof.Machine

/-- Memory space codes of R190. -/
inductive Space where
  | attic
  | cellar
  | larder
  | host
  deriving DecidableEq, Repr

/-- One memory: its listed bytes (an unlisted byte reads as zero), and the 32-byte sectors that carry a poison mark
(R561), by sector number. Both lists strictly rising. -/
structure Mem where
  cells : List Host.Cell
  poison : List Nat
  deriving DecidableEq, Repr

/-- An address in a space. -/
structure Loc where
  space : Space
  addr : Nat
  deriving DecidableEq, Repr

/-- A descriptor slot of a letter (R187). -/
structure SlotRef where
  addr : Nat
  space : Space
  present : Bool
  deriving DecidableEq, Repr

/-- One dimension of a descriptor with the axis values latched at validation (R190, R196, R225). -/
structure Dim where
  stride : Int
  extent : Nat
  mode : Nat
  parts : Nat
  index : Nat
  cyclic : Nat
  deriving DecidableEq, Repr

/-- A tensor descriptor with its scale set (R190, R194). -/
structure TDesc where
  base : Nat
  space : Space
  format : Nat
  rank : Nat
  blkCode : Nat
  mx : Bool
  blkDim : Nat
  sideList : Bool
  paged : Bool
  scaleSet : Nat
  tensorId : Nat
  dims : List Dim
  ts : Option Loc
  bs : Option Loc
  wa : Option Loc
  deriving DecidableEq, Repr

/-- The fields of a letter (R187). -/
structure Letter where
  route : Nat
  fence : Bool
  notify : Bool
  dAccum : Bool
  accBf16 : Bool
  tileM : Nat
  tileN : Nat
  pantryIndex : Nat
  groupsM1 : Nat
  cassette : Nat
  k : Nat
  step : Nat
  microbatch : Nat
  dHist : Nat
  sHist : Nat
  aM : Nat
  aK : Nat
  aK2 : Nat
  bK : Nat
  bK2 : Nat
  bN : Nat
  dM : Nat
  dN : Nat
  deadline : Nat
  prog : Nat
  slotA : SlotRef
  slotB : SlotRef
  slotD : SlotRef
  slotS : SlotRef
  dep0Q : Nat
  dep0En : Bool
  dep0Seq : Nat
  dep1Q : Nat
  dep1En : Bool
  dep1Seq : Nat
  param0 : Nat
  param1 : Nat
  pageCtx : Nat
  batchKey : Nat
  userTag : Nat
  deriving DecidableEq, Repr

/-- What the Landing counts for one destination of one letter (R157, R222). -/
structure Counts where
  elements : Nat
  sat : Nat
  ufl : Nat
  nf : Nat
  poison : Nat
  blocks : Nat
  zeroBlocks : Nat
  satBlocks : Nat
  outEntries : Nat
  outClamped : Nat
  outOff : Nat
  deriving DecidableEq, Repr

/-- A tile value held by the Landing for a block that is not yet complete: element indices, value, poison. -/
structure Held where
  idx : List Nat
  row : Nat
  col : Nat
  val : F32
  poison : Bool
  deriving DecidableEq, Repr

/-- One destination (D or S) of a running letter (R142, R148, R152, R155, R170). -/
structure DestRun where
  desc : TDesc
  present : Bool
  isS : Bool
  hist : Nat
  history : Bool
  sat : Bool
  accum : Bool
  tsBits : F32
  eLatched : Int
  stale : Bool
  amax : F32
  counts : Counts
  carry : List Held
  overflowed : Bool
  listStart : Nat
  causes : List Nat
  wMin : Nat
  wMax : Nat
  deriving DecidableEq, Repr

/-- A KV context (R317). -/
structure KvCtx where
  n : Nat
  listAddr : Nat
  listSpace : Nat
  log2Page : Nat
  mode : Nat
  pool : Nat
  sketchEn : Bool
  skHdim : Bool
  length : Nat
  winPages : Nat
  sinkPages : Nat
  fmtMask : Nat
  rowElems : Nat
  sketchBase : Nat
  sketchSpace : Nat
  skHeads : Nat
  skOff : Nat
  selAddr : Nat
  selSpace : Nat
  selP : Nat
  maxPages : Nat
  deriving DecidableEq, Repr

/-- A page header (R319). -/
structure PageHdr where
  format : Nat
  blkCode : Nat
  log2Tokens : Nat
  firstPos : Nat
  tsExp : Nat
  tokens : Nat
  refcount : Nat
  pins : Nat
  sketchAddr : Nat
  sketchSpace : Nat
  sketched : Bool
  ownerCtx : Nat
  pool : Nat
  frame : Nat
  rowElems : Nat
  deriving DecidableEq, Repr

/-- What the Porch supplies for the page of a position (R321): nothing fetched, poisoned zeros (because of a poisoned word,
or of a refused header), or the rows of a frame at an address. -/
inductive PageSupply where
  | zeros
  | hole
  | stale
  | skipped
  | refused
  | rows (space : Space) (addr : Nat) (hdr : PageHdr)
  deriving DecidableEq, Repr

/-- The paged read slot of a letter as its dispatch found it (R255, R331, R332): the context, whether positions go
through the selection list, and what is supplied for each page (position or virtual index divided by the page size). -/
structure PagedRun where
  ctx : KvCtx
  sel : Bool
  pages : List (Nat × PageSupply)
  deriving DecidableEq, Repr

/-- One burst of a stream (R233): where it reads or writes, the operand and the visit (tile) it is for, the memory sectors
its 32-byte pieces stand for, and the Larder address a staged copy of it goes to (R237). -/
structure Burst where
  space : Space
  addr : Nat
  len : Nat
  isB : Bool
  tile : Nat
  src : List (Space × Nat)
  copyTo : Option Nat
  deriving DecidableEq, Repr

/-- A sector in a letter's stream buffer: operand, visit, the memory sector it stands for, its 32 bytes and poison. -/
structure BufSector where
  isB : Bool
  tile : Nat
  space : Space
  sector : Nat
  data : Nat
  poison : Bool
  deriving DecidableEq, Repr

/-- One constituent letter of a running op; an ordinary op has one (R219, R220). -/
structure Part where
  queue : Nat
  seq : Nat
  letter : Letter
  y3 : Bool
  a : Option TDesc
  b : Option TDesc
  d : Option DestRun
  s : Option DestRun
  rows : Nat
  /-- conversion-only replays of this letter (R161) -/
  replays : Nat
  /-- Pilot time after which a dispatch is late (R216, R218) -/
  deadline : Option Nat
  late : Bool
  recipe : Bool
  oprange : Bool
  poisonBit : Bool
  nonfinite : Bool
  saturated : Bool
  histStale : Bool
  /-- a product of its rows lost bits to the window (R106, R221) -/
  window : Bool
  /-- the letter has made its one replay for overflowed outliers (R170) -/
  outReplayed : Bool
  /-- non-finite operand elements delivered for this letter in its run, and that count as each tile ended (R248) -/
  nf : Nat
  nfTiles : List Nat
  /-- the paged read slot as found at dispatch -/
  kv : Option PagedRun
  /-- a Workshop letter's parameter block as read at validation, and its rows per tile (R264, R265) -/
  pb : Nat
  tileRows : Nat
  /-- frames this letter pins: pool, frame (R331) -/
  pins : List (Nat × Nat)
  deriving DecidableEq, Repr

/-- The dispatch targets of R186. -/
inductive Target where
  | front
  | back
  | workshop
  | copy
  | peloton
  | glazia
  | exporter
  deriving DecidableEq, Repr

/-- The lane modes of R74. -/
inductive LaneMode where
  | split
  | packed2
  | packed1
  | unsplit
  deriving DecidableEq, Repr

/-- The room data latched when a room letter starts (R89), and its progress. -/
structure RoomRun where
  mode : LaneMode
  m : Nat
  w : Nat
  cols : Nat
  i0 : Nat
  groups : Nat
  larder : Bool
  bf16 : Bool
  passLen : Nat
  footprint : Nat
  /-- per lane (tile row · 3,072 + output column): segments flushed since the letter started, poison flag of its tile -/
  lanes : List (Nat × (Nat × Bool))
  passesDone : Nat
  tilesDone : Nat
  poisonTile : Bool
  deriving DecidableEq, Repr

/-- One Workshop row output waiting for the Landing or memory: row number, FP32 values with poison. -/
structure WsRow where
  part : Nat
  row : Nat
  vals : List (F32 × Bool)
  deriving DecidableEq, Repr

/-- A letter (or DECODE merge) that has been dispatched to a target and whose work is not finished. -/
structure Op where
  target : Target
  slot : Nat
  parts : List Part
  started : Bool
  merged : Bool
  dispatchTick : Nat
  kop : Nat
  replays : Nat
  /-- the captain set as it stood at dispatch: every value the letter latches comes from it (R438) -/
  captain : List (Nat × Nat)
  replayWaiting : Bool
  /-- the running tile is finished and thrown away before the whole-op replay is dispatched (R163) -/
  discarding : Bool
  keepMode : Nat
  room : Option RoomRun
  tilesConv : Nat
  wsNext : Nat
  wsRows : List WsRow
  kvFrames : List (Nat × Nat)
  /-- since when (Pilot time) the tile waits for a free frame (R336) -/
  kvWaiting : Option Nat
  /-- tiles whose outlier contributions are complete (R278) -/
  outDone : Nat
  /-- tiles whose outlier work met a bench fault (R286) -/
  outFaults : List Nat
  /-- sectors delivered into the letter's stream buffers and not yet used up -/
  buf : List BufSector
  /-- a collective or export letter's work is done -/
  finished : Bool
  error : Nat
  deriving DecidableEq, Repr

/-- States of a loaded queue (R209); a DISABLED queue is not loaded. -/
inductive QState where
  | ready
  | halted
  | flushing
  deriving DecidableEq, Repr

/-- A loaded queue context (R209). -/
structure QCtx where
  q : Nat
  ringBase : Nat
  ringSpace : Space
  ringLog2 : Nat
  kind : Nat
  prio : Nat
  st : QState
  head : Nat
  tail : Nat
  done : Nat
  crBase : Nat
  crSpace : Space
  notifySrc : Nat
  defDeadline : Nat
  cntBase : Nat
  cntSpace : Space
  isa : Nat
  lastError : Nat
  errSeq : Nat
  late : Nat
  user : Nat
  /-- halted with CONTEXT (R212) -/
  ctxError : Bool
  /-- DISABLE waits for the queue's running letters (R211) -/
  disabling : Bool
  /-- the Pilot time at which the head letter became ready (R216) -/
  readyTick : Option Nat
  /-- the 64 bytes as they were loaded (R210) -/
  raw : Nat
  /-- sequence numbers of the failed letters on which the queue is halted and not yet resumed (R188) -/
  haltedOn : List Nat
  deriving DecidableEq, Repr

/-- A finished letter whose completion record is not yet written (R189, R221). -/
structure FinRec where
  queue : Nat
  seq : Nat
  error : Nat
  part : Option Part
  replays : Nat
  window : Bool
  longsum : Bool
  merged : Bool
  late : Bool
  dispatchTick : Nat
  notify : Bool
  userTag : Nat
  hasCounts : Bool
  pins : List (Nat × Nat)
  captain : List (Nat × Nat)
  collective : List Nat
  deriving DecidableEq, Repr

/-- A DECODE gather in progress (R219). -/
structure Gather where
  startTick : Nat
  limit : Nat
  target : Target
  slot : Nat
  parts : List Part
  deriving DecidableEq, Repr

/-- The way an access reaches the dictionary (13): the CXL mailbox, or an Xaxia peer, in a session or (0) outside one. -/
inductive Way where
  | mailbox
  | xaxia (peer session : Nat)
  deriving DecidableEq, Repr

end Sys2Proof.Machine
end

