-- ==== Sys2Proof/Syntax.lean ====
section
/-! DEFINITION. The commands of the part: one constructor per row of the table of operations and events, with the
operands the row's rule gives it. An operand is data from outside; everything else a command needs it finds in State. -/

namespace Sys2Proof

open Sys2Proof.Machine

/-- A room whose tile or pass the Landing drains, and how the read of its accumulators ends (R119): 0 clean, 1 corrected,
2 uncorrectable. -/
structure DrainRead where
  /-- The back room. -/
  back : Bool
  /-- How the read ends. -/
  ecc : Nat
  deriving DecidableEq, Repr

/-- A path of the Landing whose tile is converted, and how its read of the accumulators ends (R119). -/
structure PathRead where
  /-- The path: both rooms' D and S, and the two copy engines. -/
  path : Nat
  /-- How the read ends. -/
  ecc : Nat
  deriving DecidableEq, Repr

/-- A bench and the cycles its row has taken (R286). -/
structure BenchRow where
  /-- The bench. -/
  bench : Nat
  /-- The row's cycles. -/
  cycles : Nat
  deriving DecidableEq, Repr

/-- A core of Glazia and how its read of the grain buffers ends (R364): the outcome as in DrainRead, and the sector it meets. -/
structure GrainRead where
  /-- The core. -/
  core : Nat
  /-- How the read ends. -/
  ecc : Nat
  /-- The sector of the buffer. -/
  sec : Nat
  deriving DecidableEq, Repr

/-- A command: an operation or event of the part. -/
inductive Instr where
  -- Letterbox, rooms and Landing commands (03 to 06)
  /-- LETTERBOX_DOORBELL: A doorbell of R213; while the Letterbox is gated it is dropped (R487). -/
  | letterboxDoorbell (data : Nat)
  /-- ENABLE: Queue command ENABLE (R211, R212); dropped while the Letterbox is gated (R487). -/
  | enable (q : Nat)
  /-- DISABLE: Queue command DISABLE (R211, R212); dropped while the Letterbox is gated (R487). -/
  | disable (q : Nat)
  /-- RESUME: Queue command RESUME (R211, R212); dropped while the Letterbox is gated (R487). -/
  | resume (q : Nat)
  /-- FLUSH: Queue command FLUSH (R211, R212); dropped while the Letterbox is gated (R487). -/
  | flush (q : Nat)
  /-- HEADER: Dispatch of a header letter (R181, R182). -/
  | header (q : Nat)
  /-- FRONT_PRODUCT: Dispatch of a letter of route 1 at the head of queue q, when it is the one the Letterbox chooses (R183, R205, R217). -/
  | frontProduct (q : Nat)
  /-- BACK_PRODUCT: Dispatch of a letter of route 2 at the head of queue q, when it is the one the Letterbox chooses (R183, R205, R217). -/
  | backProduct (q : Nat)
  /-- COPY_CONVERT: Dispatch of a letter of route 8 at the head of queue q, when it is the one the Letterbox chooses (R183, R205, R217). -/
  | copyConvert (q : Nat)
  /-- COPY_TRANSPOSE: Dispatch of a letter of route 9 at the head of queue q, when it is the one the Letterbox chooses (R183, R205, R217). -/
  | copyTranspose (q : Nat)
  /-- MARKER: Dispatch of a marker letter (R185). -/
  | marker (q : Nat)
  /-- DECODE_GATHER_TIMEOUT: A DECODE gather ends and its merged op is dispatched (R219). -/
  | decodeGatherTimeout
  /-- LETTER_START: A dispatched letter starts at a landing station (R38, R90, R152); fill is its PORCH_FILL_CYCLES. -/
  | letterStart (station : Nat) (fill : Nat)
  /-- SEGMENT_END: A lane of a room ends a segment and flushes it (R91, R111); ecc 1 or 2 is a Pantry error met (R119). -/
  | segmentEnd (back : Bool) (row : Nat) (col : Nat) (ecc : Nat)
  /-- FLUSH_HOLD_RELEASE: A held write-mode flush proceeds (R96). -/
  | flushHoldRelease (back : Bool) (cycles : Nat)
  /-- TILE_DONE: A room signals a tile (R94, R88); ecc 1 or 2 is a Pantry error its read met (R119). -/
  | tileDone (read : DrainRead) (cycles : Nat) (starve : Nat)
  /-- PASS_DONE: A pass of a long-sum letter ends (R124, R588); ecc as at TILE_DONE. -/
  | passDone (read : DrainRead)
  /-- TILE_CONVERSION_END: A Landing path ends the conversion of a tile (R159 and the triggers of 05, 09, 10); ecc as at TILE_DONE. -/
  | tileConversionEnd (read : PathRead)
  /-- KV_WAIT_TIMEOUT: A tile that waits for a frame runs out of time (R336). -/
  | kvWaitTimeout (path : Nat)
  /-- LETTER_COMPLETION: A letter completes: count part and record, in sequence order (R221 to R223). -/
  | letterCompletion (q : Nat) (seq : Nat)
  /-- LETTERBOX_NOTIFY_ACK: Notification pending bit n clears (R223), by a dictionary path or (none) by BAR0 (R540). -/
  | letterboxNotifyAck (w : Option Way) (n : Nat)
  /-- RESERVED_ROUTE: Dispatch of a letter with a reserved route, or read from a poisoned ring sector (R183, R205). -/
  | reservedRoute (q : Nat)
  -- Porch events (07)
  /-- MEMORY_PORT_GRANT: A memory port grants its best contender (R241, R545). -/
  | memoryPortGrant (port : Nat)
  /-- BURST_ARRIVAL: A read burst arrives in its buffer (R233, R248, R257). -/
  | burstArrival (thread : Nat) (taken : Nat) (ecc : Nat) (sec : Nat)
  -- Workshop commands (08)
  /-- SOFTMAX_BLOCK: Dispatch of a Workshop letter that names program 0x001 (R267, R273); its rows are computed tile by tile (R268). -/
  | softmaxBlock (q : Nat)
  /-- SOFTMAX_FINISH: Dispatch of a Workshop letter that names program 0x002 (R267, R273); its rows are computed tile by tile (R268). -/
  | softmaxFinish (q : Nat)
  /-- ATTN_COMBINE: Dispatch of a Workshop letter that names program 0x003 (R267, R273); its rows are computed tile by tile (R268). -/
  | attnCombine (q : Nat)
  /-- SOFTMAX_BWD: Dispatch of a Workshop letter that names program 0x004 (R267, R273); its rows are computed tile by tile (R268). -/
  | softmaxBwd (q : Nat)
  /-- RMSNORM: Dispatch of a Workshop letter that names program 0x010 (R267, R273); its rows are computed tile by tile (R268). -/
  | rmsnorm (q : Nat)
  /-- RMSNORM_BWD: Dispatch of a Workshop letter that names program 0x011 (R267, R273); its rows are computed tile by tile (R268). -/
  | rmsnormBwd (q : Nat)
  /-- LAYERNORM: Dispatch of a Workshop letter that names program 0x012 (R267, R273); its rows are computed tile by tile (R268). -/
  | layernorm (q : Nat)
  /-- GATED_SILU: Dispatch of a Workshop letter that names program 0x020 (R267, R273); its rows are computed tile by tile (R268). -/
  | gatedSilu (q : Nat)
  /-- GATED_SILU_BWD: Dispatch of a Workshop letter that names program 0x021 (R267, R273); its rows are computed tile by tile (R268). -/
  | gatedSiluBwd (q : Nat)
  /-- EW_AXPBY: Dispatch of a Workshop letter that names program 0x030 (R267, R273); its rows are computed tile by tile (R268). -/
  | ewAxpby (q : Nat)
  /-- TOPP_SELECT: Dispatch of a Workshop letter that names program 0x040 (R267, R273); its rows are computed tile by tile (R268). -/
  | toppSelect (q : Nat)
  /-- LIBRARY_SPECIFIC_PROGRAM: Dispatch of a Workshop letter whose program is none of the standard ones (R267, R273). -/
  | librarySpecificProgram (q : Nat)
  /-- WORKSHOP_TILE_DONE: The benches finish a tile (R268, R271); ecc 1 or 2 is a bench-store error (R285). -/
  | workshopTileDone (slot : Nat) (ecc : Nat)
  /-- OUTLIER_PRODUCTS_DONE: A tile's outlier contributions are complete (R277, R278). -/
  | outlierProductsDone (back : Bool) (wait : Nat)
  /-- BENCH_WATCHDOG: A row exceeds the budget (R286, R287). -/
  | benchWatchdog (row : BenchRow)
  /-- BENCH_TRAP: A bench program traps (R286, R287). -/
  | benchTrap (bench : Nat)
  /-- WS_LIB_LOAD: The write of WS_LIB_LOAD (R284). -/
  | wsLibLoad (w : Way) (data : List Byte)
  /-- LIB_INSTALL_DONE: Every bench has the new library (R284). -/
  | libInstallDone
  /-- OUTLIER_RESERVATION_APPLY: The outlier bench reservation takes effect (R279). -/
  | outlierReservationApply
  -- Glazia commands (11)
  /-- OPEN: OPEN (R355, R356, R369). -/
  | openUpdate (q : Nat)
  /-- PIECE: PIECE (R357). -/
  | piece (q : Nat)
  /-- CLOSE: CLOSE (R361). -/
  | close (q : Nat)
  /-- QUANT: QUANT (R371). -/
  | quant (q : Nat)
  /-- GZ_UNKNOWN_PROG: A Glazia letter of another program completes with GZ_STATE (R354). -/
  | gzUnknownProg (q : Nat)
  /-- GRAIN_DONE: A core finishes a grain (R374); mem is a memory error it met (R377). -/
  | grainDone (core : Nat) (cycles : Nat) (mem : Nat)
  /-- ADD: A core executes the word at its place when it is ADD (R346). -/
  | add (core : Nat)
  /-- SUB: A core executes the word at its place when it is SUB (R346). -/
  | sub (core : Nat)
  /-- MUL: A core executes the word at its place when it is MUL (R346). -/
  | mul (core : Nat)
  /-- FMA: A core executes the word at its place when it is FMA (R346). -/
  | fma (core : Nat)
  /-- LERP: A core executes the word at its place when it is LERP (R346). -/
  | lerp (core : Nat)
  /-- MIN: A core executes the word at its place when it is MIN (R346). -/
  | min (core : Nat)
  /-- MAX: A core executes the word at its place when it is MAX (R346). -/
  | max (core : Nat)
  /-- ABS: A core executes the word at its place when it is ABS (R346). -/
  | abs (core : Nat)
  /-- DIV: A core executes the word at its place when it is DIV (R346). -/
  | div (core : Nat)
  /-- SQRT: A core executes the word at its place when it is SQRT (R346). -/
  | sqrt (core : Nat)
  /-- SEL: A core executes the word at its place when it is SEL (R346). -/
  | sel (core : Nat)
  /-- LD: A core executes the word at its place when it is LD (R346). -/
  | ld (read : GrainRead)
  /-- ST: A core executes the word at its place when it is ST (R346). -/
  | st (core : Nat)
  /-- CVTSR: A core executes the word at its place when it is CVTSR (R346). -/
  | cvtsr (core : Nat)
  /-- CVTBF: A core executes the word at its place when it is CVTBF (R346). -/
  | cvtbf (core : Nat)
  /-- SPOWI: A core executes the word at its place when it is SPOWI (R346). -/
  | spowi (core : Nat)
  /-- BODY: The word that ends the prologue (R345). -/
  | body (core : Nat)
  /-- COMMIT: COMMIT writes the staged stores (R363 to R366). -/
  | commit (core : Nat)
  /-- GLAZIA_RULE_LOAD: The write of GLAZIA_RULE_LOAD (R348). -/
  | glaziaRuleLoad (w : Way) (data : List Byte)
  -- Peloton and export commands (12)
  /-- REDUCE_SCATTER: Dispatch of a collective letter REDUCE_SCATTER (R393 to R400). -/
  | reduceScatter (q : Nat)
  /-- ALL_GATHER: Dispatch of a collective letter ALL_GATHER (R393 to R400). -/
  | allGather (q : Nat)
  /-- BROADCAST: Dispatch of a collective letter BROADCAST (R393 to R400). -/
  | broadcast (q : Nat)
  /-- ALL_TO_ALL: Dispatch of a collective letter ALL_TO_ALL (R393 to R400). -/
  | allToAll (q : Nat)
  /-- RING_ROUND_START: A ring round or tree level starts (R309, R398, R589). -/
  | ringRoundStart (slot : Nat)
  /-- CONTRIB: A contribution frame arrives (R397, R403). -/
  | contrib (port : Nat) (head : Nat) (payload : List Byte) (poison : Bool)
  /-- PART: A part frame arrives (R411). -/
  | part (port : Nat) (head : Nat) (payload : List Byte) (poison : Bool)
  /-- LATE_FRAME: A LATE frame arrives (R408, R409). -/
  | lateFrame (port : Nat) (head : Nat) (payload : List Byte) (poison : Bool)
  /-- CREDIT: A credit frame arrives (R403). -/
  | credit (port : Nat) (head : Nat)
  /-- NOTICE: A notice frame arrives (R415). -/
  | notice (port : Nat) (head : Nat)
  /-- CHUNK_DEADLINE: A chunk's deadline expires (R406). -/
  | chunkDeadline (slot : Nat) (owner : Nat) (chunk : Nat) (level : Nat)
  /-- TAG_DISCARD: A frame whose TAG was not dispatched within 1 s is discarded (R397). -/
  | tagDiscard (slot : Nat)
  /-- UIO_TIMEOUT: A UIO write to a member times out (R414, R546). -/
  | uioTimeout (g : Nat) (m : Nat)
  /-- UIO_COMPLETION_ERROR: A UIO write to a member ends with an error (R414). -/
  | uioCompletionError (g : Nat) (m : Nat)
  /-- REJOIN: PELOTON_CMD REJOIN (R417). -/
  | rejoin (w : Way) (g : Nat) (m : Nat)
  /-- CLEAR_MISSES: PELOTON_CMD CLEAR_MISSES (R417). -/
  | clearMisses (w : Way) (g : Nat) (m : Nat)
  /-- EXPORT_AUTO_START: An AUTO export starts (R383); guest is the buddy's Guest room header as read. -/
  | exportAutoStart (guest : Nat)
  /-- EXPORT: An EXPORT letter (R383, R384). -/
  | exportBank (q : Nat) (guest : Nat)
  /-- GUEST_SEND: A GUEST_SEND letter (R419). -/
  | guestSend (q : Nat)
  /-- EXPORT_FRAME: An export stream frame arrives (R388, R389). -/
  | exportFrame (port : Nat) (head : Nat) (payload : List Byte) (poison : List Nat)
  /-- RESTORE_STREAM: A frame of an IMAGE stream arrives at an armed spare (R418). -/
  | restoreStream (port : Nat) (head : Nat) (payload : List Byte) (poison : List Nat)
  /-- EXPORT_ACK: The acknowledgement or refusal of an export arrives (R389). -/
  | exportAck (port : Nat) (head : Nat)
  -- KV page commands (10)
  /-- SHARE: SHARE (R333, R334), whole by a dictionary path, or (none) by the high half at the doorbell; reserved operations come here too. -/
  | share (w : Option Way) (lo : Nat) (hi : Nat)
  /-- FREE: FREE (R333, R334), by either path. -/
  | free (w : Option Way) (lo : Nat) (hi : Nat)
  /-- PAGE_CMD_LO: The low half of a page command is held (R541). -/
  | pageCmdLo (lo : Nat)
  -- Xaxia, mailbox, Tandem and object commands (13)
  /-- HELLO: HELLO (R454). -/
  | hello (peer : Nat) (msg : List Byte)
  /-- AUTH_START: AUTH phase 1 (R458). -/
  | authStart (peer : Nat) (msg : List Byte)
  /-- AUTH_PROOF: AUTH phase 2 (R458). -/
  | authProof (peer : Nat) (msg : List Byte)
  /-- AUTH_END: AUTH phase 3 (R458). -/
  | authEnd (peer : Nat) (msg : List Byte)
  /-- READ: READ (R453, R583). -/
  | read (peer : Nat) (msg : List Byte)
  /-- WRITE: WRITE (R453, R583); in the Pilot state the wake frame (R493). -/
  | write (peer : Nat) (msg : List Byte)
  /-- BLOCK_READ: BLOCK_READ (R456). -/
  | blockRead (peer : Nat) (msg : List Byte)
  /-- BLOCK_WRITE_BEGIN: BLOCK_WRITE phase 1 (R457). -/
  | blockWriteBegin (peer : Nat) (msg : List Byte)
  /-- BLOCK_WRITE_SEGMENT: BLOCK_WRITE phase 2 (R457). -/
  | blockWriteSegment (peer : Nat) (msg : List Byte)
  /-- BLOCK_WRITE_END: BLOCK_WRITE phase 3 (R457). -/
  | blockWriteEnd (peer : Nat) (msg : List Byte)
  /-- SNAPSHOT: SNAPSHOT (R462). -/
  | snapshot (peer : Nat) (msg : List Byte)
  /-- NOTIFY: A NOTIFY of source n is sent (R461). -/
  | notify (n : Nat)
  /-- NOTIFY_REPEAT: The NOTIFY of source n is repeated (R461). -/
  | notifyRepeat (n : Nat)
  /-- AUTH_START_TIMEOUT: A START without a PROOF is discarded (R458). -/
  | authStartTimeout (sid : Nat)
  /-- AUTH_LOCKOUT_END: A peer's lockout ends (R458). -/
  | authLockoutEnd (peer : Nat)
  /-- SESSION_IDLE_TIMEOUT: A session closes for idleness (R459, R467). -/
  | sessionIdleTimeout (sid : Nat)
  /-- BLOCK_TIMEOUT: A block transfer without a segment is discarded (R457). -/
  | blockTimeout (idx : Nat) (subIdx : Nat)
  /-- BLOCK_READ_COPY_EXPIRY: A peer's block-read copy is dropped (R456). -/
  | blockReadCopyExpiry (idx : Nat) (subIdx : Nat) (peer : Option Nat)
  /-- PLCA_FALLBACK: No beacon for 4 ms (R450). -/
  | plcaFallback
  /-- NEIGHBOUR_SOLICITATION: An IPv6 neighbour solicitation (R451). -/
  | neighbourSolicitation (peer : Nat) (target : Nat)
  /-- OD_READ: OD_READ (R465). -/
  | odRead (payload : List Byte)
  /-- OD_WRITE: OD_WRITE (R465). -/
  | odWrite (payload : List Byte)
  /-- OD_BLOCK_READ: OD_BLOCK_READ (R465). -/
  | odBlockRead (payload : List Byte)
  /-- OD_BLOCK_WRITE: OD_BLOCK_WRITE (R465). -/
  | odBlockWrite (payload : List Byte)
  /-- OD_SNAPSHOT: OD_SNAPSHOT (R465). -/
  | odSnapshot (payload : List Byte)
  /-- OD_AUTH: OD_AUTH (R467). -/
  | odAuth (payload : List Byte)
  /-- TANDEM_SWAP: The write of TANDEM_SWAP (R436, R440). -/
  | tandemSwap (w : Way) (data : List Byte)
  /-- SWAP_POINT: The swap point (R436, R437, R440). -/
  | swapPoint
  /-- TANDEM_COPY: The write of TANDEM_COPY (R441). -/
  | tandemCopy (w : Way) (data : List Byte)
  /-- CAL_USR_COMMIT: The write of CAL_USR_COMMIT (R447). -/
  | calUsrCommit (w : Way) (data : List Byte)
  /-- CAL_COMMIT_END: The trims are in flash (R447). -/
  | calCommitEnd
  /-- CAL_USR_RETRAIN: The write of CAL_USR_RETRAIN (R449). -/
  | calUsrRetrain (w : Way) (data : List Byte)
  /-- RECIPE_RING_TAIL: The write of RECIPE_RING_TAIL (R177). -/
  | recipeRingTail (w : Way) (data : List Byte)
  /-- GRAD_QUAR_TAIL: The write of GRAD_QUAR_TAIL (R311). -/
  | gradQuarTail (w : Way) (data : List Byte)
  /-- CELLAR_BANK_CURRENT: The write of CELLAR_BANK_CURRENT (R379). -/
  | cellarBankCurrent (w : Way) (data : List Byte)
  /-- OBJECT_WRITE: The write of an object (R432). -/
  | objectWrite (w : Way) (idx : Nat) (subIdx : Nat) (data : List Byte)
  -- Clock commands (14)
  /-- CLK_PLL_SRC: The write of a PLL's SRC (R479). -/
  | clkPllSrc (w : Way) (pll : Nat) (data : List Byte)
  /-- CLK_ENABLE: The write of CLK_ENABLE (R483, R484). -/
  | clkEnable (w : Way) (data : List Byte)
  /-- XTAL_GATE: A crystal judgement gate ends (R472, R475). -/
  | xtalGate (count : Nat)
  /-- REFCLK_GATE: A reference-clock gate ends (R473, R474). -/
  | refclkGate (clock : Nat) (count : Nat)
  /-- XTAL_MONITOR_GATE: A crystal monitor gate ends (R474, R475). -/
  | xtalMonitorGate (count : Nat)
  /-- XTAL_EDGE_MISSING: A crystal edge is missing (R475). -/
  | xtalEdgeMissing
  /-- XTAL_JUDGE_TIMEOUT: The crystal is not judged in 100 ms (R496). -/
  | xtalJudgeTimeout
  /-- FREEWHEEL: A PLL enters Freewheel (R480). -/
  | freewheel (pll : Nat)
  /-- CLK_FAILOVER_SWITCH: The Housekeeper moves a freewheeling PLL (R482). -/
  | clkFailoverSwitch (pll : Nat)
  /-- PLL_LOCKED: A relocking PLL locks (R479, R481). -/
  | pllLocked (pll : Nat)
  /-- CLK_IDLE_TIMEOUT: An idle station's clock stops (R486). -/
  | clkIdleTimeout (station : Nat)
  /-- THERMAL_SAMPLE: The thermal sample (R489). -/
  | thermalSample (raw : List Int)
  /-- POWER_METER_SAMPLE: The power sample (R531). -/
  | powerMeterSample (raw : List Nat) (input : Nat)
  -- Power, bring-up and reset commands (14, 17)
  /-- THERMTRIP: A sensor reaches 105 °C (R490). -/
  | thermtrip
  /-- PWR_HK_IDLE: The module has been idle (R492). -/
  | pwrHkIdle
  /-- PILOT: PWR_STATE_REQ 0x01 (R492, R494). -/
  | pilot (w : Way)
  /-- HOUSEKEEPING: PWR_STATE_REQ 0x02, in Pilot the wake frame (R492, R493). -/
  | housekeeping (w : Way)
  /-- SERVICE: PWR_STATE_REQ 0x03 (R492). -/
  | service (w : Way)
  /-- WAKE_TO_SERVICE: A demand or an inbound access wakes the module (R486, R492). -/
  | wakeToService (stations : List Nat)
  /-- PILOT_WAKE: The module wakes from Pilot (R492, R521). -/
  | pilotWake (cause : Nat)
  /-- REGULATOR_START: The regulators start and PWR_GOOD rises (R568). -/
  | regulatorStart
  /-- BS0_ENTRY: BS0 (R496, R551). -/
  | bs0Entry
  /-- BS1_ENTRY: BS1 (R498). -/
  | bs1Entry
  /-- BRINGUP_GO: The write of BRINGUP_GO (R499). -/
  | bringupGo (w : Way) (data : List Byte)
  /-- BS2_ENTRY: BS2 (R500, R501). -/
  | bs2Entry (atticFail : Bool) (cellarFail : Bool)
  /-- BS3_ENTRY: BS3 (R98, R501). -/
  | bs3Entry (frontBad : Bool) (backBad : Bool) (port1Bad : Bool)
  /-- FULL: RESET_CMD 0x02 (R502). -/
  | full (w : Way)
  /-- KEEP_HOUSE: RESET_CMD 0x01 (R502). -/
  | keepHouse (w : Way)
  /-- KEEP_HOUSE_PIN: KEEP_HOUSE# is held low (R502, R575). -/
  | keepHousePin
  /-- KEEP_HOUSE_RESET_BEGIN: The keep-house reset begins (R503 to R506). -/
  | keepHouseResetBegin
  /-- KEEP_HOUSE_RISE: KEEP_HOUSE# rises (R503). -/
  | keepHouseRise
  /-- COLD_START_BEGIN: The cold start begins (R502). -/
  | coldStartBegin
  /-- HART_WATCHDOG: A hart's watchdog expires (R507). -/
  | hartWatchdog (hart : Nat)
  /-- MAIN_INPUT_FAULT: The main input is out of range (R569). -/
  | mainInputFault
  /-- PWR_EN_FALL: PWR_EN falls (R490, R569). -/
  | pwrEnFall
  /-- AUX_INPUT_FAULT: The auxiliary input falls (R569). -/
  | auxInputFault
  /-- AUX_POWER_ON: The auxiliary input comes into range (R568, R450). -/
  | auxPowerOn (plca : Nat)
  -- Bellboard and Meter commands (15)
  /-- BELL_CLEAR: The write of BELL_CLEAR (R512). -/
  | bellClear (w : Way) (data : List Byte)
  /-- BELL_ACK: An acknowledgement of host vector v (R517), by a dictionary path or (none) by BAR0. -/
  | bellAck (w : Option Way) (v : Nat)
  /-- BELL_ROUTE: The write of a route (R513, R514). -/
  | bellRoute (w : Way) (n : Nat) (data : List Byte)
  /-- BELL_VECTOR: The write of a vector's limits (R515, R516). -/
  | bellVector (w : Way) (v : Nat) (data : List Byte)
  /-- BELL_GLOBAL_EN: The write of BELL_GLOBAL_EN (R520). -/
  | bellGlobalEn (w : Way) (data : List Byte)
  /-- BELL_DELIVER: A met target is delivered (R516, R519). -/
  | bellDeliver (target : Nat)
  /-- MSIX_UNMASK: A vector mask, or at 2,048 the function mask, clears (R519). -/
  | msixUnmask (v : Nat)
  /-- METER_SNAP: The write of METER_SNAP (R525, R527). -/
  | meterSnap (w : Way) (data : List Byte)
  /-- SNAPSHOT_EDGE: Edge E of the pending snapshot (R525, R526, R530). -/
  | snapshotEdge
  -- CXL, security and test-port commands (16, 17)
  /-- LINK_TRAINED: A port trains (R536). -/
  | linkTrained (port : Nat) (width : Nat) (rate : Nat)
  /-- LINK_RETRY: A port tries again (R536). -/
  | linkRetry (port : Nat)
  /-- LINK_DOWN: A port goes DOWN (R407, R537). -/
  | linkDown (port : Nat)
  /-- PERST_ASSERT: PERST# is asserted (R537). -/
  | perstAssert (port : Nat)
  /-- PERST_DEASSERT: PERST# is deasserted (R492, R537). -/
  | perstDeassert (port : Nat)
  /-- IDE_INTEGRITY_FAIL: A packet fails its integrity check (R547). -/
  | ideIntegrityFail (port : Nat)
  /-- INBOUND_WRITE: An inbound write (R539 to R546, R563). -/
  | inboundWrite (port : Nat) (path : Nat) (addr : Nat) (data : List Byte) (poison : Bool)
  /-- INBOUND_READ: An inbound read (R539 to R545, R563). -/
  | inboundRead (port : Nat) (path : Nat) (addr : Nat) (len : Nat)
  /-- BISNP_RESPONSE: The host answers a snoop (R545). -/
  | bisnpResponse (line : Nat)
  /-- SPDM_REQUEST: An SPDM request (R547, R557 to R559). -/
  | spdmRequest (path : Nat) (req : List Byte) (keyed : Bool)
  /-- SEC_SVN_COMMIT: The write of SEC_SVN_COMMIT (R552). -/
  | secSvnCommit (w : Way) (data : List Byte)
  /-- SEC_FW_COMMIT: The write of SEC_FW_COMMIT (R553). -/
  | secFwCommit (w : Way) (data : List Byte)
  /-- FW_WRITE_DONE: The flash write completes (R553). -/
  | fwWriteDone
  /-- SEC_OWNER_KEY_NEXT: The write of SEC_OWNER_KEY_NEXT (R554). -/
  | secOwnerKeyNext (w : Way) (data : List Byte)
  /-- SEC_DEBUG_UNLOCK: A whole unlock token (R556). -/
  | secDebugUnlock (w : Way) (token : List Byte)
  /-- RECOVERY_LOAD: RECOVERY_LOAD (R555). -/
  | recoveryLoad (images : List Byte)
  /-- EXTEST: EXTEST, EXTEST_PULSE or EXTEST_TRAIN (R577, R578). -/
  | extest (which : Nat) (pins : Nat)
  /-- TAP_RESET: The TAP is reset (R577). -/
  | tapReset
  /-- PATROL_SCRUB: The daily patrol scrub (R562, R564). -/
  | patrolScrub (ceAttic : Nat) (ceCellar : Nat) (ueAttic : List Nat) (ueCellar : List Nat)
  deriving DecidableEq, Repr

end Sys2Proof
end

