-- ==== Sys2Proof/Config.lean ====
section
/-! DEFINITION. The free values: what the spec leaves open. Each is a constant with no body, so nothing can be proved
of what it is; a claim about it holds for every value. -/

namespace Sys2Proof.Config

/-- A value the spec calls undefined or does not state, by the number of the draw (State.freeCtr). -/
opaque freeNat : Nat → Nat

/-- Which of the rounding orders a library's standard program takes, where the spec states the formula but not the
order of its roundings (08, R273): by program number. -/
opaque programChoice : Nat → Nat

/-- The result of a library program whose text is not part of the spec (08, R273): program number, row inputs, column. -/
opaque programValue : Nat → List (List (BitVec 32)) → Nat → BitVec 32

/-- The RSA, HMAC and hash primitives the spec names without defining (13, R458; 16, R549 to R559). -/
opaque hmac : List Byte → List Byte → List Byte
opaque sha512 : List Byte → List Byte
opaque signatureOk : Nat → List Byte → Bool
opaque encrypt : List Byte → List Byte → List Byte
opaque decrypt : List Byte → List Byte

/-- The bytes of an SPDM response (DMTF SPDM is not part of the spec; 16, R557): the path, its conversation so far and
the measurements of that moment. -/
opaque spdmResponse : Nat → List Byte → List (List Byte) → List Byte

/-- SHA-512 of the vendor key, in the Fuse box (16, R550), and the boot ROM that measurement 1 names (R558). -/
opaque vendorKeyHash : List Byte
opaque bootRom : List Byte

/-- What an image holds, where the spec gives no layout of it (08, R282 to R284; 16, R550): the value of a named
property of an image. -/
opaque imageField : Nat → List Byte → Nat
opaque imageBytes : Nat → List Byte → List Byte

/-- Values that differ from module to module (R581): factory calibration, serial number, MAC, straps, Fuse box. -/
opaque moduleValue : Nat → Nat

/-- The images a module holds in flash and ROM when it is first powered: firmware slot 0, 1 or the boot ROM 2. -/
opaque flashImage : Nat → List Byte

end Sys2Proof.Config
end

