-- ==== Sys2Proof/Machine/Num.lean ====
section
/-! DEFINITION. Exact numbers and the one rounding of the part (02, R40 to R50, R56, R67 to R69).
A value is a NaN, an infinity or an exact signed rational, so that every sum and product is formed exactly and
rounded once where the spec rounds it. -/

namespace Sys2Proof.Machine

/-- An exact value. `fin neg n d` is (−1)^neg · n/d with d ≠ 0; a signed zero has n = 0. -/
inductive Num where
  | nan (neg : Bool)
  | inf (neg : Bool)
  | fin (neg : Bool) (n d : Nat)
  deriving DecidableEq, Repr

namespace Num

/-- A finite value in lowest terms. -/
def mk (neg : Bool) (n d : Nat) : Num :=
  let g := Nat.gcd n d
  if g ≤ 1 then .fin neg n d else .fin neg (n / g) (d / g)

def zero : Num := .fin false 0 1
def one : Num := .fin false 1 1
def ofNat (n : Nat) : Num := .fin false n 1
def ofInt (i : Int) : Num := .fin (decide (i < 0)) i.natAbs 1

/-- The value 2^e. -/
def pow2 (e : Int) : Num :=
  match e with
  | .ofNat k => .fin false (2 ^ k) 1
  | .negSucc k => .fin false 1 (2 ^ (k + 1))

def isNeg : Num → Bool
  | .nan s => s
  | .inf s => s
  | .fin s _ _ => s

def isNaN : Num → Bool
  | .nan _ => true
  | _ => false

def isFinite : Num → Bool
  | .fin _ _ _ => true
  | _ => false

def isZero : Num → Bool
  | .fin _ n _ => n == 0
  | _ => false

def neg : Num → Num
  | .nan s => .nan (!s)
  | .inf s => .inf (!s)
  | .fin s n d => .fin (!s) n d

def abs : Num → Num
  | .nan _ => .nan false
  | .inf _ => .inf false
  | .fin _ n d => .fin false n d

/-- Exact sum. A NaN operand keeps its sign (R41); infinity minus infinity is a new NaN with sign 0. Of two NaN operands
the first gives the sign, here and in every other operation (DESIGN CHOICE, log 59: R41 speaks of one NaN received). -/
def add : Num → Num → Num
  | .nan s, _ => .nan s
  | _, .nan s => .nan s
  | .inf s, .inf t => if s == t then .inf s else .nan false
  | .inf s, _ => .inf s
  | _, .inf s => .inf s
  | .fin s n d, .fin t m e =>
    let x := n * e
    let y := m * d
    if s == t then mk s (x + y) (d * e)
    else if x == y then .fin false 0 1
    else if y < x then mk s (x - y) (d * e)
    else mk t (y - x) (d * e)

def sub (a b : Num) : Num := add a (match b with | .nan s => .nan s | c => c.neg)

/-- Exact product; zero times infinity is a new NaN with sign 0. -/
def mul : Num → Num → Num
  | .nan s, _ => .nan s
  | _, .nan s => .nan s
  | .inf s, .inf t => .inf (s != t)
  | .inf s, .fin t n _ => if n == 0 then .nan false else .inf (s != t)
  | .fin s n _, .inf t => if n == 0 then .nan false else .inf (s != t)
  | .fin s n d, .fin t m e => mk (s != t) (n * m) (d * e)

/-- Exact quotient; 0/0 and ∞/∞ are new NaNs with sign 0, and x/0 is an infinity. -/
def div : Num → Num → Num
  | .nan s, _ => .nan s
  | _, .nan s => .nan s
  | .inf _, .inf _ => .nan false
  | .inf s, .fin t _ _ => .inf (s != t)
  | .fin s _ _, .inf t => .fin (s != t) 0 1
  | .fin s n d, .fin t m e =>
    if m == 0 then (if n == 0 then .nan false else .inf (s != t))
    else mk (s != t) (n * e) (d * m)

/-- a·b + c with no rounding between. A NaN operand gives the result's sign, the first one's first (R41). -/
def fma (a b c : Num) : Num :=
  if a.isNaN || b.isNaN then mul a b else if c.isNaN then c else add (mul a b) c

/-- Strict order of two values that are no NaN (signed zeros are equal). -/
def lt : Num → Num → Bool
  | .nan _, _ => false
  | _, .nan _ => false
  | .inf s, .inf t => s && !t
  | .inf s, _ => s
  | _, .inf t => !t
  | .fin s n d, .fin t m e =>
    let x : Int := (if s then -1 else 1) * ((n * e : Nat) : Int)
    let y : Int := (if t then -1 else 1) * ((m * d : Nat) : Int)
    decide (x < y)

def le (a b : Num) : Bool := !a.isNaN && !b.isNaN && !lt b a

/-- Equality of values (signed zeros are equal, a NaN equals nothing). -/
def eqv (a b : Num) : Bool := le a b && le b a

def sum (l : List Num) : Num := l.foldl add zero

/-- floor(log2 (n/d)) for n ≠ 0. -/
def log2Floor (n d : Nat) : Int :=
  let k : Int := (n.log2 : Int) - (d.log2 : Int)
  let below : Bool := match k with
    | .ofNat j => n < d * 2 ^ j
    | .negSucc j => n * 2 ^ (j + 1) < d
  if below then k - 1 else k

/-- The smallest e with n/d ≤ 2^e, for n ≠ 0. -/
def log2Ceil (n d : Nat) : Int :=
  let e := log2Floor n d
  let exact : Bool := match e with
    | .ofNat j => n == d * 2 ^ j
    | .negSucc j => n * 2 ^ (j + 1) == d
  if exact then e else e + 1

/-- The quotient and remainder data of (n/d)/2^e: (q, r, den) with (n/d)/2^e = q + r/den. -/
def scaleQ (n d : Nat) (e : Int) : Nat × Nat × Nat :=
  match e with
  | .ofNat j => (n / (d * 2 ^ j), n % (d * 2 ^ j), d * 2 ^ j)
  | .negSucc j => (n * 2 ^ (j + 1) / d, n * 2 ^ (j + 1) % d, d)

/-- Round to nearest, ties to even (R43). -/
def rne (q r den : Nat) : Nat :=
  if 2 * r < den then q else if den < 2 * r then q + 1 else if q % 2 == 0 then q else q + 1

/-- How a rounding falls: to nearest even (R43), or stochastic with the element's 32-bit word (R68). -/
inductive Rounding where
  | nearest
  | stochastic (w : Nat)
  deriving DecidableEq, Repr

/-- One rounding of q + r/den to an integer. -/
def roundInt (m : Rounding) (q r den : Nat) : Nat :=
  match m with
  | .nearest => rne q r den
  | .stochastic w => if w < r * 2 ^ 32 / den then q + 1 else q

/-- The nearest integer, ties to even, of a finite magnitude. -/
def roundNat (n d : Nat) : Nat := rne (n / d) (n % d) d

end Num

/-- A floating-point format of R40: fraction bits, smallest normal exponent, bits of the largest finite magnitude,
bits of infinity (none for E4M3), bits of the NaN the module writes, width. -/
structure FFmt where
  width : Nat
  frac : Nat
  emin : Int
  maxFin : Nat
  infBits : Option Nat
  nanBits : Nat
  deriving DecidableEq, Repr

def fp32 : FFmt := ⟨32, 23, -126, 0x7F7FFFFF, some 0x7F800000, 0x7FC00000⟩
def bf16 : FFmt := ⟨16, 7, -126, 0x7F7F, some 0x7F80, 0x7FC0⟩
def fp16 : FFmt := ⟨16, 10, -14, 0x7BFF, some 0x7C00, 0x7E00⟩
def e4m3 : FFmt := ⟨8, 3, -6, 0x7E, none, 0x7F⟩
def e5m2 : FFmt := ⟨8, 2, -14, 0x7B, some 0x7C, 0x7E⟩
/-- FP64 is the Porch's softmax-statistics width and the long-sum pair's exact carrier; the same layout rule. -/
def fp64 : FFmt := ⟨64, 52, -1022, 0x7FEFFFFFFFFFFFFF, some 0x7FF0000000000000, 0x7FF8000000000000⟩

/-- The value of a bit pattern (R40). -/
def FFmt.decode (f : FFmt) (bits : Nat) : Num :=
  let s := 2 ^ (f.width - 1) ≤ bits % 2 ^ f.width
  let m := bits % 2 ^ (f.width - 1)
  if m ≤ f.maxFin then
    let e := m / 2 ^ f.frac
    let fr := m % 2 ^ f.frac
    let mant := if e == 0 then fr else 2 ^ f.frac + fr
    let ex : Int := f.emin + ((e - 1 : Nat) : Int) - (f.frac : Int)
    match ex with
    | .ofNat k => .fin s (mant * 2 ^ k) 1
    | .negSucc k => Num.mk s mant (2 ^ (k + 1))
  else if f.infBits == some m then .inf s
  else .nan s

/-- The magnitude of a finite value rounded as if the exponent range had no upper end, as bits (R44). -/
def FFmt.roundMag (f : FFmt) (m : Num.Rounding) (n d : Nat) : Nat :=
  if n == 0 then 0 else
  let e0 := Num.log2Floor n d
  let e := if e0 < f.emin then f.emin else e0
  let (q, r, den) := Num.scaleQ n d (e - (f.frac : Int))
  (e - f.emin).toNat * 2 ^ f.frac + Num.roundInt m q r den

/-- The outcome class of one converted element (R46), in the order of the table. -/
inductive Cls where
  | poisoned
  | nonfinite
  | saturated
  | underflow
  | ordinary
  deriving DecidableEq, Repr

/-- Conversion of an exact value into a floating-point format (R43 to R46): bits and outcome class.
R41 DEDUCED: the NaN that a NONSAT E4M3 overflow or an infinity writes carries the source's sign. -/
def FFmt.convert (f : FFmt) (sat : Bool) (m : Num.Rounding) (v : Num) : Nat × Cls :=
  let sgn (s : Bool) (b : Nat) : Nat := if s then 2 ^ (f.width - 1) + b else b
  match v with
  | .nan s => (sgn s f.nanBits, .nonfinite)
  | .inf s => (sgn s (f.infBits.getD f.nanBits), .nonfinite)
  | .fin s n d =>
    let b := f.roundMag m n d
    if f.maxFin < b then
      (sgn s (if sat then f.maxFin else f.infBits.getD f.nanBits), .saturated)
    else if b == 0 && n != 0 then (sgn s 0, .underflow)
    else (sgn s b, .ordinary)

/-- Arithmetic rounding (RNE, overflow to infinity) into a format's bits. -/
def FFmt.rnd (f : FFmt) (v : Num) : Nat := (f.convert false .nearest v).1

def f32val (b : F32) : Num := fp32.decode b.toNat
def f32rnd (v : Num) : F32 := BitVec.ofNat 32 (fp32.rnd v)
def bf16val (b : F16) : Num := bf16.decode b.toNat
def bf16rnd (v : Num) : F16 := BitVec.ofNat 16 (bf16.rnd v)

/-- A tensor scale must be positive, finite and normal (R38). -/
def scaleOk (b : F32) : Bool :=
  let n := b.toNat
  0x00800000 ≤ n && n ≤ 0x7F7FFFFF

/-- Conversion into INT8 (R48): always saturating to ±127. -/
def toInt8 (v : Num) : Int × Cls :=
  match v with
  | .nan _ => (0, .nonfinite)
  | .inf s => (if s then -127 else 127, .nonfinite)
  | .fin s n d =>
    let q := Num.roundNat n d
    if 127 < q then (if s then -127 else 127, .saturated)
    else if q == 0 && n != 0 then (0, .underflow)
    else (if s then -(q : Int) else q, .ordinary)

/-- Conversion into INT32 (R50): always saturating, NaN to 0. The Bool says the source was not finite. -/
def toInt32 (v : Num) : Int × Bool :=
  let lo : Int := -2147483648
  let hi : Int := 2147483647
  match v with
  | .nan _ => (0, true)
  | .inf s => (if s then lo else hi, true)
  | .fin s n d =>
    let q : Int := Num.roundNat n d
    let x := if s then -q else q
    (if x < lo then lo else if hi < x then hi else x, false)

/-- Two's complement of a w-bit field. -/
def signed (w n : Nat) : Int :=
  if 2 ^ (w - 1) ≤ n % 2 ^ w then ((n % 2 ^ w : Nat) : Int) - ((2 ^ w : Nat) : Int) else ((n % 2 ^ w : Nat) : Int)

/-- The w-bit field of an integer. -/
def unsigned (w : Nat) (i : Int) : Nat := (i % ((2 ^ w : Nat) : Int)).toNat

/-- floor of the square root, by bits from the top: structural on the number of bits. -/
def isqrtGo (n : Nat) : Nat → Nat → Nat
  | 0, acc => acc
  | k + 1, acc =>
    let c := acc + 2 ^ k
    isqrtGo n k (if c * c ≤ n then c else acc)

def isqrt (n : Nat) : Nat := isqrtGo n (n.log2 / 2 + 1) 0

/-- The square root rounded once to FP32 (RNE). The root is taken of n/d scaled by 4^k with enough bits that the
floor and a sticky bit decide the rounding exactly. -/
def sqrtF32 (v : Num) : F32 :=
  match v with
  | .nan s => f32rnd (.nan s)
  | .inf s => if s then f32rnd (.nan false) else f32rnd (.inf false)
  | .fin s n d =>
    if n == 0 then f32rnd (.fin s 0 1)
    else if s then f32rnd (.nan false)
    else
      -- n/d = x / 4^300 with x = n·4^300/d, exact for dyadic FP32 sources
      let x := n * 4 ^ 300 / d
      let r := isqrt x
      -- a sticky half unit below any rounding position keeps the nearest-even decision exact
      let num := if r * r == x then 2 * r else 2 * r + 1
      f32rnd (Num.mk false num (2 * 2 ^ 300))

/-- The Philox-4×32-10 rounds (R72's listing): counter words, key words, rounds left. -/
def philoxGo : Nat → Nat × Nat × Nat × Nat → Nat → Nat → Nat × Nat × Nat × Nat
  | 0, c, _, _ => c
  | r + 1, (c0, c1, c2, c3), k0, k1 =>
    let p0 := 0xD2511F53 * c0
    let p1 := 0xCD9E8D57 * c2
    let hi0 := p0 / 2 ^ 32
    let lo0 := p0 % 2 ^ 32
    let hi1 := p1 / 2 ^ 32
    let lo1 := p1 % 2 ^ 32
    philoxGo r ((hi1 ^^^ c1 ^^^ k0), lo1, (hi0 ^^^ c3 ^^^ k1), lo0)
      ((k0 + 0x9E3779B9) % 2 ^ 32) ((k1 + 0xBB67AE85) % 2 ^ 32)

/-- The random word of element i (R69). -/
def srWord (seed purpose substep tensorId step i : Nat) : Nat :=
  let q := i / 4
  let c0 := q % 2 ^ 32
  let c1 := q / 2 ^ 32 % 2 ^ 16 + purpose % 256 * 2 ^ 16 + substep % 256 * 2 ^ 24
  let (w0, w1, w2, w3) := philoxGo 10 (c0, c1, tensorId % 2 ^ 32, step % 2 ^ 32) (seed % 2 ^ 32) (seed / 2 ^ 32 % 2 ^ 32)
  match i % 4 with
  | 0 => w0
  | 1 => w1
  | 2 => w2
  | _ => w3

/-- CRC-32C by bits. PRESUMED (outside the spec): reflected polynomial 0x82F63B78, initial and final value all ones. -/
def crcBits : Nat → Nat → Nat
  | 0, c => c
  | k + 1, c => crcBits k (if c % 2 == 1 then (c / 2) ^^^ 0x82F63B78 else c / 2)

def crcStep (c : Nat) (b : Byte) : Nat := crcBits 8 (c ^^^ b.toNat)

def crcStart : Nat := 0xFFFFFFFF

def crc32c (bs : List Byte) : Nat := (bs.foldl crcStep crcStart) ^^^ 0xFFFFFFFF

end Sys2Proof.Machine
end

