-- ==== Sys2Proof/Machine/Assoc.lean ====
section
/-! DEFINITION. Sorted association lists and sorted sets in one canonical form: keys strictly rising, no entry that
equals the default. Memory, registers and counters are held in them. -/

namespace Sys2Proof.Machine

/-- Look a key up; an unlisted key reads as the default. -/
def aget {α : Type} (d : α) : List (Nat × α) → Nat → α
  | [], _ => d
  | (k, v) :: t, a => if a == k then v else aget d t a

/-- Put a key in its place. -/
def ains {α : Type} : List (Nat × α) → Nat → α → List (Nat × α)
  | [], a, v => [(a, v)]
  | (k, w) :: t, a, v => if a < k then (a, v) :: (k, w) :: t else if a = k then (a, v) :: t else (k, w) :: ains t a v

/-- Write a key, keeping the canonical form (writing the default removes the entry). -/
def aset {α : Type} [DecidableEq α] (d : α) (l : List (Nat × α)) (a : Nat) (v : α) : List (Nat × α) :=
  if v = d then l.filter fun x => x.1 != a else ains l a v

/-- The canonical form: keys strictly rising from lo, no default value. -/
def awfFrom {α : Type} [DecidableEq α] (d : α) : Nat → List (Nat × α) → Bool
  | _, [] => true
  | lo, (k, v) :: t => decide (lo ≤ k) && decide (v ≠ d) && awfFrom d (k + 1) t

def awf {α : Type} [DecidableEq α] (d : α) (l : List (Nat × α)) : Bool := awfFrom d 0 l

/-- A set of numbers as a strictly rising list. -/
def sadd : List Nat → Nat → List Nat
  | [], a => [a]
  | k :: t, a => if a < k then a :: k :: t else if a = k then k :: t else k :: sadd t a

def sdel (l : List Nat) (a : Nat) : List Nat := l.filter fun k => k != a

def swfFrom : Nat → List Nat → Bool
  | _, [] => true
  | lo, k :: t => decide (lo ≤ k) && swfFrom (k + 1) t

def swf (l : List Nat) : Bool := swfFrom 0 l

/-- Little-endian bytes of a number. -/
def leBytes : Nat → Nat → List Byte
  | 0, _ => []
  | n + 1, v => BitVec.ofNat 8 v :: leBytes n (v / 256)

/-- The number of little-endian bytes. -/
def ofBytes : List Byte → Nat
  | [] => 0
  | b :: t => b.toNat + 256 * ofBytes t

/-- Bits [hi:lo] of a number. -/
def bits (v lo width : Nat) : Nat := v / 2 ^ lo % 2 ^ width

/-- Bit i of a number. -/
def bit (v i : Nat) : Bool := v / 2 ^ i % 2 == 1

/-- ⌈a/b⌉. -/
def cdiv (a b : Nat) : Nat := (a + b - 1) / b

namespace Mem

def empty : Mem := ⟨[], []⟩

/-- One byte; a byte that nothing has written reads as zero (DESIGN CHOICE, log 1). -/
def byte (m : Mem) (a : Nat) : Byte := aget 0 m.cells a

def bytes (m : Mem) : Nat → Nat → List Byte
  | _, 0 => []
  | a, n + 1 => m.byte a :: m.bytes (a + 1) n

/-- Is the sector of a byte poisoned? -/
def poisonedAt (m : Mem) (a : Nat) : Bool := m.poison.contains (a / 32)

/-- Is any sector of n bytes poisoned? -/
def poisonedRange (m : Mem) (a n : Nat) : Bool :=
  n != 0 && m.poison.any fun p => decide (a / 32 ≤ p) && decide (p ≤ (a + n - 1) / 32)

/-- Store bytes, without touching poison marks. -/
def store (m : Mem) : Nat → List Byte → Mem
  | _, [] => m
  | a, b :: t => store { m with cells := aset 0 m.cells a b } (a + 1) t

def storeCells (m : Mem) : List Host.Cell → Mem
  | [] => m
  | (a, b) :: t => storeCells { m with cells := aset 0 m.cells a b } t

def markPoison (m : Mem) (sector : Nat) : Mem := { m with poison := sadd m.poison sector }
def clearPoison (m : Mem) (sector : Nat) : Mem := { m with poison := sdel m.poison sector }

/-- Poisoned sectors that a run of n bytes from a covers whole lose their mark; a partial write leaves it (R561). -/
def healRange (m : Mem) (a n : Nat) : Mem :=
  { m with poison := m.poison.filter fun p => !(decide (a ≤ 32 * p) && decide (32 * p + 32 ≤ a + n)) }

/-- A write of a run of bytes (R561). -/
def write (m : Mem) (a : Nat) (bs : List Byte) : Mem := (m.healRange a bs.length).store a bs

/-- A write of many bytes at once: a sector that the set covers whole loses its mark. -/
def writeCells (m : Mem) (cs : List Host.Cell) : Mem :=
  let covered (p : Nat) : Bool :=
    (List.range 32).all fun i => cs.any fun c => c.1 == 32 * p + i
  ({ m with poison := m.poison.filter fun p => !covered p } : Mem).storeCells cs

def nat (m : Mem) (a n : Nat) : Nat := ofBytes (m.bytes a n)

def writeNat (m : Mem) (a n v : Nat) : Mem := m.write a (leBytes n v)

/-- The canonical form of one memory. -/
def wf (m : Mem) : Bool := awf (0 : Byte) m.cells && swf m.poison

end Mem

end Sys2Proof.Machine
end

