-- ==== Sys2Proof/Machine/Objects.lean ====
section
/-! DEFINITION. The object dictionary's table: every object's type, size, access right, default and stated range
(13, R425 to R431, and the object tables of every chapter). An object's key is 256 · index + subindex. -/

namespace Sys2Proof.Machine

/-- Access rights of R431, in the order of their codes. -/
inductive Access where
  | const
  | ro
  | rw
  | wo
  | rws
  | rwb
  | rwk
  deriving DecidableEq, Repr

/-- The stated range of an object's values (R584 gives the abort of each kind). -/
inductive Chk where
  | any
  | range (lo hi : Nat)
  | srange (lo hi : Int)
  | codes (l : List Nat)
  | align (n : Nat)
  | pow2 (lo hi : Nat) (zero : Bool)
  | trigger
  deriving DecidableEq, Repr

/-- One dictionary object. -/
structure Obj where
  ty : Nat
  size : Nat
  acc : Access
  dflt : Nat
  chk : Chk
  deriving DecidableEq, Repr

/-- The key of an index and subindex. -/
def okey (idx sub : Nat) : Nat := 256 * idx + sub

def objRows0 : List (Nat × Obj) := [
  (0x0000000, { ty := 12, size := 16, acc := .const, dflt := 0x6177697A6C6148, chk := .any }),  -- ID_VENDOR
  (0x0000100, { ty := 12, size := 16, acc := .const, dflt := 0x3631422D34595A48, chk := .any }),  -- ID_ORDERING_CODE
  (0x0000200, { ty := 2, size := 1, acc := .const, dflt := 18, chk := .any }),  -- ID_STEPPING
  (0x0000300, { ty := 12, size := 16, acc := .const, dflt := 0, chk := .any }),  -- ID_SERIAL
  (0x0000400, { ty := 2, size := 1, acc := .const, dflt := 67, chk := .any }),  -- ID_ISA_NATIVE
  (0x0000500, { ty := 2, size := 1, acc := .const, dflt := 2, chk := .any }),  -- ID_ISA_COMPAT
  (0x0000501, { ty := 2, size := 1, acc := .const, dflt := 50, chk := .any }),  -- ID_ISA_COMPAT_LO
  (0x0000502, { ty := 2, size := 1, acc := .const, dflt := 53, chk := .any }),  -- ID_ISA_COMPAT_HI
  (0x0100000, { ty := 2, size := 1, acc := .ro, dflt := 1, chk := .any }),  -- CLK_SRC_READY
  (0x0100100, { ty := 2, size := 1, acc := .ro, dflt := 0, chk := .any }),  -- CLK_PILOT_SRC
  (0x0100200, { ty := 3, size := 2, acc := .rw, dflt := 150, chk := .range 20 500 }),  -- CLK_XTAL_WINDOW
  (0x0100300, { ty := 2, size := 1, acc := .rw, dflt := 1, chk := .codes [0, 1] }),  -- CLK_FAILOVER
  (0x0100400, { ty := 2, size := 1, acc := .rw, dflt := 4, chk := .range 2 8 }),  -- CLK_CBUS_DIV
  (0x0101000, { ty := 2, size := 1, acc := .wo, dflt := 0, chk := .range 1 2 }),  -- RESET_CMD
  (0x0101100, { ty := 2, size := 1, acc := .ro, dflt := 1, chk := .any }),  -- RESET_CAUSE
  (0x0101200, { ty := 2, size := 1, acc := .ro, dflt := 0, chk := .any }),  -- BRINGUP_STAGE
  (0x0101300, { ty := 1, size := 1, acc := .rw, dflt := 0, chk := .any }),  -- BRINGUP_HOLD
  (0x0101400, { ty := 2, size := 1, acc := .wo, dflt := 0, chk := .trigger }),  -- BRINGUP_GO
  (0x0101500, { ty := 4, size := 4, acc := .ro, dflt := 0, chk := .any }),  -- BRINGUP_FAULTS
  (0x0102000, { ty := 4, size := 4, acc := .rw, dflt := 15, chk := .any }),  -- CLK_ENABLE
  (0x0102100, { ty := 4, size := 4, acc := .ro, dflt := 15, chk := .any }),  -- CLK_RUNNING
  (0x0103000, { ty := 4, size := 4, acc := .rws, dflt := 200, chk := .range 0 1000000 }),  -- CLK_IDLE_TIMEOUT_US
  (0x0103100, { ty := 4, size := 4, acc := .rws, dflt := 1000, chk := .range 0 3600000 }),  -- PWR_HK_IDLE_MS
  (0x0103200, { ty := 2, size := 1, acc := .ro, dflt := 1, chk := .any }),  -- PWR_STATE
  (0x0103300, { ty := 2, size := 1, acc := .wo, dflt := 0, chk := .codes [1, 2, 3] }),  -- PWR_STATE_REQ
  (0x0103400, { ty := 2, size := 1, acc := .ro, dflt := 0, chk := .any }),  -- PWR_WAKE_CAUSE
  (0x0104000, { ty := 2, size := 1, acc := .ro, dflt := 0, chk := .any }),  -- ROOM_FRONT_MODE
  (0x0104100, { ty := 2, size := 1, acc := .ro, dflt := 0, chk := .any }),  -- ROOM_BACK_MODE
  (0x0105000, { ty := 7, size := 2, acc := .ro, dflt := 0, chk := .any }),  -- THERM_MAX
  (0x0105100, { ty := 2, size := 1, acc := .ro, dflt := 0, chk := .any }),  -- THERM_LEVEL
  (0x0110000, { ty := 2, size := 1, acc := .const, dflt := 5, chk := .any }),  -- CLK_PLL
  (0x0110001, { ty := 2, size := 1, acc := .rw, dflt := 1, chk := .codes [0, 1, 2, 3] }),  -- CLK_PLL_SRC
  (0x0110002, { ty := 3, size := 2, acc := .rw, dflt := 0, chk := .any }),  -- CLK_PLL_MAX_MHZ
  (0x0110003, { ty := 3, size := 2, acc := .ro, dflt := 0, chk := .any }),  -- CLK_PLL_MHZ
  (0x0110004, { ty := 2, size := 1, acc := .ro, dflt := 0, chk := .any }),  -- CLK_PLL_STATE
  (0x0110005, { ty := 3, size := 2, acc := .const, dflt := 0, chk := .any }),  -- CLK_PLL_FLOOR_MHZ
  (0x0204000, { ty := 7, size := 2, acc := .const, dflt := 15, chk := .any }),  -- CAL_FAC_LANE_MARGIN_MIN_PS
  (0x0300000, { ty := 2, size := 1, acc := .wo, dflt := 0, chk := .trigger }),  -- TANDEM_SWAP
  (0x0300100, { ty := 2, size := 1, acc := .wo, dflt := 0, chk := .trigger }),  -- TANDEM_COPY
  (0x0300200, { ty := 2, size := 1, acc := .ro, dflt := 0, chk := .any }) ]  -- TANDEM_STATE

def objRows1 : List (Nat × Obj) := [
  (0x0300300, { ty := 4, size := 4, acc := .ro, dflt := 0, chk := .any }),  -- TANDEM_SWAP_COUNT
  (0x0300400, { ty := 5, size := 8, acc := .ro, dflt := 0, chk := .any }),  -- TANDEM_SWAP_TICK
  (0x0300500, { ty := 1, size := 1, acc := .ro, dflt := 0, chk := .any }),  -- TANDEM_STOKER_DIRTY
  (0x0400000, { ty := 5, size := 8, acc := .rwb, dflt := 0, chk := .align (64 * 2 ^ 20) }),  -- LETTERBOX_CTX_BASE
  (0x0401000, { ty := 5, size := 8, acc := .wo, dflt := 0, chk := .any }),  -- LETTERBOX_DOORBELL
  (0x0401100, { ty := 5, size := 8, acc := .wo, dflt := 0, chk := .any }),  -- LETTERBOX_QUEUE_CMD
  (0x0401800, { ty := 4, size := 4, acc := .rws, dflt := 1250, chk := .range 1 250000 }),  -- LETTERBOX_DECODE_GATHER_TICKS
  (0x0402000, { ty := 5, size := 8, acc := .rws, dflt := 0, chk := .align 32 }),  -- LETTERBOX_SCALESET_BASE
  (0x0402100, { ty := 4, size := 4, acc := .rws, dflt := 0, chk := .range 0 1048576 }),  -- LETTERBOX_SCALESET_COUNT
  (0x0403100, { ty := 13, size := 32, acc := .ro, dflt := 0, chk := .any }),  -- LETTERBOX_NOTIFY_PENDING
  (0x0403200, { ty := 2, size := 1, acc := .wo, dflt := 0, chk := .any }),  -- LETTERBOX_NOTIFY_ACK
  (0x0404000, { ty := 2, size := 1, acc := .const, dflt := 2, chk := .any }),  -- PORCH_STAGE_FRONT
  (0x0404001, { ty := 4, size := 4, acc := .rws, dflt := 0, chk := .any }),  -- PORCH_STAGE_FRONT_BASE
  (0x0404002, { ty := 4, size := 4, acc := .rws, dflt := 0, chk := .any }),  -- PORCH_STAGE_FRONT_SIZE
  (0x0404100, { ty := 2, size := 1, acc := .const, dflt := 2, chk := .any }),  -- PORCH_STAGE_BACK
  (0x0404101, { ty := 4, size := 4, acc := .rws, dflt := 0, chk := .any }),  -- PORCH_STAGE_BACK_BASE
  (0x0404102, { ty := 4, size := 4, acc := .rws, dflt := 0, chk := .any }),  -- PORCH_STAGE_BACK_SIZE
  (0x0406000, { ty := 3, size := 2, acc := .ro, dflt := 0, chk := .any }),  -- WS_LIB_VERSION
  (0x0406100, { ty := 14, size := 16777216, acc := .rwk, dflt := 0, chk := .any }),  -- WS_LIB_IMAGE
  (0x0406200, { ty := 2, size := 1, acc := .wo, dflt := 0, chk := .trigger }),  -- WS_LIB_LOAD
  (0x0406300, { ty := 2, size := 1, acc := .ro, dflt := 0, chk := .any }),  -- WS_LIB_STATE
  (0x0406400, { ty := 3, size := 2, acc := .ro, dflt := 0, chk := .any }),  -- WS_LIB_PROGRAMS
  (0x0406500, { ty := 2, size := 1, acc := .rws, dflt := 0, chk := .range 0 64 }),  -- WS_OUTLIER_BENCHES
  (0x0406600, { ty := 4, size := 4, acc := .rws, dflt := 1048576, chk := .range 4096 4294967295 }),  -- WS_ROW_BUDGET
  (0x0406800, { ty := 2, size := 1, acc := .const, dflt := 5, chk := .any }),  -- WS_FAULT_INFO
  (0x0406801, { ty := 2, size := 1, acc := .ro, dflt := 0, chk := .any }),  -- WS_FAULT_CAUSE
  (0x0406802, { ty := 3, size := 2, acc := .ro, dflt := 0, chk := .any }),  -- WS_FAULT_BENCH
  (0x0406803, { ty := 3, size := 2, acc := .ro, dflt := 0, chk := .any }),  -- WS_FAULT_PROG
  (0x0406804, { ty := 4, size := 4, acc := .ro, dflt := 0, chk := .any }),  -- WS_FAULT_QUEUE
  (0x0406805, { ty := 4, size := 4, acc := .ro, dflt := 0, chk := .any }),  -- WS_FAULT_SEQ
  (0x0410000, { ty := 2, size := 1, acc := .const, dflt := 3, chk := .any }),  -- LETTERBOX_SHARD_AXIS
  (0x0410001, { ty := 4, size := 4, acc := .rws, dflt := 1, chk := .any }),  -- LETTERBOX_SHARD_PARTS
  (0x0410002, { ty := 4, size := 4, acc := .rws, dflt := 0, chk := .any }),  -- LETTERBOX_SHARD_INDEX
  (0x0410003, { ty := 4, size := 4, acc := .rws, dflt := 1, chk := .any }),  -- LETTERBOX_SHARD_CYCLIC
  (0x0500200, { ty := 5, size := 8, acc := .rws, dflt := 0, chk := .any }),  -- CASSETTE_SR_SEED
  (0x0501000, { ty := 5, size := 8, acc := .rws, dflt := 0, chk := .align 64 }),  -- CASSETTE_HIST_BASE
  (0x0501100, { ty := 4, size := 4, acc := .rws, dflt := 0, chk := .range 0 65535 }),  -- CASSETTE_HIST_COUNT
  (0x0501800, { ty := 5, size := 8, acc := .rws, dflt := 0, chk := .align 32 }),  -- RECIPE_RING_BASE
  (0x0501900, { ty := 3, size := 2, acc := .rws, dflt := 256, chk := .pow2 16 4096 false }),  -- RECIPE_RING_SIZE
  (0x0501A00, { ty := 4, size := 4, acc := .ro, dflt := 0, chk := .any }) ]  -- RECIPE_RING_HEAD

def objRows2 : List (Nat × Obj) := [
  (0x0501B00, { ty := 4, size := 4, acc := .rw, dflt := 0, chk := .any }),  -- RECIPE_RING_TAIL
  (0x0501C00, { ty := 4, size := 4, acc := .ro, dflt := 0, chk := .any }),  -- RECIPE_DROPS
  (0x0502000, { ty := 6, size := 1, acc := .rws, dflt := 0, chk := .srange (-64) 63 }),  -- CASSETTE_GRAD_EXP
  (0x0502800, { ty := 5, size := 8, acc := .rws, dflt := 0, chk := .align 32 }),  -- GRAD_QUAR_BASE
  (0x0502900, { ty := 3, size := 2, acc := .rws, dflt := 0, chk := .pow2 16 4096 true }),  -- GRAD_QUAR_SIZE
  (0x0502A00, { ty := 4, size := 4, acc := .ro, dflt := 0, chk := .any }),  -- GRAD_QUAR_HEAD
  (0x0502B00, { ty := 4, size := 4, acc := .rw, dflt := 0, chk := .any }),  -- GRAD_QUAR_TAIL
  (0x0502C00, { ty := 4, size := 4, acc := .ro, dflt := 0, chk := .any }),  -- GRAD_QUAR_DROPS
  (0x0510000, { ty := 2, size := 1, acc := .const, dflt := 16, chk := .any }),  -- CASSETTE_ENTRY
  (0x0510001, { ty := 4, size := 4, acc := .rws, dflt := 19, chk := .any }),  -- CASSETTE_MODE
  (0x0510002, { ty := 3, size := 2, acc := .rws, dflt := 0, chk := .any }),  -- CASSETTE_WIDTHS
  (0x0510003, { ty := 6, size := 1, acc := .rws, dflt := 0, chk := .any }),  -- CASSETTE_GEAR
  (0x0510004, { ty := 4, size := 4, acc := .rws, dflt := 64, chk := .any }),  -- CASSETTE_SAT_LIMIT
  (0x0510005, { ty := 2, size := 1, acc := .rws, dflt := 2, chk := .range 0 7 }),  -- CASSETTE_REPLAY_LIMIT
  (0x0510006, { ty := 2, size := 1, acc := .rws, dflt := 1, chk := .range 0 7 }),  -- CASSETTE_MARGIN
  (0x0510007, { ty := 2, size := 1, acc := .rws, dflt := 4, chk := .range 0 16 }),  -- CASSETTE_OUT_CAP
  (0x0510008, { ty := 2, size := 1, acc := .rws, dflt := 2, chk := .range 0 4 }),  -- CASSETTE_OUT_PER_BLOCK
  (0x0510009, { ty := 2, size := 1, acc := .rws, dflt := 3, chk := .range 1 15 }),  -- CASSETTE_OUT_GAP
  (0x051000A, { ty := 3, size := 2, acc := .rws, dflt := 65535, chk := .any }),  -- CASSETTE_ZB_MAX
  (0x051000B, { ty := 3, size := 2, acc := .rws, dflt := 0, chk := .any }),  -- CASSETTE_SB_MAX
  (0x051000C, { ty := 2, size := 1, acc := .rws, dflt := 4, chk := .range 1 15 }),  -- CASSETTE_WINDOW_LETTERS
  (0x051000D, { ty := 2, size := 1, acc := .rws, dflt := 32, chk := .range 1 64 }),  -- CASSETTE_OPSHIFT
  (0x051000E, { ty := 10, size := 4, acc := .rws, dflt := 0x3727C5AC, chk := .any }),  -- CASSETTE_UW_LO
  (0x051000F, { ty := 10, size := 4, acc := .rws, dflt := 0x3C23D70A, chk := .any }),  -- CASSETTE_UW_HI
  (0x0510010, { ty := 4, size := 4, acc := .rws, dflt := 0, chk := .any }),  -- CASSETTE_RSV10
  (0x0600000, { ty := 2, size := 1, acc := .ro, dflt := 0, chk := .any }),  -- GLAZIA_STATE
  (0x0600100, { ty := 5, size := 8, acc := .ro, dflt := 0, chk := .any }),  -- GLAZIA_STEP
  (0x0601000, { ty := 5, size := 8, acc := .rws, dflt := 0, chk := .align 256 }),  -- GLAZIA_GROUP_BASE
  (0x0601100, { ty := 3, size := 2, acc := .rws, dflt := 0, chk := .range 0 4096 }),  -- GLAZIA_GROUP_COUNT
  (0x0601200, { ty := 13, size := 512, acc := .rws, dflt := 0, chk := .any }),  -- GLAZIA_FROZEN
  (0x0601300, { ty := 13, size := 512, acc := .rws, dflt := 0, chk := .any }),  -- GLAZIA_MASKED
  (0x0601400, { ty := 5, size := 8, acc := .rws, dflt := 0, chk := .any }),  -- GLAZIA_MASK_BASE
  (0x0602000, { ty := 14, size := 65536, acc := .rw, dflt := 0, chk := .any }),  -- GLAZIA_RULE_IMAGE
  (0x0602100, { ty := 2, size := 1, acc := .wo, dflt := 0, chk := .trigger }),  -- GLAZIA_RULE_LOAD
  (0x0602200, { ty := 3, size := 2, acc := .ro, dflt := 0, chk := .any }),  -- GLAZIA_RULE_PRESENT
  (0x0603000, { ty := 6, size := 1, acc := .rws, dflt := 224, chk := .any }),  -- GLAZIA_GEAR_MIN
  (0x0603100, { ty := 6, size := 1, acc := .rws, dflt := 31, chk := .any }),  -- GLAZIA_GEAR_MAX
  (0x0604000, { ty := 13, size := 128, acc := .ro, dflt := 0, chk := .any }),  -- GLAZIA_UW_EXCURSIONS
  (0x0604100, { ty := 14, size := 4096, acc := .ro, dflt := 0, chk := .any }),  -- GLAZIA_UW_RATIO
  (0x0700000, { ty := 2, size := 1, acc := .rwb, dflt := 3, chk := .range 2 3 }) ]  -- CELLAR_BANK_COUNT

def objRows3 : List (Nat × Obj) := [
  (0x0700100, { ty := 2, size := 1, acc := .rw, dflt := 0, chk := .any }),  -- CELLAR_BANK_CURRENT
  (0x0700200, { ty := 5, size := 8, acc := .rwb, dflt := 0, chk := .any }),  -- CELLAR_BANK_BASE
  (0x0700300, { ty := 5, size := 8, acc := .rwb, dflt := 0, chk := .any }),  -- CELLAR_BANK_BYTES
  (0x0702000, { ty := 2, size := 1, acc := .rws, dflt := 0, chk := .codes [0, 1, 2] }),  -- EXPORT_MODE
  (0x0702100, { ty := 4, size := 4, acc := .rws, dflt := 0, chk := .any }),  -- EXPORT_BUDDY
  (0x0702200, { ty := 2, size := 1, acc := .rws, dflt := 0, chk := .codes [0, 1] }),  -- EXPORT_OVERRUN
  (0x0702300, { ty := 2, size := 1, acc := .rws, dflt := 0, chk := .range 0 15 }),  -- EXPORT_GROUP
  (0x0702400, { ty := 4, size := 4, acc := .rws, dflt := 100, chk := .range 1 1000000 }),  -- EXPORT_IDLE_US
  (0x0702500, { ty := 2, size := 1, acc := .rws, dflt := 1, chk := .codes [0, 1] }),  -- EXPORT_PORT
  (0x0702800, { ty := 5, size := 8, acc := .rws, dflt := 0, chk := .align 64 }),  -- EXPORT_HOST_BASE
  (0x0702900, { ty := 5, size := 8, acc := .rws, dflt := 0, chk := .any }),  -- EXPORT_HOST_BYTES
  (0x0702A00, { ty := 3, size := 2, acc := .rws, dflt := 0, chk := .any }),  -- EXPORT_HOST_EVERY
  (0x0703000, { ty := 5, size := 8, acc := .ro, dflt := 0, chk := .any }),  -- EXPORT_LAST_STEP
  (0x0703100, { ty := 2, size := 1, acc := .ro, dflt := 0, chk := .any }),  -- EXPORT_STATE
  (0x0704000, { ty := 5, size := 8, acc := .rwb, dflt := 0, chk := .any }),  -- GUEST_BASE
  (0x0704100, { ty := 5, size := 8, acc := .rwb, dflt := 0, chk := .any }),  -- GUEST_BYTES
  (0x0704200, { ty := 2, size := 1, acc := .rw, dflt := 0, chk := .codes [0, 1, 2] }),  -- GUEST_RESTORE
  (0x0704300, { ty := 5, size := 8, acc := .rw, dflt := 0, chk := .any }),  -- GUEST_RESTORE_STEP
  (0x0800000, { ty := 5, size := 8, acc := .rwb, dflt := 0, chk := .align 64 }),  -- KV_CTX_BASE
  (0x0800100, { ty := 4, size := 4, acc := .rwb, dflt := 0, chk := .range 0 1048576 }),  -- KV_CTX_COUNT
  (0x0801000, { ty := 13, size := 16, acc := .wo, dflt := 0, chk := .any }),  -- KV_PAGE_CMD
  (0x0801100, { ty := 4, size := 4, acc := .ro, dflt := 0, chk := .any }),  -- KV_CMD_DONE
  (0x0802000, { ty := 2, size := 1, acc := .rws, dflt := 0, chk := .codes [0, 1] }),  -- KV_POOL_EMPTY_POLICY
  (0x0802100, { ty := 4, size := 4, acc := .rws, dflt := 25000, chk := .range 1 250000000 }),  -- KV_WAIT_TICKS
  (0x0810000, { ty := 2, size := 1, acc := .const, dflt := 6, chk := .any }),  -- KV_POOL
  (0x0810001, { ty := 5, size := 8, acc := .rwb, dflt := 0, chk := .any }),  -- KV_POOL_BASE
  (0x0810002, { ty := 2, size := 1, acc := .rwb, dflt := 0, chk := .codes [0, 1] }),  -- KV_POOL_SPACE
  (0x0810003, { ty := 4, size := 4, acc := .rwb, dflt := 4096, chk := .any }),  -- KV_POOL_FRAME_BYTES
  (0x0810004, { ty := 4, size := 4, acc := .rwb, dflt := 0, chk := .any }),  -- KV_POOL_FRAMES
  (0x0810005, { ty := 5, size := 8, acc := .rwb, dflt := 0, chk := .any }),  -- KV_POOL_STACK
  (0x0810006, { ty := 4, size := 4, acc := .ro, dflt := 0, chk := .any }),  -- KV_POOL_FREE
  (0x0900000, { ty := 1, size := 1, acc := .rw, dflt := 1, chk := .any }),  -- BELL_GLOBAL_EN
  (0x0900100, { ty := 13, size := 128, acc := .ro, dflt := 0, chk := .any }),  -- BELL_LEVEL
  (0x0900200, { ty := 3, size := 2, acc := .wo, dflt := 0, chk := .any }),  -- BELL_CLEAR
  (0x0900300, { ty := 3, size := 2, acc := .wo, dflt := 0, chk := .range 0 2047 }),  -- BELL_ACK
  (0x0900400, { ty := 13, size := 256, acc := .ro, dflt := 0, chk := .any }),  -- BELL_IN_SERVICE
  (0x0A00000, { ty := 2, size := 1, acc := .wo, dflt := 0, chk := .trigger }),  -- METER_SNAP
  (0x0A00100, { ty := 4, size := 4, acc := .ro, dflt := 0, chk := .any }),  -- METER_SNAP_NUMBER
  (0x0A00200, { ty := 5, size := 8, acc := .ro, dflt := 0, chk := .any }),  -- METER_SNAP_TICK
  (0x0A00300, { ty := 5, size := 8, acc := .ro, dflt := 0, chk := .any }) ]  -- METER_TICK

def objRows4 : List (Nat × Obj) := [
  (0x0B00000, { ty := 2, size := 1, acc := .rw, dflt := 0, chk := .codes [0, 1] }),  -- SEC_BOOT_SLOT
  (0x0B00100, { ty := 2, size := 1, acc := .ro, dflt := 0, chk := .any }),  -- SEC_RUNNING_SLOT
  (0x0B00200, { ty := 2, size := 1, acc := .ro, dflt := 0, chk := .any }),  -- SEC_ROLLBACK
  (0x0B00300, { ty := 2, size := 1, acc := .wo, dflt := 0, chk := .trigger }),  -- SEC_SVN_COMMIT
  (0x0B01000, { ty := 14, size := 33554432, acc := .rw, dflt := 0, chk := .any }),  -- SEC_FW_IMAGE
  (0x0B01100, { ty := 2, size := 1, acc := .wo, dflt := 0, chk := .trigger }),  -- SEC_FW_COMMIT
  (0x0B01200, { ty := 2, size := 1, acc := .ro, dflt := 0, chk := .any }),  -- SEC_FW_STATE
  (0x0B02000, { ty := 13, size := 64, acc := .wo, dflt := 0, chk := .any }),  -- SEC_OWNER_KEY_NEXT
  (0x0B02100, { ty := 13, size := 64, acc := .ro, dflt := 0, chk := .any }),  -- SEC_OWNER_KEY
  (0x0B03000, { ty := 13, size := 32, acc := .ro, dflt := 0, chk := .any }),  -- SEC_DEBUG_NONCE
  (0x0B03100, { ty := 14, size := 4096, acc := .wo, dflt := 0, chk := .any }),  -- SEC_DEBUG_UNLOCK
  (0x0B04000, { ty := 14, size := 65536, acc := .wo, dflt := 0, chk := .any }),  -- SEC_SPDM_REQ
  (0x0B04100, { ty := 14, size := 65536, acc := .ro, dflt := 0, chk := .any }),  -- SEC_SPDM_RSP
  (0x0B10000, { ty := 13, size := 6, acc := .const, dflt := 0, chk := .any }),  -- XAXIA_MAC
  (0x0B10100, { ty := 2, size := 1, acc := .ro, dflt := 0, chk := .any }),  -- XAXIA_PLCA_ID
  (0x0B10200, { ty := 2, size := 1, acc := .rwk, dflt := 8, chk := .range 2 32 }),  -- XAXIA_PLCA_NODE_COUNT
  (0x0B10300, { ty := 3, size := 2, acc := .rwk, dflt := 47130, chk := .range 1024 65535 }),  -- XAXIA_PORT
  (0x0B10400, { ty := 1, size := 1, acc := .rwk, dflt := 0, chk := .any }),  -- XAXIA_REQUIRE_SESSION
  (0x0B10500, { ty := 3, size := 2, acc := .rwk, dflt := 600, chk := .range 10 65535 }),  -- XAXIA_SESSION_IDLE_S
  (0x0B10600, { ty := 2, size := 1, acc := .ro, dflt := 0, chk := .any }),  -- XAXIA_SESSIONS
  (0x0B10700, { ty := 4, size := 4, acc := .ro, dflt := 0, chk := .any }),  -- XAXIA_PLCA_FALLBACKS
  (0x0B11000, { ty := 13, size := 16, acc := .rw, dflt := 0, chk := .any }),  -- XAXIA_NOTIFY_ADDR
  (0x0B11100, { ty := 3, size := 2, acc := .rw, dflt := 47131, chk := .any }),  -- XAXIA_NOTIFY_PORT
  (0x0B11200, { ty := 13, size := 128, acc := .rw, dflt := 0, chk := .any }),  -- XAXIA_NOTIFY_MASK
  (0x0B11300, { ty := 3, size := 2, acc := .rw, dflt := 1000, chk := .range 0 60000 }),  -- XAXIA_NOTIFY_REPEAT_MS
  (0x0B12000, { ty := 1, size := 1, acc := .ro, dflt := 0, chk := .any }),  -- MBOX_SESSION
  (0x0B20000, { ty := 2, size := 1, acc := .const, dflt := 5, chk := .any }),  -- CXL_PORT0
  (0x0B20001, { ty := 2, size := 1, acc := .ro, dflt := 0, chk := .any }),  -- CXL_PORT_STATE
  (0x0B20002, { ty := 2, size := 1, acc := .ro, dflt := 0, chk := .any }),  -- CXL_PORT_WIDTH
  (0x0B20003, { ty := 2, size := 1, acc := .ro, dflt := 0, chk := .any }),  -- CXL_PORT_RATE
  (0x0B20004, { ty := 2, size := 1, acc := .rw, dflt := 128, chk := .any }),  -- CXL_PORT_MAX_RATE
  (0x0B20005, { ty := 2, size := 1, acc := .ro, dflt := 0, chk := .any }),  -- CXL_PORT_IDE
  (0x0B21000, { ty := 4, size := 4, acc := .rw, dflt := 50000, chk := .range 1000 1000000 }),  -- CXL_UIO_TIMEOUT_US
  (0x0B22000, { ty := 5, size := 8, acc := .rwb, dflt := 0, chk := .any }),  -- CXL_HDM_ATTIC_BASE
  (0x0B22100, { ty := 5, size := 8, acc := .rwb, dflt := 0, chk := .any }),  -- CXL_HDM_ATTIC_BYTES
  (0x0B22200, { ty := 1, size := 1, acc := .rwb, dflt := 0, chk := .any }),  -- CXL_HDM_GUEST_EN
  (0x0B30000, { ty := 2, size := 1, acc := .const, dflt := 3, chk := .any }),  -- MEM_ERR_LAST
  (0x0B30001, { ty := 2, size := 1, acc := .ro, dflt := 0, chk := .any }),  -- MEM_ERR_KIND
  (0x0B30002, { ty := 5, size := 8, acc := .ro, dflt := 0, chk := .any }),  -- MEM_ERR_ADDR
  (0x0B30003, { ty := 5, size := 8, acc := .ro, dflt := 0, chk := .any }) ]  -- MEM_ERR_TICK

def objRows5 : List (Nat × Obj) := [
  (0x0C00000, { ty := 2, size := 1, acc := .const, dflt := 64, chk := .any }),  -- PELOTON_LEVEL_MAX
  (0x0C00100, { ty := 4, size := 4, acc := .rwb, dflt := 100663296, chk := .any }),  -- PELOTON_INBOX_BASE
  (0x0C00200, { ty := 4, size := 4, acc := .rwb, dflt := 16777216, chk := .any }),  -- PELOTON_INBOX_BYTES
  (0x0C01000, { ty := 4, size := 4, acc := .rws, dflt := 10000, chk := .range 1 10000000 }),  -- PELOTON_DEADLINE_US
  (0x0C01100, { ty := 2, size := 1, acc := .rws, dflt := 0, chk := .codes [0, 1] }),  -- PELOTON_LATE_POLICY
  (0x0C01200, { ty := 2, size := 1, acc := .rws, dflt := 3, chk := .range 1 255 }),  -- PELOTON_DEAD_MISSES
  (0x0C02000, { ty := 13, size := 8, acc := .wo, dflt := 0, chk := .any }),  -- PELOTON_CMD
  (0x0C10000, { ty := 2, size := 1, acc := .const, dflt := 6, chk := .any }),  -- PELOTON_GROUP
  (0x0C10001, { ty := 4, size := 4, acc := .rws, dflt := 0, chk := .any }),  -- PELOTON_MEMBERS
  (0x0C10002, { ty := 4, size := 4, acc := .rws, dflt := 0, chk := .any }),  -- PELOTON_SELF
  (0x0C10003, { ty := 5, size := 8, acc := .rws, dflt := 0, chk := .any }),  -- PELOTON_MEMBER_TABLE
  (0x0C10004, { ty := 2, size := 1, acc := .rws, dflt := 0, chk := .any }),  -- PELOTON_ALGO
  (0x0C10005, { ty := 3, size := 2, acc := .rws, dflt := 32, chk := .any }),  -- PELOTON_TREE_FAN
  (0x0C10006, { ty := 2, size := 1, acc := .rws, dflt := 64, chk := .any }) ]  -- PELOTON_LEVEL

/-- The rows the spec lists one by one; a record kept in several instances is listed once, at its first index. -/
def objRows : List (Nat × Obj) := objRows0 ++ objRows1 ++ objRows2 ++ objRows3 ++ objRows4 ++ objRows5

def objU (ty size : Nat) (acc : Access) (dflt : Nat) : Option Obj := some ⟨ty, size, acc, dflt, .any⟩

/-- Records of calibration (R448), sensors (R489), power (R531), routes (R513), vectors (R515), domains. -/
def objFamily (idx sub : Nat) : Option Obj :=
  if idx == 0x02000 then (if sub == 0 then objU 3 2 .const 0 else none)
  else if idx == 0x02100 then (if sub == 0 then objU 6 1 .rw 0 else none)
  else if idx == 0x02200 then (if sub == 0 then objU 3 2 .ro 0 else none)
  else if idx == 0x02010 then (if sub == 0 then objU 2 1 .const 0x40 else if sub ≤ 0x40 then objU 7 2 .const 0 else none)
  else if idx == 0x02110 then (if sub == 0 then objU 2 1 .const 0x40 else if sub ≤ 0x40 then objU 7 2 .rw 0 else none)
  else if idx == 0x02210 then (if sub == 0 then objU 2 1 .const 0x40 else if sub ≤ 0x40 then objU 7 2 .ro 0 else none)
  else if idx == 0x02020 then (if sub == 0 then objU 2 1 .const 8 else if sub ≤ 8 then objU 3 2 .const 0 else none)
  else if idx == 0x02120 then (if sub == 0 then objU 2 1 .const 8 else if sub ≤ 8 then objU 7 2 .rw 0 else none)
  else if idx == 0x02220 then (if sub == 0 then objU 2 1 .const 8 else if sub ≤ 8 then objU 3 2 .ro 0 else none)
  else if idx == 0x02041 then (if sub == 0 then objU 2 1 .const 6 else if sub ≤ 6 then objU 7 2 .const 0 else none)
  else if idx == 0x02141 then (if sub == 0 then objU 2 1 .const 6 else if sub ≤ 6 then objU 6 1 .rw 0 else none)
  else if idx == 0x02240 then (if sub == 0 then objU 2 1 .ro 6 else if sub ≤ 6 then objU 7 2 .ro 0 else none)
  else if idx == 0x02050 then (if sub == 0 then objU 2 1 .const 0x20 else if sub ≤ 0x20 then objU 2 1 .const 0 else none)
  else if idx == 0x02150 then (if sub == 0 then objU 2 1 .const 0x20 else if sub ≤ 0x20 then objU 6 1 .rw 0 else none)
  else if idx == 0x02250 then (if sub == 0 then objU 2 1 .const 0x20 else if sub ≤ 0x20 then objU 2 1 .ro 0 else none)
  else if idx == 0x02160 || idx == 0x021FF then (if sub == 0 then some ⟨2, 1, .wo, 0, .trigger⟩ else none)
  else if idx == 0x02260 || idx == 0x02261 then (if sub == 0 then objU 0xE (256 * 1024) .ro 0 else none)
  else if idx == 0x00010 then (if sub == 0 then objU 0xE (2 ^ 24) .ro 0 else none)
  else if idx == 0x01052 then (if sub == 0 then objU 2 1 .const 0x40 else if sub ≤ 0x40 then objU 7 2 .ro 0 else none)
  else if idx == 0x0A030 then (if sub == 0 then objU 2 1 .const 9 else if sub ≤ 9 then objU 4 4 .ro 0 else none)
  else if idx == 0x0A010 then (if sub == 0 then objU 0xE 7232 .ro 0 else none)
  else if idx == 0x0A011 then (if sub == 0 then objU 0xE 28672 .const 0 else none)
  else if idx == 0x0A020 then (if sub == 0 then objU 0xE 32768 .ro 0 else none)
  else if 0x09400 ≤ idx && idx ≤ 0x097FF then (if sub == 0 then objU 4 4 .rw 0 else none)
  else if 0x09800 ≤ idx && idx ≤ 0x09FFF then (if sub == 0 then objU 5 8 .rw 1 else none)
  else if 0x09020 ≤ idx && idx ≤ 0x09023 then (if sub == 0 then objU 5 8 .ro 1 else none)
  else none

/-- The first index of a record kept in several instances. -/
def baseIndex (idx : Nat) : Nat :=
  if 0x05100 ≤ idx && idx ≤ 0x054FF then 0x05100
  else if 0x04100 ≤ idx && idx ≤ 0x0410F then 0x04100
  else if 0x08100 ≤ idx && idx ≤ 0x0810F then 0x08100
  else if 0x0C100 ≤ idx && idx ≤ 0x0C10F then 0x0C100
  else if 0x01100 ≤ idx && idx ≤ 0x01103 then 0x01100
  else if idx == 0x0B201 then 0x0B200
  else idx

/-- BS3 frequency of PLL p in MHz (R476). -/
def pllBs3 (p : Nat) : Nat := match p with | 0 => 1200 | 1 => 1600 | 2 => 1000 | _ => 1000
/-- BS2 frequency of PLL p in MHz (R476). -/
def pllBs2 (p : Nat) : Nat := match p with | 0 => 600 | 1 => 1200 | 2 => 1000 | _ => 1000
/-- Floor of PLL p in MHz (R476). -/
def pllFloor (p : Nat) : Nat := match p with | 0 => 150 | 1 => 200 | 2 => 125 | _ => 125

def afind {α : Type} : List (Nat × α) → Nat → Option α
  | [], _ => none
  | (k, v) :: t, a => if a == k then some v else afind t a

/-- The object at an index and subindex (R425). -/
def objInfo (idx sub : Nat) : Option Obj :=
  match objFamily idx sub with
  | some o => some o
  | none =>
    match afind objRows (okey (baseIndex idx) sub) with
    | none => none
    | some o =>
      if baseIndex idx == 0x01100 && sub == 2 then
        some { o with dflt := pllBs3 (idx - 0x01100) }
      else if baseIndex idx == 0x01100 && sub == 5 then some { o with dflt := pllFloor (idx - 0x01100) }
      else some o

/-- The default of an object by key; 0 where there is none. -/
def odDefault (key : Nat) : Nat := (objInfo (key / 256) (key % 256)).elim 0 (·.dflt)

/-- Does an index hold any object? -/
def objExists (idx : Nat) : Bool := (objInfo idx 0).isSome

end Sys2Proof.Machine
end

