-- ==== Sys2Proof/Machine/SubTypes.lean ====
section
/-! DEFINITION. The state of Glazia, the export engine, the Peloton, the dictionary paths, the clocks and the module
(11 to 17). Plain data, no meaning. -/

namespace Sys2Proof.Machine

/-! ### Glazia (11) -/

/-- The registers of one rule run, per core and group (R343, R345): scalars and vector lanes (register · 64 + lane),
as FP32 bits, a lane with its poison mark in bit 0. Unlisted is +0. -/
structure GzRegs where
  core : Nat
  group : Nat
  scalars : List (Nat × Nat)
  lanes : List (Nat × Nat)
  deriving DecidableEq, Repr

/-- What a body run reads of one element, once (R346, R360, R363): its owned number, why it is kept (0 not kept), its gradient,
and the stored bits and poison of its state slots. -/
structure GzIn where
  elem : Nat
  kept : Nat
  grad : F32
  slots : List (Nat × Bool)
  deriving DecidableEq, Repr

/-- A Glazia core (R343): the grain it treats, the vector and word it is at, the vector's inputs once its body run has begun,
the stores staged until COMMIT (stream, register, scalar flag values are taken when staged), and the grain's sums so far. -/
structure GzCore where
  grain : Option (Nat × Nat)
  vec : Nat
  pc : Nat
  inputs : List GzIn
  staged : List (Nat × List (Nat × Bool))
  sumW : Nat
  sumD : Nat
  deriving DecidableEq, Repr

/-- Glazia's state between letters (R355 to R361). -/
structure GzState where
  /-- installed rule image: words 0 to 16,383 that are not 0 (R348) -/
  image : List (Nat × Nat)
  /-- the captain set latched at OPEN, with the gears as moved (R356) -/
  latched : List (Nat × Nat)
  groups : List Nat
  params : List Nat
  /-- covered grains, group · 2^20 + grain -/
  covered : List Nat
  /-- grains of the accepted PIECE that no core has taken, and those not yet done -/
  todo : List Nat
  busy : List Nat
  cores : List GzCore
  regs : List GzRegs
  /-- W and Δ of each covered grain (FP64) -/
  partials : List (Nat × (Nat × Nat))
  /-- partials of the last closed update per Cassette entry, if any since the last reset (R368) -/
  closed : Option (List (Nat × (Nat × Nat)))
  /-- running amax per group -/
  amax : List (Nat × Nat)
  badGrad : Bool
  poisonSeen : Bool
  /-- entries with an uncorrectable grain partial (R377) -/
  lostEntries : List Nat
  /-- groups whose latched record met an uncorrectable error (R377) -/
  badGroups : List Nat
  /-- an OPEN waits for an export (R27): queue and sequence number -/
  waiting : Option (Nat × Nat)
  /-- a CLOSE whose completion record is not yet written, and the bank that then becomes current (R25, R361) -/
  closing : Option ((Nat × Nat) × Nat)
  deriving DecidableEq, Repr

/-! ### Export engine (12) -/

/-- The export, or Guest room image, being sent (R383 to R390, R419): the letter it serves if any, bank, step, the buddy's
group and index, this module's index, port, kind (0 FULL, 1 DELTA, 2 IMAGE), bytes of the stream, and its frames that are not
yet sent, with their poisoned sectors. -/
structure ExJob where
  letter : Option (Nat × Nat)
  bank : Nat
  step : Nat
  group : Nat
  member : Nat
  port : Nat
  kind : Nat
  bytes : Nat
  rest : List (List Byte × List Nat)
  deriving DecidableEq, Repr

/-- A stream being received (R388, R418): its sender, kind, whether it was refused, its bytes and poisoned sectors so far. -/
structure ExRx where
  group : Nat
  src : Nat
  image : Bool
  refused : Bool
  bytes : List Byte
  poison : List Nat
  deriving DecidableEq, Repr

/-- The export engine: a bank that waits for an AUTO export (R383), the running job, whether the next export is FULL
(R384, R389), the step of the last change of each group plus one, streams being received. -/
structure ExState where
  pending : Option Nat
  job : Option ExJob
  forceFull : Bool
  lastChange : List (Nat × Nat)
  rx : List ExRx
  deriving DecidableEq, Repr

/-! ### Peloton (12) -/

/-- A chunk or part chunk that a running collective waits for: owner (of a part: its source), chunk, level (0 RING owner,
1 TREE relay, 2 TREE owner, 3 part), awaited sources in the order of the sum, the moment its deadline counts from (R406),
and the own contribution once read: FP32 bits and count. -/
structure PlUnit where
  owner : Nat
  chunk : Nat
  level : Nat
  sources : List Nat
  start : Option Nat
  own : Option (List Nat × Nat)
  done : Bool
  deriving DecidableEq, Repr

/-- An input that has begun to arrive in time (R406). -/
structure PlInput where
  owner : Nat
  chunk : Nat
  level : Nat
  src : Nat
  count : Nat
  pfmt : Nat
  poison : Bool
  torn : Bool
  port : Nat
  frames : List (Nat × List Byte)
  last : Option Nat
  deriving DecidableEq, Repr

/-- What the count part of a collective letter holds (R423). -/
structure PlTally where
  chunks : Nat
  full : Nat
  zero : Nat
  minCount : Option Nat
  missed : Nat
  lateForwarded : Nat
  voidSent : Nat
  orphans : Nat
  partsAbsent : Nat
  carryUsed : Nat
  deriving DecidableEq, Repr

/-- A collective letter that runs, or ran (R391 to R400). -/
structure PlRun where
  queue : Nat
  seq : Nat
  slot : Nat
  op : Nat
  tree : Bool
  group : Nat
  tag : Nat
  me : Nat
  members : Nat
  fan : Nat
  proto : Nat
  ports : List Nat
  chunk : Nat
  step : Nat
  a : Option TDesc
  d : Option TDesc
  s : Option TDesc
  cnt : Loc
  root : Nat
  captain : List (Nat × Nat)
  table : Nat
  live : List Nat
  gone : List Nat
  round : Nat
  rounds : Nat
  units : List PlUnit
  inputs : List PlInput
  grants : List (Nat × Nat)
  missed : List Nat
  bad : List Nat
  reserve : Nat
  tally : PlTally
  startTick : Nat
  stopped : Bool
  deriving DecidableEq, Repr

/-- A frame in an inbox slot that waits for its letter (R397, R403). -/
structure PlFrame where
  slot : Nat
  header : Nat
  length : Nat
  port : Nat
  tick : Nat
  deriving DecidableEq, Repr

/-- A part frame whose TAG this module has not dispatched yet (R397): header, payload, poison, port, arrival tick. -/
structure PlEarly where
  header : Nat
  payload : List Byte
  poison : Bool
  port : Nat
  tick : Nat
  deriving DecidableEq, Repr

/-- A chunk of a collective letter that waits to leave for a member (R403): the letter's slot (8 once the letter has
ended), group, TAG and ports; the chunk is not read yet, or its frames are held. -/
structure PlItem where
  slot : Nat
  group : Nat
  tag : Nat
  ports : List Nat
  dst : Nat
  owner : Nat
  chunk : Nat
  level : Nat
  frames : Option (List (Nat × List Byte))
  deriving DecidableEq, Repr

/-- A voided chunk that is sent late once it is repaired (R410): the letter it belonged to, and the quarantine ring
entries that voided it. -/
structure PlVoid where
  run : PlRun
  owner : Nat
  chunk : Nat
  entries : List Nat
  deriving DecidableEq, Repr

/-- The Peloton: running letters, waiting frames, credits held at members and granted to members (group · 65,536 + member),
chunks waiting to leave, voided chunks, late inputs not yet whole (group, tag), the last reduction letters, ended part
exchanges, groups this module is expelled from, when the Peloton last became idle, which elements each quarantine ring
slot's tile covers (global linear indices, R305), and part frames whose TAG has not been dispatched (R397). -/
structure PelState where
  runs : List PlRun
  frames : List PlFrame
  credits : List (Nat × Nat)
  granted : List (Nat × Nat)
  outq : List PlItem
  voided : List PlVoid
  lates : List ((Nat × Nat) × PlInput)
  hist : List PlRun
  ended : List (Nat × Nat)
  expelled : List Nat
  idleSince : Nat
  quarTiles : List (Nat × List Nat)
  early : List PlEarly
  deriving DecidableEq, Repr

/-! ### Object dictionary (13) -/

/-- A peer on Xaxia, by source address and port (R454, R455, R458): the negotiated version, the last 16 responses (request,
response), the Pilot times of failed proofs, and whether it is locked out. -/
structure XPeer where
  num : Nat
  version : Option (Nat × Nat)
  kept : List (List Byte × List Byte)
  fails : List Nat
  locked : Bool
  deriving DecidableEq, Repr

/-- A session (R458, R459, R467): of an Xaxia peer, or of the mailbox (none); open once its PROOF succeeded. -/
structure Session where
  id : Nat
  peer : Option Nat
  isOpen : Bool
  client : List Byte
  nonce : List Byte
  key : List Byte
  lastSeq : Nat
  deriving DecidableEq, Repr

/-- A block write under way on an object (R457), by a peer or the mailbox (none). -/
structure Transfer where
  key : Nat
  peer : Option Nat
  size : Nat
  data : List Byte
  deriving DecidableEq, Repr

/-- A copy of a DOMAIN value taken by a block read at offset 0 (R456). -/
structure ReadCopy where
  key : Nat
  peer : Option Nat
  data : List Byte
  deriving DecidableEq, Repr

/-- An access whose answer waits: a write held under R440 or R447, a swap whose point has not come, a snapshot before
its edge, an access to a station whose PLL relocks (R481), or the wake frame (R493). The code is the stop's own: 0 write,
1 read, 2 answer only. -/
structure HeldAccess where
  cause : Nat
  act : Nat
  way : Way
  req : List Byte
  key : Nat
  ty : Nat
  stoker : Bool
  data : List Byte
  deriving DecidableEq, Repr

/-- The dictionary paths: peers, sessions, block transfers, transfers discarded by time-out whose next message is still to
be told, read copies, held accesses, whether a trim commit runs, the trims stored in flash and the number of NOTIFYs sent. -/
structure DictState where
  peers : List XPeer
  sessions : List Session
  transfers : List Transfer
  expired : List (Nat × Option Nat)
  copies : List ReadCopy
  held : List HeldAccess
  trimBusy : Bool
  savedTrims : List (Nat × Nat)
  notifySeq : Nat
  deriving DecidableEq, Repr

/-! ### Meter (15) -/

/-- The Meter besides its units: shadows of the units and of the entry statistics, live entry statistics (entry · 8 + field),
the edge E of a snapshot that is pending, and the units and entry statistics as they stood at its instant C (R525 to
R530). -/
structure MeterState where
  shadow : List (Nat × Nat)
  stats : List (Nat × Nat)
  statShadow : List Byte
  edge : Option Nat
  cut : Option (List (Nat × Nat) × List (Nat × Nat))
  deriving DecidableEq, Repr

/-! ### Clocks, power and bring-up (14, 17) -/

/-- Clock sources under watch (R472 to R475): consecutive good judgement gates, whether they compare with a reference and
with what window, bad and good monitor gates in a row, whether an edge is missing, and gates of the two reference clocks. -/
structure SrcWatch where
  goodGates : Nat
  byRef : Bool
  window : Nat
  monBad : Nat
  monGood : Nat
  missing : Bool
  refGood0 : Nat
  refBad0 : Nat
  refGood1 : Nat
  refBad1 : Nat
  deriving DecidableEq, Repr

/-- Supplies, sideband pins and the run of a start (R490 to R507, R567 to R575). A `low` pin is an active-low input that
is asserted. starting: 0 none, 1 cold, 2 keep-house. released: BRINGUP_GO was given (R499). frontNext: the state the
Front Room takes once its running letter ends (R101). resets: causes of resets asked for and not yet begun. trained: stored
training results exist (R449). lostSrc: the source each freewheeling PLL lost. saved: what the configuration flash holds
besides trims (object key, value). poolsBuilt: the pool objects' values the free stacks were last built with (R340). -/
structure PwrState where
  auxOn : Bool
  pwrEn : Bool
  mainOn : Bool
  pwrGood : Bool
  perstLow0 : Bool
  perstLow1 : Bool
  keepHouseLow : Bool
  plcaPins : Nat
  thermtrip : Bool
  supplyFault : Bool
  noFirmware : Bool
  cause : Nat
  starting : Nat
  inReset : Bool
  released : Bool
  frontNext : Option Nat
  resets : List Nat
  watch : SrcWatch
  coolSamples : Nat
  trained : Bool
  retrain : Bool
  lostSrc : List (Nat × Nat)
  poolsBuilt : List (Nat × Nat)
  saved : List (Nat × Nat)
  deriving DecidableEq, Repr

/-! ### CXL, security and test port (16, 17) -/

/-- CXL (R541, R545): the held low half of a page command, lines of the snoop filter with the earliest first (Attic lines,
and Guest room lines above 2^40), lines whose snoop has been sent and whether it was BISnpInv, and lines whose BISnpData
has been answered for the access that waits. -/
structure CxlState where
  pageLo : Option Nat
  snoop : List Nat
  asked : List (Nat × Bool)
  answered : List Nat
  deriving DecidableEq, Repr

/-- Security (R549 to R559): the images of slots A and B, images being written into a slot, fused owner key hashes, the
library image now active, whether the debug lock is lifted, and the conversation of each SPDM connection (path 0 and 1 the
DOE of the ports, 2 Xaxia). -/
structure SecState where
  slotA : List Byte
  slotB : List Byte
  writing : Option (List Byte)
  ownerKeys : List (List Byte)
  libActive : List Byte
  unlocked : Bool
  spdm : List (Nat × List Byte)
  deriving DecidableEq, Repr

/-- The test port (R555, R577, R578): the instruction in force, the pins as EXTEST scanned them, and the outcome of the
last RECOVERY_LOAD. -/
structure TapState where
  ir : Nat
  scanned : Option Nat
  recovery : Nat
  deriving DecidableEq, Repr

end Sys2Proof.Machine
end

