-- ==== Sys2Proof/Machine/State.lean ====
section
/-! DEFINITION. The state of the part: every register, buffer, counter, mode and pin the spec gives it, and the queue of
commands that wait. Plain data. -/

namespace Sys2Proof.Machine

/-- Why a step can stop with a fault. No command of this part faults; the type is kept closed and empty of cases but one. -/
inductive Fault where
  /-- raised by nothing in this model; safe -/
  | none
  deriving DecidableEq, Repr

/-- Why a step can refuse a command. -/
inductive Refusal where
  /-- raised by the dispatch arm of a command without a meaning; safe -/
  | notModelled (mnemonic : String)
  deriving DecidableEq, Repr

/-- What leaves the part: the model's own record of responses, frames, interrupts and messages (DESIGN CHOICE). -/
inductive Sent where
  | response (path : Nat) (code : Nat) (data : List Byte)
  | msix (vector : Nat)
  | hartIrq (hart : Nat)
  | frame (kind : Nat) (peer : Nat) (port : Nat) (data : List Byte) (poison : List Nat)
  deriving DecidableEq, Repr

/-- The Letterbox (06): loaded queues, running ops, finished letters waiting for their record, DECODE gathers in the order
in which they began, and the contexts in the context cache, the one used last first (R209, R226). -/
structure LbState where
  queues : List QCtx
  ops : List Op
  fin : List FinRec
  gathers : List Gather
  cached : List Nat
  deriving DecidableEq, Repr

/-- The rooms (03, 04): Pantry entries (tile row · 3,072 + lane ↦ 2·FP32 bits + poison; unlisted 0), and the lane
(output row and column) whose write-mode flush is held (R96). -/
structure RoomsState where
  pantryF : List (Nat × Nat)
  pantryB : List (Nat × Nat)
  heldF : Option (Nat × Nat)
  heldB : Option (Nat × Nat)
  deriving DecidableEq, Repr

/-- One stream of a letter at the Porch (R231, R233, R236): its station, the operand it carries (0 A data, 1 A scales,
2 A widths, 3 B data, 4 B scales, 5 B widths), its fetch mode (0 straight, 1 turned, 2 sector, 3 broadcast), space, its
threads, and its rate as stored bytes per cycle of its consumer's clock (0 ARRAY, 1 HALL). -/
structure Stream where
  station : Nat
  operand : Nat
  mode : Nat
  space : Space
  threads : List Nat
  clock : Nat
  rateNum : Nat
  rateDen : Nat
  deriving DecidableEq, Repr

/-- One contender of a memory-port arbiter (R233, R240, R241): a read thread 0 to 511, or a drain stream 512 to 523.
queue: its bursts not yet issued; outstanding: bursts issued that have not arrived; buffered: bytes it holds (a drain: the
bytes in its write buffer, with backlog those that wait for room in it); cap: its buffer share; rate as for a stream. -/
structure Contender where
  num : Nat
  station : Nat
  queue : List Burst
  outstanding : List Burst
  buffered : Nat
  backlog : Nat
  cap : Nat
  clock : Nat
  rateNum : Nat
  rateDen : Nat
  lastBytes : Bool
  deriving DecidableEq, Repr

/-- The Porch (07): streams formed at dispatch, contenders of the ports, the contender last granted at each port (plus one),
and the issue slots of the Glazia die link that go by before the export engine may take the next (R242). -/
structure PorchState where
  streams : List Stream
  contenders : List Contender
  granted : List (Nat × Nat)
  owed : Nat
  deriving DecidableEq, Repr

/-- One program of the library directory (08, R267, R273): number, routes, queue kinds and windows it accepts, cost, N_max,
poison class, and the bytes per row of its row arrays. -/
structure WsProg where
  num : Nat
  route4 : Bool
  route5 : Bool
  compute : Bool
  decode : Bool
  window : Bool
  cost : Nat
  nMax : Nat
  rowClass : Bool
  ra0 : Nat
  ra1 : Nat
  deriving DecidableEq, Repr

/-- The Workshop (08, R259): the installed library's directory, the function tables and program memory every bench was
loaded with, the library being loaded, reservation per die, the Pilot time of each bench's last fault (R286), and the bench
stores: for each
bench the FP32 words, with poison, of the row it worked on last. -/
structure WsState where
  progs : List WsProg
  tables : List (List Byte)
  loading : Option (List Byte)
  reserved0 : Nat
  reserved1 : Nat
  benchReset : List (Nat × Nat)
  code : List Byte
  store : List (Nat × List (F32 × Bool))
  deriving DecidableEq, Repr

/-- One interrupt target of the Bellboard (R515, R516): hosts 0 to 2,047, harts 2,048 to 2,051. -/
structure BellTarget where
  count : Nat
  timer : Nat
  waiting : Bool
  inService : Bool
  deriving DecidableEq, Repr

/-- The Bellboard (15): levels (sources that are high, rising), when each source's last event came (its tick plus one,
R512), hart routes and hart limits (firmware), targets that are not at rest, MSI-X vectors whose mask is clear, function
mask, pending bits and table bytes, route writes not yet in effect (R514), and the sources a NOTIFY was sent for since they
last rose (R461). -/
structure BellState where
  level : List Nat
  raisedAt : List (Nat × Nat)
  hartRoutes : List (Nat × Nat)
  routes : List (Nat × Nat)
  hartLimits : List (Nat × Nat)
  targets : List (Nat × BellTarget)
  unmasked : List Nat
  functionMask : Bool
  pendingBits : List Nat
  msix : List (Nat × Nat)
  newRoutes : List (Nat × Nat)
  notified : List Nat
  deriving DecidableEq, Repr

/-- The whole machine. -/
structure State where
  pending : List Instr
  attic : Mem
  cellar : Mem
  larder : Mem
  host : Mem
  od : List (Nat × Nat)
  captain : List (Nat × Nat)
  stoker : List (Nat × Nat)
  domains : List (Nat × List Byte)
  meter : List (Nat × Nat)
  tick : Nat
  freeCtr : Nat
  sent : List Sent
  lb : LbState
  rooms : RoomsState
  porch : PorchState
  ws : WsState
  bell : BellState
  gz : GzState
  ex : ExState
  pel : PelState
  dict : DictState
  mtr : MeterState
  pwr : PwrState
  cxl : CxlState
  sec : SecState
  tap : TapState
  deriving DecidableEq, Repr

/-- A module whose regulators have just started for the first time: PWR_GOOD has risen and BS0 is about to begin (R502
power-on, R568). Every object reads its default, every memory lists nothing, both firmware slots hold the factory's
release and no owner key is fused (log 39, log 40), and the debug lock is in force (R556). What the spec states no value for is zero, empty
or not asserted (DESIGN CHOICE, log 40). -/
def State.reset : State where
  pending := []
  attic := Mem.empty
  cellar := Mem.empty
  larder := Mem.empty
  host := Mem.empty
  od := []
  captain := []
  stoker := []
  domains := []
  meter := []
  tick := 0
  freeCtr := 0
  sent := []
  lb := ⟨[], [], [], [], []⟩
  rooms := ⟨[], [], none, none⟩
  porch := ⟨[], [], [], 0⟩
  ws := ⟨[], [], none, 0, 0, [], [], []⟩
  bell := ⟨[], [], [], [], [], [], [], false, [], [], [], []⟩
  gz := ⟨[], [], [], [], [], [], [], [], [], [], none, [], false, false, [], [], none, none⟩
  ex := ⟨none, none, false, [], []⟩
  pel := ⟨[], [], [], [], [], [], [], [], [], [], 0, [], []⟩
  dict := ⟨[], [], [], [], [], [], false, [], 0⟩
  mtr := ⟨[], [], [], none, none⟩
  pwr := {
    auxOn := true, pwrEn := true, mainOn := true, pwrGood := true, perstLow0 := false, perstLow1 := false,
    keepHouseLow := false, plcaPins := 0, thermtrip := false, supplyFault := false, noFirmware := false, cause := 1,
    starting := 1, inReset := false, released := false, frontNext := none, resets := [],
    watch := ⟨0, false, 0, 0, 0, false, 0, 0, 0, 0⟩, coolSamples := 0, trained := false, retrain := false,
    lostSrc := [], poolsBuilt := [], saved := [] }
  cxl := ⟨none, [], [], []⟩
  sec := ⟨Config.flashImage 0, Config.flashImage 0, none, [], [], false, []⟩
  tap := ⟨1, none, 0⟩

end Sys2Proof.Machine
end

