-- ==== Sys2Proof/Machine/Ops.lean ====
section
/-! DEFINITION. The named operations over State that every command uses: memory, dictionary values, counters, Bellboard
sources, free values and what leaves the part. -/

namespace Sys2Proof.Machine

/-- What a command answers when it has its effect. -/
abbrev Res := Host.Outcome State Fault Refusal

/-! ### Memory -/

def State.mem (s : State) : Space → Mem
  | .attic => s.attic
  | .cellar => s.cellar
  | .larder => s.larder
  | .host => s.host

def State.setMem (s : State) : Space → Mem → State
  | .attic, m => { s with attic := m }
  | .cellar, m => { s with cellar := m }
  | .larder, m => { s with larder := m }
  | .host, m => { s with host := m }

def State.rd (s : State) (sp : Space) (a n : Nat) : Nat := (s.mem sp).nat a n
def State.rdBytes (s : State) (sp : Space) (a n : Nat) : List Byte := (s.mem sp).bytes a n
/-- The first address a letter cannot reach in a space (R201). -/
def spaceLimit : Space → Nat
  | .attic => 0xC000000000
  | .cellar => 0xC800000000
  | .larder => 0x18000000
  | .host => 2 ^ 48

def spaceOf (code : Nat) : Space :=
  match code % 4 with
  | 0 => .attic
  | 1 => .cellar
  | 2 => .larder
  | _ => .host

/-! ### Dictionary values -/

/-- The value of an object that exists once. -/
def State.odv (s : State) (k : Nat) : Nat := aget (odDefault k) s.od k
def State.setOd (s : State) (k v : Nat) : State := { s with od := aset (odDefault k) s.od k v }

/-- The captain value of an RWS object. -/
def State.cap (s : State) (k : Nat) : Nat := aget (odDefault k) s.captain k
def State.setCap (s : State) (k v : Nat) : State := { s with captain := aset (odDefault k) s.captain k v }

/-- The stoker value of an RWS object. -/
def State.stk (s : State) (k : Nat) : Nat := aget (odDefault k) s.stoker k
def State.setStk (s : State) (k v : Nat) : State := { s with stoker := aset (odDefault k) s.stoker k v }

/-- A value of a latched captain set (R438). -/
def capIn (m : List (Nat × Nat)) (k : Nat) : Nat := aget (odDefault k) m k

/-- The bytes of a DOMAIN object. -/
def State.domain (s : State) (k : Nat) : List Byte := aget [] s.domains k
def State.setDomain (s : State) (k : Nat) (b : List Byte) : State := { s with domains := aset [] s.domains k b }

namespace K
def gzState : Nat := okey 0x06000 0
def gzStep : Nat := okey 0x06001 0
def gzGroupBase : Nat := okey 0x06010 0
def gzGroupCount : Nat := okey 0x06011 0
def gzFrozen : Nat := okey 0x06012 0
def gzMasked : Nat := okey 0x06013 0
def gzMaskBase : Nat := okey 0x06014 0
def gzImage : Nat := okey 0x06020 0
def gzPresent : Nat := okey 0x06022 0
def gzGearMin : Nat := okey 0x06030 0
def gzGearMax : Nat := okey 0x06031 0
def gzExcursions : Nat := okey 0x06040 0
def gzRatio : Nat := okey 0x06041 0
def bankCount : Nat := okey 0x07000 0
def bankCurrent : Nat := okey 0x07001 0
def bankBase : Nat := okey 0x07002 0
def bankBytes : Nat := okey 0x07003 0
def exMode : Nat := okey 0x07020 0
def exBuddy : Nat := okey 0x07021 0
def exOverrun : Nat := okey 0x07022 0
def exGroup : Nat := okey 0x07023 0
def exIdleUs : Nat := okey 0x07024 0
def exPort : Nat := okey 0x07025 0
def exHostBase : Nat := okey 0x07028 0
def exHostBytes : Nat := okey 0x07029 0
def exHostEvery : Nat := okey 0x0702A 0
def exLastStep : Nat := okey 0x07030 0
def exState : Nat := okey 0x07031 0
def guestBase : Nat := okey 0x07040 0
def guestBytes : Nat := okey 0x07041 0
def guestRestore : Nat := okey 0x07042 0
def guestStep : Nat := okey 0x07043 0
def plInboxBase : Nat := okey 0x0C001 0
def plInboxBytes : Nat := okey 0x0C002 0
def plDeadlineUs : Nat := okey 0x0C010 0
def plLatePolicy : Nat := okey 0x0C011 0
def plDeadMisses : Nat := okey 0x0C012 0
def plGroup (g sub : Nat) : Nat := okey (0x0C100 + g) sub
def portState (p : Nat) : Nat := okey (0x0B200 + p) 1
def portWidth (p : Nat) : Nat := okey (0x0B200 + p) 2
def portRate (p : Nat) : Nat := okey (0x0B200 + p) 3
def portMaxRate (p : Nat) : Nat := okey (0x0B200 + p) 4
def portIde (p : Nat) : Nat := okey (0x0B200 + p) 5
def resetCause : Nat := okey 0x01011 0
def bringupStage : Nat := okey 0x01012 0
def bringupFaults : Nat := okey 0x01015 0
def clkEnable : Nat := okey 0x01020 0
def clkRunning : Nat := okey 0x01021 0
def pwrState : Nat := okey 0x01032 0
def frontMode : Nat := okey 0x01040 0
def backMode : Nat := okey 0x01041 0
def ctxBase : Nat := okey 0x04000 0
def gatherTicks : Nat := okey 0x04018 0
def scaleBase : Nat := okey 0x04020 0
def scaleCount : Nat := okey 0x04021 0
def libVersion : Nat := okey 0x04060 0
def libImage : Nat := okey 0x04061 0
def libState : Nat := okey 0x04063 0
def libPrograms : Nat := okey 0x04064 0
def outlierBenches : Nat := okey 0x04065 0
def rowBudget : Nat := okey 0x04066 0
def srSeed : Nat := okey 0x05002 0
def histBase : Nat := okey 0x05010 0
def histCount : Nat := okey 0x05011 0
def recipeBase : Nat := okey 0x05018 0
def recipeSize : Nat := okey 0x05019 0
def recipeHead : Nat := okey 0x0501A 0
def recipeTail : Nat := okey 0x0501B 0
def recipeDrops : Nat := okey 0x0501C 0
def gradExp : Nat := okey 0x05020 0
def quarBase : Nat := okey 0x05028 0
def quarSize : Nat := okey 0x05029 0
def quarHead : Nat := okey 0x0502A 0
def quarTail : Nat := okey 0x0502B 0
def quarDrops : Nat := okey 0x0502C 0
def kvCtxBase : Nat := okey 0x08000 0
def kvCtxCount : Nat := okey 0x08001 0
def kvCmdDone : Nat := okey 0x08011 0
def kvPolicy : Nat := okey 0x08020 0
def kvWaitTicks : Nat := okey 0x08021 0
def kvPool (p sub : Nat) : Nat := okey (0x08100 + p) sub
def cass (n sub : Nat) : Nat := okey (0x05100 + n) sub
def shard (a sub : Nat) : Nat := okey (0x04100 + a) sub
def stage (room sub : Nat) : Nat := okey (0x04040 + room) sub
end K

/-! ### Counters (15, R523, R524): units wrap modulo 2^64. The order inside a range of R523 is the model's (log 6). -/

namespace Ctr
def roomBusy : Nat := 0
def roomPacked : Nat := 2
def roomDrainWait : Nat := 4
def roomTilesDone : Nat := 6
def roomWakes : Nat := 8
def roomPoisonTiles : Nat := 10
def segWindowLoss : Nat := 12
def chunkedTiles : Nat := 13
def longsumLetters : Nat := 14
def pantryCe : Nat := 15
def pantryUe : Nat := 16
def larderAccTiles : Nat := 17
def landingTiles : Nat := 64
def landingSat : Nat := 65
def landingUfl : Nat := 66
def landingNf : Nat := 67
def landingPoison : Nat := 68
def landingZeroBlocks : Nat := 69
def landingSatBlocks : Nat := 70
def landingOutEntries : Nat := 71
def landingOutClamped : Nat := 72
def landingOutOff : Nat := 73
def replayConv : Nat := 74
def replayWhole : Nat := 75
def replayExhausted : Nat := 76
def rescaleBytes : Nat := 77
def recipeEvents : Nat := 78
def histStale : Nat := 79
def gradQuarantined : Nat := 80
def gradRepaired : Nat := 81
def gradRepairFail : Nat := 82
def gradRepairMiss : Nat := 83
def gradVoidChunks : Nat := 84
def glaziaFrozen : Nat := 85
def lbDispatched : Nat := 192
def lbErrors : Nat := 193
def lbLate : Nat := 194
def lbCtxMiss : Nat := 195
def lbDoorbellBad : Nat := 196
def lbCmdIgnored : Nat := 197
def lbMerges : Nat := 198
def lbReplayDispatch : Nat := 199
def porchFill : Nat := 200
def porchStarve : Nat := 201
def porchThreadCap : Nat := 202
def porchKeep : Nat := 203
def porchStage : Nat := 204
def porchRefetch : Nat := 205
def porchSector : Nat := 206
def porchOperandNf : Nat := 207
def porchMarkers : Nat := 208
def scaleSpread : Nat := 209
def porchPoison : Nat := 210
def porchBufCe : Nat := 211
def porchBufUe : Nat := 212
def stairTurned : Nat := 213
def porchShiftUfl : Nat := 214
def wsLetters : Nat := 256
def wsBusy : Nat := 258
def wsOutProducts : Nat := 259
def wsOutWait : Nat := 260
def wsEmptyRows : Nat := 261
def wsToppNf : Nat := 262
def wsDirectNf : Nat := 263
def wsStoreCe : Nat := 264
def wsStoreUe : Nat := 265
def wsFaults : Nat := 266
def kvRead : Nat := 320
def kvSkipped : Nat := 321
def kvHole : Nat := 322
def kvStale : Nat := 323
def kvAllocs : Nat := 324
def kvCow : Nat := 325
def kvFrees : Nat := 326
def kvDeferred : Nat := 327
def kvSketches : Nat := 328
def kvPoolEmpty : Nat := 329
def kvCmdBad : Nat := 330
def gzUpdates : Nat := 384
def gzElements : Nat := 385
def gzKeptMask : Nat := 386
def gzKeptVoid : Nat := 387
def gzKeptBadGrad : Nat := 388
def gzKeptNf : Nat := 389
def gzStoreUfl : Nat := 390
def gzPoisonState : Nat := 391
def gzGearMoves : Nat := 392
def gzGearAtLimit : Nat := 393
def gzUwExcursions : Nat := 394
def gzQuantElements : Nat := 395
def gzQuantNf : Nat := 396
def gzBusy : Nat := 397
def gzMemCe : Nat := 398
def gzMemUe : Nat := 399
def plSent : Nat := 448
def plReceived : Nat := 450
def plMisses : Nat := 452
def plLateAdded : Nat := 453
def plLateDropped : Nat := 454
def plVoidReceived : Nat := 455
def plTorn : Nat := 456
def plPoison : Nat := 457
def plOrphans : Nat := 458
def plDead : Nat := 459
def plTagDiscards : Nat := 460
def exStreams : Nat := 461
def exBytes : Nat := 462
def exFull : Nat := 463
def exDelta : Nat := 464
def exOverruns : Nat := 465
def exHostSkipped : Nat := 466
def guestApplied : Nat := 467
def guestRefused : Nat := 468
def odAccesses : Nat := 576
def odAborts : Nat := 577
def odHeld : Nat := 578
def xaDuplicates : Nat := 579
def xaAuthFailures : Nat := 580
def xaNotifySent : Nat := 581
def bellHost : Nat := 582
def bellHart : Nat := 583
def bellRepends : Nat := 584
def bellAckIgnored : Nat := 585
def bellHeld : Nat := 586
def bellWakes : Nat := 587
def clkFreewheel : Nat := 640
def clkSwitches : Nat := 641
def clkLosses : Nat := 642
def clkStarts : Nat := 644
def thermTicks : Nat := 660
def thermEntries : Nat := 668
def pwrHk : Nat := 669
def pwrPilot : Nat := 670
def pwrWakeWaits : Nat := 671
def atticCe : Nat := 768
def atticUe : Nat := 769
def cellarCe : Nat := 770
def cellarUe : Nat := 771
def larderCe : Nat := 772
def larderUe : Nat := 773
def scrubSectors : Nat := 774
def poisonInbound : Nat := 775
def hostWriteDrops : Nat := 776
def hdmWriteDrops : Nat := 777
def biSnoops : Nat := 778
def linkDowns : Nat := 779
def retrains : Nat := 781
def ideFails : Nat := 783
def uioTimeouts : Nat := 785
-- Decisions of the Housekeeper that R30 counts and no chapter names a counter for: kept behind the 896 units, so that no
-- snapshot shows them (DESIGN CHOICE, log 66)
def thermExits : Nat := 896
def clkGates : Nat := 897
def exportStarts : Nat := 898
def bankAdvances : Nat := 899
end Ctr

/-- Add n to a Meter unit. -/
def State.count (s : State) (u n : Nat) : State :=
  { s with meter := aset 0 s.meter u ((aget 0 s.meter u + n) % 2 ^ 64) }

/-! ### Access to memory. Host space lies behind CXL port 0: while that port is not UP, reads of it are poisoned and writes
to it are dropped and counted (R537). -/

/-- Is host space out of reach? -/
def State.hostDown (s : State) : Bool := s.odv (K.portState 0) != 2

def State.poisonedAt (s : State) (sp : Space) (a n : Nat) : Bool :=
  (sp == .host && n != 0 && s.hostDown) || (s.mem sp).poisonedRange a n

/-- A change of one memory, dropped where R537 says so. -/
def State.put (s : State) (sp : Space) (f : Mem → Mem) : State :=
  if sp == .host && s.hostDown then s.count Ctr.hostWriteDrops 1 else s.setMem sp (f (s.mem sp))

def State.wr (s : State) (sp : Space) (a n v : Nat) : State := s.put sp fun m => m.writeNat a n v
def State.wrBytes (s : State) (sp : Space) (a : Nat) (b : List Byte) : State := s.put sp fun m => m.write a b
def State.wrCells (s : State) (sp : Space) (cs : List Host.Cell) : State := s.put sp fun m => m.writeCells cs

/-- Poison marks on every sector of n bytes. -/
def Mem.poisonRange (m : Mem) (a n : Nat) : Mem :=
  if n == 0 then m else (List.range ((a + n - 1) / 32 + 1 - a / 32)).foldl (fun m i => m.markPoison (a / 32 + i)) m
def State.poison (s : State) (sp : Space) (a n : Nat) : State := s.put sp fun m => m.poisonRange a n

/-! ### Free values -/

/-- A fresh value the spec leaves open, and the state with the counter of draws advanced. -/
def State.free (s : State) : Nat × State := (Config.freeNat s.freeCtr, { s with freeCtr := s.freeCtr + 1 })

/-! ### Bellboard (15, R510 to R518) -/

namespace Bell
def lbError : Nat := 256
def doorbellBad : Nat := 257
def recipe : Nat := 258
def gradQuarantine : Nat := 259
def kvSkip : Nat := 260
def kvCmdBad : Nat := 261
def kvPoolEmpty : Nat := 262
def wsLibFail : Nat := 263
def wsFault : Nat := 264
def glaziaBadGrad : Nat := 265
def glaziaPoison : Nat := 266
def uwExcursion : Nat := 267
def guestRestored : Nat := 268
def exportLate : Nat := 269
def exportFail : Nat := 270
def pelotonDead : Nat := 271
def pelotonExpelled : Nat := 272
def roomDerated : Nat := 273
def clkSourceLost : Nat := 274
def clkFreewheel : Nat := 275
def thermalThrottle : Nat := 276
def bringupStage : Nat := 277
def memUe : Nat := 278
def cxlLink : Nat := 279
end Bell

def bellRest : BellTarget := ⟨0, 0, false, false⟩

def State.bellTarget (s : State) (x : Nat) : BellTarget := aget bellRest s.bell.targets x
def State.setBellTarget (s : State) (x : Nat) (t : BellTarget) : State :=
  { s with bell := { s.bell with targets := aset bellRest s.bell.targets x t } }

/-- The route word of a source now in effect: host part as accepted and applied, hart part as the firmware set it. -/
def State.bellRoute (s : State) (n : Nat) : Nat := aget 0 s.bell.routes n

/-- The targets a source is routed to (R513): a host vector, and a hart as 2,048 + h. -/
def State.bellTargetsOf (s : State) (n : Nat) : List Nat :=
  let w := s.bellRoute n
  (if bit w 11 then [bits w 0 11] else []) ++ (if bit w 14 then [2048 + bits w 12 2] else [])

/-- A rise counted at a target (R516). -/
def State.bellRise (s : State) (x : Nat) : State :=
  let t := s.bellTarget x
  s.setBellTarget x (if t.waiting then { t with count := t.count + 1 } else ⟨t.count + 1, 0, true, t.inService⟩)

/-- The moment of a source's last event, as its tick plus one (R512). -/
def State.noteEvent (s : State) (n : Nat) : State :=
  { s with bell := { s.bell with raisedAt := aset 0 s.bell.raisedAt n (s.tick + 1) } }

/-- A source goes high; its rise is counted at every target it is routed to (R516, R518), and a NOTIFY of it is due (R461).
A source already high does not rise. -/
def State.raise (s : State) (n : Nat) : State :=
  let s := s.noteEvent n
  if s.bell.level.contains n then s
  else (s.bellTargetsOf n).foldl State.bellRise { s with bell := { s.bell with
    level := sadd s.bell.level n, notified := sdel s.bell.notified n } }

/-- A source goes low. -/
def State.lower (s : State) (n : Nat) : State := { s with bell := { s.bell with level := sdel s.bell.level n } }

/-! ### Memory errors (16, R560, R564) -/

def memKind : Space → Nat
  | .attic => 1
  | .cellar => 2
  | .larder => 3
  | .host => 4

/-- An uncorrectable error of kind k (R564): counted by the caller, recorded, and MEM_UE raised. -/
def State.memRecord (s : State) (k addr : Nat) : State :=
  (((s.setOd (okey 0x0B300 1) k).setOd (okey 0x0B300 2) addr).setOd (okey 0x0B300 3) s.tick).raise Bell.memUe

/-- MEM_UE of a sector of a memory: it is poisoned (R560). -/
def State.memUe (s : State) (sp : Space) (sector : Nat) : State :=
  let u := match sp with | .attic => Ctr.atticUe | .cellar => Ctr.cellarUe | _ => Ctr.larderUe
  ((s.poison sp (32 * sector) 32).count u 1).memRecord (memKind sp) (32 * sector)

/-- An uncorrectable error of a station's own memory, with the unit that counts it; which address the record shows for such a
memory is not stated (R564, R565; free, log 53). -/
def State.sramUe (s : State) (unit : Nat) : State :=
  let (a, s) := s.free
  (s.count unit 1).memRecord 4 (a % 2 ^ 64)

/-! ### What leaves the part -/

def State.send (s : State) (m : Sent) : State := { s with sent := s.sent ++ [m] }

/-- Is traffic between this part and its peers through a port dropped, because the port's IDE stream that carries it is
insecure (R547)? Which stream of the port failed is not told; it is taken for the one that carries this traffic (DESIGN
CHOICE, log 67). -/
def State.insecure (s : State) (p : Nat) : Bool := s.odv (K.portIde p) == 2

/-- A frame to a peer leaves by a port, unless its stream there is insecure (R547). -/
def State.sendPeer (s : State) (p : Nat) (m : Sent) : State := if s.insecure p then s else s.send m

/-! ### Station clocks (R486) -/

/-- Frequency cap of PLL p at a throttle level (R489). -/
def throttleMhz (p level : Nat) : Nat :=
  match p with
  | 0 => ([1200, 1100, 1000, 900, 800, 600, 400, 300] : List Nat).getD level 300
  | 1 => if level ≤ 4 then 1600 else if level == 5 then 1200 else if level == 6 then 800 else 600
  | _ => 1000

/-- The frequency PLL p runs at when it is locked (R477, R480): the lowest of the stage's, the throttle level's and the
cap; its floor while it, or another of the fast PLLs, is in Freewheel. -/
def State.pllTarget (s : State) (p : Nat) : Nat :=
  let free (q : Nat) : Bool := s.odv (okey (0x01100 + q) 4) == 3
  if free p || (p != 2 && (free 0 || free 1 || free 3)) then pllFloor p
  else
    let stage := if s.odv K.bringupStage == 3 then pllBs3 p else pllBs2 p
    min (min stage (throttleMhz p (s.odv (okey 0x01051 0)))) (s.odv (okey (0x01100 + p) 2))

def State.pllState (s : State) (p : Nat) : Nat := s.odv (okey (0x01100 + p) 4)
def State.setPll (s : State) (p st mhz : Nat) : State :=
  (s.setOd (okey (0x01100 + p) 4) st).setOd (okey (0x01100 + p) 3) mhz

/-- Every running PLL takes its frequency (R477). -/
def State.retunePlls (s : State) : State :=
  [0, 1, 2, 3].foldl (fun s p => if s.pllState p == 2 || s.pllState p == 3 then s.setPll p (s.pllState p) (s.pllTarget p) else s) s

/-- A PLL that is off starts (R486). -/
def State.startPll (s : State) (p : Nat) : State :=
  if s.pllState p == 0 then (let t := s.setPll p 2 0; t.setPll p 2 (t.pllTarget p)) else s

/-- The PLL of a station's clock (R476), by its enable bit. -/
def pllOf (b : Nat) : Nat := if b == 7 || b == 8 then 0 else if b == 12 || b == 13 then 3 else if b ≤ 3 then 2 else 1

/-- In Housekeeping a demand wakes the module to Service; what demanded it waits meanwhile (R486, R492). -/
def State.wake (s : State) : State :=
  if s.odv K.pwrState == 1 && 2 ≤ s.odv K.bringupStage then
    ((s.setOd K.pwrState 2).count Ctr.pwrWakeWaits 1).startPll 1
  else s

/-- A station's clock starts (R486), counted per station (R509). -/
def State.startStation (s : State) (b : Nat) : State :=
  if bit (s.odv K.clkRunning) b then s
  else ((s.startPll (pllOf b)).setOd K.clkRunning (s.odv K.clkRunning + 2 ^ b)).count (Ctr.clkStarts + b) 1

/-- A demand: every station named whose enable bit is set runs from now on; in Housekeeping the module wakes to Service
first (R486, R492). -/
def State.demand (s : State) (stations : List Nat) : State :=
  let on := stations.filter fun b => bit (s.odv K.clkEnable) b
  if on.isEmpty then s else on.foldl State.startStation s.wake

/-! ### Entry statistics (15, R530): fields 0 LETTERS, 1 CONV_REPLAYS, 2 WHOLE_REPLAYS, 3 EXHAUSTED, 4 RECIPE_EVENTS,
5 SAT_ELEMENTS, each saturating at 2^32 − 1. -/

def State.entryStat (s : State) (e field n : Nat) : State :=
  { s with mtr := { s.mtr with
      stats := aset 0 s.mtr.stats (8 * e + field) (min (2 ^ 32 - 1) (aget 0 s.mtr.stats (8 * e + field) + n)) } }

/-! ### Recipe ring (R175 to R177) -/

/-- The held source RECIPE is high while TAIL differs from HEAD (R511). -/
def State.recipeLevel (s : State) : State :=
  if s.odv K.recipeHead == s.odv K.recipeTail then s.lower Bell.recipe else s.raise Bell.recipe

/-- The current bank advances (R25): under AUTO its export waits to start, in place of one that has not started (R383). -/
def State.advanceBank (s : State) (b : Nat) : State :=
  let s := (s.setOd K.bankCurrent b).count Ctr.bankAdvances 1
  if s.cap K.exMode == 1 then { s with ex := { s.ex with pending := some b } } else s

/-- One record into a ring of n slots of `size` bytes: at HEAD when not full, else dropped (R177, R311). -/
def State.ringFull (s : State) (head tail size : Nat) : Bool :=
  (s.odv head + 2 ^ 32 - s.odv tail) % 2 ^ 32 == size

end Sys2Proof.Machine
end

