-- ==== Sys2Proof/Machine/Bellboard.lean ====
section
/-! DEFINITION. The Bellboard (15, R510 to R522): clearing and acknowledging, routes and coalescing, delivery, and the
passing of Pilot ticks (14, R475). -/

namespace Sys2Proof.Machine

/-- Is a source latched (R511)? -/
def bellLatched (n : Nat) : Bool := decide (256 ≤ n) && decide (n ≤ 279) && n != 258

/-- The coalescing limits of a target (R515): host vectors as written, harts as the firmware set them. -/
def State.bellLimits (s : State) (x : Nat) : Nat :=
  if x < 2048 then s.odv (okey (0x09800 + x) 0) else aget 1 s.bell.hartLimits (x - 2048)

/-- Are a target's limits met (R516)? -/
def State.bellMet (s : State) (x : Nat) : Bool :=
  let t := s.bellTarget x
  let l := s.bellLimits x
  t.waiting && (decide (bits l 0 16 ≤ t.count) || decide (bits l 16 24 ≤ t.timer))

def State.bellGlobal (s : State) : Bool := s.odv (okey 0x09000 0) == 1

/-- An MSI-X message is sent, or its pending bit set while the vector or the function is masked (R519). -/
def State.msixSend (s : State) (v : Nat) : State :=
  if s.bell.functionMask || !s.bell.unmasked.contains v then
    { s with bell := { s.bell with pendingBits := sadd s.bell.pendingBits v } }
  else s.send (.msix v)

/-- BELL_DELIVER of target x (R516, R519): a met target that is not in service, under the global enable. -/
def State.bellDeliver (s : State) (x : Nat) : State :=
  if 2052 ≤ x || !s.bellMet x || (s.bellTarget x).inService || !s.bellGlobal then s
  else
    let t := s.bellTarget x
    let s := s.setBellTarget x ⟨0, t.timer, false, true⟩
    if x < 2048 then (s.count Ctr.bellHost 1).msixSend x else (s.count Ctr.bellHart 1).send (.hartIrq (x - 2048))

/-- Every target that stands (in increasing number, host vectors before harts) is offered a delivery (R520). -/
def State.bellDeliverAll (s : State) : State := (s.bell.targets.map (·.1)).foldl State.bellDeliver s

/-- BELL_CLEAR of a latched source; an event of the same Pilot tick keeps it high (R512). -/
def State.bellClear (s : State) (n : Nat) : State :=
  if bellLatched n && aget 0 s.bell.raisedAt n != s.tick + 1 then s.lower n else s

/-- Is any source routed to a target high? -/
def State.bellAnyHigh (s : State) (x : Nat) : Bool := s.bell.level.any fun n => (s.bellTargetsOf n).contains x

/-- BELL_ACK of host vector v (R516, R517). -/
def State.bellAck (s : State) (v : Nat) : State :=
  let t := s.bellTarget v
  if !t.inService then s.count Ctr.bellAckIgnored 1
  else if s.bellAnyHigh v && !t.waiting then (s.setBellTarget v ⟨1, 0, true, false⟩).count Ctr.bellRepends 1
  else s.setBellTarget v { t with inService := false }

/-- A route write is accepted; it takes effect in the next Pilot tick (R513, R514). -/
def State.bellRouteWrite (s : State) (n v : Nat) : State :=
  { s.setOd (okey (0x09400 + n) 0) (v % 4096) with
    bell := { s.bell with newRoutes := aset 4096 s.bell.newRoutes n (v % 4096) } }

/-- One accepted route takes effect: a source that is high rises at a target it is newly routed to (R514). -/
def State.bellReroute (s : State) (n v : Nat) : State :=
  let old := s.bellTargetsOf n
  let w := v % 4096 + aget 0 s.bell.hartRoutes n
  let s := { s with bell := { s.bell with routes := aset 0 s.bell.routes n w } }
  if s.bell.level.contains n then ((s.bellTargetsOf n).filter fun x => !old.contains x).foldl State.bellRise s else s

/-- Of n Pilot ticks, in how many is target x met and not in service, its timer running on (R516)? -/
def State.bellMetIn (s : State) (x n : Nat) : Nat :=
  let t := s.bellTarget x
  let l := s.bellLimits x
  if !t.waiting || t.inService then 0
  else if bits l 0 16 ≤ t.count then n else n - (bits l 16 24 - (t.timer + 1))

/-- What n Pilot ticks do at the Bellboard (R514, R516): accepted routes take effect, timers run, and the ticks in which
the global disable holds a met target are counted (R534). -/
def State.bellTicks (s : State) (n : Nat) : State :=
  let s := s.bell.newRoutes.foldl (fun s x => s.bellReroute x.1 x.2) s
  let held := if s.bellGlobal then 0 else (s.bell.targets.map fun x => s.bellMetIn x.1 n).foldl max 0
  let s := { s with bell := { s.bell with
    newRoutes := []
    targets := s.bell.targets.map fun x => (x.1, if x.2.waiting then { x.2 with timer := x.2.timer + n } else x.2) } }
  if held == 0 then s else s.count Ctr.bellHeld held

/-! ### Time -/

/-- What happens in n Pilot ticks whatever is commanded: the count advances, the Bellboard's timers run, and the ticks are
counted at the present throttle level (R475, R509, R516). -/
def State.runTicks (s : State) (n : Nat) : State :=
  if n == 0 then s
  else
    let s := ({ s with tick := (s.tick + n) % 2 ^ 64 }).bellTicks n
    if s.pwr.pwrGood then s.count (Ctr.thermTicks + s.odv (okey 0x01051 0)) n else s

/-- The instant C of a snapshot: what the units and the entry statistics hold then is what the snapshot shows (R526). -/
def State.meterCut (s : State) : State := { s with mtr := { s.mtr with cut := some (s.meter, s.mtr.stats) } }

/-- n Pilot ticks, in which a pending snapshot of edge E may meet its instant C = E − 2 (R526). -/
def State.ticks (s : State) (n : Nat) : State :=
  match s.mtr.edge with
  | none => s.runTicks n
  | some e =>
    if s.tick + 2 < e && e ≤ s.tick + n + 2 then (s.runTicks (e - 2 - s.tick)).meterCut.runTicks (n - (e - 2 - s.tick))
    else s.runTicks n

/-- A Pilot tick, which is what a step on an empty queue is (DESIGN CHOICE, log 2): the Pilot domain runs on the auxiliary
supply. -/
def State.pilotTick (s : State) : State := if s.pwr.auxOn then s.ticks 1 else s

/-- An event at a stated Pilot time happens no earlier than that time: the ticks up to it pass first (DESIGN CHOICE,
log 2). -/
def State.atLeast (s : State) (t : Nat) : State := s.ticks (t - s.tick)

/-- A vector's limits are written; they apply to the running count and timer, and deliver at once if met (R516). -/
def State.bellVectorWrite (s : State) (v w : Nat) : State := (s.setOd (okey (0x09800 + v) 0) (w % 2 ^ 40)).bellDeliver v

/-- BELL_GLOBAL_EN is written; enabling delivers every met target (R520). -/
def State.bellGlobalWrite (s : State) (v : Nat) : State :=
  let s := s.setOd (okey 0x09000 0) v
  if v == 1 then s.bellDeliverAll else s

/-- The mask of vector v (or, at 2,048, the function mask) clears, and the messages its pending bits stand for are
sent (R519). -/
def State.msixUnmask (s : State) (v : Nat) : State :=
  let s := if v < 2048 then { s with bell := { s.bell with unmasked := sadd s.bell.unmasked v } }
    else { s with bell := { s.bell with functionMask := false } }
  let due := s.bell.pendingBits.filter fun x => (v == 2048 || x == v) && !s.bell.functionMask && s.bell.unmasked.contains x
  due.foldl (fun s x => ({ s with bell := { s.bell with pendingBits := sdel s.bell.pendingBits x } }).send (.msix x)) s

/-- The mask of vector v, or at 2,048 the function mask, is set (R519). -/
def State.msixMask (s : State) (v : Nat) : State :=
  if v < 2048 then { s with bell := { s.bell with unmasked := sdel s.bell.unmasked v } }
  else { s with bell := { s.bell with functionMask := true } }

/-! ### What the Bellboard's objects read -/

def bitSet (l : List Nat) : Nat := l.foldl (fun a n => a + 2 ^ n) 0

/-- BELL_LEVEL, or the pending bits of LB_DONE0 to 255 as LETTERBOX_NOTIFY_PENDING (R223). -/
def State.bellLevels (s : State) (lo hi : Nat) : Nat := bitSet ((s.bell.level.filter fun n => lo ≤ n && n < hi).map (· - lo))

def State.bellInService (s : State) : Nat :=
  bitSet ((s.bell.targets.filter fun x => x.1 < 2048 && x.2.inService).map (·.1))

/-- A BELL_ROUTE object (R513). -/
def State.bellRouteRead (s : State) (n : Nat) : Nat :=
  s.odv (okey (0x09400 + n) 0) + aget 0 s.bell.hartRoutes n + (if bellLatched n then 2 ^ 15 else 0)

/-- A BELL_VECTOR object, or a hart's (R515). -/
def State.bellVectorRead (s : State) (x : Nat) : Nat :=
  let t := s.bellTarget x
  s.bellLimits x % 2 ^ 40 + (if t.inService then 2 ^ 40 else 0) + (if t.waiting then 2 ^ 41 else 0)

end Sys2Proof.Machine
end

