-- ==== Sys2Proof/Machine/Meter.lean ====
section
/-! DEFINITION. The Meter's snapshots and telemetry (15, R523 to R533). -/

namespace Sys2Proof.Machine

/-- A METER_SNAP write or a SNAPSHOT: the edge is six ticks on; one that arrives before the edge joins it (R525, R527). -/
def State.snapStart (s : State) : State :=
  match s.mtr.edge with
  | some _ => s
  | none => { s with mtr := { s.mtr with edge := some (s.tick + 6), cut := none } }

/-- A 32-bit word as four bytes of the ratio table (R369): NaN where there is none. -/
def ratioWord (tab : List Byte) (e : Nat) : Nat := if tab.length < 4 * e + 4 then 0x7FC00000 else ofBytes ((tab.drop (4 * e)).take 4)

/-- The record of a Cassette entry, with its statistics (R530). -/
def State.entryRecord (s : State) (stats : List (Nat × Nat)) (e : Nat) : List Byte :=
  let f (i : Nat) : List Byte := leBytes 4 (aget 0 stats (8 * e + i))
  f 0 ++ f 1 ++ f 2 ++ f 3 ++ f 4 ++ f 5 ++ leBytes 4 (ratioWord (s.domain K.gzRatio) e) ++
    leBytes 1 (s.cap (K.cass e 3)) ++ leBytes 3 (if bit (s.odv K.gzExcursions) e then 1 else 0)

/-- SNAPSHOT_EDGE at edge E: every unit and record is copied into its shadow as it stood at instant C (R525, R526, R530). -/
def State.snapEdge (s : State) : State :=
  match s.mtr.edge with
  | none => s
  | some e =>
    let s := s.atLeast e
    let n := (s.odv (okey 0x0A001 0) + 1) % 2 ^ 32
    let (units, stats) := s.mtr.cut.getD (s.meter, s.mtr.stats)
    let recs := (List.range 1024).flatMap (s.entryRecord stats)
    let s := (s.setOd (okey 0x0A001 0) n).setOd (okey 0x0A002 0) e
    { s with mtr := { s.mtr with shadow := units, statShadow := recs, edge := none, cut := none } }

/-- METER_SHADOW (R528): all zero before the first snapshot of a start. -/
def State.meterShadow (s : State) : List Byte :=
  if s.mtr.statShadow.isEmpty then List.replicate 7232 0
  else
    leBytes 4 (s.odv (okey 0x0A001 0)) ++ leBytes 4 0 ++ leBytes 8 (s.odv (okey 0x0A002 0)) ++ leBytes 2 896 ++
      List.replicate 46 0 ++ (List.range 896).flatMap fun u => leBytes 8 (aget 0 s.mtr.shadow u)

/-- METER_ENTRY_STATS; before the first snapshot of a start its records read as the counts do at a start. -/
def State.entryStats (s : State) : List Byte :=
  if s.mtr.statShadow.isEmpty then List.replicate 32768 0 else s.mtr.statShadow

/-- One entry of the unit map: a name of at most 24 characters and an instance (R529). -/
def mapEntry (name : String) (inst : Nat) : List Byte :=
  let b : List Byte := (name.toList.map fun c => BitVec.ofNat 8 c.toNat).take 24
  b ++ List.replicate (24 - b.length) 0 ++ leBytes 1 inst ++ List.replicate 7 0

/-- Names of counters: unit of the first instance, its number, how many instances, name (R103, R140, R158, R226, R258,
R289, R312, R342, R378, R424, R470, R509, R534, R566). The order inside a range of R523 is the model's (log 6). -/
def unitNames0 : List (Nat × Nat × Nat × String) := [
  (0, 0, 2, "ROOM_BUSY_CYCLES"), (2, 0, 2, "ROOM_PACKED_CYCLES"), (4, 0, 2, "ROOM_DRAIN_WAIT_CYCLES"), (6, 0, 2, "ROOM_TILES_DONE"),
  (8, 0, 2, "ROOM_WAKES"), (10, 0, 2, "ROOM_POISON_TILES"), (12, 0, 1, "SEG_WINDOW_LOSS"), (13, 0, 1, "CHUNKED_TILES"),
  (14, 0, 1, "LONGSUM_LETTERS"), (15, 0, 1, "PANTRY_CE"), (16, 0, 1, "PANTRY_UE"), (17, 0, 1, "LARDER_ACC_TILES"),
  (64, 0, 1, "LANDING_TILES"), (65, 0, 1, "LANDING_SAT"), (66, 0, 1, "LANDING_UFL"), (67, 0, 1, "LANDING_NF"),
  (68, 0, 1, "LANDING_POISON"), (69, 0, 1, "LANDING_ZERO_BLOCKS"), (70, 0, 1, "LANDING_SAT_BLOCKS"), (71, 0, 1, "LANDING_OUT_ENTRIES"),
  (72, 0, 1, "LANDING_OUT_CLAMPED"), (73, 0, 1, "LANDING_OUT_OFF_BLOCKS"), (74, 0, 1, "REPLAY_CONV"), (75, 0, 1, "REPLAY_WHOLE"),
  (76, 0, 1, "REPLAY_EXHAUSTED"), (77, 0, 1, "RESCALE_BYTES"), (78, 0, 1, "RECIPE_EVENTS"), (79, 0, 1, "HIST_STALE"),
  (80, 0, 1, "GRAD_QUARANTINED_TILES"), (81, 0, 1, "GRAD_REPAIRED_TILES"), (82, 0, 1, "GRAD_REPAIR_FAIL"), (83, 0, 1, "GRAD_REPAIR_MISS")]

def unitNames1 : List (Nat × Nat × Nat × String) := [
  (84, 0, 1, "GRAD_VOID_CHUNKS"), (85, 0, 1, "GLAZIA_FROZEN_GROUPS"), (192, 0, 1, "LB_DISPATCHED"), (193, 0, 1, "LB_ERRORS"),
  (194, 0, 1, "LB_LATE"), (195, 0, 1, "LB_CTX_MISS"), (196, 0, 1, "LB_DOORBELL_BAD"), (197, 0, 1, "LB_CMD_IGNORED"),
  (198, 0, 1, "LB_MERGES"), (199, 0, 1, "LB_REPLAY_DISPATCH"), (200, 0, 1, "PORCH_FILL_CYCLES"), (201, 0, 1, "PORCH_STARVE_CYCLES"),
  (202, 0, 1, "PORCH_THREAD_CAP"), (203, 0, 1, "PORCH_KEEP_TILES"), (204, 0, 1, "PORCH_STAGE_TILES"), (205, 0, 1, "PORCH_REFETCH_TILES"),
  (206, 0, 1, "PORCH_SECTOR_LETTERS"), (207, 0, 1, "PORCH_OPERAND_NF"), (208, 0, 1, "PORCH_MARKERS"), (209, 0, 1, "SCALE_SPREAD"),
  (210, 0, 1, "PORCH_POISON_ELEMENTS"), (211, 0, 1, "PORCH_BUF_CE"), (212, 0, 1, "PORCH_BUF_UE"), (213, 0, 1, "STAIR_TURNED_BLOCKS"),
  (214, 0, 1, "PORCH_SHIFT_UFL"), (256, 0, 2, "WS_LETTERS"), (258, 0, 1, "WS_BENCH_BUSY_CYCLES"), (259, 0, 1, "WS_OUTLIER_PRODUCTS"),
  (260, 0, 1, "WS_OUTLIER_WAIT_CYCLES"), (261, 0, 1, "WS_EMPTY_ROWS"), (262, 0, 1, "WS_TOPP_NF"), (263, 0, 1, "WS_DIRECT_NF")]

def unitNames2 : List (Nat × Nat × Nat × String) := [
  (264, 0, 1, "WS_STORE_CE"), (265, 0, 1, "WS_STORE_UE"), (266, 0, 1, "WS_FAULTS"), (320, 0, 1, "KV_PAGES_READ"),
  (321, 0, 1, "KV_PAGES_SKIPPED"), (322, 0, 1, "KV_HOLE_PAGES"), (323, 0, 1, "KV_STALE_PAGES"), (324, 0, 1, "KV_ALLOCS"),
  (325, 0, 1, "KV_COW_COPIES"), (326, 0, 1, "KV_FREES"), (327, 0, 1, "KV_DEFERRED_FREES"), (328, 0, 1, "KV_SKETCHES"),
  (329, 0, 1, "KV_POOL_EMPTY_EVENTS"), (330, 0, 1, "KV_CMD_BAD"), (384, 0, 1, "GLAZIA_UPDATES"), (385, 0, 1, "GLAZIA_ELEMENTS"),
  (386, 0, 1, "GLAZIA_KEPT_MASK"), (387, 0, 1, "GLAZIA_KEPT_VOID"), (388, 0, 1, "GLAZIA_KEPT_BAD_GRAD"), (389, 0, 1, "GLAZIA_KEPT_NF_RESULT"),
  (390, 0, 1, "GLAZIA_STORE_UFL"), (391, 0, 1, "GLAZIA_POISON_STATE"), (392, 0, 1, "GLAZIA_GEAR_MOVES"), (393, 0, 1, "GLAZIA_GEAR_AT_LIMIT"),
  (394, 0, 1, "GLAZIA_UW_EXCURSIONS"), (395, 0, 1, "GLAZIA_QUANT_ELEMENTS"), (396, 0, 1, "GLAZIA_QUANT_NF"), (397, 0, 1, "GLAZIA_BUSY_CYCLES"),
  (398, 0, 1, "GLAZIA_MEM_CE"), (399, 0, 1, "GLAZIA_MEM_UE"), (448, 0, 2, "PELOTON_BYTES_SENT"), (450, 0, 2, "PELOTON_BYTES_RECEIVED")]

def unitNames3 : List (Nat × Nat × Nat × String) := [
  (452, 0, 1, "PELOTON_MISSES"), (453, 0, 1, "PELOTON_LATE_ADDED"), (454, 0, 1, "PELOTON_LATE_DROPPED"), (455, 0, 1, "PELOTON_VOID_RECEIVED"),
  (456, 0, 1, "PELOTON_TORN_CHUNKS"), (457, 0, 1, "PELOTON_POISON_INPUTS"), (458, 0, 1, "PELOTON_ORPHAN_CHUNKS"), (459, 0, 1, "PELOTON_DEAD_DECLARED"),
  (460, 0, 1, "PELOTON_TAG_DISCARDS"), (461, 0, 1, "EXPORT_STREAMS"), (462, 0, 1, "EXPORT_BYTES"), (463, 0, 1, "EXPORT_FULL"),
  (464, 0, 1, "EXPORT_DELTA"), (465, 0, 1, "EXPORT_OVERRUNS"), (466, 0, 1, "EXPORT_HOST_SKIPPED"), (467, 0, 1, "GUEST_APPLIED"),
  (468, 0, 1, "GUEST_REFUSED"), (576, 0, 1, "OD_ACCESSES"), (577, 0, 1, "OD_ABORTS"), (578, 0, 1, "OD_HELD_WRITES"),
  (579, 0, 1, "XAXIA_DUPLICATES"), (580, 0, 1, "XAXIA_AUTH_FAILURES"), (581, 0, 1, "XAXIA_NOTIFY_SENT"), (582, 0, 2, "BELL_DELIVERIES"),
  (584, 0, 1, "BELL_REPENDS"), (585, 0, 1, "BELL_ACK_IGNORED"), (586, 0, 1, "BELL_HELD_BY_DISABLE"), (587, 0, 1, "BELL_WAKES"),
  (640, 0, 1, "CLK_FREEWHEEL_ENTRIES"), (641, 0, 1, "CLK_SOURCE_SWITCHES"), (642, 0, 1, "CLK_SOURCE_LOSSES"), (648, 4, 10, "CLK_STATION_STARTS")]

def unitNames4 : List (Nat × Nat × Nat × String) := [
  (660, 0, 8, "THERM_LEVEL_TICKS"), (668, 0, 1, "THERM_THROTTLE_ENTRIES"), (669, 0, 1, "PWR_HK_ENTRIES"), (670, 0, 1, "PWR_PILOT_ENTRIES"),
  (671, 0, 1, "PWR_WAKE_WAITS"), (768, 0, 1, "ATTIC_CE"), (769, 0, 1, "ATTIC_UE"), (770, 0, 1, "CELLAR_CE"),
  (771, 0, 1, "CELLAR_UE"), (772, 0, 1, "LARDER_CE"), (773, 0, 1, "LARDER_UE"), (774, 0, 1, "SCRUB_SECTORS"),
  (775, 0, 1, "POISON_INBOUND"), (776, 0, 1, "HOST_WRITE_DROPS"), (777, 0, 1, "HDM_WRITE_DROPS"), (778, 0, 1, "BI_SNOOPS"),
  (779, 0, 2, "CXL_LINK_DOWNS"), (781, 0, 2, "CXL_RETRAINS"), (783, 0, 2, "IDE_INTEGRITY_FAILS"), (785, 0, 1, "UIO_TIMEOUTS")]

def unitNames : List (Nat × Nat × Nat × String) := unitNames0 ++ unitNames1 ++ unitNames2 ++ unitNames3 ++ unitNames4

/-- The entry of unit u; a reserved unit's is all zero. -/
def unitEntry (u : Nat) : List Byte :=
  match unitNames.find? fun x => x.1 ≤ u && u < x.1 + x.2.2.1 with
  | some x => mapEntry x.2.2.2 (if x.2.2.1 == 1 then 0 else x.2.1 + (u - x.1))
  | none => List.replicate 32 0

/-- METER_UNIT_MAP (R529). -/
def unitMap : List Byte := (List.range 896).flatMap unitEntry

end Sys2Proof.Machine
end

