-- ==== Sys2Proof/Machine/Pages.lean ====
section
/-! DEFINITION. KV contexts, page lists, frames and page headers as they lie in memory, and the mapping of positions to
list entries (10, R313 to R323). -/

namespace Sys2Proof.Machine

/-- Address of context n (R317). -/
def State.kvCtxAddr (s : State) (n : Nat) : Nat := s.odv K.kvCtxBase + 64 * n

def parseKvCtx (n v : Nat) : KvCtx :=
  { n := n, listAddr := bits v 0 48, listSpace := bits v 48 2, log2Page := bits v 50 5, mode := bits v 55 2,
    pool := bits v 57 4, sketchEn := bit v 61, skHdim := bit v 62, length := bits v 64 25, winPages := bits v 96 16,
    sinkPages := bits v 112 4, fmtMask := bits v 128 16, rowElems := bits v 144 16, sketchBase := bits v 160 48,
    sketchSpace := bits v 208 2, skHeads := bits v 210 6 + 1, skOff := bits v 216 16, selAddr := bits v 256 48,
    selSpace := bits v 304 2, selP := bits v 306 10 + 1, maxPages := bits v 320 20 + 1 }

def State.kvCtx (s : State) (n : Nat) : KvCtx := parseKvCtx n (s.rd .attic (s.kvCtxAddr n) 64)

/-- Tokens per page. -/
def KvCtx.page (c : KvCtx) : Nat := 2 ^ c.log2Page

/-- ⌈LENGTH / S⌉. -/
def KvCtx.lPages (c : KvCtx) : Nat := cdiv c.length c.page

/-- One page list entry: poisoned, VALID, FRAME (R317). -/
def State.kvEntry (s : State) (c : KvCtx) (j : Nat) : Bool × Bool × Nat :=
  let sp := spaceOf c.listSpace
  let a := c.listAddr + 4 * j
  let v := s.rd sp a 4
  (s.poisonedAt sp a 4, bit v 31, bits v 0 24)

def State.setKvEntry (s : State) (c : KvCtx) (j : Nat) (valid : Bool) (frame : Nat) : State :=
  s.wr (spaceOf c.listSpace) (c.listAddr + 4 * j) 4 (frame % 2 ^ 24 + (if valid then 2 ^ 31 else 0))

def State.poolSpace (s : State) (p : Nat) : Space := spaceOf (s.odv (K.kvPool p 2) % 2)
def State.frameBytes (s : State) (p : Nat) : Nat := s.odv (K.kvPool p 3)

/-- Address of frame f of pool p (R319). -/
def State.frameAddr (s : State) (p f : Nat) : Nat := s.odv (K.kvPool p 1) + f * s.frameBytes p

def parseHdr (v : Nat) : PageHdr :=
  { format := bits v 0 6, blkCode := bits v 6 3, log2Tokens := bits v 12 5, firstPos := bits v 24 24,
    tsExp := bits v 48 8, tokens := bits v 64 17, refcount := bits v 96 32, pins := bits v 128 32,
    sketchAddr := bits v 160 48, sketchSpace := bits v 208 2, sketched := bit v 210, ownerCtx := bits v 224 20,
    pool := bits v 244 4, frame := bits v 256 24, rowElems := bits v 280 16 }

def PageHdr.word (h : PageHdr) : Nat :=
  h.format + h.blkCode * 2 ^ 6 + h.log2Tokens * 2 ^ 12 + h.firstPos * 2 ^ 24 + h.tsExp * 2 ^ 48 + h.tokens * 2 ^ 64
    + h.refcount % 2 ^ 32 * 2 ^ 96 + h.pins % 2 ^ 32 * 2 ^ 128 + h.sketchAddr * 2 ^ 160 + h.sketchSpace * 2 ^ 208
    + (if h.sketched then 2 ^ 210 else 0) + h.ownerCtx * 2 ^ 224 + h.pool * 2 ^ 244 + h.frame * 2 ^ 256
    + h.rowElems * 2 ^ 280

def State.hdr (s : State) (p f : Nat) : PageHdr := parseHdr (s.rd (s.poolSpace p) (s.frameAddr p f) 64)
def State.setHdr (s : State) (p f : Nat) (h : PageHdr) : State := s.wr (s.poolSpace p) (s.frameAddr p f) 64 h.word
def State.hdrPoisoned (s : State) (p f : Nat) : Bool := s.poisonedAt (s.poolSpace p) (s.frameAddr p f) 64

/-- The block size of a BLK_SIZE code (R35); 0 for none. -/
def blkOf (code : Nat) : Nat := match code with | 1 => 16 | 2 => 32 | 3 => 64 | 4 => 128 | _ => 0

/-- Bits per stored element of a format (R32). -/
def fmtBits (f : Nat) : Nat :=
  if f == 0 then 0 else if f == 1 then 32 else if f == 2 || f == 3 then 16
  else if f == 4 || f == 5 || f == 6 then 8 else if 8 ≤ f && f ≤ 15 then f - 7 else 32

/-- Formats with a code (R32). -/
def fmtAssigned (f : Nat) : Bool := f ≤ 6 || (8 ≤ f && f ≤ 0x10)
def isBlockCode (f : Nat) : Bool := 8 ≤ f && f ≤ 15
def is8bit (f : Nat) : Bool := f == 4 || f == 5 || f == 6 || isBlockCode f
def is16bit (f : Nat) : Bool := f == 2 || f == 3

/-- R36: is the block size allowed for the format? Format 0x00, which stores nothing and of which the spec says nothing
here, may carry any assigned size (DESIGN CHOICE, log 59). -/
def blkAllowed (f code : Nat) : Bool :=
  code ≤ 4 && (if isBlockCode f then code != 0 else if f == 4 || f == 5 || f == 0 then true else code == 0)

/-- R34: do two operand formats pair? Format 0x00 pairs with any. -/
def fmtPair (x y : Nat) : Bool :=
  x == 0 || y == 0 || (is8bit x && is8bit y) || (is16bit x && x == y)

/-- How a position of a paged slot maps (R320): the list entry, or why there is none. -/
inductive PageCase where
  | zero
  | hole
  | poisoned
  | entry (j : Nat)
  deriving DecidableEq, Repr

/-- The list entry of a position without SEL (R320). -/
def KvCtx.entryOf (c : KvCtx) (p : Nat) : Nat :=
  if c.mode == 1 && decide (c.sinkPages * c.page ≤ p) then
    c.sinkPages + (p % (c.winPages * c.page)) / c.page
  else p / c.page

/-- The case of a position or virtual index (R320, R321); `sel` is the selection list read at dispatch (R332), with
none for an entry whose word was poisoned. -/
def KvCtx.pageCase (c : KvCtx) (sel : Bool) (selList : List (Option Int)) (v : Nat) : PageCase :=
  if sel then
    let u := v / c.page
    if u < c.sinkPages then .entry u
    else if u < c.sinkPages + c.selP then
      match selList.getD (u - c.sinkPages) none with
      | none => .poisoned
      | some e =>
        if e < 0 then .hole
        else
          let j := e.toNat
          if j < c.sinkPages || c.lPages ≤ j + c.winPages then .hole else .entry j
    else
      let j := c.lPages + (u - c.sinkPages - c.selP)
      if j < c.winPages + c.sinkPages then .hole else .entry (j - c.winPages)
  else if c.length ≤ v then .zero
  else .entry (c.entryOf v)

/-- R323: is the header refused for a read against the other operand's format? -/
def hdrRefused (c : KvCtx) (h : PageHdr) (otherFmt elemOff : Nat) (strides : List Int) : Bool :=
  !(h.format < 16 && bit c.fmtMask h.format) || !fmtPair h.format otherFmt || !blkAllowed h.format h.blkCode
  || h.log2Tokens != c.log2Page || h.rowElems != c.rowElems
  || (h.blkCode != 0 && (elemOff % blkOf h.blkCode != 0
      || strides.any fun st => decide (st % ((blkOf h.blkCode : Nat) : Int) ≠ 0)))

/-- The case of a position but for LENGTH: the list entry it maps to (R320). -/
def KvCtx.mapCase (c : KvCtx) (sel : Bool) (selList : List (Option Int)) (v : Nat) : PageCase :=
  if sel then c.pageCase true selList v else .entry (c.entryOf v)

/-- The frame a position or virtual index maps to, if its entry can be read and is VALID (R320, R331). -/
def State.pageFrame (s : State) (c : KvCtx) (sel : Bool) (selList : List (Option Int)) (v : Nat) : Option Nat :=
  match c.mapCase sel selList v with
  | .entry j =>
    let (pois, valid, f) := s.kvEntry c j
    if pois || !valid then none else some f
  | _ => none

/-- What is supplied for a position or virtual index (R321, R323). `strides` are those of the dimensions other than 1. -/
def State.pageSupply (s : State) (c : KvCtx) (sel : Bool) (selList : List (Option Int)) (otherFmt elemOff : Nat)
    (strides : List Int) (v : Nat) : PageSupply :=
  match c.pageCase sel selList v with
  | .zero => .zeros
  | .hole => .hole
  | .poisoned => .skipped
  | .entry j =>
    let (pois, valid, f) := s.kvEntry c j
    if pois then .skipped
    else if !valid then .hole
    else if s.hdrPoisoned c.pool f then .skipped
    else
      let h := s.hdr c.pool f
      if c.mode == 1 && h.firstPos != v - v % c.page then .stale
      else if hdrRefused c h otherFmt elemOff strides then .refused
      else .rows (s.poolSpace c.pool) (s.frameAddr c.pool f) h

/-- What a letter's latched pages supply for a position or virtual index. -/
def PagedRun.supply (r : PagedRun) (v : Nat) : PageSupply :=
  if !r.sel && decide (r.ctx.length ≤ v) then .zeros
  else ((r.pages.find? fun x => x.1 == v / r.ctx.page).map (·.2)).getD .zeros

end Sys2Proof.Machine
end

