-- ==== Sys2Proof/Machine/Operands.lean ====
section
/-! DEFINITION. Letters and descriptors as they lie in memory, index mapping, and what an operand element is: every
operand form (R187 to R197, R250, R251), the decoding of every format (R47 to R55, R59, R66) and the reads through
pages (R315, R321, R322). -/

namespace Sys2Proof.Machine

/-! ### Parsing -/

def parseSlot (v lo : Nat) : SlotRef := ⟨bits v lo 42 * 64, spaceOf (bits v (lo + 42) 2), bit v (lo + 44)⟩

/-- The fields of a letter (R187). -/
def parseLetter (v : Nat) : Letter :=
  { route := bits v 0 8, fence := bit v 8, notify := bit v 9, dAccum := bit v 10, accBf16 := bit v 11,
    tileM := bits v 12 3, tileN := bits v 16 2, pantryIndex := bits v 20 10, groupsM1 := bits v 30 4,
    cassette := bits v 34 10, k := bits v 64 32, step := bits v 96 32, microbatch := bits v 128 8,
    dHist := bits v 136 16, sHist := bits v 152 16, aM := bits v 168 3, aK := bits v 171 3, aK2 := bits v 174 3,
    bK := bits v 177 3, bK2 := bits v 180 3, bN := bits v 183 3, dM := bits v 186 3, dN := bits v 189 3,
    deadline := bits v 192 32, prog := bits v 224 16, slotA := parseSlot v 256, slotB := parseSlot v 320,
    slotD := parseSlot v 384, slotS := parseSlot v 448, dep0Q := bits v 512 20, dep0En := bit v 532,
    dep0Seq := bits v 544 32, dep1Q := bits v 576 20, dep1En := bit v 596, dep1Seq := bits v 608 32,
    param0 := bits v 640 64, param1 := bits v 704 64, pageCtx := bits v 768 32, batchKey := bits v 800 32,
    userTag := bits v 832 64 }

/-- A pointer of a scale set: absent when its address is zero (R194). -/
def parseLoc (v lo : Nat) : Option Loc :=
  if bits v lo 48 == 0 then none else some ⟨spaceOf (bits v (lo + 48) 2), bits v lo 48⟩

/-- Dimension d of a descriptor, with the axis record of the captain set (R190, R196, R225). -/
def parseDim (cap : List (Nat × Nat)) (v d : Nat) : Dim :=
  let ax := bits v 76 4
  { stride := signed 40 (bits v (64 * d + 128) 40), extent := bits v (64 * d + 168) 24 + 1,
    mode := bits v (64 + 2 * d) 2, parts := capIn cap (K.shard ax 1), index := capIn cap (K.shard ax 2),
    cyclic := capIn cap (K.shard ax 3) }

/-- A descriptor and the scale set it names (R190, R194); sv is the scale set's 256 bits, 0 for set 0. -/
def parseDesc (cap : List (Nat × Nat)) (v sv : Nat) : TDesc :=
  let rank := bits v 56 3 + 1
  { base := bits v 0 48, space := spaceOf (bits v 48 2), format := bits v 50 6, rank := rank, blkCode := bits v 59 3,
    mx := bit v 62, blkDim := bits v 80 3, sideList := bit v 83, paged := bit v 84, scaleSet := bits v 88 20,
    tensorId := bits v 108 20, dims := (List.range (min rank 6)).map (parseDim cap v),
    ts := parseLoc sv 0, bs := parseLoc sv 64, wa := parseLoc sv 128 }

/-! ### Indices (R191, R192, R197) -/

/-- The local extent of a dimension (R197). -/
def Dim.local (d : Dim) : Nat :=
  match d.mode with
  | 1 =>
    let s := cdiv d.extent d.parts
    min d.extent ((d.index + 1) * s) - d.index * s
  | 2 =>
    let f := d.extent / (d.cyclic * d.parts)
    let r := d.extent - f * d.cyclic * d.parts
    f * d.cyclic + min d.cyclic (r - d.index * d.cyclic)
  | _ => d.extent

/-- The global index of a local index (R197). -/
def Dim.toGlobal (d : Dim) (l : Nat) : Nat :=
  match d.mode with
  | 1 => d.index * cdiv d.extent d.parts + l
  | 2 => (l / d.cyclic * d.parts + d.index) * d.cyclic + l % d.cyclic
  | _ => l

def dimAt (t : TDesc) (d : Nat) : Dim := t.dims.getD d ⟨0, 1, 0, 1, 0, 1⟩
def TDesc.localAt (t : TDesc) (d : Nat) : Nat := (dimAt t d).local

/-- The number of elements of the tensor's local part, and of its global shape. -/
def TDesc.localCount (t : TDesc) : Nat := t.dims.foldl (fun n d => n * d.local) 1
def TDesc.globalCount (t : TDesc) : Nat := t.dims.foldl (fun n d => n * d.extent) 1

/-- The element offset of local indices (R192). -/
def TDesc.offset (t : TDesc) (ls : List Nat) : Int :=
  (t.dims.zip ls).foldl (fun acc (d, l) => acc + d.stride * (l : Int)) 0

/-- The row-major global linear index, dimension 0 fastest (R191). -/
def TDesc.globalIndex (t : TDesc) (ls : List Nat) : Nat :=
  ((t.dims.zip ls).foldr (fun (d, l) acc => d.toGlobal l + d.extent * acc) 0)

/-- Local indices of the n-th element in local linear order (R586). -/
def TDesc.unlinear (t : TDesc) (n : Nat) : List Nat :=
  (t.dims.foldl (fun (st : Nat × List Nat) d =>
    let e := max 1 d.local
    (st.1 / e, st.2 ++ [st.1 % e])) (n, [])).2

/-- Indices that are 0 but in the dimensions named. -/
def idxAt (rank : Nat) (ps : List (Nat × Nat)) : List Nat :=
  (List.range rank).map fun d => ((ps.find? fun p => p.1 == d).map (·.2)).getD 0

/-! ### Elements -/

/-- One operand element as the Porch delivers it (R62, R246): its value without block and tensor scale, its block
exponent, whether its block takes part in the segment base, a number that tells its block from the tensor's others, its
poison mark, whether it is an expanded outlier marker, whether it lies in a zero block, and whether its width byte is
illegal. A marker code in a zero block is not expanded as a marker, since a zero block's codes are not read (R54); PORCH_MARKERS
does not count it (DESIGN CHOICE, log 59). -/
structure Elem where
  val : Num
  eblk : Int
  inBase : Bool
  blk : Nat
  poison : Bool
  marker : Bool
  zeroBlk : Bool
  badWidth : Bool
  deriving DecidableEq, Repr

def Elem.zero : Elem := ⟨Num.zero, 0, false, 0, false, false, false, false⟩
def Elem.poisonedZero : Elem := ⟨Num.zero, 0, false, 0, true, false, false, false⟩

/-- The value of a code of a format (R40, R47, R49, R51); the second part says the code is an outlier marker. -/
def decodeCode (f : Nat) (w : Nat) (mx : Bool) (code : Nat) : Num × Bool :=
  if f == 1 then (fp32.decode code, false)
  else if f == 2 then (bf16.decode code, false)
  else if f == 3 then (fp16.decode code, false)
  else if f == 4 then (e4m3.decode code, false)
  else if f == 5 then (e5m2.decode code, false)
  else if f == 6 then (Num.ofInt (signed 8 code), false)
  else if f == 0x10 then (Num.ofInt (signed 32 code), false)
  else if isBlockCode f then
    if w == 1 then (.fin (bit code 0) 1 1, false)
    else if w == 2 then (.fin (bit code 1) (if bit code 0 then 3 else 1) 2, false)
    else if code % 2 ^ w == 2 ^ (w - 1) && !(mx && w == 8) then (Num.zero, true)
    else (Num.ofInt (signed w code), false)
  else (Num.zero, false)

/-- The exponent of an E8M0 block scale (R54, R66). -/
def blockExp (f : Nat) (mx : Bool) (code : Nat) : Int :=
  (code : Int) - 127 - (if mx && f == 15 then 6 else 0)

/-- Block number of offset o in a tensor of block size blk (R193); 0 without blocks. -/
def blockOf (blk : Nat) (o : Int) : Int := if blk == 0 then 0 else o / (blk : Int)

/-- Where the code of a stored element lies: byte, bit in it, width read, whether its width byte is poisoned, and whether
that byte is illegal (R53, R59). Only block codes read a width array. -/
structure CodePlace where
  byte : Nat
  sh : Nat
  width : Nat
  wPoison : Bool
  badWidth : Bool
  deriving DecidableEq, Repr

def CodePlace.len (p : CodePlace) : Nat := (p.sh + p.width + 7) / 8

/-- The width byte of offset o (R59): none for a tensor that reads no width array. -/
def widthAt (f blk : Nat) (wa : Option Loc) (o : Int) : Option (Space × Nat) :=
  match wa with
  | none => none
  | some l => if isBlockCode f && blk != 0 then some (l.space, ((l.addr : Int) + blockOf blk o).toNat) else none

/-- The block-scale byte of offset o (R54, R193). -/
def scaleAt (blk : Nat) (bs : Option Loc) (o : Int) : Option (Space × Nat) :=
  match bs with
  | none => none
  | some l => if blk == 0 then none else some (l.space, ((l.addr : Int) + blockOf blk o).toNat)

def codePlace (s : State) (base : Int) (f blk : Nat) (wa : Option Loc) (o : Int) : CodePlace :=
  let w := fmtBits f
  let b := blockOf blk o
  let (wCode, wPois) : Nat × Bool :=
    match widthAt f blk wa o with
    | none => (0, false)
    | some (sp, a) => (s.rd sp a 1 % 16, s.poisonedAt sp a 1)
  let badW := !wPois && (w < wCode || 9 ≤ wCode)
  let wEff := if wPois || wCode == 0 || badW then w else wCode
  let n : Int := (blk : Int)
  let bitPos : Int := if blk == 0 then o * (w : Int) else b * n * (w : Int) + (o - b * n) * (wEff : Int)
  ⟨(base + bitPos / 8).toNat, (bitPos % 8).toNat, wEff, wPois, badW⟩

/-- A stored element of a tensor whose element o lies at base + o·w/8 (R53, R54, R66, R192, R193). -/
def readStored (s : State) (sp : Space) (base : Int) (f blk : Nat) (mx : Bool) (bs wa : Option Loc) (o : Int) : Elem :=
  if f == 0 then Elem.zero else
  let c := codePlace s base f blk wa o
  let raw := s.rd sp c.byte c.len / 2 ^ c.sh % 2 ^ c.width
  let pois := s.poisonedAt sp c.byte c.len || c.wPoison
  let (v, marker) := decodeCode f c.width mx raw
  match scaleAt blk bs o with
  | none => ⟨v, 0, true, 0, pois, marker, false, c.badWidth⟩
  | some (ssp, a) =>
    if s.poisonedAt ssp a 1 then ⟨Num.zero, 0, false, a, true, false, false, c.badWidth⟩
    else
      let e := s.rd ssp a 1
      if e == 0xFF then
        if mx then ⟨.nan false, 0, false, a, pois, false, false, c.badWidth⟩ else ⟨Num.zero, 0, false, a, pois, false, true, c.badWidth⟩
      else ⟨v, blockExp f mx e, true, a, pois, marker, false, c.badWidth⟩

/-- An element of a tensor that is not paged. -/
def readPlain (s : State) (t : TDesc) (ls : List Nat) : Elem :=
  readStored s t.space (t.base : Int) t.format (blkOf t.blkCode) t.mx t.bs t.wa (t.offset ls)

/-- First position and row element offset of a paged descriptor (R315). -/
def TDesc.pos0 (t : TDesc) : Nat := bits t.base 0 24
def TDesc.rowOff (t : TDesc) : Nat := bits t.base 24 24

/-- Element offset inside the token row: BASE [47:24] and the dimensions other than 1. -/
def TDesc.rowElem (t : TDesc) (ls : List Nat) : Int :=
  (t.rowOff : Int) + (((t.dims.zip ls).zip (List.range t.dims.length)).foldl
    (fun acc ((d, l), i) => if i == 1 then acc else acc + d.stride * (l : Int)) 0)

def TDesc.otherStrides (t : TDesc) : List Int :=
  ((t.dims.zip (List.range t.dims.length)).filter fun p => p.2 != 1).map (·.1.stride)

/-- Position or virtual index of local indices of a paged descriptor. -/
def TDesc.posOf (t : TDesc) (ls : List Nat) : Nat := t.pos0 + ls.getD 1 0

/-- Where the block-scale array of a frame begins: the first 64-byte boundary after the rows (R319). -/
def frameScales (tokens rowElems f : Nat) : Nat := cdiv (2048 + tokens * rowElems * fmtBits f / 8) 64 * 64

/-- The block-scale array of a frame at an address. -/
def PageHdr.scales (h : PageHdr) (sp : Space) (a : Nat) : Option Loc :=
  if blkOf h.blkCode == 0 then none else some ⟨sp, a + frameScales (2 ^ h.log2Tokens) h.rowElems h.format⟩

/-- Element o of the page in the frame at address a (R319, R322): TS_EXP − 127 is folded into the block exponent. -/
def readFrame (s : State) (sp : Space) (a : Nat) (h : PageHdr) (o : Nat) : Elem :=
  let e := readStored s sp ((a + 2048 : Nat) : Int) h.format (blkOf h.blkCode) false (h.scales sp a) none (o : Int)
  { e with eblk := e.eblk + ((h.tsExp : Int) - 127), blk := if e.blk == 0 then a else e.blk }

/-- Element number inside its page of local indices of a paged descriptor. -/
def pageElem (c : KvCtx) (t : TDesc) (ls : List Nat) : Nat := (t.posOf ls % c.page) * c.rowElems + (t.rowElem ls).toNat

/-- A paged element (R321), through the translations latched at dispatch (R255). -/
def readPaged (s : State) (t : TDesc) (kv : PagedRun) (ls : List Nat) : Elem :=
  match kv.supply (t.posOf ls) with
  | .zeros => Elem.zero
  | .hole => Elem.zero
  | .stale => Elem.zero
  | .skipped => Elem.poisonedZero
  | .refused => Elem.poisonedZero
  | .rows sp a h => readFrame s sp a h (pageElem kv.ctx t ls)

def readElem (s : State) (t : Option TDesc) (kv : Option PagedRun) (ls : List Nat) : Elem :=
  match t with
  | none => Elem.zero
  | some d =>
    if d.format == 0 then Elem.zero
    else if d.paged then (match kv with | none => Elem.zero | some r => readPaged s d r ls)
    else readPlain s d ls

/-- The 32-byte sectors of n bytes. -/
def sectorsOf (sp : Space) (a n : Nat) : List (Space × Nat) :=
  if n == 0 then [] else (List.range ((a + n - 1) / 32 - a / 32 + 1)).map fun i => (sp, a / 32 + i)

/-- The sectors an element needs: of its data, of its block scale and of its width byte, with a number of the page they lie
in (R59, R233, R255). What is supplied without a fetch needs none. -/
structure Needs where
  page : Nat
  data : List (Space × Nat)
  scale : List (Space × Nat)
  width : List (Space × Nat)
  deriving DecidableEq, Repr

def storedNeeds (s : State) (page : Nat) (sp : Space) (base : Int) (f blk : Nat) (bs wa : Option Loc) (o : Int) : Needs :=
  let c := codePlace s base f blk wa o
  let one (l : Option (Space × Nat)) : List (Space × Nat) := match l with | none => [] | some (x, a) => sectorsOf x a 1
  ⟨page, sectorsOf sp c.byte c.len, one (scaleAt blk bs o), one (widthAt f blk wa o)⟩

def elemNeeds (s : State) (t : TDesc) (kv : Option PagedRun) (ls : List Nat) : Needs :=
  if t.format == 0 then ⟨0, [], [], []⟩
  else if t.paged then
    (match kv with
     | none => ⟨0, [], [], []⟩
     | some r =>
       match r.supply (t.posOf ls) with
       | .rows sp a h => storedNeeds s a sp ((a + 2048 : Nat) : Int) h.format (blkOf h.blkCode) (h.scales sp a) none ((pageElem r.ctx t ls : Nat) : Int)
       | _ => ⟨0, [], [], []⟩)
  else storedNeeds s 0 t.space (t.base : Int) t.format (blkOf t.blkCode) t.bs t.wa (t.offset ls)

/-! ### Sliding windows (R250, R251) -/

structure Window where
  xDim : Nat
  yDim : Nat
  kx : Nat
  ky : Nat
  sx : Nat
  sy : Nat
  dx : Nat
  dy : Nat
  padX : Nat
  padY : Nat
  outX : Nat
  outY : Nat
  deriving DecidableEq, Repr

def Letter.window (l : Letter) : Option Window :=
  if !bit l.param0 63 then none else
  some { xDim := bits l.param0 0 3, yDim := bits l.param0 3 3, kx := bits l.param0 6 4 + 1, ky := bits l.param0 10 4 + 1,
         sx := bits l.param0 14 4 + 1, sy := bits l.param0 18 4 + 1, dx := bits l.param0 22 4 + 1,
         dy := bits l.param0 26 4 + 1, padX := bits l.param0 30 8, padY := bits l.param0 38 8,
         outX := bits l.param1 0 24 + 1, outY := bits l.param1 24 24 + 1 }

/-- Local indices of A at (row m, reduction index k), none where the window lies outside the tensor (R199, R251). -/
def aIndex (l : Letter) (t : TDesc) (m k : Nat) : Option (List Nat) :=
  match l.window with
  | none =>
    let n1 := max 1 (t.localAt l.aK)
    some (idxAt t.rank [(l.aM, m), (l.aK, k % n1), (l.aK2, k / n1)])
  | some w =>
    let c0 := max 1 (t.localAt l.aK)
    let c := k % c0
    let kx := k / c0 % w.kx
    let ky := k / c0 / w.kx
    let ox := m % w.outX
    let oy := m / w.outX % w.outY
    let r := m / w.outX / w.outY
    let ix : Int := ((ox * w.sx + kx * w.dx : Nat) : Int) - (w.padX : Int)
    let iy : Int := ((oy * w.sy + ky * w.dy : Nat) : Int) - (w.padY : Int)
    let okx := decide (0 ≤ ix) && decide (ix < ((t.localAt w.xDim : Nat) : Int))
    let oky := if w.yDim == 7 then decide (iy = 0) else decide (0 ≤ iy) && decide (iy < ((t.localAt w.yDim : Nat) : Int))
    if okx && oky then some (idxAt t.rank [(l.aM, r), (l.aK, c), (w.xDim, ix.toNat), (w.yDim, iy.toNat)]) else none

/-- Local indices of B at (reduction index k, column n). -/
def bIndex (l : Letter) (t : TDesc) (k n : Nat) : List Nat :=
  let n1 := max 1 (t.localAt l.bK)
  idxAt t.rank [(l.bN, n), (l.bK, k % n1), (l.bK2, k / n1)]

/-- Rows of the output that A gives: its M extent, or the window's output positions (R252). -/
def aRows (l : Letter) (a : Option TDesc) : Nat :=
  match a with
  | none => 1
  | some t =>
    match l.window with
    | none => t.localAt l.aM
    | some w => w.outX * w.outY * t.localAt l.aM

/-- A's local indices at (row of the part, k), none where nothing is read (R185, R251). -/
def Part.aAt (p : Part) (m k : Nat) : Option (TDesc × List Nat) :=
  match p.a with
  | none => none
  | some t => (aIndex p.letter t m k).map fun ls => (t, ls)

/-- A's element at (row of the part, k); zero outside a window or for an absent slot (R185, R251). -/
def Part.aElem (s : State) (p : Part) (m k : Nat) : Elem :=
  match p.aAt m k with
  | none => Elem.zero
  | some (t, ls) => readElem s (some t) p.kv ls

def Part.bElem (s : State) (p : Part) (k n : Nat) : Elem :=
  match p.b with
  | none => Elem.zero
  | some t => readElem s (some t) p.kv (bIndex p.letter t k n)

/-- The sectors that A's element at (m, k), or B's at (k, n), needs. -/
def Part.aNeeds (s : State) (p : Part) (m k : Nat) : Needs :=
  match p.aAt m k with
  | none => ⟨0, [], [], []⟩
  | some (t, ls) => elemNeeds s t p.kv ls

def Part.bNeeds (s : State) (p : Part) (k n : Nat) : Needs :=
  match p.b with
  | none => ⟨0, [], [], []⟩
  | some t => elemNeeds s t p.kv (bIndex p.letter t k n)

/-- Output columns of a part: B's N extent (R199). -/
def Part.cols (p : Part) : Nat := p.b.elim 1 fun t => t.localAt p.letter.bN

/-- An element's value with its block scale (R60 without the tensor scale). -/
def Elem.scaled (e : Elem) : Num := e.val.mul (Num.pow2 e.eblk)

/-- The tensor scale of an operand (R38): 1.0 without a pointer, and for a paged operand (R322). -/
def opScale (s : State) (t : Option TDesc) : F32 :=
  match t with
  | none => 0x3F800000
  | some d =>
    match d.ts with
    | none => 0x3F800000
    | some l => BitVec.ofNat 32 (s.rd l.space l.addr 4)

/-! ### Outlier side lists (R167, R168, R277) -/

/-- Where the side list of a tensor begins: the first 64-byte boundary after its block-scale array. The array has one
byte per block of offset from the base; its last byte is that of the highest offset. -/
def TDesc.maxOffset (t : TDesc) : Int :=
  t.dims.foldl (fun acc d => acc + (if decide (0 < d.stride) then d.stride * ((d.local - 1 : Nat) : Int) else 0)) 0
def TDesc.minOffset (t : TDesc) : Int :=
  t.dims.foldl (fun acc d => acc + (if decide (d.stride < 0) then d.stride * ((d.local - 1 : Nat) : Int) else 0)) 0

def TDesc.sideLoc (t : TDesc) : Option Loc :=
  match t.bs with
  | none => none
  | some l =>
    let n : Int := (blkOf t.blkCode : Nat)
    let last := ((l.addr : Int) + t.maxOffset / (if n == 0 then 1 else n)).toNat
    some ⟨l.space, (last / 64 + 1) * 64⟩

/-- One side-list entry: global element index, value without the tensor scale, poison (R168). -/
def sideEntry (s : State) (l : Loc) (i : Nat) : Nat × Num × Bool :=
  let a := l.addr + 64 + 8 * i
  let v := s.rd l.space a 8
  (bits v 0 48, (e4m3.decode (bits v 48 8)).mul (Num.pow2 ((bits v 56 8 : Nat) - (127 : Int))), s.poisonedAt l.space a 8)

/-- The entries of a tensor's side list, in order. -/
def sideEntries (s : State) (t : Option TDesc) : List (Nat × Num × Bool) :=
  match t with
  | none => []
  | some d =>
    if !d.sideList then [] else
    match d.sideLoc with
    | none => []
    | some l => (List.range (s.rd l.space (l.addr + 4) 4)).map (sideEntry s l)

end Sys2Proof.Machine
end

