-- ==== Sys2Proof/Machine/Flags.lean ====
section
/-! DEFINITION. Outcome classes and what the Landing derives from values: conversion of an element, quantisation of a
block with its scale, width and classes, outlier selection, and the counts (R46, R48, R56 to R58, R66, R151, R155,
R157, R167, R172, R173). -/

namespace Sys2Proof.Machine

def Counts.zero : Counts := ⟨0, 0, 0, 0, 0, 0, 0, 0, 0, 0, 0⟩

/-- A count saturates at 2^32 − 1 (R157). -/
def sat32 (n : Nat) : Nat := min n (2 ^ 32 - 1)

def Counts.add (a b : Counts) : Counts :=
  { elements := sat32 (a.elements + b.elements), sat := sat32 (a.sat + b.sat), ufl := sat32 (a.ufl + b.ufl),
    nf := sat32 (a.nf + b.nf), poison := sat32 (a.poison + b.poison), blocks := sat32 (a.blocks + b.blocks),
    zeroBlocks := sat32 (a.zeroBlocks + b.zeroBlocks), satBlocks := sat32 (a.satBlocks + b.satBlocks),
    outEntries := sat32 (a.outEntries + b.outEntries), outClamped := sat32 (a.outClamped + b.outClamped),
    outOff := sat32 (a.outOff + b.outOff) }

/-- One element of its class (R46). -/
def Counts.ofCls : Cls → Counts
  | .poisoned => { Counts.zero with elements := 1, poison := 1 }
  | .nonfinite => { Counts.zero with elements := 1, nf := 1 }
  | .saturated => { Counts.zero with elements := 1, sat := 1 }
  | .underflow => { Counts.zero with elements := 1, ufl := 1 }
  | .ordinary => { Counts.zero with elements := 1 }

/-- The floating-point format of a code. -/
def ffmtOf (f : Nat) : FFmt := match f with | 1 => fp32 | 2 => bf16 | 3 => fp16 | 4 => e4m3 | 5 => e5m2 | _ => fp32

/-- Conversion of one element into a format without blocks (R44 to R48, R33): bits and class. -/
def convertElem (f : Nat) (sat : Bool) (m : Num.Rounding) (v : Num) : Nat × Cls :=
  if f == 6 then
    let (i, c) := toInt8 v
    (unsigned 8 i, c)
  else (ffmtOf f).convert sat m v

/-- One value of a block before quantisation: exact value after division by the tensor scale, poison, sent to the
outlier list, clamped for want of list space (R170), and a free value for what a poisoned element stores. -/
structure QVal where
  v : Num
  poison : Bool
  listed : Bool
  clamped : Bool
  fv : Nat
  deriving DecidableEq, Repr

/-- A quantised block (R56). -/
structure QBlock where
  scale : Nat
  width : Nat
  codes : List Nat
  classes : List Cls
  zero : Bool
  sat : Bool
  deriving DecidableEq, Repr

/-- q_max of a format at a width, as a fraction (R51, R56, R151). -/
def qMax (f w : Nat) : Nat × Nat :=
  if f == 4 then (448, 1) else if f == 5 then (57344, 1) else if f == 6 then (127, 1)
  else if w == 1 then (1, 1) else if w == 2 then (3, 2) else (2 ^ (w - 1) - 1, 1)

/-- The magnitude of a finite value as a fraction. -/
def magOf : Num → Nat × Nat
  | .fin _ n d => (n, d)
  | _ => (0, 1)

def fracLt (a b : Nat × Nat) : Bool := a.1 * b.2 < b.1 * a.2

/-- a of R56: the largest magnitude among the finite elements that count. -/
def blockMax (l : List QVal) : Nat × Nat :=
  l.foldl (fun a q =>
    if q.poison || q.listed || q.clamped || !q.v.isFinite then a
    else if fracLt a (magOf q.v) then magOf q.v else a) (0, 1)

/-- The exponent limits of R56 step 3. -/
def expLimits (f : Nat) (mx : Bool) : Int × Int := if mx && f == 15 then (-133, 121) else (-127, 127)

/-- e of R56 for a maximum a = n/d ≠ 0, before and after clamping. -/
def blockExpOf (f w : Nat) (mx : Bool) (a : Nat × Nat) : Int × Int :=
  let q := qMax f w
  let e := Num.log2Ceil (a.1 * q.2) (a.2 * q.1)
  let (lo, hi) := expLimits f mx
  (e, if e < lo then lo else if hi < e then hi else e)

/-- The code of one dense element at exponent e (R56 step 4, R58) and whether it was clamped. -/
def blockCode (f w : Nat) (sat : Bool) (e : Int) (v : Num) : Nat × Cls :=
  if f == 4 || f == 5 then (ffmtOf f).convert sat .nearest (v.mul (Num.pow2 (-e)))
  else
    match v with
    | .fin s n d =>
      let x := Num.mk false n d |>.mul (Num.pow2 (-e))
      let (xn, xd) := magOf x
      if w == 1 then (if s then 1 else 0, if xd < xn then .saturated else .ordinary)
      else if w == 2 then
        ((if s then 2 else 0) + (if xd < xn then 1 else 0), if 3 * xd < 2 * xn then .saturated else .ordinary)
      else
        let q := Num.roundNat xn xd
        let qm := 2 ^ (w - 1) - 1
        if qm < q then (unsigned w (if s then -(qm : Int) else qm), .saturated)
        else (unsigned w (if s then -(q : Int) else q), if q == 0 && n != 0 then .underflow else .ordinary)
    | _ => (0, .nonfinite)

/-- Quantise a block at width w (R56, R66, R172, R173). -/
def quantAt (f w : Nat) (mx sat : Bool) (l : List QVal) : QBlock :=
  let a := blockMax l
  let marker := 2 ^ (w - 1)
  if a.1 == 0 then
    { scale := if mx then 0x7F else 0xFF, width := w, codes := l.map fun _ => 0,
      classes := l.map fun q => if q.poison then .poisoned else if !q.v.isFinite then .nonfinite
        else if q.clamped then .saturated else .ordinary,
      zero := true, sat := false }
  else
    let (raw, e) := blockExpOf f w mx a
    let off : Int := if mx && f == 15 then 133 else 127
    let one (q : QVal) : Nat × Cls :=
      if q.poison then (q.fv % 2 ^ w, .poisoned)
      else if q.listed then (marker, .ordinary)
      else
        let r := blockCode f w sat e q.v
        if q.clamped then (r.1, .saturated) else r
    { scale := (e + off).toNat, width := w, codes := l.map fun q => (one q).1, classes := l.map fun q => (one q).2,
      zero := false, sat := decide (e < raw) }

/-- Does no nonzero dense element quantise to code 0 at this width (R155)? A non-finite or poisoned element, which has no
value to lose, does not stand in a width's way (DESIGN CHOICE, log 59). -/
def widthOk (b : QBlock) : Bool := b.classes.all fun c => decide (c ≠ .underflow)

/-- The block at the width the bounds choose (R155): the smallest that loses nothing, else the widest. -/
def quantWidths (f : Nat) (mx sat : Bool) (l : List QVal) (w hi : Nat) : Nat → QBlock
  | 0 => quantAt f hi mx sat l
  | fuel + 1 =>
    let b := quantAt f w mx sat l
    if hi ≤ w || widthOk b then b else quantWidths f mx sat l (w + 1) hi fuel

/-- Effective width bounds (R155). -/
def widthBounds (slot wMin wMax : Nat) : Nat × Nat :=
  let hi := if wMax == 0 || slot < wMax then slot else wMax
  let lo := if wMin == 0 then slot else wMin
  (if hi < lo then hi else lo, hi)

/-- Quantise a block for a destination; `widths` says the tensor has a width array (R155, R172, R195). -/
def quantBlock (f : Nat) (mx sat widths : Bool) (wMin wMax : Nat) (l : List QVal) : QBlock :=
  let slot := fmtBits f
  if isBlockCode f && widths && 3 ≤ slot then
    let (lo, hi) := widthBounds slot wMin wMax
    if (blockMax l).1 == 0 then { quantAt f hi mx sat l with width := lo }
    else quantWidths f mx sat l lo hi 8
  else quantAt f slot mx sat l

/-- Insert a magnitude in falling order. -/
def insertMag (a : Nat × Nat) : List (Nat × Nat) → List (Nat × Nat)
  | [] => [a]
  | b :: t => if fracLt b a then a :: b :: t else b :: insertMag a t

/-- Outlier selection of a block (R167): for each element, does it go to the list? -/
def selectOutliers (perBlock gap : Nat) (l : List (Num × Bool)) : List Bool :=
  let mags := (l.filter fun p => !p.2 && p.1.isFinite).foldl (fun acc p => insertMag (magOf p.1) acc) []
  match mags[perBlock]? with
  | none => l.map fun _ => false
  | some m => l.map fun p => !p.2 && p.1.isFinite && fracLt (m.1 * 2 ^ gap, m.2) (magOf p.1)

/-- The bytes of a block's codes packed at its width (R53). -/
def packCodes (w : Nat) (codes : List Nat) : Nat :=
  (codes.foldr (fun c acc => c % 2 ^ w + 2 ^ w * acc) 0)

/-- E_need of R151 for an FP32 amax, with margin M, for a format. -/
def eNeedOf (f margin : Nat) (amax : Num) : Int :=
  match amax with
  | .fin _ n d =>
    if n == 0 then -126 else
    let q := qMax f (fmtBits f)
    let e := Num.log2Ceil (n * 2 ^ margin * q.2) (d * q.1)
    if e < -126 then -126 else if 127 < e then 127 else e
  | _ => 127

def eNeed (f margin : Nat) (amax : F32) : Int := eNeedOf f margin (f32val amax)

/-- The FP32 pattern of 2^E (E from −126 to 127). -/
def scalePow (e : Int) : F32 := f32rnd (Num.pow2 e)

/-- The larger of two FP32 patterns of non-negative values. -/
def f32max (a b : F32) : F32 := if a.toNat < b.toNat then b else a

end Sys2Proof.Machine
end

