-- ==== Sys2Proof/Machine/Kv.lean ====
section
/-! DEFINITION. The page manager (10): free stacks, allocation, copy-on-write, pins, references, page commands,
sketches (R324 to R336, R340). -/

namespace Sys2Proof.Machine

/-! ### Free stacks (R339, R340). The 8-byte top index counts the free frames; the frame on top lies in the entry below
it (DEDUCED, log 12). -/

def State.poolStack (s : State) (p : Nat) : Nat := s.odv (K.kvPool p 5)
/-- Frames on a pool's free stack; a pool without frames has no stack. -/
def State.poolFree (s : State) (p : Nat) : Nat :=
  if s.odv (K.kvPool p 4) == 0 then 0 else s.rd (s.poolSpace p) (s.poolStack p) 8

/-- Push a frame on its pool's free stack. -/
def State.pushFree (s : State) (p f : Nat) : State :=
  let n := s.poolFree p
  let s := s.wr (s.poolSpace p) (s.poolStack p + 8 + 4 * n) 4 f
  s.wr (s.poolSpace p) (s.poolStack p) 8 (n + 1)

/-- Take the frame on top; none when the pool has no free frame. -/
def State.popFree (s : State) (p : Nat) : Option (Nat × State) :=
  let n := s.poolFree p
  if n == 0 then none
  else
    let f := s.rd (s.poolSpace p) (s.poolStack p + 8 + 4 * (n - 1)) 4
    some (f, s.wr (s.poolSpace p) (s.poolStack p) 8 (n - 1))

/-- Build a pool's stack with every frame free and frame 0 on top (R340). -/
def State.buildPool (s : State) (p : Nat) : State :=
  let n := s.odv (K.kvPool p 4)
  (List.range n).foldl (fun st i => st.pushFree p (n - 1 - i)) (s.wr (s.poolSpace p) (s.poolStack p) 8 0)

/-- A frame goes onto its free stack when both counts are 0 after an update (R330). -/
def State.maybeFree (s : State) (p f : Nat) (deferred : Bool) : State :=
  let h := s.hdr p f
  if h.refcount == 0 && h.pins == 0 then
    let s := (s.pushFree p f).count Ctr.kvFrees 1
    if deferred then s.count Ctr.kvDeferred 1 else s
  else s

/-- One list entry no longer names the frame (R334, R336). -/
def State.releaseFrame (s : State) (p f : Nat) : State :=
  let h := s.hdr p f
  (s.setHdr p f { h with refcount := h.refcount - 1 }).maybeFree p f false

def State.pinFrame (s : State) (p f : Nat) : State :=
  let h := s.hdr p f
  s.setHdr p f { h with pins := h.pins + 1 }

/-- A letter's pins are released after its completion record (R331). -/
def State.unpinAll (s : State) (pins : List (Nat × Nat)) : State :=
  pins.foldl (fun st (p, f) =>
    let h := st.hdr p f
    (st.setHdr p f { h with pins := h.pins - 1 }).maybeFree p f true) s

/-- Copy n bytes between frames of one pool, poison marks included. -/
def State.copyRun (s : State) (sp : Space) (src dst n : Nat) : State :=
  let m := s.mem sp
  let s1 := s.wrBytes sp dst (m.bytes src n)
  ((List.range (cdiv n 32)).filter fun i => m.poisonedAt (src + 32 * i)).foldl
    (fun st i => st.poison sp (dst + 32 * i) 1) s1

/-- The header of a fresh frame of a context (R324). -/
def freshHdr (c : KvCtx) (f start format blkCode tsExp : Nat) : PageHdr :=
  { format := format, blkCode := blkCode, log2Tokens := c.log2Page, firstPos := start % 2 ^ 24, tsExp := tsExp,
    tokens := 0, refcount := 1, pins := 0, sketchAddr := 0, sketchSpace := 0, sketched := false,
    ownerCtx := c.n, pool := c.pool, frame := f, rowElems := c.rowElems }

/-- What a first write into a list entry gives: the frame and whether it is new (its scale then is the letter's own),
or the pool was empty (R324, R336). -/
inductive KvWrite where
  | frame (f : Nat) (fresh : Bool)
  | empty
  deriving DecidableEq, Repr

/-- The first write of a letter into list entry j at position p (R324). `ts` is the biased exponent of the latched
destination scale, recorded in a new page (R325). -/
def State.writeTranslate (s : State) (c : KvCtx) (j p format blkCode ts : Nat) : KvWrite × State :=
  let start := p - p % c.page
  let (_, valid, f0) := s.kvEntry c j
  let alloc (k : Nat → State → KvWrite × State) : KvWrite × State :=
    match s.popFree c.pool with
    | none => (.empty, (s.count Ctr.kvPoolEmpty 1).raise Bell.kvPoolEmpty)
    | some (g, s1) => k g (s1.count Ctr.kvAllocs 1)
  let finish (f : Nat) (fresh : Bool) (s1 : State) : KvWrite × State :=
    (.frame f fresh, (s1.setKvEntry c j true f).pinFrame c.pool f)
  if !valid then
    alloc fun g s1 => finish g true (s1.setHdr c.pool g (freshHdr c g start format blkCode ts))
  else
    let h := s.hdr c.pool f0
    let stale := c.mode == 1 && h.firstPos != start
    let shared := 1 < h.refcount || 0 < h.pins
    if stale && shared then
      alloc fun g s1 =>
        finish g true ((s1.setHdr c.pool g (freshHdr c g start format blkCode ts)).releaseFrame c.pool f0)
    else if stale then finish f0 true (s.setHdr c.pool f0 (freshHdr c f0 start format blkCode ts))
    else if shared then
      alloc fun g s1 =>
        let sp := s1.poolSpace c.pool
        let src := s1.frameAddr c.pool f0
        let dst := s1.frameAddr c.pool g
        let elems := h.tokens * h.rowElems
        let s2 := s1.copyRun sp (src + 2048) (dst + 2048) (cdiv (elems * fmtBits h.format) 8)
        let so := frameScales (2 ^ h.log2Tokens) h.rowElems h.format
        let n := blkOf h.blkCode
        let s3 := if n == 0 then s2 else s2.copyRun sp (src + so) (dst + so) (cdiv elems n)
        let s4 := (s3.setHdr c.pool g { h with refcount := 1, pins := 0, sketched := false, frame := g, ownerCtx := c.n }).count Ctr.kvCow 1
        finish g (h.tokens == 0) (s4.releaseFrame c.pool f0)
    else finish f0 (h.tokens == 0) s

/-- The distinct frames a paged read slot maps to over its positions (R331): those of every position, whatever the Porch
then supplies for it (DEDUCED, log 60). -/
def State.framesOf (s : State) (c : KvCtx) (sel : Bool) (selList : List (Option Int)) (t : TDesc) : List Nat :=
  (List.range (t.localAt 1)).foldl (fun acc l =>
    match s.pageFrame c sel selList (t.pos0 + l) with
    | some f => if acc.contains f then acc else acc ++ [f]
    | none => acc) []

/-- The selection list read at dispatch (R332); none for a poisoned entry. -/
def State.readSel (s : State) (c : KvCtx) : List (Option Int) :=
  (List.range c.selP).map fun i =>
    let sp := spaceOf c.selSpace
    let a := c.selAddr + 4 * i
    if s.poisonedAt sp a 4 then none else some (signed 32 (s.rd sp a 4))

/-- The paged slot of a letter as its dispatch finds it (R255, R331, R332): context, selection list, what is supplied for
each page. -/
def State.latchPages (s : State) (c : KvCtx) (sel : Bool) (selList : List (Option Int)) (otherFmt : Nat) (t : TDesc) : PagedRun :=
  let pages := ((List.range (t.localAt 1)).map fun l => (t.pos0 + l) / c.page).eraseDups
  { ctx := c, sel := sel,
    pages := pages.map fun g => (g, s.pageSupply c sel selList otherFmt t.rowOff t.otherStrides (max (g * c.page) t.pos0)) }

/-- LENGTH of a context rises to n (R327, R334). -/
def State.setKvLength (s : State) (c : KvCtx) (n : Nat) : State :=
  let a := s.kvCtxAddr c.n + 8
  let w := s.rd .attic a 4
  s.wr .attic a 4 (w / 2 ^ 25 * 2 ^ 25 + n % 2 ^ 25)

/-! ### Page sketches (R328, R329) -/

/-- Address of the μ record, of the scale byte and of ν for page entry j and head h (R329). -/
def KvCtx.skD (c : KvCtx) : Nat := if c.skHdim then 128 else 64
def KvCtx.skMu (c : KvCtx) (j h : Nat) : Nat := c.sketchBase + (j * c.skHeads + h) * c.skD
def KvCtx.skScale (c : KvCtx) (j h : Nat) : Nat := c.sketchBase + c.maxPages * c.skHeads * c.skD + (j * c.skHeads + h)
def KvCtx.skNu (c : KvCtx) (j h : Nat) : Nat :=
  cdiv (c.sketchBase + c.maxPages * c.skHeads * c.skD + c.maxPages * c.skHeads) 64 * 64 + 4 * (j * c.skHeads + h)

def f32add (a b : F32) : F32 := f32rnd ((f32val a).add (f32val b))
def f32mul (a b : F32) : F32 := f32rnd ((f32val a).mul (f32val b))

/-- The sketch of one head of a full page (R328): E4M3 codes of μ, its scale byte, ν. -/
def State.headSketch (s : State) (c : KvCtx) (f : Nat) (hd : PageHdr) (h : Nat) : List Nat × Nat × F32 :=
  let D := c.skD
  let elem (r i : Nat) : Elem := readFrame s (s.poolSpace c.pool) (s.frameAddr c.pool f) hd (r * c.rowElems + c.skOff + h * D + i)
  let rows := List.range c.page
  let cols := List.range D
  let bad := rows.any fun r => cols.any fun i =>
    let e := elem r i
    e.poison || !e.scaled.isFinite
  if bad then (cols.map fun _ => 0, 0xFF, 0x7FC00000)
  else
    let mu := cols.map fun i =>
      (f32val (rows.foldl (fun acc r => f32add acc (f32rnd (elem r i).scaled)) 0)).mul (Num.pow2 (-(c.log2Page : Int)))
    let q := quantAt 4 8 false true (mu.map fun v => ⟨v, false, false, false, 0⟩)
    let norm (r : Nat) : F32 :=
      sqrtF32 (f32val (cols.foldl (fun acc i => let x := (elem r i).scaled; f32rnd ((f32val acc).add (x.mul x))) 0))
    (q.codes, q.scale, rows.foldl (fun acc r => f32max acc (norm r)) 0)

/-- A page that has just filled is sketched (R328). -/
def State.sketchPage (s : State) (c : KvCtx) (j f : Nat) : State :=
  let hd := s.hdr c.pool f
  let sp := spaceOf c.sketchSpace
  let s1 := (List.range c.skHeads).foldl (fun st h =>
    let (codes, sc, nu) := st.headSketch c f hd h
    let st := st.wrBytes sp (c.skMu j h) (codes.map (BitVec.ofNat 8))
    let st := st.wr sp (c.skScale j h) 1 sc
    st.wr sp (c.skNu j h) 4 nu.toNat) s
  (s1.setHdr c.pool f { hd with sketched := true, sketchAddr := c.skMu j 0, sketchSpace := c.sketchSpace }).count Ctr.kvSketches 1

/-! ### Page commands (R333, R334) -/

/-- The fields of a page command. -/
structure PageCmd where
  op : Nat
  ctx : Nat
  src : Nat
  first : Nat
  cnt : Nat
  deriving DecidableEq, Repr

def parsePageCmd (v : Nat) : PageCmd := ⟨bits v 0 4, bits v 8 20, bits v 32 20, bits v 64 20, bits v 96 21⟩

/-- Is a page command refused (R334)? A reserved OP is told apart, since R584 gives it another abort. -/
def State.pageCmdBad (s : State) (c : PageCmd) : Bool :=
  let n := s.odv K.kvCtxCount
  (c.op != 1 && c.op != 2) || n ≤ c.ctx || (c.op == 1 && n ≤ c.src) || c.cnt == 0 || 1048576 < c.cnt
  || (s.kvCtx c.ctx).maxPages < c.first + c.cnt || (c.op == 1 && (s.kvCtx c.src).maxPages < c.first + c.cnt)

/-- FREE (R334). -/
def State.kvFree (s : State) (c : PageCmd) : State :=
  let cx := s.kvCtx c.ctx
  let s1 := (List.range c.cnt).foldl (fun st i =>
    let j := c.first + i
    let (_, valid, f) := st.kvEntry cx j
    if valid then (st.setKvEntry cx j false f).releaseFrame cx.pool f else st) s
  s1.setKvLength cx (min cx.length (c.first * cx.page))

/-- SHARE (R334). -/
def State.kvShare (s : State) (c : PageCmd) : State :=
  let cx := s.kvCtx c.ctx
  let sx := s.kvCtx c.src
  let s1 := (List.range c.cnt).foldl (fun st i =>
    let j := c.first + i
    let (_, v0, f0) := st.kvEntry cx j
    let st := if v0 then (st.setKvEntry cx j false f0).releaseFrame cx.pool f0 else st
    let (_, v1, f1) := st.kvEntry sx j
    let st := st.setKvEntry cx j v1 f1
    let st := if v1 then st.setHdr sx.pool f1 { st.hdr sx.pool f1 with refcount := (st.hdr sx.pool f1).refcount + 1 } else st
    if v1 && cx.sketchEn && sx.sketchEn then
      (List.range (min cx.skHeads sx.skHeads)).foldl (fun st h =>
        let ssp := spaceOf sx.sketchSpace
        let dsp := spaceOf cx.sketchSpace
        let st := st.wrBytes dsp (cx.skMu j h) (st.rdBytes ssp (sx.skMu j h) (min cx.skD sx.skD))
        let st := st.wr dsp (cx.skScale j h) 1 (st.rd ssp (sx.skScale j h) 1)
        st.wr dsp (cx.skNu j h) 4 (st.rd ssp (sx.skNu j h) 4)) st
    else st) s
  s1.setKvLength cx (max (s1.kvCtx c.ctx).length (min sx.length ((c.first + c.cnt) * sx.page)))

/-- A page command that is accepted, whatever path it came by; KV_CMD_DONE counts it (R333). -/
def State.pageCmd (s : State) (c : PageCmd) : State :=
  let s1 := if c.op == 1 then s.kvShare c else s.kvFree c
  s1.setOd K.kvCmdDone ((s1.odv K.kvCmdDone + 1) % 2 ^ 32)

/-- A page command refused at the doorbell (R334). -/
def State.pageCmdIgnored (s : State) : State := (s.count Ctr.kvCmdBad 1).raise Bell.kvCmdBad

end Sys2Proof.Machine
end

