-- ==== Sys2Proof/Machine/Validate.lean ====
section
/-! DEFINITION. Letter validation: the ordered checks of R205 with the error of each (R9, R32 to R37, R50, R83, R100,
R116, R128, R145, R147 to R149, R182 to R185, R193 to R203, R227, R228, R252, R267, R279, R294, R314, R316, R485,
R585, R586). -/

namespace Sys2Proof.Machine

namespace Err
def isaVersion : Nat := 0x01
def route : Nat := 0x02
def kindRoute : Nat := 0x03
def slot : Nat := 0x04
def descAlign : Nat := 0x05
def descPoison : Nat := 0x06
def rank : Nat := 0x07
def dim : Nat := 0x08
def shape : Nat := 0x09
def kRange : Nat := 0x0A
def shard : Nat := 0x0B
def strideAlias : Nat := 0x0C
def addressRange : Nat := 0x0D
def featureLevel : Nat := 0x0E
def globalSize : Nat := 0x0F
def formatCode : Nat := 0x10
def formatMix : Nat := 0x11
def formatBlock : Nat := 0x12
def formatWidth : Nat := 0x13
def badScale : Nat := 0x14
def accumFormat : Nat := 0x15
def histSlot : Nat := 0x16
def scaleSet : Nat := 0x17
def tileShape : Nat := 0x20
def tileIndex : Nat := 0x21
def roomUnavailable : Nat := 0x22
def aborted : Nat := 0x30
def context : Nat := 0x31
def window : Nat := 0x40
def roomProg : Nat := 0x41
def kvContext : Nat := 0x42
def kvPaged : Nat := 0x43
def kvRange : Nat := 0x44
def kvPoolEmpty : Nat := 0x45
def kvFormat : Nat := 0x46
def kvFrame : Nat := 0x47
def wsProgram : Nat := 0x50
def wsParam : Nat := 0x51
def wsShape : Nat := 0x52
def wsFault : Nat := 0x53
def wsNoOutlier : Nat := 0x54
def stationOff : Nat := 0x70
end Err

/-- The error of the first check that fails. -/
def firstErr : List (Bool × Nat) → Option Nat
  | [] => none
  | (bad, e) :: t => if bad then some e else firstErr t

/-- Clock-enable bits of R483. -/
def State.enabled (s : State) (b : Nat) : Bool := bit (s.odv K.clkEnable) b

/-- The room state a letter is checked against: 0 when the room's enable bit is clear (R97, R484). -/
def State.roomMode (s : State) (back : Bool) : Nat :=
  if back then (if s.enabled 8 then s.odv K.backMode else 0) else (if s.enabled 7 then s.odv K.frontMode else 0)

/-! ### What a letter is -/

def isRoomRoute (r : Nat) : Bool := r == 1 || r == 2
def isWsRoute (r : Nat) : Bool := r == 4 || r == 5
def isCopyRoute (r : Nat) : Bool := r == 8 || r == 9
/-- Routes that run through the Landing and so have a count part (R222). -/
def isLandingRoute (r : Nat) : Bool := isRoomRoute r || r == 4 || isCopyRoute r

def routeAssigned (r : Nat) : Bool :=
  r == 0 || isRoomRoute r || isWsRoute r || isCopyRoute r || r == 0x10 || r == 0x18 || r == 0x20 || r == 0x30

/-- Is a route listed for a queue kind (R183, R184)? -/
def kindAllows (kind r : Nat) : Bool :=
  r == 0 || r == 0x30 ||
  (match kind with
   | 0 => isRoomRoute r || isWsRoute r || r == 0x18
   | 1 => isCopyRoute r
   | 2 => r == 0x10
   | 3 => r == 0x20
   | _ => r == 1 || isWsRoute r)

/-- Is a slot rule broken (R183, R228)? -/
def slotBad (y3 : Bool) (l : Letter) : Bool :=
  let a := l.slotA.present
  let b := l.slotB.present
  let d := l.slotD.present
  let st := l.slotS.present
  (y3 && st) ||
  (if l.route == 0 || l.route == 0x30 || l.route == 0x20 then a || b || d || st
   else if isRoomRoute l.route then !a || !b
   else if l.route == 4 then !a
   else if l.route == 5 then !a || !d || st
   else if isCopyRoute l.route then !a || b || !d
   else if l.route == 0x10 then b || (st && l.prog % 16 != 1)
   else false)

/-! ### Reading descriptors (R585) -/

structure SlotRead where
  present : Bool
  align : Bool
  poison : Bool
  noSet : Bool
  desc : TDesc
  raw : Nat
  deriving DecidableEq, Repr

def inSpace (sp : Space) (a n : Nat) : Bool := a + n ≤ spaceLimit sp

/-- A slot's descriptor and scale-set entry (R585). -/
def readSlot (s : State) (r : SlotRef) : SlotRead :=
  if !r.present then ⟨false, false, false, false, parseDesc s.captain 0 0, 0⟩
  else
    let v := s.rd r.space r.addr 64
    let n := bits v 88 20
    let overCount := n != 0 && s.cap K.scaleCount ≤ n
    let sa := s.cap K.scaleBase + 32 * n
    let useSet := n != 0 && !overCount
    let sv := if useSet then s.rd .attic sa 32 else 0
    { present := true,
      align := !inSpace r.space r.addr 64 || (useSet && !inSpace .attic sa 32),
      poison := s.poisonedAt r.space r.addr 64 || (useSet && s.poisonedAt .attic sa 32),
      noSet := overCount, desc := parseDesc s.captain v sv, raw := v }

/-! ### Checks 5 to 8 -/

def descFeature (minor : Nat) (t : TDesc) : Bool :=
  (t.paged && minor < 2) || (t.sideList && minor < 1) || (t.dims.any (fun d => d.mode == 2) && minor < 3)

/-- Block fields of one descriptor (R35 to R37, R193, R194). -/
def blockBad (r : SlotRead) : Bool :=
  let t := r.desc
  let n : Int := (blkOf t.blkCode : Nat)
  let blocked := isBlockCode t.format || t.blkCode != 0
  5 ≤ t.blkCode || !blkAllowed t.format t.blkCode
  || (t.mx && !(t.blkCode == 2 && (t.format == 4 || t.format == 5 || t.format == 15)))
  || (blocked && (t.rank ≤ t.blkDim || (dimAt t t.blkDim).stride != 1
      || ((t.dims.zip (List.range t.dims.length)).any fun p => p.2 != t.blkDim && decide (p.1.stride % n ≠ 0))))
  || (t.blkCode != 0 && !t.paged && !r.noSet && t.bs.isNone)

/-- Format codes of a letter's slots (R32, R33, R50, R183): FP32 is no room operand, INT32 no operand and no Landing
destination (the error of FP32 in a room operand slot is DEDUCED, log 14). A Glazia letter's own formats are judged under
R372. -/
def formatBad (l : Letter) (a b d st : SlotRead) : Bool :=
  if l.route == 0x18 then (a.present && !fmtAssigned a.desc.format) || (d.present && !fmtAssigned d.desc.format) else
  let operand (r : SlotRead) : Bool := r.present && (!fmtAssigned r.desc.format || r.desc.format == 0x10
    || (isRoomRoute l.route && r.desc.format == 1))
  let dest (r : SlotRead) : Bool := r.present &&
    (if l.route == 5 then r.desc.format != 1 && r.desc.format != 0x10
     else !fmtAssigned r.desc.format || r.desc.format == 0x10)
  operand a || operand b || dest d || dest st

def shardBad (t : TDesc) : Bool :=
  t.dims.any fun d => d.mode == 3 ||
    ((d.mode == 1 || d.mode == 2) && (d.parts < 1 || 65536 < d.parts || d.parts ≤ d.index || d.cyclic < 1 || 16777216 < d.cyclic))

/-! ### Check 9: dimensions and shapes -/

/-- Every dimension that no selector names has local extent 1. -/
def unnamedBad (t : TDesc) (named : List Nat) : Bool :=
  (t.dims.zip (List.range t.dims.length)).any fun p => !named.contains p.2 && p.1.local != 1

def kProduct (t : TDesc) (k1 k2 : Nat) : Nat := t.localAt k1 * (if k2 == 7 then 1 else t.localAt k2)

/-- R252: the window checks. -/
def windowBad (l : Letter) (a : SlotRead) : Bool :=
  match l.window with
  | none => false
  | some w =>
    !(l.route == 1 || l.route == 2 || l.route == 4) || l.aK2 != 7 || a.desc.paged
    || a.desc.rank ≤ w.xDim || (w.yDim != 7 && a.desc.rank ≤ w.yDim)
    || w.xDim == l.aM || w.xDim == l.aK || (w.yDim != 7 && (w.yDim == l.aM || w.yDim == l.aK || w.yDim == w.xDim))
    || (w.yDim == 7 && (w.ky != 1 || w.sy != 1 || w.dy != 1 || w.padY != 0 || w.outY != 1))

def selBad (rank : Nat) (sel : List Nat) (opt : Option Nat) : Bool :=
  sel.any (fun d => rank ≤ d) || (match opt with | some d => d != 7 && rank ≤ d | none => false)
  || !((sel ++ (match opt with | some 7 => [] | some d => [d] | none => [])).Nodup : Bool)

/-- Rows and columns of a room letter's output (R199, R252). -/
def outRows (l : Letter) (a : SlotRead) : Nat := aRows l (some a.desc)
def outCols (l : Letter) (b : SlotRead) : Nat := b.desc.localAt l.bN
def aKExtent (l : Letter) (a : SlotRead) : Nat :=
  match l.window with
  | none => kProduct a.desc l.aK l.aK2
  | some w => a.desc.localAt l.aK * w.kx * w.ky

/-- R199, in the order of its table. -/
def roomShape (l : Letter) (a b d st : SlotRead) : List (Bool × Nat) :=
  let win := match l.window with | none => [] | some w => [w.xDim, w.yDim]
  let dimsBad :=
    selBad a.desc.rank [l.aM, l.aK] (some l.aK2) || selBad b.desc.rank [l.bK, l.bN] (some l.bK2)
    || (d.present && selBad d.desc.rank [l.dM, l.dN] none) || (st.present && selBad st.desc.rank [l.dM, l.dN] none)
  let extBad :=
    unnamedBad a.desc ([l.aM, l.aK, l.aK2] ++ win) || unnamedBad b.desc [l.bK, l.bK2, l.bN]
    || (d.present && unnamedBad d.desc [l.dM, l.dN]) || (st.present && unnamedBad st.desc [l.dM, l.dN])
  let m := outRows l a
  let n := outCols l b
  let sBad := st.present &&
    (if d.present then st.desc.localAt l.dM != d.desc.localAt l.dM || st.desc.localAt l.dN != d.desc.localAt l.dN
     else st.desc.localAt l.dM != m || st.desc.localAt l.dN != n)
  [ (dimsBad, Err.dim), (extBad, Err.dim),
    (d.present && (m != d.desc.localAt l.dM || n != d.desc.localAt l.dN), Err.shape), (sBad, Err.shape),
    (l.k != 0 && (2 ^ 32 ≤ aKExtent l a || 2 ^ 32 ≤ kProduct b.desc l.bK l.bK2), Err.kRange),
    (l.k != 0 && (l.k != aKExtent l a || l.k != kProduct b.desc l.bK l.bK2), Err.shape) ]

def globalBad (a b d st : SlotRead) : Bool :=
  (d.present && 2 ^ 48 < d.desc.globalCount) || (st.present && 2 ^ 48 < st.desc.globalCount)
  || (a.present && a.desc.sideList && 2 ^ 48 < a.desc.globalCount)
  || (b.present && b.desc.sideList && 2 ^ 48 < b.desc.globalCount)

/-! ### Check 10: destinations -/

/-- HIST_SLOT of R149 for a destination that names a slot. -/
def slotOver (s : State) (h : Nat) : Bool := h != 0xFFFF && s.cap K.histCount ≤ h

/-- Scale mode of a destination in CASSETTE_MODE (R179). -/
def isHistory (mode : Nat) (isS : Bool) : Bool := bits mode (if isS then 4 else 2) 2 == 1

/-- R148 for one destination; an absent D is a destination of format 0x00 (R185), an absent S is none. -/
def histChecks (s : State) (l : Letter) (r : SlotRead) (isS : Bool) : Bool × Bool × Bool :=
  let h := if isS then l.sHist else l.dHist
  let f := if r.present then r.desc.format else 0
  if isHistory (s.cap (K.cass l.cassette 1)) isS && (r.present || !isS) then
    (h == 0xFFFF || slotOver s h, !r.present || r.desc.ts.isNone, !is8bit f)
  else ((r.present || !isS) && slotOver s h, false, false)

def destChecks (s : State) (y3 : Bool) (l : Letter) (d st : SlotRead) : List (Bool × Nat) :=
  let hd := histChecks s l d false
  let hs := histChecks s l st true
  [ (l.dAccum && (!d.present || d.desc.format != 2 || d.desc.ts.isSome), Err.accumFormat),
    (isRoomRoute l.route && (l.prog / 4 != 0 || ((bit l.prog 0 || bit l.prog 1) && !l.dAccum) || l.prog % 4 == 3
      || (y3 && l.prog != 0)), Err.roomProg),
    (hd.1 || hs.1, Err.histSlot), (hd.2.1 || hs.2.1, Err.badScale), (hd.2.2 || hs.2.2, Err.formatCode) ]

/-! ### Checks 11 and 12 -/

def insertDim (d : Dim) : List Dim → List Dim
  | [] => [d]
  | e :: t => if d.stride.natAbs < e.stride.natAbs then d :: e :: t else e :: insertDim d t

/-- R200: is a write descriptor not injective? -/
def aliasBad (t : TDesc) : Bool :=
  let sorted := t.dims.foldl (fun acc d => insertDim d acc) []
  (sorted.foldl (fun (st : Bool × Int) d =>
    let a : Int := ((d.stride.natAbs : Nat) : Int)
    (st.1 || decide (a = 0) || decide (a ≤ st.2), st.2 + a * (((d.local : Nat) : Int) - 1))) (false, 0)).1

/-- Is a run of bytes outside what R201 accepts? -/
def spanBad (sp : Space) (lo hi : Int) : Bool := decide (lo < 0) || decide (((spaceLimit sp : Nat) : Int) ≤ hi)

/-- R201 for one descriptor that is not paged, with every present scale-set pointer and the side-list header. An array
that no element reads, because the tensor has no blocks or no elements, is checked at its own address (DEDUCED, log 61). -/
def rangeBad (t : TDesc) : Bool :=
  if t.paged then false else
  let empty := t.dims.any fun d => d.local == 0
  let w : Int := (fmtBits t.format : Nat)
  let n : Int := (blkOf t.blkCode : Nat)
  let lo := t.minOffset
  let hi := t.maxOffset
  let data := t.format != 0 && !empty &&
    spanBad t.space ((t.base : Int) + lo * w / 8) ((t.base : Int) + (hi * w + w - 1) / 8)
  let ptr (l : Option Loc) (a b : Int) : Bool :=
    match l with | none => false | some p => spanBad p.space ((p.addr : Int) + a) ((p.addr : Int) + b)
  let arr (l : Option Loc) : Bool := if n == 0 || empty then ptr l 0 0 else ptr l (lo / n) (hi / n)
  data || ptr t.ts 0 3 || arr t.bs || arr t.wa
  || (t.sideList && (match t.sideLoc with | none => false | some p => spanBad p.space p.addr (p.addr + 63)))

/-- R316 and R314 for the paged slot of a letter. -/
def pagedChecks (s : State) (l : Letter) (a b d st : SlotRead) : List (Bool × Nat) :=
  let slots := [(a, 0), (b, 1), (d, 2), (st, 3)].filter fun p => p.1.present && p.1.desc.paged
  match slots with
  | [] => []
  | (r, which) :: _ =>
    let n := bits l.pageCtx 0 20
    let sel := bit l.pageCtx 20
    let c := s.kvCtx n
    let t := r.desc
    let write := which == 2
    let ctxBad := s.odv K.kvCtxCount ≤ n || c.log2Page < 4 || 16 < c.log2Page || 2 ≤ c.mode
      || c.rowElems % 128 != 0 || c.rowElems < 128 || 65408 < c.rowElems || s.odv (K.kvPool c.pool 4) == 0
      || (c.listSpace != 0 && c.listSpace != 2) || (sel && c.mode != 0)
    let slotOk := (which == 1 && isRoomRoute l.route) || (which == 0 && l.route == 8)
      || (which == 2 && (isRoomRoute l.route || l.route == 8))
    let span : Int := (t.rowOff : Int) + ((t.dims.zip (List.range t.dims.length)).foldl
      (fun acc p => if p.2 == 1 then acc else acc + p.1.stride * ((p.1.local - 1 : Nat) : Int)) 0)
    let dim1 := dimAt t 1
    let ruleBad := 1 < slots.length || !slotOk || t.rank < 2 || dim1.mode != 0
      || dim1.stride != (c.rowElems : Int) || t.otherStrides.any (fun x => decide (x < 0))
      || decide ((c.rowElems : Int) ≤ span) || (t.blkCode != 0 && t.blkDim != 0) || t.mx || t.sideList
      || t.bs.isSome || t.wa.isSome || (!write && t.ts.isSome) || (write && sel)
    let ext := t.localAt 1
    let last := t.pos0 + (ext - 1)
    let posBad := ext != 0 &&
      (if sel then (c.sinkPages + c.selP + c.winPages) * c.page ≤ last
       else 16777216 ≤ last || (List.range ext).any fun i => c.maxPages ≤ c.entryOf (t.pos0 + i))
    let page := c.page * c.rowElems
    let need := frameScales c.page c.rowElems t.format + (if t.blkCode == 0 then 0 else cdiv page (blkOf t.blkCode))
    let frameBad := write && s.frameBytes c.pool < cdiv need 64 * 64
    [(ctxBad, Err.kvContext), (ruleBad, Err.kvPaged), (posBad, Err.kvRange), (frameBad, Err.kvFrame)]

/-! ### Check 13: rooms (R83, R97 to R100, R115, R116, R120, R127, R128) -/

def tileRowsOf (code : Nat) : Nat := 64 * 2 ^ code
def tileColsOf (mode : LaneMode) (code : Nat) : Nat := (if mode == .unsplit then 192 else 384) * 2 ^ code

/-- Chunk count of R120. -/
def chunkCount (m k : Nat) : Nat :=
  let n := if 1024 ≤ m then 2097152 else 2048 * m
  if k ≤ n then 1 else if k ≤ 2 * n then 2 else if k ≤ 4 * n then 4 else 8

/-- Lane mode of a letter in a room state (R34, R74, R77, R98, R99). -/
def laneMode (back : Bool) (roomMode fa fb : Nat) : LaneMode :=
  if roomMode != 3 then .unsplit
  else if is16bit fa || is16bit fb then .unsplit
  else if !back && is8bit fa && fb == 9 then .packed2
  else if !back && is8bit fa && fb == 8 then .packed1
  else .split

/-- Tile slots of the Larder accumulation region (R127). -/
def larderSlots (m w : Nat) (bf16 : Bool) : Nat := min 256 (100663296 / (m * w * (if bf16 then 2 else 4)))

/-- The largest power of two not above n (n ≥ 1), up to 8. -/
def pow2Below8 (n : Nat) : Nat := if 8 ≤ n then 8 else if 4 ≤ n then 4 else if 2 ≤ n then 2 else 1

/-- How a letter's sums are placed: chunk count of a full pass, pass length, footprint, runs in passes (R120, R123,
R128). -/
structure Placing where
  passLen : Nat
  footprint : Nat
  passes : Bool
  deriving DecidableEq, Repr

/-- Segments of a K. -/
def segsOf (k : Nat) : Nat := cdiv k 256

/-- Chunk count of one pass of length k; a Y3 letter has at most `slots` entries (R120, R128). -/
def passChunks (y3 : Bool) (m k slots : Nat) : Nat :=
  if y3 then min (chunkCount m k) (pow2Below8 slots) else chunkCount m k

def placing (y3 : Bool) (m k slots : Nat) : Placing :=
  let c := passChunks y3 m k slots
  if y3 then
    if 8192 < cdiv (segsOf k) c then ⟨2097152 * pow2Below8 slots, pow2Below8 slots + 2, true⟩ else ⟨k, c, false⟩
  else if 16777216 < k then ⟨16777216, 10, true⟩ else ⟨k, c, false⟩

/-- Tiles that fit a Pantry (R115). -/
def pantryTiles (back : Bool) (m : Nat) : Nat := (if back then 32768 else 16384) / m

def roomChecks (s : State) (y3 : Bool) (l : Letter) (a b d st : SlotRead) : List (Bool × Nat) :=
  let back := l.route == 2
  let mode := s.roomMode back
  let m := tileRowsOf l.tileM
  let lm := laneMode back mode a.desc.format b.desc.format
  let w := tileColsOf lm l.tileN
  let quarter := mode == 1
  let shapeBad := (if back then l.tileM == 0 || 5 < l.tileM else 4 < l.tileM)
    || (quarter && (3 < l.tileM || 2 < l.tileN))
  let bf := y3 && l.accBf16
  let slots := larderSlots m w bf
  let pl := placing y3 m l.k slots
  let i0 := l.pantryIndex % 256
  let idxBad :=
    if y3 then slots < (i0 + 1) * pl.footprint
    else (if quarter then slots else pantryTiles back m) < i0 + (l.groupsM1 + 1) * pl.footprint
  let _ := d
  let _ := st
  [ (mode == 0, Err.roomUnavailable), (!s.enabled 5 || !s.enabled 6, Err.stationOff), (shapeBad, Err.tileShape),
    (idxBad, Err.tileIndex),
    ((a.desc.sideList || b.desc.sideList) && (if back then s.ws.reserved1 else s.ws.reserved0) == 0, Err.wsNoOutlier) ]

/-! ### Workshop letters (R264 to R267, R273, R274, R280) -/

/-- A Workshop letter's parameter block (R264, R265); 2,048 bits. -/
def wsParam (s : State) (l : Letter) : Nat := s.rd (spaceOf (bits l.param0 48 2)) (bits l.param0 0 48) 256

def wsProgOf (s : State) (l : Letter) : Option WsProg := s.ws.progs.find? fun p => p.num == l.prog % 4096

/-- Columns of a Workshop letter's A (R263, R251). -/
def wsColsOf (l : Letter) (a : TDesc) : Nat :=
  match l.window with | none => a.localAt l.aK | some w => a.localAt l.aK * w.kx * w.ky

/-- Rows per Workshop tile (R265). A letter with a window has no parameter block; its tile takes as many rows as check 13c
of R267 lets it, at most 65,536 (DESIGN CHOICE, log 62). -/
def tileRowsFor (l : Letter) (pb n : Nat) : Nat :=
  if bit l.param0 63 then max 1 (min 65536 (393216 / max 1 n)) else bits pb 16 16 + 1

/-- A row array of the block: 0 is RA0, 1 is RA1. -/
def rowArray (pb i : Nat) : Option Loc := parseLoc pb (64 + 64 * i)

/-- Bytes per row of a program's row arrays (R266, R273, R282). -/
def WsProg.raBytes (p : Option WsProg) (i : Nat) : Nat := p.elim 4 fun x => if i == 0 then x.ra0 else x.ra1

/-- A program's own fields out of range (R274, R280). -/
def wsFieldsBad (prog pb : Nat) : Bool :=
  prog == 1 && (bits pb 288 2 == 3 || bits pb 384 24 == 0 || 8192 < bits pb 408 14)

/-- Columns of D that a standard program writes for A's columns n (R273, R281). -/
def wsOutCols (prog n pb : Nat) : Nat :=
  if prog == 0x21 then 2 * n else if prog == 0x40 then bits pb 256 10 + 1 else n

def rowExtent (l : Letter) (a : SlotRead) : Nat := aRows l (some a.desc)

/-- Check 9 for a Workshop letter: the selectors name rows and columns, and each standard program's shape. -/
def wsShapeChecks (s : State) (l : Letter) (a b d st : SlotRead) : List (Bool × Nat) :=
  let prog := l.prog % 4096
  let pb := wsParam s l
  let win := match l.window with | none => [] | some w => [w.xDim, w.yDim]
  let dims := selBad a.desc.rank [l.aM, l.aK] none || (b.present && selBad b.desc.rank [l.bN, l.bK] none)
    || (d.present && selBad d.desc.rank [l.dM, l.dN] none) || (st.present && selBad st.desc.rank [l.dM, l.dN] none)
  let ext := unnamedBad a.desc ([l.aM, l.aK] ++ win) || (b.present && unnamedBad b.desc [l.bN, l.bK])
    || (d.present && unnamedBad d.desc [l.dM, l.dN]) || (st.present && unnamedBad st.desc [l.dM, l.dN])
  let rows := rowExtent l a
  let n := wsColsOf l a.desc
  let standard := prog < 0x800
  let on := wsOutCols prog n pb
  let outBad (r : SlotRead) := r.present && standard && (r.desc.localAt l.dM != rows || r.desc.localAt l.dN != on)
  let bRows := b.desc.localAt l.bN
  let bCols := b.desc.localAt l.bK
  let bBad := b.present && standard &&
    (if prog == 0x21 then bRows != rows || bCols != 2 * n
     else if prog == 0x10 then bCols != n || (bRows != rows && bRows != 1)
     else if prog == 0x12 then bCols != n || (bRows != 2 && bRows != 1)
     else bRows != rows || bCols != n)
  [(dims, Err.dim), (ext, Err.dim), (outBad d || outBad st || bBad, Err.shape)]

/-- Check 13 for a Workshop letter (R267). -/
def wsChecks (s : State) (kind : Nat) (l : Letter) (a d : SlotRead) : List (Bool × Nat) :=
  let pb := wsParam s l
  let win := bit l.param0 63
  let ok := match wsProgOf s l with
    | none => false
    | some p => (if l.route == 4 then p.route4 else p.route5) && (if kind == 4 then p.decode else p.compute) && (!win || p.window)
  let nMax := (wsProgOf s l).elim 0 (·.nMax)
  let n := wsColsOf l a.desc
  let rows := rowExtent l a
  let raBad (i : Nat) : Bool :=
    match rowArray pb i with
    | none => false
    | some p => rows != 0 && !inSpace p.space p.addr (WsProg.raBytes (wsProgOf s l) i * rows)
  let _ := d
  [ (!s.enabled 9 && !s.enabled 10, Err.stationOff), (!s.enabled 5 || (l.route == 4 && !s.enabled 6), Err.stationOff),
    (!ok || s.odv K.libState == 0, Err.wsProgram),
    (!win && (bits l.param0 0 48 % 64 != 0 || bits pb 0 12 != l.prog % 4096 || wsFieldsBad (l.prog % 4096) pb || raBad 0 || raBad 1), Err.wsParam),
    (nMax < n || 393216 < tileRowsFor l pb n * n, Err.wsShape) ]

/-- R147: the block dimension of a blocked destination. -/
def destBlockBad (s : State) (l : Letter) (a r : SlotRead) : Bool :=
  r.present && r.desc.blkCode != 0 && (isRoomRoute l.route || l.route == 4) &&
    !(r.desc.blkDim == l.dN || (r.desc.blkDim == l.dM &&
      blkOf r.desc.blkCode ≤ (if l.route == 4 then tileRowsFor l (wsParam s l) (wsColsOf l a.desc) else tileRowsOf l.tileM)))

/-! ### The whole order of R205 -/

structure Verdict where
  err : Option Nat
  a : SlotRead
  b : SlotRead
  d : SlotRead
  st : SlotRead
  deriving DecidableEq, Repr

/-- Checks 1 to 3 (R182 to R184, R227, R228): every letter. -/
def checks123 (c : QCtx) (l : Letter) : List (Bool × Nat) :=
  let y3 := c.isa / 16 == 3
  let minor := if y3 then 0 else c.isa % 16
  [ (c.isa == 0, Err.isaVersion),
    ((l.batchKey != 0 && minor < 2) || (isRoomRoute l.route && (l.aK2 != 7 || l.bK2 != 7) && minor < 3), Err.featureLevel),
    (!routeAssigned l.route, Err.route),
    (!kindAllows c.kind l.route || (y3 && !(l.route ≤ 9 || l.route == 0x30)), Err.kindRoute),
    (slotBad y3 l, Err.slot) ]

/-- Checks 4 to 8 of R205, for any letter with slots. -/
def checks4to8 (s : State) (c : QCtx) (l : Letter) (a b d st : SlotRead) : List (Bool × Nat) :=
  let minor := if c.isa / 16 == 3 then 0 else c.isa % 16
  let every (f : SlotRead → Bool) : Bool := [a, b, d, st].any fun r => r.present && f r
  let pbPoison := isWsRoute l.route && !bit l.param0 63 && s.poisonedAt (spaceOf (bits l.param0 48 2)) (bits l.param0 0 48) 256
  [ (every (·.align), Err.descAlign), (every (·.poison) || pbPoison, Err.descPoison),
    (every (fun r => 6 < r.desc.rank), Err.rank), (every (fun r => descFeature minor r.desc), Err.featureLevel),
    (formatBad l a b d st, Err.formatCode), (isRoomRoute l.route && !fmtPair a.desc.format b.desc.format, Err.formatMix),
    (every blockBad || destBlockBad s l a d || destBlockBad s l a st, Err.formatBlock),
    (every (·.noSet), Err.scaleSet), (every (fun r => r.desc.wa.isSome && minor < 1), Err.featureLevel),
    (every (fun r => shardBad r.desc), Err.shard) ]

/-- Checks 11 and 12 of R205, for any letter with slots. -/
def checks11to12 (s : State) (l : Letter) (a b d st : SlotRead) : List (Bool × Nat) :=
  [((d.present && aliasBad d.desc) || (st.present && aliasBad st.desc), Err.strideAlias),
   ([a, b, d, st].any fun r => r.present && rangeBad r.desc, Err.addressRange)] ++ pagedChecks s l a b d st

/-- Validation of a room, Workshop or copy letter (R205). -/
def validate (s : State) (c : QCtx) (l : Letter) : Verdict :=
  let y3 := c.isa / 16 == 3
  let a := readSlot s l.slotA
  let b := readSlot s l.slotB
  let d := readSlot s l.slotD
  let st := readSlot s l.slotS
  let room := isRoomRoute l.route
  let ws := isWsRoute l.route
  let copyShape := isCopyRoute l.route &&
    (a.desc.localCount != d.desc.localCount || (st.present && st.desc.localCount != d.desc.localCount))
  let c9 : List (Bool × Nat) := [(windowBad l a, Err.window)] ++ (if room then roomShape l a b d st else [])
    ++ (if ws then wsShapeChecks s l a b d st else []) ++ [(copyShape, Err.shape), (globalBad a b d st, Err.globalSize)]
  let c10 := if l.route == 5 then [(l.dAccum && d.present, Err.accumFormat)] else destChecks s y3 l d st
  let c13 := if room then roomChecks s y3 l a b d st else if ws then wsChecks s c.kind l a d
    else [(!s.enabled 5 || !s.enabled 6, Err.stationOff)]
  { err := firstErr (checks123 c l ++ checks4to8 s c l a b d st ++ c9 ++ c10 ++ checks11to12 s l a b d st ++ c13),
    a := a, b := b, d := d, st := st }

end Sys2Proof.Machine
end

