-- ==== Sys2Proof/Machine/Letterbox.lean ====
section
/-! DEFINITION. The Letterbox (06): contexts, doorbells, queue commands, readiness and choice, dispatch, completion
records (R181, R182, R185, R188, R189, R207 to R223, R231, R236, R331, R590). -/

namespace Sys2Proof.Machine

/-! ### Contexts (R209) -/

def stCode : QState → Nat
  | .ready => 1
  | .halted => 2
  | .flushing => 3

def parseCtx (q v : Nat) (st : QState) : QCtx :=
  { q := q, ringBase := bits v 0 48, ringSpace := spaceOf (bits v 48 2), ringLog2 := bits v 50 5, kind := bits v 55 3,
    prio := bits v 58 3, st := st, head := bits v 64 32, tail := bits v 96 32, done := bits v 128 32,
    crBase := bits v 160 48, crSpace := spaceOf (bits v 208 2), notifySrc := bits v 216 8,
    defDeadline := bits v 224 32, cntBase := bits v 256 48, cntSpace := spaceOf (bits v 304 2), isa := bits v 320 8,
    lastError := bits v 328 8, errSeq := bits v 336 32, late := bits v 368 32, user := bits v 448 64,
    ctxError := false, disabling := false, readyTick := none, raw := v, haltedOn := [] }

/-- Addresses in context n. -/
def State.ctxAddr (s : State) (q : Nat) : Nat := s.odv K.ctxBase + 64 * q

def State.ctxWord (s : State) (q : Nat) : Nat := s.rd .attic (s.ctxAddr q) 64

/-- A context written back (R210): the context as it was loaded, with the fields the part writes (STATE, HEAD, TAIL, DONE,
ISA, LAST_ERROR, ERR_SEQ, LATE). -/
def QCtx.word (c : QCtx) (stcode : Nat) : Nat :=
  let put (v lo w x : Nat) : Nat := v - bits v lo w * 2 ^ lo + x % 2 ^ w * 2 ^ lo
  put (put (put (put (put (put (put (put c.raw 61 3 stcode) 64 32 c.head) 96 32 c.tail) 128 32 c.done) 320 8 c.isa)
    328 8 c.lastError) 336 32 c.errSeq) 368 32 c.late

def State.writeBack (s : State) (c : QCtx) (stcode : Nat) : State :=
  s.wr .attic (s.ctxAddr c.q) 64 (c.word stcode)

def State.queue? (s : State) (q : Nat) : Option QCtx := s.lb.queues.find? fun c => c.q == q

def State.setQueue (s : State) (c : QCtx) : State :=
  { s with lb := { s.lb with queues := s.lb.queues.map fun d => if d.q == c.q then c else d } }

/-- Put a context in the cache, used last; past 4,096 the one not used for longest leaves it and is written back as it
stands (R209; the choice of LRU and the write-back are DESIGN CHOICE, log 8). -/
def State.cacheCtx (s : State) (q : Nat) : State :=
  if s.lb.cached.contains q then { s with lb := { s.lb with cached := q :: s.lb.cached.filter (· != q) } }
  else
    let l := q :: s.lb.cached
    let s1 := match l[4096]? with
      | none => s
      | some v => (match s.queue? v with | none => s | some c => s.writeBack c (stCode c.st))
    { s1 with lb := { s1.lb with cached := l.take 4096 } }

/-- A context is looked up: a miss is counted, and a loaded context comes into the cache (R226). -/
def State.touchCtx (s : State) (q : Nat) : State :=
  if s.lb.cached.contains q then s.cacheCtx q
  else
    let s1 := s.count Ctr.lbCtxMiss 1
    if (s.queue? q).isSome then s1.cacheCtx q else s1

/-- A queue leaves the loaded queues and the cache. -/
def State.evict (s : State) (q : Nat) : State :=
  { s with lb := { s.lb with queues := s.lb.queues.filter (fun d => d.q != q), cached := s.lb.cached.filter (· != q) } }

def QCtx.size (c : QCtx) : Nat := 2 ^ c.ringLog2

/-- Serial difference modulo 2^32. -/
def seqSub (a b : Nat) : Nat := (a + 2 ^ 32 - b % 2 ^ 32) % 2 ^ 32

/-! ### Letters in the ring -/

def QCtx.letterAddr (c : QCtx) (seq : Nat) : Nat := c.ringBase + 128 * (seq % c.size)
def State.letterAt (s : State) (c : QCtx) (seq : Nat) : Letter := parseLetter (s.rd c.ringSpace (c.letterAddr seq) 128)
def State.letterPoisoned (s : State) (c : QCtx) (seq : Nat) : Bool := s.poisonedAt c.ringSpace (c.letterAddr seq) 128

/-- Is a dependency met (R188)? -/
def State.depMet (s : State) (q seq : Nat) : Bool :=
  match s.queue? q with
  | some c => seqSub c.done (seq + 1) < 2 ^ 31 && !c.haltedOn.contains seq
  | none => seqSub (bits (s.ctxWord q) 128 32) (seq + 1) < 2 ^ 31

def targetOf (l : Letter) : Option Target :=
  if l.route == 1 then some .front else if l.route == 2 then some .back
  else if isWsRoute l.route then some .workshop else if isCopyRoute l.route then some .copy
  else if l.route == 0x10 then some .peloton else if l.route == 0x18 then some .glazia
  else if l.route == 0x20 then some .exporter else none

/-- Is the head letter of a queue ready (R216)? -/
def State.headReady (s : State) (c : QCtx) : Bool :=
  c.st == .ready && !c.disabling && c.head != c.tail &&
    (s.letterPoisoned c c.head ||
      (let l := s.letterAt c c.head
       (!l.dep0En || s.depMet l.dep0Q l.dep0Seq) && (!l.dep1En || s.depMet l.dep1Q l.dep1Seq)
        && (!l.fence || c.done == c.head)))

/-- Note the Pilot time at which head letters became ready (R216). -/
def State.settle (s : State) : State :=
  let upd (c : QCtx) : QCtx :=
    if s.headReady c then (if c.readyTick.isSome then c else { c with readyTick := some s.tick })
    else { c with readyTick := none }
  { s with lb := { s.lb with queues := s.lb.queues.map upd } }

/-- The deadline of a ready head letter; none for no deadline (R216). -/
def State.deadlineOf (s : State) (c : QCtx) : Option Nat :=
  let l := s.letterAt c c.head
  let d := if l.deadline == 0 then c.defDeadline else l.deadline
  if d == 0 then none else some (c.readyTick.getD s.tick + d)

/-- Does one queue come before another (R217)? -/
def State.before (s : State) (x y : QCtx) : Bool :=
  if x.prio != y.prio then x.prio < y.prio
  else
    match s.deadlineOf x, s.deadlineOf y with
    | some a, some b => if a != b then a < b else x.q < y.q
    | some _, none => true
    | none, some _ => false
    | none, none => x.q < y.q

/-! ### Targets (R186, R262) -/

def Op.rows (o : Op) : Nat := o.parts.foldl (fun n p => n + p.rows) 0

/-- Row tiles and tiles of a room op (R85). -/
def Op.rowTiles (o : Op) : Nat := o.room.elim 0 fun r => cdiv o.rows r.m
def Op.tiles (o : Op) : Nat := o.room.elim 0 fun r => o.rowTiles * cdiv r.cols r.w

/-- Has the op's room yet to signal its last TILE_DONE (R88)? An op without a room occupies its slot to the end. -/
def Op.roomBusy (o : Op) : Bool :=
  match o.room with
  | none => true
  | some r => r.tilesDone < o.tiles

/-- Slots of a target taken by ops that still occupy it, or kept for the op a gather will launch (R219). -/
def State.slotsTaken (s : State) (t : Target) : List Nat :=
  (s.lb.ops.filter fun o => o.target == t && o.roomBusy && o.error == 0 && !o.replayWaiting).map (·.slot)
    ++ (s.lb.gathers.filter fun g => g.target == t).map (·.slot)

def slotCount (s : State) (t : Target) : Nat :=
  match t with
  | .front => 1
  | .back => 1
  | .workshop => if s.odv K.bringupStage == 2 then 1 else 2
  | .copy => 2
  | .peloton => 8
  | .glazia => 1
  | .exporter => 1

/-- Slots of the Workshop whose die has its enable bit clear take no letter (R483, R484). -/
def slotUsable (s : State) (t : Target) (i : Nat) : Bool :=
  match t with
  | .workshop => s.enabled (9 + i)
  | _ => true

/-- The lowest free slot of a target (R262). With no usable die at all a Workshop letter still comes to its checks, which
refuse it (R485). -/
def State.freeSlot (s : State) (t : Target) : Option Nat :=
  let all := List.range (slotCount s t)
  let ok (i : Nat) : Bool := slotUsable s t i && !(s.slotsTaken t).contains i
  if all.any (slotUsable s t) then all.find? ok else some 0

/-- New dispatch to a target is held (`lists` says the work reads a side list): a library load (R284), a pending
reservation change (R279), or a change of the Front Room's state that waits for its running letter (R101). -/
def State.targetHeld (s : State) (t : Target) (lists : Bool) : Bool :=
  s.odv K.libState == 2 && (t == .workshop || lists)
  || (t == .front && s.pwr.frontNext.isSome)
  || (t == .workshop && (s.ws.reserved0 != s.cap K.outlierBenches || s.ws.reserved1 != s.cap K.outlierBenches))

/-- Is the dispatch of a letter held? -/
def State.dispatchHeld (s : State) (t : Target) (l : Letter) : Bool :=
  let a := readSlot s l.slotA
  let b := readSlot s l.slotB
  s.targetHeld t (isRoomRoute l.route && ((a.present && a.desc.sideList) || (b.present && b.desc.sideList)))

/-- Does a room letter read a side list? -/
def Part.hasList (p : Part) : Bool := isRoomRoute p.letter.route && (p.a.elim false (·.sideList) || p.b.elim false (·.sideList))

/-- Is queue q the one the Letterbox dispatches next at target t (R217)? -/
def State.chosen (s : State) (q : Nat) (t : Target) : Bool :=
  match s.queue? q with
  | none => false
  | some c =>
    let same (d : QCtx) : Bool := s.headReady d && targetOf (s.letterAt d d.head) == some t
    s.headReady c && !(s.lb.ops.any fun o => o.target == t && o.replayWaiting)
      && s.lb.queues.all fun d => d.q == c.q || !same d || !s.before d c

/-! ### Completion records (R221 to R223, R590) -/

/-- The finished-letter record of an error at validation, or of a letter without work. -/
def immediate (c : QCtx) (seq err : Nat) (l : Letter) (late : Bool) (tick : Nat) : FinRec :=
  { queue := c.q, seq := seq, error := err, part := none, replays := 0, window := false, longsum := false,
    merged := false, late := late, dispatchTick := tick, notify := l.notify || err != 0, userTag := l.userTag,
    hasCounts := isLandingRoute l.route || l.route == 0x10, pins := [], captain := [], collective := [] }

def destWord (d : Option DestRun) : Nat :=
  match d with
  | none => 0
  | some r =>
    if !r.present then 0 else
    let c := r.counts
    r.amax.toNat + 2 ^ 32 * (c.elements + 2 ^ 32 * (c.sat + 2 ^ 32 * (c.ufl + 2 ^ 32 * (c.nf + 2 ^ 32 * (c.poison
      + 2 ^ 32 * (c.blocks + 2 ^ 32 * (c.zeroBlocks + 2 ^ 32 * (c.satBlocks + 2 ^ 32 * (c.outEntries
      + 2 ^ 32 * (c.outClamped + 2 ^ 32 * c.outOff))))))))))

/-- The count part of a record (R222, R423). -/
def FinRec.countWord (f : FinRec) : Nat :=
  match f.collective with
  | [] =>
    (match f.part with
     | none => 0
     | some p => destWord p.d + 2 ^ 512 * destWord p.s)
  | l => l.foldr (fun x acc => x % 2 ^ 32 + 2 ^ 32 * acc) 0

/-- The main part of a record (R221). -/
def FinRec.mainWord (f : FinRec) (c : QCtx) (tick : Nat) : Nat :=
  let b (x : Bool) (i : Nat) : Nat := if x then 2 ^ i else 0
  let p (g : Part → Bool) : Bool := f.part.elim false g
  let run := min (tick - f.dispatchTick) (2 ^ 32 - 1)
  f.seq + f.queue * 2 ^ 32 + b (bit f.seq c.ringLog2) 52 + f.replays % 8 * 2 ^ 53 + f.error % 256 * 2 ^ 56
    + b (f.replays != 0) 64 + b (p (·.recipe)) 65 + b (p (·.oprange)) 66 + b f.window 67 + b f.longsum 68
    + b f.late 69 + b (p (·.poisonBit)) 70 + b (p (·.nonfinite)) 71 + b (p (·.saturated)) 72
    + b (p (·.histStale)) 73 + b f.merged 74 + run * 2 ^ 96 + tick % 2 ^ 64 * 2 ^ 128 + f.userTag * 2 ^ 192

/-- After the completion record of a CLOSE, the Housekeeper advances the current bank (R25, R361). -/
def State.closeAdvance (s : State) (f : FinRec) : State :=
  match s.gz.closing with
  | none => s
  | some (x, b) => if x == (f.queue, f.seq) then ({ s with gz := { s.gz with closing := none } }).advanceBank b else s

/-- Write the record whose turn it is in its queue (R189, R222): count part, main part, DONE, notification, unpinning; a
CLOSE's record is followed by the advance of the bank. -/
def State.writeRecord (s : State) (c : QCtx) (f : FinRec) : State :=
  let s := if c.cntBase != 0 && f.hasCounts then
      s.wr c.cntSpace (c.cntBase + 128 * (f.seq % c.size)) 128 f.countWord else s
  let s := s.wr c.crSpace (c.crBase + 32 * (f.seq % c.size)) 32 (f.mainWord c s.tick)
  let s := if f.error != 0 then s.count Ctr.lbErrors 1 else s
  let s := (s.setQueue { c with done := (c.done + 1) % 2 ^ 32 }).touchCtx c.q
  let s := if f.notify then s.raise c.notifySrc else s
  let s := { s with lb := { s.lb with fin := s.lb.fin.filter fun g => !(g.queue == f.queue && g.seq == f.seq) } }
  (s.unpinAll f.pins).closeAdvance f

/-- The finished letter whose record is next in queue q. -/
def State.nextFin (s : State) (q : Nat) : Option (QCtx × FinRec) :=
  match s.queue? q with
  | none => none
  | some c => (s.lb.fin.find? fun f => f.queue == q && f.seq == c.done).map fun f => (c, f)

/-- After a record: a FLUSH that has written its last record, of the letter before the HEAD it set, halts; then a DISABLE
that waited completes (R211). -/
def State.afterRecord (s : State) (q : Nat) : State :=
  let s := match s.queue? q with
    | none => s
    | some c => if c.st == QState.flushing && c.done == c.head then s.setQueue { c with st := .halted } else s
  match s.queue? q with
  | none => s
  | some c => if c.disabling && c.st != QState.flushing && c.done == c.head then (s.writeBack c 0).evict q else s

/-- Write the records of a queue whose turn it is, in sequence order (R189). -/
def State.drain (s : State) (q : Nat) : Nat → State
  | 0 => s
  | n + 1 =>
    match s.nextFin q with
    | none => s
    | some (c, f) => State.drain ((s.writeRecord c f).afterRecord q) q n

/-- Put a finished letter in line; its record follows in sequence order. -/
def State.finish (s : State) (f : FinRec) : State :=
  let s := { s with lb := { s.lb with fin := s.lb.fin ++ [f] } }
  s.drain f.queue (s.lb.fin.length + 1)

/-- Halt a queue on an error completion (R208). -/
def State.haltQueue (s : State) (q seq err : Nat) : State :=
  match s.queue? q with
  | none => s
  | some c =>
    s.setQueue { c with st := if c.st == .flushing then .flushing else .halted, errSeq := seq, lastError := err, haltedOn := c.haltedOn ++ [seq] }

/-- Take the head letter from its queue, whose context the dispatch looks up. -/
def State.advanceHead (s : State) (c : QCtx) : State :=
  (s.setQueue { c with head := (c.head + 1) % 2 ^ 32, readyTick := none }).touchCtx c.q

/-- A letter that fails validation (R207, R208). -/
def State.failLetter (s : State) (c : QCtx) (err : Nat) (l : Letter) : State :=
  let s := (s.advanceHead c).haltQueue c.q c.head err
  (s.finish (immediate c c.head err l false s.tick)).settle

/-- The record of a letter read from a poisoned ring sector: USER_TAG 0 and no count part of its own (R205). -/
def State.failPoisoned (s : State) (c : QCtx) : State :=
  s.failLetter c Err.descPoison { s.letterAt c c.head with userTag := 0 }

/-! ### Forming a running letter -/

/-- A destination of a letter at dispatch (R142, R148, R179, R180). -/
def mkDest (cap : List (Nat × Nat)) (l : Letter) (r : SlotRead) (isS : Bool) : DestRun :=
  let mode := capIn cap (K.cass l.cassette 1)
  let widths := capIn cap (K.cass l.cassette 2)
  { desc := if r.present then r.desc else { r.desc with format := 0, dims := [], rank := 0, ts := none, bs := none, wa := none, blkCode := 0, sideList := false, paged := false },
    present := r.present, isS := isS, hist := if isS then l.sHist else l.dHist, history := isHistory mode isS,
    sat := bit mode (if isS then 1 else 0), accum := !isS && l.dAccum && r.present, tsBits := 0x3F800000,
    eLatched := 0, stale := false, amax := 0, counts := Counts.zero, carry := [],
    overflowed := false, listStart := 0, causes := [],
    wMin := if isS then bits widths 12 4 else bits widths 4 4, wMax := if isS then bits widths 8 4 else bits widths 0 4 }

/-- The paged read slot of a letter, latched at its dispatch, and the frames it pins (R331, R332). -/
def State.pagedRun (s : State) (l : Letter) (a b : Option TDesc) : Option PagedRun × List (Nat × Nat) :=
  let one (t : Option TDesc) (otherFmt : Nat) : Option (Option PagedRun × List (Nat × Nat)) :=
    match t with
    | none => none
    | some d =>
      if !d.paged then none else
      let c := s.kvCtx (bits l.pageCtx 0 20)
      let sel := bit l.pageCtx 20
      let list := if sel then s.readSel c else []
      some (some (s.latchPages c sel list otherFmt d), (s.framesOf c sel list d).map fun f => (c.pool, f))
  (one a 0).getD ((one b (a.elim 0 (·.format))).getD (none, []))

/-- A letter as validation leaves it; its pages are latched when it is launched. -/
def mkPart (s : State) (c : QCtx) (l : Letter) (v : Verdict) : Part :=
  let some? (r : SlotRead) : Option TDesc := if r.present then some r.desc else none
  let pb := if isWsRoute l.route && !bit l.param0 63 then wsParam s l else 0
  { queue := c.q, seq := c.head, letter := l, y3 := c.isa / 16 == 3, a := some? v.a, b := some? v.b,
    d := if l.route == 0x05 then some (mkDest s.captain l v.d false) else if isLandingRoute l.route then some (mkDest s.captain l v.d false) else none,
    s := if v.st.present then some (mkDest s.captain l v.st true) else none,
    rows := if isCopyRoute l.route then v.a.desc.localCount else aRows l (some v.a.desc), replays := 0, deadline := s.deadlineOf c, late := false, recipe := false,
    oprange := false, poisonBit := false, nonfinite := false, saturated := false, histStale := false,
    window := false, outReplayed := false, nf := 0, nfTiles := [], kv := none, pb := pb,
    tileRows := if isWsRoute l.route then tileRowsFor l pb (wsColsOf l v.a.desc) else 0, pins := [] }

/-- How a part's sums are placed (R120, R123, R128). -/
def partPlacing (p : Part) (m w : Nat) (bf : Bool) : Placing := placing p.y3 m p.letter.k (larderSlots m w bf)

/-- The room data a letter takes (R34, R74, R82, R89, R123, R126, R128). TILE_N, PANTRY_INDEX and PANTRY_GROUPS are the first
constituent's (R338); the footprint and the pass length are those of the constituent that needs most. -/
def mkRoom (s : State) (p : Part) (parts : List Part) (tileM : Nat) : RoomRun :=
  let l := p.letter
  let back := l.route == 2
  let mode := s.roomMode back
  let fa := p.a.elim 0 (·.format)
  let fb := p.b.elim 0 (·.format)
  let lm := laneMode back mode fa fb
  let m := tileRowsOf tileM
  let w := tileColsOf lm l.tileN
  let bf := p.y3 && l.accBf16
  let pls := parts.map fun q => partPlacing q m w bf
  { mode := lm, m := m, w := w, cols := parts.foldl (fun n q => max n q.cols) 0, i0 := l.pantryIndex % 256,
    groups := if p.y3 then 1 else l.groupsM1 + 1, larder := p.y3 || mode == 1, bf16 := bf,
    passLen := pls.foldl (fun n x => max n x.passLen) 0, footprint := pls.foldl (fun n x => max n x.footprint) 0,
    lanes := [], passesDone := 0, tilesDone := 0, poisonTile := false }

/-- TILE_M code of a merged op: 4 (R338), but 3 in a quarter room, whose tiles have at most 512 rows (R99; DESIGN CHOICE,
log 63). -/
def mergedTileM (s : State) (back : Bool) : Nat := if s.roomMode back == 1 then 3 else 4

def mkOp (s : State) (t : Target) (slot : Nat) (parts : List Part) (merged : Bool) : Op :=
  let room := match parts with
    | p :: _ => if isRoomRoute p.letter.route then some (mkRoom s p parts (if merged then mergedTileM s (p.letter.route == 2) else p.letter.tileM)) else none
    | [] => none
  { target := t, slot := slot, parts := parts, started := false, merged := merged, dispatchTick := s.tick, kop := 0,
    replays := 0, captain := s.captain, replayWaiting := false, discarding := false, keepMode := 0, room := room, tilesConv := 0,
    wsNext := 0, wsRows := [], kvFrames := [], kvWaiting := none, outDone := 0, outFaults := [], buf := [], finished := false, error := 0 }

/-- Latch the paged read slot of each part and pin its frames (R331, R332). -/
def State.pinReads (s : State) (parts : List Part) : State × List Part :=
  parts.foldl (fun (st : State × List Part) p =>
    let (kv, pins) := st.1.pagedRun p.letter p.a p.b
    (pins.foldl (fun a x => a.pinFrame x.1 x.2) st.1, st.2 ++ [{ p with kv := kv, pins := pins }])) (s, [])

/-- The number that names a station in commands: rooms 0 and 1, Workshop slots 2 and 3, copy slots 4 and 5, Peloton
slots 6 to 13, Glazia 14, export 15. The first six are also the Landing's conversion paths (R141). -/
def stationOf : Target → Nat → Nat
  | .front, _ => 0
  | .back, _ => 1
  | .workshop, i => 2 + i
  | .copy, i => 4 + i
  | .peloton, i => 6 + i
  | .glazia, _ => 14
  | .exporter, _ => 15

def Op.station (o : Op) : Nat := stationOf o.target o.slot

/-! ### The geometry of an op (R85, R86, R338) -/

/-- The constituent of an op that holds an output row, and the row inside it (R338). -/
def findPart : List Part → Nat → Option (Part × Nat)
  | [], _ => none
  | p :: t, r => if r < p.rows then some (p, r) else findPart t (r - p.rows)

/-- K and output columns at an output row. -/
def Op.kAt (o : Op) (row : Nat) : Nat := match findPart o.parts row with | some (p, _) => p.letter.k | none => 0
def Op.colsAt (o : Op) (row : Nat) : Nat := match findPart o.parts row with | some (p, _) => p.cols | none => 0

/-- Tile number of an output element (R85). -/
def Op.tileOf (o : Op) (r : RoomRun) (row col : Nat) : Nat := col / r.w * o.rowTiles + row / r.m
/-- First output row and column of a tile. -/
def Op.tileRow0 (o : Op) (r : RoomRun) (t : Nat) : Nat := t % max 1 o.rowTiles * r.m
def Op.tileCol0 (o : Op) (r : RoomRun) (t : Nat) : Nat := t / max 1 o.rowTiles * r.w
/-- Output rows of a tile, and its output columns at a row, within the extents (R86). -/
def Op.tileRows (o : Op) (r : RoomRun) (t : Nat) : List Nat :=
  (List.range (min r.m (o.rows - o.tileRow0 r t))).map (o.tileRow0 r t + ·)
def Op.tileCols (o : Op) (r : RoomRun) (t row : Nat) : List Nat :=
  (List.range (min r.w (o.colsAt row - o.tileCol0 r t))).map (o.tileCol0 r t + ·)
/-- Output elements of a tile within the extents, by row and then by column (R86). -/
def Op.tileElems (o : Op) (r : RoomRun) (t : Nat) : List (Nat × Nat) :=
  ((o.tileRows r t).map fun i => (o.tileCols r t i).map fun j => (i, j)).flatten

/-- The longest K of an op's rows in a tile. -/
def Op.tileK (o : Op) (r : RoomRun) (t : Nat) : Nat := (o.tileRows r t).foldl (fun n i => max n (o.kAt i)) 0

/-- Rows a tile of a Workshop op holds: constituent, first row, number of rows. -/
def wsTileAt : List Part → Nat → Nat → Option (Nat × Nat × Nat)
  | [], _, _ => none
  | p :: t, i, n =>
    let tr := max 1 p.tileRows
    let k := cdiv p.rows tr
    if n < k then some (i, n * tr, min tr (p.rows - n * tr)) else wsTileAt t (i + 1) (n - k)

/-- Workshop tiles of an op. -/
def Op.wsTiles (o : Op) : Nat := o.parts.foldl (fun n p => n + cdiv p.rows (max 1 p.tileRows)) 0

/-- Elements of A a copy letter converts at a time. -/
def copyTile : Nat := 262144

/-- Visits of an op's operands: room tiles, Workshop tiles, tiles of a copy; a collective reads its contribution once. -/
def Op.visits (o : Op) : Nat :=
  match o.target with
  | .front => o.tiles
  | .back => o.tiles
  | .workshop => o.wsTiles
  | .copy => o.parts.foldl (fun n p => n + cdiv p.rows copyTile) 0
  | _ => 1

/-- A letter that has no local element in D (or, without D, in S) reads and writes nothing (R198). -/
def Part.emptyOut (p : Part) : Bool :=
  let z (d : Option DestRun) : Bool := match d with | none => false | some x => x.present && x.desc.localCount == 0
  z p.d || z p.s

end Sys2Proof.Machine
end

