-- ==== Sys2Proof/Machine/Porch.lean ====
section
/-! DEFINITION. The Porch and the Stair (07): streams and threads of a letter, fetch modes and the bursts of a stream, keep,
stage or refetch, the deadline arbiter, and operands as the stream buffers hold them (R230 to R243, R246 to R249, R253 to
R258, R587). -/

namespace Sys2Proof.Machine

/-- Threads of a station and the first of them (R230). -/
def stationThreads (st : Nat) : Nat × Nat :=
  if st == 0 then (0, 128) else if st == 1 then (128, 128)
  else if st == 2 then (256, 64) else if st == 3 then (320, 64)
  else if st == 4 then (384, 32) else if st == 5 then (416, 32)
  else if 6 ≤ st && st ≤ 13 then (448 + 8 * (st - 6), 8) else (512, 0)

/-- Buffer bytes of a station (R230). -/
def stationBuffer (st : Nat) : Nat :=
  if st == 0 then 36 * 2 ^ 20 else if st == 1 then 20 * 2 ^ 20 else if st == 2 || st == 3 then 2 * 2 ^ 20
  else if st == 4 || st == 5 then 2 ^ 20 else if 6 ≤ st && st ≤ 13 then 256 * 1024 else 0

/-- Read latency of a space in HALL cycles (R232). -/
def readLatency : Space → Nat
  | .larder => 32
  | .attic => 288
  | .cellar => 480
  | .host => 1488

/-- Memory port of an address (R17, R235, R240): Attic stacks 0 to 15, Larder bank groups 16 to 31, the Glazia die link
32, CXL controllers 33 and 34 (which controller carries a host address is not stated: port 0, log 16). -/
def portOf (sp : Space) (a : Nat) : Nat :=
  match sp with
  | .attic => a / 2048 % 16
  | .larder => 16 + a / 2048 % 16
  | .cellar => 32
  | .host => 33

/-! ### Fetch modes (R236, R587) -/

/-- The run dimension of an operand: least nonzero |STRIDE| among the dimensions of local extent above 1 (R236). -/
def runDim (t : TDesc) : Option (Nat × Nat) :=
  let upd (best : Option (Nat × Nat)) (p : Dim × Nat) : Option (Nat × Nat) :=
    if p.1.local ≤ 1 || p.1.stride == (0 : Int) then best
    else
      match best with
      | none => some (p.2, p.1.stride.natAbs)
      | some b => if p.1.stride.natAbs < b.2 then some (p.2, p.1.stride.natAbs) else best
  (t.dims.zip (List.range t.dims.length)).foldl upd none

def allBroadcast (t : TDesc) : Bool := t.dims.all fun d => d.local ≤ 1 || d.stride == 0

/-- Fetch mode for a consumer that names an inner reduction dimension and a row or column dimension (R236): 0 straight,
1 turned, 2 sector, 3 broadcast. -/
def fetchMode (t : TDesc) (kDim rDim : Nat) : Nat :=
  match runDim t with
  | none => if allBroadcast t && t.dims.any (fun d => d.local != 1) then 3 else 0
  | some (d, st) =>
    let only := (t.dims.filter fun x => x.local != 1).length == 1
    if 1 < st then 2 else if d == kDim || only then 0 else if d == rDim then 1 else 2

/-- Fetch mode of a copy letter's source (R587). -/
def copyMode (route : Nat) (t : TDesc) : Nat :=
  match runDim t with
  | none => if allBroadcast t && t.dims.any (fun d => d.local != 1) then 3 else 0
  | some (d, st) =>
    if st != 1 then 2 else if d == 0 then 0
    else if route == 9 && 1 < t.localAt 0 then 1 else 2

/-- Fetch mode of a part's row (A) or column (B) operand. -/
def Part.mode (p : Part) (t : TDesc) (isB : Bool) : Nat :=
  if isCopyRoute p.letter.route then copyMode p.letter.route t
  else if isB then fetchMode t p.letter.bK p.letter.bN
  else fetchMode t p.letter.aK p.letter.aM

/-! ### Rates and threads (R231, R241) -/

/-- ARRAY and HALL frequencies in MHz as they run, or of BS3 when stopped (R231, R241). -/
def State.pllMhz (s : State) (p : Nat) : Nat :=
  let f := s.odv (okey (0x01100 + p) 3)
  if f == 0 then pllBs3 p else f

/-- Elements per cycle of a consumer's clock at its full rate, as a fraction, with the clock: 0 ARRAY, 1 HALL (R231, R587). -/
def elemRate (s : State) (o : Op) (isB : Bool) : Nat × Nat × Nat :=
  match o.target with
  | .copy => (3072, 1, 1)
  | .workshop =>
    let benches := 192 - (if o.slot == 0 then s.ws.reserved0 else s.ws.reserved1)
    let cost := match o.parts with | p :: _ => (wsProgOf s p.letter).elim 1 (·.cost) | [] => 1
    (benches * 64, max 1 cost, 1)
  | _ =>
    match o.room with
    | none => (160, 1, 1)
    | some r =>
      let p := match r.mode with | .packed2 => 4 | .packed1 => 8 | _ => 1
      ((if isB then r.w else r.m) * p, 1, 0)

/-- A rate in bytes per HALL cycle at the clocks as they run (R231, R241). -/
def State.hallRate (s : State) (clock num den : Nat) : Nat × Nat :=
  if clock == 0 then (num * s.pllMhz 0, den * max 1 (s.pllMhz 1)) else (num, den)

/-- Threads a data stream asks for (R231). -/
def wantThreads (rate : Nat × Nat) (sp : Space) : Nat :=
  min 128 (max 1 (cdiv (rate.1 * readLatency sp) (16384 * max 1 rate.2)))

/-- Does a letter's op read operands at all (R87, R198)? -/
def Op.reads (o : Op) : Bool :=
  o.visits != 0 && !(o.parts.all (·.emptyOut)) && (o.room.isNone || o.parts.any fun p => p.letter.k != 0)

/-- The streams of a dispatched op before threads are dealt (R231), each with whether it carries data: one for each operand
slot the route reads, one more for each block-scale and width array. The A slots of a merged op form one stream (DESIGN
CHOICE, log 16). -/
def rawStreams (s : State) (o : Op) : List (Stream × Bool) :=
  let st := stationOf o.target o.slot
  let one (p : Part) (t : Option TDesc) (isB : Bool) : List (Stream × Bool) :=
    match t with
    | none => []
    | some d =>
      if d.format == 0 then [] else
      let code := if isB then 3 else 0
      let (num, den, clk) := elemRate s o isB
      let n := blkOf d.blkCode
      let arr (l : Option Loc) (c : Nat) : List (Stream × Bool) :=
        match l with
        | none => []
        | some q => if n == 0 then [] else [(⟨st, c, 0, q.space, [], clk, num, den * n⟩, false)]
      [(⟨st, code, p.mode d isB, d.space, [], clk, num * fmtBits d.format, den * 8⟩, true)] ++ arr d.bs (code + 1)
        ++ (if isBlockCode d.format then arr d.wa (code + 2) else [])
  match o.parts with
  | [] => []
  | p :: _ => if o.reads then one p p.a false ++ one p p.b true else []

/-- Deal a station's threads to a letter's streams (R231): streams with their threads, and whether it was capped. -/
def dealThreads (s : State) (o : Op) : List Stream × Bool :=
  let raw := rawStreams s o
  let (first, have_) := stationThreads (stationOf o.target o.slot)
  let wants := raw.map fun p => if p.2 then wantThreads (s.hallRate p.1.clock p.1.rateNum p.1.rateDen) p.1.space else 1
  let total := wants.foldl (· + ·) 0
  let singles := (raw.filter fun p => !p.2).length
  let capped := have_ < total
  let dataTotal := total - singles
  let share := have_ - singles
  let gives := (raw.zip wants).map fun (p, n) => if capped && p.2 then max 1 (n * share / max 1 dataTotal) else n
  let dealt := (raw.zip gives).foldl (fun (st : List Stream × Nat) (p, n) =>
    (st.1 ++ [{ p.1 with threads := (List.range n).map (st.2 + ·) }], st.2 + n)) ([], first)
  (dealt.1, capped)

/-! ### Keeping the column operand (R237, R238) -/

/-- Stored bytes of one column tile of B over the whole K, with its block-scale and width bytes. -/
def colBlock (r : RoomRun) (k : Nat) (b : TDesc) : Nat :=
  cdiv (k * r.w * fmtBits b.format) 8
    + (if b.blkCode == 0 then 0 else cdiv (k * r.w) (blkOf b.blkCode) * (if b.wa.isSome && isBlockCode b.format then 2 else 1))

/-- Keep (0), stage (1) or refetch (2) of the column operand of a room letter (R237). -/
def keepChoice (o : Op) (streams : List Stream) : Nat :=
  match o.room, o.parts with
  | some r, p :: _ =>
    (match p.b with
     | none => 0
     | some b =>
       let blk := colBlock r p.letter.k b
       let mine := streams.filter fun x => x.station == stationOf o.target o.slot
       let colThreads := (mine.filter fun x => x.operand == 3).foldl (fun n x => n + x.threads.length) 0
       let others := (mine.filter fun x => x.operand != 3).foldl (fun n x => n + x.threads.length) 0
       if blk + 32768 * others + 32768 * colThreads ≤ stationBuffer (stationOf o.target o.slot) then 0
       else if b.space != .larder && blk ≤ capIn o.captain (K.stage (if o.target == .back then 1 else 0) 2) then 1
       else 2)
  | _, _ => 0

/-- The visit whose bursts carry B for visit t: in keep mode the first row tile of its column tile. -/
def Op.bVisit (o : Op) (t : Nat) : Nat :=
  if o.room.isSome && o.keepMode == 0 then t / max 1 o.rowTiles * o.rowTiles else t

/-! ### The bursts of a stream (R233, R236, R250, R251) -/

/-- Elements an operand delivers in a visit, in the order of its fetch mode: the sectors each needs, in groups within which
a sector is fetched once (R236: a 128 × 128 block in sector mode; R251: a segment of a window; else the visit). -/
def gridNeeds (need : Nat → Nat → Needs) (mode : Nat) (windowed : Bool) (rows ks : List Nat) : List (List Needs) :=
  if windowed then
    (List.range (cdiv ks.length 256)).map fun g => (rows.map fun r => ((ks.drop (256 * g)).take 256).map (need r)).flatten
  else if mode == 2 then
    ((List.range (cdiv ks.length 128)).map fun g => (List.range (cdiv rows.length 128)).map fun h =>
      (((rows.drop (128 * h)).take 128).map fun r => ((ks.drop (128 * g)).take 128).map (need r)).flatten).flatten
  else if mode == 1 then [(ks.map fun k => rows.map fun r => need r k).flatten]
  else [(rows.map fun r => ks.map (need r)).flatten]

/-- The groups of needs of an operand in a visit. -/
def visitNeeds (s : State) (o : Op) (isB : Bool) (t : Nat) : List (List Needs) :=
  match o.target, o.room, o.parts with
  | _, _, [] => []
  | _, some r, p :: _ =>
    if isB then
      let cols := (List.range (min r.w (p.cols - o.tileCol0 r t))).map (o.tileCol0 r t + ·)
      gridNeeds (fun n k => p.bNeeds s k n) (p.b.elim 0 fun d => p.mode d true) false cols (List.range p.letter.k)
    else
      (o.parts.map fun q =>
        let rows := (o.tileRows r t).filterMap fun i =>
          match findPart o.parts i with
          | some (x, m) => if x.queue == q.queue && x.seq == q.seq then some m else none
          | none => none
        gridNeeds (fun m k => q.aNeeds s m k) (q.a.elim 0 fun d => q.mode d false) q.letter.window.isSome rows (List.range q.letter.k)).flatten
  | .workshop, none, _ =>
    (match wsTileAt o.parts 0 t with
     | none => []
     | some (i, r0, n) =>
       match o.parts[i]? with
       | none => []
       | some p =>
         let rows := (List.range n).map (r0 + ·)
         if isB then
           (match p.b with
            | none => []
            | some b =>
              let rs := if b.localAt p.letter.bN == p.rows then rows else List.range (b.localAt p.letter.bN)
              gridNeeds (fun m k => elemNeeds s b p.kv (idxAt b.rank [(p.letter.bN, m), (p.letter.bK, k)])) (p.mode b true) false rs (List.range (b.localAt p.letter.bK)))
         else
           match p.a with
           | none => []
           | some a => gridNeeds (fun m k => p.aNeeds s m k) (p.mode a false) p.letter.window.isSome rows (List.range (wsColsOf p.letter a)))
  | _, none, p :: _ =>
    if isB then [] else
    match p.a with
    | none => []
    | some a =>
      let n := if o.target == .copy then copyTile else a.localCount
      [(List.range (min n (a.localCount - n * t))).map fun i => elemNeeds s a p.kv (a.unlinear (n * t + i))]

/-- Which sectors of an element a stream carries: 0 data, 1 block scales, 2 widths. -/
def Needs.part (n : Needs) (w : Nat) : List (Nat × Space × Nat) :=
  (if w == 0 then n.data else if w == 1 then n.scale else n.width).map fun x => (n.page, x)

/-- A group's sectors, each once, in the order in which they are needed; page numbers with them. -/
def groupSectors (w : Nat) (g : List Needs) : List (Nat × Space × Nat) :=
  g.foldl (fun acc n => (n.part w).foldl (fun a x => if a.contains x then a else a ++ [x]) acc) []

def insSector (x : Nat × Space × Nat) : List (Nat × Space × Nat) → List (Nat × Space × Nat)
  | [] => [x]
  | y :: t => if x.2.2 < y.2.2 then x :: y :: t else y :: insSector x t

/-- A run of sectors of one space and page: the lowest and the highest, and whether it runs downward. -/
structure Run where
  page : Nat
  space : Space
  lo : Nat
  hi : Nat
  deriving DecidableEq, Repr

/-- Adjacent sectors joined into bursts that cross no 2 KiB address boundary and no page boundary (R233). -/
def coalesce : List (Nat × Space × Nat) → List Run
  | [] => []
  | (g, sp, n) :: t =>
    match coalesce t with
    | [] => [⟨g, sp, n, n⟩]
    | x :: rest =>
      if x.page == g && x.space == sp && n / 64 == x.lo / 64 && (n + 1 == x.lo || n == x.hi + 1)
      then { x with lo := min n x.lo, hi := max n x.hi } :: rest
      else ⟨g, sp, n, n⟩ :: x :: rest

def Run.burst (isB : Bool) (t : Nat) (x : Run) : Burst :=
  let n := x.hi + 1 - x.lo
  { space := x.space, addr := 32 * x.lo, len := 32 * n, isB := isB, tile := t, src := (List.range n).map fun i => (x.space, x.lo + i), copyTo := none }

/-- The sectors of one visit in fetch order, group by group. A turned copy runs along its run dimension, so its sectors come
in rising order (R587). -/
def visitSectors (s : State) (o : Op) (isB : Bool) (w t : Nat) : List (List (Nat × Space × Nat)) :=
  let gs := (visitNeeds s o isB t).map (groupSectors w)
  match o.target, o.parts with
  | .copy, p :: _ => if p.a.elim 0 (fun d => p.mode d false) == 1 then gs.map fun g => g.foldl (fun acc x => insSector x acc) [] else gs
  | _, _ => gs

/-- Is every sector its own burst: sector mode (R236)? -/
def sectorMode (o : Op) (isB : Bool) : Bool :=
  match o.parts with
  | [] => false
  | p :: _ => (if isB then p.b else p.a).elim 0 (fun d => p.mode d isB) == 2

/-- The bursts that fetch one visit from the operand's own place. -/
def visitBursts (s : State) (o : Op) (isB : Bool) (w t : Nat) : List Burst :=
  let gs := visitSectors s o isB w t
  let runs := if w == 0 && sectorMode o isB then gs.flatten.map fun (g, sp, n) => (⟨g, sp, n, n⟩ : Run)
    else (gs.map coalesce).flatten
  runs.map (Run.burst isB t)

/-- The staged copy of a column block holds its sectors one behind the other: data, then block scales, then widths (DESIGN
CHOICE, log 16: R237 gives the copy no layout). The first sector of each kind, and the sectors themselves. -/
def stageList (s : State) (o : Op) (t w : Nat) : Nat × List (Space × Nat) :=
  let of (w : Nat) : List (Space × Nat) := ((visitSectors s o true w t).flatten.map fun x => x.2).eraseDups
  (if w == 0 then 0 else if w == 1 then (of 0).length else (of 0).length + (of 1).length, of w)

/-- Bursts of B for visit t of a column tile in stage mode (R237): the first row tile reads the source and names where the
copy goes; a later one reads the staging window. Sectors that do not fit in the window are read from the source. -/
def stagedBursts (s : State) (o : Op) (w t : Nat) : List Burst :=
  let room := if o.target == .back then 1 else 0
  let base := capIn o.captain (K.stage room 1)
  let size := capIn o.captain (K.stage room 2)
  let first := t / max 1 o.rowTiles * o.rowTiles
  let (at_, l) := stageList s o first w
  (l.zip (List.range l.length)).map fun ((sp, n), i) =>
    let place := base + 32 * (at_ + i)
    let fits := 32 * (at_ + i) + 32 ≤ size
    let own : Burst := ⟨sp, 32 * n, 32, true, t, [(sp, n)], none⟩
    if !fits then own
    else if t == first then { own with copyTo := some place }
    else { own with space := .larder, addr := place }

/-- All bursts of a stream of a letter in order (R236, R237). -/
def streamBursts (s : State) (o : Op) (operand : Nat) : List Burst :=
  let isB := 3 ≤ operand
  let w := operand % 3
  ((List.range o.visits).map fun t =>
    if isB && o.room.isSome then
      if o.keepMode == 0 then (if o.bVisit t == t then visitBursts s o true w t else [])
      else if o.keepMode == 1 then stagedBursts s o w t
      else visitBursts s o true w t
    else visitBursts s o isB w t).flatten

/-- Every n-th burst from the i-th: what thread i of n fetches (DESIGN CHOICE, log 16). -/
def everyNth (n i : Nat) (l : List Burst) : List Burst :=
  (l.zip (List.range l.length)).filterMap fun (b, j) => if j % max 1 n == i then some b else none

/-- Contenders of a stream. In keep mode the column block adds to its threads' buffers (R233, R237). -/
def streamContenders (s : State) (o : Op) (x : Stream) : List Contender :=
  let n := x.threads.length
  let all := streamBursts s o x.operand
  let extra := if x.operand == 3 && o.keepMode == 0 then
      (match o.room, o.parts with
       | some r, p :: _ => p.b.elim 0 fun b => colBlock r p.letter.k b / max 1 n
       | _, _ => 0) else 0
  (x.threads.zip (List.range n)).map fun (num, i) =>
    { num := num, station := x.station, queue := everyNth n i all, outstanding := [], buffered := 0, backlog := 0,
      cap := 32768 + extra, clock := x.clock, rateNum := x.rateNum, rateDen := x.rateDen * max 1 n, lastBytes := false }

/-- Stream setup at dispatch, and again at the dispatch of a replay (R231, R237): the keep mode that results goes with the
op. -/
def State.setupStreams (s : State) (o : Op) : State × Op :=
  let xs := (dealThreads s o).1
  let o := { o with keepMode := keepChoice o xs, buf := [] }
  ({ s with porch := { s.porch with
      streams := s.porch.streams ++ xs, contenders := s.porch.contenders ++ (xs.map (streamContenders s o)).flatten } }, o)

/-- A letter's streams are counted once, at its first dispatch (R231, R236, R258). -/
def State.countStreams (s : State) (o : Op) : State :=
  let (xs, capped) := dealThreads s o
  let s := if capped then s.count Ctr.porchThreadCap o.parts.length else s
  let sector (p : Part) : Bool := p.a.elim false (fun d => p.mode d false == 2) || p.b.elim false (fun d => p.mode d true == 2)
  if xs.isEmpty then s else s.count Ctr.porchSector (o.parts.filter sector).length

/-- A letter's threads and buffer are released (R234). -/
def State.dropStreams (s : State) (st : Nat) : State :=
  { s with porch := { s.porch with streams := s.porch.streams.filter (fun x => x.station != st),
                                    contenders := s.porch.contenders.filter (fun x => x.station != st) } }

/-- A station has been delivered its letter's last element: the letter's threads and buffer are released; the path's drain
streams stay (R234, R240). -/
def State.releaseReads (s : State) (st : Nat) : State :=
  { s with porch := { s.porch with streams := s.porch.streams.filter (fun x => x.station != st),
                                    contenders := s.porch.contenders.filter (fun x => x.station != st || 512 ≤ x.num) } }

/-- A letter ends: its drain streams go, unless a later letter converts at the same path. -/
def State.releaseDrains (s : State) (st : Nat) : State :=
  if s.lb.ops.any fun x => stationOf x.target x.slot == st && x.tilesConv != 0 then s
  else { s with porch := { s.porch with contenders := s.porch.contenders.filter (fun x => x.station != st || x.num < 512) } }

/-! ### The arbiter (R241) -/

/-- The burst a contender is at. -/
def Contender.head? (c : Contender) : Option Burst := c.queue.head?

def Contender.inFlight (c : Contender) : Nat := c.outstanding.foldl (fun n b => n + b.len) 0

/-- Time of an eligible contender in HALL cycles, rounded down and saturating; none when it is not eligible (R233, R240,
R241). -/
def Contender.time (s : State) (c : Contender) : Option Nat :=
  let cap (n : Nat) : Nat := min n (2 ^ 20 - 1)
  let r := s.hallRate c.clock c.rateNum c.rateDen
  if c.queue.isEmpty then none
  else if c.num < 512 then
    if 8 ≤ c.outstanding.length || 16384 < c.inFlight + 2048 || c.cap < c.buffered + c.inFlight + 2048 then none
    else some (cap ((c.buffered + c.inFlight) * r.2 / max 1 r.1))
  else if c.buffered < 2048 && !(c.lastBytes && c.buffered != 0) then none
  else some (cap ((262144 - c.buffered) * r.2 / max 1 r.1))

/-- The contender a port grants: smallest time, then lowest number (R241). -/
def State.arbiter (s : State) (port : Nat) : Option Contender :=
  let cs := s.porch.contenders.filter fun c => (c.head?.elim false fun b => portOf b.space b.addr == port) && (c.time s).isSome
  cs.foldl (fun (best : Option Contender) c =>
    match best with
    | none => some c
    | some b =>
      let t := (c.time s).getD 0
      let u := (b.time s).getD 0
      if t < u || (t == u && c.num < b.num) then some c else best) none

def State.setContender (s : State) (c : Contender) : State :=
  { s with porch := { s.porch with contenders := s.porch.contenders.map fun d => if d.num == c.num then c else d } }

/-- A grant (R241): a read thread issues its next burst; a drain stream writes its next, and bytes that waited for room in
its write buffer move in (R240). -/
def State.grant (s : State) (port : Nat) (c : Contender) : State :=
  let s := { s with porch := { s.porch with granted := aset 0 s.porch.granted port (c.num + 1) } }
  match c.queue with
  | [] => s
  | b :: rest =>
    if c.num < 512 then s.setContender { c with queue := rest, outstanding := c.outstanding ++ [b] }
    else
      let left := c.buffered - min b.len c.buffered
      let move := min c.backlog (262144 - left)
      s.setContender { c with queue := rest, buffered := left + move, backlog := c.backlog - move }

/-! ### Operands as the buffers hold them (R21, R237, R257) -/

/-- Memory as the consumer of an operand sees it in a visit: a sector delivered into the letter's stream buffer is as it was
when it arrived. -/
def State.viewOf (s : State) (o : Op) (isB : Bool) (t : Nat) : State :=
  (o.buf.filter fun e => e.isB == isB && e.tile == (if isB then o.bVisit t else t)).foldl (fun st e =>
    let st := st.setMem e.space ((st.mem e.space).write (32 * e.sector) (leBytes 32 e.data))
    if e.poison then st.setMem e.space ((st.mem e.space).markPoison e.sector) else st) s

/-- Memory as a consumer sees it that reads an element when it is needed, not when its burst arrived (R589): only what the
buffer lost is poisoned (R257). -/
def State.lostView (s : State) (o : Op) : State :=
  (o.buf.filter (·.poison)).foldl (fun st e => st.setMem e.space ((st.mem e.space).markPoison e.sector)) s

/-- Bursts of a station's operand in a visit that have not arrived. -/
def State.awaited (s : State) (o : Op) (isB : Bool) (t : Nat) : List Burst :=
  ((s.porch.contenders.filter fun c => c.station == o.station && c.num < 512).map fun c =>
    (c.outstanding ++ c.queue).filter fun b => b.isB == isB && b.tile == (if isB then o.bVisit t else t)).flatten

/-- Does a burst that has not arrived carry one of these sectors (R243)? -/
def State.waitsFor (s : State) (o : Op) (isB : Bool) (t : Nat) (need : Unit → List Needs) : Bool :=
  match s.awaited o isB t with
  | [] => false
  | bs => (need ()).any fun n => bs.any fun b => b.src.any fun x => (n.data ++ n.scale ++ n.width).contains x

/-- Is a whole visit of an operand not yet delivered? -/
def State.visitAwaited (s : State) (o : Op) (t : Nat) : Bool := !(s.awaited o false t).isEmpty || !(s.awaited o true t).isEmpty

/-- 128 × 128 blocks turned for a visit (R253, R258, R587). -/
def turnedBlocks (mode ks rows : Nat) : Nat := if mode == 1 then cdiv ks 128 * cdiv rows 128 else 0

/-- What a delivery counts (R246 to R249, R256). -/
structure Delivery where
  nf : Nat
  markers : Nat
  poison : Nat
  deriving DecidableEq, Repr

def deliveryOf (es : List Elem) : Delivery :=
  { nf := (es.filter fun e => !e.poison && !e.val.isFinite).length, markers := (es.filter (·.marker)).length,
    poison := (es.filter (·.poison)).length }

/-- The Meter's count of delivered elements (R258). -/
def State.countDelivery (s : State) (d : Delivery) : State :=
  ((s.count Ctr.porchOperandNf d.nf).count Ctr.porchMarkers d.markers).count Ctr.porchPoison d.poison

end Sys2Proof.Machine
end

