-- ==== Sys2Proof/Machine/LetterCmds.lean ====
section
/-! DEFINITION. Letterbox commands (06): doorbells, queue commands, and the dispatch of header, marker, room, copy and
refused letters, DECODE gathers, replays, stops and completion (R181 to R189, R205 to R223, R338). -/

namespace Sys2Proof.Machine

/-- Is the Letterbox's clock-enable bit set (R483, R487)? -/
def State.lbOn (s : State) : Bool := s.enabled 4

/-! ### Doorbells and queue commands -/

/-- Is a doorbell accepted (R213)? -/
def QCtx.accepts (c : QCtx) (t : Nat) : Bool := !c.ctxError && seqSub t c.tail ≤ c.size && seqSub t c.done ≤ c.size

/-- R213. -/
def State.doorbell (s : State) (data : Nat) : State :=
  let q := bits data 0 20
  let t := bits data 20 32
  let bad := (s.count Ctr.lbDoorbellBad 1).raise Bell.doorbellBad
  match s.queue? q with
  | none => (s.touchCtx q |>.count Ctr.lbDoorbellBad 1).raise Bell.doorbellBad
  | some c => if c.accepts t then ((s.setQueue { c with tail := t }).touchCtx q).settle else (bad.touchCtx q)

/-- A queue command ignored (R211). -/
def State.cmdIgnored (s : State) : State := s.count Ctr.lbCmdIgnored 1

/-- R212: is a context refused? A count-part array in the Cellar is a Cellar record space (R209; DEDUCED, log 51). -/
def QCtx.faulty (c : QCtx) : Bool :=
  c.ringLog2 < 4 || 20 < c.ringLog2 || 5 ≤ c.kind || c.ringSpace == .cellar || c.crSpace == .cellar || (c.cntBase != 0 && c.cntSpace == .cellar)
  || c.ringBase % 128 != 0 || c.crBase % 32 != 0 || c.cntBase % 128 != 0 || c.head != c.done
  || c.size < seqSub c.tail c.head

/-- ENABLE (R211, R212); a poisoned context is a faulty one (R560). Loading the context is no cache miss (DESIGN CHOICE,
log 8). -/
def State.enableQueue (s : State) (q : Nat) : State :=
  match s.queue? q with
  | some _ => s.cmdIgnored
  | none =>
    let c := parseCtx q (s.ctxWord q) .ready
    let add (c : QCtx) : State := { s with lb := { s.lb with queues := s.lb.queues ++ [c] } }.cacheCtx q
    if c.faulty || s.poisonedAt .attic (s.ctxAddr q) 64 then
      (add { c with st := .halted, lastError := Err.context, ctxError := true }).raise Bell.lbError
    else (add c).settle

/-- DISABLE (R211, R212). -/
def State.disableQueue (s : State) (q : Nat) : State :=
  match s.queue? q with
  | none => s.cmdIgnored
  | some c =>
    if c.ctxError then (s.evict q).settle
    else if c.st == .flushing then s.cmdIgnored
    else if c.done == c.head then ((s.writeBack c 0).evict q).settle
    else (s.setQueue { c with disabling := true, readyTick := none }).touchCtx q

/-- RESUME (R211). -/
def State.resumeQueue (s : State) (q : Nat) : State :=
  match s.queue? q with
  | none => s.cmdIgnored
  | some c =>
    if c.st == .halted && !c.ctxError then ((s.setQueue { c with st := .ready, haltedOn := [] }).touchCtx q).settle else s.cmdIgnored

/-- FLUSH (R211, R590): every letter from HEAD to TAIL − 1 completes with ABORTED, then the queue halts. -/
def State.flushQueue (s : State) (q : Nat) : State :=
  match s.queue? q with
  | none => s.cmdIgnored
  | some c =>
    if c.ctxError || c.st == .flushing then s.cmdIgnored
    else
      let n := seqSub c.tail c.head
      let recs := (List.range n).map fun i =>
        let q' := (c.head + i) % 2 ^ 32
        immediate c q' Err.aborted (s.letterAt c q') false s.tick
      let s := (s.setQueue { c with st := .flushing, head := c.tail, readyTick := none }).touchCtx q
      ((recs.foldl State.finish s).afterRecord q).settle

/-- A queue command of R211 by its 8-byte word; a command without a name is ignored (R9). -/
def State.queueCmd (s : State) (data : Nat) : State :=
  let q := bits data 0 20
  match bits data 20 4 with
  | 1 => s.enableQueue q
  | 2 => s.disableQueue q
  | 3 => s.resumeQueue q
  | 4 => s.flushQueue q
  | _ => s.cmdIgnored

/-- Clear notification pending bit n (R223). The pending bits are the levels of LB_DONE0 to LB_DONE255. -/
def State.notifyAck (s : State) (n : Nat) : State := if n < 256 then s.lower n else s

/-! ### Dispatch -/

/-- The ready head letter of a queue, if its ring slot is not poisoned. -/
def State.headOf (s : State) (q : Nat) : Option (QCtx × Letter) :=
  match s.queue? q with
  | none => none
  | some c => if s.lbOn && s.headReady c && !s.letterPoisoned c c.head then some (c, s.letterAt c c.head) else none

/-- Is a letter dispatched now late (R218)? -/
def State.isLate (s : State) (d : Option Nat) : Bool := match d with | none => false | some t => t < s.tick

/-- The LATE counts (R218). -/
def State.noteLate (s : State) (q : Nat) : State :=
  let s := s.count Ctr.lbLate 1
  match s.queue? q with
  | none => s
  | some c => s.setQueue { c with late := min (c.late + 1) (2 ^ 32 - 1) }

/-- Dispatch parts to a slot of a target as one op (R219, R231, R331). -/
def State.launch (s : State) (t : Target) (slot : Nat) (parts : List Part) : State :=
  let merged := 1 < parts.length
  let parts := parts.map fun p => { p with late := s.isLate p.deadline }
  let s := parts.foldl (fun st p => if p.late then st.noteLate p.queue else st) s
  let (s, parts) := s.pinReads parts
  let o := mkOp s t slot parts merged
  let s := (s.count Ctr.lbDispatched parts.length).count Ctr.lbMerges (if merged then 1 else 0)
  let (s, o) := (s.countStreams o).setupStreams o
  ({ s with lb := { s.lb with ops := s.lb.ops ++ [o] } }).settle

/-- May a letter join a gather in progress (R219)? -/
def Gather.joins (g : Gather) (c : QCtx) (l : Letter) : Bool :=
  match g.parts with
  | [] => false
  | p :: _ =>
    c.kind == 4 && l.batchKey != 0 && p.letter.batchKey == l.batchKey && p.letter.route == l.route
      && p.letter.cassette == l.cassette && p.letter.step == l.step && p.letter.slotB == l.slotB
      && g.parts.length < 4096 && !(g.parts.any fun x => x.queue == c.q)

/-- A letter that Glazia (station 12) or the export engine (13) does not accept (R355, R357, R372, R422): the codes of
those rules are no check of R205, so the letter is dispatched and its engine refuses it; so with a bad scale, which is
found as the letter starts (R38); any other error is validation's (DEDUCED, log 52). -/
def State.refuseLetter (s : State) (c : QCtx) (station err : Nat) (l : Letter) : State :=
  if (0x58 ≤ err && err ≤ 0x5E) || (0x68 ≤ err && err ≤ 0x6B) || err == Err.badScale then
    let late := s.isLate (s.deadlineOf c)
    let t := (s.advanceHead c).demand [station]
    let t := ((if late then t.noteLate c.q else t).count Ctr.lbDispatched 1).haltQueue c.q c.head err
    (t.finish (immediate c c.head err l late s.tick)).settle
  else s.failLetter c err l

/-- A gather is the one that keeps its slot of its target. -/
def Gather.isSame (a b : Gather) : Bool := a.target == b.target && a.slot == b.slot

def State.setGather (s : State) (g : Gather) : State :=
  { s with lb := { s.lb with gathers := s.lb.gathers.map fun x => if x.isSame g then g else x } }
def State.addGather (s : State) (g : Gather) : State := { s with lb := { s.lb with gathers := s.lb.gathers ++ [g] } }
def State.dropGather (s : State) (g : Gather) : State :=
  { s with lb := { s.lb with gathers := s.lb.gathers.filter fun x => !x.isSame g } }

/-- A letter validated and taken into a gather in progress; a letter that fails is left out (R219). -/
def State.joinGather (s : State) (g : Gather) (c : QCtx) (l : Letter) : State :=
  let v := validate s c l
  match v.err with
  | some e => s.failLetter c e l
  | none => ((s.advanceHead c).setGather { g with parts := g.parts ++ [mkPart s c l v] }).settle

/-- Dispatch of the ready head letter of a queue to its target, when the letter is one that `want` names, the queue is
the one the Letterbox chooses for the target, and the target has a free slot (R205 to R208, R216 to R219). -/
def State.dispatchLetter (s : State) (q : Nat) (want : Letter → Bool) : State :=
  match s.headOf q with
  | none => s
  | some (c, l) =>
    match targetOf l with
    | none => s
    | some t =>
      if !want l then s else
      if s.dispatchHeld t l then s else
      match s.lb.gathers.find? fun g => g.joins c l with
      | some g => s.joinGather g c l
      | none =>
        if !s.chosen q t then s else
        match s.freeSlot t with
        | none => s
        | some slot =>
          let v := validate s c l
          match v.err with
          | some e => s.failLetter c e l
          | none =>
            let p := mkPart s c l v
            let s' := s.advanceHead c
            if c.kind == 4 && l.batchKey != 0 then (s'.addGather ⟨s.tick, s.cap K.gatherTicks, t, slot, [p]⟩).settle
            else s'.launch t slot [p]

/-- HEADER (R181, R182). -/
def State.dispatchHeader (s : State) (q : Nat) : State :=
  match s.headOf q with
  | none => s
  | some (c, l) =>
    if l.route != 0 then s else
    let v := bits l.param0 0 8
    let ok := (0x32 ≤ v && v ≤ 0x35) || (0x40 ≤ v && v ≤ 0x43)
    let minor := if c.isa / 16 == 3 then 0 else c.isa % 16
    match firstErr [(!ok, Err.isaVersion), (c.isa != 0 && l.batchKey != 0 && minor < 2, Err.featureLevel), (slotBad false l, Err.slot)] with
    | some e => s.failLetter c e l
    | none =>
      let late := s.isLate (s.deadlineOf c)
      let s1 := (s.setQueue { c with head := (c.head + 1) % 2 ^ 32, readyTick := none, isa := v }).touchCtx q
      let s2 := (if late then s1.noteLate q else s1).count Ctr.lbDispatched 1
      (s2.finish (immediate c c.head 0 l late s.tick)).settle

/-- MARKER (R185). -/
def State.dispatchMarker (s : State) (q : Nat) : State :=
  match s.headOf q with
  | none => s
  | some (c, l) =>
    if l.route != 0x30 then s else
    match firstErr (checks123 c l) with
    | some e => s.failLetter c e l
    | none =>
      let late := s.isLate (s.deadlineOf c)
      let s1 := s.advanceHead c
      let s2 := (if late then s1.noteLate q else s1).count Ctr.lbDispatched 1
      (s2.finish (immediate c c.head 0 l late s.tick)).settle

/-- A letter of a reserved route, or read from a poisoned ring sector (R183, R205, R256). -/
def State.dispatchReserved (s : State) (q : Nat) : State :=
  match s.queue? q with
  | none => s
  | some c =>
    if !s.lbOn || !s.headReady c then s
    else if s.letterPoisoned c c.head then s.failPoisoned c
    else
      let l := s.letterAt c c.head
      if routeAssigned l.route then s
      else s.failLetter c ((firstErr (checks123 c l)).getD Err.route) l

/-- The gather that ends next: the first that holds 4,096 letters, else the one whose time passes first (R219). -/
def State.gatherEnding (s : State) : Option Gather :=
  match s.lb.gathers.find? fun g => 4096 ≤ g.parts.length with
  | some g => some g
  | none => s.lb.gathers.foldl (fun (b : Option Gather) g =>
      match b with
      | none => some g
      | some x => if g.startTick + g.limit < x.startTick + x.limit then some g else b) none

/-- A letter of a gather that can no longer run where it would be dispatched (R100, R101): its check 13 made again. -/
def State.gatherErr (s : State) (p : Part) : Option Nat :=
  let l := p.letter
  let a := readSlot s l.slotA
  let b := readSlot s l.slotB
  let d := readSlot s l.slotD
  let st := readSlot s l.slotS
  if isRoomRoute l.route then firstErr (roomChecks s p.y3 l a b d st)
  else if isWsRoute l.route then firstErr (wsChecks s 4 l a d) else none

/-- A letter taken into a gather completes with an error and is left out of the merge (R219). -/
def State.failPart (s : State) (p : Part) (err : Nat) : State :=
  match s.queue? p.queue with
  | none => s
  | some c => ((s.haltQueue p.queue p.seq err).finish (immediate c p.seq err p.letter false s.tick)).settle

/-- A gather is over: its time has passed or 4,096 letters have gathered (R219). It goes on only while new dispatch to its
target is not held (R101, R279, R284); each letter is checked against the state of its target at that moment. -/
def State.endGather (s : State) : State :=
  match s.gatherEnding with
  | none => s
  | some g =>
    if s.targetHeld g.target (g.parts.any (·.hasList)) then s else
    let s := if g.parts.length < 4096 then s.atLeast (g.startTick + g.limit) else s
    let good := g.parts.filter fun p => (s.gatherErr p).isNone
    let bad := g.parts.filterMap fun p => (s.gatherErr p).map fun e => (p, e)
    let s := bad.foldl (fun st x => st.failPart x.1 x.2) (s.dropGather g)
    if good.isEmpty then s else s.launch g.target g.slot good

/-! ### Running ops -/

/-- An op is named by the queue and sequence number of its first constituent. -/
def Op.isSame (a b : Op) : Bool :=
  match a.parts, b.parts with
  | p :: _, q :: _ => p.queue == q.queue && p.seq == q.seq
  | _, _ => false

def State.setOp (s : State) (o : Op) : State :=
  { s with lb := { s.lb with ops := s.lb.ops.map fun x => if x.isSame o then o else x } }

/-! ### Station clocks (R484, R486) -/

/-- Does a station have a running letter, or an enabled station a ready one (R484, R486)? The Letterbox, and the Porch and the Landing with it, have
one while any letter runs or is ready. -/
def State.stationBusy (s : State) (b : Nat) : Bool :=
  let uses (t : Target) (slot : Option Nat) : Bool :=
    b == 4 ||
    (match t with
     | .front => b == 5 || b == 6 || b == 7
     | .back => b == 5 || b == 6 || b == 8
     | .workshop => b == 5 || b == 6 || (slot.elim (b == 9 || b == 10) fun n => b == 9 + n)
     | .copy => b == 5 || b == 6
     | .peloton => b == 11
     | .glazia => b == 12
     | .exporter => b == 13)
  (s.lb.ops.any fun o => uses o.target (some o.slot))
    || (s.enabled b && s.lb.queues.any fun c => s.headReady c && (targetOf (s.letterAt c c.head)).elim (b == 4) fun t => uses t none)
    || (s.enabled b && s.lb.gathers.any fun g => uses g.target (some g.slot))
    || (b == 13 && s.odv K.exState != 0) || (b == 12 && s.odv K.gzState != 0 && s.gz.waiting.isSome)

/-- A station's clock stops, which counts (R30), and a fast PLL that no station needs with it (R486). -/
def State.stopStation (s : State) (b : Nat) : State :=
  let v := s.odv K.clkRunning
  if !bit v b || b < 4 then s
  else
    let s := (s.setOd K.clkRunning (v - 2 ^ b)).count Ctr.clkGates 1
    let v := s.odv K.clkRunning
    let s := if !bit v 7 && !bit v 8 then s.setPll 0 0 0 else s
    if !bit v 12 && !bit v 13 then s.setPll 3 0 0 else s

/-- A station whose enable bit is clear, or cleared, has its clock stopped once its running letters have finished (R484). -/
def State.stopDisabled (s : State) : State :=
  [4, 5, 6, 7, 8, 9, 10, 11, 12, 13].foldl (fun s b => if !s.enabled b && !s.stationBusy b then s.stopStation b else s) s

/-- An op is over; a station that is disabled stops with its last letter (R484). -/
def State.dropOp (s : State) (o : Op) : State :=
  ({ s with lb := { s.lb with ops := s.lb.ops.filter fun x => !x.isSame o } }).stopDisabled

/-- The op that runs at a station: dispatched, not stopped, not waiting for a replay, its tiles not all done. -/
def State.opAt (s : State) (st : Nat) : Option Op :=
  s.lb.ops.find? fun o => o.station == st && o.error == 0 && !o.replayWaiting && o.roomBusy

/-- A flush that a room holds is given up with its letter's run. How many cycles it was held is not stated: a free value
goes to the drain-wait counter (R96, R103). -/
def State.clearHeld (s : State) (t : Target) : State :=
  match t with
  | .front =>
    if s.rooms.heldF.isNone then s else
    let (n, s) := s.free
    ({ s with rooms := { s.rooms with heldF := none } }).count Ctr.roomDrainWait n
  | .back =>
    if s.rooms.heldB.isNone then s else
    let (n, s) := s.free
    ({ s with rooms := { s.rooms with heldB := none } }).count (Ctr.roomDrainWait + 1) n
  | _ => s

/-- The cycles a room has spent on a tile it does not finish: their number is not stated (R103). -/
def State.partTile (s : State) (o : Op) : State :=
  match o.room with
  | none => s
  | some r =>
    if !o.started || !o.roomBusy then s else
    let n := if o.target == .back then 1 else 0
    let (c, s) := s.free
    let s := s.count (Ctr.roomBusy + n) c
    if r.mode == .packed1 || r.mode == .packed2 then s.count (Ctr.roomPacked + n) c else s

/-- A letter that still runs at its station gives up its threads, its buffers and a flush it holds; one whose room has
already gone on to the next letter has none. -/
def State.leaveStation (s : State) (o : Op) : State :=
  if o.roomBusy then (((s.dropStreams o.station).clearHeld o.target).partTile o) else s

/-- A fresh run of an op for a whole-op replay (R163). What a letter has done once in all its runs stays: an overflow of its
outliers (R170, R171). -/
def Op.restart (o : Op) (shift : Nat) : Op :=
  let wipe (d : DestRun) : DestRun := { d with counts := Counts.zero, carry := [], amax := 0 }
  { o with started := false, kop := o.kop + shift, replays := o.replays + 1, replayWaiting := true, discarding := false,
           room := o.room.map fun r => { r with lanes := [], passesDone := 0, tilesDone := o.tiles, poisonTile := false },
           tilesConv := 0, outDone := 0, outFaults := [], buf := [],
           parts := o.parts.map fun p => { p with d := p.d.map wipe, s := p.s.map wipe, poisonBit := false, nonfinite := false,
                                                  saturated := false, nf := 0, nfTiles := [] } }

/-- The Letterbox dispatches a waiting replay when its target can take a letter, ahead of every waiting letter (R163,
R217). -/
def State.dispatchReplays (s : State) (t : Target) : State :=
  match s.lb.ops.find? fun o => o.target == t && o.replayWaiting with
  | none => s
  | some o =>
    if (s.slotsTaken t).contains o.slot then s
    else
      let o := { o with replayWaiting := false, room := o.room.map fun r => { r with tilesDone := 0 } }
      let (s, o) := s.setupStreams o
      (s.setOp o).count Ctr.lbReplayDispatch 1

/-- A letter stops with an error after it has been dispatched (R207); its room can take a waiting replay. -/
def State.stopOp (s : State) (o : Op) (err : Nat) : State :=
  (((s.setOp { o with error := err }).leaveStation o).dispatchReplays o.target)

end Sys2Proof.Machine
end

