-- ==== Sys2Proof/Machine/Clocks.lean ====
section
/-! DEFINITION. Clock sources, PLLs, station clocks and thermal throttling (14, R471 to R490). -/

namespace Sys2Proof.Machine

namespace K
def srcReady : Nat := okey 0x01000 0
def pilotSrc : Nat := okey 0x01001 0
def xtalWindow : Nat := okey 0x01002 0
def failover : Nat := okey 0x01003 0
def thermMax : Nat := okey 0x01050 0
def thermLevel : Nat := okey 0x01051 0
def thermSensor (i : Nat) : Nat := okey 0x01052 (i + 1)
def pllSrc (p : Nat) : Nat := okey (0x01100 + p) 1
def pllCap (p : Nat) : Nat := okey (0x01100 + p) 2
def pllMhz (p : Nat) : Nat := okey (0x01100 + p) 3
def pllSt (p : Nat) : Nat := okey (0x01100 + p) 4
end K

/-- Is source n of R471 ready? -/
def State.srcIsReady (s : State) (n : Nat) : Bool := bit (s.odv K.srcReady) n
def State.setReady (s : State) (n : Nat) (b : Bool) : State :=
  let v := s.odv K.srcReady
  if bit v n == b then s else s.setOd K.srcReady (if b then v + 2 ^ n else v - 2 ^ n)

def State.setWatch (s : State) (w : SrcWatch) : State := { s with pwr := { s.pwr with watch := w } }

/-- Is a count within a window around what is expected? -/
def gateGood (count expect window : Nat) : Bool := decide (expect ≤ count + window) && decide (count ≤ expect + window)

/-- XTAL_GATE (R472, R475): the comparison clock and the window are those of the start of the run of gates. -/
def State.xtalGate (s : State) (count : Nat) : State :=
  if !s.pwr.auxOn || s.srcIsReady 1 then s
  else
    let w := s.pwr.watch
    let w := if w.goodGates == 0 then
        { w with byRef := s.srcIsReady 2 || s.srcIsReady 3, window := 2048 * s.odv K.xtalWindow / 10000 } else w
    let good := if w.byRef then gateGood count 32768 16 else gateGood count 2048 w.window
    if !good then s.setWatch { w with goodGates := 0 }
    else if w.goodGates + 1 < 8 then s.setWatch { w with goodGates := w.goodGates + 1 }
    else ((s.setWatch { w with goodGates := 0, monBad := 0, monGood := 0, missing := false }).setReady 1 true).setOd K.pilotSrc 1

/-- CLK_SOURCE_LOST (R474). -/
def State.sourceLost (s : State) (n : Nat) : State :=
  ((s.setReady n false).raise Bell.clkSourceLost).count Ctr.clkLosses 1

/-- REFCLK_GATE of reference clock r (R473, R474). -/
def State.refclkGate (s : State) (r count : Nat) : State :=
  if !s.pwr.auxOn || 2 ≤ r then s
  else
    let w := s.pwr.watch
    let good := gateGood count 4096 61
    let g := if good then min 8 ((if r == 0 then w.refGood0 else w.refGood1) + 1) else 0
    let b := if good then 0 else min 2 ((if r == 0 then w.refBad0 else w.refBad1) + 1)
    let s := s.setWatch (if r == 0 then { w with refGood0 := g, refBad0 := b } else { w with refGood1 := g, refBad1 := b })
    if g == 8 then s.setReady (2 + r) true
    else if b == 2 && s.srcIsReady (2 + r) then s.sourceLost (2 + r) else s

/-- XTAL_MONITOR_GATE (R474, R475). -/
def State.xtalMonitor (s : State) (count : Nat) : State :=
  if !s.pwr.auxOn || !s.srcIsReady 1 then s
  else
    let w := s.pwr.watch
    if gateGood count 2048 (2048 * s.odv K.xtalWindow / 10000) then
      if w.missing && w.monGood + 1 == 8 then
        (s.setWatch { w with monBad := 0, monGood := 0, missing := false }).setOd K.pilotSrc 1
      else s.setWatch { w with monBad := 0, monGood := if w.missing then w.monGood + 1 else 0 }
    else if w.monBad + 1 == 2 then
      ((s.setWatch { w with goodGates := 0, monBad := 0, monGood := 0, missing := false }).setOd K.pilotSrc 0).sourceLost 1
    else s.setWatch { w with monBad := w.monBad + 1, monGood := 0 }

/-- XTAL_EDGE_MISSING (R475). -/
def State.xtalMissing (s : State) : State :=
  if !s.pwr.auxOn || !s.srcIsReady 1 then s
  else (s.setWatch { s.pwr.watch with missing := true, monGood := 0 }).setOd K.pilotSrc 0

/-- XTAL_JUDGE_TIMEOUT (R496): a start goes on without the crystal. -/
def State.xtalJudgeTimeout (s : State) : State :=
  if !s.pwr.pwrGood || s.pwr.starting == 0 || s.odv K.bringupStage != 0 || s.srcIsReady 1 || bit (s.odv K.bringupFaults) 0 then s
  else
    let src := if s.srcIsReady 2 then 2 else if s.srcIsReady 3 then 3 else 0
    let s := [0, 1, 2, 3].foldl (fun s p => if s.odv (K.pllSrc p) == 1 then s.setOd (K.pllSrc p) src else s) s
    s.setOd K.bringupFaults (s.odv K.bringupFaults + 1)

/-! ### PLLs -/

/-- A PLL takes another source: its stations hold until it locks again (R479). -/
def State.switchPll (s : State) (p src : Nat) : State :=
  let s := (s.setOd (K.pllSrc p) src).count Ctr.clkSwitches 1
  if s.pllState p == 0 then s else (s.setPll p 1 (s.odv (K.pllMhz p))).retunePlls

/-- FREEWHEEL of PLL p (R480). -/
def State.freewheel (s : State) (p : Nat) : State :=
  if 4 ≤ p || (s.pllState p != 1 && s.pllState p != 2) then s
  else
    let s := { s with pwr := { s.pwr with lostSrc := aset 4 s.pwr.lostSrc p (s.odv (K.pllSrc p)) } }
    (((s.setPll p 3 (pllFloor p)).retunePlls).raise Bell.clkFreewheel).count Ctr.clkFreewheel 1

/-- CLK_FAILOVER_SWITCH of PLL p (R482): the first ready source other than the one it lost. -/
def State.failoverSwitch (s : State) (p : Nat) : State :=
  if 4 ≤ p || s.pllState p != 3 || s.odv K.failover != 1 then s
  else
    match ([1, 2, 3, 0] : List Nat).find? fun n => s.srcIsReady n && n != aget 4 s.pwr.lostSrc p with
    | none => s
    | some n => s.switchPll p n

/-- PLL_LOCKED of PLL p (R479): its stations resume at its frequency. -/
def State.pllLocked (s : State) (p : Nat) : State :=
  if 4 ≤ p || s.pllState p != 1 then s else ((s.setPll p 2 0).retunePlls)

/-! ### Station clocks (R483 to R486) -/

/-- CLK_IDLE_TIMEOUT of a station (R486); a value of 0 never stops an enabled station. -/
def State.clkIdleTimeout (s : State) (b : Nat) : State :=
  if 14 ≤ b || s.stationBusy b || (s.odv K.clkEnable / 2 ^ b % 2 == 1 && s.cap (okey 0x01030 0) == 0) then s
  else s.stopStation b

/-- The write of CLK_ENABLE (R483, R484): a station whose bit clears stops once its running letters end. -/
def State.clkEnableWrite (s : State) (v : Nat) : State :=
  (s.setOd K.clkEnable (15 + bits v 4 10 * 16)).stopDisabled

/-! ### Thermal throttling (R489) -/

/-- The user trim of a calibrated item's entry, by the key of the trim object (R446). -/
def State.trim (s : State) (w key : Nat) : Int := signed w (s.odv key)

/-- The calibrated items (R448): object indices of factory, trim and effective value, the least and the greatest trim,
the least and the greatest value, bits of the trim, whether an instance is a record entry. -/
structure CalItem where
  fac : Nat
  trim : Nat
  eff : Nat
  tLo : Int
  tHi : Int
  lo : Int
  hi : Int
  tBits : Nat
  facLo : Int
  deriving DecidableEq, Repr

def calItems : List CalItem := [
  ⟨0x02000, 0x02100, 0x02200, -32, 31, 0, 1023, 8, 0⟩,
  ⟨0x02010, 0x02110, 0x02210, -32, 32, -640, 640, 16, -640⟩,
  ⟨0x02020, 0x02120, 0x02220, -1024, 1024, 16384, 49152, 16, 16384⟩,
  ⟨0x02041, 0x02141, 0x02240, -10, 10, -100, 100, 8, 15⟩,
  ⟨0x02050, 0x02150, 0x02250, -10, 10, 0, 10, 8, 0⟩ ]

/-- A module's factory value, which differs from module to module within the item's range; a lane margin is at least
the minimum (R581). -/
def CalItem.factory (c : CalItem) (sub : Nat) : Int :=
  c.facLo + ((Config.moduleValue (okey c.fac sub) % (c.hi - c.facLo + 1).toNat : Nat) : Int)

/-- The effective value (R446). -/
def State.calEff (s : State) (c : CalItem) (sub : Nat) : Int := c.factory sub + s.trim c.tBits (okey c.trim sub)

def calThermal : CalItem := ⟨0x02010, 0x02110, 0x02210, -32, 32, -640, 640, 16, -640⟩
def calPower : CalItem := ⟨0x02020, 0x02120, 0x02220, -1024, 1024, 16384, 49152, 16, 16384⟩
def calMargin : CalItem := ⟨0x02041, 0x02141, 0x02240, -10, 10, -100, 100, 8, 15⟩

/-- A signed number as n bytes of two's complement. -/
def twos (n : Nat) (v : Int) : Nat := (v % ((2 ^ (8 * n) : Nat) : Int)).toNat

/-- The throttle level moves, and the PLLs with it; leaving level 0 and returning to it raise THERMAL_THROTTLE and count
(R30, R489). -/
def State.setLevel (s : State) (l : Nat) : State :=
  let old := s.odv K.thermLevel
  let s := (s.setOd K.thermLevel l).retunePlls
  if (old == 0) != (l == 0) then
    let s := s.raise Bell.thermalThrottle
    s.count (if old == 0 then Ctr.thermEntries else Ctr.thermExits) 1
  else s

/-- THERMAL_SAMPLE (R489): raw readings of the 64 sensors in 1/16 °C; a reading that is not given counts as the least
an I16 holds. -/
def State.thermalSample (s : State) (raw : List Int) : State :=
  if !s.pwr.pwrGood || s.odv K.bringupStage == 0 || s.odv K.pwrState == 0 then s
  else
    let eff := (List.range 64).map fun i => max (-32768) (min 32767 (raw.getD i (-32768) + s.calEff calThermal (i + 1)))
    let top := eff.foldl max (-32768)
    let s := (List.range 64).foldl (fun s i => s.setOd (K.thermSensor i) (twos 2 (eff.getD i 0))) (s.setOd K.thermMax (twos 2 top))
    let cool := if decide (top < 1552) then s.pwr.coolSamples + 1 else 0
    let level := s.odv K.thermLevel
    if decide (1600 ≤ top) then ({ s with pwr := { s.pwr with coolSamples := 0 } }).setLevel (min 7 (level + 1))
    else if cool == 10 then ({ s with pwr := { s.pwr with coolSamples := 0 } }).setLevel (level - 1)
    else { s with pwr := { s.pwr with coolSamples := cool } }

/-- POWER_METER_SAMPLE (R448, R531): raw powers of rails 1 to 8 in mW, and the module input's; a rail's power is its
raw reading times its effective gain in units of 2^−15. -/
def State.powerSample (s : State) (raw : List Nat) (input : Nat) : State :=
  if !s.pwr.pwrGood || s.odv K.bringupStage == 0 || s.odv K.pwrState == 0 then s
  else
    let s := (List.range 8).foldl (fun s i =>
      s.setOd (okey 0x0A030 (i + 1)) (raw.getD i 0 * (s.calEff calPower (i + 1)).toNat / 2 ^ 15 % 2 ^ 32)) s
    s.setOd (okey 0x0A030 9) (input % 2 ^ 32)

/-- ALERT# is asserted (R489, R497, R501, R569). -/
def State.alert (s : State) : Bool :=
  s.odv K.thermLevel != 0 || s.pwr.noFirmware || s.odv K.bringupFaults != 0 || s.pwr.supplyFault

end Sys2Proof.Machine
end

