-- ==== Sys2Proof/Machine/Rooms.lean ====
section
/-! DEFINITION. The rooms and their accumulation (03, 04): segment sums, flushes into the Pantry or the Larder region,
drain-wait holds, tile and pass completion, and what the Landing reads of a tile (R62 to R65, R81, R85 to R97, R104 to
R128, R588). -/

namespace Sys2Proof.Machine

/-- Round to the accumulator's format: FP32, or BF16 for a Y3 BF16 accumulator (R126). The pattern is an FP32 pattern. A
negative value that rounds to zero gives −0, as R43 rounds (DESIGN CHOICE, log 64: R112 also says that a result from 8-bit
operands is never −0). -/
def accRnd (bf : Bool) (v : Num) : F32 := if bf then f32rnd (bf16.decode (bf16.rnd v)) else f32rnd v

/-- t of R104. -/
def laneT (f : Nat) : Int := if f == 4 then 9 else if f == 5 then 16 else 7

def Op.k (o : Op) : Nat := match o.parts with | p :: _ => p.letter.k | [] => 0
def Op.y3 (o : Op) : Bool := match o.parts with | p :: _ => p.y3 | [] => false

/-! ### Tiles, passes and chunks -/

/-- A pass of a letter (R123, R128): its segments, chunk count and segments per chunk. -/
structure PassShape where
  len : Nat
  segs : Nat
  chunks : Nat
  per : Nat
  deriving DecidableEq, Repr

/-- Pass q of a row whose K is k. -/
def passShape (y3 : Bool) (k : Nat) (r : RoomRun) (q : Nat) : PassShape :=
  let len := if r.passLen < k then min r.passLen (k - q * r.passLen) else k
  let c := passChunks y3 r.m len (larderSlots r.m r.w r.bf16)
  ⟨len, segsOf len, c, max 1 (cdiv (segsOf len) (max 1 c))⟩

def passCount (k : Nat) (r : RoomRun) : Nat := if r.passLen < k then cdiv k (max 1 r.passLen) else 1

/-- Pass of a segment counted over the whole K, and the segment inside it. -/
def passOf (k : Nat) (r : RoomRun) (j : Nat) : Nat × Nat :=
  if r.passLen < k then (j / max 1 (r.passLen / 256), j % max 1 (r.passLen / 256)) else (0, j)

/-! ### Entries (R114, R116, R127, R128) -/

/-- First tile row, or first Larder slot, of a tile's footprint position c: the tile index of R116. -/
def tileIndex (o : Op) (r : RoomRun) (t c : Nat) : Nat :=
  if o.y3 then r.i0 * r.footprint + c else r.i0 + t % max 1 r.groups * r.footprint + c

def laneCol (r : RoomRun) (col : Nat) : Nat := if r.mode == .unsplit then 2 * (col % r.w) else col % r.w

def pantryKey (o : Op) (r : RoomRun) (t c row col : Nat) : Nat := (tileIndex o r t c * r.m + row % r.m) * 3072 + laneCol r col

/-- Larder byte of an entry of the accumulation region (R127). -/
def larderAddr (o : Op) (r : RoomRun) (t c row col : Nat) : Nat :=
  ((tileIndex o r t c * r.m + row % r.m) * r.w + col % r.w) * (if r.bf16 then 2 else 4)

def State.pantry (s : State) (back : Bool) : List (Nat × Nat) := if back then s.rooms.pantryB else s.rooms.pantryF

/-- An entry's value and poison. -/
def State.entry (s : State) (o : Op) (r : RoomRun) (t c row col : Nat) : F32 × Bool :=
  if r.larder then
    let a := larderAddr o r t c row col
    if r.bf16 then (f32rnd (bf16.decode (s.rd .larder a 2)), s.poisonedAt .larder a 2)
    else (BitVec.ofNat 32 (s.rd .larder a 4), s.poisonedAt .larder a 4)
  else
    let v := aget 0 (s.pantry (o.target == .back)) (pantryKey o r t c row col)
    (BitVec.ofNat 32 (v / 2), bit v 0)

/-- Write an entry with its poison: the entry's bit in a Pantry, a mark on the entry's sector in the Larder (R114, R126). -/
def State.setEntry (s : State) (o : Op) (r : RoomRun) (t c row col : Nat) (v : F32) (p : Bool) : State :=
  if r.larder then
    let a := larderAddr o r t c row col
    let s := if r.bf16 then s.wr .larder a 2 (bf16.rnd (f32val v)) else s.wr .larder a 4 v.toNat
    if p then s.poison .larder a 1 else s
  else
    let k := pantryKey o r t c row col
    let x := 2 * v.toNat + (if p then 1 else 0)
    if o.target == .back then { s with rooms := { s.rooms with pantryB := aset 0 s.rooms.pantryB k x } }
    else { s with rooms := { s.rooms with pantryF := aset 0 s.rooms.pantryF k x } }

/-- The mark an earlier tile left on an entry's Larder sector goes: the entries that share the sector are all written anew
(R126, R561). -/
def State.healEntry (s : State) (o : Op) (r : RoomRun) (t c row col : Nat) : State :=
  if r.larder then s.setMem .larder ((s.mem .larder).healRange (larderAddr o r t c row col / 32 * 32) 32) else s

/-- An error of the memory an accumulation entry lies in, met in a read of it: 1 a corrected error, counted; 2 an uncorrectable
one, counted and recorded, which poisons the sector of an entry in the Larder (R119, R560, R564). -/
def State.accEcc (s : State) (o : Op) (r : RoomRun) (t c row col ecc : Nat) : State :=
  if ecc == 1 then s.count (if r.larder then Ctr.larderCe else Ctr.pantryCe) 1
  else if ecc == 2 then
    (if r.larder then s.memUe .larder (larderAddr o r t c row col / 32) else s.sramUe Ctr.pantryUe)
  else s

/-- An error that the Landing meets in the first entry it reads of a tile or pass (R119): an uncorrectable one sets the
entry's poison bit, or its sector's, and leaves the entry's value undefined. -/
def State.landingEcc (s : State) (o : Op) (r : RoomRun) (t c ecc : Nat) : State :=
  match o.tileElems r t with
  | [] => s
  | (row, col) :: _ =>
    if ecc == 2 then
      let (v, s) := s.free
      (s.accEcc o r t c row col ecc).setEntry o r t c row col (BitVec.ofNat 32 v) true
    else s.accEcc o r t c row col ecc

/-! ### Segment sums -/

/-- Segment base: the largest block exponent that takes part (R63, R108). -/
def segBase (es : List Elem) : Int :=
  match (es.filter (·.inBase)).map (·.eblk) with
  | [] => 0
  | e :: t => t.foldl max e

/-- A row operand element under an operand shift (R247): 8-bit lane formats lower the block exponent. -/
def Elem.shift8 (kop : Nat) (e : Elem) : Elem := { e with eblk := e.eblk - (kop : Int) }

/-- A 16-bit row operand element under an operand shift, and whether it was rounded (R247). -/
def shift16 (f kop : Nat) (e : Elem) : Elem × Bool :=
  if kop == 0 then (e, false)
  else
    let x := e.val.mul (Num.pow2 (-(kop : Int)))
    let r := (ffmtOf f).decode ((ffmtOf f).rnd x)
    ({ e with val := r }, e.val.isFinite && !(Num.eqv r x))

/-- The non-finite flag of a lane's segment (R92): what replaces the sum. -/
def segFlag (ps : List (Num × Num)) : Option Num :=
  match (ps.map fun (a, b) => [a, b]).flatten.find? (·.isNaN) with
  | some x => some (.nan x.isNeg)
  | none =>
    let prods := (ps.filter fun (a, b) => !a.isFinite || !b.isFinite).map fun (a, b) => a.mul b
    if prods.isEmpty then none
    else if prods.any (·.isNaN) then some (.nan false)
    else if prods.any (fun p => !p.isNeg) && prods.any (·.isNeg) then some (.nan false)
    else prods.head?

/-- A product truncated toward zero to a multiple of 2^(T − 79), and whether that changed it (R106). -/
def windowed (t : Int) (p : Num) : Int × Bool :=
  match p with
  | .fin s n d =>
    let (q, rem, _) := Num.scaleQ n d (t - 79)
    (if s then -(q : Int) else q, rem != 0)
  | _ => (0, false)

/-- The value of a segment with its base (R104, R106, R111), and whether a product was truncated. -/
def segSum8 (fa fb : Nat) (as bs : List Elem) : Num × Bool :=
  let ba := segBase as
  let bb := segBase bs
  let lane (b : Int) (e : Elem) : Num := if e.val.isFinite && decide (112 < b - e.eblk) then Num.zero else e.val.mul (Num.pow2 (e.eblk - b))
  let ps := (as.map (lane ba)).zip (bs.map (lane bb))
  let t := laneT fa + laneT fb + 9
  let ws := ps.map fun (a, b) => windowed t (a.mul b)
  let loss := ws.any (·.2)
  match segFlag ps with
  | some v => (v, loss)
  | none => ((Num.ofInt (ws.foldl (fun acc w => acc + w.1) 0)).mul (Num.pow2 (t - 79 + ba + bb)), loss)

/-- The sequential FP32 sum of a 16-bit segment (R110). -/
def segSum16 (ps : List (Num × Num)) : Num :=
  match segFlag ps with
  | some v => v
  | none =>
    match ps with
    | [] => Num.zero
    | (a, b) :: t => f32val (t.foldl (fun acc (x, y) => f32rnd ((f32val acc).add (f32val (f32rnd (x.mul y))))) (f32rnd (a.mul b)))

/-- Blocks of one operand's segment that lie more than 112 below its base (R64). -/
def spreadBlocks (es : List Elem) : Nat :=
  let b := segBase es
  ((es.filter fun e => e.inBase && decide (112 < b - e.eblk)).map (·.blk)).eraseDups.length

/-- What one lane's segment gives: its value, whether a product lost bits, its poison, and what the Porch counts for its A
elements and for its B elements. -/
structure SegRes where
  v : Num
  loss : Bool
  poison : Bool
  shiftUfl : Nat
  spreadA : Nat
  spreadB : Nat
  delA : Delivery
  delB : Delivery
  badWidth : Bool
  deriving DecidableEq, Repr

/-- K positions of segment j of a row whose K is k (R109). -/
def segKs (k j : Nat) : List Nat := (List.range (min 256 (k - 256 * j))).map (256 * j + ·)

/-- A 16-bit element with the exponent a page's header folds in (R322). -/
def Elem.folded (e : Elem) : Num := if e.eblk == 0 then e.val else e.val.mul (Num.pow2 e.eblk)

/-- Segment j (over the whole K) of output (row, col). The constituent that holds the row gives K, both operands and their
formats (R338). -/
def segment (s : State) (o : Op) (row col j : Nat) : SegRes :=
  match o.room, findPart o.parts row with
  | some r, some (p, m) =>
    let t := o.tileOf r row col
    let sa := s.viewOf o false t
    let sb := s.viewOf o true t
    let ks := segKs p.letter.k j
    let as := ks.map fun k => p.aElem sa m k
    let bs := ks.map fun k => p.bElem sb k col
    let fa := p.a.elim 0 (·.format)
    let fb := p.b.elim 0 (·.format)
    let pois := as.any (·.poison) || bs.any (·.poison)
    if is16bit fa || is16bit fb then
      let sh := as.map (shift16 fa o.kop)
      let v := segSum16 ((sh.map (·.1.folded)).zip (bs.map (·.folded)))
      ⟨v, false, pois, (sh.filter (·.2)).length, 0, 0, deliveryOf as, deliveryOf bs, false⟩
    else
      let as8 := as.map (Elem.shift8 o.kop)
      let (v, loss) := segSum8 fa fb as8 bs
      ⟨v, loss, pois, 0, spreadBlocks as8, spreadBlocks bs, deliveryOf as, deliveryOf bs, (as ++ bs).any (·.badWidth)⟩
  | _, _ => ⟨Num.zero, false, false, 0, 0, 0, ⟨0, 0, 0⟩, ⟨0, 0, 0⟩, false⟩

/-- Has an operand of a segment not yet come into the buffer (R243)? -/
def State.segWaits (s : State) (o : Op) (r : RoomRun) (row col j : Nat) : Bool :=
  match findPart o.parts row with
  | none => false
  | some (p, m) =>
    let t := o.tileOf r row col
    s.waitsFor o false t (fun _ => (segKs p.letter.k j).map fun k => p.aNeeds s m k)
      || s.waitsFor o true t (fun _ => (segKs p.letter.k j).map fun k => p.bNeeds s k col)

/-! ### Flush (R91, R96, R111 to R113, R117) -/

def laneKey (r : RoomRun) (row col : Nat) : Nat := row * max 1 r.cols + col

def RoomRun.lane (r : RoomRun) (row col : Nat) : Nat × Bool := aget (0, false) r.lanes (laneKey r row col)

/-- Tiles of an op that hold data the Landing has not yet read to the end. -/
def Op.openTiles (o : Op) : List Nat :=
  match o.room with
  | none => []
  | some r => (List.range (o.tiles - o.tilesConv)).map (· + o.tilesConv) |>.filter fun t =>
      (o.tileElems r t).any fun (i, j) => (r.lane i j).1 != 0

/-- Where an entry lies: the room of a Pantry entry and its key, or the byte of a Larder entry. -/
def entryKey (o : Op) (r : RoomRun) (t c row col : Nat) : Bool × Bool × Nat :=
  if r.larder then (true, false, larderAddr o r t c row col) else (false, o.target == .back, pantryKey o r t c row col)

/-- Entries of a tile's element that hold what the Landing has yet to read: those of the chunks and the pair that the tile
uses at its row. -/
def tileEntries (o : Op) (r : RoomRun) (t row col : Nat) : List (Bool × Bool × Nat) :=
  let k := o.kAt row
  let chunks := if r.passLen < k && t < r.tilesDone then [] else List.range (passShape o.y3 k r 0).chunks
  let pair := if r.passLen < k then [r.footprint - 2, r.footprint - 1] else []
  (chunks ++ pair).map fun c => entryKey o r t c row col

/-- Must a write-mode flush of tile t's element in pass q wait for the Landing (R96, R117)? Another tile holds the same entry
and is not yet converted, or the previous pass of this tile is not yet drained (R588). -/
def State.flushHeld (s : State) (o : Op) (r : RoomRun) (t q c row col : Nat) : Bool :=
  (if t == r.tilesDone then r.passesDone < q else q != 0) ||
  (let key := entryKey o r t c row col
   s.lb.ops.any fun x =>
     match x.room with
     | none => false
     | some y =>
       y.larder == r.larder && (r.larder || x.target == o.target) && x.error == 0 &&
         x.openTiles.any fun u => !(x.isSame o && u == t) &&
           (x.tileElems y u).any fun (i, j) => (y.lane i j).1 != 0 && (tileEntries x y u i j).contains key)

/-- Does a lane's turn in tile t come now: is every earlier tile's element of the same lane complete (R113)? -/
def laneReady (o : Op) (r : RoomRun) (t row col : Nat) : Bool :=
  (List.range t).all fun u =>
    let i := o.tileRow0 r u + row % r.m
    let j := o.tileCol0 r u + col % r.w
    !(i < o.rows && j < o.colsAt i) || segsOf (o.kAt i) ≤ (r.lane i j).1

/-- Has a lane that shares this lane's Larder sector already written it in the same chunk, with poison? -/
def sectorPoison (o : Op) (r : RoomRun) (row col j : Nat) : Bool :=
  let per := if r.bf16 then 16 else 8
  (List.range per).any fun i =>
    let c := col / r.w * r.w + (col % r.w) / per * per + i
    c != col && c < o.colsAt row && j < (r.lane row c).1 && (r.lane row c).2

/-- The constituent that holds a row records that its products lost bits (R106, R221); the elements delivered for it that
are not finite are counted (R248): A's for its own part, B's for every part. -/
def Op.noteSegment (o : Op) (row : Nat) (loss : Bool) (nfA nfB : Nat) : Op :=
  match findPart o.parts row with
  | none => o
  | some (p, _) =>
    { o with parts := o.parts.map fun q =>
        let mine := q.queue == p.queue && q.seq == p.seq
        { q with window := q.window || (mine && loss), nf := q.nf + (if mine then nfA else 0) + nfB } }

/-- The flush of a lane's next segment. `ecc` says what the entry's read found: 1 a corrected error, 2 an uncorrectable
one (R119). A's elements are delivered to a row with the tile's first column, B's to a column with its first row. -/
def State.flush (s : State) (o : Op) (r : RoomRun) (row col ecc : Nat) : State :=
  let (j, pois) := r.lane row col
  let t := o.tileOf r row col
  let (q, js) := passOf (o.kAt row) r j
  let sh := passShape o.y3 (o.kAt row) r q
  let c := js / sh.per
  let g := segment s o row col j
  let pois := pois || g.poison
  let (old, oldP) := s.entry o r t c row col
  let write := js % sh.per == 0
  let (old, s) : F32 × State := if !write && ecc == 2 then (BitVec.ofNat 32 s.free.1, s.free.2) else (old, s)
  let v := if write then accRnd r.bf16 g.v else accRnd r.bf16 ((f32val old).add g.v)
  let p := pois || (!write && (oldP || ecc == 2))
  let s := if write && !sectorPoison o r row col j then s.healEntry o r t c row col else s
  let s := if write then s else s.accEcc o r t c row col ecc
  let s := s.setEntry o r t c row col v p
  let s := if g.loss then s.count Ctr.segWindowLoss 1 else s
  let firstCol := col % r.w == 0
  let firstRow := row % r.m == 0
  let s := s.count Ctr.scaleSpread ((if firstCol then g.spreadA else 0) + (if firstRow then g.spreadB else 0))
  let s := s.count Ctr.porchShiftUfl (if firstCol then g.shiftUfl else 0)
  let s := if firstCol then s.countDelivery g.delA else s
  let s := if firstRow then s.countDelivery g.delB else s
  let r' := { r with lanes := aset (0, false) r.lanes (laneKey r row col) (j + 1, pois), poisonTile := r.poisonTile || pois }
  s.setOp (({ o with room := some r' }).noteSegment row g.loss (if firstCol then g.delA.nf else 0) (if firstRow then g.delB.nf else 0))

def State.held (s : State) (back : Bool) : Option (Nat × Nat) := if back then s.rooms.heldB else s.rooms.heldF
def State.setHeld (s : State) (back : Bool) (h : Option (Nat × Nat)) : State :=
  if back then { s with rooms := { s.rooms with heldB := h } } else { s with rooms := { s.rooms with heldF := h } }

/-- Is the flush of a lane's next segment held by the Landing (R96)? -/
def State.laneHeld (s : State) (o : Op) (r : RoomRun) (row col : Nat) : Bool :=
  let k := o.kAt row
  let (q, js) := passOf k r (r.lane row col).1
  let sh := passShape o.y3 k r q
  js % sh.per == 0 && s.flushHeld o r (o.tileOf r row col) q (js / sh.per) row col

/-- SEGMENT_END at output (row, col) of a room's letter. The room holds while an operand is not in its buffer (R243), and
while the Landing has not read what the flush would overwrite (R96). An illegal width byte among the segment's operands ends
the letter (R59). -/
def State.segmentEnd (s : State) (back : Bool) (row col ecc : Nat) : State :=
  match s.opAt (if back then 1 else 0) with
  | none => s
  | some o =>
    match o.room with
    | none => s
    | some r =>
      let t := o.tileOf r row col
      if !o.started || (s.held back).isSome || o.rows ≤ row || o.colsAt row ≤ col || t < r.tilesDone
          || (o.discarding && t != r.tilesDone)
          || segsOf (o.kAt row) ≤ (r.lane row col).1 || !laneReady o r t row col || s.segWaits o r row col (r.lane row col).1 then s
      else if (segment s o row col (r.lane row col).1).badWidth then s.stopOp o Err.formatWidth
      else if s.laneHeld o r row col then s.setHeld back (some (row, col))
      else s.flush o r row col ecc

/-- A held flush proceeds once the Landing has read the entry's previous tile; the hold's cycles are counted (R96). -/
def State.holdRelease (s : State) (back : Bool) (cycles : Nat) : State :=
  match s.held back, s.opAt (if back then 1 else 0) with
  | some (row, col), some o =>
    (match o.room with
     | none => s
     | some r =>
       if s.laneHeld o r row col then s
       else ((s.setHeld back none).flush o r row col 0).count (Ctr.roomDrainWait + (if back then 1 else 0)) cycles)
  | _, _ => s

/-! ### Tile results (R87, R122, R124) -/

/-- The tree of R122 over the entries of a pass's chunks. -/
def chunkTree (bf : Bool) : List F32 → F32
  | [a] => a
  | [a, b] => accRnd bf ((f32val a).add (f32val b))
  | [a, b, c, d] => accRnd bf ((f32val (accRnd bf ((f32val a).add (f32val b)))).add (f32val (accRnd bf ((f32val c).add (f32val d)))))
  | [a, b, c, d, e, f, g, h] =>
    let two (x y : F32) := accRnd bf ((f32val x).add (f32val y))
    two (two (two a b) (two c d)) (two (two e f) (two g h))
  | _ => 0

/-- The value of one pass at an element, with its poison. -/
def State.passValue (s : State) (o : Op) (r : RoomRun) (t q row col : Nat) : F32 × Bool :=
  let es := (List.range (passShape o.y3 (o.kAt row) r q).chunks).map fun c => s.entry o r t c row col
  (chunkTree r.bf16 (es.map (·.1)), es.any (·.2))

/-- The compensated pair's entries lie behind the chunks of a full pass (R123). -/
def pairAt (r : RoomRun) : Nat := r.footprint - 2

/-- The pair of an element after pass q (R124), with poison. With a BF16 accumulator s, lo and the sum of the two round to
BF16 as tree nodes do (DESIGN CHOICE, log 64: R124 writes rne32, R126 names flushes and tree nodes). -/
def State.pairAfter (s : State) (o : Op) (r : RoomRun) (t q row col : Nat) : (F32 × Bool) × (F32 × Bool) :=
  let (p, pp) := s.passValue o r t q row col
  if q == 0 then ((p, pp), (0, false))
  else
    let (hi, hp) := s.entry o r t (pairAt r) row col
    let (lo, lp) := s.entry o r t (pairAt r + 1) row col
    let h := f32val hi
    let pv := f32val p
    let sN := f32val (accRnd r.bf16 (h.add pv))
    let bb := sN.sub h
    let e := (h.sub (sN.sub bb)).add (pv.sub bb)
    ((accRnd r.bf16 sN, pp || hp), (accRnd r.bf16 ((f32val lo).add e), lp))

/-- The Landing drains pass q of the tile: the pairs are updated (R124, R588). -/
def State.drainPass (s : State) (o : Op) (r : RoomRun) (t q : Nat) : State :=
  let els := (o.tileElems r t).filter fun x => r.passLen < o.kAt x.1 && q < passCount (o.kAt x.1) r
  let new := els.map fun (row, col) => ((row, col), s.pairAfter o r t q row col)
  let s1 := els.foldl (fun st (row, col) => (st.healEntry o r t (pairAt r) row col).healEntry o r t (pairAt r + 1) row col) s
  new.foldl (fun st ((row, col), (h, l)) =>
    (st.setEntry o r t (pairAt r) row col h.1 h.2).setEntry o r t (pairAt r + 1) row col l.1 l.2) s1

/-- The input element of the Landing for a room letter (R143). -/
def State.roomValue (s : State) (o : Op) (r : RoomRun) (t row col : Nat) : F32 × Bool :=
  if o.kAt row == 0 then (0, false)
  else if r.passLen < o.kAt row then
    let (hi, hp) := s.entry o r t (pairAt r) row col
    let (lo, lp) := s.entry o r t (pairAt r + 1) row col
    (accRnd r.bf16 ((f32val hi).add (f32val lo)), hp || lp)
  else s.passValue o r t 0 row col

/-- Segments of a row of length k that end with its pass q. -/
def segsThrough (k : Nat) (r : RoomRun) (q : Nat) : Nat :=
  if r.passLen < k then min (segsOf k) ((q + 1) * (r.passLen / 256)) else segsOf k

/-- Have all lanes of a tile flushed their segments of passes 0 to q? -/
def tileFlushed (o : Op) (r : RoomRun) (t q : Nat) : Bool :=
  (o.tileElems r t).all fun (i, j) => segsThrough (o.kAt i) r q ≤ (r.lane i j).1

/-- PASS_DONE: a pass other than the last ends and the Landing drains it (R588); ecc: what it met in a Pantry (R119). -/
def State.passDone (s : State) (back : Bool) (ecc : Nat) : State :=
  match s.opAt (if back then 1 else 0) with
  | none => s
  | some o =>
    match o.room with
    | none => s
    | some r =>
      let t := r.tilesDone
      let q := r.passesDone
      if !o.started || passCount (o.tileK r t) r ≤ q + 1 || !tileFlushed o r t q then s
      else ((s.landingEcc o r t 0 ecc).drainPass o r t q).setOp { o with room := some { r with passesDone := q + 1 } }

/-- Blocks the Stair turned for a room tile (R258). -/
def Op.tileTurned (o : Op) (r : RoomRun) (t : Nat) : Nat :=
  match o.parts with
  | [] => 0
  | p :: _ =>
    let k := o.tileK r t
    if k == 0 then 0 else
    p.a.elim 0 (fun d => turnedBlocks (p.mode d false) k (o.tileRows r t).length)
      + p.b.elim 0 (fun d => turnedBlocks (p.mode d true) k (min r.w (p.cols - o.tileCol0 r t)))

/-- Does the Landing add outlier contributions to the op's tiles (R144, R277)? -/
def Op.hasLists (o : Op) : Bool :=
  o.room.isSome && o.parts.any fun p => (p.a.elim false (·.sideList)) || (p.b.elim false (·.sideList))

/-- Sectors of the stream buffers that no later tile uses go once tile t is done (R237). -/
def Op.freeBuf (o : Op) (t : Nat) : List BufSector :=
  o.buf.filter fun e => t < e.tile + (if e.isB && o.keepMode == 0 then o.rowTiles - 1 else 0)

/-- TILE_DONE (R88, R94, R103, R140): counted with the room cycles since the last one. A letter that is to be run again whole
ends its run with this tile (R163). ecc: what the Landing's drain of a last pass met in a Pantry (R119). -/
def State.tileDone (s : State) (back : Bool) (cycles starve ecc : Nat) : State :=
  match s.opAt (if back then 1 else 0) with
  | none => s
  | some o =>
    match o.room with
    | none => s
    | some r =>
      let t := r.tilesDone
      let q := r.passesDone
      let n := if back then 1 else 0
      if !o.started || passCount (o.tileK r t) r != q + 1 || !tileFlushed o r t q then s
      else
        let s := if passCount (o.tileK r t) r == 1 then s else (s.landingEcc o r t 0 ecc).drainPass o r t q
        let pois := (o.tileElems r t).any fun (i, j) => (r.lane i j).2
        let r' := { r with tilesDone := t + 1, passesDone := 0, poisonTile := false }
        let o' := { o with room := some r', buf := if o.hasLists then o.buf else o.freeBuf t, parts := o.parts.map fun p => { p with nfTiles := p.nfTiles ++ [p.nf] } }
        let s := s.setOp o'
        let s := (s.count (Ctr.roomTilesDone + n) 1).count (Ctr.roomBusy + n) cycles
        let s := if r.mode == .packed1 || r.mode == .packed2 then s.count (Ctr.roomPacked + n) cycles else s
        let s := if pois then s.count (Ctr.roomPoisonTiles + n) 1 else s
        let s := if 1 < (passShape o.y3 (o.tileK r t) r 0).chunks then s.count Ctr.chunkedTiles 1 else s
        let s := if r.larder then s.count Ctr.larderAccTiles 1 else s
        let s := (s.count Ctr.porchStarve starve).count Ctr.stairTurned (o.tileTurned r t)
        if o.discarding then
          let shift := match o.parts with | p :: _ => capIn o.captain (K.cass p.letter.cassette 0x0D) | [] => 0
          (((s.setOp (o'.restart shift)).dropStreams o.station).dispatchReplays o.target).settle
        else if t + 1 == o.tiles then ((s.releaseReads o.station).dispatchReplays o.target).settle else s

end Sys2Proof.Machine
end

