-- ==== Sys2Proof/Machine/Landing.lean ====
section
/-! DEFINITION. The Landing (05): letter start, conversion of a tile, replay, rescale, outlier lists, quarantine and
repair of gradients, KV page writes, RECIPE events, and the end of a letter (R38, R90, R142 to R177, R277, R293 to R308,
R324 to R328, R336). -/

namespace Sys2Proof.Machine

/-! ### Cassette fields of a letter, as latched (R89, R178) -/

def Op.cass (o : Op) (p : Part) (sub : Nat) : Nat := capIn o.captain (K.cass p.letter.cassette sub)

/-- Replays a letter has made (R157, R161). -/
def Op.replaysOf (o : Op) (p : Part) : Nat := o.replays + p.replays

/-! ### Changing one destination of one constituent -/

def Part.dest (p : Part) (isS : Bool) : Option DestRun := if isS then p.s else p.d
def Part.setDest (p : Part) (d : DestRun) : Part := if d.isS then { p with s := some d } else { p with d := some d }
def Op.setPart (o : Op) (i : Nat) (p : Part) : Op := { o with parts := o.parts.set i p }

/-! ### RECIPE events (R175 to R177) -/

/-- A recipe record (R176). -/
def recipeWord (o : Op) (p : Part) (d : DestRun) (cause a b : Nat) : Nat :=
  cause + (if d.isS then 2 ^ 8 else 0) + p.letter.cassette * 2 ^ 16 + p.letter.step * 2 ^ 32 + d.hist * 2 ^ 64
    + o.replaysOf p % 256 * 2 ^ 80 + p.queue * 2 ^ 96 + p.seq * 2 ^ 128 + sat32 a * 2 ^ 160 + sat32 b * 2 ^ 192

/-- Raise a RECIPE event for a destination, once per cause and destination of a letter (R175). -/
def State.recipe (s : State) (o : Op) (i : Nat) (isS : Bool) (cause a b : Nat) : State × Op :=
  match o.parts[i]? with
  | none => (s, o)
  | some p =>
    match p.dest isS with
    | none => (s, o)
    | some d =>
      if d.causes.contains cause then (s, o)
      else
        let size := capIn o.captain K.recipeSize
        let head := s.odv K.recipeHead
        let s1 := (s.count Ctr.recipeEvents 1).entryStat p.letter.cassette 4 1
        let s2 :=
          if s.ringFull K.recipeHead K.recipeTail size then
            (s1.setOd K.recipeDrops ((s.odv K.recipeDrops + 1) % 2 ^ 32)).raise Bell.recipe
          else
            let a' := capIn o.captain K.recipeBase + 32 * (head % max 1 size)
            ((s1.wr .attic a' 32 (recipeWord o p d cause a b)).setOd K.recipeHead ((head + 1) % 2 ^ 32)).recipeLevel
        (s2, o.setPart i (({ p with recipe := true }).setDest { d with causes := d.causes ++ [cause] }))

/-! ### History slots (R149 to R153) -/

def Op.histAddr (o : Op) (h : Nat) : Nat := capIn o.captain K.histBase + 16 * h

structure HistSlot where
  prev : F32
  cur : F32
  step : Nat
  e : Int
  ovf : Nat
  zb : Nat
  sb : Nat
  deriving DecidableEq, Repr

def parseHist (v : Nat) : HistSlot :=
  ⟨BitVec.ofNat 32 v, BitVec.ofNat 32 (bits v 32 32), bits v 64 32, signed 8 (bits v 96 8), bits v 104 4, bits v 108 4, bits v 112 4⟩

def HistSlot.word (h : HistSlot) : Nat :=
  h.prev.toNat + h.cur.toNat * 2 ^ 32 + h.step * 2 ^ 64 + unsigned 8 h.e * 2 ^ 96 + h.ovf * 2 ^ 104 + h.zb * 2 ^ 108 + h.sb * 2 ^ 112

def State.hist (s : State) (o : Op) (h : Nat) : HistSlot := parseHist (s.rd .attic (o.histAddr h) 16)
def State.setHist (s : State) (o : Op) (h : Nat) (v : HistSlot) : State := s.wr .attic (o.histAddr h) 16 v.word

/-- R152 for one destination: the slot after the comparison, and whether the letter is stale. -/
def HistSlot.roll (h : HistSlot) (step f margin : Nat) : HistSlot × Bool :=
  if h.step < step then
    let h1 := { h with prev := h.cur, cur := 0, step := step }
    let need := eNeed f margin h1.prev
    if h1.prev != 0 && is8bit f && (decide (h.e < need) || decide (need < h.e - 1)) then ({ h1 with e := need }, false) else (h1, false)
  else (h, decide (step < h.step))

/-- A scale exponent as used: not below −126 (R149). -/
def clampE (e : Int) : Int := if e < -126 then -126 else e

/-- Tensor scale of a destination in FIXED mode: through its pointer, or 1.0 (R38, R148). -/
def fixedScale (s : State) (d : DestRun) : F32 :=
  match d.desc.ts with
  | none => 0x3F800000
  | some l => BitVec.ofNat 32 (s.rd l.space l.addr 4)

def locPoisoned (s : State) (l : Option Loc) : Bool := match l with | none => false | some q => s.poisonedAt q.space q.addr 4

/-- Is an FP32 pattern a power of two? -/
def isPow2F (b : F32) : Bool := scaleOk b && b.toNat % 2 ^ 23 == 0

/-- A tensor scale pointer that is not 4-byte aligned (R194). The letter ends at its start as with a bad scale value
(DEDUCED, log 61). -/
def locMisaligned (l : Option Loc) : Bool := match l with | none => false | some q => q.addr % 4 != 0

/-- Does an operand or destination scale end the letter at its start (R38, R194, R256, R325)? A letter that reads nothing has
none (R198); with K = 0 no operand is read (R87). -/
def scalesBad (s : State) (p : Part) : Bool :=
  let op (t : Option TDesc) : Bool :=
    match t with
    | none => false
    | some d => locMisaligned d.ts || locPoisoned s d.ts || !scaleOk (opScale s (some d))
  let de (d : Option DestRun) : Bool :=
    match d with
    | none => false
    | some x => locMisaligned x.desc.ts
        || (!x.history && (locPoisoned s x.desc.ts || !scaleOk (fixedScale s x) || (x.desc.paged && !isPow2F (fixedScale s x))))
  if p.emptyOut then false
  else (!(isRoomRoute p.letter.route && p.letter.k == 0) && (op p.a || op p.b)) || de p.d || de p.s

/-- Where the side list's COUNT lies, when the destination writes a list (R167). -/
def DestRun.listLoc (d : DestRun) : Option Loc := if d.desc.sideList then d.desc.sideLoc else none

/-- Start of one destination: roll-over, latched E, the scale written, the list's COUNT latched (R148, R152, R163); nothing
for a letter without output elements (R198). -/
def State.startDest (s : State) (o : Op) (i : Nat) (isS : Bool) : State × Op :=
  match o.parts[i]? with
  | none => (s, o)
  | some p =>
    match p.dest isS with
    | none => (s, o)
    | some d =>
      if p.emptyOut then (s, o) else
      let start := match d.listLoc with | none => 0 | some l => s.rd l.space (l.addr + 4) 4
      let d := { d with listStart := start, tsBits := fixedScale s d }
      if d.hist == 0xFFFF then (s, o.setPart i (p.setDest d)) else
      let (h, stale) := (s.hist o d.hist).roll p.letter.step d.desc.format (o.cass p 6)
      let s := s.setHist o d.hist h
      let s := if stale then s.count Ctr.histStale 1 else s
      let e := clampE h.e
      let d := { d with stale := stale, eLatched := e }
      let p := if stale then { p with histStale := true } else p
      if !d.history then (s, o.setPart i (p.setDest d))
      else
        let ts := scalePow e
        let s := match d.desc.ts with | none => s | some l => s.wr l.space l.addr 4 ts.toNat
        (s, o.setPart i (p.setDest { d with tsBits := ts }))

/-! ### Letter start (R90) -/

/-- Does a part run in passes (R123)? -/
def Op.longsum (o : Op) (p : Part) : Bool := o.room.elim false fun r => r.passLen < p.letter.k

/-- Clock-enable bits of the stations an op needs; the first is its own (R90, R483). -/
def Op.clocks (o : Op) : List Nat :=
  match o.target with
  | .front => [7, 5, 6]
  | .back => [8, 5, 6]
  | .workshop => (9 + o.slot) :: 5 :: (match o.parts with | p :: _ => if p.letter.route == 4 then [6] else [] | [] => [])
  | .copy => [5, 6]
  | .peloton => [11, 5]
  | .glazia => [12]
  | .exporter => [13]

/-- Column tiles served in the letter's keep mode (R237). -/
def State.countKeep (s : State) (o : Op) : State :=
  match o.room with
  | none => s
  | some r => if o.rowTiles ≤ 1 then s else if !o.reads then s else s.count (Ctr.porchKeep + o.keepMode) (cdiv r.cols r.w)

/-- A letter that failed at its start is left out of its op; the op goes on with the others, if any (R38, R219). -/
def State.splitBad (s : State) (o : Op) : State × Op :=
  let bad := o.parts.filter (scalesBad s)
  let good := o.parts.filter fun p => !scalesBad s p
  if bad.isEmpty || good.isEmpty then (s, o)
  else
    let o' := { o with parts := good }
    let dead (p : Part) : Op := { o with parts := [p], error := Err.badScale, started := true }
    let ops := (s.lb.ops.map fun x => if x.isSame o then o' else x) ++ bad.map dead
    ({ s with lb := { s.lb with ops := ops } }, o')

/-- The pages that the paged read slots of an op supply, once (R342); slots of a merged op that read the same pages are
supplied once. A refused header raises KV_SKIP (R323). -/
def State.countPages (s : State) (o : Op) : State :=
  if !o.reads then s else
  ((o.parts.filterMap (·.kv)).eraseDups).foldl (fun st kv =>
    let st := kv.pages.foldl (fun a g =>
      match g.2 with
      | .zeros => a
      | .hole => a.count Ctr.kvHole 1
      | .stale => a.count Ctr.kvStale 1
      | .skipped => a.count Ctr.kvSkipped 1
      | .refused => a.count Ctr.kvSkipped 1
      | .rows _ _ _ => a.count Ctr.kvRead 1) st
    if kv.pages.any fun g => g.2 == .refused then st.raise Bell.kvSkip else st) s

/-- LETTER_START at a station: the op dispatched there starts once every station clock it needs runs (R90); fill is the time
its first operands took (R244). Meter counts that the spec words by the letter count each letter of a merged op (DESIGN
CHOICE, log 63). -/
def State.letterStart (s : State) (st fill : Nat) : State :=
  match s.lb.ops.find? fun o => o.station == st && !o.started && o.error == 0 && !o.replayWaiting with
  | none => s
  | some o =>
    let n := o.parts.length
    let own := o.clocks.headD 0
    let stopped := !bit (s.odv K.clkRunning) own
    let s := s.demand o.clocks
    if !(o.clocks.all fun b => bit (s.odv K.clkRunning) b) then s else
    let s := if stopped && (o.target == .front || o.target == .back) then s.count (Ctr.roomWakes + (if o.target == .back then 1 else 0)) n else s
    let s := s.count Ctr.porchFill (fill * n)
    if o.kop != 0 || o.target == .peloton then s.setOp { o with started := true }
    else if o.parts.all (scalesBad s) && !o.parts.isEmpty then s.stopOp { o with started := true } Err.badScale
    else
      let (s, o) := s.splitBad o
      let (s, o) := (List.range o.parts.length).foldl (fun (x : State × Op) i =>
        let (s1, o1) := x.1.startDest x.2 i false
        s1.startDest o1 i true) (s, o)
      let o := { o with started := true }
      let s := s.countKeep o
      let s := s.count Ctr.longsumLetters (o.parts.filter o.longsum).length
      (s.countPages o).setOp o

/-! ### Elements of a tile -/

/-- One input element of the Landing: constituent, its row and column there, value and poison mark. -/
structure TileEl where
  part : Nat
  row : Nat
  col : Nat
  val : F32
  poison : Bool
  deriving DecidableEq, Repr

/-- The constituent number of an output row, and the row inside it. -/
def partIndex : List Part → Nat → Nat → Nat × Nat
  | [], i, r => (i, r)
  | p :: t, i, r => if r < p.rows then (i, r) else partIndex t (i + 1) (r - p.rows)

/-! ### Outlier contributions (R277) -/

/-- B's element with any side-list value in place of its marker; in a zero block, whose dense elements are all zero, the
list's value still applies (R55, R277). -/
def withList (e : Elem) (gi : Nat) (es : List (Nat × Num × Bool)) : Num × Bool :=
  if e.marker || e.zeroBlk then
    match es.find? fun x => x.1 == gi with
    | some (_, v, p) => (v, p || e.poison)
    | none => (Num.zero, e.poison)
  else (e.scaled, e.poison)

/-- The products of side-list entries that touch output (m, n) of a constituent, in order: A's entries, then B's (R277). -/
def outlierTerms (sa sb : State) (p : Part) (m n : Nat) : List (Num × Bool) :=
  let ea := sideEntries sa p.a
  let eb := sideEntries sb p.b
  let ks := List.range p.letter.k
  let aGi (k : Nat) : Option Nat := (p.aAt m k).map fun x => x.1.globalIndex x.2
  let bGi (k : Nat) : Option Nat := p.b.map fun t => t.globalIndex (bIndex p.letter t k n)
  let fromA := (ea.map fun (gi, v, q) =>
    (ks.filter fun k => aGi k == some gi).map fun k =>
      let (w, wq) := withList (p.bElem sb k n) ((bGi k).getD 0) eb
      (v.mul w, q || wq)).flatten
  let fromB := (eb.map fun (gi, v, q) =>
    (ks.filter fun k => bGi k == some gi).map fun k =>
      let e := p.aElem sa m k
      ((if e.marker then Num.zero else e.scaled).mul v, q || e.poison)).flatten
  fromA ++ fromB

/-- o and its poison for output (m, n) of a constituent in tile t (R277). -/
def outlierSum (s : State) (o : Op) (p : Part) (t m n : Nat) : Num × Bool :=
  let all := outlierTerms (s.viewOf o false t) (s.viewOf o true t) p m n
  (f32val (all.foldl (fun acc x => f32rnd ((f32val acc).add (f32val (f32rnd x.1)))) (0 : F32)), all.any (·.2))

/-- A's elements of tile t of a copy letter, with their local numbers (R586). -/
def copyElems (s : State) (o : Op) (p : Part) (t : Nat) : List (Nat × Elem) :=
  match p.a with
  | none => []
  | some a =>
    (List.range (min copyTile (p.rows - copyTile * t))).map fun i =>
      (copyTile * t + i, readElem (s.viewOf o false t) (some a) p.kv (a.unlinear (copyTile * t + i)))

/-- Input elements of tile t (R143, R144 steps 1 and 2), by row and then by column. -/
def tileEls (s : State) (o : Op) (t : Nat) : List TileEl :=
  match o.room with
  | some r =>
    (o.tileElems r t).map fun (i, j) =>
      let (pi, row) := partIndex o.parts 0 i
      let (v, q) := s.roomValue o r t i j
      if o.hasLists then
        match o.parts[pi]? with
        | none => ⟨pi, row, j, v, q⟩
        | some p =>
          let (x, xq) := outlierSum s o p t row j
          ⟨pi, row, j, f32rnd ((f32val v).add (x.mul (Num.pow2 (-(o.kop : Int))))), q || xq || o.outFaults.contains t⟩
      else ⟨pi, row, j, v, q⟩
  | none =>
    match o.target, o.parts with
    | .copy, p :: _ =>
      (copyElems s o p t).map fun (n, e) => ⟨0, n, 0, f32rnd e.scaled, e.poison⟩
    | _, _ =>
      match o.wsRows with
      | [] => []
      | w :: _ =>
        let tr := match o.parts[w.part]? with | none => 1 | some p => max 1 p.tileRows
        ((o.wsRows.filter fun x => x.part == w.part && x.row / tr == w.row / tr).map fun x =>
          (x.vals.zip (List.range x.vals.length)).map fun ((v, q), c) => ⟨x.part, x.row, c, v, q⟩).flatten

/-- Local indices of a destination for an input element (R199, R586). -/
def destIdx (o : Op) (p : Part) (t : TDesc) (row col : Nat) : List Nat :=
  if o.target == .copy then t.unlinear row else idxAt t.rank [(p.letter.dM, row), (p.letter.dN, col)]

/-! ### Where an element is stored -/

/-- The tensor, or the page, that holds a destination's element. -/
structure Site where
  space : Space
  base : Int
  bs : Option Loc
  wa : Option Loc
  off : Int
  ts : F32
  deriving DecidableEq, Repr

/-- Key of a KV list entry of an op's frames: context and entry. -/
def kvKey (ctx j : Nat) : Nat := ctx * 2 ^ 21 + j

def siteOf (s : State) (o : Op) (p : Part) (d : DestRun) (ls : List Nat) : Site :=
  let t := d.desc
  if t.paged then
    let c := s.kvCtx (bits p.letter.pageCtx 0 20)
    let pos := t.posOf ls
    let f := aget 0 (o.kvFrames.map fun x => (x.1, x.2)) (kvKey c.n (c.entryOf pos))
    let h := s.hdr c.pool f
    let a := s.frameAddr c.pool f
    let sp := s.poolSpace c.pool
    { space := sp, base := (a + 2048 : Nat), off := ((pos % c.page) * c.rowElems : Nat) + t.rowElem ls, wa := none,
      bs := if t.blkCode == 0 then none else some ⟨sp, a + frameScales (2 ^ h.log2Tokens) h.rowElems h.format⟩,
      ts := scalePow ((h.tsExp : Int) - 127) }
  else { space := t.space, base := (t.base : Int), off := t.offset ls, bs := t.bs, wa := t.wa, ts := d.tsBits }

/-! ### Factors (R61, R143, R144, R150, R163) -/

/-- Operand scales as the Landing takes them. -/
def landingScales (s : State) (o : Op) (p : Part) : Num × Num :=
  match o.target with
  | .workshop => (Num.one, Num.one)
  | .copy => (f32val (opScale s p.a), Num.one)
  | _ => if p.letter.k == 0 then (Num.one, Num.one) else (f32val (opScale s p.a), f32val (opScale s p.b))

/-- f without the operand shift. -/
def factor (s : State) (o : Op) (p : Part) (ts : F32) : Num :=
  let (a, b) := landingScales s o p
  f32val (f32rnd ((a.mul b).div (f32val ts)))

def factorK (s : State) (o : Op) (p : Part) (ts : F32) : Num := (factor s o p ts).mul (Num.pow2 (o.kop : Int))

/-- g of R150. -/
def gFactor (s : State) (o : Op) (p : Part) : Num :=
  let (a, b) := landingScales s o p
  (f32val (f32rnd (a.mul b))).mul (Num.pow2 (o.kop : Int))

/-- Is a value a normal FP32 (R164)? -/
def normalF32 (v : Num) : Bool :=
  match v with
  | .fin _ n d => 1 * d ≤ n * 2 ^ 126 && n < d * 2 ^ 128
  | _ => false

/-! ### Conversion of a tile for one destination -/

structure SideEntry where
  row : Nat
  col : Nat
  index : Nat
  value : Nat
  exp : Nat
  deriving DecidableEq, Repr

/-- What a conversion of a tile writes and counts. -/
structure Conv where
  cells : List (Space × Host.Cell)
  marks : List (Space × Nat)
  entries : List SideEntry
  counts : Counts
  amax : F32
  carry : List Held
  over_ : Bool
  draws : Nat
  /-- the counts of the blocks converted again with the outlier path dropped (R158, R170) -/
  redo : Counts
  deriving DecidableEq, Repr

def byteCells (sp : Space) (a : Int) (n v : Nat) : List (Space × Host.Cell) :=
  ((leBytes n v).zip (List.range n)).map fun (b, i) => (sp, (a.toNat + i, b))

def byteMarks (sp : Space) (a : Int) (n : Nat) : List (Space × Nat) :=
  if n == 0 then [] else [(sp, a.toNat), (sp, a.toNat + n - 1)]

/-- Group items by a key, keeping the order of first appearance. -/
def groupBy {α : Type} (key : α → Int × Int) : List α → List ((Int × Int) × List α)
  | [] => []
  | x :: t =>
    let g := groupBy key t
    match g.find? fun p => p.1 == key x with
    | some p => (key x, x :: p.2) :: g.filter fun q => q.1 != key x
    | none => (key x, [x]) :: g

/-- Is the outlier path on for a destination (R167)? -/
def outliersOn (o : Op) (p : Part) (d : DestRun) : Bool :=
  bit (o.cass p 1) 7 && 0x0A ≤ d.desc.format && d.desc.format ≤ 0x0F && !d.desc.mx && d.desc.sideList

/-- Free places on a destination's side list (R169). -/
def listRoom (s : State) (o : Op) (p : Part) (d : DestRun) : Nat :=
  match d.listLoc with
  | none => 0
  | some l => min (s.rd l.space l.addr 4) (d.desc.localCount * o.cass p 7 / 1024) - s.rd l.space (l.addr + 4) 4

/-- A side-list entry of a value (R168). -/
def mkEntry (d : DestRun) (h : Held) (v : Num) : SideEntry :=
  let (n, den) := magOf v
  let e := Num.log2Ceil n (den * 448)
  let e := if e < -127 then -127 else if 127 < e then 127 else e
  ⟨h.row, h.col, d.desc.globalIndex h.idx, (e4m3.convert true .nearest (v.mul (Num.pow2 (-e)))).1, (e + 127).toNat⟩

/-- Conversion of the held elements of one block. `drop` says the outlier path is dropped for a block that does not fit
(R170). -/
def convBlock (s : State) (o : Op) (p : Part) (d : DestRun) (drop : Bool) (room : Nat) (acc : Conv) (hs : List Held) : Conv :=
  let f := d.desc.format
  let n := blkOf d.desc.blkCode
  match hs with
  | [] => acc
  | h0 :: _ =>
    let site := siteOf s o p d h0.idx
    let b := site.off / (n : Int)
    let fk := factorK s o p site.ts
    let g := gFactor s o p
    let xs := hs.map fun h => (f32val h.val).mul fk
    let on := outliersOn o p d
    let sel := if on then selectOutliers (o.cass p 8) (o.cass p 9) (xs.zip (hs.map (·.poison))) else hs.map fun _ => false
    let nOut := (sel.filter id).length
    let fits := acc.entries.length + nOut ≤ room
    let off := on && nOut != 0 && (p.outReplayed || (drop && !fits))
    let clamp := on && nOut != 0 && !off && !fits
    let list := on && nOut != 0 && !off && fits
    let qs := ((hs.zip xs).zip sel).zip (List.range hs.length) |>.map fun (((h, x), o1), i) =>
      (⟨x, h.poison, list && o1, clamp && o1, Config.freeNat (s.freeCtr + acc.draws + i)⟩ : QVal)
    let blk := quantBlock f d.desc.mx d.sat (d.desc.wa.isSome && !d.desc.paged) d.wMin d.wMax qs
    -- place the codes: position inside the block, padding free
    let pos (h : Held) : Nat := ((siteOf s o p d h.idx).off - b * (n : Int)).toNat
    let pad := Config.freeNat (s.freeCtr + acc.draws + hs.length)
    let codeAt (i : Nat) : Nat :=
      match ((hs.map pos).zip blk.codes).find? fun x => x.1 == i with
      | some x => x.2
      | none => pad / 2 ^ (blk.width * i) % 2 ^ blk.width
    let bytes := n * blk.width / 8
    let at_ : Int := site.base + b * ((n * fmtBits f / 8 : Nat) : Int)
    let data := byteCells site.space at_ bytes (packCodes blk.width ((List.range n).map codeAt))
    let scale := match site.bs with | none => [] | some l => byteCells l.space ((l.addr : Int) + b) 1 blk.scale
    let wid := match site.wa with | none => [] | some l => if 0x0A ≤ f && f ≤ 0x0F then byteCells l.space ((l.addr : Int) + b) 1 blk.width else []
    let pm := (hs.filter (·.poison)).map fun h => byteMarks site.space (at_ + ((pos h * blk.width / 8 : Nat) : Int)) 1
    let ents := if list then ((hs.zip xs).zip sel).filterMap fun ((h, x), o1) => if o1 then some (mkEntry d h x) else none else []
    let cls := blk.classes.foldl (fun c k => c.add (Counts.ofCls k)) Counts.zero
    let am := ((hs.zip sel).filter fun (h, o1) => !h.poison && (f32val h.val).isFinite && !(list && o1)).foldl
      (fun a (h, _) => f32max a (f32rnd ((f32val h.val).abs.mul g))) acc.amax
    let cnt : Counts := { cls with
      blocks := 1, zeroBlocks := if blk.zero then 1 else 0, satBlocks := if blk.sat then 1 else 0,
      outEntries := ents.length, outClamped := if clamp then nOut else 0, outOff := if off then 1 else 0 }
    { acc with
      cells := acc.cells ++ data ++ scale ++ wid, marks := acc.marks ++ pm.flatten, entries := acc.entries ++ ents, amax := am,
      over_ := acc.over_ || clamp || (on && nOut != 0 && drop && !fits && !p.outReplayed), draws := acc.draws + hs.length + 1,
      counts := acc.counts.add cnt,
      redo := if on && nOut != 0 && drop && !fits && !p.outReplayed then acc.redo.add cnt else acc.redo }

/-- Does an accumulate-mode destination take the value in place of adding it: write mode, which only a room letter has
(R294)? -/
def writeMode (p : Part) : Bool := isRoomRoute p.letter.route && bit p.letter.prog 0

/-- Is the accumulator of an element poisoned, and what does it hold? -/
def accValue (s : State) (site : Site) : Num × Bool :=
  let a := (site.base + site.off * 2).toNat
  (bf16.decode (s.rd site.space a 2), s.poisonedAt site.space a 2)

/-- Conversion of one element without blocks (R144 steps 4 to 6). -/
def convOne (s : State) (o : Op) (p : Part) (d : DestRun) (acc : Conv) (h : Held) : Conv :=
  let f := d.desc.format
  let site := siteOf s o p d h.idx
  let fk := factorK s o p site.ts
  let x := (f32val h.val).mul fk
  let (base, bp) := if d.accum && !writeMode p then accValue s site else (Num.zero, false)
  let w := srWord (capIn o.captain K.srSeed) 1 (p.letter.microbatch % 256) d.desc.tensorId p.letter.step (d.desc.globalIndex h.idx)
  let r := if d.accum then bf16.convert d.sat (.stochastic w) (base.add x) else convertElem f d.sat .nearest x
  let pois := h.poison || bp
  let code := if pois then Config.freeNat (s.freeCtr + acc.draws) else r.1
  let nb := fmtBits f / 8
  let at_ : Int := site.base + site.off * ((fmtBits f : Nat) : Int) / 8
  let am := if !h.poison && (f32val h.val).isFinite then f32max acc.amax (f32rnd ((f32val h.val).abs.mul (gFactor s o p))) else acc.amax
  { acc with
    cells := if f == 0 then acc.cells else acc.cells ++ byteCells site.space at_ nb (code % 2 ^ (8 * nb)),
    marks := if f != 0 && pois then acc.marks ++ byteMarks site.space at_ nb else acc.marks,
    counts := acc.counts.add (Counts.ofCls (if pois then .poisoned else r.2)), amax := am,
    draws := acc.draws + (if pois then 1 else 0) }

/-- Conversion of a tile's elements of one constituent for one destination. A block that straddles two tiles is converted,
counted and checked with the tile that completes it (DESIGN CHOICE, log 65). -/
def convTile (s : State) (o : Op) (p : Part) (d : DestRun) (drop : Bool) (draws : Nat) (els : List TileEl) : Conv :=
  let hs := els.map fun e => (⟨destIdx o p d.desc e.row e.col, e.row, e.col, e.val, e.poison⟩ : Held)
  let acc0 : Conv := ⟨[], [], [], Counts.zero, d.amax, [], false, draws, Counts.zero⟩
  let n := blkOf d.desc.blkCode
  if n == 0 || d.desc.format == 0 then hs.foldl (convOne s o p d) acc0
  else
    let key (h : Held) : Int × Int := let x := siteOf s o p d h.idx; (x.base, x.off / (n : Int))
    let full (g : List Held) : Bool :=
      match g with
      | [] => false
      | h :: _ =>
        let l := h.idx.getD d.desc.blkDim 0
        g.length == min n (d.desc.localAt d.desc.blkDim - l / n * n)
    let groups := groupBy key (d.carry ++ hs)
    let room := listRoom s o p d
    let acc := (groups.filter fun g => full g.2).foldl (fun a g => convBlock s o p d drop room a g.2) acc0
    { acc with carry := ((groups.filter fun g => !full g.2).map (·.2)).flatten }

/-! ### Storing a conversion -/

def insEntry (e : SideEntry) : List SideEntry → List SideEntry
  | [] => [e]
  | x :: t => if e.row < x.row || (e.row == x.row && e.col < x.col) then e :: x :: t else x :: insEntry e t

/-- Append entries to a destination's side list, by row and then by column (R168, R169). -/
def State.appendEntries (s : State) (d : DestRun) (es : List SideEntry) : State :=
  match d.listLoc with
  | none => s
  | some l =>
    let sorted := es.foldl (fun acc e => insEntry e acc) []
    let n0 := s.rd l.space (l.addr + 4) 4
    let s1 := (sorted.zip (List.range sorted.length)).foldl (fun st (e, i) =>
      st.wr l.space (l.addr + 64 + 8 * (n0 + i)) 8 (e.index + e.value * 2 ^ 48 + e.exp * 2 ^ 56)) s
    if es.isEmpty then s1 else s1.wr l.space (l.addr + 4) 4 (n0 + es.length)

/-- Write a conversion's bytes at once, so that a whole sector loses an old mark (R561), then its poison marks. -/
def State.wrMarked (s : State) (cells : List (Space × Host.Cell)) (marks : List (Space × Nat)) : State :=
  let one (st : State) (sp : Space) : State :=
    let cs := (cells.filter fun x => x.1 == sp).map (·.2)
    if cs.isEmpty then st else st.wrCells sp cs
  marks.foldl (fun st (sp, a) => st.poison sp a 1) (one (one (one (one s .attic) .cellar) .larder) .host)

/-- Write a conversion's bytes, poison marks and entries. -/
def State.storeConv (s : State) (d : DestRun) (c : Conv) : State :=
  { (s.wrMarked c.cells c.marks).appendEntries d c.entries with freeCtr := s.freeCtr + c.draws }

/-- The Meter's count of a conversion (R158). -/
def State.meterConv (s : State) (c : Counts) : State :=
  ((((((((s.count Ctr.landingSat c.sat).count Ctr.landingUfl c.ufl).count Ctr.landingNf c.nf).count Ctr.landingPoison c.poison).count
    Ctr.landingZeroBlocks c.zeroBlocks).count Ctr.landingSatBlocks c.satBlocks).count Ctr.landingOutEntries c.outEntries).count
    Ctr.landingOutClamped c.outClamped).count Ctr.landingOutOff c.outOff

/-! ### Rescale (R162) -/

/-- The elements of a destination that the letter wrote before tile t. -/
def writtenBefore (o : Op) (t i : Nat) : List (Nat × Nat) :=
  match o.room with
  | some r =>
    (((List.range t).map fun u => o.tileElems r u).flatten.map fun (a, b) => (partIndex o.parts 0 a, b)).filterMap
      fun (x, c) => if x.1 == i then some (x.2, c) else none
  | none =>
    match o.target, o.parts[i]? with
    | .copy, some p => (List.range (min p.rows (262144 * t))).map fun n => (n, 0)
    | _, some p =>
      let done := match o.wsRows with | [] => 0 | w :: _ => if w.part == i then w.row else 0
      let n := p.d.elim (p.s.elim 0 fun d => d.desc.localAt p.letter.dN) fun d => if d.present then d.desc.localAt p.letter.dN else p.s.elim 0 fun x => x.desc.localAt p.letter.dN
      ((List.range done).map fun r => (List.range n).map fun c => (r, c)).flatten
    | _, none => []

/-- Divide a stored element of an 8-bit format by 2^k; the second part says that it became zero. -/
def rescaleElem (f k code : Nat) : Nat × Bool :=
  let v := (decodeCode f 8 false code).1
  if !v.isFinite then (code, false)
  else
    let r := (convertElem f true .nearest (v.mul (Num.pow2 (-(k : Int))))).1
    (r, !v.isZero && (decodeCode f 8 false r).1.isZero)

/-- Rescale one element of a destination without blocks. -/
def State.rescaleOne (s : State) (d : DestRun) (k : Nat) (ls : List Nat) : State × Nat :=
  let a := ((d.desc.base : Int) + d.desc.offset ls).toNat
  let (c, u) := rescaleElem d.desc.format k (s.rd d.desc.space a 1)
  let p := s.poisonedAt d.desc.space a 1
  let s1 := (s.wr d.desc.space a 1 c).count Ctr.rescaleBytes 1
  (if p then s1.poison d.desc.space a 1 else s1, if u && !p then 1 else 0)

/-- Rescale one block: its scale falls by k; below code 0x00 the codes take the rest of the division. -/
def State.rescaleBlock (s : State) (d : DestRun) (k : Nat) (b : Int) (idx : List Nat) : State × Nat :=
  match d.desc.bs with
  | none => (s, 0)
  | some l =>
    let n := blkOf d.desc.blkCode
    let f := d.desc.format
    let a := ((l.addr : Int) + b).toNat
    let c := s.rd l.space a 1
    let zeroMx := d.desc.mx && c == 0x7F && s.rd d.desc.space ((d.desc.base : Int) + b * ((n * fmtBits f / 8 : Nat) : Int)).toNat (n * fmtBits f / 8) == 0
    if c == 0xFF || zeroMx then (s, 0)
    else if k ≤ c then ((s.wr l.space a 1 (c - k)).count Ctr.rescaleBytes 1, 0)
    else
      let w := match d.desc.wa with
        | none => fmtBits f
        | some q => let x := s.rd q.space ((q.addr : Int) + b).toNat 1; if isBlockCode f && x != 0 then x else fmtBits f
      let base := ((d.desc.base : Int) + b * ((n * fmtBits f / 8 : Nat) : Int)).toNat
      let m := min n (d.desc.localAt d.desc.blkDim - idx.getD d.desc.blkDim 0 / n * n)
      let raw := s.rd d.desc.space base (n * w / 8)
      let one (i : Nat) : Nat × Bool :=
        let code := bits raw (w * i) w
        let (v, mrk) := decodeCode f w d.desc.mx code
        if m ≤ i || mrk || !v.isFinite then (code, false)
        else if f == 4 || f == 5 then
          let r := (ffmtOf f).rnd (v.mul (Num.pow2 (-((k - c : Nat) : Int))))
          (r, !v.isZero && ((ffmtOf f).decode r).isZero)
        else
          let (r, cl) := blockCode f w true ((k - c : Nat) : Int) v
          (r, decide (cl = .underflow))
      let rs := (List.range n).map one
      let pois := s.poisonedAt d.desc.space base (n * w / 8)
      let s1 := s.wr d.desc.space base (n * w / 8) (packCodes w (rs.map (·.1)))
      let s1 := if pois then s1.poison d.desc.space base (n * w / 8) else s1
      ((s1.wr l.space a 1 0).count Ctr.rescaleBytes (n * w / 8 + 1), (rs.filter (·.2)).length)

/-- Side-list entries written by this letter have their exponent reduced by k; below 0 the value takes the rest (R162). -/
def State.rescaleList (s : State) (d : DestRun) (k : Nat) : State × Nat :=
  match d.listLoc with
  | none => (s, 0)
  | some l =>
    let n := s.rd l.space (l.addr + 4) 4
    (List.range (n - d.listStart)).foldl (fun (x : State × Nat) i =>
      let a := l.addr + 64 + 8 * (d.listStart + i)
      let v := x.1.rd l.space a 8
      let e := bits v 56 8
      let c := bits v 48 8
      let c' := if k ≤ e then c else e4m3.rnd ((e4m3.decode c).mul (Num.pow2 (-((k - e : Nat) : Int))))
      let z := !(e4m3.decode c).isZero && (e4m3.decode c').isZero
      ((x.1.wr l.space a 8 (bits v 0 48 + c' * 2 ^ 48 + (e - k) * 2 ^ 56)).count Ctr.rescaleBytes 8, x.2 + (if z then 1 else 0))) (s, 0)

/-- Rescale everything the letter wrote of a destination before tile t (R162 step 3); the number that became zero. -/
def State.rescaleAll (s : State) (o : Op) (i : Nat) (p : Part) (d : DestRun) (t k : Nat) : State × Nat :=
  let n := blkOf d.desc.blkCode
  let els := (writtenBefore o t i).map fun (r, c) => destIdx o p d.desc r c
  let (s1, u1) :=
    if n == 0 then els.foldl (fun (x : State × Nat) ls => let (a, u) := x.1.rescaleOne d k ls; (a, x.2 + u)) (s, 0)
    else
      let carry := d.carry.map (·.idx)
      let blocks := groupBy (fun ls => (0, d.desc.offset ls / (n : Int))) (els.filter fun ls => !carry.contains ls)
      blocks.foldl (fun (x : State × Nat) g => let (a, u) := x.1.rescaleBlock d k g.1.2 (g.2.headD []); (a, x.2 + u)) (s, 0)
  let (s2, u2) := s1.rescaleList d k
  (s2, u1 + u2)

/-! ### Operand checks of a copy's tile (R59) -/

/-- FORMAT_WIDTH among the elements of a copy's tile (R59). -/
def widthFault (s : State) (o : Op) (t : Nat) : Bool :=
  match o.target, o.parts with
  | .copy, p :: _ => (copyElems s o p t).any (·.2.badWidth)
  | _, _ => false

/-! ### Quarantine and repair (R305 to R308) -/

/-- The tile of a constituent as a quarantine entry names it (R307). -/
structure TilePlace where
  row0 : Nat
  col0 : Nat
  rowsM1 : Nat
  colsM1 : Nat
  deriving DecidableEq, Repr

def tilePlace (o : Op) (p : Part) (d : DestRun) (els : List TileEl) : TilePlace :=
  match els with
  | [] => ⟨0, 0, 0, 0⟩
  | e :: _ =>
    let ls := destIdx o p d.desc e.row e.col
    let g (k : Nat) : Nat := (dimAt d.desc k).toGlobal (ls.getD k 0)
    let rows := els.foldl (fun m x => max m x.row) e.row - e.row
    let cols := els.foldl (fun m x => max m x.col) e.col - e.col
    ⟨g p.letter.dM, g p.letter.dN, rows, cols⟩

def quarWord (p : Part) (d : DestRun) (nf pois : Bool) (x : TilePlace) : Nat :=
  let b (c : Bool) (i : Nat) : Nat := if c then 2 ^ i else 0
  d.desc.tensorId + b nf 20 + b pois 21 + b (writeMode p) 23 + p.letter.microbatch % 256 * 2 ^ 24 + p.letter.step * 2 ^ 32
    + x.row0 * 2 ^ 64 + x.col0 * 2 ^ 88 + x.rowsM1 % 2 ^ 24 * 2 ^ 112 + x.colsM1 % 2 ^ 24 * 2 ^ 136 + p.queue * 2 ^ 160 + p.seq * 2 ^ 192

/-- The address of an open entry of the ring that matches a tile (R308). -/
def State.quarMatch (s : State) (o : Op) (p : Part) (d : DestRun) (x : TilePlace) : Option Nat :=
  let size := capIn o.captain K.quarSize
  let n := (s.odv K.quarHead + 2 ^ 32 - s.odv K.quarTail) % 2 ^ 32
  if size == 0 then none else
  ((List.range n).map fun i => capIn o.captain K.quarBase + 32 * ((s.odv K.quarTail + i) % size)).find? fun a =>
    let v := s.rd .attic a 32
    bits v 0 20 == d.desc.tensorId && !bit v 22 && bits v 24 8 == p.letter.microbatch % 256 && bits v 32 32 == p.letter.step
      && bits v 64 24 == x.row0 && bits v 88 24 == x.col0 && bits v 112 24 == x.rowsM1 && bits v 136 24 == x.colsM1

/-- What is done with a converted tile of an accumulate-mode destination: written, kept out, or written as +0. -/
inductive TileFate where
  | write
  | skip
  | zero
  deriving DecidableEq, Repr

/-- R305, R306 and R308 for one tile; the state with the ring, the counters and the sources they change. -/
def State.gradCheck (s : State) (o : Op) (p : Part) (d : DestRun) (c : Conv) (els : List TileEl) : State × TileFate :=
  if !d.accum then (s, .write) else
  let nf := c.counts.nf != 0
  let pois := c.counts.poison != 0
  let bad := nf || pois
  let x := tilePlace o p d els
  if bit p.letter.prog 1 && o.room.isSome then
    match s.quarMatch o p d x with
    | none => (s.count Ctr.gradRepairMiss 1, .skip)
    | some a =>
      if bad then (s.count Ctr.gradRepairFail 1, .skip)
      else ((s.wr .attic a 4 (s.rd .attic a 4 % 2 ^ 32 ||| 2 ^ 22)).count Ctr.gradRepaired 1, .write)
  else if !bad then (s, .write)
  else
    let size := capIn o.captain K.quarSize
    if size == 0 then (s, .write)
    else if s.ringFull K.quarHead K.quarTail size then (s.setOd K.quarDrops ((s.odv K.quarDrops + 1) % 2 ^ 32), .write)
    else
      let head := s.odv K.quarHead
      let tile : List Nat := els.map fun (e : TileEl) => d.desc.globalIndex (destIdx o p d.desc e.row e.col)
      let s0 := { s with pel := { s.pel with quarTiles := aset [] s.pel.quarTiles (head % size) tile } }
      let s1 := (s0.wr .attic (capIn o.captain K.quarBase + 32 * (head % size)) 32 (quarWord p d nf pois x)).setOd K.quarHead ((head + 1) % 2 ^ 32)
      ((s1.count Ctr.gradQuarantined 1).raise Bell.gradQuarantine, if writeMode p then .zero else .skip)

/-! ### KV page writes (R324, R325, R336) -/

/-- Frames for every list entry the tile writes that the letter has not written before; the error that stops the letter,
or a wait for a frame. -/
inductive KvPrep where
  | ready
  | wait
  | stop (err : Nat)
  deriving DecidableEq, Repr

def State.kvPrepare (s : State) (o : Op) (els : List TileEl) : State × Op × KvPrep :=
  els.foldl (fun (x : State × Op × KvPrep) e =>
    match x.2.2, x.2.1.parts[e.part]? with
    | .ready, some p =>
      (match p.d with
       | none => x
       | some d =>
         if !d.desc.paged || !d.present then x else
         let (s, o, _) := x
         let c := s.kvCtx (bits p.letter.pageCtx 0 20)
         let pos := d.desc.posOf (destIdx o p d.desc e.row e.col)
         let j := c.entryOf pos
         if o.kvFrames.any fun y => y.1 == kvKey c.n j then x else
         let tsE := bits d.tsBits.toNat 23 8
         match s.writeTranslate c j pos d.desc.format d.desc.blkCode tsE with
         | (.empty, s1) =>
           -- a tile that already waits found the pool empty once
           (if o.kvWaiting.isSome then s else s1, o, if capIn o.captain K.kvPolicy == 1 then .wait else .stop Err.kvPoolEmpty)
         | (.frame f fresh, s1) =>
           let h := s1.hdr c.pool f
           let s2 := if fresh then s1.setHdr c.pool f { h with tsExp := tsE } else s1
           let o1 := { o with kvFrames := aset 0 o.kvFrames (kvKey c.n j) f, parts := o.parts.set e.part { p with pins := p.pins ++ [(c.pool, f)] } }
           (s2, o1, if h.format != d.desc.format || h.blkCode != d.desc.blkCode then .stop Err.kvFormat else .ready))
    | _, _ => x) (s, o, .ready)

/-! ### Triggers of a tile (R159 to R164, R170) -/

/-- One destination after its conversion and whatever replay it had. -/
structure DestOut where
  s : State
  o : Op
  conv : Conv
  replayed : Bool
  deriving DecidableEq, Repr

def Op.destAt (o : Op) (i : Nat) (isS : Bool) : Option (Part × DestRun) :=
  match o.parts[i]? with
  | none => none
  | some p => (p.dest isS).map fun d => (p, d)

def Op.setDestAt (o : Op) (i : Nat) (d : DestRun) : Op :=
  match o.parts[i]? with
  | none => o
  | some p => o.setPart i (p.setDest d)

/-- Saturations that count toward SAT_LIMIT (R159). -/
def satOf (c : Conv) : Nat := c.counts.sat - c.counts.outClamped

/-- May a destination's scale be raised (R148, R162, R326)? -/
def DestRun.raisable (d : DestRun) : Bool := d.history && !d.desc.paged

/-- The amax of a destination up to and including tile t: that of its converted elements and of those in blocks that are
not yet complete (R162). -/
def Conv.amaxAll (s : State) (o : Op) (p : Part) (c : Conv) : F32 :=
  (c.carry.filter fun h => !h.poison && (f32val h.val).isFinite).foldl
    (fun a h => f32max a (f32rnd ((f32val h.val).abs.mul (gFactor s o p)))) c.amax

/-- The raise of R162 for a destination at tile t: new exponent, rescale, scale pointer and slot. -/
def State.raiseScale (s : State) (o : Op) (i : Nat) (p : Part) (d : DestRun) (amax : F32) (t : Nat) : State × Op × DestRun :=
  let need := eNeed d.desc.format (o.cass p 6) amax
  let e := if d.eLatched + 1 < need then need else d.eLatched + 1
  let k := (e - d.eLatched).toNat
  let (s1, u) := s.rescaleAll o i p d t k
  let ts := scalePow e
  let s2 := match d.desc.ts with | none => s1 | some l => s1.wr l.space l.addr 4 ts.toNat
  let h := s2.hist o d.hist
  let s3 := if d.stale || !decide (h.e < e) then s2 else s2.setHist o d.hist { h with e := e }
  let d' := { d with eLatched := e, tsBits := ts, counts := d.counts.add { Counts.zero with ufl := u } }
  (s3.count Ctr.landingUfl u, o.setDestAt i d', d')

/-- Conversions of one constituent's part of a tile for D and S, with their replay (R159 to R162, R170). When outliers overflow
and a scale is raised together, the Meter counts both the blocks that the first redoes and the tile that the second redoes;
a raise is made too when only the saturations counted again pass SAT_LIMIT (DESIGN CHOICE, log 65). -/
def State.convPart (s : State) (o : Op) (t i : Nat) (els : List TileEl) : State × Op × List (Bool × Conv) :=
  match o.parts[i]? with
  | none => (s, o, [])
  | some p =>
    let limit := o.cass p 4
    let dests := (match p.d with | some _ => [false] | none => []) ++ (match p.s with | some _ => [true] | none => [])
    let first := dests.filterMap fun b => (p.dest b).map fun d => (b, d, convTile s o p d false 0 els)
    let s1 := first.foldl (fun st x => st.meterConv x.2.2.counts) s
    let overf (x : Bool × DestRun × Conv) : Bool := x.2.2.over_
    let satHigh (x : Bool × DestRun × Conv) : Bool := limit < satOf x.2.2
    let wantsRaise (x : Bool × DestRun × Conv) : Bool := satHigh x && x.2.1.raisable && decide (x.2.1.eLatched < 127)
    -- RECIPE causes that ask for nothing to be redone
    let (s2, o2) := first.foldl (fun (y : State × Op) x =>
      if satHigh x && !x.2.1.raisable then y.1.recipe y.2 i x.1 0x03 x.2.2.counts.sat (x.2.1.counts.elements + x.2.2.counts.elements)
      else if satHigh x && !wantsRaise x then y.1.recipe y.2 i x.1 0x01 x.2.2.counts.sat (x.2.1.counts.elements + x.2.2.counts.elements)
      else y) (s1, o)
    if !(first.any fun x => overf x || wantsRaise x) then
      (s2, o2, first.map fun x => (x.1, x.2.2))
    else if o.cass p 5 ≤ o.replaysOf p then
      let (s3, o3) := first.foldl (fun (y : State × Op) x =>
        let a := if overf x then
            let o' := match y.2.destAt i x.1 with | none => y.2 | some (_, d) => y.2.setDestAt i { d with overflowed := true }
            ((y.1.count Ctr.replayExhausted 1).entryStat p.letter.cassette 3 1).recipe o' i x.1 0x08 x.2.2.counts.outClamped (x.2.1.counts.elements + x.2.2.counts.elements)
          else y
        if wantsRaise x then ((a.1.count Ctr.replayExhausted 1).entryStat p.letter.cassette 3 1).recipe a.2 i x.1 0x01 x.2.2.counts.sat (x.2.1.counts.elements + x.2.2.counts.elements) else a) (s2, o2)
      (s3, o3, first.map fun x => (x.1, x.2.2))
    else
      let o3 := match o2.parts[i]? with | none => o2 | some q => o2.setPart i { q with replays := q.replays + 1 }
      let (s3, o4, cs) := first.foldl (fun (y : State × Op × List (Bool × Conv)) x =>
        let (s, o, out) := y
        match o.destAt i x.1 with
        | none => y
        | some (p, d) =>
          if !overf x && !wantsRaise x then (s, o, out ++ [(x.1, x.2.2)]) else
          -- the outlier path first, then saturations are counted again
          let c1 := if overf x then convTile s o p d true 0 els else x.2.2
          let s := if overf x then s.meterConv c1.redo else s
          let raise := d.raisable && decide (d.eLatched < 127) && limit < satOf c1
          if raise then
            let (s1, o1, d1) := s.raiseScale o i p d (c1.amaxAll s o p) t
            let c2 := match o1.parts[i]? with | none => c1 | some q => convTile s1 o1 q d1 (overf x) 0 els
            let d2 := if overf x then { d1 with overflowed := true } else d1
            ((s1.meterConv c2.counts), o1.setDestAt i d2, out ++ [(x.1, c2)])
          else
            (s, o.setDestAt i { d with overflowed := d.overflowed || overf x }, out ++ [(x.1, c1)]))
        (((s2.count Ctr.replayConv 1).count Ctr.landingTiles 1).entryStat p.letter.cassette 1 1, o3, [])
      -- the letter makes no second replay of this kind (R170)
      let o4 := if first.any overf then (match o4.parts[i]? with | none => o4 | some q => o4.setPart i { q with outReplayed := true }) else o4
      (s3, o4, cs)

/-- The data sectors that all of a destination's elements lie in. -/
def destSectors (d : DestRun) : List (Space × Nat) :=
  if !d.present || d.desc.paged then [] else
  (List.range d.desc.localCount).foldl (fun acc i =>
    let w : Int := ((fmtBits d.desc.format : Nat) : Int)
    let o := d.desc.offset (d.desc.unlinear i)
    let lo := ((d.desc.base : Int) + o * w / 8).toNat
    let hi := ((d.desc.base : Int) + (o * w + w - 1) / 8).toNat
    ([(d.desc.space, lo / 32), (d.desc.space, hi / 32)]).foldl (fun a x => if a.contains x then a else a ++ [x]) acc) []

/-- The range of bytes a destination's data can touch. -/
def destSpan (d : DestRun) : Int × Int :=
  let w : Int := ((fmtBits d.desc.format : Nat) : Int)
  ((d.desc.base : Int) + d.desc.minOffset * w / 8, (d.desc.base : Int) + (d.desc.maxOffset * w + w - 1) / 8)

/-- The sectors that D and S of a letter share, and that hold wholly the value of the other destination: which one keeps a
sector is a free value (R202). -/
def lostSectors (p : Part) (isS : Bool) : List (Space × Nat) :=
  match p.d, p.s with
  | some d, some x =>
    let (a, b) := destSpan d
    let (u, v) := destSpan x
    if d.desc.space != x.desc.space || decide (v / 32 < a / 32) || decide (b / 32 < u / 32) then [] else
    let ds := destSectors d
    ((destSectors x).filter ds.contains).filter fun y => (Config.freeNat (2 ^ 80 + y.2) % 2 == 0) == isS
  | _, _ => []

/-- A conversion without the bytes and marks in sectors that the other destination keeps (R202). -/
def Conv.without (c : Conv) (lost : List (Space × Nat)) : Conv :=
  if lost.isEmpty then c else
  { c with cells := c.cells.filter (fun x => !lost.contains (x.1, x.2.1 / 32)), marks := c.marks.filter (fun x => !lost.contains (x.1, x.2 / 32)) }

/-- A conversion that stores +0 everywhere (R305). -/
def Conv.zeroed (c : Conv) : Conv := { c with cells := c.cells.map fun x => (x.1, (x.2.1, 0)), marks := [] }

/-- Store the final conversion of one destination, unless the gradient rules keep it out (R305 to R308). -/
def State.storeDest (s : State) (o : Op) (i : Nat) (els : List TileEl) (x : Bool × Conv) : State × Op :=
  match o.destAt i x.1 with
  | none => (s, o)
  | some (p, d) =>
    let (s1, fate) := s.gradCheck o p d x.2 els
    let d' := { d with amax := x.2.amax, carry := x.2.carry }
    match fate with
    | .write => ((s1.storeConv d (x.2.without (lostSectors p x.1))).entryStat p.letter.cassette 5 x.2.counts.sat, o.setDestAt i { d' with counts := d.counts.add x.2.counts })
    | .skip => ({ s1 with freeCtr := s1.freeCtr + x.2.draws }, o.setDestAt i d')
    | .zero =>
      ({ s1.storeConv d (x.2.zeroed.without (lostSectors p x.1)) with freeCtr := s1.freeCtr + x.2.draws }, o.setDestAt i d')

/-- Does a constituent's part of tile t raise the operand-range trigger: a NONFINITE element, and no non-finite operand element
delivered for it up to the tile's end (R159, R248)? -/
def rangeHit (o : Op) (t : Nat) (els : List TileEl) (i : Nat) : Bool :=
  o.room.isSome && (els.any fun e => e.part == i && !e.poison && !(f32val e.val).isFinite)
    && (match o.parts[i]? with | none => false | some p => p.nfTiles.getD t 0 == 0)

/-- Why a constituent cannot be run again whole, as a RECIPE cause, and whether its record then carries OPRANGE (R161, R164):
none when it can. -/
def noReplay (s : State) (o : Op) (p : Part) : Option (Nat × Bool) :=
  let shift := o.cass p 0x0D
  let ds := (p.d.toList) ++ (p.s.toList)
  if p.d.elim false (·.accum) then some (0x07, true)
  else if !(ds.all fun d => normalF32 ((factor s o p d.tsBits).mul (Num.pow2 ((o.kop + shift : Nat) : Int)))) then some (0x02, true)
  else if o.cass p 5 ≤ o.replaysOf p then some (0x02, false) else none

/-- The operand-range trigger of a tile (R159, R161, R163, R164): none when there is none; else whether the op is run again,
and the state and op with its RECIPE and status. A merged op is run again only when every constituent can be; if one cannot,
each constituent that raised the trigger completes with its own cause, or, when it could itself be replayed, as with
REPLAY_EXHAUSTED_RANGE (DESIGN CHOICE, log 63). -/
def State.rangeTrigger (s : State) (o : Op) (t : Nat) (els : List TileEl) : Option (Bool × State × Op) :=
  let hits := (List.range o.parts.length).filter (rangeHit o t els)
  if hits.isEmpty then none
  else if o.parts.all fun p => (noReplay s o p).isNone then
    let cass := match o.parts with | p :: _ => p.letter.cassette | [] => 0
    some (true, (s.count Ctr.replayWhole 1).entryStat cass 2 1, o)
  else
    let one (x : State × Op) (i : Nat) : State × Op :=
      match o.parts[i]? with
      | none => x
      | some p =>
        let (cause, mark) := (noReplay s o p).getD (0x02, true)
        let n := (els.filter fun e => e.part == i && !e.poison && !(f32val e.val).isFinite).length
        let ds := (p.d.toList ++ p.s.toList).filter fun d => cause != 0x07 || !d.isS
        let (s1, o1) := ds.foldl (fun (y : State × Op) d =>
          y.1.recipe y.2 i d.isS cause n (d.counts.elements + (els.filter fun e => e.part == i).length)) x
        let o2 := if mark then (match o1.parts[i]? with | none => o1 | some q => o1.setPart i { q with oprange := true }) else o1
        (if mark then s1 else (s1.count Ctr.replayExhausted 1).entryStat p.letter.cassette 3 1, o2)
    let r := hits.foldl one (s, o)
    some (false, r.1, r.2)

/-- A tile that was converted and whose conversion goes to waste counts all the same (R158). -/
def State.meterWaste (s : State) (o : Op) (els : List TileEl) : State :=
  ((els.map (·.part)).eraseDups).foldl (fun st i =>
    match o.parts[i]? with
    | none => st
    | some p => (p.d.toList ++ p.s.toList).foldl (fun st d => st.meterConv (convTile s o p d false 0 (els.filter fun e => e.part == i)).counts) st)
    (s.count Ctr.landingTiles 1)

/-- The lists' COUNTs go back to what they were at the letter's start (R163). -/
def State.restoreLists (s : State) (o : Op) : State :=
  o.parts.foldl (fun st p => (p.d.toList ++ p.s.toList).foldl (fun st d =>
    match d.listLoc with
    | none => st
    | some l => st.wr l.space (l.addr + 4) 4 d.listStart) st) s

/-! ### TILE_CONVERSION_END -/

/-- Tiles of an op that its station has handed over. -/
def Op.handed (o : Op) : Nat :=
  match o.room with
  | some r => r.tilesDone
  | none =>
    match o.target, o.parts with
    | .copy, p :: _ => cdiv p.rows copyTile
    | _, _ => o.tilesConv + (if o.wsRows.isEmpty then 0 else 1)

/-- The op whose tile the path converts next: the oldest with a tile handed over and its outlier products complete. -/
def State.convertible (s : State) (path : Nat) : Option Op :=
  s.lb.ops.find? fun o => o.station == path && o.started && o.error == 0 && !o.replayWaiting && !o.discarding && o.tilesConv < o.handed
    && (!o.hasLists || o.tilesConv < o.outDone)

/-- The op runs again whole: at once if its room is free of it, else when the tile it is running is done (R163). -/
def State.runAgain (s : State) (o : Op) : State :=
  let shift := match o.parts with | p :: _ => o.cass p 0x0D | [] => 0
  if o.roomBusy then s.setOp { o with discarding := true }
  else ((s.setOp (o.restart shift)).dispatchReplays o.target).settle

/-- What a copy letter's tile counts at the Porch: deliveries, and after its last tile the blocks that were turned (R258,
R587); its threads are then released (R234). -/
def State.copyDelivered (s : State) (o : Op) (t : Nat) : State :=
  match o.target, o.parts with
  | .copy, p :: _ =>
    let s := s.countDelivery (deliveryOf ((copyElems s o p t).map (·.2)))
    if cdiv p.rows copyTile ≤ t + 1 then
      let blocks := match p.a with
        | none => 0
        | some a =>
          (match runDim a with
           | none => 0
           | some (d, _) =>
             turnedBlocks (p.mode a false) (a.localAt 0) (a.localAt d) * (a.localCount / max 1 (a.localAt 0 * a.localAt d)))
      (s.count Ctr.stairTurned blocks).releaseReads o.station
    else s
  | _, _ => s

/-- The rows of Workshop output behind those of the first tile that waits. -/
def Op.wsRest (o : Op) : List WsRow :=
  match o.wsRows with
  | [] => []
  | w :: _ =>
    let tr := match o.parts[w.part]? with | none => 1 | some p => max 1 p.tileRows
    o.wsRows.filter fun x => !(x.part == w.part && x.row / tr == w.row / tr)

/-- A tile is converted, checked, stored and released (R144, R159 to R166, R305). -/
def State.convertEls (s : State) (o : Op) (t : Nat) (els : List TileEl) : State :=
  let s := (s.count Ctr.landingTiles 1).copyDelivered o t
  let parts := (els.map (·.part)).eraseDups
  let (s, o) := parts.foldl (fun (y : State × Op) i =>
    let mine := els.filter fun e => e.part == i
    let (s1, o1, cs) := y.1.convPart y.2 t i mine
    cs.foldl (fun (z : State × Op) c => z.1.storeDest z.2 i mine c) (s1, o1)) (s, o)
  s.setOp { o with tilesConv := t + 1, kvWaiting := none, wsRows := o.wsRest,
                   buf := if o.room.isSome then o.freeBuf t else o.buf.filter fun e => t < e.tile }

/-- The end of the conversion of the next tile of a path (R144, R159 to R166, R305). ecc: what the Landing's read of a room's
tile met in the Pantry (R119). A copy's tile waits for its bursts. -/
def State.convertTile (s : State) (path ecc : Nat) : State :=
  match s.convertible path with
  | none => s
  | some o =>
    let t := o.tilesConv
    if o.target == .copy && s.visitAwaited o t then s
    else if widthFault s o t then s.stopOp o Err.formatWidth
    else
      let s := match o.room with
        | none => s
        | some r => s.landingEcc o r t (if r.passLen < o.tileK r t then pairAt r else 0) ecc
      let els := tileEls s o t
      let (s, o, prep) := s.kvPrepare o els
      match prep with
      | .stop e => s.stopOp o e
      | .wait => s.setOp { o with kvWaiting := some (o.kvWaiting.getD s.tick) }
      | .ready =>
        match s.rangeTrigger o t els with
        | some (true, s1, o1) => ((s1.meterWaste o els).restoreLists o).runAgain o1
        | some (false, s1, o1) => s1.convertEls o1 t els
        | none => s.convertEls o t els

/-- A tile that waits for a free frame runs out of time, no earlier than KV_WAIT_TICKS after it began to wait: the letter ends
as under STOP (R336). -/
def State.kvWaitTimeout (s : State) (path : Nat) : State :=
  match s.lb.ops.find? fun o => o.station == path && o.kvWaiting.isSome && o.error == 0 with
  | none => s
  | some o => (s.atLeast (o.kvWaiting.getD 0 + capIn o.captain K.kvWaitTicks)).stopOp { o with kvWaiting := none } Err.kvPoolEmpty

/-! ### The end of a letter (R150, R157, R171, R174, R221, R327, R328) -/

/-- The share of a count among the blocks exceeds a limit in 1/65,536 (R174). -/
def shareOver (n blocks limit : Nat) : Bool := limit != 0xFFFF && blocks * limit < n * 65536

/-- History updates of one destination at the end of a letter (R150, R171, R174). -/
def State.endDest (s : State) (o : Op) (i : Nat) (isS : Bool) : State × Op :=
  match o.destAt i isS with
  | none => (s, o)
  | some (p, d) =>
    let s := match d.listLoc with | none => s | some l => if outliersOn o p d && !p.emptyOut then s.wr l.space (l.addr + 8) 4 d.counts.outClamped else s
    if d.hist == 0xFFFF || d.stale || p.emptyOut then (s, o) else
    let h := s.hist o d.hist
    let win := o.cass p 0x0C
    let ovf := if d.overflowed then min 15 (h.ovf + 1) else 0
    let zb := if shareOver d.counts.zeroBlocks d.counts.blocks (o.cass p 0x0A) then min 15 (h.zb + 1) else 0
    let sb := if shareOver d.counts.satBlocks d.counts.blocks (o.cass p 0x0B) then min 15 (h.sb + 1) else 0
    let hit (n : Nat) : Bool := n != 0 && win ≤ n
    let h' := { h with cur := f32max h.cur d.amax, ovf := if hit ovf then 0 else ovf, zb := if hit zb then 0 else zb, sb := if hit sb then 0 else sb }
    let s1 := s.setHist o d.hist h'
    let (s2, o2) := if hit ovf then s1.recipe o i isS 0x04 d.counts.outClamped d.counts.elements else (s1, o)
    let (s3, o3) := if hit zb then s2.recipe o2 i isS 0x05 d.counts.zeroBlocks d.counts.blocks else (s2, o2)
    if hit sb then s3.recipe o3 i isS 0x06 d.counts.satBlocks d.counts.blocks else (s3, o3)

/-- TOKENS, LENGTH and sketches of the pages a letter wrote (R327, R328). -/
def State.endPages (s : State) (o : Op) : State :=
  o.parts.foldl (fun st p =>
    match p.d with
    | none => st
    | some d =>
      if !d.desc.paged || !d.present then st else
      let c := st.kvCtx (bits p.letter.pageCtx 0 20)
      let n := d.desc.localAt 1
      let last := d.desc.pos0 + n
      if n == 0 || d.desc.localCount == 0 then st else
      let mine := o.kvFrames.filter fun x => x.1 / 2 ^ 21 == c.n
      let st := mine.foldl (fun a (key, f) =>
        let h := a.hdr c.pool f
        -- highest row written in this page
        let hi := (List.range n).foldl (fun m l =>
          let q := d.desc.pos0 + l
          if c.entryOf q == key % 2 ^ 21 then max m (q % c.page + 1) else m) 0
        let a := a.setHdr c.pool f { h with tokens := max h.tokens hi }
        if c.sketchEn && h.tokens < c.page && max h.tokens hi == c.page then a.sketchPage c (key % 2 ^ 21) f else a) st
      if (st.kvCtx c.n).length < last then st.setKvLength c last else st) s

/-- Is all the work of an op through the Landing done? -/
def Op.workDone (o : Op) : Bool :=
  match o.target, o.parts with
  | .front, _ => o.started && o.tilesConv == o.tiles
  | .back, _ => o.started && o.tilesConv == o.tiles
  | .copy, p :: _ => o.started && o.tilesConv == cdiv p.rows copyTile
  | .workshop, _ =>
    o.started && o.wsRows.isEmpty && (if o.parts.any fun p => p.letter.route == 4 then o.tilesConv == o.wsTiles else o.wsNext == o.wsTiles)
  | .peloton, _ => o.finished
  | .exporter, _ => o.finished
  | _, _ => false

/-- The status bits of a constituent's record (R221). -/
def Part.sealed (p : Part) : Part :=
  let c (f : Counts → Nat) : Bool := (p.d.toList ++ p.s.toList).any fun d => f d.counts != 0
  { p with poisonBit := c (·.poison), nonfinite := c (·.nf), saturated := c (·.sat) }

def finOf (o : Op) (p : Part) : FinRec :=
  { queue := p.queue, seq := p.seq, error := o.error, part := some p.sealed, replays := o.replaysOf p, window := p.window,
    longsum := o.longsum p, merged := o.merged, late := p.late, dispatchTick := o.dispatchTick,
    notify := p.letter.notify || o.error != 0, userTag := p.letter.userTag, hasCounts := isLandingRoute p.letter.route,
    pins := p.pins, captain := o.captain, collective := [] }

/-- An op ends: history and pages are updated when it was not stopped, its records get in line, its queues halt on an
error, and its threads are released. -/
def State.endOp (s : State) (o : Op) : State :=
  let (s, o) := if o.error != 0 then (s, o) else
    (List.range o.parts.length).foldl (fun (x : State × Op) i =>
      let (s1, o1) := x.1.endDest x.2 i false
      s1.endDest o1 i true) (s, o)
  let s := if o.error != 0 then s else s.endPages o
  let s := if o.target == .workshop then s.count (Ctr.wsLetters + o.slot) o.parts.length else s
  let s := if o.error != 0 then s else
    o.parts.foldl (fun st p => if isLandingRoute p.letter.route then st.entryStat p.letter.cassette 0 1 else st) s
  let s := s.dropOp o
  let s := if o.error != 0 then s else if o.room.isSome then s.releaseDrains o.station else s.dropStreams o.station
  let s := if o.error != 0 then o.parts.foldl (fun st p => st.haltQueue p.queue p.seq o.error) s else s
  let recs := o.parts.map (finOf o)
  (recs.foldl State.finish s).settle

/-- LETTER_COMPLETION of letter seq of queue q: the op that holds it ends when its work is done or it was stopped. -/
def State.letterCompletion (s : State) (q seq : Nat) : State :=
  match s.lb.ops.find? fun o => o.parts.any fun p => p.queue == q && p.seq == seq with
  | none => s
  | some o => if o.error != 0 || o.workDone then s.endOp o else s

end Sys2Proof.Machine
end

