-- ==== Sys2Proof/Machine/Workshop.lean ====
section
/-! DEFINITION. The Workshop (08): function tables, reductions, the standard programs, tiles, outlier products, faults
(R261, R263, R266, R268, R271 to R281, R285 to R289). -/

namespace Sys2Proof.Machine

def nanF : F32 := 0x7FC00000
def negInf : F32 := 0xFF800000
def f32sub (a b : F32) : F32 := f32rnd ((f32val a).sub (f32val b))
def f32fma (a b c : F32) : F32 := f32rnd (Num.fma (f32val a) (f32val b) (f32val c))

/-- Maximum with −0 below +0 and NaN for a NaN operand (R261). -/
def f32maxIeee (a b : F32) : F32 :=
  let x := f32val a
  let y := f32val b
  if x.isNaN then f32rnd x else if y.isNaN then f32rnd y
  else if Num.lt x y then b else if Num.lt y x then a else if a == 0x80000000 then b else a

def f32minIeee (a b : F32) : F32 :=
  let x := f32val a
  let y := f32val b
  if x.isNaN then f32rnd x else if y.isNaN then f32rnd y
  else if Num.lt x y then a else if Num.lt y x then b else if a == 0x80000000 then a else b

/-! ### Function tables (R270, R271) -/

structure Table where
  mode : Nat
  seg : Nat
  degree : Nat
  tailLo : Nat
  tailHi : Nat
  lo : F32
  hi : F32
  bytes : List Byte
  deriving DecidableEq, Repr

def parseTable (b : List Byte) : Table :=
  let v := ofBytes (b.take 16)
  ⟨bits v 0 2, bits v 2 4, bits v 6 2, bits v 8 2, bits v 10 2, BitVec.ofNat 32 (bits v 32 32), BitVec.ofNat 32 (bits v 64 32), b⟩

def Table.coef (t : Table) (s i : Nat) : F32 := BitVec.ofNat 32 (ofBytes ((t.bytes.drop (16 + 16 * s + 4 * i)).take 4))

/-- Horner steps, the highest coefficient first, one FMA each. -/
def Table.poly (t : Table) (s : Nat) (u : Num) : F32 :=
  (List.range t.degree).foldl (fun acc i => f32rnd (Num.fma (f32val acc) u (f32val (t.coef s (t.degree - 1 - i))))) (t.coef s t.degree)

/-- Integer part of a value, toward −∞. -/
def Num.floorI : Num → Int
  | .fin s n d => (if s then -(n : Int) else (n : Int)) / (d : Int)
  | _ => 0

/-- p × 2^n as an EXP2 table ends (R271): exact but at the ends of FP32's range, and never a number too large to write. -/
def scaleP (p : F32) (n : Int) : F32 :=
  match f32val p with
  | .fin neg m _ => if m == 0 || n ≤ 400 then f32rnd ((f32val p).mul (Num.pow2 (min n 400))) else if neg then negInf else 0x7F800000
  | v => f32rnd v

/-- The largest FP32 below one that is finite. -/
def below (x : F32) : F32 :=
  if x == 0 || x == 0x80000000 then 0x80000001
  else BitVec.ofNat 32 (if x.toNat < 2 ^ 31 then x.toNat - 1 else x.toNat + 1)

/-- A table's value for x. Inputs for which the rule states no result take a free value (log 20). -/
def Table.eval (t : Table) (x : F32) : F32 :=
  let v := f32val x
  let k : Int := ((2 ^ t.seg : Nat) : Int)
  let open_ : F32 := Config.programValue 0x1000 [[x]] t.mode
  match v with
  | .nan s => f32rnd (.nan s)
  | _ =>
    if t.mode == 0 then
      let lo := f32val t.lo
      let hi := f32val t.hi
      let go (y : Num) : F32 :=
        let i := ((y.sub lo).mul (Num.ofInt k)).div (hi.sub lo) |> Num.floorI
        let start := lo.add (((hi.sub lo).mul (Num.ofInt i)).div (Num.ofInt k))
        t.poly i.toNat (y.sub start)
      if Num.lt v lo then (if t.tailLo == 0 then go lo else if t.tailLo == 1 then 0 else if t.tailLo == 2 then x else open_)
      else if !Num.lt v hi then
        (if t.tailHi == 0 then go (f32val (below t.hi))
         else if t.tailHi == 1 then 0 else if t.tailHi == 2 then x else open_)
      else go v
    else if t.mode == 1 then
      match v with
      | .inf s => if s then 0 else 0x7F800000
      | _ =>
        if Num.lt v (Num.ofInt (-150)) then 0
        else
          let n := Num.floorI v
          let f := v.sub (Num.ofInt n)
          let i := Num.floorI (f.mul (Num.ofInt k))
          scaleP (t.poly i.toNat (f.sub ((Num.ofInt i).div (Num.ofInt k)))) n
    else
      match v with
      | .fin neg n d =>
        if n == 0 then (if t.mode == 2 then (if neg then negInf else 0x7F800000) else if neg then open_ else 0x7F800000)
        else if t.mode == 3 && neg then nanF
        else
          let e := Num.log2Floor n d
          let s := (Num.fin false n d).mul (Num.pow2 (-e))
          let fr := s.sub Num.one
          if t.mode == 2 then
            let i := Num.floorI (fr.mul (Num.ofInt k))
            let p := (f32val (t.poly i.toNat (fr.sub ((Num.ofInt i).div (Num.ofInt k))))).mul (Num.pow2 (-e))
            f32rnd (if neg then p.neg else p)
          else
            let half := k / 2
            let i := if half == 0 then 0 else Num.floorI (fr.mul (Num.ofInt half))
            let u := if half == 0 then fr else fr.sub ((Num.ofInt i).div (Num.ofInt half))
            f32rnd ((f32val (t.poly (i + (e % 2) * half).toNat u)).mul (Num.pow2 (-(e / 2))))
      | .inf s => if t.mode == 3 && s then nanF else open_
      | _ => open_

/-- Table slot n of the active library. -/
def State.table (s : State) (n : Nat) (x : F32) : F32 := (parseTable (s.ws.tables.getD n [])).eval x

/-! ### Reductions (R272) -/

def pairUp (f : F32 → F32 → F32) : List F32 → List F32
  | a :: b :: t => f a b :: pairUp f t
  | l => l

def treeLevels (f : F32 → F32 → F32) : Nat → List F32 → List F32
  | 0, l => l
  | n + 1, l => treeLevels f n (pairUp f l)

/-- A row reduced by groups of 64 columns, each by the fixed tree, then in group order. -/
def treeReduce (f : F32 → F32 → F32) (pad : F32) (l : List F32) : F32 :=
  let groups := (List.range (cdiv l.length 64)).map fun g =>
    let x := (l.drop (64 * g)).take 64
    (treeLevels f 6 (x ++ List.replicate (64 - x.length) pad)).headD pad
  match groups with
  | [] => pad
  | g :: t => t.foldl f g

def treeSum (l : List F32) : F32 := treeReduce f32add 0 l
def treeMax (l : List F32) : F32 := treeReduce f32maxIeee negInf l

/-! ### Rows -/

/-- An operand element as the Workshop gets it: its full value, rounded to FP32 (R263). -/
def wsElem (s : State) (t : Option TDesc) (e : Elem) : F32 × Bool :=
  (f32rnd (e.scaled.mul (f32val (opScale s t))), e.poison)

def wsCols (p : Part) : Nat := p.a.elim 0 (wsColsOf p.letter)

/-- The elements of A's row, and of B's row: B's one row serves every row of a broadcast. -/
def elemsA (s : State) (p : Part) (r : Nat) : List Elem := (List.range (wsCols p)).map fun k => p.aElem s r k
def elemsB (s : State) (p : Part) (r : Nat) : List Elem :=
  match p.b with
  | none => []
  | some b =>
    let row := if b.localAt p.letter.bN == 1 then 0 else r
    (List.range (b.localAt p.letter.bK)).map fun k => readElem s (some b) p.kv (idxAt b.rank [(p.letter.bN, row), (p.letter.bK, k)])

def rowA (s : State) (p : Part) (r : Nat) : List (F32 × Bool) := (elemsA s p r).map (wsElem s p.a)

/-- An absent B gives zeros (R185). -/
def rowB (s : State) (p : Part) (r : Nat) : List (F32 × Bool) :=
  if p.b.isNone then List.replicate (2 * wsCols p) (0, false) else (elemsB s p r).map (wsElem s p.b)

/-- Entry r of a row array, word w of it, with its sector's poison. -/
def raWord (s : State) (l : Option Loc) (size r w : Nat) : F32 × Bool :=
  match l with
  | none => (0, false)
  | some q => (BitVec.ofNat 32 (s.rd q.space (q.addr + size * r + 4 * w) 4), s.poisonedAt q.space (q.addr + size * r + 4 * w) 4)

/-- What a bench writes for one row. -/
structure RowOut where
  d : List (F32 × Bool)
  ints : List Int
  ra0 : List F32
  ra1 : List F32
  raPoison : Bool
  emptyRow : Bool
  toppNf : Nat
  deriving DecidableEq, Repr

def RowOut.plain (d : List (F32 × Bool)) : RowOut := ⟨d, [], [], [], false, false, 0⟩

def zip2 (f : F32 → F32 → F32) (a b : List (F32 × Bool)) : List (F32 × Bool) :=
  (a.zip b).map fun (x, y) => (f x.1 y.1, x.2 || y.2)

/-- Is column j masked for row r (R274)? -/
def softMasked (pb r j : Nat) : Bool :=
  let mode := bits pb 288 2
  let q := bits pb 312 24 + r % (bits pb 360 24 + 1)
  let k := bits pb 336 24 + j
  let valid := bits pb 408 14
  (valid != 0 && valid ≤ j) || ((mode == 1 || mode == 2) && q < k) || (mode == 2 && k + bits pb 384 24 ≤ q)

/-- SOFTMAX_BLOCK on one row (R275, R276): probabilities, m, l and α. -/
def softmaxBlock (s : State) (pb r : Nat) (a : List F32) (m l : F32) : List F32 × F32 × F32 × F32 :=
  let tau := BitVec.ofNat 32 (bits pb 256 32)
  let js := (a.zip (List.range a.length)).map fun (x, j) => (x, softMasked pb r j)
  let live := (js.filter fun x => !x.2).map (·.1)
  if live.any fun x => !(f32val x).isFinite then (a.map fun _ => nanF, nanF, nanF, nanF)
  else
    let blk := treeMax (live.map fun x => f32mul x tau)
    let m' := f32maxIeee m blk
    if m' == negInf then (a.map fun _ => 0, m', l, 0x3F800000)
    else
      let e (x : F32) : F32 := s.table 0 (f32rnd (Num.fma (f32val x) (f32val tau) ((f32val m').neg)))
      let p := js.map fun (x, msk) => if msk then (0 : F32) else e x
      let al := if m == negInf then 0 else s.table 0 (f32sub m m')
      (p, m', f32fma l al (treeSum p), al)

/-- Insert a candidate: greater score first, then lower column (R280). -/
def insCand (x : F32 × Nat) : List (F32 × Nat) → List (F32 × Nat)
  | [] => [x]
  | y :: t => if Num.lt (f32val y.1) (f32val x.1) then x :: y :: t else y :: insCand x t

def insNat (x : Nat) : List Nat → List Nat
  | [] => [x]
  | y :: t => if x < y then x :: y :: t else y :: insNat x t

/-- TOPP_SELECT on one row (R280, R281). -/
def toppRow (n : Nat) (a : List F32) : List Int × Nat :=
  let c := a.zip (List.range a.length)
  let nf := (c.filter fun x => (f32val x.1).isNaN).length
  let ok := c.filter fun x => !(f32val x.1).isNaN && x.1 != negInf
  let top := (ok.foldl (fun acc x => insCand x acc) []).take n
  let cols := top.foldl (fun acc x => insNat x.2 acc) []
  (cols.map (fun (i : Nat) => (i : Int)) ++ List.replicate (n - cols.length) (-1), nf)

/-- The row arrays of a letter's parameter block (R265). -/
def Part.rowArr (p : Part) (i : Nat) : Option Loc := if bit p.letter.param0 63 then none else rowArray p.pb i

/-- Is a program of the Row class (R273, R285)? -/
def rowClassOf (s : State) (prog : Nat) : Bool :=
  if prog < 0x800 then !(prog == 0x003 || prog == 0x020 || prog == 0x021 || prog == 0x030)
  else (s.ws.progs.find? fun p => p.num == prog).elim true (·.rowClass)

/-- One row of a Workshop letter, from A's row as the bench holds it (R273 to R281, R285). The rounding order a formula leaves
open is the library's choice, and results the spec gives no formula for are free values (log 20); with INIT, so are the
initial values of a program other than the softmax ones (R265). -/
def wsRowOut (s : State) (p : Part) (r : Nat) (a : List (F32 × Bool)) : RowOut :=
  let prog := p.letter.prog % 4096
  let pb := p.pb
  let init := bit pb 32
  let b := rowB s p r
  let av := a.map (·.1)
  let bv := b.map (·.1)
  let pa := a.any (·.2)
  let pB := b.any (·.2)
  let ra0 := p.rowArr 0
  let ra1 := p.rowArr 1
  let size0 := WsProg.raBytes (wsProgOf s p.letter) 0
  let size1 := WsProg.raBytes (wsProgOf s p.letter) 1
  let initial (w : Nat) : F32 × Bool := (Config.programValue prog [] (2 ^ 25 + w), false)
  let in0 (w : Nat) : F32 × Bool := if init then initial w else raWord s ra0 size0 r w
  let in1 (w : Nat) : F32 × Bool := if init then initial (2 + w) else raWord s ra1 size1 r w
  let noStats := init || ra0.isNone
  let free (j : Nat) : F32 := Config.programValue prog [av, bv, [(in0 0).1, (in0 1).1], [(in1 0).1, (in1 1).1]] j
  let whole (poison : Bool) (d : List F32) : List (F32 × Bool) := d.map fun x => (x, poison)
  if prog == 0x001 then
    let (m, l) := if noStats then (negInf, 0) else ((in0 0).1, (in0 1).1)
    let po := pa || (!noStats && ((in0 0).2 || (in0 1).2))
    let (d, m', l', al) := softmaxBlock s pb r av m l
    { RowOut.plain (whole po d) with ra0 := [m', l'], ra1 := [al], raPoison := po }
  else if prog == 0x002 then
    let l := if noStats then (0 : F32) else (in0 1).1
    let po := pa || (!noStats && ((in0 0).2 || (in0 1).2))
    if l == 0 then { RowOut.plain (whole po (av.map fun _ => 0)) with emptyRow := true }
    else
      let f (x : F32) : F32 := if Config.programChoice prog % 2 == 0 then f32rnd ((f32val x).div (f32val l)) else f32mul x (s.table 1 l)
      RowOut.plain (whole po (av.map f))
  else if prog == 0x003 then
    let al := if ra1.isNone then free (2 ^ 24) else (in1 0).1
    let po := !ra1.isNone && (in1 0).2
    RowOut.plain ((zip2 (fun x y => f32fma al y x) a b).map fun x => (x.1, x.2 || po))
  else if prog == 0x004 then
    let po := pa || pB || (in0 0).2 || (in0 1).2 || (in1 0).2
    let d := (List.range av.length).map fun j => f32mul (free j) (f32sub (bv.getD j 0) (in1 0).1)
    RowOut.plain (whole po d)
  else if prog == 0x010 || prog == 0x012 then
    let n0 := size0 / 4
    { RowOut.plain (whole (pa || pB) ((List.range av.length).map free)) with ra0 := (List.range n0).map fun w => free (2 ^ 24 + w), raPoison := pa || pB }
  else if prog == 0x011 then
    RowOut.plain (whole (pa || pB || (in0 0).2) ((List.range av.length).map free))
  else if prog == 0x020 then RowOut.plain (zip2 (fun x y => f32mul (s.table 3 x) y) a b)
  else if prog == 0x021 then
    let n := av.length
    RowOut.plain ((List.range (2 * n)).map fun j =>
      let i := j % max 1 n
      (free j, (a.getD i (0, false)).2 || (b.getD i (0, false)).2 || (b.getD (n + i) (0, false)).2))
  else if prog == 0x030 then
    let al := BitVec.ofNat 32 (bits p.letter.param1 0 32)
    let be := BitVec.ofNat 32 (bits p.letter.param1 32 32)
    let f (x y : F32) : F32 :=
      if Config.programChoice prog % 3 == 0 then f32add (f32mul al x) (f32mul be y)
      else if Config.programChoice prog % 3 == 1 then f32fma al x (f32mul be y)
      else f32fma be y (f32mul al x)
    RowOut.plain (zip2 f a b)
  else if prog == 0x040 then
    let n := bits pb 256 10 + 1
    let (is, nf) := toppRow n av
    { RowOut.plain (List.replicate n ((0 : F32), pa)) with ints := is, toppNf := nf }
  else
    let n := (p.d.elim (wsCols p) fun d => if d.present then d.desc.localAt p.letter.dN else wsCols p)
    let stats := (in0 0).2 || (8 ≤ size0 && (in0 1).2) || (in1 0).2 || (8 ≤ size1 && (in1 1).2)
    let el (j : Nat) : Bool :=
      if rowClassOf s prog then pa || pB || stats
      else (a.getD j (0, false)).2 || (b.getD j (0, false)).2 || stats
    { RowOut.plain ((List.range n).map fun j => (free j, el j)) with
      ra0 := if ra0.isSome then (List.range (size0 / 4)).map fun w => free (2 ^ 24 + w) else [],
      ra1 := if ra1.isSome then (List.range (size1 / 4)).map fun w => free (2 ^ 24 + 2 + w) else [],
      raPoison := pa || pB || stats }

/-! ### Tiles -/

/-- Write a row array entry, with its poison (R266, R285). -/
def State.raWrite (s : State) (l : Option Loc) (size r : Nat) (ws : List F32) (poison : Bool) : State :=
  match l with
  | none => s
  | some q =>
    if ws.isEmpty then s else
    let a := q.addr + size * r
    let s1 := (ws.zip (List.range ws.length)).foldl (fun st (w, i) => st.wr q.space (a + 4 * i) 4 w.toNat) s
    if poison then s1.poison q.space a (4 * ws.length) else s1

/-- Route 0x05: a row written straight to D (R50, R289). -/
def State.directRow (s : State) (p : Part) (r : Nat) (out : RowOut) : State :=
  match p.d with
  | none => s
  | some d =>
    (out.d.zip (List.range out.d.length)).foldl (fun st ((v, pois), c) =>
      let t := d.desc
      let a := ((t.base : Int) + t.offset (idxAt t.rank [(p.letter.dM, r), (p.letter.dN, c)]) * 4).toNat
      let (fv, st) := if pois then st.free else (0, st)
      let x : Nat :=
        if pois then fv % 2 ^ 32
        else match out.ints[c]? with
          | some i => unsigned 32 i
          | none => if t.format == 0x10 then unsigned 32 (toInt32 (f32val v)).1 else v.toNat
      let nf := out.ints.isEmpty && !pois && !(f32val v).isFinite
      let st := (st.wr t.space a 4 x).count Ctr.wsDirectNf (if nf then 1 else 0)
      if pois then st.poison t.space a 4 else st) s

/-- Tiles of a slot in the Landing's input buffer. -/
def Op.tilesWaiting (o : Op) : Nat :=
  ((o.wsRows.map fun w => (w.part, w.row / max 1 (match o.parts[w.part]? with | none => 1 | some p => p.tileRows))).eraseDups).length

/-- Benches of a letter slot (R262). -/
def State.slotBenches (s : State) (slot : Nat) : Nat := 192 - (if slot == 0 then s.ws.reserved0 else s.ws.reserved1)

/-- HALL cycles a program spends on a row, without the tile's setup (R268). -/
def rowCycles (s : State) (p : Part) : Nat := (wsProgOf s p.letter).elim 1 (·.cost) * cdiv (wsCols p) 64

/-- The elements the Porch delivers for a Workshop tile (R248, R258). -/
def wsDelivered (s : State) (p : Part) (r0 n : Nat) : List Elem :=
  let one := p.b.elim true fun b => b.localAt p.letter.bN == 1
  ((List.range n).map fun j => elemsA s p (r0 + j) ++ (if one && j != 0 then [] else elemsB s p (r0 + j))).flatten

/-- Blocks the Stair turned for a Workshop tile (R258). -/
def wsTurned (p : Part) (n : Nat) : Nat :=
  p.a.elim 0 (fun d => turnedBlocks (p.mode d false) (wsCols p) n)
    + p.b.elim 0 (fun d => turnedBlocks (p.mode d true) (d.localAt p.letter.bK) (min n (d.localAt p.letter.bN)))

/-- The rows of a tile computed, row j on bench j mod B (R268): row arrays written, the benches' stores, and the rows that go
to the Landing (route 0x05 writes D itself). Each row's inputs are read before its outputs are written (R266). -/
def State.wsRowsOut (s : State) (o : Op) (slot i : Nat) (p : Part) (r0 n ecc : Nat) : State × List WsRow :=
  let prog := wsProgOf s p.letter
  let benches := max 1 (s.slotBenches slot)
  (List.range n).foldl (fun (x : State × List WsRow) j =>
    let r := r0 + j
    let v := (x.1.viewOf o false o.wsNext).viewOf o true o.wsNext
    let a := rowA v p r
    let a := if ecc == 2 && j == 0 then (a.zip (List.range a.length)).map fun (y, c) => (y.1, y.2 || c < 8) else a
    let out := wsRowOut v p r a
    let s := { x.1 with ws := { x.1.ws with store := aset [] x.1.ws.store (192 * slot + j % benches) (a.take 65536) } }
    let s := (s.raWrite (p.rowArr 0) (WsProg.raBytes prog 0) r out.ra0 out.raPoison).raWrite (p.rowArr 1) (WsProg.raBytes prog 1) r out.ra1 out.raPoison
    let s := (s.count Ctr.wsEmptyRows (if out.emptyRow then 1 else 0)).count Ctr.wsToppNf out.toppNf
    if p.letter.route == 5 then (s.directRow p r out, x.2) else (s, x.2 ++ [⟨i, r, out.d⟩])) (s, [])

/-! ### Bench faults (R286, R287) -/

def wsFaultKey (sub : Nat) : Nat := okey 0x04068 sub

/-- Is a bench that faulted still being reset: within 10 µs, 250 Pilot ticks (R286)? -/
def State.benchResetting (s : State) (bench : Nat) : Bool := s.ws.benchReset.any fun x => x.1 == bench && s.tick < x.2 + 250

def State.wsFaultRecord (s : State) (cause bench prog queue seq : Nat) : State :=
  let s := ((((s.setOd (wsFaultKey 1) cause).setOd (wsFaultKey 2) bench).setOd (wsFaultKey 3) prog).setOd (wsFaultKey 4) queue).setOd (wsFaultKey 5) seq
  ({ s with ws := { s.ws with benchReset := aset (2 ^ 64) s.ws.benchReset bench s.tick, store := aset [] s.ws.store bench [] } }.count
    Ctr.wsFaults 1).raise Bell.wsFault

/-- A bench faults in the row it works on: cause 1 WATCHDOG, when the row has taken more cycles than WS_ROW_BUDGET, or 2 TRAP.
The highest-numbered benches of a die do its outlier work (R262); which program that is has no number in the spec, so its
WS_FAULT_PROG is a free value. A bench under reset does not fault. -/
def State.benchFault (s : State) (cause bench cycles : Nat) : State :=
  let die := bench / 192
  if 384 ≤ bench || s.benchResetting bench then s else
  let tooLong (o : Op) : Bool := cause != 1 || capIn o.captain K.rowBudget < cycles
  if s.slotBenches die ≤ bench % 192 then
    match s.lb.ops.find? fun o => o.station == die && o.hasLists && o.started && o.error == 0 && o.outDone < o.tiles && tooLong o with
    | none => s
    | some o =>
      let (pn, s) := s.free
      let seq := match o.parts with | p :: _ => p.seq | [] => 0
      (s.wsFaultRecord cause bench (pn % 65536) 0xFFFFFFFF seq).setOp { o with outFaults := sadd o.outFaults o.outDone }
  else
    match s.opAt (2 + die) with
    | none => s
    | some o =>
      match wsTileAt o.parts 0 o.wsNext with
      | none => s
      | some (i, _, _) =>
        match o.parts[i]? with
        | none => s
        | some p =>
          if !o.started || !tooLong o then s
          else (s.wsFaultRecord cause bench (p.letter.prog % 4096) p.queue p.seq).stopOp o Err.wsFault

/-- WORKSHOP_TILE_DONE: the benches finish the next tile of a slot once its operands are delivered. `ecc` says what the store of
the tile's first bench met in the first sector of A's row: 1 corrected, 2 uncorrectable (R285). A row that takes more cycles
than WS_ROW_BUDGET ends in a watchdog fault of its bench (R286). -/
def State.wsTileDone (s : State) (slot ecc : Nat) : State :=
  match s.opAt (2 + slot) with
  | none => s
  | some o =>
    match wsTileAt o.parts 0 o.wsNext with
    | none => s
    | some (i, r0, n) =>
      match o.parts[i]? with
      | none => s
      | some p =>
        if !o.started || 2 ≤ o.tilesWaiting || s.visitAwaited o o.wsNext then s else
        let es := wsDelivered ((s.viewOf o false o.wsNext).viewOf o true o.wsNext) p r0 n
        if es.any (·.badWidth) then s.stopOp o Err.formatWidth
        else if capIn o.captain K.rowBudget < rowCycles s p then s.benchFault 1 (192 * slot) (rowCycles s p)
        else
          let (s1, rows) := s.wsRowsOut o slot i p r0 n ecc
          let s2 := s1.count Ctr.wsBusy (n * rowCycles s p + 16 * s.slotBenches slot)
          let s2 := (s2.countDelivery (deliveryOf es)).count Ctr.stairTurned (wsTurned p n)
          let s3 := if ecc == 1 then s2.count Ctr.wsStoreCe 1 else if ecc == 2 then s2.sramUe Ctr.wsStoreUe else s2
          let s4 := s3.setOp { o with wsNext := o.wsNext + 1, wsRows := o.wsRows ++ rows, buf := o.buf.filter fun e => o.wsNext < e.tile }
          if o.wsNext + 1 == o.wsTiles then s4.releaseReads o.station else s4

/-! ### Outlier products (R277 to R279) -/

/-- Outlier products of one tile: one for each side-list entry that touches an element (R277, R289). -/
def outlierCount (s : State) (o : Op) (r : RoomRun) (t : Nat) : Nat :=
  let sa := s.viewOf o false t
  let sb := s.viewOf o true t
  (o.tileElems r t).foldl (fun n x =>
    match findPart o.parts x.1 with
    | none => n
    | some (p, m) => n + (outlierTerms sa sb p m x.2).length) 0

/-- OUTLIER_PRODUCTS_DONE for the next tile of a room's letter; `wait` is what the Landing waited. -/
def State.outlierDone (s : State) (back : Bool) (wait : Nat) : State :=
  match s.lb.ops.find? fun o => o.station == (if back then 1 else 0) && o.hasLists && o.started && o.error == 0
      && !o.replayWaiting && o.outDone < o.tiles with
  | none => s
  | some o =>
    match o.room with
    | none => s
    | some r => ((s.count Ctr.wsOutProducts (outlierCount s o r o.outDone)).count Ctr.wsOutWait wait).setOp { o with outDone := o.outDone + 1 }

/-- A new reservation takes effect when neither slot runs a letter (R279). -/
def State.applyReservation (s : State) : State :=
  if s.lb.ops.any fun o => o.target == .workshop && o.roomBusy && o.error == 0 then s
  else { s with ws := { s.ws with reserved0 := s.cap K.outlierBenches, reserved1 := s.cap K.outlierBenches } }

/-! ### The function library (R284) -/

/-- What R273 gives a standard program: routes 0x04 and 0x05, cost, N_max, Row class, bytes per row of RA0 and RA1. -/
def stdProg (n : Nat) : Option (Bool × Bool × Nat × Nat × Bool × Nat × Nat) :=
  if n == 0x001 then some (true, false, 5, 8192, true, 8, 4)
  else if n == 0x002 then some (true, true, 1, 32768, true, 8, 4)
  else if n == 0x003 then some (false, true, 1, 32768, false, 4, 4)
  else if n == 0x004 then some (true, false, 7, 8192, true, 8, 4)
  else if n == 0x010 then some (true, false, 3, 32768, true, 4, 4)
  else if n == 0x011 then some (true, true, 6, 32768, true, 4, 4)
  else if n == 0x012 then some (true, false, 4, 32768, true, 8, 4)
  else if n == 0x020 then some (true, false, 4, 32768, false, 4, 4)
  else if n == 0x021 then some (true, true, 7, 16384, false, 4, 4)
  else if n == 0x030 then some (true, true, 2, 32768, false, 4, 4)
  else if n == 0x040 then some (false, true, 4, 1048576, true, 4, 4) else none

/-- A program of an image's directory. The directory gives the queue kinds and the window capability of every program, and all
the rest of a library-specific one; a standard program is as R273 says, and a number R273 leaves unassigned is none. -/
def dirProg (w : Nat) : Option WsProg :=
  let n := bits w 0 12
  let of (r4 r5 : Bool) (c m : Nat) (row : Bool) (a b : Nat) : WsProg := ⟨n, r4, r5, bit w 14, bit w 15, bit w 16, c, m, row, a, b⟩
  if n < 0x800 then (stdProg n).map fun (r4, r5, c, m, row, a, b) => of r4 r5 c m row a b
  else some (of (bit w 12) (bit w 13) (bits w 17 16) (bits w 33 32) (bit w 65) (if bit w 66 then 8 else 4) (if bit w 67 then 8 else 4))

/-- The headers of the standard tables in slots 0 to 4 (R270, R271): mode, 2^LOG2_SEG segments, degree, tails, bounds. -/
def stdTable (i : Nat) : Option Nat :=
  let hdr (mode deg lo hi : Nat) (a b : Nat) : Nat := mode + 8 * 4 + deg * 64 + lo * 256 + hi * 1024 + a * 2 ^ 32 + b * 2 ^ 64
  match i with
  | 0 => some (hdr 1 3 0 0 0 0)
  | 1 => some (hdr 2 2 0 0 0 0)
  | 2 => some (hdr 3 2 0 0 0 0)
  | 3 => some (hdr 0 3 1 2 0xC1800000 0x41800000)
  | 4 => some (hdr 0 3 1 0 0xC1800000 0x41800000)
  | _ => none

/-- Table slot i of an image (R259, R270): at most 4,112 bytes; the standard ones have the headers R271 gives. -/
def imageTable (img : List Byte) (i : Nat) : List Byte :=
  let b := (Config.imageBytes i img).take 4112
  match stdTable i with
  | none => b
  | some h => leBytes 16 h ++ b.drop 16

/-- The library image a load installs: its directory, its tables and the program memory of every bench (the layout of an image
is not stated, log 21). -/
def State.installLib (s : State) (img : List Byte) : State :=
  let f (n : Nat) : Nat := Config.imageField n img
  let progs := (List.range (f 2 % 4096)).filterMap fun i => dirProg (f (0x100 + i))
  let s := ((s.setOd K.libVersion (f 1 % 65536)).setOd K.libPrograms progs.length).setOd K.libState 1
  { s with ws := { s.ws with progs := progs, tables := (List.range 16).map (imageTable img), loading := none,
                             code := (Config.imageBytes 16 img).take 16384 } }

/-- Is Workshop work, or outlier work, still running (R284)? -/
def State.wsRunning (s : State) : Bool :=
  s.lb.ops.any fun o => o.error == 0 && ((o.target == .workshop && o.roomBusy) || (o.hasLists && o.started && o.outDone < o.tiles))

/-- LIB_INSTALL_DONE. -/
def State.libInstallDone (s : State) : State :=
  match s.ws.loading with
  | none => s
  | some img => if s.wsRunning then s else s.installLib img

end Sys2Proof.Machine
end

