-- ==== Sys2Proof/Machine/Glazia.lean ====
section
/-! DEFINITION. Glazia (11): the rule store and its checks, OPEN with the gear moves, PIECE, the cores' instructions,
COMMIT, grains, CLOSE and QUANT (R344 to R378; R24, R25, R297, R301 to R304, R442). -/

namespace Sys2Proof.Machine

namespace Err
def gzState : Nat := 0x58
def gzBank : Nat := 0x59
def gzGroup : Nat := 0x5A
def gzPiece : Nat := 0x5B
def gzOverlap : Nat := 0x5C
def gzIncomplete : Nat := 0x5D
def gzQuant : Nat := 0x5E
end Err

/-! ### Rules (R345 to R348) -/

structure GzWord where
  op : Nat
  d : Nat
  a : Nat
  b : Nat
  c : Nat
  aS : Bool
  bS : Bool
  cS : Bool
  deriving DecidableEq, Repr

def parseGz (w : Nat) : GzWord := ⟨bits w 0 8, bits w 8 5, bits w 13 5, bits w 18 5, bits w 23 5, bit w 28, bit w 29, bit w 30⟩

/-- Operands of an opcode: 1, 2 or 3 registers; 0 for the words without registers. -/
def gzArity (op : Nat) : Nat :=
  if op == 1 || op == 2 || op == 3 || op == 6 || op == 7 || op == 9 then 2
  else if op == 4 || op == 5 || op == 0x0B then 3
  else if op == 8 || op == 0x0A || op == 0x12 || op == 0x13 || op == 0x20 then 1 else 0

def gzKnown (op : Nat) : Bool := (1 ≤ op && op ≤ 0x0B) || (0x10 ≤ op && op ≤ 0x13) || op == 0x1E || op == 0x1F || op == 0x20

/-- A scalar instruction has all its operands scalar (R346). -/
def GzWord.isScalar (w : GzWord) : Bool :=
  w.op != 0x10 && w.op != 0x11 && w.op != 0x12 &&
    w.aS && (gzArity w.op < 2 || w.bS) && (gzArity w.op < 3 || w.cS)

/-- A directory entry (R348): first word, length, BODY word. -/
structure GzRule where
  first : Nat
  len : Nat
  body : Nat
  deriving DecidableEq, Repr

def gzRule (word : Nat → Nat) (r : Nat) : GzRule :=
  ⟨bits (word (2 * r)) 0 16, bits (word (2 * r)) 16 16, bits (word (2 * r + 1)) 0 16⟩

/-- Is a rule of an image faulty (R348)? -/
def gzRuleBad (word : Nat → Nat) (r : GzRule) : Bool :=
  if r.len == 0 then false
  else if r.first < 32 || 16384 < r.first + r.len then true
  else
    let ws := (List.range r.len).map fun i => (r.first + i, parseGz (word (r.first + i)))
    let bodies := (ws.filter fun p => p.2.op == 0x1E).map (·.1)
    let commits := (ws.filter fun p => p.2.op == 0x1F).map (·.1)
    let pro := ws.filter fun p => p.1 < r.body
    let bod := ws.filter fun p => r.body < p.1 && p.2.op != 0x1F
    ws.any (fun p => !gzKnown p.2.op) || bodies != [r.body] || commits != [r.first + r.len - 1]
    || pro.any (fun p => !p.2.isScalar || p.2.op == 0x10 || p.2.op == 0x11 || p.2.op == 0x12)
    || bod.any (fun p => p.2.op == 0x20 || (p.2.op == 0x12 && p.2.aS) || (p.2.op == 0x10 && 4 < p.2.a)
        || (p.2.op == 0x11 && (p.2.a == 0 || 4 < p.2.a || p.2.bS)))
    || 64 < pro.length || 256 < bod.length

def imageWord (img : List Byte) (i : Nat) : Nat := ofBytes ((img.drop (4 * i)).take 4)

/-- Is a staged image refused (R348)? -/
def gzImageBad (img : List Byte) : Bool := (List.range 16).any fun r => gzRuleBad (imageWord img) (gzRule (imageWord img) r)

/-- Install a staged image. -/
def State.gzInstall (s : State) (img : List Byte) : State :=
  let words := (List.range 16384).foldl (fun m i => aset 0 m i (imageWord img i)) []
  let present := (List.range 16).foldl (fun v r => if (gzRule (imageWord img) r).len != 0 then v + 2 ^ r else v) 0
  ({ s with gz := { s.gz with image := words } }).setOd K.gzPresent present

def State.gzWord (s : State) (i : Nat) : Nat := aget 0 s.gz.image i

/-! ### Groups (R349, R350) -/

structure GzSlot where
  offset : Nat
  format : Nat
  degree : Nat
  deriving DecidableEq, Repr

structure GzGroup where
  tensorId : Nat
  entry : Nat
  rule : Nat
  slots : List GzSlot
  globalBase : Nat
  elems : Nat
  cntLog2 : Nat
  /-- own buffer first, then ties by TENSOR_ID: gradient and count addresses (R351) -/
  bufs : List (Nat × Nat)
  paramAddr : Nat
  amaxAddr : Nat
  maskOff : Nat
  deriving DecidableEq, Repr

def insTie (x : Nat × Nat × Nat) : List (Nat × Nat × Nat) → List (Nat × Nat × Nat)
  | [] => [x]
  | y :: t => if x.1 < y.1 then x :: y :: t else y :: insTie x t

def parseGroup (v : Nat) : GzGroup :=
  let ties := (List.range (bits v 36 2)).foldl (fun acc j =>
    insTie (bits v (128 * j + 864) 20, bits v (128 * j + 768) 48, bits v (128 * j + 816) 48) acc) []
  { tensorId := bits v 0 20, entry := bits v 20 10, rule := bits v 30 4,
    slots := (List.range (bits v 34 2 + 1)).map fun k => ⟨bits v (64 * k + 512) 40, bits v (64 * k + 552) 6, bits v (64 * k + 558) 2⟩,
    globalBase := bits v 64 48, elems := bits v 128 40, cntLog2 := bits v 168 5,
    bufs := (bits v 192 48, bits v 256 48) :: ties.map (·.2), paramAddr := bits v 320 48, amaxAddr := bits v 384 48,
    maskOff := bits v 448 48 }

def GzSlot.bytes (x : GzSlot) : Nat := if x.format == 2 then 2 else 4
def GzGroup.grains (g : GzGroup) : Nat := cdiv g.elems 65536

/-- Is a group refused at OPEN (R350), bank size and rule presence apart? -/
def GzGroup.bad (g : GzGroup) (bankBytes present : Nat) : Bool :=
  g.slots.any (fun x => (x.format != 1 && x.format != 2) || x.degree == 3 || bankBytes < x.offset + g.elems * x.bytes)
  || (g.slots.headD ⟨0, 0, 0⟩).degree != 0 || g.elems == 0 || g.cntLog2 < 10 || 30 < g.cntLog2 || !bit present g.rule

def State.gzGroupAt (s : State) (n : Nat) : GzGroup := parseGroup (s.gz.groups.getD n 0)
def gzKey (g grain : Nat) : Nat := g * 2 ^ 20 + grain

/-- A bit of an OCTETS object: bit n in byte ⌊n/8⌋ (R352). -/
def octetBit (v n : Nat) : Bool := bit v n

def State.gzFrozen (s : State) (n : Nat) : Bool := octetBit (capIn s.gz.latched K.gzFrozen) n
def State.gzGear (s : State) (g : GzGroup) : Int := signed 8 (capIn s.gz.latched (K.cass g.entry 3))
def State.gzCoveredAll (s : State) (n : Nat) : Bool :=
  (List.range (s.gzGroupAt n).grains).all fun i => s.gz.covered.contains (gzKey n i)

/-! ### Banks (R353) -/

def State.bankAddr (s : State) (b : Nat) : Nat := s.odv K.bankBase + b * s.odv K.bankBytes
def State.bankNextStep (s : State) (b : Nat) : Nat := s.rd .cellar (s.bankAddr b) 8
def State.bankStatus (s : State) (b : Nat) : Nat := s.rd .cellar (s.bankAddr b + 8) 1
def State.gzSrc (s : State) : Nat := s.bankAddr (s.odv K.gzStep % max 1 (s.odv K.bankCount))
def State.gzDst (s : State) : Nat := s.bankAddr ((s.odv K.gzStep + 1) % max 1 (s.odv K.bankCount))
def State.stepCounter (s : State) (n : Nat) : Nat := s.rd .cellar (s.gzSrc + 4096 + 16 * n) 8

/-! ### FP64 arithmetic of the trackers (R366, R368) -/

def f64add (a b : Nat) : Nat := fp64.rnd ((fp64.decode a).add (fp64.decode b))

/-- RNE64 of the square root of an exact quotient n/d. -/
def sqrt64 (v : Num) : Nat :=
  match v with
  | .fin neg n d =>
    if n == 0 then 0 else
    if neg then fp64.rnd (.nan false) else
    -- scale so that the integer root has more than 54 bits, and keep a sticky bit
    let e := Num.log2Floor n d
    let k : Int := 60 - e / 2
    let (q, r, _) := Num.scaleQ n d (-2 * k)
    let x := isqrt q
    let sticky := !(x * x == q && r == 0)
    fp64.rnd ((Num.fin false (2 * x + (if sticky then 1 else 0)) 1).mul (Num.pow2 (-k - 1)))
  | .inf neg => fp64.rnd (if neg then .nan false else .inf false)
  | .nan s => fp64.rnd (.nan s)

/-- The pairwise tree over 64 lanes in FP64. -/
def tree64 : Nat → List Nat → List Nat
  | 0, l => l
  | n + 1, l =>
    let rec pairs : List Nat → List Nat
      | a :: b :: t => f64add a b :: pairs t
      | r => r
    tree64 n (pairs l)

/-! ### Dispatch of Glazia letters -/

def noSlot (s : State) : SlotRead := ⟨false, false, false, false, parseDesc s.captain 0 0, 0⟩

/-- Checks 1 to 3 and 13 for a Glazia letter without slots (R183, R205, R354, R485). -/
def gzChecks (s : State) (c : QCtx) (l : Letter) : List (Bool × Nat) :=
  checks123 c l ++ [(l.slotA.present || l.slotB.present || l.slotD.present || l.slotS.present, Err.slot), (!s.enabled 12, Err.stationOff)]

/-- The ready head letter of a queue that Glazia takes now, when its operation is the one named. -/
def State.gzHead (s : State) (q : Nat) (want : Nat → Bool) : Option (QCtx × Letter) :=
  match s.headOf q with
  | none => none
  | some (c, l) =>
    if l.route == 0x18 && want (l.prog % 4096) && s.chosen q .glazia && (s.freeSlot .glazia).isSome then some (c, l) else none

/-- A Glazia letter that does its work in one go: dispatched, counted, and its record in line (R189). -/
def State.gzComplete (s : State) (c : QCtx) (l : Letter) (late : Bool) (tick : Nat) : State :=
  (s.finish (immediate c c.head 0 l late tick)).settle

/-- A letter leaves its queue and Glazia's clock starts (R218, R486). -/
def State.gzTake (s : State) (c : QCtx) : State × Bool :=
  let late := s.isLate (s.deadlineOf c)
  let s1 := (s.advanceHead c).demand [12]
  (((if late then s1.noteLate c.q else s1).count Ctr.lbDispatched 1), late)

/-! ### OPEN (R355, R356, R368, R369) -/

def gearOf (m : List (Nat × Nat)) (e : Nat) : Int := signed 8 (capIn m (K.cass e 3))

/-- W and Δ of an entry for the ratios of an OPEN (R368): none without partials. -/
def State.ratioParts (s : State) (l : Letter) (e : Nat) : Option (Nat × Nat) :=
  let a := bits l.param0 0 48
  if bits l.param0 0 50 == 0 then
    match s.gz.closed with
    | none => none
    | some m => if s.gz.lostEntries.contains e then none else some (aget (0, 0) m e)
  else
    let sp := spaceOf (bits l.param0 48 2)
    let at_ (i : Nat) : Nat × Nat := (s.rd sp (a + 16384 * i + 16 * e) 8, s.rd sp (a + 16384 * i + 16 * e + 8) 8)
    some ((List.range (bits l.param1 0 17 - 1)).foldl (fun acc i => (f64add acc.1 (at_ (i + 1)).1, f64add acc.2 (at_ (i + 1)).2)) (at_ 0))

/-- The ratio of an entry, exact FP64 value, when it has one. -/
def State.ratio (s : State) (l : Letter) (e : Nat) : Option Num :=
  match s.ratioParts l e with
  | none => none
  | some (w, d) =>
    let wv := fp64.decode w
    if Num.lt Num.zero wv then some (fp64.decode (sqrt64 ((fp64.decode d).div wv))) else none

/-- One entry of the gear loop (R369, R442). -/
def State.gearStep (s : State) (e : Nat) (r : Num) : State :=
  let lo := f32val (BitVec.ofNat 32 (s.cap (K.cass e 0x0E)))
  let hi := f32val (BitVec.ofNat 32 (s.cap (K.cass e 0x0F)))
  if Num.le lo r && Num.le r hi then s
  else
    let s := (s.setOd K.gzExcursions (s.odv K.gzExcursions ||| 2 ^ e)).count Ctr.gzUwExcursions 1
    if bit (s.cap (K.cass e 1)) 6 then s
    else
      let up : Int := if Num.lt r lo then 1 else -1
      let mn := signed 8 (s.cap K.gzGearMin)
      let mx := signed 8 (s.cap K.gzGearMax)
      let g := gearOf s.captain e + up
      if g < mn || mx < g then s.count Ctr.gzGearAtLimit 1
      else
        let s := (s.setCap (K.cass e 3) (unsigned 8 g)).count Ctr.gzGearMoves 1
        let h := gearOf s.stoker e + up
        if bit (s.stk (K.cass e 1)) 6 || h < mn || mx < h then s else s.setStk (K.cass e 3) (unsigned 8 h)

/-- The gears of an OPEN and the ratio objects (R368, R369). -/
def State.moveGears (s : State) (l : Letter) : State :=
  let rs := (List.range 1024).map fun e => s.ratio l e
  let s1 := s.setOd K.gzExcursions 0
  let s2 := (rs.zip (List.range 1024)).foldl (fun st (r, e) => match r with | none => st | some v => st.gearStep e v) s1
  let tab := (rs.map fun r => leBytes 4 (match r with | none => nanF | some v => f32rnd v).toNat).flatten
  let s3 := s2.setDomain K.gzRatio tab
  if s3.odv K.gzExcursions != 0 then s3.raise Bell.uwExcursion else s3

def State.gzTable (s : State) : List Nat :=
  (List.range (s.cap K.gzGroupCount)).map fun n => s.rd .attic (s.cap K.gzGroupBase + 256 * n) 256

/-- GZ_GROUP at OPEN (R350). -/
def State.gzTableBad (s : State) : Bool :=
  let gs := s.gzTable
  (gs.zip (List.range gs.length)).any (fun (v, n) =>
    let g := parseGroup v
    g.bad (s.odv K.bankBytes) (s.odv K.gzPresent) || s.poisonedAt .attic (s.cap K.gzGroupBase + 256 * n) 256
      || s.poisonedAt .attic g.paramAddr 64)
  || 1048576 < (gs.map fun v => (parseGroup v).grains).foldl (· + ·) 0

/-- The bank condition of R355. -/
def State.gzBankBad (s : State) (step : Nat) : Bool :=
  let b := step % max 1 (s.odv K.bankCount)
  s.odv K.bankCurrent != b || s.bankNextStep b != step || s.bankStatus b != 1

def gzIdleCore : GzCore := ⟨none, 0, 0, [], [], 0, 0⟩

/-- The first half of an accepted OPEN: gears and latching (R356, R369). -/
def State.gzLatch (s : State) (l : Letter) : State :=
  let s := s.moveGears l
  let gs := s.gzTable
  let ps := gs.map fun v => s.rd .attic (parseGroup v).paramAddr 64
  { s with gz := { s.gz with
    latched := s.captain, groups := gs, params := ps, covered := [], todo := [], busy := [],
    cores := List.replicate 8 gzIdleCore, regs := [], partials := [], amax := [], badGrad := false, poisonSeen := false,
    lostEntries := [], badGroups := [] } }

/-! ### Registers and streams of a core (R345, R346, R362, R364) -/

def State.gzCore (s : State) (c : Nat) : GzCore := s.gz.cores.getD c gzIdleCore
def State.setGzCore (s : State) (c : Nat) (x : GzCore) : State := { s with gz := { s.gz with cores := s.gz.cores.set c x } }

/-- Registers as a rule starts (R345). -/
def State.gzStart (s : State) (core n : Nat) : GzRegs :=
  let p := s.gz.params.getD n 0
  let base := (List.range 16).foldl (fun m i => aset 0 m i (bits p (32 * i) 32)) []
  let m := aset 0 base 16 (f32rnd (Num.ofNat (s.stepCounter n + 1))).toNat
  ⟨core, n, aset 0 m 17 (f32rnd (Num.pow2 (s.gzGear (s.gzGroupAt n)))).toNat, []⟩

def State.gzRegs (s : State) (core n : Nat) : GzRegs :=
  (s.gz.regs.find? fun r => r.core == core && r.group == n).getD (s.gzStart core n)

def State.setGzRegs (s : State) (r : GzRegs) : State :=
  { s with gz := { s.gz with regs := s.gz.regs.filter (fun x => !(x.core == r.core && x.group == r.group)) ++ [r] } }

def GzRegs.s (r : GzRegs) (i : Nat) : F32 := BitVec.ofNat 32 (aget 0 r.scalars i)
def GzRegs.v (r : GzRegs) (i lane : Nat) : F32 × Bool :=
  let x := aget 0 r.lanes (64 * i + lane)
  (BitVec.ofNat 32 (x / 2), bit x 0)

def GzRegs.operand (r : GzRegs) (i lane : Nat) (scalar : Bool) : F32 × Bool := if scalar then (r.s i, false) else r.v i lane

/-- Elements of a core's current vector: owned element numbers. -/
def gzElems (g : GzGroup) (grain vec : Nat) : List Nat :=
  (List.range 64).map (grain * 65536 + vec * 64 + ·) |>.filter (· < g.elems)

def gzVectors (g : GzGroup) (grain : Nat) : Nat := cdiv (min 65536 (g.elems - grain * 65536)) 64

/-- One buffer's value and count for an element, with poison marks (R362). -/
def State.gzBuf (s : State) (g : GzGroup) (b : Nat × Nat) (e : Nat) : Num × Bool × Nat × Bool :=
  let a := b.1 + 2 * e
  let ca := b.2 + 2 * (e / 2 ^ g.cntLog2)
  (bf16.decode (s.rd .attic a 2), s.poisonedAt .attic a 2, s.rd .attic ca 2, s.poisonedAt .attic ca 2)

/-- ĝ of an element (R362): the product with Γ is an FP32 value, exact unless it leaves the normal range. -/
def State.gzGrad (s : State) (g : GzGroup) (e : Nat) : F32 :=
  let gam := Num.pow2 (s.gzGear g - signed 8 (capIn s.gz.latched K.gradExp))
  let term (b : Nat × Nat) : F32 :=
    let (x, _, n, _) := s.gzBuf g b e
    f32rnd ((f32val (f32rnd (x.mul gam))).div (Num.ofNat n))
  match g.bufs.map term with
  | [] => 0
  | t :: ts => ts.foldl f32add t

/-- Why an element is kept before the body runs (R363): 0 not kept, 1 mask, 2 void, 3 bad gradient. A bad value or a poisoned
count makes a bad gradient even where another count is 0. -/
def State.gzKept (s : State) (n : Nat) (g : GzGroup) (e : Nat) : Nat :=
  let masked := octetBit (capIn s.gz.latched K.gzMasked) n
  let bitv := bit (s.rd .attic (capIn s.gz.latched K.gzMaskBase + g.maskOff + e / 8) 1) (e % 8)
  let bs := g.bufs.map fun b => s.gzBuf g b e
  if masked && !bitv then 1
  else if bs.any (fun x => x.2.2.2 || x.2.1 || !x.1.isFinite) then 3
  else if bs.any (fun x => x.2.2.1 == 0) then 2
  else if !(f32val (s.gzGrad g e)).isFinite then 3
  else 0

/-- A state slot's stored bits of an element in a bank, with poison. -/
def State.gzStored (s : State) (bank : Nat) (x : GzSlot) (e : Nat) : Nat × Bool :=
  let a := bank + x.offset + e * x.bytes
  (s.rd .cellar a x.bytes, s.poisonedAt .cellar a x.bytes)

def gzWiden (x : GzSlot) (v : Nat) : Num := if x.format == 2 then bf16.decode v else fp32.decode v

/-- What a body run reads of an element: every stream once (R360, R363). -/
def State.gzRead (s : State) (n : Nat) (g : GzGroup) (e : Nat) : GzIn :=
  { elem := e, kept := s.gzKept n g e, grad := s.gzGrad g e, slots := g.slots.map fun x => s.gzStored s.gzSrc x e }

/-- Is a core's place behind its rule's BODY word? -/
def State.gzInBody (s : State) (c : GzCore) (g : GzGroup) : Bool := (gzRule s.gzWord g.rule).body < c.pc

/-- A core with the inputs of its vector read: the first word of a body run reads them, and they stay until COMMIT (R346). -/
def State.gzLoaded (s : State) (core n : Nat) (g : GzGroup) (gr : Nat) : GzCore :=
  let c := s.gzCore core
  if c.inputs.isEmpty && s.gzInBody c g then { c with inputs := (gzElems g gr c.vec).map (s.gzRead n g) } else c

/-- What LD delivers of stream n for an element (R364). -/
def State.gzStream (s : State) (g : GzGroup) (n : Nat) (x : GzIn) : F32 × Bool :=
  if n == 0 then (x.grad, false)
  else
    match (g.slots.zip x.slots)[n - 1]? with
    | none => (0, false)
    | some (y, v, p) => (f32rnd ((gzWiden y v).mul (Num.pow2 ((y.degree : Int) * s.gzGear g))), p)

/-- An uncorrectable error of stream data as it is loaded poisons the values of one 32-byte sector, eight lanes (R377): in the
gradient stream the elements are kept as bad gradients, unless their mask keeps them (R363). -/
def gzLose (n sec : Nat) (xs : List GzIn) : List GzIn :=
  (xs.zip (List.range xs.length)).map fun (x, i) =>
    if i / 8 != sec % 8 then x
    else if n == 0 then { x with kept := if x.kept == 1 then 1 else 3 }
    else { x with slots := (x.slots.zip (List.range x.slots.length)).map fun (v, k) => if k + 1 == n then (v.1, true) else v }

/-! ### Instructions (R344, R346) -/

/-- A value an instruction hands on: a NaN takes the pattern the module writes, with its sign (R41). -/
def quietF (a : F32) : F32 := if (f32val a).isNaN then f32rnd (f32val a) else a

/-- a^n by left-to-right binary powering (R346). -/
def spowiGo (a : F32) (n : Nat) : Nat → F32 → F32
  | 0, acc => acc
  | k + 1, acc =>
    let sq := f32mul acc acc
    spowiGo a n k (if bit n k then f32mul sq a else sq)

def spowi (a n : F32) : F32 :=
  match f32val n with
  | .fin neg m d =>
    let k := min (m / d) (2 ^ 31 - 1)
    if neg || k == 0 then 0x3F800000 else spowiGo a k k.log2 (quietF a)
  | _ => nanF

def f32div (a b : F32) : F32 :=
  let x := f32val a
  let y := f32val b
  if y.isZero && x.isFinite && !x.isZero then f32rnd (.inf (x.isNeg != y.isNeg))
  else if y.isZero && x.isZero then nanF else f32rnd (x.div y)

/-- The operation of an arithmetic opcode on FP32 values; w is the element's random word (R346). -/
def gzAlu (op w : Nat) (a b c : F32) : F32 :=
  match op with
  | 0x01 => f32add a b
  | 0x02 => f32sub a b
  | 0x03 => f32mul a b
  | 0x04 => f32fma a b c
  | 0x05 => f32fma c (f32sub b a) a
  | 0x06 => f32minIeee a b
  | 0x07 => f32maxIeee a b
  | 0x08 => if (f32val a).isNaN then quietF a else BitVec.ofNat 32 (a.toNat % 2 ^ 31)
  | 0x09 => f32div a b
  | 0x0A => sqrtF32 (f32val a)
  | 0x0B => quietF (if Num.lt (f32val c) Num.zero then a else b)
  | 0x12 => f32rnd (bf16.decode (bf16.convert false (.stochastic w) (f32val a)).1)
  | 0x13 => f32rnd (bf16.decode (bf16.convert false .nearest (f32val a)).1)
  | _ => 0

/-- The word a core runs next, when it treats a grain of an unfrozen group. -/
def State.gzNext (s : State) (core : Nat) : Option (Nat × GzGroup × Nat × GzWord) :=
  let c := s.gzCore core
  match c.grain with
  | none => none
  | some (n, gr) =>
    let g := s.gzGroupAt n
    if core < 8 && !s.gzFrozen n && c.vec < gzVectors g gr then some (n, g, gr, parseGz (s.gzWord c.pc)) else none

/-- One scalar or vector instruction of R346 on a core. -/
def State.gzExec (s : State) (core : Nat) (op : Nat) : State :=
  match s.gzNext core with
  | none => s
  | some (n, g, gr, w) =>
    if w.op != op then s else
    let c := s.gzLoaded core n g gr
    let r := s.gzRegs core n
    let xs := c.inputs.take 64
    let adv (st : State) : State := st.setGzCore core { c with pc := c.pc + 1 }
    if op == 0x10 then
      let lanes := (xs.zip (List.range xs.length)).foldl (fun m (x, i) =>
        let (v, p) := s.gzStream g w.a x
        aset 0 m (64 * w.d + i) (2 * v.toNat + (if p then 1 else 0))) r.lanes
      adv (s.setGzRegs { r with lanes := lanes })
    else if op == 0x11 then
      let vals := (List.range xs.length).map fun i => let x := r.operand w.b i w.bS; (x.1.toNat, x.2)
      s.setGzCore core { c with pc := c.pc + 1, staged := c.staged.filter (fun x => x.1 != w.a) ++ [(w.a, vals)] }
    else if op == 0x20 then
      adv (s.setGzRegs { r with scalars := aset 0 r.scalars w.d (spowi (r.s w.a) (r.s 16)).toNat })
    else if w.isScalar then
      adv (s.setGzRegs { r with scalars := aset 0 r.scalars w.d (gzAlu op 0 (r.s w.a) (r.s w.b) (r.s w.c)).toNat })
    else
      let lanes := (xs.zip (List.range xs.length)).foldl (fun m (x, i) =>
        let a := r.operand w.a i w.aS
        let b := if gzArity op < 2 then ((0 : F32), false) else r.operand w.b i w.bS
        let cc := if gzArity op < 3 then ((0 : F32), false) else r.operand w.c i w.cS
        let word := srWord (capIn s.gz.latched K.srSeed) 3 0 g.tensorId (s.odv K.gzStep) (g.globalBase + x.elem)
        aset 0 m (64 * w.d + i) (2 * (gzAlu op word a.1 b.1 cc.1).toNat + (if a.2 || b.2 || cc.2 then 1 else 0))) r.lanes
      adv (s.setGzRegs { r with lanes := lanes })

/-- LD (R346, R377): `ecc` is what the load met in the stream data: 1 a corrected error, 2 an uncorrectable one in sector `sec`
of the vector. -/
def State.gzLd (s : State) (core ecc sec : Nat) : State :=
  match s.gzNext core with
  | none => s
  | some (n, g, gr, w) =>
    if w.op != 0x10 then s
    else if ecc == 1 then (s.gzExec core 0x10).count Ctr.gzMemCe 1
    else if ecc == 2 then
      let c := s.gzLoaded core n g gr
      ((s.setGzCore core { c with inputs := gzLose w.a sec c.inputs }).gzExec core 0x10).sramUe Ctr.gzMemUe
    else s.gzExec core 0x10

/-- BODY ends the prologue (R345). -/
def State.gzBody (s : State) (core : Nat) : State :=
  match s.gzNext core with
  | none => s
  | some (n, _, _, w) =>
    if w.op != 0x1E then s else
    let c := s.gzCore core
    (s.setGzRegs (s.gzRegs core n)).setGzCore core { c with pc := c.pc + 1 }

/-! ### COMMIT (R363 to R367) -/

/-- A staged value as stored in a slot: bits, and whether the multiply left FP32's normal range downward. -/
def gzStore (x : GzSlot) (gear : Int) (v : F32) : Nat × Bool :=
  let e := -((x.degree : Int) * gear)
  let m := f32rnd ((f32val v).mul (Num.pow2 e))
  let small := match f32val m with | .fin _ n d => n * 2 ^ 126 < d | _ => false
  (if x.format == 2 then bf16.rnd (f32val m) else m.toNat, decide (e ≠ 0) && small && !(f32val v).isZero)

/-- What COMMIT does with one element. -/
structure GzLane where
  kept : Nat
  writes : List (GzSlot × Nat × Bool)
  ufl : Nat
  old : F32
  new : F32
  poison : Bool
  deriving DecidableEq, Repr

def State.gzLane (s : State) (g : GzGroup) (c : GzCore) (inp : GzIn) (i : Nat) : GzLane :=
  let gear := s.gzGear g
  let src := ((g.slots.zip inp.slots).zip (List.range g.slots.length)).map fun ((x, v), k) => (x, k, v)
  let staged (k : Nat) : Option (Nat × Bool) := match c.staged.find? fun y => y.1 == k + 1 with | none => none | some y => y.2[i]?
  let new := src.map fun (x, k, v) =>
    match staged k with
    | none => (x, v.1, v.2, false, true)
    | some (b, p) =>
      let (st, u) := gzStore x gear (BitVec.ofNat 32 b)
      (x, st, p, u, (f32val (BitVec.ofNat 32 b)).isFinite && (gzWiden x st).isFinite)
  let nf := new.any fun y => !y.2.2.2.2
  let keep := if inp.kept != 0 then inp.kept else if nf then 4 else 0
  let ws := if keep != 0 then src.map fun (x, _, v) => (x, v.1, v.2) else new.map fun y => (y.1, y.2.1, y.2.2.1)
  let w0 (l : List (GzSlot × Nat × Bool)) : F32 × Bool := match l with | [] => (0, false) | y :: _ => (f32rnd (gzWiden y.1 y.2.1), y.2.2)
  let old := match src with | [] => (0 : F32) | (x, _, v) :: _ => f32rnd (gzWiden x v.1)
  { kept := keep, writes := ws, ufl := if keep != 0 then 0 else (new.filter fun y => y.2.2.2.1).length, old := old,
    new := (w0 ws).1, poison := (w0 ws).2 }

/-- Write a run of elements from element e on into slot k of the target bank at once, so that whole sectors lose old marks
(R360, R561), then the poison marks of what is written (R365). -/
def State.gzWrite (s : State) (e : Nat) (x : GzSlot) (vals : List (Nat × Bool)) : State :=
  let a := s.gzDst + x.offset + e * x.bytes
  let s1 := s.wrBytes .cellar a ((vals.map fun v => leBytes x.bytes v.1).flatten)
  (vals.zip (List.range vals.length)).foldl (fun st (v, i) =>
    if v.2 then (st.poison .cellar (a + i * x.bytes) x.bytes).count Ctr.gzPoisonState 1 else st) s1

/-- The same for every slot in use: for each element, its slots' bits and poison. -/
def State.gzWriteAll (s : State) (g : GzGroup) (e : Nat) (rows : List (List (Nat × Bool))) : State :=
  (g.slots.zip (List.range g.slots.length)).foldl (fun st (x, k) => st.gzWrite e x (rows.map fun r => r.getD k (0, false))) s

/-- Running amax of a group over what is written to its master slot (R367). -/
def State.gzAmax (s : State) (n : Nat) (w : F32) (poison : Bool) : State :=
  let m := w.toNat % 2 ^ 31
  if poison || 0x7F800000 < m then s
  else { s with gz := { s.gz with amax := aset 0 s.gz.amax n (max (aget 0 s.gz.amax n) m) } }

/-- COMMIT of a core's vector (R365, R366). -/
def State.gzCommit (s : State) (core : Nat) : State :=
  match s.gzNext core with
  | none => s
  | some (n, g, gr, w) =>
    if w.op != 0x1F then s else
    let c := s.gzLoaded core n g gr
    let es := gzElems g gr c.vec
    let ls := (c.inputs.zip (List.range c.inputs.length)).map fun (x, i) => (x.elem, s.gzLane g c x i)
    let s0 := s.gzWriteAll g (gr * 65536 + c.vec * 64) (ls.map fun y => y.2.writes.map (·.2))
    let s1 := ls.foldl (fun st y => st.gzAmax n y.2.new y.2.poison) s0
    let nOf (k : Nat) : Nat := (ls.filter fun y => y.2.kept == k).length
    let s2 := ((((((s1.count Ctr.gzElements es.length).count Ctr.gzKeptMask (nOf 1)).count Ctr.gzKeptVoid (nOf 2)).count Ctr.gzKeptBadGrad (nOf 3)).count
      Ctr.gzKeptNf (nOf 4)).count Ctr.gzStoreUfl ((ls.map fun y => y.2.ufl).foldl (· + ·) 0))
    let bad := nOf 3 != 0
    let pois := ls.any fun y => y.2.writes.any fun z => z.2.2
    let s3 := if bad && !s.gz.badGrad then s2.raise Bell.glaziaBadGrad else s2
    let s4 := if pois && !s.gz.poisonSeen then s3.raise Bell.glaziaPoison else s3
    let sq (v : Num) : Nat := fp64.rnd (v.mul v)
    let upd (f : GzLane → Nat) : List Nat := (ls.map fun y => if y.2.kept == 0 then f y.2 else 0) ++ List.replicate (64 - ls.length) 0
    let wSum := (tree64 6 (upd fun x => sq (f32val x.old))).headD 0
    let dSum := (tree64 6 (upd fun x => sq (fp64.decode (fp64.rnd ((f32val x.new).sub (f32val x.old)))))).headD 0
    let rule := gzRule s.gzWord g.rule
    let c' := { c with vec := c.vec + 1, pc := rule.body + 1, inputs := [], staged := [], sumW := if c.vec == 0 then wSum else f64add c.sumW wSum,
                       sumD := if c.vec == 0 then dSum else f64add c.sumD dSum }
    let s5 := s4.setGzCore core c'
    { s5 with gz := { s5.gz with badGrad := s5.gz.badGrad || bad, poisonSeen := s5.gz.poisonSeen || pois } }

/-! ### Grains (R357, R359, R366, R367, R374) -/

/-- A core takes a grain: a group new to the core starts with the prologue. -/
def State.gzDeal (s : State) (core key : Nat) : State :=
  let n := key / 2 ^ 20
  let rule := gzRule s.gzWord (s.gzGroupAt n).rule
  let seen := s.gz.regs.any fun r => r.core == core && r.group == n
  s.setGzCore core { gzIdleCore with grain := some (n, key % 2 ^ 20), pc := if seen then rule.body + 1 else rule.first }

/-- Deal waiting grains to free cores, lowest core first. -/
def State.gzDealAll (s : State) : Nat → State
  | 0 => s
  | f + 1 =>
    match s.gz.todo, (List.range 8).find? fun c => (s.gzCore c).grain.isNone with
    | k :: t, some c => State.gzDealAll ((({ s with gz := { s.gz with todo := t } }).gzDeal c k)) f
    | _, _ => s

/-- Copy a frozen grain unchanged (R301, R359). -/
def State.gzCopyGrain (s : State) (n grain : Nat) : State :=
  let g := s.gzGroupAt n
  let es := (List.range (min 65536 (g.elems - grain * 65536))).map (grain * 65536 + ·)
  let rows := es.map fun e => g.slots.map fun x => s.gzStored s.gzSrc x e
  let s1 := s.gzWriteAll g (grain * 65536) rows
  rows.foldl (fun st r =>
    match g.slots, r with
    | x :: _, v :: _ => st.gzAmax n (f32rnd (gzWiden x v.1)) v.2
    | _, _ => st) s1

/-- Coverage of a grain; a group whose coverage is complete has its amax written (R367). -/
def State.gzCover (s : State) (n grain : Nat) (p : Nat × Nat) : State :=
  let s := { s with gz := { s.gz with covered := sadd s.gz.covered (gzKey n grain), partials := aset (0, 0) s.gz.partials (gzKey n grain) p } }
  if s.gzCoveredAll n then s.wr .attic (s.gzGroupAt n).amaxAddr 4 (aget 0 s.gz.amax n) else s

/-- The op of a running PIECE. -/
def State.gzOp (s : State) : Option Op := s.lb.ops.find? fun o => o.target == .glazia && o.error == 0

/-- A memory error Glazia meets with a grain (R377): 1 corrected, 2 uncorrectable in its partial, 3 in its group record. -/
def State.gzMemError (s : State) (mem n : Nat) : State :=
  match mem with
  | 1 => s.count Ctr.gzMemCe 1
  | 2 => ({ s with gz := { s.gz with lostEntries := sadd s.gz.lostEntries (s.gzGroupAt n).entry } }).sramUe Ctr.gzMemUe
  | 3 => ({ s with gz := { s.gz with badGroups := sadd s.gz.badGroups n } }).sramUe Ctr.gzMemUe
  | _ => s

/-- GRAIN_DONE: the core's grain is committed; the PIECE completes with its last grain (R374). -/
def State.grainDone (s : State) (core cycles mem : Nat) : State :=
  let c := s.gzCore core
  match c.grain with
  | none => s
  | some (n, gr) =>
    if 8 ≤ core then s else
    let frozen := s.gzFrozen n
    if !frozen && c.vec < gzVectors (s.gzGroupAt n) gr then s
    else
      let s := if frozen then s.gzCopyGrain n gr else s
      let s := s.gzMemError mem n
      let s := (s.gzCover n gr (if frozen then (0, 0) else (c.sumW, c.sumD))).count Ctr.gzBusy cycles
      let s := { s with gz := { s.gz with busy := sdel s.gz.busy (gzKey n gr) } }
      let s := (s.setGzCore core gzIdleCore).gzDealAll 8
      if !s.gz.busy.isEmpty then s
      else
        match s.gzOp with
        | none => s
        | some o =>
          match o.parts with
          | [] => s
          | p :: _ => (((s.dropOp o).finish { finOf o p with part := none, hasCounts := false })).settle

/-- PIECE (R357, R359): the error, or the grains. -/
def State.gzPieceErr (s : State) (l : Letter) : Option Nat :=
  let n := bits l.param0 0 12
  let f := bits l.param0 32 32
  let k := bits l.param1 0 32
  firstErr [(s.odv K.gzState == 0, Err.gzState),
    (s.gz.groups.length ≤ n || l.step != s.odv K.gzStep || k == 0 || (s.gzGroupAt n).grains < f + k, Err.gzPiece),
    ((List.range k).any fun i => s.gz.covered.contains (gzKey n (f + i)), Err.gzOverlap)]

/-! ### CLOSE (R361) -/

/-- Per entry sums of the update's partials (R366): grains in order within each group, groups in order. -/
def State.gzEntrySums (s : State) : List (Nat × (Nat × Nat)) :=
  ((s.gz.groups.zip (List.range s.gz.groups.length)).foldl (fun (st : List (Nat × (Nat × Nat)) × List Nat) (v, n) =>
    let g := parseGroup v
    (List.range g.grains).foldl (fun (st : List (Nat × (Nat × Nat)) × List Nat) i =>
      let p := aget (0, 0) s.gz.partials (gzKey n i)
      if s.gzFrozen n then st
      else if st.2.contains g.entry then
        let o := aget (0, 0) st.1 g.entry
        (aset (0, 0) st.1 g.entry (f64add o.1 p.1, f64add o.2 p.2), st.2)
      else (aset (0, 0) st.1 g.entry p, st.2 ++ [g.entry])) st) ([], [])).1

/-- Has no grain of a group been covered in this update? -/
def State.gzUntouched (s : State) (n : Nat) : Bool :=
  (List.range (s.gzGroupAt n).grains).all fun i => !s.gz.covered.contains (gzKey n i)

/-- CLOSE's first step: the frozen grains that no PIECE has covered are copied; a frozen group is counted once in an update
(R301, R359). -/
def State.gzCopyFrozen (s : State) (n : Nat) : State :=
  if !s.gzFrozen n then s else
  let left := (List.range (s.gzGroupAt n).grains).filter fun i => !s.gz.covered.contains (gzKey n i)
  let s1 := if s.gzUntouched n then s.count Ctr.glaziaFrozen 1 else s
  left.foldl (fun a i => (a.gzCopyGrain n i).gzCover n i (0, 0)) s1

/-- The effect of an accepted CLOSE up to its completion record, after which the bank advances (R25, R361). -/
def State.gzClose (s : State) (q seq : Nat) (l : Letter) : State :=
  let ns := List.range s.gz.groups.length
  let s := ns.foldl State.gzCopyFrozen s
  let s := ns.foldl (fun st n =>
    let t := st.stepCounter n
    st.wr .cellar (st.gzDst + 4096 + 16 * n) 16 (if st.gzFrozen n then t else (t + 1) % 2 ^ 64)) s
  let sums := s.gzEntrySums
  let s := if bits l.param0 0 50 == 0 then s else
    s.wrBytes (spaceOf (bits l.param0 48 2)) (bits l.param0 0 48) (((List.range 1024).map fun e =>
      let p := aget (0, 0) sums e
      leBytes 8 p.1 ++ leBytes 8 p.2).flatten)
  let step := s.odv K.gzStep
  let b := (step + 1) % max 1 (s.odv K.bankCount)
  let hd := step + 1 + 2 ^ 64 + s.odv K.bankCount * 2 ^ 72 + s.gz.groups.length * 2 ^ 80
  let s := s.wr .cellar (s.bankAddr b) 12 hd
  let s := (s.setOd K.gzState 0).count Ctr.gzUpdates 1
  let s := { s with gz := { s.gz with closed := some sums, cores := List.replicate 8 gzIdleCore, regs := [], closing := some ((q, seq), b) } }
  let last := ns.foldl (fun m n => if s.gzFrozen n then m else aset 0 m n (step + 1)) s.ex.lastChange
  { s with ex := { s.ex with lastChange := last } }

def State.gzIncomplete (s : State) : Bool :=
  (List.range s.gz.groups.length).any fun n => !s.gzFrozen n && !s.gzCoveredAll n

/-! ### QUANT (R371, R372) -/

/-- The group table QUANT judges by, and the bank it reads. -/
def State.quantGroup (s : State) (n : Nat) : Option (GzGroup × Nat) :=
  if s.odv K.gzState == 1 then
    if n < s.gz.groups.length then some (s.gzGroupAt n, s.gzDst) else none
  else if n < s.cap K.gzGroupCount then
    some (parseGroup (s.rd .attic (s.cap K.gzGroupBase + 256 * n) 256), s.bankAddr (s.odv K.bankCurrent))
  else none

/-- R372, the fields of D and A that QUANT refuses. -/
def quantBad (s : State) (n : Nat) (a d : TDesc) : Bool :=
  !is8bit d.format || d.mx || d.sideList || d.ts.isNone || a.format != 1 || a.rank != 1
    || (match s.quantGroup n with
        | none => true
        | some (x, _) => d.localCount != x.elems || !((List.range d.localCount).all fun i => d.globalIndex (d.unlinear i) == x.globalBase + i))

/-- A tensor scale that ends QUANT: A's, which it reads, by its value; D's, which it writes, by its address (R38, R194). -/
def quantScaleBad (s : State) (a d : TDesc) : Bool :=
  locMisaligned a.ts || locPoisoned s a.ts || !scaleOk (opScale s (some a)) || locMisaligned d.ts

/-- Validation of a QUANT letter, in the order of R205 (R372). -/
def State.quantErr (s : State) (c : QCtx) (l : Letter) (a d : SlotRead) : Option Nat :=
  let n := bits l.param0 0 12
  let x := noSlot s
  firstErr (checks123 c l ++
    [(l.slotB.present || l.slotS.present || !l.slotA.present || !l.slotD.present, Err.slot)] ++ checks4to8 s c l a x d x ++
    [(globalBad a x d x, Err.globalSize)] ++ checks11to12 s l a x d x ++
    [(!s.enabled 12, Err.stationOff), (quantBad s n a.desc d.desc, Err.gzQuant),
     (s.odv K.gzState == 1 && !s.gzCoveredAll n, Err.gzState), (quantScaleBad s a.desc d.desc, Err.badScale)])

/-- One element of D before storing: value divided by 2^E, poison. -/
def State.quantVal (s : State) (g : GzGroup) (bank : Nat) (e : Int) (i : Nat) : Num × Bool :=
  match g.slots with
  | [] => (Num.zero, false)
  | x :: _ =>
    let (v, p) := s.gzStored bank x i
    ((gzWiden x v).mul (Num.pow2 (-e)), p)

/-- a of R371 over the finite and unpoisoned elements of A, with its tensor scale: exact, 0 where there is none. -/
def quantAmax (s : State) (a : TDesc) : Num × Nat :=
  let ts := f32val (opScale s (some a))
  let es := (List.range a.localCount).map fun i => readPlain s a (a.unlinear i)
  let good := (es.filter fun e => !e.poison && e.val.isFinite).map fun e => e.scaled.mul ts
  (match good with | [] => Num.zero | v :: t => t.foldl (fun m x => if Num.lt m x then x else m) v, es.length - good.length)

/-- E of R371: the smallest with a ≤ q · 2^E, within −126 to 127; 0 where a is 0. -/
def quantE (f : Nat) (a : Num) : Int := if a.isZero then 0 else if a.isNeg then -126 else eNeedOf f 0 a

/-- What QUANT writes: bytes, poisoned bytes, NaN masters. -/
structure QuantOut where
  cells : List (Space × Host.Cell)
  marks : List (Space × Nat)
  nf : Nat
  deriving DecidableEq, Repr

/-- Element i of a D without blocks. -/
def quantOne (s : State) (g : GzGroup) (bank : Nat) (e : Int) (d : TDesc) (i : Nat) : QuantOut :=
  let (v, p) := s.quantVal g bank e i
  let code := if p then Config.freeNat (s.freeCtr + i) % 256 else (convertElem d.format true .nearest v).1
  let a : Int := (d.base : Int) + d.offset (d.unlinear i)
  { cells := byteCells d.space a 1 code, marks := if p then byteMarks d.space a 1 else [], nf := if v.isNaN && !p then 1 else 0 }

/-- One block of D: its elements with their offsets. -/
def quantBlk (s : State) (g : GzGroup) (bank : Nat) (e : Int) (d : TDesc) (b : Int) (els : List (Nat × Int)) : QuantOut :=
  let n := blkOf d.blkCode
  let f := d.format
  let qs := els.map fun x =>
    let (v, p) := s.quantVal g bank e x.1
    (⟨v, p, false, false, Config.freeNat (s.freeCtr + x.1)⟩ : QVal)
  let blk := quantBlock f d.mx true false 0 0 qs
  let pad := Config.freeNat (s.freeCtr + g.elems + (els.headD (0, 0)).1)
  let codeAt (j : Nat) : Nat :=
    match (els.zip blk.codes).find? fun x => (x.1.2 - b * (n : Int)).toNat == j with
    | some x => x.2
    | none => pad / 2 ^ (blk.width * j) % 2 ^ blk.width
  let at_ : Int := (d.base : Int) + b * ((n * fmtBits f / 8 : Nat) : Int)
  let arr (l : Option Loc) (v : Nat) : List (Space × Host.Cell) :=
    match l with | none => [] | some q => byteCells q.space ((q.addr : Int) + b) 1 v
  { cells := byteCells d.space at_ (n * blk.width / 8) (packCodes blk.width ((List.range n).map codeAt)) ++ arr d.bs blk.scale
      ++ (if isBlockCode f then arr d.wa blk.width else []),
    marks := ((els.zip qs).filter fun x => x.2.poison).map (fun x =>
      byteMarks d.space (at_ + (((x.1.2 - b * (n : Int)).toNat * blk.width / 8 : Nat) : Int)) 1) |>.flatten,
    nf := (qs.filter fun q => q.v.isNaN && !q.poison).length }

/-- QUANT (R371): the scale, then the elements, all at once, so that whole sectors lose old marks (R561). -/
def State.gzQuant (s : State) (l : Letter) (a d : TDesc) : State :=
  match s.quantGroup (bits l.param0 0 12) with
  | none => s
  | some (g, bank) =>
    let (am, skipped) := quantAmax s a
    let e := quantE d.format am
    let n := blkOf d.blkCode
    let outs :=
      if n == 0 then (List.range g.elems).map (quantOne s g bank e d)
      else (groupBy (fun (x : Nat × Int) => (0, x.2 / (n : Int))) ((List.range g.elems).map fun i => (i, d.offset (d.unlinear i)))).map
        fun b => quantBlk s g bank e d b.1.2 b.2
    let s1 := match d.ts with | none => s | some q => s.wr q.space q.addr 4 (scalePow e).toNat
    let s2 := s1.wrMarked (outs.map (·.cells)).flatten (outs.map (·.marks)).flatten
    ({ s2 with freeCtr := s2.freeCtr + 2 * g.elems }.count Ctr.gzQuantNf (outs.foldl (fun (m : Nat) (x : QuantOut) => m + x.nf) skipped)).count
      Ctr.gzQuantElements g.elems

end Sys2Proof.Machine
end

