-- ==== Sys2Proof/Machine/Peloton.lean ====
section
/-! DEFINITION. The Peloton (12): collective letters, ring rounds and tree levels, frames, inbox and credits, deadlines,
late inputs and the carry, VOID and repaired chunks, dead members, the end of a collective letter (R391 to R417, R422 to
R424, R589, R591). -/

namespace Sys2Proof.Machine

namespace Err
def plGroup : Nat := 0x60
def plShape : Nat := 0x61
def plExpelled : Nat := 0x62
def plLink : Nat := 0x63
def plInbox : Nat := 0x64
end Err

/-- Pilot ticks of a time in microseconds (R12). -/
def usTicks (us : Nat) : Nat := 25 * us

def State.portUp (s : State) (p : Nat) : Bool := s.odv (K.portState p) == 2

/-! ### Member table (R392) -/

def State.member (s : State) (table m : Nat) : Nat := s.rd .attic (table + 16 * m) 16
def memberDead (e : Nat) : Bool := bits e 72 2 == 1
def memberMisses (e : Nat) : Nat := bits e 80 8
def State.setMemberState (s : State) (table m : Nat) (dead : Bool) : State :=
  let v := s.rd .attic (table + 16 * m + 9) 1
  s.wr .attic (table + 16 * m + 9) 1 (v - v % 4 + (if dead then 1 else 0))
def State.setMisses (s : State) (table m n : Nat) : State := s.wr .attic (table + 16 * m + 10) 1 (min 255 n)
def State.groupTable (s : State) (g : Nat) : Nat := s.cap (K.plGroup g 3)

/-! ### Parts and chunks (R395, R398, R399, R591) -/

/-- The dimension of a descriptor that is split among the members: on an axis with PARTS = n and INDEX = me. -/
def ownedDim (t : TDesc) (n me : Nat) : Option Nat :=
  (List.range t.dims.length).find? fun i => let d := dimAt t i; (d.mode == 1 || d.mode == 2) && d.parts == n && d.index == me

/-- A descriptor as member o has it. -/
def partOf (t : TDesc) (n me o : Nat) : TDesc :=
  match ownedDim t n me with
  | none => t
  | some i => { t with dims := t.dims.set i { dimAt t i with index := o } }

/-- Global coordinates of the n-th local element. -/
def TDesc.coords (t : TDesc) (n : Nat) : List Nat := (t.dims.zip (t.unlinear n)).map fun (d, l) => d.toGlobal l

/-- Elements of owner (or source) o's part. -/
def PlRun.partCount (r : PlRun) (o : Nat) : Nat :=
  match r.op, r.a, r.d with
  | 1, _, some d => (partOf d r.members r.me o).localCount
  | 2, some a, _ => (partOf a r.members r.me o).localCount
  | 3, a, d => if r.me == r.root then a.elim 0 (·.localCount) else d.elim 0 (·.localCount)
  | 4, some a, _ => a.localCount / max 1 r.members
  | _, _, _ => 0

def PlRun.chunks (r : PlRun) (o : Nat) : Nat := cdiv (r.partCount o) (max 1 r.chunk)

/-- Positions in its part of the elements of chunk c of part o. -/
def PlRun.span (r : PlRun) (o c : Nat) : List Nat :=
  (List.range (min r.chunk (r.partCount o - c * r.chunk))).map (c * r.chunk + ·)

def PlRun.isLive (r : PlRun) (m : Nat) : Bool := r.live.contains m && !r.gone.contains m

/-- Subgroups of TREE (R399). -/
def PlRun.sub (r : PlRun) (m : Nat) : Nat := m / max 1 r.fan
def PlRun.subSize (r : PlRun) (g : Nat) : Nat := min r.fan (r.members - g * r.fan)
def PlRun.subs (r : PlRun) : Nat := cdiv r.members (max 1 r.fan)

/-- The member of subgroup g that relays for o: the one R399 names, or while it is DEAD the next LIVE member of its
subgroup in cyclic order (R416). -/
def PlRun.relay (r : PlRun) (o g : Nat) : Option Nat :=
  let n := r.subSize g
  let k := o % max 1 r.fan % max 1 n
  ((List.range n).map fun i => g * r.fan + (k + i) % max 1 n).find? r.isLive

/-- The number a frame's CHUNK field carries: under TREE, in contributions to a relay and in parts, chunks are numbered
through all owners in member order (DESIGN CHOICE, log 30). -/
def PlRun.chunkNumber (r : PlRun) (level o c : Nat) : Nat :=
  if r.tree && (level == 1 || (level == 3 && r.op == 2)) then (List.range o).foldl (fun n j => n + r.chunks j) c else c

def PlRun.chunkAt (r : PlRun) : List Nat → Nat → Nat × Nat
  | [], n => (r.members, n)
  | o :: t, n => if n < r.chunks o then (o, n) else r.chunkAt t (n - r.chunks o)

/-- Owner, chunk and level of a frame that has arrived. -/
def PlRun.locate (r : PlRun) (part : Bool) (pfmt src n : Nat) : Nat × Nat × Nat :=
  if part then
    if r.op == 3 then (r.root, n, 3)
    else if r.op == 2 && r.tree then let (o, c) := r.chunkAt (List.range r.members) n; (o, c, 3)
    else (src, n, 3)
  else if !r.tree then (r.me, n, 0)
  else if pfmt == 1 then (r.me, n, 2)
  else let (o, c) := r.chunkAt (List.range r.members) n; (o, c, 1)

/-- Who delivers source m's part to this module. -/
def PlRun.deliverer (r : PlRun) (m : Nat) : Nat :=
  if !r.tree || r.op == 4 || r.sub m == r.sub r.me then m
  else match r.relay m (r.sub r.me) with
    | some x => if x == r.me then m else x
    | none => m

def others (r : PlRun) : List Nat := (List.range (r.members - 1)).map fun i => (r.me + i + 1) % r.members

/-- What a letter waits for (R398, R399, R406). -/
def PlRun.plan (r : PlRun) (tick : Nat) : List PlUnit :=
  let unit (level : Nat) (src : List Nat) (o c : Nat) : PlUnit :=
    { owner := o, chunk := c, level := level, sources := src, start := if level == 3 then some tick else none, own := none, done := false }
  let each (o level : Nat) (src : List Nat) : List PlUnit := (List.range (r.chunks o)).map (unit level src o)
  match r.op with
  | 1 =>
    if !r.tree then each r.me 0 ((others r).reverse.filter r.isLive)
    else
      let mine := (List.range (r.subSize (r.sub r.me))).map (r.sub r.me * r.fan + ·)
      let l1 := ((List.range r.members).filter fun o => r.isLive o && r.relay o (r.sub r.me) == some r.me).map fun o =>
        each o 1 (mine.filter fun m => m != r.me && r.isLive m)
      let rel := (List.range r.subs).filterMap fun g => if g == r.sub r.me then none else r.relay r.me g
      l1.flatten ++ each r.me 2 rel
  | 3 => if r.me == r.root || !r.isLive r.root then [] else each r.root 3 [r.deliverer r.root]
  | _ => ((others r).reverse.filter r.isLive).map (fun m => each m 3 [r.deliverer m]) |>.flatten

/-! ### Finding and keeping runs -/

def State.plRun (s : State) (slot : Nat) : Option PlRun := s.pel.runs.find? fun r => r.slot == slot && !r.stopped
def State.setRun (s : State) (r : PlRun) : State :=
  { s with pel := { s.pel with runs := s.pel.runs.map fun x => if x.slot == r.slot then r else x } }

/-- Change the run at a slot, if there is one. -/
def State.modRun (s : State) (slot : Nat) (f : PlRun → PlRun) : State :=
  match s.plRun slot with
  | none => s
  | some r => s.setRun (f r)

def State.tally (s : State) (slot : Nat) (f : PlTally → PlTally) : State := s.modRun slot fun r => { r with tally := f r.tally }

def PlUnit.is (u : PlUnit) (o c level : Nat) : Bool := u.owner == o && u.chunk == c && u.level == level
def PlRun.unit? (r : PlRun) (o c level : Nat) : Option PlUnit := r.units.find? fun u => u.is o c level
def PlRun.setUnit (r : PlRun) (u : PlUnit) : PlRun :=
  { r with units := r.units.map fun x => if x.is u.owner u.chunk u.level then u else x }
def PlInput.is (i : PlInput) (o c level src : Nat) : Bool := i.owner == o && i.chunk == c && i.level == level && i.src == src
def PlRun.input? (r : PlRun) (o c level src : Nat) : Option PlInput := r.inputs.find? fun i => i.is o c level src

/-! ### Frames (R402) -/

def fhOp (h : Nat) : Nat := bits h 8 4
def fhLast (h : Nat) : Bool := bit h 12
def fhCount (h : Nat) : Nat := bits h 16 16
def fhGroup (h : Nat) : Nat := bits h 32 4
def fhPfmt (h : Nat) : Nat := bits h 36 2
def fhTag (h : Nat) : Nat := bits h 64 32
def fhChunk (h : Nat) : Nat := bits h 96 32
def fhSrc (h : Nat) : Nat := bits h 128 16
def fhFrame (h : Nat) : Nat := bits h 160 16
def fhStep (h : Nat) : Nat := bits h 192 64

def frameWord (proto op : Nat) (last : Bool) (count group pfmt tag chunk src dst frame len step : Nat) : Nat :=
  proto + op * 2 ^ 8 + (if last then 2 ^ 12 else 0) + count % 2 ^ 16 * 2 ^ 16 + group * 2 ^ 32 + pfmt * 2 ^ 36 + tag * 2 ^ 64
    + chunk % 2 ^ 32 * 2 ^ 96 + src * 2 ^ 128 + dst * 2 ^ 144 + frame * 2 ^ 160 + cdiv len 64 * 2 ^ 176 + step * 2 ^ 192

/-- A payload padded to whole units of 64 bytes. -/
def padTo64 (b : List Byte) : List Byte := b ++ List.replicate (cdiv b.length 64 * 64 - b.length) 0

def pieces (n : Nat) : Nat → List Byte → List (List Byte)
  | 0, _ => []
  | f + 1, b => if b.length ≤ n then [b] else b.take n :: pieces n f (b.drop n)

/-- The frames of a chunk: payloads of up to 32 KiB; a chunk without payload is one frame (R395, R410). -/
def PlRun.framesOf (r : PlRun) (op level o c dst count pfmt step : Nat) (b : List Byte) : List (Nat × List Byte) :=
  let ps := pieces 32768 (b.length / 32768 + 1) b
  (ps.zip (List.range ps.length)).map fun (p, i) =>
    (frameWord r.proto op (i + 1 == ps.length) count r.group pfmt r.tag (r.chunkNumber level o c) r.me dst i p.length step, padTo64 p)

/-- The port a chunk leaves by (R393, R398); the other named port when that one is down. -/
def State.plPort (s : State) (ports : List Nat) (c : Nat) : Option Nat :=
  let p := ports.getD (c % max 1 ports.length) 0
  if s.portUp p then some p else ports.find? s.portUp

/-- A frame leaves for a member; with no port up nothing leaves. -/
def State.plSend (s : State) (ports : List Nat) (c dst : Nat) (f : Nat × List Byte) : State :=
  match s.plPort ports c with
  | none => s
  | some p =>
    if s.insecure p then s
    else (s.send (.frame (fhOp f.1) dst p (leBytes 32 f.1 ++ f.2) [])).count (Ctr.plSent + p) f.2.length

/-- Ports for a frame outside a letter: the member's own, then the other. -/
def State.memberPorts (s : State) (g m : Nat) : List Nat :=
  if bit (s.member (s.groupTable g) m) 64 then (if s.portUp 1 then [1] else [0]) else (if s.portUp 0 then [0] else [1])

/-! ### Credits (R403, R404) -/

def creditKey (g m : Nat) : Nat := g * 65536 + m

/-- A CREDIT frame: one slot for the member. -/
def State.grantCredit (s : State) (r : PlRun) (m : Nat) : State :=
  let k := creditKey r.group m
  let s := { s with pel := { s.pel with granted := aset 0 s.pel.granted k (aget 0 s.pel.granted k + 1) } }
  s.plSend (s.memberPorts r.group m) 0 m (frameWord r.proto 4 true 1 r.group 2 r.tag 0 r.me m 0 0 r.step, [])

/-- Two slots for a source, less what it already holds. -/
def State.grantTwo (s : State) (r : PlRun) (m : Nat) : State :=
  let have_ := aget 0 s.pel.granted (creditKey r.group m)
  let s := if have_ < 1 then s.grantCredit r m else s
  let s := if have_ < 2 then s.grantCredit r m else s
  s.modRun r.slot fun r => { r with grants := aset 0 r.grants m (s.tick + 1) }

/-- Slots of the inbox, and those that running letters have not reserved (R403, R404). -/
def State.inboxSlots (s : State) : Nat := s.odv K.plInboxBytes / 32832
def State.inboxFree (s : State) : Nat := s.inboxSlots - (s.pel.runs.filter fun r => !r.stopped).foldl (fun n r => n + r.reserve) 0

/-- What a REDUCE_SCATTER reserves (R404). -/
def PlRun.reservation (r : PlRun) : Nat :=
  if r.op != 1 then 0 else if !r.tree then 4 else 2 * (r.subSize (r.sub r.me) - 1 + (r.subs - 1))

/-! ### Values of elements -/

/-- Where a code lies: byte, bit and width (R53, R193). -/
def codeSpot (s : State) (t : TDesc) (ls : List Nat) : Nat × Nat × Nat :=
  let o := t.offset ls
  let w := fmtBits t.format
  let n : Int := (blkOf t.blkCode : Nat)
  if n == 0 then
    let p := o * (w : Int)
    (((t.base : Int) + p / 8).toNat, (p % 8).toNat, w)
  else
    let b := o / n
    let we : Nat := match t.wa, isBlockCode t.format with
      | none, _ => w
      | some _, false => w
      | some l, true => let x : Nat := s.rd l.space ((l.addr : Int) + b).toNat 1 % 16; if x == 0 || w < x then w else x
    let p := b * n * (w : Int) + (o - b * n) * (we : Int)
    (((t.base : Int) + p / 8).toNat, (p % 8).toNat, we)

def readCode (s : State) (t : TDesc) (ls : List Nat) : Nat :=
  let (a, sh, w) := codeSpot s t ls
  s.rd t.space a (cdiv (sh + w) 8) / 2 ^ sh % 2 ^ w

def State.writeCode (s : State) (t : TDesc) (ls : List Nat) (code : Nat) : State :=
  let (a, sh, w) := codeSpot s t ls
  let n := cdiv (sh + w) 8
  let v := s.rd t.space a n
  s.wr t.space a n (v - v / 2 ^ sh % 2 ^ w * 2 ^ sh + code % 2 ^ w * 2 ^ sh)

/-- Does an element begin a block? Where do the block's scale and width codes lie? -/
def blockHead (t : TDesc) (ls : List Nat) : List (Space × Nat) :=
  let n : Int := (blkOf t.blkCode : Nat)
  let o := t.offset ls
  if n == 0 || o % n != 0 then [] else
    (match t.bs with | none => [] | some l => [(l.space, ((l.addr : Int) + o / n).toNat)])
      ++ (if isBlockCode t.format then (match t.wa with | none => [] | some l => [(l.space, ((l.addr : Int) + o / n).toNat)]) else [])

/-- The bytes of a part chunk: the codes at the format's width, packed, and the scale and width codes of every block that
begins in it (DESIGN CHOICE, log 31). -/
def partBytes (s : State) (t : TDesc) (lss : List (List Nat)) : List Byte :=
  let w := fmtBits t.format
  let v := ((lss.zip (List.range lss.length)).foldl (fun acc (ls, i) => acc + readCode s t ls * 2 ^ (w * i)) 0)
  leBytes (cdiv (w * lss.length) 8) v ++ ((lss.map fun ls => (blockHead t ls).map fun (sp, a) => BitVec.ofNat 8 (s.rd sp a 1)).flatten)

def partPoisoned (s : State) (t : TDesc) (lss : List (List Nat)) : Bool :=
  lss.any fun ls => (readPlain s t ls).poison || (blockHead t ls).any fun (sp, a) => s.poisonedAt sp a 1

/-- What the Porch delivers for these elements (R248, R249), and whether a width is bad (R59). -/
def partDelivery (s : State) (t : TDesc) (lss : List (List Nat)) : Delivery × Bool :=
  let es := lss.map (readPlain s t)
  (deliveryOf es, es.any (·.badWidth))

/-- A part chunk written into D: widths and scales first, then the codes. -/
def State.writePart (s : State) (t : TDesc) (lss : List (List Nat)) (b : List Byte) : State :=
  let w := fmtBits t.format
  let nb := cdiv (w * lss.length) 8
  let heads := (lss.map (blockHead t)).flatten
  let s := (heads.zip (b.drop nb)).foldl (fun st ((sp, a), x) => st.wrBytes sp a [x]) s
  if w % 8 == 0 then
    s.wrCells t.space ((lss.zip (List.range lss.length)).map (fun (ls, i) =>
      let a := (codeSpot s t ls).1
      (List.range (w / 8)).map fun j => (a + j, b.getD (w / 8 * i + j) 0))).flatten
  else
    let v := ofBytes (b.take nb)
    (lss.zip (List.range lss.length)).foldl (fun st (ls, i) => st.writeCode t ls (v / 2 ^ (w * i) % 2 ^ w)) s

/-- Where source m's elements lie here: in the source's A at the source, in D at a receiver. -/
def PlRun.partPlaces (r : PlRun) (src : Bool) (o c : Nat) : Option (TDesc × List (List Nat)) :=
  let ps := r.span o c
  match r.op, r.a, r.d with
  | 2, some a, some d => if src then some (a, ps.map a.unlinear) else some (d, ps.map (partOf a r.members r.me o).coords)
  | 3, a, d => if src then a.map fun t => (t, ps.map t.unlinear) else d.map fun t => (t, ps.map t.unlinear)
  | 4, some a, some d =>
    if src then some (a, ps.map fun i => a.unlinear (o * r.partCount o + i)) else some (d, ps.map fun i => d.unlinear (o * r.partCount o + i))
  | _, _, _ => none

/-! ### Own contributions (R309, R589) -/

/-- A chunk of the own contribution to owner o: FP32 bits, poison, global linear index. -/
def State.ownChunk (s : State) (r : PlRun) (o c : Nat) : List (Nat × Bool × Nat) :=
  match r.a, r.d with
  | some a, some d =>
    (r.span o c).map fun i =>
      let ls := (partOf d r.members r.me o).coords i
      let e := readPlain s a ls
      ((f32rnd e.val).toNat, e.poison, a.globalIndex ls)
  | _, _ => []

/-- Ring slots of the open quarantine entries of the letter's step and tensor that hold one of the elements (R309). -/
def State.openEntries (s : State) (r : PlRun) (idx : List Nat) : List Nat :=
  let size := capIn r.captain K.quarSize
  let n := (s.odv K.quarHead + 2 ^ 32 - s.odv K.quarTail) % 2 ^ 32
  if size == 0 then [] else
  ((List.range (min n size)).map fun i => (s.odv K.quarTail + i) % size).filter fun slot =>
    let v := s.rd .attic (capIn r.captain K.quarBase + 32 * slot) 32
    !bit v 22 && bits v 0 20 == r.a.elim 0 (·.tensorId) && bits v 32 32 == r.step
      && idx.any fun i => (aget [] s.pel.quarTiles slot).contains i

def badBits (b : Nat) : Bool := !(f32val (BitVec.ofNat 32 b)).isFinite

/-- The memory a running collective letter reads: what its stream buffer lost is poisoned (R257). -/
def State.plView (s : State) (r : PlRun) : State :=
  match s.lb.ops.find? fun o => o.target == .peloton && o.slot == r.slot && o.error == 0 with
  | none => s
  | some o => s.lostView o

/-- The delivery of an own chunk. -/
def ownDelivery (es : List (Nat × Bool × Nat)) : Delivery :=
  { nf := (es.filter fun e => !e.2.1 && badBits e.1).length, markers := 0, poison := (es.filter (·.2.1)).length }

/-- Read an own chunk and decide VOID: FP32 bits and count, and the state with the VOID counted and listed (R309, R410). -/
def State.readOwn (s : State) (r : PlRun) (o c : Nat) : (List Nat × Nat) × State :=
  let es := (s.plView r).ownChunk r o c
  let s := s.countDelivery (ownDelivery es)
  let entries := s.openEntries r (es.map (·.2.2))
  let void := !entries.isEmpty || es.any fun e => e.2.1 || badBits e.1
  if !void then ((es.map (·.1), 1), s)
  else
    let s := s.count Ctr.gradVoidChunks 1
    let keep := r.proto != 0x30 && capIn r.captain K.plLatePolicy == 1 && !entries.isEmpty
    let note : PlVoid := { run := { r with units := [], inputs := [], live := [], gone := [] }, owner := o, chunk := c, entries := entries }
    (([], 0), if keep then { s with pel := { s.pel with voided := s.pel.voided ++ [note] } } else s)

def bf16Bytes (v : Nat) : List Byte := leBytes 2 (v / 65536)

/-! ### Sending -/

/-- The frames of an own chunk as it is read (R410, R413). -/
def State.chunkFrames (s : State) (it : PlItem) (r : PlRun) : List (Nat × List Byte) × State :=
  let (v, s) := s.readOwn r it.owner it.chunk
  if v.2 == 0 then
    if r.proto == 0x30 then ([], s)
    else (r.framesOf 1 it.level it.owner it.chunk it.dst 0 0 r.step [], s.tally r.slot fun t => { t with voidSent := t.voidSent + 1 })
  else (r.framesOf 1 it.level it.owner it.chunk it.dst 1 0 r.step ((v.1.map bf16Bytes).flatten), s)

def PlItem.same (a b : PlItem) : Bool :=
  a.slot == b.slot && a.group == b.group && a.tag == b.tag && a.dst == b.dst && a.owner == b.owner && a.chunk == b.chunk && a.level == b.level

def State.setItem (s : State) (it : PlItem) (keep : Bool) : State :=
  let q := if keep then s.pel.outq.map fun x => if x.same it then it else x else s.pel.outq.filter fun x => !x.same it
  { s with pel := { s.pel with outq := q } }

/-- A chunk is read from A as it begins to be sent (R589); one with nothing to send leaves the queue. -/
def State.readItem (s : State) (it : PlItem) : State :=
  match s.plRun it.slot with
  | none => s.setItem it false
  | some r => let (fs, s) := s.chunkFrames it r; s.setItem { it with frames := some fs } !fs.isEmpty

/-- One thing an item at the front of the credits can do: be read, or send a frame. -/
def State.plSendItem (s : State) (it : PlItem) : State :=
  match it.frames with
  | none => s.readItem it
  | some [] => s.setItem it false
  | some (f :: t) =>
    let k := creditKey it.group it.dst
    let s := { s with pel := { s.pel with credits := aset 0 s.pel.credits k (aget 0 s.pel.credits k - 1) } }
    (s.plSend it.ports it.chunk it.dst f).setItem { it with frames := some t } !t.isEmpty

/-- Send what the credits allow (R403). -/
def State.plPumpGo (s : State) : Nat → State
  | 0 => s
  | n + 1 =>
    match s.pel.outq.find? fun it => 0 < aget 0 s.pel.credits (creditKey it.group it.dst) with
    | none => s
    | some it => State.plPumpGo (s.plSendItem it) n

def State.plPump (s : State) : State :=
  s.plPumpGo (2 * s.pel.outq.length + s.pel.credits.foldl (fun n p => n + p.2) 0 + 1)

def State.enqueue (s : State) (its : List PlItem) : State := { s with pel := { s.pel with outq := s.pel.outq ++ its } }

/-- Chunks not sent to a dead owner (R416). -/
def State.orphan (s : State) (slot n : Nat) : State :=
  (s.tally slot fun t => { t with orphans := t.orphans + n }).count Ctr.plOrphans n

/-! ### The end of a run's work -/

def PlRun.complete (r : PlRun) : Bool := r.round == r.rounds && r.units.all (·.done)

/-- A letter whose rounds have begun and whose inputs are settled has done its work, and its threads are released (R234): a member that grants no credit does
not hold it (R406, R414). Its chunks that still wait for a credit are read now and leave when it comes (R403; DESIGN
CHOICE, log 30). -/
def State.plSettle (s : State) (slot : Nat) : State :=
  match s.plRun slot with
  | none => s
  | some r =>
    if r.complete then
      let s := (s.pel.outq.filter fun it => it.slot == slot && it.frames.isNone).foldl State.readItem s
      match s.lb.ops.find? fun o => o.target == .peloton && o.slot == slot && o.error == 0 with
      | none => s
      | some o => (s.setOp { o with finished := true }).releaseReads o.station
    else s

/-! ### The carry (R409) -/

/-- Where chunk c's carry count lies: after the carry data, from the first 64-byte boundary. -/
def carryCount (t : TDesc) (c : Nat) : Loc := ⟨t.space, (((t.base : Int) + t.maxOffset * 2 + 2).toNat + 63) / 64 * 64 + 2 * c⟩

def State.carryN (s : State) (r : PlRun) (c : Nat) : Nat :=
  match r.s with | none => 0 | some t => let l := carryCount t c; s.rd l.space l.addr 2

/-- FP32 values of a payload: BF16, or FP32 for a relay's partial. -/
def payloadVals (pfmt n : Nat) (b : List Byte) : List F32 :=
  (List.range n).map fun i =>
    if pfmt == 1 then BitVec.ofNat 32 (ofBytes ((b.drop (4 * i)).take 4)) else BitVec.ofNat 32 (ofBytes ((b.drop (2 * i)).take 2) * 65536)

/-- The owner acts on a late input or a LATE frame of its chunk c (R408, R409, R413): the FP32 sum is rounded to BF16 by SR
(R67). -/
def State.lateAct (s : State) (g tag c count pfmt step : Nat) (b : List Byte) : State :=
  let drop := s.count Ctr.plLateDropped 1
  match s.pel.hist.find? fun r => r.group == g && r.tag == tag with
  | none => drop
  | some r =>
    match r.s with
    | none => drop
    | some t =>
      let old := s.carryN r c
      if r.proto == 0x30 || capIn r.captain K.plLatePolicy == 0 || r.chunks r.me ≤ c || 65535 < old + count + r.members then drop
      else if count == 0 then s.count Ctr.plLateAdded 1
      else
        let ps := r.span r.me c
        let cells := ((ps.zip (payloadVals pfmt ps.length b)).map fun (i, v) =>
          let ls := t.unlinear i
          let a := ((t.base : Int) + t.offset ls * 2).toNat
          let prev : F32 := if old == 0 then 0 else BitVec.ofNat 32 (s.rd t.space a 2 * 65536)
          let w := srWord (capIn r.captain K.srSeed) 2 0 t.tensorId (step % 2 ^ 32) (t.globalIndex ls)
          let x := (bf16.convert false (.stochastic w) (f32val (f32add prev v))).1
          [(a, BitVec.ofNat 8 x), (a + 1, BitVec.ofNat 8 (x / 256))]).flatten
        let l := carryCount t c
        ((s.wrCells t.space cells).wr l.space l.addr 2 (old + count)).count Ctr.plLateAdded 1

/-! ### Repaired chunks (R410) -/

def State.repairedNow (s : State) (v : PlVoid) : Bool :=
  v.entries.all (fun slot => bit (s.rd .attic (capIn v.run.captain K.quarBase + 32 * slot) 32) 22)
    && (s.ownChunk v.run v.owner v.chunk).all fun e => !e.2.1 && !badBits e.1

/-- A repaired chunk goes to its owner as LATE frames with count 1; an own one is acted on here. -/
def State.sendRepaired (s : State) (v : PlVoid) : State :=
  let r := v.run
  let b := ((s.ownChunk r v.owner v.chunk).map fun e => bf16Bytes e.1).flatten
  if v.owner == r.me then s.lateAct r.group r.tag v.chunk 1 0 r.step b
  else (r.framesOf 3 0 v.owner v.chunk v.owner 1 0 r.step b).foldl (fun st f => st.plSend r.ports v.chunk v.owner f) s

def State.repairedSends (s : State) : State :=
  s.pel.voided.foldl (fun st v =>
    if st.repairedNow v then
      let st1 := st.sendRepaired v
      { st1 with pel := { st1.pel with voided := st1.pel.voided.filter fun w => w != v } }
    else st) s

/-- The next REDUCE_SCATTER over a tensor drops its entries, and counts them (R410). -/
def State.dropVoided (s : State) (tensor : Nat) : State :=
  let mine (v : PlVoid) : Bool := v.run.a.elim false fun t => t.tensorId == tensor
  let n := (s.pel.voided.filter mine).length
  ({ s with pel := { s.pel with voided := s.pel.voided.filter fun v => !mine v } }).count Ctr.plLateDropped n

/-! ### Forming a chunk (R400, R406, R407, R411, R412) -/

/-- Is an input whole? -/
def PlInput.whole (i : PlInput) : Bool :=
  match i.last with | none => false | some n => (List.range (n + 1)).all fun k => i.frames.any fun f => f.1 == k

def PlInput.bytes (i : PlInput) : List Byte :=
  match i.last with
  | none => []
  | some n => ((List.range (n + 1)).map fun k => ((i.frames.find? fun f => f.1 == k).map (·.2)).getD []).flatten

/-- Has source m's deadline for a unit passed (R404, R406)? -/
def State.pastDeadline (s : State) (r : PlRun) (u : PlUnit) (m : Nat) : Bool :=
  match u.start with
  | none => false
  | some t0 =>
    let g := aget 0 r.grants m
    (u.level == 3 || g != 0) && max t0 (g - 1) + usTicks (capIn r.captain K.plDeadlineUs) ≤ s.tick

/-- How one source of a unit stands. -/
inductive SrcState where
  | wait
  | missed
  | gone
  | torn
  | here (i : PlInput)
  deriving DecidableEq, Repr

def State.srcState (s : State) (r : PlRun) (u : PlUnit) (m : Nat) : SrcState :=
  match r.input? u.owner u.chunk u.level m with
  | none => if r.gone.contains m then .gone else if s.pastDeadline r u m then .missed else .wait
  | some i => if i.whole then .here i else if i.torn || r.gone.contains m then .torn else .wait

/-- Tallies of what a settled unit met: missed members, poisoned and VOID inputs. -/
def State.noteSources (s : State) (slot : Nat) (part : Bool) (ms : List (Nat × SrcState)) : State :=
  ms.foldl (fun st (m, x) =>
    match x with
    | .missed => ((st.modRun slot fun r => { r with missed := sadd r.missed m }).tally slot fun t => { t with missed := t.missed + 1 }).count Ctr.plMisses 1
    | .here i =>
      if i.poison then
        let st := st.modRun slot fun r => { r with bad := sadd r.bad m }
        if part then st else st.count Ctr.plPoison 1
      else if i.count == 0 && !part then st.count Ctr.plVoidReceived 1 else st
    | _ => st) s

/-- Sum of a chunk in FP32 in the stated order, and its count (R400). -/
def sumInputs (n : Nat) (own : List Nat × Nat) (ms : List (Nat × SrcState)) (acc : List F32) (cnt : Nat) : List F32 × Nat :=
  let add (x : List F32 × Nat) (vs : List F32) (k : Nat) : List F32 × Nat := ((x.1.zip vs).map fun (a, v) => f32add a v, x.2 + k)
  let x0 := if own.2 == 0 then (acc, cnt) else add (acc, cnt) (own.1.map fun b => BitVec.ofNat 32 b) own.2
  ms.foldl (fun x (_, st) =>
    match st with
    | .here i => if i.poison || i.count == 0 then x else add x (payloadVals i.pfmt n i.bytes) i.count
    | _ => x) x0

/-- TREE level 1: own contribution and subgroup's in increasing member index. -/
def sumRelay (me n : Nat) (own : List Nat × Nat) (ms : List (Nat × SrcState)) : List F32 × Nat :=
  let lo := ms.filter fun p => p.1 < me
  let hi := ms.filter fun p => me < p.1
  let (a, c) := sumInputs n ([], 0) lo (List.replicate n 0) 0
  sumInputs n own hi a c

/-- The owner writes its chunk (R400, R407, R423). -/
def State.writeChunk (s : State) (r : PlRun) (c : Nat) (own : List Nat × Nat) (ms : List (Nat × SrcState)) (torn : Bool) : State :=
  match r.d with
  | none => s
  | some d =>
    let ps := r.span r.me c
    let cn := s.carryN r c
    let carry : List F32 := match r.s with
      | none => ps.map fun _ => 0
      | some t => ps.map fun i => if cn == 0 then 0 else BitVec.ofNat 32 (s.rd t.space ((t.base : Int) + t.offset (t.unlinear i) * 2).toNat 2 * 65536)
    let (acc, tot) := sumInputs ps.length own ms carry cn
    let n := if torn then 0 else tot
    let cells := ((ps.zip acc).map fun (i, v) =>
      let ls := d.unlinear i
      let a := ((d.base : Int) + d.offset ls * 2).toNat
      let w := srWord (capIn r.captain K.srSeed) 2 0 d.tensorId r.step (d.globalIndex ls)
      let x := if n == 0 then 0 else (bf16.convert false (.stochastic w) (f32val v)).1
      [(a, BitVec.ofNat 8 x), (a + 1, BitVec.ofNat 8 (x / 256))]).flatten
    let s := (s.wrCells d.space cells).wr r.cnt.space (r.cnt.addr + 2 * c) 2 n
    let s := match r.s with
      | none => s
      | some t => if cn == 0 then s else let l := carryCount t c; s.wr l.space l.addr 2 0
    let s := if torn then s.count Ctr.plTorn 1 else s
    let b (x : Bool) : Nat := if x then 1 else 0
    s.tally r.slot fun t => { t with
      chunks := t.chunks + 1, zero := t.zero + b (n == 0), full := t.full + b (!torn && n - cn == r.live.length),
      minCount := some (match t.minCount with | none => n | some m => min m n), carryUsed := t.carryUsed + b (cn != 0) }

/-- Send a part chunk to members, at once (R403). -/
def State.sendPart (s : State) (r : PlRun) (o c : Nat) (dsts : List Nat) (b : Option (List Byte)) : State :=
  if b.isNone && r.proto == 0x30 then s else
  dsts.foldl (fun st m =>
    (r.framesOf 2 3 o c m (if b.isNone then 0 else 1) 2 r.step (b.getD [])).foldl (fun st f => st.plSend r.ports c m f) st) s

/-- The rest of this module's subgroup, to which a relay writes a part on (R399). -/
def PlRun.restOfSub (r : PlRun) : List Nat :=
  ((List.range (r.subSize (r.sub r.me))).map (r.sub r.me * r.fan + ·)).filter fun m => m != r.me && r.isLive m

/-- One unit is settled if every awaited input is whole, torn, missed or gone; then its chunk is formed. -/
def State.plTry (s : State) (slot o c level : Nat) : State :=
  match s.plRun slot with
  | none => s
  | some r =>
    match r.unit? o c level with
    | none => s
    | some u =>
      if u.done || (level != 3 && u.own.isNone) then s else
      let ms := u.sources.map fun m => (m, s.srcState r u m)
      if ms.any (fun p => p.2 == .wait) then s else
      let torn := ms.any fun p => p.2 == .torn
      let own := u.own.getD ([], 0)
      let s := (s.setRun (r.setUnit { u with done := true })).noteSources slot (level == 3) ms
      let s := if level == 3 || level == 1 then s else s.writeChunk r c own ms torn
      let s := if level != 1 then s else
        let n := (r.span o c).length
        let x := sumRelay r.me n own ms
        let v := if torn then ([], 0) else (x.1.map (·.toNat), x.2)
        let s := if torn then s.count Ctr.plTorn 1 else s
        if o == r.me then
          s.modRun slot fun r => match r.unit? o c 2 with
            | none => r
            | some w => r.setUnit { w with own := some v }
        else
          let fs := r.framesOf 1 2 o c o v.2 1 r.step (if v.2 == 0 then [] else (v.1.map (leBytes 4)).flatten)
          s.enqueue [{ slot := slot, group := r.group, tag := r.tag, ports := r.ports, dst := o, owner := o, chunk := c, level := 2, frames := some fs }]
      let s := if level != 3 then s else
        let got : Option (List Byte) := match ms with
          | [(_, .here i)] => if i.poison || i.count == 0 then none else some i.bytes
          | _ => none
        let s := match got, r.partPlaces false o c with
          | some b, some (t, lss) => s.writePart t lss b
          | _, _ => s.tally slot fun t => { t with partsAbsent := t.partsAbsent + 1 }
        if r.tree && r.op != 4 && r.sub o != r.sub r.me && r.relay o (r.sub r.me) == some r.me then s.sendPart r o c r.restOfSub got else s
      s.plPump

/-- Try every unit of a run, relays before owners. -/
def State.plTryAll (s : State) (slot : Nat) : State :=
  match s.plRun slot with
  | none => s
  | some r =>
    let order := (r.units.filter fun u => u.level == 1) ++ r.units.filter fun u => u.level != 1
    (order.foldl (fun st u => if u.done then st else st.plTry slot u.owner u.chunk u.level) s).plSettle slot

/-- Credits in round order under RING (R404): the sources of the present round and the next. -/
def State.plAdvance (s : State) (slot : Nat) : State :=
  match s.plRun slot with
  | none => s
  | some r =>
    if r.op != 1 || r.tree then s else
    match r.units with
    | [] => s
    | u :: _ =>
      let busy := u.sources.filter fun m => r.units.any fun u => !u.done && s.srcState r u m == .wait
      (busy.take 2).foldl (fun st m => if aget 0 r.grants m == 0 then st.grantTwo r m else st) s

/-- What follows any event of a running letter. -/
def State.plStep (s : State) (slot : Nat) : State := ((s.plAdvance slot).plTryAll slot).plAdvance slot

/-! ### Arrival of frames (R397, R402, R403, R406, R408, R411, R412) -/

/-- The letter a frame belongs to. -/
def State.runOf (s : State) (g tag : Nat) : Option PlRun := s.pel.runs.find? fun r => r.group == g && r.tag == tag && !r.stopped

def addFrame (i : PlInput) (h : Nat) (b : List Byte) (poison : Bool) : PlInput :=
  { i with frames := i.frames.filter (fun f => f.1 != fhFrame h) ++ [(fhFrame h, b)],
           last := if fhLast h then some (fhFrame h) else i.last, poison := i.poison || poison, count := fhCount h, pfmt := fhPfmt h }

def newInput (o c level src port : Nat) : PlInput :=
  { owner := o, chunk := c, level := level, src := src, count := 0, pfmt := 0, poison := false, torn := false, port := port, frames := [], last := none }

/-- Gather the frames of a late input; when it is whole the owner acts on it (R408). -/
def State.lateFrame (s : State) (h : Nat) (c : Nat) (b : List Byte) (poison : Bool) : State :=
  let key := (fhGroup h, fhTag h)
  let mine (p : (Nat × Nat) × PlInput) : Bool := p.1 == key && p.2.src == fhSrc h && p.2.chunk == c
  let i0 := ((s.pel.lates.find? mine).map (·.2)).getD (newInput 0 c 0 (fhSrc h) 0)
  let i := addFrame i0 h b poison
  let rest := s.pel.lates.filter fun p => !mine p
  if i.whole then
    let s := { s with pel := { s.pel with lates := rest } }
    if i.poison then s.count Ctr.plPoison 1 else s.lateAct key.1 key.2 c i.count i.pfmt (fhStep h) i.bytes
  else { s with pel := { s.pel with lates := rest ++ [(key, i)] } }

/-- A late input at a receiver: sent on to the owner, or acted on (R408, R413). -/
def State.lateInput (s : State) (r : PlRun) (h : Nat) (o c : Nat) (b : List Byte) (poison : Bool) : State :=
  if o == r.me then s.lateFrame h c b poison
  else if poison then s.count Ctr.plPoison 1
  else if r.proto == 0x30 then s.count Ctr.plLateDropped 1
  else
    let w := frameWord r.proto 3 (fhLast h) (fhCount h) r.group (fhPfmt h) r.tag c r.me o (fhFrame h) b.length (fhStep h)
    let s := s.plSend r.ports c o (w, b)
    if fhFrame h == 0 then s.tally r.slot fun t => { t with lateForwarded := t.lateForwarded + 1 } else s

/-- A contribution or part frame of a letter that has been dispatched. -/
def State.inputFrame (s : State) (r : PlRun) (running part : Bool) (h : Nat) (port : Nat) (b : List Byte) (poison : Bool) : State :=
  let src := fhSrc h
  let (o, c, level) := r.locate part (fhPfmt h) src (fhChunk h)
  let late : State :=
    if part then (if fhLast h then s.count Ctr.plLateDropped 1 else s) else s.lateInput r h o c b poison
  if !running then late else
  match r.unit? o c level with
  | none => late
  | some u =>
    let begun := r.input? o c level src
    if u.done || !u.sources.contains src || r.gone.contains src || (begun.isNone && s.pastDeadline r u src) then late
    else
      let i := addFrame (begun.getD (newInput o c level src port)) h b poison
      let u' := { u with start := some (match u.start with | none => s.tick | some t => min t s.tick) }
      let ins := r.inputs.filter (fun x => !x.is o c level src) ++ [i]
      ((s.setRun { (r.setUnit u') with inputs := ins }).plStep r.slot)

/-- The address of an inbox slot. -/
def State.slotAddr (s : State) (n : Nat) : Nat := s.odv K.plInboxBase + 32832 * n

def State.returnCredit (s : State) (h : Nat) : State :=
  let k := creditKey (fhGroup h) (fhSrc h)
  let s := { s with pel := { s.pel with granted := aset 0 s.pel.granted k (aget 0 s.pel.granted k + 1) } }
  s.plSend (s.memberPorts (fhGroup h) (fhSrc h)) 0 (fhSrc h)
    (frameWord (bits h 0 8) 4 true 1 (fhGroup h) 2 (fhTag h) 0 (bits h 144 16) (fhSrc h) 0 0 (fhStep h), [])

/-- Consume a frame from its slot: the payload is taken from the inbox as it now stands (R405), and the credit goes back. -/
def State.consume (s : State) (f : PlFrame) (r : PlRun) (running : Bool) : State :=
  let b := s.rdBytes .larder (s.slotAddr f.slot + 64) f.length
  let poison := s.poisonedAt .larder (s.slotAddr f.slot + 64) f.length
  let s := { s with pel := { s.pel with frames := s.pel.frames.filter fun x => x.slot != f.slot } }
  (s.returnCredit f.header).inputFrame r running false f.header f.port b poison

/-- A frame in a slot is matched to its letter, running or past, or waits (R397). -/
def State.takeFrame (s : State) (f : PlFrame) : State :=
  let g := fhGroup f.header
  let tag := fhTag f.header
  match s.runOf g tag with
  | some r => s.consume f r true
  | none =>
    match s.pel.hist.find? fun r => r.group == g && r.tag == tag with
    | some r => s.consume f r false
    | none => s

def State.freeInbox (s : State) : Option Nat :=
  (List.range s.inboxSlots).find? fun n => !(s.pel.frames.any fun f => f.slot == n)

/-- A payload's bytes over the fabric, counted (R424). -/
def State.received (s : State) (port n : Nat) : State := (s.demand [11]).count (Ctr.plReceived + port % 2) n

/-- A contribution frame arrives and lands in an inbox slot (R402, R403). -/
def State.contribFrame (s : State) (port h : Nat) (b : List Byte) (poison : Bool) : State :=
  let s := s.received port b.length
  match s.freeInbox with
  | none => s
  | some n =>
    let a := s.slotAddr n
    let s := s.wrBytes .larder a (leBytes 32 h)
    let s := s.wrBytes .larder (a + 64) b
    let s := if poison then s.poison .larder (a + 64) b.length else s
    let k := creditKey (fhGroup h) (fhSrc h)
    let f : PlFrame := { slot := n, header := h, length := b.length, port := port % 2, tick := s.tick }
    let s := { s with pel := { s.pel with frames := s.pel.frames ++ [f], granted := aset 0 s.pel.granted k (aget 0 s.pel.granted k - 1) } }
    (s.takeFrame f).repairedSends

/-- A part frame arrives (R403, R411, R412). One whose TAG is not dispatched yet is held until then (R397; DESIGN CHOICE,
log 30). -/
def State.partFrame (s : State) (port h : Nat) (b : List Byte) (poison : Bool) : State :=
  let s := s.received port b.length
  let g := fhGroup h
  let tag := fhTag h
  match s.runOf g tag with
  | some r => s.inputFrame r true true h (port % 2) b poison
  | none =>
    if s.pel.ended.contains (g, tag) then (if fhLast h then s.count Ctr.plLateDropped 1 else s)
    else { s with pel := { s.pel with early := s.pel.early ++ [⟨h, b, poison, port % 2, s.tick⟩] } }

/-- The part frames that arrived before their letter was dispatched reach it. -/
def State.takeEarly (s : State) (g tag : Nat) : State :=
  let mine (f : PlEarly) : Bool := fhGroup f.header == g && fhTag f.header == tag
  let fs := s.pel.early.filter mine
  let s := { s with pel := { s.pel with early := s.pel.early.filter fun f => !mine f } }
  fs.foldl (fun st f =>
    match st.runOf g tag with
    | some r => st.inputFrame r true true f.header f.port f.payload f.poison
    | none => st) s

/-- A LATE frame arrives (R408). -/
def State.lateArrival (s : State) (port h : Nat) (b : List Byte) (poison : Bool) : State :=
  (s.received port b.length).lateFrame h (fhChunk h) b poison

/-- A CREDIT frame arrives (R403). -/
def State.creditArrival (s : State) (h : Nat) : State :=
  let k := creditKey (fhGroup h) (fhSrc h)
  let s := { s with pel := { s.pel with credits := aset 0 s.pel.credits k (aget 0 s.pel.credits k + 1) } }
  let s := s.plPump
  s.pel.runs.foldl (fun st r => st.plSettle r.slot) s

/-! ### Dead members (R414 to R416) -/

/-- A member is no longer awaited, and nothing more goes to it (R406, R416). -/
def State.memberGone (s : State) (g m : Nat) : State :=
  let past := s.pel.outq.filter fun it => it.slot == 8 && it.group == g && it.dst == m
  let s := { s with pel := { s.pel with outq := s.pel.outq.filter fun it => !(it.slot == 8 && it.group == g && it.dst == m) } }
  let s := s.count Ctr.plOrphans (past.filter fun it => it.owner == m).length
  s.pel.runs.foldl (fun st r =>
    if r.group != g || r.stopped then st else
    let mine := st.pel.outq.filter fun it => it.slot == r.slot && it.dst == m
    let owned := mine.filter fun it => it.owner == m
    let st := { st with pel := { st.pel with outq := st.pel.outq.filter fun it => !(it.slot == r.slot && it.dst == m) } }
    let st := if owned.isEmpty then st else st.orphan r.slot owned.length
    (st.modRun r.slot fun r => { r with gone := sadd r.gone m }).plStep r.slot) s

/-- A member is declared dead (R414). -/
def State.declareDead (s : State) (g m : Nat) : State :=
  let n := s.cap (K.plGroup g 1)
  let me := s.cap (K.plGroup g 2)
  let t := s.groupTable g
  if m == me || n ≤ m || memberDead (s.member t m) then s else
  let s := ((s.setMemberState t m true).raise Bell.pelotonDead).count Ctr.plDead 1
  let s := (List.range n).foldl (fun st x =>
    if x == me || memberDead (st.member t x) then st
    else st.plSend (st.memberPorts g x) 0 x (frameWord (st.cap (K.plGroup g 6)) 5 true 0 g 2 0 m me x 0 0 0, [])) s
  s.memberGone g m

/-- Stop a collective letter (R207, R415, R422). -/
def State.plStop (s : State) (r : PlRun) (err : Nat) : State :=
  let halt (x : PlRun) : PlRun := if x.slot == r.slot then { x with stopped := true } else x
  let s := { s with pel := { s.pel with runs := s.pel.runs.map halt, outq := s.pel.outq.filter fun it => it.slot != r.slot } }
  match s.lb.ops.find? fun o => o.target == .peloton && o.slot == r.slot with
  | none => s
  | some o => (s.setOp { o with error := err }).dropStreams o.station

/-- A NOTICE frame arrives (R415); it names the member in CHUNK (DESIGN CHOICE, log 30). -/
def State.noticeArrival (s : State) (h : Nat) : State :=
  let g := fhGroup h
  let m := fhChunk h
  if m == s.cap (K.plGroup g 2) then
    let s := ({ s with pel := { s.pel with expelled := sadd s.pel.expelled g } }).raise Bell.pelotonExpelled
    s.pel.runs.foldl (fun st r => if r.group == g && !r.stopped then st.plStop r Err.plExpelled else st) s
  else ((s.setMemberState (s.groupTable g) m true).raise Bell.pelotonDead).memberGone g m

/-- A port goes down: inputs that were arriving by it are torn, and letters with no named port left end (R407, R422). -/
def State.plPortDown (s : State) (p : Nat) : State :=
  s.pel.runs.foldl (fun st r =>
    if r.stopped then st
    else if !(r.ports.any st.portUp) then st.plStop r Err.plLink
    else (st.modRun r.slot fun r => { r with inputs := r.inputs.map fun i => if i.port == p && !i.whole then { i with torn := true } else i }).plStep r.slot) s

/-- REJOIN (R417). The WINDOW is read from the table at each use, so the new one takes effect by itself. -/
def State.rejoin (s : State) (g m : Nat) : State :=
  let t := s.groupTable g
  let s := (s.setMemberState t m false).setMisses t m 0
  if m == s.cap (K.plGroup g 2) then { s with pel := { s.pel with expelled := sdel s.pel.expelled g } } else s

/-- CLEAR_MISSES (R417). -/
def State.clearMisses (s : State) (g m : Nat) : State := s.setMisses (s.groupTable g) m 0

/-! ### Rounds and levels (R398, R399, R416, R589) -/

/-- Read the own contributions to chunks this module sums itself, and start their deadlines (R406, R589). -/
def State.readOwnUnits (s : State) (slot level : Nat) : State :=
  match s.plRun slot with
  | none => s
  | some r =>
    (r.units.filter fun u => u.level == level).foldl (fun st u =>
      if u.own.isSome then st else
      let (v, st) := st.readOwn r u.owner u.chunk
      st.modRun slot fun r =>
        let begin_ (w : PlUnit) (x : Option (List Nat × Nat)) : PlUnit := { w with own := x, start := some (match w.start with | none => s.tick | some t => min t s.tick) }
        let r := match r.unit? u.owner u.chunk level with | none => r | some w => r.setUnit (begin_ w (some v))
        if level == 1 && u.owner == r.me then match r.unit? u.owner u.chunk 2 with | none => r | some w => r.setUnit (begin_ w w.own) else r) s

/-- The own part, or a block of it, to members; a width above the format's ends the letter (R59). -/
def State.sendOwnPart (s : State) (r : PlRun) (o : Nat) (place : Nat) (dsts : List Nat) : State :=
  (List.range (r.chunks o)).foldl (fun st c =>
    match (st.plRun r.slot).bind fun _ => r.partPlaces true place c with
    | none => st
    | some (t, lss) =>
      let v := st.plView r
      let (n, wide) := partDelivery v t lss
      let st := st.countDelivery n
      if wide then st.plStop r Err.formatWidth
      else st.sendPart r o c dsts (if partPoisoned v t lss then none else some (partBytes st t lss))) s

/-- A ring round or tree level begins (R589). -/
def State.roundStart (s : State) (slot : Nat) : State :=
  match s.plRun slot with
  | none => s
  | some r =>
    if r.rounds ≤ r.round then s else
    let k := r.round + 1
    let s := s.setRun { r with round := k }
    let r := { r with round := k }
    let item (dst o level c : Nat) : PlItem := { slot := slot, group := r.group, tag := r.tag, ports := r.ports, dst := dst, owner := o, chunk := c, level := level, frames := none }
    let s :=
      if r.op == 1 && !r.tree then
        let o := (r.me + k) % max 1 r.members
        let s := if k == 1 then s.readOwnUnits slot 0 else s
        if r.isLive o then s.enqueue ((List.range (r.chunks o)).map (item o o 0)) else s.orphan slot (r.chunks o)
      else if r.op == 1 then
        let s := s.readOwnUnits slot 1
        (List.range r.members).foldl (fun st o =>
          if !r.isLive o then st.orphan slot (r.chunks o)
          else match r.relay o (r.sub r.me) with
            | none => st
            | some x => if x == r.me then st else st.enqueue ((List.range (r.chunks o)).map (item x o 1))) s
      else if r.op == 4 || !r.tree then
        let o := (r.me + k) % max 1 r.members
        if !r.isLive o || (r.op == 3 && r.me != r.root) then s
        else s.sendOwnPart r r.me (if r.op == 4 then o else r.me) [o]
      else if r.op == 3 && r.me != r.root then s
      else
        let subs := (List.range r.subs).filterMap fun g => if g == r.sub r.me then none else r.relay r.me g
        s.sendOwnPart r r.me r.me (r.restOfSub ++ subs)
    ((s.plPump).plStep slot).repairedSends

/-! ### Deadlines (R406) -/

/-- A chunk's deadline expires: the clock has reached it for every source whose credit runs, and the chunk is settled. -/
def State.chunkDeadline (s : State) (slot o c level : Nat) : State :=
  match s.plRun slot with
  | none => s
  | some r =>
    match r.unit? o c level with
    | none => s
    | some u =>
      match u.start with
      | none => s
      | some t0 =>
        if u.done then s else
        let waiting := u.sources.filter fun m => (r.input? o c level m).isNone && !r.gone.contains m && (level == 3 || aget 0 r.grants m != 0)
        let t := waiting.foldl (fun t m => max t (max t0 (aget 0 r.grants m - 1) + usTicks (capIn r.captain K.plDeadlineUs))) 0
        (s.atLeast t).plStep slot

/-- A frame whose letter has not been dispatched within 1 s is discarded (R397). The frame is named by its inbox slot; part
frames have none and are numbered on from the last slot, oldest first (DESIGN CHOICE, log 30). -/
def State.tagDiscard (s : State) (slot : Nat) : State :=
  match s.pel.frames.find? fun f => f.slot == slot with
  | none =>
    if slot < s.inboxSlots then s else
    match s.pel.early.drop (slot - s.inboxSlots) with
    | [] => s
    | f :: _ =>
      ({ (s.atLeast (f.tick + 25000000)) with pel := { s.pel with early := s.pel.early.eraseIdx (slot - s.inboxSlots) } }).count Ctr.plTagDiscards 1
  | some f =>
    let s := { (s.atLeast (f.tick + 25000000)) with pel := { s.pel with frames := s.pel.frames.filter fun x => x.slot != slot } }
    (s.returnCredit f.header).count Ctr.plTagDiscards 1

/-! ### Dispatch (R391 to R396, R404) -/

/-- The run a letter would make. -/
def mkRun (s : State) (c : QCtx) (l : Letter) (a d st : SlotRead) (slot : Nat) : PlRun :=
  let g := bits l.param0 0 4
  let some? (r : SlotRead) : Option TDesc := if r.present then some r.desc else none
  let n := s.cap (K.plGroup g 1)
  let alg := bits l.prog 4 2
  let tree := if alg == 0 then s.cap (K.plGroup g 4) == 1 else alg == 2
  let op := l.prog % 16
  let t := s.groupTable g
  let me := s.cap (K.plGroup g 2)
  { queue := c.q, seq := c.head, slot := slot, op := op, tree := tree, group := g, tag := bits l.param0 32 32, me := me,
    members := n, fan := s.cap (K.plGroup g 5), proto := s.cap (K.plGroup g 6),
    ports := match bits l.prog 6 2 with | 1 => [0] | 2 => [1] | _ => [0, 1],
    chunk := 2 ^ bits l.param0 4 5, step := l.step, a := some? a, d := some? d, s := some? st,
    cnt := ⟨spaceOf (bits l.param1 48 2), bits l.param1 0 48⟩, root := bits l.param1 0 16, captain := s.captain, table := t,
    live := (List.range n).filter fun m => m == me || !memberDead (s.member t m), gone := [], round := 0,
    rounds := if op == 4 || !tree then n - 1 else 1, units := [], inputs := [], grants := [], missed := [], bad := [], reserve := 0,
    tally := ⟨0, 0, 0, none, 0, 0, 0, 0, 0, 0⟩, startTick := s.tick, stopped := false }

def lastDim (t : TDesc) : Nat := t.localAt (t.rank - 1)

/-- R394, in the order of its table. -/
def collectiveChecks (s : State) (l : Letter) (r : PlRun) : List (Bool × Nat) :=
  let locals (t : TDesc) : List Nat := t.dims.map (·.local)
  let globals (t : TDesc) : List Nat := t.dims.map (·.extent)
  let shape : Bool :=
    match r.op, r.a, r.d with
    | 1, some a, some d => a.format != 2 || d.format != 2 || (ownedDim d r.members r.me).isNone || locals a != globals d
        || (match r.s with | none => false | some t => locals t != locals d || t.format != d.format)
    | 2, some a, some d => a.format != d.format || a.blkCode != d.blkCode || a.mx != d.mx || (ownedDim a r.members r.me).isNone || locals d != globals a
    | 3, _, _ => r.members ≤ r.root
    | 4, some a, some d => a.format != d.format || a.localCount != d.localCount || lastDim a % max 1 r.members != 0 || lastDim d % max 1 r.members != 0
    | _, _, _ => true
  let clog := bits l.param0 4 5
  [ (!s.enabled 11, Err.stationOff),
    (r.members < 2 || r.members ≤ r.me || !(1 ≤ r.op && r.op ≤ 4) || bits l.prog 4 2 == 3 || bits l.prog 6 2 == 3 || clog < 10 || 30 < clog, Err.plGroup),
    (s.pel.expelled.contains r.group, Err.plExpelled),
    (r.op == 1 && 65535 < r.members, Err.plGroup), (shape, Err.plShape), (!(r.ports.any s.portUp), Err.plLink),
    (s.inboxSlots < r.reservation, Err.plInbox) ]

/-- This module's own part goes from A to its place in D (R591); likewise the own block of an exchange, and the root's
own copy (DEDUCED, log 32). -/
def State.ownPart (s : State) (r : PlRun) : State :=
  if r.op == 1 || (r.op == 3 && r.me != r.root) then s else
  (List.range (r.chunks r.me)).foldl (fun st c =>
    match r.partPlaces true r.me c, r.partPlaces false r.me c with
    | some (t, ls), some (d, ms) =>
      let pois := (ls.zip ms).filter fun p => (readPlain st t p.1).poison
      let st := st.writePart d ms (partBytes st t ls)
      pois.foldl (fun x p => x.poison d.space (codeSpot x d p.2).1 (cdiv (fmtBits d.format) 8)) st
    | _, _ => st) s

/-- An accepted collective letter begins: its reservation, its units, credits to its sources, and the frames that waited for
its TAG. -/
def State.plBegin (s : State) (r : PlRun) : State :=
  let r := { r with units := r.plan s.tick, reserve := r.reservation }
  let s := if r.op == 1 then s.dropVoided (r.a.elim 0 (·.tensorId)) else s
  let keep := (s.pel.hist.filter fun x => !(x.group == r.group && x.tag == r.tag))
  let same := keep.filter fun x => x.group == r.group
  let keep := if 4096 ≤ same.length then match same with | [] => keep | o :: _ => keep.filter fun x => !(x.group == r.group && x.tag == o.tag) else keep
  let s := { s with pel := { s.pel with
    runs := s.pel.runs ++ [r], ended := s.pel.ended.filter fun k => k != (r.group, r.tag),
    hist := if r.op == 1 then keep ++ [{ r with units := [], inputs := [] }] else s.pel.hist } }
  -- parts of dead sources are absent
  let dead := (List.range r.members).filter fun m => m != r.me && !r.isLive m && (r.op == 2 || r.op == 4 || (r.op == 3 && m == r.root))
  let s := dead.foldl (fun st m => st.tally r.slot fun t => { t with partsAbsent := t.partsAbsent + r.chunks m }) s
  let s := s.ownPart r
  let s := if r.op == 1 && r.tree then ((r.units.map (·.sources)).flatten.eraseDups).foldl (fun st m => st.grantTwo r m) s else s.plAdvance r.slot
  let s := (s.pel.frames.filter fun f => fhGroup f.header == r.group && fhTag f.header == r.tag).foldl State.takeFrame s
  (s.takeEarly r.group r.tag).plStep r.slot

/-- A tensor scale that ends a collective letter as it starts, before it sends or writes (R38, R194). -/
def plScaleBad (s : State) (r : PlRun) : Bool :=
  let bad (t : Option TDesc) : Bool :=
    match t with
    | none => false
    | some d => locMisaligned d.ts || locPoisoned s d.ts || !scaleOk (opScale s (some d))
  bad r.a || bad r.d || bad r.s

/-- Dispatch of the ready head letter of a queue as the collective `op` (R38, R205, R393, R404). -/
def State.dispatchCollective (s : State) (q op : Nat) (guess : Bool) : State :=
  match s.headOf q with
  | none => s
  | some (c, l) =>
    if l.route != 0x10 || !(l.prog % 16 == op || (guess && !(1 ≤ l.prog % 16 && l.prog % 16 ≤ 4))) || !s.chosen q .peloton then s else
    match s.freeSlot .peloton with
    | none => s
    | some slot =>
      let a := readSlot s l.slotA
      let d := readSlot s l.slotD
      let st := readSlot s l.slotS
      let r := mkRun s c l a d st slot
      let v : List (Bool × Nat) := checks123 c l ++ checks4to8 s c l a (noSlot s) d st ++ [(globalBad a (noSlot s) d st, Err.globalSize)]
        ++ checks11to12 s l a (noSlot s) d st ++ collectiveChecks s l r
      match firstErr v with
      | some e => s.failLetter c e l
      | none =>
        if s.inboxFree < r.reservation then s else
        if plScaleBad s r then s.refuseLetter c 11 Err.badScale l else
        let p := mkPart s c l ⟨none, a, noSlot s, d, st⟩
        let s := ((s.advanceHead c).launch .peloton slot [{ p with d := none, s := none, rows := 0 }]).demand [11]
        (s.plBegin r).repairedSends

/-! ### The end of a collective letter (R414, R423) -/

def PlTally.words (t : PlTally) : List Nat :=
  [t.chunks, t.full, t.zero, t.minCount.getD 0, t.missed, t.lateForwarded, t.voidSent, t.orphans, t.partsAbsent, t.carryUsed]

/-- MISSES of every expected member, and the declarations they lead to (R414). -/
def State.endMisses (s : State) (r : PlRun) : State :=
  let expected := ((r.units.map (·.sources)).flatten.eraseDups).filter fun m => !r.gone.contains m
  expected.foldl (fun st m =>
    if r.missed.contains m then
      let n := memberMisses (st.member r.table m) + 1
      let st := st.setMisses r.table m n
      if st.cap K.plDeadMisses ≤ n then st.declareDead r.group m else st
    else if r.bad.contains m then st else st.setMisses r.table m 0) s

/-- The records of a collective letter that is done or was stopped. -/
def State.endCollective (s : State) (o : Op) : State :=
  match s.pel.runs.find? (fun r => r.slot == o.slot), o.parts with
  | some r, p :: _ =>
    let s := if o.error == 0 then s.endMisses r else s
    let runs := s.pel.runs.filter fun x => x.slot != o.slot
    let past (it : PlItem) : PlItem := if it.slot == o.slot then { it with slot := 8 } else it
    let outq := if o.error == 0 then s.pel.outq.map past else s.pel.outq.filter fun it => it.slot != o.slot
    let s := { s with pel := { s.pel with
      runs := runs
      outq := outq
      ended := if r.op == 1 then s.pel.ended else s.pel.ended ++ [(r.group, r.tag)],
      idleSince := if runs.isEmpty then s.tick else s.pel.idleSince } }
    let s := (s.dropOp o).dropStreams o.station
    let s := if o.error != 0 then s.haltQueue p.queue p.seq o.error else s
    (s.finish { finOf o p with part := none, hasCounts := true, collective := r.tally.words }).settle
  | _, _ => s

end Sys2Proof.Machine
end

