-- ==== Sys2Proof/Machine/Export.lean ====
section
/-! DEFINITION. The export engine and the Guest room (12): exports, streams, receiving, GUEST_SEND and restores, and the
Glazia letters that meet them (R26, R27, R354 to R361, R371, R377, R381 to R390, R418, R419, R421, R424). -/

namespace Sys2Proof.Machine

namespace Err
def exState : Nat := 0x68
def exTorn : Nat := 0x69
def exBuddy : Nat := 0x6A
def exLayout : Nat := 0x6B
end Err

/-! ### Headers (R385 to R388) -/

def shVersion (h : Nat) : Nat := bits h 0 8
def shKind (h : Nat) : Nat := bits h 8 2
def shTorn (h : Nat) : Bool := bit h 10
def shSource (h : Nat) : Nat := bits h 16 16
def shGroup (h : Nat) : Nat := bits h 32 4
def shStep (h : Nat) : Nat := bits h 64 64
def shBase (h : Nat) : Nat := bits h 128 64
def shBanks (h : Nat) : Nat := bits h 192 8
def shGroups (h : Nat) : Nat := bits h 200 16
def shBankBytes (h : Nat) : Nat := bits h 256 64
def shBytes (h : Nat) : Nat := bits h 320 64

def streamHeader (kind : Nat) (torn : Bool) (source group step base banks groups bankBytes bytes : Nat) : Nat :=
  0x10 + kind * 2 ^ 8 + (if torn then 2 ^ 10 else 0) + source % 2 ^ 16 * 2 ^ 16 + group % 16 * 2 ^ 32 + step % 2 ^ 64 * 2 ^ 64
    + base % 2 ^ 64 * 2 ^ 128 + banks % 2 ^ 8 * 2 ^ 192 + groups % 2 ^ 16 * 2 ^ 200 + bankBytes % 2 ^ 64 * 2 ^ 256 + bytes % 2 ^ 64 * 2 ^ 320

def ghNext (h : Nat) : Nat := bits h 0 64
def ghStatus (h : Nat) : Nat := bits h 64 8
def ghBanks (h : Nat) : Nat := bits h 72 8
def ghGroups (h : Nat) : Nat := bits h 80 16
def ghSource (h : Nat) : Nat := bits h 96 16
def ghGroup (h : Nat) : Nat := bits h 112 4
def ghVersion (h : Nat) : Nat := bits h 192 8

/-- This module's own Guest room header (R388). -/
def State.guestHeader (s : State) : Nat := s.rd .cellar (s.odv K.guestBase) 64

/-! ### Forming a stream (R384 to R387) -/

/-- Bytes of a stream and the numbers of its poisoned sectors. -/
structure StreamData where
  bytes : List Byte
  poison : List Nat
  deriving DecidableEq, Repr

def StreamData.append (a b : StreamData) : StreamData :=
  ⟨a.bytes ++ b.bytes, a.poison ++ b.poison.map fun p => p + a.bytes.length / 32⟩

/-- A run of Cellar bytes with its poison marks. -/
def State.cellarRun (s : State) (a n : Nat) : StreamData :=
  ⟨s.rdBytes .cellar a n, (List.range (n / 32)).filter fun i => s.poisonedAt .cellar (a + 32 * i) 32⟩

/-- Whole 64-byte units of a slot. -/
def slotBytes (g : GzGroup) (x : GzSlot) : Nat := cdiv (g.elems * x.bytes) 64 * 64

/-- One group's record and data (R386). -/
def State.groupStream (s : State) (bank n : Nat) : StreamData :=
  let g := parseGroup (s.rd .attic (s.cap K.gzGroupBase + 256 * n) 256)
  let slots := (g.slots.zip (List.range g.slots.length)).foldl (fun acc (x, k) =>
    acc + x.offset * 2 ^ (64 * k + 192) + x.format * 2 ^ (64 * k + 232)) 0
  let hd := n + (g.slots.length - 1) * 2 ^ 12 + s.rd .cellar (s.bankAddr bank + 4096 + 16 * n) 8 * 2 ^ 64 + g.elems * 2 ^ 128 + slots
  g.slots.foldl (fun acc x => acc.append (s.cellarRun (s.bankAddr bank + x.offset) (slotBytes g x))) ⟨leBytes 64 hd, []⟩

/-- Header, body and trailer (R385, R387). -/
def wholeStream (header : Nat → Nat) (records : Nat) (body : StreamData) : StreamData :=
  let n := 128 + body.bytes.length
  let front := (⟨leBytes 64 (header n), []⟩ : StreamData).append body
  front.append ⟨leBytes 64 (records + crc32c front.bytes * 2 ^ 32), []⟩

/-- The header of bank b. -/
def State.bankHeader (s : State) (b : Nat) : Nat := s.rd .cellar (s.bankAddr b) 64

/-- May the stream of bank b be a DELTA against the buddy's Guest room (R384)? -/
def State.deltaOk (s : State) (b group me guest : Nat) : Bool :=
  let h := s.bankHeader b
  !s.ex.forceFull && ghStatus guest == 1 && ghSource guest == me && ghGroup guest == group && ghBanks guest == bits h 72 8
    && ghGroups guest == bits h 80 16 && ghVersion guest == 0x10

/-- The stream of bank b: a DELTA against step `base`, or FULL. -/
def State.bankStream (s : State) (b group me : Nat) (base : Option Nat) : StreamData :=
  let h := s.bankHeader b
  let groups := bits h 80 16
  let sel := (List.range groups).filter fun n => match base with | none => true | some x => x + 1 < aget 0 s.ex.lastChange n
  let body := sel.foldl (fun acc n => acc.append (s.groupStream b n)) ⟨[], []⟩
  wholeStream (streamHeader (if base.isSome then 1 else 0) false me group (bits h 0 64 + 2 ^ 64 - 1) (base.getD 0) (bits h 72 8) groups
    (s.odv K.bankBytes)) sel.length body

/-! ### Sending -/

/-- The frames of a stream, to a member: header and payload with the poisoned sectors of each (R402). -/
def streamFrames (group me dst step : Nat) (d : StreamData) : List (List Byte × List Nat) :=
  let ps := pieces 32768 (d.bytes.length / 32768 + 1) d.bytes
  (ps.zip (List.range ps.length)).map fun (b, i) =>
    let h := frameWord 0x40 6 (i + 1 == ps.length) 0 group 2 0 i me dst 0 b.length (step % 2 ^ 64)
    (leBytes 32 h ++ b, (d.poison.filter fun p => 1024 * i ≤ p && p < 1024 * (i + 1)).map fun p => p - 1024 * i)

/-- May the export engine send a frame of its stream now? -/
def State.exportWaits (s : State) : Bool :=
  s.enabled 13 && (match s.ex.job with | none => false | some j => !j.rest.isEmpty && s.portUp j.port)

/-- The export engine reads what its next frame carries and sends it (DESIGN CHOICE, log 33: a frame leaves at an issue slot of
the Glazia die link that the engine may take, R242; the stream is the bank as it stood at the start). -/
def State.exportNext (s : State) : State :=
  match s.ex.job with
  | none => s
  | some j =>
    match j.rest with
    | [] => s
    | f :: t => ({ s with ex := { s.ex with job := some { j with rest := t } } }).sendPeer j.port (.frame 6 j.member j.port f.1 f.2)

/-- Has a stream begun to leave? -/
def ExJob.begun (j : ExJob) : Bool := j.rest.length < cdiv j.bytes 32768

/-- The copy in host memory (R390): written only when the host has consumed the previous one and it fits. -/
def State.hostCopy (s : State) (b group me : Nat) : State :=
  let base := s.cap K.exHostBase
  if base == 0 then s else
  let d := s.bankStream b group me none
  if s.poisonedAt .host base 8 || s.rd .host base 8 != 0 || s.cap K.exHostBytes < d.bytes.length then s.count Ctr.exHostSkipped 1
  else d.poison.foldl (fun st p => st.poison .host (base + 32 * p) 32) (s.wrBytes .host base d.bytes)

/-- Is bank b due for a host copy (R390)? -/
def State.hostDue (s : State) (b : Nat) : Bool :=
  let n := s.cap K.exHostEvery
  n != 0 && (s.bankNextStep b + 2 ^ 64 - 1) % 2 ^ 64 % n == 0

/-- Start sending bank b to the buddy, whose Guest room header has been read (R383, R384). -/
def State.startExport (s : State) (letter : Option (Nat × Nat)) (b : Nat) (force : Bool) (guest : Nat) : State :=
  let group := s.cap K.exGroup
  let me := s.cap (K.plGroup group 2)
  let dst := s.cap K.exBuddy
  let port := s.cap K.exPort
  let step := (s.bankNextStep b + 2 ^ 64 - 1) % 2 ^ 64
  let delta := !force && s.deltaOk b group me guest
  let d := s.bankStream b group me (if delta then some ((ghNext guest + 2 ^ 64 - 1) % 2 ^ 64) else none)
  let job : ExJob := { letter := letter, bank := b, step := step, group := group, member := dst, port := port,
                       kind := if delta then 1 else 0, bytes := d.bytes.length, rest := streamFrames group me dst step d }
  let s := { s with ex := { s.ex with job := some job } }
  (s.demand [13]).setOd K.exState (if s.gz.waiting.isSome then 2 else 1)

/-! ### OPEN against an export (R27, R381) -/

/-- The bank an OPEN of step s writes. -/
def State.openTarget (s : State) (step : Nat) : Nat := (step + 1) % max 1 (s.odv K.bankCount)

/-- Is a bank still to be exported? -/
def State.exportHolds (s : State) (b : Nat) : Bool :=
  s.ex.pending == some b || (match s.ex.job with | none => false | some j => j.kind != 2 && j.bank == b)

/-- The op of an EXPORT letter ends: done, or with an error. -/
def State.endExportLetter (s : State) (letter : Option (Nat × Nat)) (err : Nat) : State :=
  match letter with
  | none => s
  | some (q, n) =>
    match s.lb.ops.find? fun o => o.parts.any fun p => p.queue == q && p.seq == n with
    | none => s
    | some o => if err == 0 then s.setOp { o with finished := true } else s.stopOp o err

/-- The second half of an OPEN: the state, the step and the target bank's header. -/
def State.gzOpenCommit (s : State) (step : Nat) : State :=
  let s := ((({ s with gz := { s.gz with waiting := none } }).setOd K.gzState 1).setOd K.gzStep step)
  s.wr .cellar (s.gzDst + 8) 1 0

/-- A Glazia letter that ran as an op has done its work. -/
def State.gzEndOp (s : State) : State :=
  match s.gzOp with
  | none => s
  | some o =>
    match o.parts with
    | [] => s
    | p :: _ => ((s.dropOp o).finish { finOf o p with part := none, hasCounts := false }).settle

/-- An OPEN that waits goes on once no export holds its bank (R27): only then does it move gears and latch (DESIGN CHOICE,
log 33). -/
def State.resumeOpen (s : State) : State :=
  match s.gz.waiting, s.gzOp with
  | some _, some o =>
    match o.parts with
    | [] => s
    | p :: _ =>
      if s.exportHolds (s.openTarget p.letter.step) then s
      else
        let s := ((s.gzLatch p.letter).gzOpenCommit p.letter.step).gzEndOp
        s.setOd K.exState (if s.ex.job.isSome then 1 else 0)
  | _, _ => s

/-- The running export ends (R383, R389, R421, R424). -/
def State.endExport (s : State) (j : ExJob) (err : Nat) : State :=
  let s := { s with ex := { s.ex with job := none } }
  let s :=
    if j.kind == 2 then s
    else if err == 0 then
      let s := ((s.setOd K.exLastStep j.step).count Ctr.exStreams 1).count Ctr.exBytes j.bytes
      let s := s.count (if j.kind == 1 then Ctr.exDelta else Ctr.exFull) 1
      { s with ex := { s.ex with forceFull := false } }
    else ({ s with ex := { s.ex with forceFull := true } }).raise Bell.exportFail
  let s := s.endExportLetter j.letter err
  ((s.setOd K.exState (if s.gz.waiting.isSome then 2 else 0)).resumeOpen).stopDisabled

/-- SKIP abandons what holds a bank (R27): a stream that had begun stays a torn copy, and the next export is FULL. An EXPORT
letter it served ends with EX_STATE (DESIGN CHOICE, log 33: R27 names no error). -/
def State.abandonExport (s : State) (b : Nat) : State :=
  let s := if s.ex.pending == some b then { s with ex := { s.ex with pending := none } } else s
  match s.ex.job with
  | none => s
  | some j =>
    if j.kind == 2 || j.bank != b then s
    else
      let s := { s with ex := { s.ex with job := none, forceFull := s.ex.forceFull || j.begun } }
      ((s.endExportLetter j.letter Err.exState).setOd K.exState 0).stopDisabled

/-! ### Export letters (R383, R419) -/

/-- The ready head letter of a queue that the export engine takes now. -/
def State.exHead (s : State) (q : Nat) (guestSend : Bool) : Option (QCtx × Letter) :=
  match s.headOf q with
  | none => none
  | some (c, l) =>
    if l.route == 0x20 && (l.prog % 4096 == 2) == guestSend && s.chosen q .exporter && (s.freeSlot .exporter).isSome then some (c, l) else none

/-- Is an image being restored (R418)? -/
def State.restoring (s : State) : Bool := s.ex.rx.any fun r => r.image && !r.refused

def exChecks (s : State) (c : QCtx) (l : Letter) : List (Bool × Nat) :=
  checks123 c l ++ [(!s.enabled 13, Err.stationOff), (s.ex.job.isSome || s.restoring, Err.exState)]

/-- The op of an export letter is launched. -/
def State.exLaunch (s : State) (c : QCtx) (l : Letter) : State :=
  let n := noSlot s
  let p := mkPart s c l ⟨none, n, n, n, n⟩
  (s.advanceHead c).launch .exporter 0 [{ p with d := none, s := none, rows := 0 }]

/-- EXPORT (R383, R390); `guest` is the buddy's Guest room header as read over CXL. -/
def State.exportLetter (s : State) (q guest : Nat) : State :=
  match s.exHead q false with
  | none => s
  | some (c, l) =>
    let b := s.odv K.bankCurrent
    match firstErr (exChecks s c l ++ [(l.prog % 4096 != 1 || s.bankStatus b != 1, Err.exState)]) with
    | some e => s.refuseLetter c 13 e l
    | none =>
      let s := s.exLaunch c l
      let group := s.cap K.exGroup
      let me := s.cap (K.plGroup group 2)
      let s := if bit l.param0 1 || (bit l.param0 0 && s.hostDue b) then s.hostCopy b group me else s
      if !bit l.param0 0 then s.endExportLetter (some (c.q, c.head)) 0
      else if !s.portUp (s.cap K.exPort) then
        ((s.endExportLetter (some (c.q, c.head)) Err.exBuddy).raise Bell.exportFail)
      else s.startExport (some (c.q, c.head)) b (bit l.param0 2) guest

/-- EXPORT_AUTO_START (R383). -/
def State.exportAuto (s : State) (guest : Nat) : State :=
  match s.ex.pending with
  | none => s
  | some b =>
    if s.cap K.exMode != 1 || s.ex.job.isSome || s.restoring || !s.pel.runs.isEmpty || !s.enabled 13 || !s.portUp (s.cap K.exPort) then s
    else
      let s := s.atLeast (s.pel.idleSince + usTicks (s.cap K.exIdleUs))
      let s := ({ s with ex := { s.ex with pending := none } }).count Ctr.exportStarts 1
      let group := s.cap K.exGroup
      let s := if s.hostDue b then s.hostCopy b group (s.cap (K.plGroup group 2)) else s
      s.startExport none b false guest

/-- GUEST_SEND (R419). -/
def State.guestSend (s : State) (q : Nat) : State :=
  match s.exHead q true with
  | none => s
  | some (c, l) =>
    let m := bits l.param0 0 16
    let g := bits l.param0 16 4
    let h := s.guestHeader
    let n := s.odv K.guestBytes
    match firstErr (exChecks s c l ++ [(n == 0 || ghStatus h == 0xFF || ghSource h != m, Err.exBuddy)]) with
    | some e => s.refuseLetter c 13 e l
    | none =>
      let s := s.exLaunch c l
      let port := s.cap K.exPort
      let step := (ghNext h + 2 ^ 64 - 1) % 2 ^ 64
      if !s.portUp port then s.endExportLetter (some (c.q, c.head)) Err.exBuddy else
      let d := wholeStream (streamHeader 2 (ghStatus h == 0) m g step 0 (ghBanks h) (ghGroups h) n) 0 (s.cellarRun (s.odv K.guestBase) n)
      let job : ExJob := { letter := some (c.q, c.head), bank := 0, step := step, group := g, member := m, port := port, kind := 2,
                           bytes := d.bytes.length, rest := streamFrames g (s.cap (K.plGroup g 2)) m step d }
      let s := ({ s with ex := { s.ex with job := some job } }).demand [13]
      s.setOd K.exState (if s.gz.waiting.isSome then 2 else 1)

/-- EXPORT_ACK: COUNT 1 acknowledges, COUNT 0 refuses with the error in CHUNK (R388, R389, R418; DESIGN CHOICE, log 33). -/
def State.exportAck (s : State) (h : Nat) : State :=
  match s.ex.job with
  | none => s
  | some j =>
    if fhGroup h != j.group || fhSrc h != j.member then s
    else if fhCount h != 0 then s.endExport j 0
    else s.endExport j (if j.kind == 2 then fhChunk h % 256 else Err.exBuddy)

/-- A write to the buddy is not completed (R546): the export fails (R389, R422). -/
def State.exportLost (s : State) (g m : Nat) : State :=
  match s.ex.job with
  | none => s
  | some j => if j.group == g && j.member == m then s.endExport j Err.exBuddy else s

/-! ### Receiving (R388, R389, R418) -/

/-- Segments (stream offset, Cellar address, length) of the data of a FULL or DELTA stream as received so far. -/
def guestSegs (base : Nat) (b : List Byte) (total : Nat) : Nat → Nat → List (Nat × Nat × Nat)
  | 0, _ => []
  | f + 1, pos =>
    if b.length < pos + 64 || total < pos + 128 then []
    else
      let r := ofBytes ((b.drop pos).take 64)
      let elems := bits r 128 40
      let slots := (List.range (bits r 12 2 + 1)).map fun k =>
        (bits r (64 * k + 192) 40, cdiv (elems * (if bits r (64 * k + 232) 6 == 2 then 2 else 4)) 64 * 64)
      let (segs, nxt) := slots.foldl (fun (st : List (Nat × Nat × Nat) × Nat) (o, n) => (st.1 ++ [(st.2, base + o, n)], st.2 + n)) ([], pos + 64)
      (pos + 8, base + 4096 + 16 * bits r 0 12, 8) :: segs ++ guestSegs base b total f nxt

/-- Write what has newly arrived, and poison what arrived poisoned. -/
def State.applySegs (s : State) (segs : List (Nat × Nat × Nat)) (b : List Byte) (old : Nat) (poison : List Nat) : State :=
  segs.foldl (fun st (o, a, n) =>
    let lo := max o old
    let hi := min (o + n) b.length
    if hi ≤ lo then st else
    let st := st.wrBytes .cellar (a + (lo - o)) ((b.drop lo).take (hi - lo))
    (poison.filter fun p => lo ≤ 32 * p && 32 * p + 32 ≤ hi).foldl (fun st p => st.poison .cellar (a + (32 * p - o)) 32) st) s

/-- An acknowledgement or refusal frame (R388, R389). -/
def State.exReply (s : State) (h err : Nat) : State :=
  let g := fhGroup h
  let m := fhSrc h
  s.plSend (s.memberPorts g m) 0 m (frameWord 0x40 7 true (if err == 0 then 1 else 0) g 2 (fhTag h) err (bits h 144 16) m 0 0 (fhStep h), [])

/-- Why a FULL or DELTA stream is refused (R389). -/
def State.guestRefuses (s : State) (h : Nat) : Bool :=
  let g := s.guestHeader
  shVersion h / 16 != 1 || s.odv K.guestBytes < shBankBytes h || s.odv K.guestBytes == 0
    || (shKind h == 1 && (shBase h != (ghNext g + 2 ^ 64 - 1) % 2 ^ 64 || shSource h != ghSource g))

/-- Why an image is refused; 0 where it is not (R418). -/
def State.restoreRefuses (s : State) (h : Nat) : Nat :=
  let mode := s.odv K.guestRestore
  (firstErr [(mode == 0 || s.odv K.gzState == 1, Err.exState),
    (s.odv K.bankBytes < shBankBytes h || shGroups h != s.cap K.gzGroupCount, Err.exLayout),
    (shTorn h && mode == 1, Err.exTorn)]).getD 0

def ExRx.isOf (r : ExRx) (h : Nat) : Bool := r.group == fhGroup h && r.src == fhSrc h
def State.setRx (s : State) (r : ExRx) (keep : Bool) : State :=
  { s with ex := { s.ex with rx := (s.ex.rx.filter fun x => !(x.group == r.group && x.src == r.src && x.image == r.image)) ++ (if keep then [r] else []) } }

/-- A whole stream: is its CRC right (R387)? -/
def crcOk (b : List Byte) (total : Nat) : Bool :=
  b.length == total && 128 ≤ total && ofBytes ((b.drop (total - 60)).take 4) == crc32c (b.take (total - 64))

/-- The Guest room's header at the end of a stream, STATUS last (R388). -/
def State.guestComplete (s : State) (h : Nat) : State :=
  let b := s.odv K.guestBase
  let s := s.wr .cellar b 8 ((shStep h + 1) % 2 ^ 64)
  let s := s.wr .cellar (b + 9) 3 (shBanks h + shGroups h * 2 ^ 8)
  let s := s.wr .cellar (b + 12) 4 (shSource h + shGroup h * 2 ^ 16)
  let s := s.wr .cellar (b + 24) 1 (shVersion h)
  (s.wr .cellar (b + 8) 1 1).count Ctr.guestApplied 1

/-- The restored bank becomes current (R25, R29, R418). -/
def State.restoreComplete (s : State) (h : Nat) : State :=
  let step := s.odv K.guestStep
  let banks := s.odv K.bankCount
  let b := step % max 1 banks
  let s := s.wr .cellar (s.bankAddr b) 64 (step + 2 ^ 64 + banks * 2 ^ 72 + shGroups h * 2 ^ 80)
  let last := (List.range (shGroups h)).foldl (fun m n => aset 0 m n step) s.ex.lastChange
  (((({ s with ex := { s.ex with lastChange := last } }).advanceBank b).setOd K.guestRestore 0).raise Bell.guestRestored)

/-- A frame of a stream arrives: `image` says which command receives it, FULL and DELTA or IMAGE. -/
def State.streamFrame (s : State) (image : Bool) (port h : Nat) (b : List Byte) (poison : List Nat) : State :=
  let s := s.demand [13]
  let _ := port
  let first := fhChunk h == 0
  let hd := ofBytes (b.take 64)
  if first && (shKind hd == 2) != image then s
  else
    let s := if !first then s else
      let r : ExRx := { group := fhGroup h, src := fhSrc h, image := image, refused := false, bytes := [], poison := [] }
      let err := if image then s.restoreRefuses hd else if s.guestRefuses hd then Err.exBuddy else 0
      let s := s.setRx { r with refused := err != 0 } true
      if err != 0 then (if image then s else s.count Ctr.guestRefused 1).exReply h err
      else if image then s
      else
        let a := s.odv K.guestBase
        (s.wr .cellar (a + 8) 1 0).wr .cellar (a + 16) 8 (shStep hd)
    match s.ex.rx.find? fun r => r.isOf h && r.image == image with
    | none => s
    | some r =>
      if r.refused then s.setRx r (!fhLast h)
      else
        let old := r.bytes.length
        let all := r.bytes ++ b
        let pois := r.poison ++ poison.map fun p => p + old / 32
        let hd := ofBytes (all.take 64)
        let total := shBytes hd
        let segs := if image then
            [(64, s.bankAddr (s.odv K.guestStep % max 1 (s.odv K.bankCount)), shBankBytes hd)]
          else guestSegs (s.odv K.guestBase) all total (all.length / 64 + 1) 64
        let s := s.applySegs segs all old pois
        if !fhLast h then s.setRx { r with bytes := all, poison := pois } true
        else
          let s := s.setRx r false
          if !crcOk all total then (if image then s else s.count Ctr.guestRefused 1).exReply h Err.exBuddy
          else (if image then s.restoreComplete hd else s.guestComplete hd).exReply h 0

/-! ### Glazia letters (R354 to R361, R371, R377) -/

/-- OPEN (R27, R355, R356, R381). -/
def State.openLetter (s : State) (q : Nat) : State :=
  match s.gzHead q (· == 1) with
  | none => s
  | some (c, l) =>
    match firstErr (gzChecks s c l ++ [(s.odv K.gzState == 1, Err.gzState), (s.gzBankBad l.step, Err.gzBank), (s.gzTableBad, Err.gzGroup)]) with
    | some e => s.refuseLetter c 12 e l
    | none =>
      let b := s.openTarget l.step
      let holds := s.exportHolds b
      let s := if holds then (s.count Ctr.exOverruns 1).raise Bell.exportLate else s
      if holds && s.cap K.exOverrun == 0 then
        let n := noSlot s
        let p := mkPart s c l ⟨none, n, n, n, n⟩
        let s := ((s.advanceHead c).launch .glazia 0 [{ p with d := none, s := none, rows := 0 }]).demand [12]
        ({ s with gz := { s.gz with waiting := some (c.q, c.head) } }).setOd K.exState 2
      else
        let s := if holds then s.abandonExport b else s
        let (s1, late) := s.gzTake c
        ((s1.gzLatch l).gzOpenCommit l.step).gzComplete c l late s.tick

/-- The update ends when a latched group record is found bad (R377). -/
def State.gzEndUpdate (s : State) : State := s.setOd K.gzState 0

/-- PIECE (R357, R359). -/
def State.pieceLetter (s : State) (q : Nat) : State :=
  match s.gzHead q (· == 2) with
  | none => s
  | some (c, l) =>
    let n := bits l.param0 0 12
    match firstErr (gzChecks s c l) with
    | some e => s.refuseLetter c 12 e l
    | none =>
      match s.gzPieceErr l with
      | some e => s.refuseLetter c 12 e l
      | none =>
        if s.gz.badGroups.contains n then (s.refuseLetter c 12 Err.gzGroup l).gzEndUpdate
        else
          let x := noSlot s
          let p := mkPart s c l ⟨none, x, x, x, x⟩
          let s := ((s.advanceHead c).launch .glazia 0 [{ p with d := none, s := none, rows := 0 }]).demand [12]
          let s := if s.gzFrozen n && s.gzUntouched n then s.count Ctr.glaziaFrozen 1 else s
          let keys := (List.range (bits l.param1 0 32)).map fun i => gzKey n (bits l.param0 32 32 + i)
          ({ s with gz := { s.gz with todo := keys, busy := keys } }).gzDealAll 8

/-- CLOSE (R361). -/
def State.closeLetter (s : State) (q : Nat) : State :=
  match s.gzHead q (· == 3) with
  | none => s
  | some (c, l) =>
    match firstErr (gzChecks s c l ++ [(s.odv K.gzState == 0, Err.gzState)]) with
    | some e => s.refuseLetter c 12 e l
    | none =>
      if !s.gz.badGroups.isEmpty then (s.refuseLetter c 12 Err.gzGroup l).gzEndUpdate
      else if s.gzIncomplete then s.refuseLetter c 12 Err.gzIncomplete l
      else
        let (s1, late) := s.gzTake c
        (s1.gzClose c.q c.head l).gzComplete c l late s.tick

/-- QUANT (R371, R372). -/
def State.quantLetter (s : State) (q : Nat) : State :=
  match s.gzHead q (· == 4) with
  | none => s
  | some (c, l) =>
    let a := readSlot s l.slotA
    let d := readSlot s l.slotD
    match s.quantErr c l a d with
    | some e => s.refuseLetter c 12 e l
    | none =>
      if s.odv K.gzState == 1 && s.gz.badGroups.contains (bits l.param0 0 12) then (s.refuseLetter c 12 Err.gzGroup l).gzEndUpdate
      else
        let (s1, late) := s.gzTake c
        (s1.gzQuant l a.desc d.desc).gzComplete c l late s.tick

/-- GZ_UNKNOWN_PROG (R354). -/
def State.gzUnknown (s : State) (q : Nat) : State :=
  match s.gzHead q (fun p => !(1 ≤ p && p ≤ 4)) with
  | none => s
  | some (c, l) => s.refuseLetter c 12 ((firstErr (gzChecks s c l)).getD Err.gzState) l

/-! ### The end of any letter (R221) -/

/-- LETTER_COMPLETION of letter seq of queue q. -/
def State.completeLetter (s : State) (q seq : Nat) : State :=
  match s.lb.ops.find? fun o => o.parts.any fun p => p.queue == q && p.seq == seq with
  | none => s
  | some o =>
    if o.target == .peloton then (if o.error != 0 || o.finished then s.endCollective o else s)
    else s.letterCompletion q seq

end Sys2Proof.Machine
end

