-- ==== Sys2Proof/Machine/Power.lean ====
section
/-! DEFINITION. Power states (14, R491 to R494), the ports' states (16, R535 to R537) and what a start resets (14, R502 to
R506; 17, R567 to R569). -/

namespace Sys2Proof.Machine

namespace K
def wakeCause : Nat := okey 0x01034 0
def xaSessions : Nat := okey 0x0B106 0
def mboxSession : Nat := okey 0x0B120 0
def tandemState : Nat := okey 0x03002 0
def swapCount : Nat := okey 0x03003 0
def swapTick : Nat := okey 0x03004 0
def dirty : Nat := okey 0x03005 0
def bootSlot : Nat := okey 0x0B000 0
def runningSlot : Nat := okey 0x0B001 0
def rollback : Nat := okey 0x0B002 0
def fwImage : Nat := okey 0x0B010 0
def fwState : Nat := okey 0x0B012 0
def debugNonce : Nat := okey 0x0B030 0
def spdmReq : Nat := okey 0x0B040 0
def spdmRsp : Nat := okey 0x0B041 0
def plcaId : Nat := okey 0x0B101 0
def bringupHold : Nat := okey 0x01013 0
end K

/-- Is the module idle (R492)? -/
def State.idle (s : State) : Bool :=
  s.lb.ops.isEmpty && s.lb.gathers.isEmpty && !(s.lb.queues.any fun c => s.headReady c) && s.lb.fin.isEmpty && s.odv K.gzState == 0
    && s.odv K.exState == 0 && !(s.pel.runs.any fun r => !r.stopped) && s.pel.frames.isEmpty && s.ex.rx.isEmpty
    && s.dict.transfers.isEmpty

/-- The state of the power-state machine in which requests are judged: a module that runs. -/
def State.powered (s : State) : Bool := s.pwr.pwrGood && !s.pwr.inReset && !s.pwr.thermtrip

/-- Close every session (R459, R467, R494). -/
def State.closeSessions (s : State) : State := { s with dict := { s.dict with sessions := [] } }

/-- Entry to Housekeeping: the fast PLLs are off and the stations' clocks stand (R491, R492). -/
def State.enterHousekeeping (s : State) : State :=
  let s := ((s.setPll 0 0 0).setPll 1 0 0).setPll 3 0 0
  ((s.setOd K.clkRunning (s.odv K.clkRunning % 16)).setOd K.pwrState 1).count Ctr.pwrHk 1

/-- Entry to Pilot: MGMT_PLL is off, the harts halt with their state kept, sessions close (R491, R494). -/
def State.enterPilot (s : State) : State :=
  let s := (s.setPll 2 0 0).setOd K.clkRunning 9
  ((s.setOd K.pwrState 0).count Ctr.pwrPilot 1).closeSessions

/-- A wake from Pilot to Housekeeping (R492): its cause is recorded. -/
def State.leavePilot (s : State) (cause : Nat) : State :=
  if s.odv K.pwrState != 0 then s
  else
    let s := (s.setOd K.pwrState 1).setPll 2 2 0
    (((s.retunePlls).setOd K.clkRunning 15).setOd K.wakeCause cause).count Ctr.pwrHk 1

/-- Is any enabled source pending (R492, R513)? -/
def State.anyEnabledHigh (s : State) : Bool := s.bell.level.any fun n => !(s.bellTargetsOf n).isEmpty

/-- PILOT_WAKE (R492, R521): cause 1 needs an enabled source that is high, 2 is the wake frame, 3 and 4 a PERST# that is
no longer asserted. -/
def State.pilotWake (s : State) (cause : Nat) : State :=
  if !s.powered || s.odv K.pwrState != 0 || s.odv K.bringupStage == 0 then s
  else if cause == 1 then (if s.anyEnabledHigh then (s.leavePilot 1).count Ctr.bellWakes 1 else s)
  else if cause == 3 then (if s.pwr.perstLow0 then s else s.leavePilot 3)
  else if cause == 4 then (if s.pwr.perstLow1 then s else s.leavePilot 4)
  else if cause == 2 then s.leavePilot 2 else s

/-- May a power-state request be carried out (R492)? -/
def State.pwrReqOk (s : State) (v : Nat) : Bool :=
  let st := s.odv K.pwrState
  let perst := s.pwr.perstLow0 && s.pwr.perstLow1
  if v == 1 then (st == 2 && s.idle && perst) || (st == 1 && perst)
  else if v == 2 then (st == 2 && s.idle) || st == 0
  else st == 1 && 2 ≤ s.odv K.bringupStage

/-- A power-state request that is allowed (R492); in Pilot it is the wake frame (R493). -/
def State.pwrReq (s : State) (v : Nat) : State :=
  let st := s.odv K.pwrState
  if v == 1 then (if st == 2 then s.enterHousekeeping.enterPilot else s.enterPilot)
  else if v == 2 then (if st == 0 then s.leavePilot 2 else s.enterHousekeeping)
  else (s.setOd K.pwrState 2).startPll 1

/-- PWR_HK_IDLE (R492): idle for PWR_HK_IDLE_MS; 0 means never. -/
def State.hkIdle (s : State) : State :=
  if !s.powered || s.odv K.pwrState != 2 || !s.idle || s.cap (okey 0x01031 0) == 0 then s else s.enterHousekeeping

/-- WAKE_TO_SERVICE (R486, R492): a demand on a station, or with none an inbound access. -/
def State.wakeToService (s : State) (stations : List Nat) : State :=
  if !s.powered then s else s.wake.demand stations

/-! ### Ports (R535 to R537) -/

/-- A port changes its state (R537). -/
def State.setPort (s : State) (p st width rate : Nat) : State :=
  (((s.setOd (K.portState p) st).setOd (K.portWidth p) width).setOd (K.portRate p) rate).raise Bell.cxlLink

/-- Port 0's function configuration returns to its defaults (R503, R537): MSI-X table, masks and pending bits. -/
def State.functionDefaults (s : State) : State :=
  { s with bell := { s.bell with unmasked := [], functionMask := false, pendingBits := [], msix := [] } }

/-- A port goes DOWN (R537): its Peloton chunks are torn (R407), and what it carried is lost. -/
def State.linkDown (s : State) (p : Nat) : State :=
  if 2 ≤ p || s.odv (K.portState p) == 0 then s
  else ((s.setPort p 0 0 0).count (Ctr.linkDowns + p) 1).plPortDown p

/-- A port begins to train (R536). -/
def State.linkTrain (s : State) (p : Nat) : State :=
  let lo := if p == 0 then s.pwr.perstLow0 else s.pwr.perstLow1
  if 2 ≤ p || lo || s.odv (K.portState p) != 0 then s else s.setPort p 1 0 0

/-- May a port's link be up in the present stage (R535, R495)? -/
def State.portAllowed (s : State) (p : Nat) : Bool :=
  s.powered && (if p == 0 then 1 ≤ s.odv K.bringupStage else s.odv K.bringupStage == 3) && s.odv K.pwrState != 0

/-- LINK_TRAINED (R536): the highest common width and rate; no common ×4 and 32 GT/s leaves the port DOWN. The operands
are the greatest width and rate of the other side. -/
def State.linkTrained (s : State) (p width rate : Nat) : State :=
  if 2 ≤ p || s.odv (K.portState p) != 1 || !s.portAllowed p then s
  else
    let w := if 16 ≤ width then 16 else if 8 ≤ width then 8 else if 4 ≤ width then 4 else 0
    let r0 := min rate (s.odv (K.portMaxRate p))
    let r := if 128 ≤ r0 then 128 else if 64 ≤ r0 then 64 else if 32 ≤ r0 then 32 else 0
    if w == 0 || r == 0 then s.setPort p 0 0 0 else (s.setPort p 2 w r).count (Ctr.retrains + p) 1

/-- LINK_RETRY (R536): a port that is DOWN tries again. -/
def State.linkRetry (s : State) (p : Nat) : State := if s.portAllowed p then s.linkTrain p else s

/-- REFCLK_GATE of reference clock r (R473, R474), which is port r's: a port whose clock becomes absent goes DOWN, and one
whose clock returns trains at once (R537). -/
def State.refclkPort (s : State) (r count : Nat) : State :=
  let t := s.refclkGate r count
  if s.srcIsReady (2 + r) && !t.srcIsReady (2 + r) then t.linkDown r
  else if !s.srcIsReady (2 + r) && t.srcIsReady (2 + r) then t.linkRetry r else t

/-- PERST_ASSERT (R537): port 0's function configuration returns to its defaults and the mailbox session closes. -/
def State.perstAssert (s : State) (p : Nat) : State :=
  if p == 0 then
    let s := { s with pwr := { s.pwr with perstLow0 := true } }
    let s := { s.functionDefaults with dict := { s.dict with sessions := s.dict.sessions.filter fun x => x.peer.isSome } }
    s.linkDown 0
  else if p == 1 then ({ s with pwr := { s.pwr with perstLow1 := true } }).linkDown 1 else s

/-- PERST_DEASSERT (R492, R537): a module in Pilot wakes, and the port retrains. -/
def State.perstDeassert (s : State) (p : Nat) : State :=
  if 2 ≤ p then s
  else
    let s := if p == 0 then { s with pwr := { s.pwr with perstLow0 := false } } else { s with pwr := { s.pwr with perstLow1 := false } }
    (s.pilotWake (3 + p)).linkRetry p

/-! ### What a start resets -/

/-- Objects of one value that a keep-house reset returns to their defaults (R504, R505). -/
def keepHouseLost (key : Nat) : Bool :=
  let idx := key / 256
  let sub := key % 256
  (0x01100 ≤ idx && idx ≤ 0x01103 && 1 ≤ sub && sub ≤ 4) || key == okey 0x01004 0 || key == K.clkEnable || key == K.clkRunning
    || key == K.bringupStage || key == K.bringupFaults || key == K.pwrState || key == K.frontMode || key == K.backMode
    || key == K.guestRestore || key == K.gzState || key == K.exState || key == K.tandemState || key == K.libState
    || key == K.libVersion || key == K.libPrograms || key == K.recipeDrops || key == K.quarDrops || key == okey 0x0B107 0
    || key == okey 0x0A001 0 || key == okey 0x0A002 0 || key == K.fwState
    || ((idx == 0x0B200 || idx == 0x0B201) && sub != 4)

/-- Pins and watches that a start does not touch: the Pilot domain runs on. -/
def PwrState.begin (p : PwrState) (kind : Nat) (held : Bool) : PwrState :=
  { p with starting := kind, inReset := held, released := false, frontNext := none, coolSamples := 0, noFirmware := false, supplyFault := false }

/-- Images being written when a reset comes leave their slot unverifiable (R553). -/
def SecState.tearWrite (x : SecState) (running : Nat) : SecState :=
  match x.writing with
  | none => x
  | some _ => if running == 0 then { x with slotB := [], writing := none } else { x with slotA := [], writing := none }

/-- What a keep-house reset keeps and loses (R503 to R506). -/
def State.keepHouse (s : State) (cause : Nat) : State :=
  let r := State.reset
  let held := s.pwr.keepHouseLow
  let s := ([0, 1] : List Nat).foldl (fun s p => if s.odv (K.portState p) == 0 then s else s.setPort p 0 0 0) s
  let t : State := { s with
    larder := r.larder
    od := (s.od.filter fun x => !keepHouseLost x.1)
    lb := r.lb, rooms := r.rooms, porch := r.porch, ws := r.ws
    gz := { r.gz with image := s.gz.image }
    ex := { r.ex with lastChange := s.ex.lastChange, forceFull := s.ex.forceFull }
    pel := { r.pel with quarTiles := s.pel.quarTiles, idleSince := s.tick, expelled := s.pel.expelled }
    dict := { r.dict with savedTrims := s.dict.savedTrims, notifySeq := s.dict.notifySeq }
    meter := r.meter, mtr := r.mtr
    pwr := s.pwr.begin 2 held
    cxl := r.cxl
    sec := { s.sec.tearWrite (s.odv K.runningSlot) with unlocked := false, spdm := [], libActive := [] }
    bell := { s.bell with
      level := s.bell.level.filter fun n => bellLatched n
      targets := []
      unmasked := [], functionMask := false, pendingBits := [], msix := [] } }
  (t.setOd K.resetCause cause).recipeLevel

/-- What a cold start keeps: the Pilot domain, fuses, configuration flash, pins and test port; everything else returns
to its default and the memories' contents are lost (R502, R443, R447). -/
def State.cold (s : State) (cause : Nat) : State :=
  let r := State.reset
  let keys : List Nat := [K.srcReady, K.pilotSrc, K.plcaId, K.rollback]
  let od := keys.foldl (fun m k => aset (odDefault k) m k (s.odv k)) r.od
  let od := s.dict.savedTrims.foldl (fun m x => aset (odDefault x.1) m x.1 x.2) od
  let od := s.pwr.saved.foldl (fun m x => aset (odDefault x.1) m x.1 x.2) od
  let t : State := { r with
    pending := s.pending, host := s.host, od := od, tick := s.tick, freeCtr := s.freeCtr, sent := s.sent
    dict := { r.dict with savedTrims := s.dict.savedTrims }
    pwr := { (s.pwr.begin 1 s.pwr.keepHouseLow) with
      trained := false, retrain := false, resets := [], poolsBuilt := [], lostSrc := [], thermtrip := false }
    sec := { s.sec.tearWrite (s.odv K.runningSlot) with unlocked := false, spdm := [], libActive := [] }
    tap := s.tap }
  t.setOd K.resetCause cause

/-- The regulators stop (R569, R490): everything but the Pilot supply's domain is lost. -/
def State.powerOff (s : State) : State :=
  let t := s.cold (s.odv K.resetCause)
  { t with
    od := aset (odDefault K.clkRunning) t.od K.clkRunning (if s.pwr.auxOn then 9 else 0)
    pwr := { t.pwr with pwrGood := false, starting := 0 } }

/-- THERMTRIP (R490): the next start is a cold start with cause 0x06. -/
def State.thermTrip (s : State) : State :=
  if !s.pwr.pwrGood then s
  else
    let t := s.powerOff
    { t with pwr := { t.pwr with thermtrip := true, cause := 6 } }

/-- A supply event of R569 other than the loss of the auxiliary input: PWR_GOOD falls and ALERT# asserts. -/
def State.supplyLost (s : State) : State :=
  if !s.pwr.pwrGood then s
  else
    let t := s.powerOff
    { t with pwr := { t.pwr with supplyFault := true, cause := if s.pwr.cause == 6 then 6 else 1 } }

/-- MAIN_INPUT_FAULT. -/
def State.mainFault (s : State) : State :=
  let t := s.supplyLost
  { t with pwr := { t.pwr with mainOn := false } }

/-- PWR_EN_FALL: it also ends a THERMTRIP latch (R490). -/
def State.pwrEnFall (s : State) : State :=
  let t := s.supplyLost
  { t with pwr := { t.pwr with pwrEn := false, thermtrip := false } }

/-- AUX_INPUT_FAULT: the Pilot domain stops too, so every count it keeps is lost. -/
def State.auxFault (s : State) : State :=
  let t := s.powerOff
  { t with pwr := { t.pwr with auxOn := false, thermtrip := false, cause := 1, supplyFault := false } }

/-- AUX_POWER_ON (R450, R475, R568): the Pilot domain starts from the oscillator and PLCA_ID is sampled. -/
def State.auxOnEvent (s : State) (plca : Nat) : State :=
  if s.pwr.auxOn then s
  else
    let w : SrcWatch := ⟨0, false, 0, 0, 0, false, 0, 0, 0, 0⟩
    let t := { s with
      tick := 0
      bell := State.reset.bell
      pwr := { s.pwr with auxOn := true, plcaPins := plca % 32, watch := w } }
    (((t.setOd K.srcReady 1).setOd K.pilotSrc 0).setOd K.plcaId (plca % 32)).setOd K.clkRunning 9

/-- REGULATOR_START (R568): PWR_EN is high and both inputs are in range; PWR_GOOD rises and BS0 begins. -/
def State.regulatorStart (s : State) : State :=
  if !s.pwr.auxOn || s.pwr.pwrGood || s.pwr.thermtrip then s
  else
    let t := s.cold (if s.pwr.cause == 6 then 6 else 1)
    { t with pwr := { t.pwr with pwrEn := true, mainOn := true, pwrGood := true, cause := 1 } }

/-- A reset is asked for (R502, R507): 2 the pin, 3 and 4 RESET_CMD, 5 a watchdog. -/
def State.askReset (s : State) (cause : Nat) : State :=
  if !s.pwr.pwrGood || s.pwr.thermtrip then s else { s with pwr := { s.pwr with resets := s.pwr.resets ++ [cause] } }

/-- KEEP_HOUSE_PIN (R502, R575): low for 400 ns or more. -/
def State.keepHousePin (s : State) : State :=
  if !s.pwr.pwrGood || s.pwr.thermtrip then s
  else ({ s with pwr := { s.pwr with keepHouseLow := true } }).askReset 2

/-- KEEP_HOUSE_RESET_BEGIN (R503): without stored training results the reset trains in full, as a cold start. -/
def State.keepHouseBegin (s : State) : State :=
  match s.pwr.resets.find? fun c => c != 4 with
  | none => s
  | some c =>
    let s := { s with pwr := { s.pwr with resets := [] } }
    if !s.pwr.trained || s.pwr.retrain then s.cold 7 else s.keepHouse c

/-- COLD_START_BEGIN (R502). -/
def State.coldBegin (s : State) : State := if s.pwr.resets.contains 4 then s.cold 4 else s

/-- KEEP_HOUSE_RISE (R503): bring-up starts. -/
def State.keepHouseRise (s : State) : State := { s with pwr := { s.pwr with keepHouseLow := false, inReset := false } }

end Sys2Proof.Machine
end

