-- ==== Sys2Proof/Machine/Security.lean ====
section
/-! DEFINITION. Firmware images, secure boot, owner keys, debug lock, attestation and the test port (16, R549 to R559;
17, R577, R578). -/

namespace Sys2Proof.Machine

/-! ### Images (R549, R550) -/

/-- The bytes of one image at the front of a run of bytes, and what follows: the header's BODY_BYTES gives its size. -/
def cutImage (b : List Byte) : List Byte × List Byte :=
  let n := 2112 + bits (ofBytes (b.take 64)) 192 32
  (b.take n, b.drop n)

/-- A slot's three images, in the order of their types (R553). -/
def slotImages (b : List Byte) : List (List Byte) :=
  let a := cutImage b
  let c := cutImage a.2
  let d := cutImage c.2
  [a.1, c.1, d.1]

def imgHeader (img : List Byte) : Nat := ofBytes (img.take 64)
def imgSvn (img : List Byte) : Nat := bits (imgHeader img) 128 8
def imgLimit (ty : Nat) : Nat := if ty == 1 then 8 * 2 ^ 20 else if ty == 2 then 2 ^ 20 else 16 * 2 ^ 20

/-- The active owner key hash: the one fused last (R554). -/
def State.ownerHash (s : State) : Option (List Byte) := s.sec.ownerKeys.getLast?

/-- Does an image carry valid signatures? The owner's is asked for when a hash is given (R550). -/
def imgSigned (owner : Option (List Byte)) (img : List Byte) : Bool :=
  let body := img.take (img.length - 1024)
  decide (Config.sha512 ((img.drop 64).take 512) = Config.vendorKeyHash)
    && Config.signatureOk 0 (body ++ (img.drop (img.length - 1024)).take 512)
    && (match owner with
        | none => true
        | some h => decide (Config.sha512 ((img.drop 576).take 512) = h)
            && Config.signatureOk 1 (body ++ img.drop (img.length - 512)))

/-- Does an image verify as type ty (R550)? -/
def State.imgVerifies (s : State) (ty : Nat) (img : List Byte) : Bool :=
  let h := imgHeader img
  decide (2112 ≤ img.length) && decide (img.length = 2112 + bits h 192 32) && bits h 0 32 == 0x48594D49 && bits h 32 8 == ty
    && decide (img.length ≤ imgLimit ty) && decide (imgSvn img ≤ 64) && decide (s.odv K.rollback ≤ imgSvn img)
    && imgSigned s.ownerHash img

/-- Do a slot's three images verify (R551)? -/
def State.slotVerifies (s : State) (b : List Byte) : Bool :=
  match slotImages b with
  | [x, y, z] => s.imgVerifies 1 x && s.imgVerifies 2 y && s.imgVerifies 3 z
  | _ => false

def SecState.slot (x : SecState) (n : Nat) : List Byte := if n == 0 then x.slotA else x.slotB
def SecState.setSlot (x : SecState) (n : Nat) (b : List Byte) : SecState :=
  if n == 0 then { x with slotA := b } else { x with slotB := b }

/-- The image of type ty in the running slot. -/
def State.runningImage (s : State) (ty : Nat) : List Byte := (slotImages (s.sec.slot (s.odv K.runningSlot))).getD (ty - 1) []

/-- A 32-byte value the spec leaves open, such as a nonce. -/
def State.free32 (s : State) : List Byte × State :=
  let (n, s) := s.free
  (leBytes 32 n, s)

/-! ### Commits (R552 to R554) -/

/-- The smallest SVN of the running slot (R552). -/
def State.runningSvn (s : State) : Nat := ((slotImages (s.sec.slot (s.odv K.runningSlot))).map imgSvn).foldl min 64

/-- SEC_SVN_COMMIT: F rises, and never falls. -/
def State.svnCommit (s : State) : State := s.setOd K.rollback (max (s.odv K.rollback) s.runningSvn)

/-- SEC_FW_COMMIT of images that verify: their writing into the slot that is not running starts (R553). -/
def State.fwCommit (s : State) : State :=
  { s.setOd K.fwState 1 with sec := { s.sec with writing := some (s.domain K.fwImage) } }

/-- FW_WRITE_DONE. -/
def State.fwWriteDone (s : State) : State :=
  match s.sec.writing with
  | none => s
  | some b => { s.setOd K.fwState 2 with sec := { s.sec.setSlot (1 - s.odv K.runningSlot) b with writing := none } }

/-- Do the images of both slots carry owner signatures by the key of a hash (R554)? -/
def State.bothSigned (s : State) (hash : List Byte) : Bool :=
  (slotImages s.sec.slotA ++ slotImages s.sec.slotB).all (imgSigned (some hash))

/-- SEC_OWNER_KEY_NEXT: the hash is fused into the next empty slot and becomes active. -/
def State.fuseOwner (s : State) (hash : List Byte) : State :=
  { s with sec := { s.sec with ownerKeys := s.sec.ownerKeys ++ [hash] } }

/-- The serial number of a module: 1 to 16 printable characters, padded with zeros (R6); it differs from module to module. -/
def serialBytes : List Byte :=
  let v := Config.moduleValue (okey 0x00003 0)
  let n := v % 16 + 1
  (List.range 16).map fun i => if i < n then BitVec.ofNat 8 (33 + v / 16 / 94 ^ i % 94) else 0

/-- A globally unique, universally administered unicast address (R463): the low two bits of its first byte are 0. -/
def macValue : Nat := Config.moduleValue (okey 0x0B100 0) % 2 ^ 48 / 4 * 4

/-- Does an unlock token verify (R556)? It is bound to the serial number and to the present nonce. -/
def State.tokenOk (s : State) (token : List Byte) : Bool :=
  Config.signatureOk 3 (serialBytes ++ leBytes 32 (s.odv K.debugNonce) ++ token)

/-! ### Attestation (R557 to R559) -/

/-- The measurements of this moment (R558). -/
def State.measurements (s : State) : List (List Byte) :=
  let fuse := leBytes 1 (s.odv K.rollback) ++ s.ownerHash.getD (List.replicate 64 0) ++ leBytes 1 1 ++ leBytes 1 (if s.sec.unlocked then 1 else 0)
  let rules := (List.range 16384).flatMap fun i => leBytes 4 (aget 0 s.gz.image i)
  [Config.bootRom, s.runningImage 1, s.runningImage 2, s.sec.libActive, fuse, rules].map Config.sha512

/-- An SPDM request on a path (0 and 1 the DOE of the ports, 2 Xaxia): a GET_VERSION (code 0x84) starts the connection
afresh; the response's bytes are DMTF SPDM's (free, log 45). -/
def State.spdm (s : State) (path : Nat) (req : List Byte) : List Byte × State :=
  let old := if req.getD 1 0 == 0x84 then [] else aget [] s.sec.spdm path
  let conv := old ++ req
  let rsp := (Config.spdmResponse path conv s.measurements).take 65536
  (rsp, { s with sec := { s.sec with spdm := aset [] s.sec.spdm path (conv ++ rsp) } })

/-- SPDM_REQUEST over a port's DOE (R548, R557), or, at path 2, the processing of SEC_SPDM_REQ at END (R559). -/
def State.spdmRequest (s : State) (path : Nat) (req : List Byte) : State :=
  if path == 2 then
    let (rsp, t) := s.spdm 2 req
    (t.setDomain K.spdmReq req).setDomain K.spdmRsp rsp
  else if path < 2 && s.odv (K.portState path) == 2 then
    let (rsp, t) := s.spdm path req
    t.send (.frame 0x10 0 path rsp [])
  else s

/-! ### The test port (R555, R556, R577, R578) -/

/-- TAP_RESET: IDCODE (1) is the instruction in force. -/
def State.tapReset (s : State) : State := if s.pwr.auxOn then { s with tap := { s.tap with ir := 1, scanned := none } } else s

/-- EXTEST (2), EXTEST_PULSE (3) or EXTEST_TRAIN (4), with the pins scanned: only in BS0 or the Pilot power state;
otherwise BYPASS (0) is loaded in its place and no pin is driven. -/
def State.extest (s : State) (which pins : Nat) : State :=
  if !s.pwr.auxOn then s
  else if (s.odv K.bringupStage == 0 || s.odv K.pwrState == 0) && which < 3 then
    { s with tap := { s.tap with ir := 2 + which, scanned := some pins } }
  else { s with tap := { s.tap with ir := 0, scanned := none } }

/-- RECOVERY_LOAD (R555), in BS0: images that verify go into slot A, SEC_BOOT_SLOT becomes A and the module starts
again; 1 reads back for written, 2 for refused. -/
def State.recoveryLoad (s : State) (b : List Byte) : State :=
  if !s.pwr.pwrGood || s.odv K.bringupStage != 0 then { s with tap := { s.tap with ir := 0, scanned := none } }
  else if s.slotVerifies b then
    let t := (({ s with sec := { s.sec with slotA := b } }).setOd K.bootSlot 0)
    let t := { t with pwr := { t.pwr with saved := aset 0 t.pwr.saved K.bootSlot 0 } }
    let kind := t.pwr.starting
    let t := t.setPll 2 0 0
    { t with
      tap := { t.tap with ir := 5, scanned := none, recovery := 1 }
      pwr := { t.pwr.begin kind t.pwr.keepHouseLow with noFirmware := false } }
  else { s with tap := { s.tap with ir := 5, scanned := none, recovery := 2 } }

end Sys2Proof.Machine
end

