-- ==== Sys2Proof/Machine/Dictionary.lean ====
section
/-! DEFINITION. The object dictionary (13, R425 to R449, R582 to R584): where an object lies, what it reads, the checks of
an access in their order, and what a write does. -/

namespace Sys2Proof.Machine

/-! Abort codes (R468). -/
namespace Abort
def badHeader : Nat := 0x01000001
def version : Nat := 0x01000002
def unknownType : Nat := 0x01000003
def badLength : Nat := 0x01000004
def blockSequence : Nat := 0x01000005
def blockTimeout : Nat := 0x01000006
def blockCrc : Nat := 0x01000007
def noObject : Nat := 0x02000001
def noSubindex : Nat := 0x02000002
def reservedIndex : Nat := 0x02000003
def typeMismatch : Nat := 0x02000004
def needsBlock : Nat := 0x02000005
def readOnly : Nat := 0x03000001
def writeOnly : Nat := 0x03000002
def bringUpOnly : Nat := 0x03000003
def notTandem : Nat := 0x03000004
def outOfRange : Nat := 0x04000001
def badEncoding : Nat := 0x04000002
def alignment : Nat := 0x04000003
def tooLarge : Nat := 0x04000004
def imageInvalid : Nat := 0x04000005
def notReady : Nat := 0x05000001
def swapPending : Nat := 0x05000002
def busy : Nat := 0x05000003
def wrongState : Nat := 0x05000004
def needOwner : Nat := 0x06000001
def authFailed : Nat := 0x06000002
def badMac : Nat := 0x06000003
def replay : Nat := 0x06000004
def sessionUnknown : Nat := 0x06000005
def debugLocked : Nat := 0x06000006
def signature : Nat := 0x06000007
def noOwnerKey : Nat := 0x06000008
def sessionLimit : Nat := 0x06000009
def gated : Nat := 0x08000001
def freewheel : Nat := 0x08000002
end Abort

/-- The first of some checks that fails; 0 when none does. -/
def firstAbort (l : List (Bool × Nat)) : Nat := (firstErr l).getD 0

/-! ### Sessions -/

/-- Is the way an owner session (R431, R459, R467)? -/
def State.owns (s : State) : Way → Bool
  | .mailbox => s.dict.sessions.any fun x => x.isOpen && x.peer.isNone
  | .xaxia _ id => id != 0 && s.dict.sessions.any fun x => x.isOpen && x.id == id && x.peer.isSome

def Way.peer : Way → Option Nat
  | .mailbox => none
  | .xaxia p _ => some p

/-- The session a way names is not open (R459). -/
def State.sessionBad (s : State) : Way → Bool
  | .mailbox => false
  | .xaxia p id => id != 0 && !s.owns (.xaxia p id)

/-! ### Step 3: the address (R425 to R427) -/

/-- Indices in a reserved range (R426). -/
def indexReserved (idx : Nat) : Bool := 0x0D000 ≤ idx && idx ≤ 0x3FFFF

def State.addressAbort (s : State) (idx sub : Nat) : Nat :=
  firstAbort [
    (indexReserved idx, Abort.reservedIndex),
    (0xF0000 ≤ idx && !s.sec.unlocked, Abort.debugLocked),
    (!objExists idx, Abort.noObject),
    ((objInfo idx sub).isNone, Abort.noSubindex) ]

/-! ### Step 5: the station that holds an object (R488) -/

/-- The enable bits of the station that holds an object; none for the Housekeeper. -/
def stationsHolding (idx sub : Nat) : List Nat :=
  if [0x04010, 0x04011, 0x04031, 0x04032, 0x08010, 0x08011].contains idx || (0x08100 ≤ idx && idx ≤ 0x0810F && sub == 6) then [4]
  else if [0x0501A, 0x0501C, 0x0502A, 0x0502C].contains idx then [6]
  else if (0x04060 ≤ idx && idx ≤ 0x04064) || idx == 0x04068 then [9, 10]
  else if idx == 0x0C020 then [11]
  else if [0x06000, 0x06001, 0x06020, 0x06021, 0x06022].contains idx then [12]
  else if idx == 0x07030 || idx == 0x07031 then [13]
  else []

def State.stationAbort (s : State) (idx sub : Nat) : Nat :=
  let h := stationsHolding idx sub
  firstAbort [
    (!h.isEmpty && !(h.any s.enabled), Abort.gated),
    (h.any fun b => s.pllState (pllOf b) == 3, Abort.freewheel) ]

/-- The access waits: a PLL of its station, or the Housekeeper's, relocks (R481). -/
def State.relocking (s : State) (idx sub : Nat) : Bool :=
  s.pllState 2 == 1 || (stationsHolding idx sub).any fun b => s.pllState (pllOf b) == 1

/-! ### What an object reads -/

/-- The calibration item an index belongs to, and which of its three objects it names (0 factory, 1 trim, 2 effective). -/
def calOf (idx : Nat) : Option (CalItem × Nat) :=
  (calItems.find? fun c => c.fac == idx || c.trim == idx || c.eff == idx).map fun c =>
    (c, if c.fac == idx then 0 else if c.trim == idx then 1 else 2)

/-- Is a subindex a value of a calibration item, and not its entry count? -/
def calValue (idx sub : Nat) : Bool := (calOf idx).isSome && (sub != 0 || idx == 0x02000 || idx == 0x02100 || idx == 0x02200)

/-- The value of an object that is not a DOMAIN, captain or stoker (R431, R435). -/
def State.odRead (s : State) (idx sub : Nat) (stoker : Bool) : Nat :=
  let key := okey idx sub
  match objInfo idx sub with
  | none => 0
  | some o =>
    match calOf idx with
    | some (c, which) =>
      if !calValue idx sub then o.dflt
      else if which == 0 then twos o.size (c.factory sub)
      else if which == 1 then s.odv key
      else twos o.size (s.calEff c sub)
    | none =>
      if key == okey 0x00003 0 then ofBytes serialBytes
      else if key == okey 0x0B100 0 then macValue
      else if key == K.frontMode then (if s.enabled 7 then s.odv key else 0)
      else if key == K.backMode then (if s.enabled 8 then s.odv key else 0)
      else if key == okey 0x04031 0 then s.bellLevels 0 256
      else if key == okey 0x09001 0 then s.bellLevels 0 1024
      else if key == okey 0x09004 0 then s.bellInService
      else if 0x09400 ≤ idx && idx ≤ 0x097FF then s.bellRouteRead (idx - 0x09400)
      else if 0x09800 ≤ idx && idx ≤ 0x09FFF then s.bellVectorRead (idx - 0x09800)
      else if 0x09020 ≤ idx && idx ≤ 0x09023 then s.bellVectorRead (2048 + (idx - 0x09020))
      else if key == okey 0x0A003 0 then s.tick
      else if key == K.xaSessions then (s.dict.sessions.filter fun x => x.isOpen).length
      else if key == K.mboxSession then (if s.owns .mailbox then 1 else 0)
      else if key == okey 0x0B021 0 then s.ownerHash.elim 0 ofBytes
      else if 0x08100 ≤ idx && idx ≤ 0x0810F && sub == 6 then s.poolFree (idx - 0x08100)
      else if o.acc == .rws then (if stoker then s.stk key else s.cap key)
      else s.odv key

/-! ### The directory (R434) -/

def Access.code : Access → Nat
  | .const => 0
  | .ro => 1
  | .rw => 2
  | .wo => 3
  | .rws => 4
  | .rwb => 5
  | .rwk => 6

/-- Index ranges that hold objects. -/
def objRanges : List (Nat × Nat) := [
  (0x00000, 0x00010), (0x01000, 0x01052), (0x01100, 0x01103), (0x02000, 0x02050), (0x02100, 0x02160), (0x021FF, 0x02261),
  (0x03000, 0x03005), (0x04000, 0x0410F), (0x05000, 0x05030), (0x05100, 0x054FF), (0x06000, 0x06041), (0x07000, 0x07043),
  (0x08000, 0x0810F), (0x09000, 0x09023), (0x09400, 0x09FFF), (0x0A000, 0x0A030), (0x0B000, 0x0B041), (0x0B100, 0x0B120),
  (0x0B200, 0x0B222), (0x0B300, 0x0B300), (0x0C000, 0x0C020), (0x0C100, 0x0C10F) ]

/-- The directory's entry of one index and subindex. -/
def dirEntry (idx sub : Nat) (o : Obj) : List Byte := leBytes 16 (idx + sub * 2 ^ 20 + o.ty * 2 ^ 28 + o.acc.code * 2 ^ 36 + o.size * 2 ^ 40)

/-- DICT_DIRECTORY: one entry for every index and subindex, in increasing order. -/
def directory : List Byte :=
  objRanges.flatMap fun r => (List.range (r.2 + 1 - r.1)).flatMap fun i =>
    (List.range 65).flatMap fun sub =>
      match objInfo (r.1 + i) sub with
      | none => []
      | some o => dirEntry (r.1 + i) sub o

/-- The bytes of a DOMAIN object. -/
def State.domainRead (s : State) (key : Nat) : List Byte :=
  if key == okey 0x00010 0 then directory
  else if key == okey 0x0A010 0 then s.meterShadow
  else if key == okey 0x0A011 0 then unitMap
  else if key == okey 0x0A020 0 then s.entryStats
  else if key == K.gzRatio then (List.range 1024).flatMap fun e => leBytes 4 (ratioWord (s.domain key) e)
  else s.domain key

/-! ### Steps 6 and 7: form and range -/

/-- Does a record of widths hold a width it may not (R180)? -/
def widthsBad (v : Nat) : Bool := ([0, 4, 8, 12] : List Nat).any fun i =>
  let w := bits v i 4
  w == 1 || w == 2 || 9 ≤ w

/-- What a write's checks see of another object (R433): the stoker value of an RWS object when the object written is
RWS, the present value otherwise. -/
def State.seen (s : State) (rws : Bool) (key : Nat) : Nat :=
  match objInfo (key / 256) (key % 256) with
  | some o => if o.acc == .rws then (if rws then s.stk key else s.cap key) else s.odv key
  | none => 0

/-- The encoding of a value (R429, R584): codes that are not listed. -/
def encodingBad (idx sub : Nat) (o : Obj) (v : Nat) : Bool :=
  (o.ty == 1 && 2 ≤ v)
  || (match o.chk with | .codes l => !l.contains v | _ => false)
  || (0x05100 ≤ idx && idx ≤ 0x054FF && sub == 1 && (2 ≤ bits v 2 2 || 2 ≤ bits v 4 2))
  || (0x0C100 ≤ idx && idx ≤ 0x0C10F && ((sub == 4 && 2 ≤ v) || (sub == 6 && v != 0x40 && v != 0x30)))
  || (idx == 0x0C020 && bits v 0 4 != 1 && bits v 0 4 != 2)
  || (idx == 0x08010 && bits v 0 4 != 1 && bits v 0 4 != 2)

/-- The stated range and alignment of a value (R433, R584); 0 when they are kept. -/
def State.rangeAbort (s : State) (idx sub : Nat) (o : Obj) (v : Nat) : Nat :=
  let key := okey idx sub
  let see (k : Nat) : Nat := s.seen (o.acc == .rws) k
  let oor (b : Bool) : Bool × Nat := (b, Abort.outOfRange)
  let al (n : Nat) : Bool × Nat := (v % n != 0, Abort.alignment)
  let table : Nat :=
    match o.chk with
    | .range lo hi => firstAbort [oor (v < lo || hi < v)]
    | .srange lo hi =>
      let x := signed (8 * o.size) v
      firstAbort [oor (decide (x < lo) || decide (hi < x))]
    | .align n => firstAbort [al n]
    | .pow2 lo hi z => firstAbort [oor (!((z && v == 0) || (lo ≤ v && v ≤ hi && 2 ^ Nat.log2 v == v)))]
    | .trigger => firstAbort [oor (v != 1)]
    | _ => 0
  if table != 0 then table
  else if 0x05100 ≤ idx && idx ≤ 0x054FF && sub == 2 then firstAbort [oor (widthsBad v)]
  else if 0x01100 ≤ idx && idx ≤ 0x01103 && sub == 2 then
    firstAbort [oor (v < pllFloor (idx - 0x01100) || pllBs3 (idx - 0x01100) < v || v % 25 != 0)]
  else if (idx == 0x04040 || idx == 0x04041) && sub != 0 then
    firstAbort [oor (0x18000000 < v + see (okey idx (3 - sub))), al 65536]
  else if 0x08100 ≤ idx && idx ≤ 0x0810F && 1 ≤ sub && sub ≤ 5 then
    let f (i : Nat) : Nat := if i == sub then v else see (okey idx i)
    let lim := spaceLimit (spaceOf (f 2 % 2))
    firstAbort [
      oor ((sub == 3 && v < 4096) || (sub == 4 && 16777216 < v) || lim < f 1 + f 3 * f 4 || lim < f 5 + 8 + 4 * f 4),
      ((sub == 1 || sub == 3) && v % 2048 != 0, Abort.alignment) ]
  else if key == K.bankCount || key == K.bankBase || key == K.bankBytes then
    let f (k : Nat) : Nat := if k == key then v else see k
    firstAbort [
      oor (spaceLimit .cellar < f K.bankBase + f K.bankCount * f K.bankBytes),
      (key != K.bankCount && v % 65536 != 0, Abort.alignment) ]
  else if key == K.bankCurrent then firstAbort [oor (see K.bankCount ≤ v)]
  else if key == K.guestBase || key == K.guestBytes then
    let f (k : Nat) : Nat := if k == key then v else see k
    firstAbort [oor (spaceLimit .cellar < f K.guestBase + f K.guestBytes), (key == K.guestBase && v % 65536 != 0, Abort.alignment)]
  else if key == K.plInboxBase || key == K.plInboxBytes then
    let f (k : Nat) : Nat := if k == key then v else see k
    firstAbort [
      oor (spaceLimit .larder < f K.plInboxBase + f K.plInboxBytes || (key == K.plInboxBytes && (v < 2 ^ 20 || 64 * 2 ^ 20 < v))),
      (key == K.plInboxBase && v % 65536 != 0, Abort.alignment) ]
  else if 0x0C100 ≤ idx && idx ≤ 0x0C10F then
    firstAbort [
      oor ((sub == 1 && v != 0 && (v < 2 || 65536 < v)) || (sub == 5 && (v < 2 || 256 < v))),
      (sub == 3 && v % 16 != 0, Abort.alignment) ]
  else if key == K.recipeTail then firstAbort [oor (see K.recipeSize < (s.odv K.recipeHead + 2 ^ 32 - v) % 2 ^ 32)]
  else if key == K.quarTail then firstAbort [oor (see K.quarSize < (s.odv K.quarHead + 2 ^ 32 - v) % 2 ^ 32)]
  else if idx == 0x08010 then firstAbort [oor (s.pageCmdBad (parsePageCmd v))]
  else if (idx == 0x0B200 || idx == 0x0B201) && sub == 4 then firstAbort [oor (v != 32 && v != 64 && v != 128)]
  else if idx == 0x0B220 || idx == 0x0B221 then firstAbort [al (2 ^ 28)]
  else if idx == 0x0B222 then
    firstAbort [(v == 1 && (s.odv K.guestBase % 2 ^ 28 != 0 || s.odv K.guestBytes % 2 ^ 28 != 0), Abort.alignment)]
  else if idx == 0x09002 then firstAbort [oor (!bellLatched v)]
  else if 0x09800 ≤ idx && idx ≤ 0x09FFF then firstAbort [oor (bits v 0 16 == 0)]
  else
    match calOf idx with
    | some (c, 1) =>
      if !calValue idx sub then 0
      else
        let t := signed c.tBits v
        let e := c.factory sub + t
        firstAbort [oor (decide (t < c.tLo) || decide (c.tHi < t) || decide (e < c.lo) || decide (c.hi < e))]
    | _ => 0

/-! ### Steps 8 and 9: state and content -/

/-- The state of the module or of the station forbids the write (R583, step 8). -/
def State.stateAbort (s : State) (idx sub v : Nat) : Nat :=
  let key := okey idx sub
  firstAbort [
    ((idx == 0x03000 || idx == 0x03001) && s.odv K.tandemState == 1, Abort.swapPending),
    (key == K.bankCurrent && (s.odv K.gzState == 1 || s.restoring), Abort.wrongState),
    (idx == 0x06021 && s.odv K.gzState == 1, Abort.wrongState),
    (idx == 0x04062 && s.odv K.libState == 2, Abort.wrongState),
    (idx == 0x01014 && s.odv K.bringupStage != 1, Abort.wrongState),
    (key == K.clkEnable && s.odv K.bringupStage != 3, Abort.wrongState),
    (idx == 0x01033 && !s.pwrReqOk v, Abort.wrongState),
    (0x01100 ≤ idx && idx ≤ 0x01103 && sub == 1 && s.odv key != v && !s.srcIsReady v, Abort.wrongState),
    (idx == 0x0B011 && s.sec.writing.isSome, Abort.wrongState),
    (idx == 0x0B020 && 4 ≤ s.sec.ownerKeys.length, Abort.wrongState) ]

/-- The content of a staged image or a key is refused (R583, step 9). -/
def State.contentAbort (s : State) (idx v : Nat) : Nat :=
  firstAbort [
    (idx == 0x06021 && gzImageBad (s.domain K.gzImage), Abort.imageInvalid),
    (idx == 0x04062 && !s.imgVerifies 3 (s.domain K.libImage), Abort.signature),
    (idx == 0x0B011 && !s.slotVerifies (s.domain K.fwImage), Abort.signature),
    (idx == 0x0B020 && !s.bothSigned (leBytes 64 v), Abort.signature) ]

/-! ### Step 4: the right -/

/-- Does a write need an owner session beside RWK (R552, R554)? -/
def State.ownerNeeded (s : State) (idx : Nat) : Bool :=
  (idx == 0x0B003 && s.ownerHash.isSome)
    || (idx == 0x0B020 && (s.ownerHash.isSome || s.odv K.bringupStage != 1))
    || (idx == 0x0B031 && s.ownerHash.isSome)

/-- The right to write (R431, R460). -/
def State.writeRight (s : State) (w : Way) (idx : Nat) (o : Obj) : Nat :=
  let ro := o.acc == .const || o.acc == .ro
  let own := s.owns w
  firstAbort [
    (ro, Abort.readOnly),
    (o.acc == .rwb && s.odv K.bringupStage != 1, Abort.bringUpOnly),
    (!own && (o.acc == .rwk || s.ownerNeeded idx || s.odv (okey 0x0B104 0) == 1), Abort.needOwner) ]

/-- The right to read (R431, R435). -/
def readRight (o : Obj) (stoker : Bool) : Nat :=
  firstAbort [(o.acc == .wo, Abort.writeOnly), (stoker && o.acc != .rws, Abort.notTandem)]

/-- A value of an object as it is stored: STR(n) is padded with zeros (R429). -/
def valueBad (o : Obj) (data : List Byte) : Bool :=
  if o.ty == 0xC then data.isEmpty || o.size < data.length else data.length != o.size

/-- Steps 1 to 6 of a write (R583): what a held write passes when it arrives. -/
def State.writeForm (s : State) (w : Way) (idx sub ty : Nat) (data : List Byte) : Nat :=
  let a := s.addressAbort idx sub
  if s.sessionBad w then Abort.sessionUnknown
  else if s.odv K.bringupStage == 0 || s.odv K.pwrState == 0 then Abort.notReady
  else if a != 0 then a
  else
    match objInfo idx sub with
    | none => Abort.noSubindex
    | some o =>
      let r := s.writeRight w idx o
      let g := s.stationAbort idx sub
      if r != 0 then r
      else if g != 0 then g
      else firstAbort [
        (o.ty == 0xE, Abort.needsBlock),
        (ty != o.ty, Abort.typeMismatch),
        (valueBad o data, Abort.badLength),
        (encodingBad idx sub o (ofBytes data), Abort.badEncoding) ]

/-- Steps 7 to 9 of a write. -/
def State.writeValue (s : State) (idx sub v : Nat) : Nat :=
  match objInfo idx sub with
  | none => 0
  | some o =>
    let r := s.rangeAbort idx sub o v
    let st := s.stateAbort idx sub v
    if r != 0 then r else if st != 0 then st else s.contentAbort idx v

/-- Steps 1 to 6 of a read. -/
def State.readForm (s : State) (w : Way) (idx sub : Nat) (stoker : Bool) : Nat :=
  let a := s.addressAbort idx sub
  if s.sessionBad w then Abort.sessionUnknown
  else if s.odv K.bringupStage == 0 || s.odv K.pwrState == 0 then Abort.notReady
  else if a != 0 then a
  else
    match objInfo idx sub with
    | none => Abort.noSubindex
    | some o =>
      let r := readRight o stoker
      let g := s.stationAbort idx sub
      if r != 0 then r else if g != 0 then g else firstAbort [(o.ty == 0xE, Abort.needsBlock)]

end Sys2Proof.Machine
end

