-- ==== Sys2Proof/Machine/Access.lean ====
section
/-! DEFINITION. Accesses to the dictionary over both paths (13): answers, writes and what they do, the Tandem's swap,
held accesses, block transfers and snapshots. -/

namespace Sys2Proof.Machine

/-! ### Answers (R452, R455, R459, R465) -/

def State.peer (s : State) (p : Nat) : XPeer := (s.dict.peers.find? fun x => x.num == p).getD ⟨p, none, [], [], false⟩
def State.setPeer (s : State) (x : XPeer) : State :=
  { s with dict := { s.dict with peers := (s.dict.peers.filter fun y => y.num != x.num) ++ [x] } }

/-- The key of an open session. -/
def State.sessionKey (s : State) (id : Nat) : Option (List Byte) :=
  (s.dict.sessions.find? fun x => x.isOpen && x.id == id && x.peer.isSome).map (·.key)

/-- The first 16 bytes of HMAC-SHA-512 over header and body (R459). -/
def macOf (key msg : List Byte) : List Byte := (Config.hmac key msg ++ List.replicate 16 0).take 16

/-- The response datagram to a request (R452): its fields are echoed, with a MAC when a key is given. -/
def rspDatagram (req : List Byte) (code sid : Nat) (key : Option (List Byte)) (body : List Byte) : List Byte :=
  let h := ofBytes (req.take 32)
  let flags := 1 + (if code == 0 then 0 else 2) + (if key.isSome then 4 else 0)
  let head := leBytes 4 (h % 2 ^ 32) ++ leBytes 2 flags ++ leBytes 2 body.length ++ leBytes 4 sid ++ leBytes 4 (bits h 96 32) ++
    leBytes 4 (bits h 128 32) ++ leBytes 4 code ++ leBytes 8 0
  match key with
  | none => head ++ body
  | some k => head ++ body ++ macOf k (head ++ body)

/-- A response leaves, and is kept among the last 16 of its peer (R455). -/
def State.sendDatagram (s : State) (p : Nat) (req rsp : List Byte) (code : Nat) : State :=
  let x := s.peer p
  let kept := x.kept ++ [(req, rsp)]
  (s.setPeer { x with kept := kept.drop (kept.length - 16) }).send (.response (p + 1) code rsp)

/-- The answer of an access, by the way it came. -/
def State.answer (s : State) (w : Way) (req : List Byte) (code : Nat) (body : List Byte) : State :=
  match w with
  | .mailbox => s.send (.response 0 code (leBytes 4 code ++ body))
  | .xaxia p sid =>
    if req.isEmpty then s.send (.response (p + 1) code body)
    else s.sendDatagram p req (rspDatagram req code (if sid == 0 then bits (ofBytes (req.take 32)) 64 32 else sid) (s.sessionKey sid) body) code

/-- An access is served (R470). -/
def State.respond (s : State) (w : Way) (req : List Byte) (code : Nat) (body : List Byte) : State :=
  let s := s.count Ctr.odAccesses 1
  (if code == 0 then s else s.count Ctr.odAborts 1).answer w req code body

def State.hold (s : State) (h : HeldAccess) : State := { s with dict := { s.dict with held := s.dict.held ++ [h] } }

/-- Take out the held accesses of a cause. -/
def State.takeHeld (s : State) (cause : Nat) : List HeldAccess × State :=
  (s.dict.held.filter fun h => h.cause == cause,
   { s with dict := { s.dict with held := s.dict.held.filter fun h => h.cause != cause } })

/-! ### What a write does -/

/-- The page-command, queue and Peloton commands that a write carries. -/
def State.plCommand (s : State) (v : Nat) : State :=
  if bits v 0 4 == 1 then s.rejoin (bits v 4 4) (bits v 8 16) else s.clearMisses (bits v 4 4) (bits v 8 16)

/-- WS_LIB_LOAD of an image that verifies (R284). -/
def State.libLoad (s : State) : State :=
  { s.setOd K.libState 2 with ws := { s.ws with loading := some (s.domain K.libImage) } }

/-- CAL_USR_RETRAIN (R449). -/
def State.retrain (s : State) : State :=
  let s := (s.setDomain (okey 0x02260 0) []).setDomain (okey 0x02261 0) []
  { s with pwr := { s.pwr with retrain := true, trained := false } }

/-- A value the configuration flash holds (R499, R565). -/
def State.setFlash (s : State) (key v : Nat) : State :=
  { s.setOd key v with pwr := { s.pwr with saved := aset (odDefault key) s.pwr.saved key v } }

/-- The effect of a write that passed its checks; an object without behaviour of its own takes the value (R432, R435). -/
def State.odEffect (s : State) (idx sub v : Nat) : State :=
  let key := okey idx sub
  match objInfo idx sub with
  | none => s
  | some o =>
    let s := s.demand (stationsHolding idx sub)
    if o.acc == .rws then (s.setStk key v).setOd K.dirty 1
    else if idx == 0x01014 then { s with pwr := { s.pwr with released := true } }
    else if key == K.clkEnable then s.clkEnableWrite v
    else if 0x01100 ≤ idx && idx ≤ 0x01103 && sub == 1 then
      (if s.odv key == v then s else s.switchPll (idx - 0x01100) v)
    else if 0x01100 ≤ idx && idx ≤ 0x01103 && sub == 2 then (s.setOd key v).retunePlls
    else if idx == 0x03000 then s.setOd K.tandemState 1
    else if idx == 0x03001 then ({ s with stoker := s.captain }).setOd K.dirty 0
    else if idx == 0x04010 then s.doorbell v
    else if idx == 0x04011 then s.queueCmd v
    else if idx == 0x04032 then s.notifyAck v
    else if idx == 0x04062 then s.libLoad
    else if key == K.recipeTail then (s.setOd key v).recipeLevel
    else if idx == 0x06021 then s.gzInstall (s.domain K.gzImage)
    else if idx == 0x08010 then s.pageCmd (parsePageCmd v)
    else if idx == 0x09000 then s.bellGlobalWrite v
    else if idx == 0x09002 then s.bellClear v
    else if idx == 0x09003 then s.bellAck v
    else if 0x09400 ≤ idx && idx ≤ 0x097FF then s.bellRouteWrite (idx - 0x09400) v
    else if 0x09800 ≤ idx && idx ≤ 0x09FFF then s.bellVectorWrite (idx - 0x09800) v
    else if idx == 0x0A000 then s.snapStart
    else if idx == 0x0B003 then s.svnCommit
    else if idx == 0x0B011 then s.fwCommit
    else if idx == 0x0B020 then s.fuseOwner (leBytes 64 v)
    else if idx == 0x0C020 then s.plCommand v
    else if idx == 0x021FF then { s with dict := { s.dict with trimBusy := true } }
    else if idx == 0x02160 then s.retrain
    else if key == K.bootSlot || key == K.bringupHold then s.setFlash key v
    else s.setOd key v

/-- Steps 7 to 9 of a write, and its effect and answer. A load that does not verify while no library is active raises WS_LIB_FAIL (R284); RESET_CMD
and PWR_STATE_REQ are answered first (R502). -/
def State.odCommit (s : State) (w : Way) (req : List Byte) (idx sub v : Nat) (data : List Byte) : State :=
  let a := s.writeValue idx sub v
  if a != 0 then (if idx == 0x04062 && a == Abort.signature && s.odv K.libState == 0 then s.raise Bell.wsLibFail else s).respond w req a []
  else if idx == 0x01010 then (s.respond w req 0 []).askReset (2 + v)
  else if idx == 0x01033 then (s.respond w req 0 []).pwrReq v
  else if idx == 0x03000 then (s.odEffect idx sub v).hold ⟨1, 0, w, req, okey idx sub, 0, false, data⟩
  else if idx == 0x0A000 then (s.odEffect idx sub v).hold ⟨2, 0, w, req, okey idx sub, 0, false, data⟩
  else (s.odEffect idx sub v).respond w req 0 []

/-- Is an object an RWS object? -/
def isRws (idx sub : Nat) : Bool := match objInfo idx sub with | some o => o.acc == .rws | none => false

/-- A write of one object (R429 to R440, R583). -/
def State.odWrite (s : State) (w : Way) (req : List Byte) (idx sub ty : Nat) (data : List Byte) : State :=
  let f := s.writeForm w idx sub ty data
  if f != 0 then s.respond w req f []
  else if s.relocking idx sub then s.hold ⟨5, 0, w, req, okey idx sub, ty, false, data⟩
  else if isRws idx sub && s.odv K.tandemState == 1 then
    (s.hold ⟨0, 0, w, req, okey idx sub, ty, false, data⟩).count Ctr.odHeld 1
  else if s.dict.trimBusy && calValue idx sub then s.hold ⟨3, 0, w, req, okey idx sub, ty, false, data⟩
  else s.odCommit w req idx sub (ofBytes data) data

/-- A write by name of the object: its own type code is given (the write commands of the table). -/
def State.odWriteObj (s : State) (w : Way) (idx sub : Nat) (data : List Byte) : State :=
  s.odWrite w [] idx sub ((objInfo idx sub).elim 0 (·.ty)) data

/-- The body of a READ response (R453). -/
def State.readBody (s : State) (idx sub : Nat) (stoker : Bool) : List Byte :=
  match objInfo idx sub with
  | none => []
  | some o => leBytes 1 o.ty ++ leBytes 1 0 ++ leBytes 2 o.size ++ leBytes o.size (s.odRead idx sub stoker)

/-- A read of one object. -/
def State.odReadReq (s : State) (w : Way) (req : List Byte) (idx sub : Nat) (stoker : Bool) : State :=
  let f := s.readForm w idx sub stoker
  if f != 0 then s.respond w req f []
  else if s.relocking idx sub then s.hold ⟨5, 1, w, req, okey idx sub, 0, stoker, []⟩
  else
    let s := s.demand (stationsHolding idx sub)
    s.respond w req 0 (s.readBody idx sub stoker)

/-! ### Held accesses come free -/

/-- A held write of an RWS object, or of a trim, is applied now: steps 7 to 9 (R440, R447, R583). -/
def State.applyHeld (s : State) (h : HeldAccess) : State :=
  s.odCommit h.way h.req (h.key / 256) (h.key % 256) (ofBytes h.data) h.data

/-- SWAP_POINT (R436, R440): the sets are exchanged, the swap is answered, held writes go into the new stoker set. -/
def State.swapPoint (s : State) : State :=
  if s.odv K.tandemState != 1 then s
  else
    let t : State := { s with captain := s.stoker, stoker := s.captain }
    let t := (((t.setOd K.swapCount ((s.odv K.swapCount + 1) % 2 ^ 32)).setOd K.swapTick s.tick).setOd K.dirty 0).setOd K.tandemState 0
    let (swaps, t) := t.takeHeld 1
    let t := swaps.foldl (fun t h => t.respond h.way h.req 0 []) t
    let (ws, t) := t.takeHeld 0
    ws.foldl State.applyHeld t

/-- CAL_COMMIT_END (R447): the trims are in flash, and held trim writes are applied. -/
def State.calCommitEnd (s : State) : State :=
  if !s.dict.trimBusy then s
  else
    let isTrim (key : Nat) : Bool := match calOf (key / 256) with | some (_, w) => w == 1 | none => false
    let t : State := { s with dict := { s.dict with trimBusy := false, savedTrims := s.od.filter fun x => isTrim x.1 } }
    let (ws, t) := t.takeHeld 3
    ws.foldl State.applyHeld t

/-- PLL_LOCKED of PLL p: accesses that waited for the lock are served (R479, R481). -/
def State.pllLockedServe (s : State) (p : Nat) : State :=
  let t := s.pllLocked p
  let (ws, t) := t.takeHeld 5
  ws.foldl (fun t h =>
    if h.act == 1 then t.odReadReq h.way h.req (h.key / 256) (h.key % 256) h.stoker
    else t.odWrite h.way h.req (h.key / 256) (h.key % 256) h.ty h.data) t

/-- SNAPSHOT_EDGE: every write and request of the edge is answered with its number and tick (R462, R527). -/
def State.snapshotEdge (s : State) : State :=
  if s.mtr.edge.isNone then s
  else
    let t := s.snapEdge
    let (ws, t) := t.takeHeld 2
    let body := leBytes 4 (t.odv (okey 0x0A001 0)) ++ leBytes 8 (t.odv (okey 0x0A002 0))
    ws.foldl (fun t h => t.respond h.way h.req 0 (if h.act == 2 then body else [])) t

/-- SNAPSHOT (R460, R462). -/
def State.snapshotReq (s : State) (w : Way) (req : List Byte) : State :=
  let f := firstAbort [
    (s.sessionBad w, Abort.sessionUnknown),
    (s.odv K.bringupStage == 0 || s.odv K.pwrState == 0, Abort.notReady),
    (!s.owns w && s.odv (okey 0x0B104 0) == 1, Abort.needOwner) ]
  if f != 0 then s.respond w req f []
  else s.snapStart.hold ⟨2, 2, w, req, 0, 0, false, []⟩

/-! ### Block transfers (R430, R456, R457) -/

/-- Steps 1 to 5 of a block access, then whether the object is a DOMAIN. -/
def State.blockForm (s : State) (w : Way) (idx sub : Nat) (write : Bool) : Nat :=
  let a := s.addressAbort idx sub
  if s.sessionBad w then Abort.sessionUnknown
  else if s.odv K.bringupStage == 0 || s.odv K.pwrState == 0 then Abort.notReady
  else if a != 0 then a
  else
    match objInfo idx sub with
    | none => Abort.noSubindex
    | some o =>
      let r := if write then s.writeRight w idx o else readRight o false
      let g := s.stationAbort idx sub
      if r != 0 then r else if g != 0 then g else firstAbort [(o.ty != 0xE, Abort.typeMismatch)]

def blockLimit : Way → Nat
  | .mailbox => 4000
  | .xaxia _ _ => 1024

/-- A BLOCK_READ: at offset 0 it takes a copy; later ones read the copy, or, when there is none, the present value. -/
def State.blockRead (s : State) (w : Way) (req : List Byte) (idx sub off len : Nat) : State :=
  let f := s.blockForm w idx sub false
  let key := okey idx sub
  let mine (c : ReadCopy) : Bool := c.key == key && decide (c.peer = w.peer)
  if f != 0 then s.respond w req f []
  else
    let s := s.demand (stationsHolding idx sub)
    let data := if off == 0 then s.domainRead key else ((s.dict.copies.find? mine).map (·.data)).getD (s.domainRead key)
    if len == 0 || blockLimit w < len || data.length < off then s.respond w req Abort.outOfRange []
    else
      let copy : ReadCopy := ⟨key, w.peer, data⟩
      let rest := s.dict.copies.filter fun c => !mine c
      let s := if off == 0 then { s with dict := { s.dict with copies := rest ++ [copy] } } else s
      let part := (data.drop off).take len
      s.respond w req 0 (leBytes 8 data.length ++ leBytes 8 off ++ leBytes 2 part.length ++ part)

/-- BLOCK_READ_COPY_EXPIRY (R456). -/
def State.copyExpiry (s : State) (idx sub : Nat) (peer : Option Nat) : State :=
  { s with dict := { s.dict with copies := s.dict.copies.filter fun c => !(c.key == okey idx sub && decide (c.peer = peer)) } }

def State.dropTransfer (s : State) (key : Nat) : State :=
  { s with dict := { s.dict with transfers := s.dict.transfers.filter fun t => t.key != key } }

/-- BLOCK_WRITE BEGIN (R457). -/
def State.blockBegin (s : State) (w : Way) (req : List Byte) (idx sub size : Nat) : State :=
  let f := s.blockForm w idx sub true
  let key := okey idx sub
  let a := firstAbort [
    ((objInfo idx sub).elim false fun o => o.size < size, Abort.tooLarge),
    (s.dict.transfers.any fun t => t.key == key, Abort.busy) ]
  if f != 0 then s.respond w req f []
  else if a != 0 then s.respond w req a []
  else
    let new : Transfer := ⟨key, w.peer, size, []⟩
    let s := { s with dict := { s.dict with
      transfers := s.dict.transfers ++ [new]
      expired := s.dict.expired.filter fun x => !(x.1 == key && decide (x.2 = w.peer)) } }
    s.respond w req 0 []

/-- The open transfer of a way on an object; a discarded one is told once (R457). -/
def State.findTransfer (s : State) (w : Way) (key : Nat) : Option Transfer × Nat × State :=
  match s.dict.transfers.find? fun t => t.key == key && decide (t.peer = w.peer) with
  | some t => (some t, 0, s)
  | none =>
    if s.dict.expired.any fun x => x.1 == key && decide (x.2 = w.peer) then
      (none, Abort.blockTimeout, { s with dict := { s.dict with expired := s.dict.expired.filter fun x => !(x.1 == key && decide (x.2 = w.peer)) } })
    else (none, Abort.blockSequence, s)

/-- BLOCK_WRITE SEGMENT (R457). -/
def State.blockSegment (s : State) (w : Way) (req : List Byte) (idx sub off len : Nat) (data : List Byte) : State :=
  let f := s.blockForm w idx sub true
  let key := okey idx sub
  if f != 0 then s.respond w req f []
  else
    match s.findTransfer w key with
    | (none, a, s) => s.respond w req a []
    | (some t, _, s) =>
      if len == 0 || blockLimit w < len || data.length != len then s.respond w req Abort.badLength []
      else if off != t.data.length || t.size < off + len then (s.dropTransfer key).respond w req Abort.blockSequence []
      else
        let u : Transfer := { t with data := t.data ++ data }
        let s := s.dropTransfer key
        let s := { s with dict := { s.dict with transfers := s.dict.transfers ++ [u] } }
        s.respond w req 0 []

/-- A DOMAIN object takes its new value; an unlock token lifts the lock, an SPDM request is processed (R556, R559). -/
def State.domainEffect (s : State) (idx : Nat) (data : List Byte) : State :=
  let s := s.demand (stationsHolding idx 0)
  if idx == 0x0B031 then { s with sec := { s.sec with unlocked := true } }
  else if idx == 0x0B040 then s.spdmRequest 2 data
  else s.setDomain (okey idx 0) data

/-- BLOCK_WRITE END (R457). -/
def State.blockEnd (s : State) (w : Way) (req : List Byte) (idx sub crc : Nat) : State :=
  let f := s.blockForm w idx sub true
  let key := okey idx sub
  if f != 0 then s.respond w req f []
  else
    match s.findTransfer w key with
    | (none, a, s) => s.respond w req a []
    | (some t, _, s) =>
      let s := s.dropTransfer key
      let a := firstAbort [
        (t.data.length != t.size, Abort.blockSequence),
        (crc32c t.data != crc, Abort.blockCrc),
        (idx == 0x0B031 && !s.tokenOk t.data, Abort.signature) ]
      if a != 0 then s.respond w req a [] else (s.domainEffect idx t.data).respond w req 0 []

/-- BLOCK_TIMEOUT: a transfer on an object, with no segment for 5 s, is discarded. -/
def State.blockTimeout (s : State) (idx sub : Nat) : State :=
  let key := okey idx sub
  match s.dict.transfers.find? fun t => t.key == key with
  | none => s
  | some t =>
    let s := s.dropTransfer key
    { s with dict := { s.dict with expired := s.dict.expired ++ [(key, t.peer)] } }

end Sys2Proof.Machine
end

