-- ==== Sys2Proof/Machine/Xaxia.lean ====
section
/-! DEFINITION. Xaxia messages and mailbox commands (13, R450 to R467): header, version, session, the message types, the
authentication exchange and NOTIFY. -/

namespace Sys2Proof.Machine

/-! ### The header (R452) -/

def xhMagic (h : Nat) : Nat := bits h 0 16
def xhMinor (h : Nat) : Nat := bits h 16 4
def xhMajor (h : Nat) : Nat := bits h 20 4
def xhType (h : Nat) : Nat := bits h 24 8
def xhSession (h : Nat) : Bool := bit h 34
def xhStoker (h : Nat) : Bool := bit h 35
def xhLength (h : Nat) : Nat := bits h 48 16
def xhSid (h : Nat) : Nat := bits h 64 32
def xhSeq (h : Nat) : Nat := bits h 96 32

/-- A malformed header (R452). -/
def headerBad (d : List Byte) : Bool :=
  let h := ofBytes (d.take 32)
  decide (d.length < 32) || xhMagic h != 0xA5C3 || 1404 < xhLength h
    || d.length != 32 + xhLength h + (if xhSession h then 16 else 0)

def xBody (d : List Byte) : List Byte := (d.drop 32).take (xhLength (ofBytes (d.take 32)))

/-- The object an OBJ names (R453). -/
def objOf (b : List Byte) : Nat × Nat := (bits (ofBytes (b.take 4)) 0 20, bits (ofBytes (b.take 4)) 20 8)

/-- The highest minor of each major the module supports (R454). -/
def minorOf (major : Nat) : Option Nat := if major == 1 then some 3 else if major == 2 then some 1 else none

/-- A response of a message that is not a dictionary access. -/
def State.reply (s : State) (p : Nat) (d : List Byte) (code sid : Nat) (key : Option (List Byte)) (body : List Byte) : State :=
  s.sendDatagram p d (rspDatagram d code sid key body) code

/-- Does the part answer on Xaxia at all? Not while THERMTRIP# is latched, nor without the auxiliary supply (R490, R569). -/
def State.xaxiaOn (s : State) : Bool := s.pwr.auxOn && !s.pwr.thermtrip

/-- The open session a header names. -/
def State.xSession (s : State) (h : Nat) : Option Session := s.dict.sessions.find? fun y => y.isOpen && y.id == xhSid h && y.peer.isSome

/-- The checks of a message of type ty from peer p, in order (R452, R454, R459, R583 step 1): header, version, type, MAC,
sequence, session. -/
def State.xErr (s : State) (ty p : Nat) (d : List Byte) : Nat :=
  let h := ofBytes (d.take 32)
  let sess := s.xSession h
  firstAbort [
    (headerBad d, Abort.badHeader),
    (decide ((s.peer p).version ≠ some (xhMajor h, xhMinor h)), Abort.version),
    (xhType h != ty || (xhMajor h == 1 && (ty == 2 || ty == 7)), Abort.unknownType),
    (xhSession h && sess.isSome && decide (d.drop (d.length - 16) ≠ macOf (sess.elim [] (·.key)) (d.take (d.length - 16))), Abort.badMac),
    (xhSession h && sess.elim false (fun y => xhSeq h ≤ y.lastSeq), Abort.replay),
    (xhSession h && sess.isNone, Abort.sessionUnknown) ]

/-- The kept response to a repeated request (R455). -/
def State.keptAnswer (s : State) (p : Nat) (d : List Byte) : Option (List Byte) :=
  ((s.peer p).kept.find? fun k => decide (k.1 = d)).map (·.2)

/-- A message in a session notes its sequence number (R459). -/
def State.noteSeq (s : State) (h : Nat) : State :=
  if xhSession h then
    { s with dict := { s.dict with sessions := s.dict.sessions.map fun y => if y.id == xhSid h && y.peer.isSome then { y with lastSeq := xhSeq h } else y } }
  else s

/-- Every message but HELLO (R452 to R460, R583 step 1): a repeat is answered from the kept response; then the header,
the version, the type, the MAC, the sequence and the session are checked, then readiness; the wake frame is let through in
Pilot. The handler gets the way and the body. -/
def State.xMessage (s : State) (ty p : Nat) (d : List Byte) (run : Way → List Byte → State → State) : State :=
  let h := ofBytes (d.take 32)
  if !s.xaxiaOn then s
  else
    match s.keptAnswer p d with
    | some k => (s.count Ctr.xaDuplicates 1).send (.response (p + 1) (bits (ofBytes (k.take 24)) 160 32) k)
    | none =>
      let err := s.xErr ty p d
      if err != 0 then s.reply p d err (xhSid h) (if err == Abort.replay then some ((s.xSession h).elim [] (·.key)) else none) []
      else run (.xaxia p (if xhSession h then xhSid h else 0)) (xBody d) (s.noteSeq h)

/-- Sessions that are open; at most four may be (R458, R467). -/
def State.openSessions (s : State) : Nat := (s.dict.sessions.filter fun x => x.isOpen).length

/-- HELLO (R451, R453, R454, R464): answered in every stage. A body of another length than the 18 bytes of R453 is answered
BAD_LENGTH once the version has been chosen (R583; DESIGN CHOICE, log 67). -/
def State.hello (s : State) (p : Nat) (d : List Byte) : State :=
  let h := ofBytes (d.take 32)
  if !s.xaxiaOn then s
  else
    match s.keptAnswer p d with
    | some k => (s.count Ctr.xaDuplicates 1).send (.response (p + 1) (bits (ofBytes (k.take 24)) 160 32) k)
    | none =>
      if headerBad d then s.reply p d Abort.badHeader 0 none []
      else if xhType h != 1 then s.reply p d Abort.unknownType 0 none []
      else
        let b := xBody d
        let majors := ofBytes (b.take 2)
        let theirs (m : Nat) : Nat := (b.getD (2 + m) 0).toNat
        match ([2, 1] : List Nat).find? fun m => bit majors m with
        | none =>
          let s := s.setPeer { s.peer p with version := none }
          s.reply p d Abort.version 0 none []
        | some m =>
          if b.length != 18 then s.reply p d Abort.badLength 0 none [] else
          let minor := min (theirs m) ((minorOf m).getD 0)
          let s := s.setPeer { s.peer p with version := some (m, minor) }
          let free := 4 - s.openSessions
          s.reply p d 0 0 none (leBytes 1 (m + 16 * minor) ++ leBytes 1 free ++ leBytes 16 (s.odRead 0x00001 0 false) ++
            leBytes 1 (s.odRead 0x00002 0 false) ++ serialBytes)

/-! ### READ, WRITE and block messages -/

/-- The STOKER flag counts from minor 1 of major 2; below it the bit is reserved (R454, R8). -/
def stokerFlag (d : List Byte) : Bool :=
  let h := ofBytes (d.take 32)
  xhStoker h && xhMajor h == 2 && 1 ≤ xhMinor h

def bodyShort (b : List Byte) (n : Nat) : Bool := decide (b.length < n)

/-- The body of a WRITE: OBJ, type, size, value. -/
def State.bodyWrite (s : State) (w : Way) (req b : List Byte) : State :=
  let (idx, sub) := objOf b
  let data := b.drop 8
  if bodyShort b 8 || ofBytes ((b.drop 6).take 2) != data.length then s.respond w req Abort.badLength []
  else s.odWrite w req idx sub (b.getD 4 0).toNat data

/-- The wake frame: a WRITE of 0x02 to PWR_STATE_REQ, in the Pilot state, whatever XAXIA_REQUIRE_SESSION says; answered
once the module is in Housekeeping (R493). -/
def isWakeFrame (b : List Byte) : Bool :=
  decide (objOf b = (0x01033, 0)) && (b.getD 4 0).toNat == 2 && decide (b.drop 6 = [1, 0, 2])

def State.xWriteBody (w : Way) (req b : List Byte) (s : State) : State :=
  if s.odv K.pwrState == 0 && 1 ≤ s.odv K.bringupStage && isWakeFrame b then (s.pilotWake 2).respond w req 0 []
  else s.bodyWrite w req b

def State.bodyRead (s : State) (w : Way) (req b : List Byte) (stoker : Bool) : State :=
  let (idx, sub) := objOf b
  if b.length != 4 then s.respond w req Abort.badLength [] else s.odReadReq w req idx sub stoker

def State.bodyBlockRead (s : State) (w : Way) (req b : List Byte) : State :=
  let (idx, sub) := objOf b
  if b.length != 14 then s.respond w req Abort.badLength []
  else s.blockRead w req idx sub (ofBytes ((b.drop 4).take 8)) (ofBytes ((b.drop 12).take 2))

/-- A BLOCK_WRITE by its phase: 1 BEGIN, 2 SEGMENT, 3 END; no other phase is listed. -/
def State.bodyBlockWrite (s : State) (w : Way) (req b : List Byte) : State :=
  let (idx, sub) := objOf b
  let r := b.drop 5
  match (b.getD 4 0).toNat with
  | 1 => if r.length != 8 then s.respond w req Abort.badLength [] else s.blockBegin w req idx sub (ofBytes r)
  | 2 =>
    if bodyShort r 10 then s.respond w req Abort.badLength []
    else s.blockSegment w req idx sub (ofBytes (r.take 8)) (ofBytes ((r.drop 8).take 2)) (r.drop 10)
  | 3 => if r.length != 4 then s.respond w req Abort.badLength [] else s.blockEnd w req idx sub (ofBytes r)
  | _ => s.respond w req Abort.badEncoding []

/-- One phase of a BLOCK_WRITE: a message of another phase is not this command's, and is answered as unlisted. -/
def State.bodyBlockPhase (s : State) (phase : Nat) (w : Way) (req b : List Byte) : State :=
  if (b.getD 4 0).toNat != phase then s.respond w req Abort.badEncoding [] else s.bodyBlockWrite w req b

/-! ### Authentication (R458, R459, R467) -/

def State.setSessions (s : State) (l : List Session) : State := { s with dict := { s.dict with sessions := l } }

/-- A session identifier that is not 0 and not in use, from a value the spec leaves open. -/
def State.freshSid (s : State) : Nat × State :=
  let (n, s) := s.free
  let c := (List.range (s.dict.sessions.length + 2)).map fun i => (n + i) % 2 ^ 32
  ((c.find? fun i => i != 0 && !(s.dict.sessions.any fun x => x.id == i)).getD 1, s)

/-- An answer of an AUTH phase: a datagram, or the mailbox's payload. -/
def State.authReply (s : State) (w : Way) (req : List Byte) (code sid : Nat) (key : Option (List Byte)) (body : List Byte) : State :=
  match w with
  | .mailbox => s.send (.response 0 code (leBytes 4 code ++ body))
  | .xaxia p _ => s.reply p req code sid key body

def State.lockedOut (s : State) : Way → Bool
  | .mailbox => false
  | .xaxia p _ => (s.peer p).locked

/-- START: role OWNER and a client nonce; a session is allocated and a module nonce answered. -/
def State.authStart (s : State) (w : Way) (req b : List Byte) : State :=
  let err := firstAbort [
    (b.length != 34, Abort.badLength),
    ((b.getD 1 0).toNat != 1, Abort.badEncoding),
    (4 ≤ s.openSessions, Abort.sessionLimit),
    (s.ownerHash.isNone, Abort.noOwnerKey) ]
  if err != 0 then s.authReply w req err 0 none []
  else
    let (sid, s) := s.freshSid
    let (nonce, s) := s.free32
    let new : Session := ⟨sid, w.peer, false, b.drop 2, nonce, [], 0⟩
    (s.setSessions (s.dict.sessions ++ [new])).authReply w req 0 sid none (if w.peer.isNone then leBytes 4 sid ++ nonce else nonce)

def asciiBytes (t : String) : List Byte := t.toList.map fun c => BitVec.ofNat 8 c.toNat

/-- The digest a PROOF signs. -/
def proofDigest (x : Session) : List Byte :=
  Config.sha512 (asciiBytes "XAXIA-AUTH" ++ leBytes 4 x.id ++ x.nonce ++ x.client ++ serialBytes)

/-- The key of a session. -/
def sessionKeyOf (x : Session) (secret : List Byte) : List Byte :=
  Config.hmac secret (asciiBytes "XAXIA-SESSION" ++ leBytes 4 x.id ++ x.client ++ x.nonce)

/-- A failed PROOF: the session is discarded, and three from one peer within 60 s (1,500,000,000 ticks) lock it out. -/
def State.proofFailed (s : State) (w : Way) (x : Session) : State :=
  let s := (s.setSessions (s.dict.sessions.filter fun y => y.id != x.id)).count Ctr.xaAuthFailures 1
  match w with
  | .mailbox => s
  | .xaxia p _ =>
    let q := s.peer p
    let f := (q.fails.filter fun t => s.tick ≤ t + 1500000000) ++ [s.tick]
    s.setPeer { q with fails := f, locked := q.locked || 3 ≤ f.length }

/-- PROOF: the signature over the digest by the owner key, and the secret under the identity key. With four sessions open no
fifth opens (DESIGN CHOICE, log 67). -/
def State.authProof (s : State) (w : Way) (req b : List Byte) (sid : Nat) : State :=
  match s.dict.sessions.find? fun x => !x.isOpen && x.id == sid && decide (x.peer = w.peer) with
  | none => s.authReply w req Abort.sessionUnknown sid none []
  | some x =>
    if b.length != 1025 then s.authReply w req Abort.badLength sid none []
    else if 4 ≤ s.openSessions then s.authReply w req Abort.sessionLimit sid none []
    else
      let sig := (b.drop 1).take 512
      let secret := Config.decrypt (b.drop 513)
      if !Config.signatureOk 2 (s.ownerHash.getD [] ++ proofDigest x ++ sig) then
        (s.proofFailed w x).authReply w req Abort.authFailed sid none []
      else
        let key := sessionKeyOf x secret
        let others := s.dict.sessions.filter fun y => y.id != sid
        let open' : Session := { x with isOpen := true, key := key, lastSeq := 0 }
        (s.setSessions (others ++ [open'])).authReply w req 0 sid (if w.peer.isNone then none else some key) []

/-- END, in the session. -/
def State.authEnd (s : State) (w : Way) (req : List Byte) : State :=
  match w with
  | .mailbox =>
    if s.owns .mailbox then
      (s.setSessions (s.dict.sessions.filter fun x => !(x.isOpen && x.peer.isNone))).authReply .mailbox req 0 0 none []
    else s.authReply .mailbox req Abort.sessionUnknown 0 none []
  | .xaxia p sid =>
    if s.owns w then
      let key := s.sessionKey sid
      (s.setSessions (s.dict.sessions.filter fun x => x.id != sid)).reply p req 0 sid key []
    else s.reply p req Abort.sessionUnknown sid none []

/-- The key that an answer by a way is authenticated with: that of its open session (R459). -/
def State.wayKey (s : State) : Way → Option (List Byte)
  | .mailbox => none
  | .xaxia _ id => s.sessionKey id

/-- An AUTH phase: every one from a peer that is locked out is answered AUTH_FAILED (R458); the phase byte of another phase,
or of none, is answered as unlisted. -/
def State.bodyAuth (s : State) (phase : Nat) (w : Way) (req b : List Byte) (sid : Nat) : State :=
  if s.odv K.bringupStage == 0 || s.odv K.pwrState == 0 then s.authReply w req Abort.notReady sid (s.wayKey w) []
  else if s.lockedOut w then s.authReply w req Abort.authFailed sid (s.wayKey w) []
  else if (b.getD 0 0).toNat != phase then s.authReply w req Abort.badEncoding sid none []
  else
    match phase with
    | 1 => s.authStart w req b
    | 2 => s.authProof w req b sid
    | _ => s.authEnd w req

/-- AUTH_START_TIMEOUT: a START with no PROOF within 10 s is discarded. -/
def State.authStartTimeout (s : State) (sid : Nat) : State := s.setSessions (s.dict.sessions.filter fun x => x.isOpen || x.id != sid)

/-- AUTH_LOCKOUT_END of a peer. -/
def State.authLockoutEnd (s : State) (p : Nat) : State :=
  if (s.peer p).locked then s.setPeer { s.peer p with locked := false, fails := [] } else s

/-- SESSION_IDLE_TIMEOUT (R459, R467). -/
def State.sessionIdle (s : State) (sid : Nat) : State := s.setSessions (s.dict.sessions.filter fun x => !x.isOpen || x.id != sid)

/-! ### NOTIFY (R461) -/

def State.notifyOn (s : State) (n : Nat) : Bool :=
  s.odv (okey 0x0B110 0) != 0 && bit (s.odv (okey 0x0B112 0)) n && s.bell.level.contains n && s.xaxiaOn

/-- One NOTIFY datagram of source n; which version its header names is not stated (free, log 44). -/
def State.sendNotify (s : State) (n : Nat) : State :=
  let q := (s.dict.notifySeq + 1) % 2 ^ 32
  let body := leBytes 2 n ++ leBytes 2 0 ++ leBytes 4 q ++ leBytes 8 s.tick
  let (ver, s) := s.free
  let head := leBytes 2 0xA5C3 ++ leBytes 1 ver ++ leBytes 1 8 ++ leBytes 2 0 ++ leBytes 2 body.length ++ List.replicate 24 0
  let s : State := { s with dict := { s.dict with notifySeq := q }, bell := { s.bell with notified := sadd s.bell.notified n } }
  (s.send (.frame 0x20 (s.odv (okey 0x0B110 0)) (s.odv (okey 0x0B111 0)) (head ++ body) [])).count Ctr.xaNotifySent 1

/-- NOTIFY of a source that has become pending, once for each rise. -/
def State.notify (s : State) (n : Nat) : State :=
  if s.notifyOn n && !s.bell.notified.contains n then s.sendNotify n else s

/-- NOTIFY_REPEAT while the source stays pending; an interval of 0 never repeats. -/
def State.notifyRepeat (s : State) (n : Nat) : State :=
  if s.notifyOn n && s.bell.notified.contains n && s.odv (okey 0x0B113 0) != 0 then s.sendNotify n else s

/-! ### The segment (R450, R451) -/

/-- PLCA_FALLBACK. -/
def State.plcaFallback (s : State) : State :=
  if s.xaxiaOn && s.odv K.plcaId != 0 then s.setOd (okey 0x0B107 0) ((s.odv (okey 0x0B107 0) + 1) % 2 ^ 32) else s

/-- The module's link-local address by modified EUI-64 (R451), as a number with its first byte highest. -/
def linkLocal : Nat :=
  let b := leBytes 6 macValue
  let g (i : Nat) : Nat := (b.getD i 0).toNat
  let eui := [g 0 ^^^ 2, g 1, g 2, 0xFF, 0xFE, g 3, g 4, g 5]
  0xFE80 * 2 ^ 112 + eui.foldl (fun v x => v * 256 + x) 0

/-- NEIGHBOUR_SOLICITATION: one that asks for the module's address is answered with its MAC address. -/
def State.neighbour (s : State) (p target : Nat) : State :=
  if s.xaxiaOn && target == linkLocal then s.send (.frame 0x21 p 0 (leBytes 6 macValue) []) else s

/-! ### The mailbox (R465 to R467) -/

/-- The mailbox takes commands from BS1 on, while port 0 is UP (R465, R537). -/
def State.mboxOn (s : State) : Bool := s.powered && 1 ≤ s.odv K.bringupStage && s.odv (K.portState 0) == 2

/-- A mailbox command: a flags byte, three reserved bytes, then the Xaxia body. A payload too short for the flags is a
failure of the mailbox itself, reported by its own return code and not here (R466). -/
def State.mbox (s : State) (pay : List Byte) (run : Bool → List Byte → State → State) : State :=
  if !s.mboxOn || pay.length < 4 || 4096 < pay.length then s
  else run ((pay.getD 0 0).toNat % 2 == 1) (pay.drop 4) s

/-- OD_AUTH by its phase: a PROOF names the session that START answered in the first four bytes of its payload's
response; the mailbox has one unfinished exchange at a time. -/
def State.mboxAuth (s : State) (b : List Byte) : State :=
  let sid := ((s.dict.sessions.filter fun x => !x.isOpen && x.peer.isNone).getLast?).elim 0 (·.id)
  match (b.getD 0 0).toNat with
  | 1 => s.bodyAuth 1 .mailbox [] b 0
  | 2 => s.bodyAuth 2 .mailbox [] b sid
  | 3 => s.bodyAuth 3 .mailbox [] b 0
  | _ => s.authReply .mailbox [] Abort.badEncoding 0 none []

end Sys2Proof.Machine
end

