-- ==== Sys2Proof/Machine/Cxl.lean ====
section
/-! DEFINITION. The CXL ports' registers, windows and decoders, the snoop filter, memory errors and the patrol scrub
(16, R538 to R547, R560 to R564). -/

namespace Sys2Proof.Machine

/-! ### The patrol scrub (R562) -/

/-- PATROL_SCRUB of the Attic and the Cellar (R562): corrected errors per tier and the sectors that could not be. -/
def State.patrolScrub (s : State) (ceAttic ceCellar : Nat) (ueAttic ueCellar : List Nat) : State :=
  if !s.powered || s.odv K.pwrState == 0 || s.odv K.bringupStage < 2 then s
  else
    let s := (s.count Ctr.scrubSectors ((spaceLimit .attic + spaceLimit .cellar) / 32)).count Ctr.atticCe ceAttic
    let s := s.count Ctr.cellarCe ceCellar
    let s := (ueAttic.filter fun n => 32 * n < spaceLimit .attic).foldl (fun s n => s.memUe .attic n) s
    (ueCellar.filter fun n => 32 * n < spaceLimit .cellar).foldl (fun s n => s.memUe .cellar n) s

/-! ### The snoop filter (R545) -/

/-- The filter's number of a line: Attic lines by address / 64, Guest room bytes above 2^40. -/
def lineOf (guest : Bool) (a : Nat) : Nat := (if guest then 2 ^ 40 else 0) + a / 64

/-- The host takes a line: when the filter is full the earliest is back-invalidated. -/
def State.snoopInsert (s : State) (line : Nat) : State :=
  if s.cxl.snoop.contains line then s
  else if s.cxl.snoop.length < 1048576 then { s with cxl := { s.cxl with snoop := s.cxl.snoop ++ [line] } }
  else ({ s with cxl := { s.cxl with snoop := s.cxl.snoop.drop 1 ++ [line] } }).count Ctr.biSnoops 1

/-- Lines of the filter that a run of n bytes of a space touches. -/
def State.heldLines (s : State) (sp : Space) (a n : Nat) : List Nat :=
  let base := s.odv K.guestBase
  let lines (guest : Bool) (a : Nat) : List Nat :=
    (List.range ((a + n + 63) / 64 - a / 64)).map fun i => lineOf guest (64 * (a / 64 + i))
  match sp with
  | .attic => (lines false a).filter s.cxl.snoop.contains
  | .cellar => if base ≤ a && a < base + s.odv K.guestBytes then (lines true (a - base)).filter s.cxl.snoop.contains else []
  | _ => []

/-- BACK_INVALIDATE before a station reads (BISnpData) or writes (BISnpInv) a run of bytes: whether the access may
proceed, and the state with the snoops sent. -/
def State.snoopFor (s : State) (sp : Space) (a n : Nat) (write : Bool) : Bool × State :=
  let need := (s.heldLines sp a n).filter fun l => write || !s.cxl.answered.contains l
  let new := need.filter fun l => !(s.cxl.asked.any fun x => x.1 == l && x.2 == write)
  let done := (s.heldLines sp a n)
  if need.isEmpty then
    (true, { s with cxl := { s.cxl with answered := s.cxl.answered.filter fun l => !done.contains l } })
  else (false, ({ s with cxl := { s.cxl with asked := s.cxl.asked ++ new.map fun l => (l, write) } }).count Ctr.biSnoops new.length)

/-- BISNP_RESPONSE for a line: a BISnpInv takes it out of the filter, a BISnpData lets the waiting read proceed. -/
def State.bisnpResponse (s : State) (line : Nat) : State :=
  match s.cxl.asked.find? fun x => x.1 == line with
  | none => s
  | some x =>
    let asked := s.cxl.asked.filter fun y => y != x
    if x.2 then { s with cxl := { s.cxl with asked := asked, snoop := s.cxl.snoop.filter fun l => l != line } }
    else { s with cxl := { s.cxl with asked := asked, answered := s.cxl.answered ++ [line] } }

/-! ### Inbound accesses (R487, R538 to R546, R561, R563) -/

/-- An Unsupported Request is what the requester sees (R538, R539). -/
def State.unsupported (s : State) (port : Nat) : State := s.send (.frame 0x31 0 port [] [])
/-- A write completes. -/
def State.writeDone (s : State) (port : Nat) : State := s.send (.frame 0x32 0 port [] [])

/-- Where an inbound access of n bytes lands: 1 BAR2 at an offset (a guest byte for reads only), 2 decoder 0,
3 decoder 1 (R539, R544). -/
def State.window (s : State) (path a n : Nat) (write : Bool) : Option (Space × Nat) :=
  if path == 1 then
    if a + n ≤ 0xC000000000 then some (.attic, a)
    else if 0xC000000000 ≤ a && a + n ≤ 0xC018000000 then some (.larder, a - 0xC000000000)
    else if !write && 0x10000000000 ≤ a && a + n ≤ 0x10000000000 + s.odv K.guestBytes then
      some (.cellar, s.odv K.guestBase + (a - 0x10000000000))
    else none
  else if path == 2 then
    if a + n ≤ s.odv (okey 0x0B221 0) then some (.attic, s.odv (okey 0x0B220 0) + a) else none
  else if path == 3 then
    if s.odv (okey 0x0B222 0) == 1 && a + n ≤ s.odv K.guestBytes then some (.cellar, s.odv K.guestBase + a) else none
  else none

/-- A page command taken at its high half (R541, R334). -/
def State.pageHi (s : State) (hi : Nat) : State :=
  let c := parsePageCmd (s.cxl.pageLo.getD 0 + hi * 2 ^ 64)
  let s := { s with cxl := { s.cxl with pageLo := none } }
  if s.pageCmdBad c then s.pageCmdIgnored else s.pageCmd c

/-- PAGE_CMD_LO: the low half is held, in place of one held before (R541). -/
def State.pageLo (s : State) (lo : Nat) : State := { s with cxl := { s.cxl with pageLo := some (lo % 2 ^ 64) } }

/-- MSI-X table bytes (R519): the vector control word's bit 0 is the mask. -/
def State.msixWrite (s : State) (off : Nat) (data : List Byte) : State :=
  (data.zip (List.range data.length)).foldl (fun s (b, i) =>
    let a := off + i
    if a % 16 == 12 then (if b.toNat % 2 == 1 then s.msixMask (a / 16) else s.msixUnmask (a / 16))
    else if a % 16 < 12 then { s with bell := { s.bell with msix := aset 0 s.bell.msix a b.toNat } }
    else s) s

def State.msixRead (s : State) (a : Nat) : Byte :=
  if a % 16 == 12 then (if s.bell.unmasked.contains (a / 16) then 0 else 1)
  else if a % 16 < 12 then BitVec.ofNat 8 (aget 0 s.bell.msix a) else 0

/-- A write of BAR0 (R540, R541). -/
def State.bar0Write (s : State) (off : Nat) (data : List Byte) : State :=
  let v := ofBytes data
  let ok := (s.demand [4]).writeDone 0
  if off < 0x38 then
    if off % 8 != 0 || data.length != 8 then s.unsupported 0
    else if off == 0x20 then (if v % 65536 < 2048 then s.bellAck (v % 65536) else s).writeDone 0
    else if off == 0x30 then s.writeDone 0
    else if !s.lbOn then s.unsupported 0
    else if off == 0 then ok.doorbell v
    else if off == 8 then ok.queueCmd v
    else if off == 0x10 then ok.pageLo v
    else if off == 0x18 then ok.pageHi v
    else ok.notifyAck (v % 256)
  else if 0x10000 < off + data.length then s.unsupported 0
  else if 0x1000 ≤ off && off + data.length ≤ 0x9000 then (s.msixWrite (off - 0x1000) data).writeDone 0
  else s.writeDone 0

/-- A read of BAR0: write-only and reserved registers return zero (R13, R540). -/
def State.bar0Read (s : State) (off n : Nat) : Option (List Byte) :=
  if off < 0x38 then
    if off % 8 != 0 || n != 8 then none
    else if off == 0x30 then some (leBytes 8 s.tick)
    else if off != 0x20 && !s.lbOn then none
    else some (leBytes 8 0)
  else if 0x10000 < off + n then none
  else some ((List.range n).map fun i =>
    let a := off + i
    if 0x1000 ≤ a && a < 0x9000 then s.msixRead (a - 0x1000)
    else if 0x9000 ≤ a && a < 0x9100 then BitVec.ofNat 8 (bits (bitSet s.bell.pendingBits) (8 * (a - 0x9000)) 8)
    else 0)

/-- INBOUND_WRITE at a port (R539, R544, R546): path 0 BAR0, 1 BAR2 by CXL.io or UIO, 2 and 3 CXL.mem through decoders
0 and 1, 4 the MSI-X control word of the configuration space (its bit 14 is the function mask). What comes by an insecure
stream is dropped (R547; log 67). -/
def State.inboundWrite (s : State) (port path addr : Nat) (data : List Byte) (poison : Bool) : State :=
  if 2 ≤ port || s.odv (K.portState port) != 2 || (path == 1 && s.insecure port) then s
  else if path == 0 then (if port == 0 then s.bar0Write addr data else s.unsupported port)
  else if path == 4 then
    (if port != 0 then s.unsupported port else if bit (ofBytes data) 14 then s.msixMask 2048 else s.msixUnmask 2048)
  else if path == 3 then
    (if (s.window 3 addr data.length true).isSome then (s.wake.count Ctr.hdmWriteDrops 1).writeDone port else s.unsupported port)
  else if s.odv K.bringupStage < 2 then s.unsupported port
  else
    match s.window path addr data.length true with
    | none => s.unsupported port
    | some (sp, a) =>
      let s := (s.wake.wrBytes sp a data).writeDone port
      if poison then (s.poison sp a data.length).count Ctr.poisonInbound 1 else s

/-- INBOUND_READ at a port, with the poisoned sectors of what it returns, numbered from the first it touches (R563). The
host comes to hold the lines it reads through a decoder (R545). -/
def State.inboundRead (s : State) (port path addr n : Nat) : State :=
  if 2 ≤ port || s.odv (K.portState port) != 2 || (path == 1 && s.insecure port) then s
  else if path == 0 then
    match s.bar0Read addr n with
    | some d => if port == 0 then s.send (.frame 0x30 0 port d []) else s.unsupported port
    | none => s.unsupported port
  else if s.odv K.bringupStage < 2 then s.unsupported port
  else
    match s.window path addr n false with
    | none => s.unsupported port
    | some (sp, a) =>
      let s := s.wake
      let bad := (List.range ((a + n + 31) / 32 - a / 32)).filter fun i => (s.mem sp).poison.contains (a / 32 + i)
      let s := if path == 2 || path == 3 then
          (List.range ((addr + n + 63) / 64 - addr / 64)).foldl (fun s i =>
            s.snoopInsert (lineOf (path == 3) (if path == 3 then 64 * (addr / 64 + i) else 64 * (a / 64 + i)))) s
        else s
      s.send (.frame 0x30 0 port (s.rdBytes sp a n) bad)

/-! ### Peers that do not answer (R414, R546), IDE (R547) -/

/-- A UIO write to a member fails: the member is dead at once, and an export to it is lost. -/
def State.uioFailed (s : State) (g m : Nat) : State := (s.declareDead g m).exportLost g m

/-- UIO_TIMEOUT. -/
def State.uioTimeout (s : State) (g m : Nat) : State := (s.count Ctr.uioTimeouts 1).uioFailed g m

/-- IDE_INTEGRITY_FAIL: a stream of the port is insecure until it is re-keyed. -/
def State.ideFail (s : State) (p : Nat) : State :=
  if 2 ≤ p then s else ((s.setOd (K.portIde p) 2).raise Bell.cxlLink).count (Ctr.ideFails + p) 1

/-- SPDM_REQUEST over a path; one that carries an IDE_KM key makes the port's streams secure (R547). -/
def State.spdmEvent (s : State) (path : Nat) (req : List Byte) (keyed : Bool) : State :=
  let t := s.spdmRequest path req
  if keyed && path < 2 && s.odv (K.portState path) == 2 then t.setOd (K.portIde path) 1 else t

end Sys2Proof.Machine
end

