-- ==== Sys2Proof/Machine/BringUp.lean ====
section
/-! DEFINITION. Bring-up (14, R495 to R501), the KV stacks and library at a start (10, R340; 08, R282). -/

namespace Sys2Proof.Machine

/-- A start is under way and the module is not held in reset. -/
def State.starting (s : State) : Bool := s.powered && s.pwr.starting != 0

/-- BS0_ENTRY (R496, R497, R551): MGMT_PLL locks, the boot ROM draws a nonce and verifies a slot. -/
def State.bs0 (s : State) : State :=
  if !s.starting || s.odv K.bringupStage != 0 || s.pllState 2 != 0 then s
  else
    let s := (((s.setPll 2 2 1000).setOd K.clkRunning 15).setOd K.pwrState 1).setOd K.clkEnable 15
    let (nonce, s) := s.free32
    let s := s.setOd K.debugNonce (ofBytes nonce)
    let a := s.odv K.bootSlot
    if s.slotVerifies (s.sec.slot a) then s.setOd K.runningSlot a
    else if s.slotVerifies (s.sec.slot (1 - a)) then
      (s.setOd K.runningSlot (1 - a)).setOd K.bringupFaults (s.odv K.bringupFaults ||| 64)
    else { s with pwr := { s.pwr with noFirmware := true } }

/-- BS1_ENTRY (R496, R498), once the crystal has been judged or BS0 goes on without it: port 0 trains and the dictionary
opens. -/
def State.bs1 (s : State) : State :=
  if !s.starting || s.odv K.bringupStage != 0 || s.pllState 2 == 0 || s.pwr.noFirmware
      || !(s.srcIsReady 1 || bit (s.odv K.bringupFaults) 0) then s
  else
    let s := (s.setOd K.bringupStage 1).linkTrain 0
    if bit (s.odv K.bringupFaults) 0 then s.raise Bell.clkSourceLost else s

/-! ### The KV free stacks (R340) -/

def poolKeys (p : Nat) : List Nat := [1, 2, 3, 4, 5].map fun i => K.kvPool p i

/-- Frames on a pool's free stack. -/
def State.freeFrames (s : State) (p : Nat) : List Nat :=
  (List.range (s.poolFree p)).map fun i => s.rd (s.poolSpace p) (s.poolStack p + 8 + 4 * i) 4

/-- A kept stack: pins of allocated frames go, and frames without references are freed. -/
def State.unpinPool (s : State) (p : Nat) : State :=
  let free := s.freeFrames p
  ((List.range (s.odv (K.kvPool p 4))).filter fun f => !free.contains f).foldl (fun s f =>
    let h := s.hdr p f
    let s := if h.pins == 0 then s else s.setHdr p f { h with pins := 0 }
    if h.refcount == 0 then
      let s := (s.pushFree p f).count Ctr.kvFrees 1
      if h.pins == 0 then s else s.count Ctr.kvDeferred 1
    else s) s

/-- One pool at entry to BS2. -/
def State.startPool (s : State) (cold : Bool) (p : Nat) : State :=
  let same := (poolKeys p).all fun k => aget (odDefault k) s.pwr.poolsBuilt k == s.odv k
  if s.odv (K.kvPool p 4) == 0 then s
  else if !cold && same then s.unpinPool p else s.buildPool p

/-- Every pool, and what their objects now hold. -/
def State.startPools (s : State) (cold : Bool) : State :=
  let s := (List.range 16).foldl (fun s p => s.startPool cold p) s
  let built := ((List.range 16).flatMap poolKeys).foldl (fun m k => aset (odDefault k) m k (s.odv k)) []
  { s with pwr := { s.pwr with poolsBuilt := built } }

/-! ### BS2 and BS3 -/

/-- The Workshop library of the running slot (R282, R284). -/
def State.loadLibrary (s : State) : State :=
  let img := s.runningImage 3
  let s := { s with ws := { s.ws with benchReset := [], store := [] } }
  if s.imgVerifies 3 img then { s.installLib img with sec := { s.sec with libActive := img } }
  else s.raise Bell.wsLibFail

/-- A full training stores new results, whose values the spec leaves open (R449). -/
def State.trainMemories (s : State) (cold : Bool) : State :=
  if !cold then s
  else
    let (a, s) := s.free32
    let (b, s) := s.free32
    let s := (s.setDomain (okey 0x02260 0) a).setDomain (okey 0x02261 0) b
    { s with pwr := { s.pwr with trained := true, retrain := false } }

/-- After a cold start the Guest room is empty: its header's STATUS is 0xFF (R388, R500). -/
def State.emptyGuest (s : State) (cold : Bool) : State :=
  if cold && s.odv K.guestBytes != 0 then s.wr .cellar (s.odv K.guestBase + 8) 1 0xFF else s

/-- The clock-enable bits a stage sets on entry (R484, R495). -/
def State.setEnables (s : State) (l : List Nat) : State :=
  s.setOd K.clkEnable (l.foldl (fun v b => if bit v b then v else v + 2 ^ b) (s.odv K.clkEnable))

/-- BS2_ENTRY (R99, R500, R501): a memory that fails training keeps the module in BS1. -/
def State.bs2 (s : State) (atticFail cellarFail : Bool) : State :=
  if !s.starting || s.odv K.bringupStage != 1 || (s.odv K.bringupHold == 1 && !s.pwr.released) then s
  else if atticFail || cellarFail then
    s.setOd K.bringupFaults (s.odv K.bringupFaults ||| ((if atticFail then 2 else 0) + (if cellarFail then 4 else 0)))
  else
    let cold := s.pwr.starting == 1
    let s := { s.trainMemories cold with larder := Mem.empty }
    let s := (s.setOd K.bringupStage 2).setOd K.pwrState 2
    let s := ((s.startPll 1).startPll 3).startPll 0
    let s := ((s.loadLibrary.startPools cold).emptyGuest cold).setEnables [4, 5, 6, 7, 9, 11, 12, 13]
    ((s.setOd K.frontMode 1).setOd K.backMode 0).raise Bell.bringupStage

/-- The state of a room from its dies' lane margins (R98): split, or derated when one is below the minimum. -/
def State.marginMode (s : State) (dies : List Nat) : Nat :=
  if dies.all fun d => decide ((15 : Int) ≤ s.calEff calMargin d) then 3 else 2

/-- The Front Room takes its new state once no letter runs in it (R101). -/
def State.frontSettle (s : State) : State :=
  match s.pwr.frontNext with
  | none => s
  | some m =>
    if s.lb.ops.any fun o => o.target == .front then s
    else (({ s with pwr := { s.pwr with frontNext := none } }).setOd K.frontMode m).settle

/-- BS3_ENTRY (R98, R118, R501): self-tests run on a cold start only. -/
def State.bs3 (s : State) (frontBad backBad port1Bad : Bool) : State :=
  if !s.starting || s.odv K.bringupStage != 2 then s
  else
    let cold := s.pwr.starting == 1
    let fb := cold && frontBad
    let bb := cold && backBad
    let fm := s.marginMode [1, 2]
    let bm := s.marginMode [3, 4, 5, 6]
    let faults := (if fb then 8 else 0) + (if bb then 16 else 0) + (if port1Bad then 32 else 0)
    let s := { s with rooms := { s.rooms with pantryF := [], pantryB := [] } }
    let s := s.setOd K.bringupFaults (s.odv K.bringupFaults ||| faults)
    let s := ((s.setOd K.bringupStage 3).setEnables [8, 10]).retunePlls
    let s := if (fm == 2 && !fb) || (bm == 2 && !bb) then s.raise Bell.roomDerated else s
    let s := s.setOd K.backMode (if bb then 0 else bm)
    let s := { s with pwr := { s.pwr with starting := 0, frontNext := some (if fb then 0 else fm) } }
    let s := (if port1Bad then s else s.linkTrain 1).raise Bell.bringupStage
    s.frontSettle

/-- The Workshop library of a run-time load is installed (R284); it is the one that is measured (R558). -/
def State.libDone (s : State) : State :=
  let t := s.libInstallDone
  match s.ws.loading with
  | some img => if t.ws.loading.isNone then { t with sec := { t.sec with libActive := img } } else t
  | none => t

end Sys2Proof.Machine
end

