-- ==== Sys2Proof/Machine/PorchCmds.lean ====
section
/-! DEFINITION. The Porch's events (07, R233, R237, R240, R241, R257; 16, R545, R560, R564): a port's grant, a burst's arrival,
and the bytes a converted tile puts into its path's drain streams. -/

namespace Sys2Proof.Machine

/-- An access goes out once the lines the host holds are back (R545). -/
def State.grantOne (s : State) (port : Nat) : State :=
  match s.arbiter port with
  | none => s
  | some c =>
    match c.head? with
    | none => s
    | some b =>
      let (ok, t) := s.snoopFor b.space b.addr b.len (512 ≤ c.num)
      if ok then t.grant port c else t

/-- MEMORY_PORT_GRANT (R241): the port's issue slot goes to its best contender. At the Glazia die link the export engine's reads
come from outside the arbiter and take at most one slot in eight (R242). -/
def State.portGrant (s : State) (port : Nat) : State :=
  if port != 32 then s.grantOne port
  else if s.porch.owed == 0 && s.exportWaits then { s.exportNext with porch := { s.porch with owed := 7 } }
  else ({ s with porch := { s.porch with owed := s.porch.owed - 1 } }).grantOne port

/-! ### Arrivals (R21, R237, R257) -/

/-- An arrived burst as the stream buffer holds it: each sector as it is read now; `lost` names a sector that the buffer lost
to an uncorrectable error (R257). -/
def State.bufSectors (s : State) (b : Burst) (lost : Option Nat) : List BufSector :=
  (b.src.zip (List.range b.src.length)).map fun (x, i) =>
    { isB := b.isB, tile := b.tile, space := x.1, sector := x.2, data := s.rd b.space (b.addr + 32 * i) 32,
      poison := s.poisonedAt b.space (b.addr + 32 * i) 32 || lost == some i }

/-- The staged copy of a burst (R237): its sectors, with their poison, go to the staging window as they are delivered. -/
def State.stageBurst (s : State) (b : Burst) (xs : List BufSector) : State :=
  match b.copyTo with
  | none => s
  | some a => (xs.zip (List.range xs.length)).foldl (fun st (x, i) =>
      let st := st.wr .larder (a + 32 * i) 32 x.data
      if x.poison then st.poison .larder (a + 32 * i) 32 else st) s

/-- What an arrival meets in sector n of its burst (R257, R560, R564): 1 and 2 a corrected and an uncorrectable error of the
stream buffer, 3 and 4 an uncorrectable and a corrected error of the memory it was read from. -/
def State.arrivalEcc (s : State) (b : Burst) (n ecc : Nat) : State :=
  let sector := b.addr / 32 + n
  if ecc == 1 then s.count Ctr.porchBufCe 1
  else if ecc == 2 then (s.count Ctr.porchBufUe 1).memRecord 4 (32 * sector)
  else if ecc == 3 && b.space != .host then s.memUe b.space sector
  else if ecc == 4 then
    (match b.space with
     | .attic => s.count Ctr.atticCe 1
     | .cellar => s.count Ctr.cellarCe 1
     | .larder => s.count Ctr.larderCe 1
     | .host => s)
  else s

/-- BURST_ARRIVAL: the oldest burst a thread has outstanding arrives in its buffer, from which its consumer has taken `taken`
bytes; `ecc` in sector `sec` of the burst. -/
def State.burstArrival (s : State) (thread taken ecc sec : Nat) : State :=
  match s.porch.contenders.find? fun c => c.num == thread && thread < 512 with
  | none => s
  | some c =>
    match c.outstanding, s.opAt c.station with
    | b :: rest, some o =>
      let n := sec % max 1 b.src.length
      let s := s.setContender { c with outstanding := rest, buffered := c.buffered + b.len - min taken (c.buffered + b.len) }
      let s := s.arrivalEcc b n ecc
      let xs := s.bufSectors b (if ecc == 2 then some n else none)
      let old := o.buf.filter fun e => !(e.isB == b.isB && e.tile == b.tile && b.src.contains (e.space, e.sector))
      (s.stageBurst b xs).setOp { o with buf := old ++ xs }
    | _, _ => s

/-! ### Drain streams (R240, R241) -/

/-- Memory sectors a tile's element occupies in a destination: its codes, its block's scale and its block's width, with the
page they lie in. -/
def elemSectors (s : State) (o : Op) (p : Part) (d : DestRun) (ls : List Nat) : List (Nat × Space × Nat) :=
  let site := siteOf s o p d ls
  let page := if d.desc.paged then (s.kvCtx (bits p.letter.pageCtx 0 20)).entryOf (d.desc.posOf ls) + 1 else 0
  let w : Int := ((fmtBits d.desc.format : Nat) : Int)
  let sector (a : Int) : Nat := a.toNat / 32
  let n := blkOf d.desc.blkCode
  let arr (l : Option Loc) : List (Nat × Space × Nat) :=
    match l with
    | none => []
    | some q => if n == 0 then [] else [(page, q.space, sector ((q.addr : Int) + site.off / (n : Int)))]
  [(page, site.space, sector (site.base + site.off * w / 8))] ++ arr site.bs ++ (if isBlockCode d.desc.format then arr site.wa else [])

/-- The write bursts of a converted tile for D or S: its sectors, each once, joined into bursts (R233, R240). A sector the tile
fills in part counts whole (DESIGN CHOICE, log 16). -/
def tileWrites (s : State) (o : Op) (isS : Bool) (els : List TileEl) (t : Nat) : List Burst :=
  let xs := els.foldl (fun (acc : List (Nat × Space × Nat)) e =>
    match o.destAt e.part isS with
    | none => acc
    | some (p, d) =>
      if !d.present then acc
      else (elemSectors s o p d (destIdx o p d.desc e.row e.col)).foldl (fun a x => if a.contains x then a else a ++ [x]) acc) []
  (coalesce xs).map (Run.burst isS t)

/-- Elements per HALL cycle of a conversion path: 3,072, and 1,536 with the outlier path of a block code on (R141). -/
def pathRate (o : Op) (isS : Bool) : Nat :=
  if o.parts.any fun p => (p.dest isS).elim false (outliersOn o p) then 1536 else 3072

/-- A converted tile's bytes wait in the path's drain stream: D's is the path's first, S's its second. Its write buffer holds
256 KiB; what does not fit waits in the Landing (R240). -/
def State.addDrain (s : State) (o : Op) (isS : Bool) (bs : List Burst) (last : Bool) : State :=
  match o.parts with
  | [] => s
  | p :: _ =>
    match p.dest isS with
    | none => s
    | some d =>
      if bs.isEmpty then s else
      let num := 512 + 2 * o.station + (if isS then 1 else 0)
      let bytes := bs.foldl (fun n b => n + b.len) 0
      match s.porch.contenders.find? fun c => c.num == num with
      | some c =>
        let held := min 262144 (c.buffered + bytes)
        s.setContender { c with queue := c.queue ++ bs, buffered := held, backlog := c.backlog + (c.buffered + bytes - held),
                                rateNum := pathRate o isS * fmtBits d.desc.format, lastBytes := last || (c.lastBytes && c.buffered != 0) }
      | none =>
        let new : Contender :=
          { num := num, station := o.station, queue := bs, outstanding := [], buffered := min 262144 bytes, backlog := bytes - 262144,
            cap := 262144, clock := 1, rateNum := pathRate o isS * fmtBits d.desc.format, rateDen := 8, lastBytes := last }
        { s with porch := { s.porch with contenders := s.porch.contenders ++ [new] } }

/-- A tile was converted at a path: its bytes wait in the drain streams. -/
def State.drainTile (s : State) (before : Option (Op × List TileEl)) : State :=
  match before with
  | none => s
  | some (o, els) =>
    match s.lb.ops.find? fun x => x.isSame o with
    | some o' =>
      if o'.tilesConv == o.tilesConv + 1 then
        let last := o'.workDone
        let d := tileWrites s o' false els o.tilesConv
        let x := tileWrites s o' true els o.tilesConv
        (s.addDrain o' false d last).addDrain o' true x last
      else s
    | none => s

/-- TILE_CONVERSION_END at a Landing path, then the late sends of chunks it repaired (R159, R410). `ecc`: what its read of a
room's tile met in the Pantry (R119). -/
def State.tileConversionEnd (s : State) (path ecc : Nat) : State :=
  let before := (s.convertible path).map fun o => (o, tileEls s o o.tilesConv)
  (((s.convertTile path ecc).drainTile before).repairedSends).frontSettle

end Sys2Proof.Machine
end

