-- ==== Sys2Proof/Machine/Commands.lean ====
section
/-! DEFINITION. What the meanings share: the conditions under which a station or a way takes a
command at all. -/

namespace Sys2Proof.Machine

/-- The Letterbox dispatches while its clock is enabled and the module runs (R486, R487). -/
def State.dispatching (s : State) (f : State → State) : State :=
  if s.lbOn && s.powered then f (s.demand [4]) else s

/-- An access that comes by a way: the mailbox answers from BS1 on, over an UP port 0 (R465); Xaxia in every state with
the auxiliary supply, unless THERMTRIP# is latched (R490, R569). Otherwise nothing arrives. -/
def State.onWay (s : State) (w : Way) (f : State → State) : State :=
  match w with
  | .mailbox => if s.mboxOn then f s else s
  | .xaxia _ _ => if s.xaxiaOn then f s else s

/-- A frame for the Peloton engine arrives at a port that is UP (R537) and secure (R547), while the engine is not gated. -/
def State.inbound (s : State) (port : Nat) (f : State → State) : State :=
  if s.odv (K.portState port) == 2 && !s.insecure port && s.enabled 11 then f s else s

/-- The same for the export engine. -/
def State.inboundEx (s : State) (port : Nat) (f : State → State) : State :=
  if s.odv (K.portState port) == 2 && !s.insecure port && s.enabled 13 then f s else s

/-- The standard programs (R273). -/
def standardProgram (n : Nat) : Bool :=
  ([0x001, 0x002, 0x003, 0x004, 0x010, 0x011, 0x012, 0x020, 0x021, 0x030, 0x040] : List Nat).contains n

/-- A page command's high half at the BAR0 doorbell (R541). -/
def State.pageDoorbell (s : State) (hi : Nat) : State :=
  if s.lbOn then (s.demand [4]).pageHi hi else s.unsupported 0

/-- PWR_STATE_REQ 0x02: the wake frame in the Pilot state, which only Xaxia can bring (R493); else a write (R492). -/
def State.housekeepingReq (s : State) (w : Way) : State :=
  if s.odv K.pwrState == 0 && 1 ≤ s.odv K.bringupStage && w.peer.isSome then (s.pilotWake 2).respond w [] 0 []
  else s.odWriteObj w 0x01033 0 [2]

/-- A whole unlock token (R556): the checks of its block write, then the signature. -/
def State.debugUnlock (s : State) (w : Way) (token : List Byte) : State :=
  let f := s.blockForm w 0x0B031 0 true
  let a := firstAbort [
    ((objInfo 0x0B031 0).elim false fun o => o.size < token.length, Abort.tooLarge),
    (!s.tokenOk token, Abort.signature) ]
  if f != 0 then s.respond w [] f []
  else if a != 0 then s.respond w [] a []
  else (s.domainEffect 0x0B031 token).respond w [] 0 []

end Sys2Proof.Machine
end

