-- ==== Sys2Proof/Machine/BellCmds.lean ====
section
/-! DEFINITION. Meanings: Bellboard and Meter commands (15). -/

namespace Sys2Proof.Machine

/-- The write of BELL_CLEAR (R512). -/
def execBellClear (w : Way) (data : List Byte) (s : State) : Res :=
  .next (s.onWay w fun t => t.odWriteObj w 0x09002 0 data)

/-- An acknowledgement of host vector v (R517), by a dictionary path or (none) by BAR0. -/
def execBellAck (w : Option Way) (v : Nat) (s : State) : Res := .next (
  match w with
  | some p => s.onWay p fun t => t.odWriteObj p 0x09003 0 (leBytes 2 v)
  | none => if v < 2048 then s.bellAck v else s)

/-- The write of a route (R513, R514). -/
def execBellRoute (w : Way) (n : Nat) (data : List Byte) (s : State) : Res :=
  .next (s.onWay w fun t => t.odWriteObj w (0x09400 + n % 1024) 0 data)

/-- The write of a vector's limits (R515, R516). -/
def execBellVector (w : Way) (v : Nat) (data : List Byte) (s : State) : Res :=
  .next (s.onWay w fun t => t.odWriteObj w (0x09800 + v % 2048) 0 data)

/-- The write of BELL_GLOBAL_EN (R520). -/
def execBellGlobalEn (w : Way) (data : List Byte) (s : State) : Res :=
  .next (s.onWay w fun t => t.odWriteObj w 0x09000 0 data)

/-- A met target is delivered (R516, R519). -/
def execBellDeliver (target : Nat) (s : State) : Res := .next (if s.pwr.auxOn then s.bellDeliver target else s)

/-- A vector mask, or at 2,048 the function mask, clears (R519). -/
def execMsixUnmask (v : Nat) (s : State) : Res := .next (s.msixUnmask v)

/-- The write of METER_SNAP (R525, R527). -/
def execMeterSnap (w : Way) (data : List Byte) (s : State) : Res :=
  .next (s.onWay w fun t => t.odWriteObj w 0x0A000 0 data)

/-- Edge E of the pending snapshot (R525, R526, R530). -/
def execSnapshotEdge (s : State) : Res := .next (s.snapshotEdge)

end Sys2Proof.Machine
end

