-- ==== Sys2Proof/Machine/ClockCmds.lean ====
section
/-! DEFINITION. Meanings: Clock commands (14). -/

namespace Sys2Proof.Machine

/-- The write of a PLL's SRC (R479). -/
def execClkPllSrc (w : Way) (pll : Nat) (data : List Byte) (s : State) : Res :=
  .next (s.onWay w fun t => t.odWriteObj w (0x01100 + pll) 1 data)

/-- The write of CLK_ENABLE (R483, R484). -/
def execClkEnable (w : Way) (data : List Byte) (s : State) : Res :=
  .next (s.onWay w fun t => t.odWriteObj w 0x01020 0 data)

/-- A crystal judgement gate ends (R472, R475). -/
def execXtalGate (count : Nat) (s : State) : Res := .next (s.xtalGate count)

/-- A reference-clock gate ends (R473, R474, R537). -/
def execRefclkGate (clock : Nat) (count : Nat) (s : State) : Res := .next (s.refclkPort clock count)

/-- A crystal monitor gate ends (R474, R475). -/
def execXtalMonitorGate (count : Nat) (s : State) : Res := .next (s.xtalMonitor count)

/-- A crystal edge is missing (R475). -/
def execXtalEdgeMissing (s : State) : Res := .next (s.xtalMissing)

/-- The crystal is not judged in 100 ms (R496). -/
def execXtalJudgeTimeout (s : State) : Res := .next (s.xtalJudgeTimeout)

/-- A PLL enters Freewheel (R480). -/
def execFreewheel (pll : Nat) (s : State) : Res := .next (s.freewheel pll)

/-- The Housekeeper moves a freewheeling PLL (R482). -/
def execClkFailoverSwitch (pll : Nat) (s : State) : Res := .next (s.failoverSwitch pll)

/-- A relocking PLL locks (R479, R481). -/
def execPllLocked (pll : Nat) (s : State) : Res := .next (s.pllLockedServe pll)

/-- An idle station's clock stops (R486). -/
def execClkIdleTimeout (station : Nat) (s : State) : Res := .next (s.clkIdleTimeout station)

/-- The thermal sample (R489). -/
def execThermalSample (raw : List Int) (s : State) : Res := .next (s.thermalSample raw)

/-- The power sample (R531). -/
def execPowerMeterSample (raw : List Nat) (input : Nat) (s : State) : Res := .next (s.powerSample raw input)

end Sys2Proof.Machine
end

