-- ==== Sys2Proof/Machine/CxlCmds.lean ====
section
/-! DEFINITION. Meanings: CXL, security and test-port commands (16, 17). -/

namespace Sys2Proof.Machine

/-- A port trains (R536). -/
def execLinkTrained (port : Nat) (width : Nat) (rate : Nat) (s : State) : Res := .next (s.linkTrained port width rate)

/-- A port tries again (R536). -/
def execLinkRetry (port : Nat) (s : State) : Res := .next (s.linkRetry port)

/-- A port goes DOWN (R407, R537). -/
def execLinkDown (port : Nat) (s : State) : Res := .next (s.linkDown port)

/-- PERST# is asserted (R537). -/
def execPerstAssert (port : Nat) (s : State) : Res := .next (s.perstAssert port)

/-- PERST# is deasserted (R492, R537). -/
def execPerstDeassert (port : Nat) (s : State) : Res := .next (s.perstDeassert port)

/-- A packet fails its integrity check (R547). -/
def execIdeIntegrityFail (port : Nat) (s : State) : Res := .next (s.ideFail port)

/-- An inbound write (R539 to R546, R563). -/
def execInboundWrite (port : Nat) (path : Nat) (addr : Nat) (data : List Byte) (poison : Bool) (s : State) : Res :=
  .next (s.inboundWrite port path addr data poison)

/-- An inbound read (R539 to R545, R563). -/
def execInboundRead (port : Nat) (path : Nat) (addr : Nat) (len : Nat) (s : State) : Res :=
  .next (s.inboundRead port path addr len)

/-- The host answers a snoop (R545). -/
def execBisnpResponse (line : Nat) (s : State) : Res := .next (s.bisnpResponse line)

/-- An SPDM request (R547, R557 to R559). -/
def execSpdmRequest (path : Nat) (req : List Byte) (keyed : Bool) (s : State) : Res :=
  .next (s.spdmEvent path req keyed)

/-- The write of SEC_SVN_COMMIT (R552). -/
def execSecSvnCommit (w : Way) (data : List Byte) (s : State) : Res :=
  .next (s.onWay w fun t => t.odWriteObj w 0x0B003 0 data)

/-- The write of SEC_FW_COMMIT (R553). -/
def execSecFwCommit (w : Way) (data : List Byte) (s : State) : Res :=
  .next (s.onWay w fun t => t.odWriteObj w 0x0B011 0 data)

/-- The flash write completes (R553). -/
def execFwWriteDone (s : State) : Res := .next (s.fwWriteDone)

/-- The write of SEC_OWNER_KEY_NEXT (R554). -/
def execSecOwnerKeyNext (w : Way) (data : List Byte) (s : State) : Res :=
  .next (s.onWay w fun t => t.odWriteObj w 0x0B020 0 data)

/-- A whole unlock token (R556). -/
def execSecDebugUnlock (w : Way) (token : List Byte) (s : State) : Res :=
  .next (s.onWay w fun t => t.debugUnlock w token)

/-- RECOVERY_LOAD (R555). -/
def execRecoveryLoad (images : List Byte) (s : State) : Res := .next (s.recoveryLoad images)

/-- EXTEST, EXTEST_PULSE or EXTEST_TRAIN (R577, R578). -/
def execExtest (which : Nat) (pins : Nat) (s : State) : Res := .next (s.extest which pins)

/-- The TAP is reset (R577). -/
def execTapReset (s : State) : Res := .next (s.tapReset)

/-- The daily patrol scrub (R562, R564). -/
def execPatrolScrub (ceAttic : Nat) (ceCellar : Nat) (ueAttic : List Nat) (ueCellar : List Nat) (s : State) : Res :=
  .next (s.patrolScrub ceAttic ceCellar ueAttic ueCellar)

end Sys2Proof.Machine
end

