-- ==== Sys2Proof/Machine/GlaziaCmds.lean ====
section
/-! DEFINITION. Meanings: Glazia commands (11). -/

namespace Sys2Proof.Machine

/-- OPEN (R355, R356, R369). -/
def execOpenUpdate (q : Nat) (s : State) : Res := .next (s.dispatching fun t => t.openLetter q)

/-- PIECE (R357). -/
def execPiece (q : Nat) (s : State) : Res := .next (s.dispatching fun t => t.pieceLetter q)

/-- CLOSE (R361). -/
def execClose (q : Nat) (s : State) : Res := .next (s.dispatching fun t => t.closeLetter q)

/-- QUANT (R371). -/
def execQuant (q : Nat) (s : State) : Res := .next (s.dispatching fun t => t.quantLetter q)

/-- A Glazia letter of another program completes with GZ_STATE (R354). -/
def execGzUnknownProg (q : Nat) (s : State) : Res := .next (s.dispatching fun t => t.gzUnknown q)

/-- A core finishes a grain (R374); mem is a memory error it met (R377). -/
def execGrainDone (core : Nat) (cycles : Nat) (mem : Nat) (s : State) : Res := .next (s.grainDone core cycles mem)

/-- A core executes the word at its place when it is ADD (R346). -/
def execAdd (core : Nat) (s : State) : Res := .next (s.gzExec core 0x01)

/-- A core executes the word at its place when it is SUB (R346). -/
def execSub (core : Nat) (s : State) : Res := .next (s.gzExec core 0x02)

/-- A core executes the word at its place when it is MUL (R346). -/
def execMul (core : Nat) (s : State) : Res := .next (s.gzExec core 0x03)

/-- A core executes the word at its place when it is FMA (R346). -/
def execFma (core : Nat) (s : State) : Res := .next (s.gzExec core 0x04)

/-- A core executes the word at its place when it is LERP (R346). -/
def execLerp (core : Nat) (s : State) : Res := .next (s.gzExec core 0x05)

/-- A core executes the word at its place when it is MIN (R346). -/
def execMin (core : Nat) (s : State) : Res := .next (s.gzExec core 0x06)

/-- A core executes the word at its place when it is MAX (R346). -/
def execMax (core : Nat) (s : State) : Res := .next (s.gzExec core 0x07)

/-- A core executes the word at its place when it is ABS (R346). -/
def execAbs (core : Nat) (s : State) : Res := .next (s.gzExec core 0x08)

/-- A core executes the word at its place when it is DIV (R346). -/
def execDiv (core : Nat) (s : State) : Res := .next (s.gzExec core 0x09)

/-- A core executes the word at its place when it is SQRT (R346). -/
def execSqrt (core : Nat) (s : State) : Res := .next (s.gzExec core 0x0A)

/-- A core executes the word at its place when it is SEL (R346). -/
def execSel (core : Nat) (s : State) : Res := .next (s.gzExec core 0x0B)

/-- A core executes the word at its place when it is LD (R346); ecc 1 or 2 is an error the load met in its stream data, in
sector `sec` of the vector (R377). -/
def execLd (read : GrainRead) (s : State) : Res := .next (s.gzLd read.core read.ecc read.sec)

/-- A core executes the word at its place when it is ST (R346). -/
def execSt (core : Nat) (s : State) : Res := .next (s.gzExec core 0x11)

/-- A core executes the word at its place when it is CVTSR (R346). -/
def execCvtsr (core : Nat) (s : State) : Res := .next (s.gzExec core 0x12)

/-- A core executes the word at its place when it is CVTBF (R346). -/
def execCvtbf (core : Nat) (s : State) : Res := .next (s.gzExec core 0x13)

/-- A core executes the word at its place when it is SPOWI (R346). -/
def execSpowi (core : Nat) (s : State) : Res := .next (s.gzExec core 0x20)

/-- The word that ends the prologue (R345). -/
def execBody (core : Nat) (s : State) : Res := .next (s.gzBody core)

/-- COMMIT writes the staged stores (R363 to R366). -/
def execCommit (core : Nat) (s : State) : Res := .next (s.gzCommit core)

/-- The write of GLAZIA_RULE_LOAD (R348). -/
def execGlaziaRuleLoad (w : Way) (data : List Byte) (s : State) : Res :=
  .next (s.onWay w fun t => t.odWriteObj w 0x06021 0 data)

end Sys2Proof.Machine
end

