-- ==== Sys2Proof/Machine/Letters.lean ====
section
/-! DEFINITION. Meanings: Letterbox, rooms and Landing commands (03 to 06). -/

namespace Sys2Proof.Machine

/-- A doorbell of R213; while the Letterbox is gated it is dropped (R487). -/
def execLetterboxDoorbell (data : Nat) (s : State) : Res :=
  .next (if s.lbOn then (s.demand [4]).doorbell (data % 2 ^ 64) else s)

/-- Queue command ENABLE (R211, R212); dropped while the Letterbox is gated (R487). -/
def execEnable (q : Nat) (s : State) : Res := .next (if s.lbOn then (s.demand [4]).enableQueue q else s)

/-- Queue command DISABLE (R211, R212); dropped while the Letterbox is gated (R487). -/
def execDisable (q : Nat) (s : State) : Res := .next (if s.lbOn then (s.demand [4]).disableQueue q else s)

/-- Queue command RESUME (R211, R212); dropped while the Letterbox is gated (R487). -/
def execResume (q : Nat) (s : State) : Res := .next (if s.lbOn then (s.demand [4]).resumeQueue q else s)

/-- Queue command FLUSH (R211, R212); dropped while the Letterbox is gated (R487). -/
def execFlush (q : Nat) (s : State) : Res := .next (if s.lbOn then (s.demand [4]).flushQueue q else s)

/-- Dispatch of a header letter (R181, R182). -/
def execHeader (q : Nat) (s : State) : Res := .next (s.dispatching fun t => t.dispatchHeader q)

/-- Dispatch of a letter of route 1 at the head of queue q, when it is the one the Letterbox chooses (R183, R205, R217). -/
def execFrontProduct (q : Nat) (s : State) : Res :=
  .next (s.dispatching fun t => t.dispatchLetter q fun l => l.route == 1)

/-- Dispatch of a letter of route 2 at the head of queue q, when it is the one the Letterbox chooses (R183, R205, R217). -/
def execBackProduct (q : Nat) (s : State) : Res :=
  .next (s.dispatching fun t => t.dispatchLetter q fun l => l.route == 2)

/-- Dispatch of a letter of route 8 at the head of queue q, when it is the one the Letterbox chooses (R183, R205, R217). -/
def execCopyConvert (q : Nat) (s : State) : Res :=
  .next (s.dispatching fun t => t.dispatchLetter q fun l => l.route == 8)

/-- Dispatch of a letter of route 9 at the head of queue q, when it is the one the Letterbox chooses (R183, R205, R217). -/
def execCopyTranspose (q : Nat) (s : State) : Res :=
  .next (s.dispatching fun t => t.dispatchLetter q fun l => l.route == 9)

/-- Dispatch of a marker letter (R185). -/
def execMarker (q : Nat) (s : State) : Res := .next (s.dispatching fun t => t.dispatchMarker q)

/-- A DECODE gather ends and its merged op is dispatched (R219). -/
def execDecodeGatherTimeout (s : State) : Res := .next (s.endGather)

/-- A dispatched letter starts at a landing station (R38, R90, R152); fill is its PORCH_FILL_CYCLES. -/
def execLetterStart (station : Nat) (fill : Nat) (s : State) : Res := .next (s.letterStart station fill)

/-- A lane of a room ends a segment and flushes it (R91, R111); ecc 1 or 2 is a Pantry error met (R119). -/
def execSegmentEnd (back : Bool) (row : Nat) (col : Nat) (ecc : Nat) (s : State) : Res :=
  .next (s.segmentEnd back row col ecc)

/-- A held write-mode flush proceeds (R96). -/
def execFlushHoldRelease (back : Bool) (cycles : Nat) (s : State) : Res := .next (s.holdRelease back cycles)

/-- A room signals a tile (R94, R88); ecc 1 or 2 is a Pantry error its read met (R119). -/
def execTileDone (read : DrainRead) (cycles : Nat) (starve : Nat) (s : State) : Res :=
  .next ((s.tileDone read.back cycles starve read.ecc).frontSettle)

/-- A pass of a long-sum letter ends (R119, R124, R588). -/
def execPassDone (read : DrainRead) (s : State) : Res := .next (s.passDone read.back read.ecc)

/-- A Landing path ends the conversion of a tile (R119, R159 and the triggers of 05, 09, 10). -/
def execTileConversionEnd (read : PathRead) (s : State) : Res := .next (s.tileConversionEnd read.path read.ecc)

/-- A tile that waits for a frame runs out of time (R336). -/
def execKvWaitTimeout (path : Nat) (s : State) : Res := .next (s.kvWaitTimeout path)

/-- A letter completes: count part and record, in sequence order (R221 to R223). -/
def execLetterCompletion (q : Nat) (seq : Nat) (s : State) : Res := .next ((s.completeLetter q seq).frontSettle)

/-- Notification pending bit n clears (R223), by a dictionary path or (none) by BAR0 (R540). -/
def execLetterboxNotifyAck (w : Option Way) (n : Nat) (s : State) : Res := .next (
  match w with
  | some p => s.onWay p fun t => t.odWriteObj p 0x04032 0 (leBytes 1 n)
  | none => if s.lbOn then (s.demand [4]).notifyAck (n % 256) else s.unsupported 0)

/-- Dispatch of a letter with a reserved route, or read from a poisoned ring sector (R183, R205). -/
def execReservedRoute (q : Nat) (s : State) : Res := .next (s.dispatching fun t => t.dispatchReserved q)

end Sys2Proof.Machine
end

