-- ==== Sys2Proof/Machine/PageCmds.lean ====
section
/-! DEFINITION. Meanings: KV page commands (10). -/

namespace Sys2Proof.Machine

/-- SHARE (R333, R334), whole by a dictionary path, or (none) by the high half at the doorbell; reserved operations come here too. -/
def execShare (w : Option Way) (lo : Nat) (hi : Nat) (s : State) : Res := .next (
  match w with
  | some p => if lo % 16 == 2 then s else s.onWay p fun t => t.odWriteObj p 0x08010 0 (leBytes 8 lo ++ leBytes 8 hi)
  | none => if s.cxl.pageLo.getD 0 % 16 == 2 then s else s.pageDoorbell hi)

/-- FREE (R333, R334), by either path. -/
def execFree (w : Option Way) (lo : Nat) (hi : Nat) (s : State) : Res := .next (
  match w with
  | some p => if lo % 16 != 2 then s else s.onWay p fun t => t.odWriteObj p 0x08010 0 (leBytes 8 lo ++ leBytes 8 hi)
  | none => if s.cxl.pageLo.getD 0 % 16 != 2 then s else s.pageDoorbell hi)

/-- The low half of a page command is held (R541). -/
def execPageCmdLo (lo : Nat) (s : State) : Res := .next (if s.lbOn then (s.demand [4]).pageLo lo else s.unsupported 0)

end Sys2Proof.Machine
end

