-- ==== Sys2Proof/Machine/PelotonCmds.lean ====
section
/-! DEFINITION. Meanings: Peloton and export commands (12). -/

namespace Sys2Proof.Machine

/-- Dispatch of a collective letter REDUCE_SCATTER (R393 to R400). -/
def execReduceScatter (q : Nat) (s : State) : Res := .next (s.dispatching fun t => t.dispatchCollective q 1 true)

/-- Dispatch of a collective letter ALL_GATHER (R393 to R400). -/
def execAllGather (q : Nat) (s : State) : Res := .next (s.dispatching fun t => t.dispatchCollective q 2 false)

/-- Dispatch of a collective letter BROADCAST (R393 to R400). -/
def execBroadcast (q : Nat) (s : State) : Res := .next (s.dispatching fun t => t.dispatchCollective q 3 false)

/-- Dispatch of a collective letter ALL_TO_ALL (R393 to R400). -/
def execAllToAll (q : Nat) (s : State) : Res := .next (s.dispatching fun t => t.dispatchCollective q 4 false)

/-- A ring round or tree level starts (R309, R398, R589). -/
def execRingRoundStart (slot : Nat) (s : State) : Res := .next (s.roundStart slot)

/-- A contribution frame arrives (R397, R403). -/
def execContrib (port : Nat) (head : Nat) (payload : List Byte) (poison : Bool) (s : State) : Res :=
  .next (s.inbound port fun t => t.contribFrame port head payload poison)

/-- A part frame arrives (R411). -/
def execPart (port : Nat) (head : Nat) (payload : List Byte) (poison : Bool) (s : State) : Res :=
  .next (s.inbound port fun t => t.partFrame port head payload poison)

/-- A LATE frame arrives (R408, R409). -/
def execLateFrame (port : Nat) (head : Nat) (payload : List Byte) (poison : Bool) (s : State) : Res :=
  .next (s.inbound port fun t => t.lateArrival port head payload poison)

/-- A credit frame arrives (R403). -/
def execCredit (port : Nat) (head : Nat) (s : State) : Res := .next (s.inbound port fun t => t.creditArrival head)

/-- A notice frame arrives (R415). -/
def execNotice (port : Nat) (head : Nat) (s : State) : Res := .next (s.inbound port fun t => t.noticeArrival head)

/-- A chunk's deadline expires (R406). -/
def execChunkDeadline (slot : Nat) (owner : Nat) (chunk : Nat) (level : Nat) (s : State) : Res :=
  .next (s.chunkDeadline slot owner chunk level)

/-- A frame whose TAG was not dispatched within 1 s is discarded (R397). -/
def execTagDiscard (slot : Nat) (s : State) : Res := .next (s.tagDiscard slot)

/-- A UIO write to a member times out (R414, R546). -/
def execUioTimeout (g : Nat) (m : Nat) (s : State) : Res := .next (s.uioTimeout g m)

/-- A UIO write to a member ends with an error (R414). -/
def execUioCompletionError (g : Nat) (m : Nat) (s : State) : Res := .next (s.uioFailed g m)

/-- PELOTON_CMD REJOIN (R417). -/
def execRejoin (w : Way) (g : Nat) (m : Nat) (s : State) : Res :=
  .next (s.onWay w fun t => t.odWriteObj w 0x0C020 0 (leBytes 8 (1 + g % 16 * 16 + m % 65536 * 256)))

/-- PELOTON_CMD CLEAR_MISSES (R417). -/
def execClearMisses (w : Way) (g : Nat) (m : Nat) (s : State) : Res :=
  .next (s.onWay w fun t => t.odWriteObj w 0x0C020 0 (leBytes 8 (2 + g % 16 * 16 + m % 65536 * 256)))

/-- An AUTO export starts (R383); guest is the buddy's Guest room header as read. -/
def execExportAutoStart (guest : Nat) (s : State) : Res := .next (if s.enabled 13 then s.exportAuto guest else s)

/-- An EXPORT letter (R383, R384). -/
def execExportBank (q : Nat) (guest : Nat) (s : State) : Res := .next (s.dispatching fun t => t.exportLetter q guest)

/-- A GUEST_SEND letter (R419). -/
def execGuestSend (q : Nat) (s : State) : Res := .next (s.dispatching fun t => t.guestSend q)

/-- An export stream frame arrives (R388, R389). -/
def execExportFrame (port : Nat) (head : Nat) (payload : List Byte) (poison : List Nat) (s : State) : Res :=
  .next (s.inboundEx port fun t => t.streamFrame false port head payload poison)

/-- A frame of an IMAGE stream arrives at an armed spare (R418). -/
def execRestoreStream (port : Nat) (head : Nat) (payload : List Byte) (poison : List Nat) (s : State) : Res :=
  .next (s.inboundEx port fun t => t.streamFrame true port head payload poison)

/-- The acknowledgement or refusal of an export arrives (R389). -/
def execExportAck (port : Nat) (head : Nat) (s : State) : Res := .next (s.inboundEx port fun t => t.exportAck head)

end Sys2Proof.Machine
end

