-- ==== Sys2Proof/Machine/PorchEvents.lean ====
section
/-! DEFINITION. Meanings: Porch events (07). -/

namespace Sys2Proof.Machine

/-- A memory port grants its best contender (R241, R545). -/
def execMemoryPortGrant (port : Nat) (s : State) : Res := .next (s.portGrant port)

/-- A read burst arrives in its buffer (R233, R248, R257). -/
def execBurstArrival (thread : Nat) (taken : Nat) (ecc : Nat) (sec : Nat) (s : State) : Res :=
  .next (s.burstArrival thread taken ecc sec)

end Sys2Proof.Machine
end

