-- ==== Sys2Proof/Machine/PowerCmds.lean ====
section
/-! DEFINITION. Meanings: Power, bring-up and reset commands (14, 17). -/

namespace Sys2Proof.Machine

/-- A sensor reaches 105 °C (R490). -/
def execThermtrip (s : State) : Res := .next (s.thermTrip)

/-- The module has been idle (R492). -/
def execPwrHkIdle (s : State) : Res := .next (s.hkIdle)

/-- PWR_STATE_REQ 0x01 (R492, R494). -/
def execPilot (w : Way) (s : State) : Res := .next (s.onWay w fun t => t.odWriteObj w 0x01033 0 [1])

/-- PWR_STATE_REQ 0x02, in Pilot the wake frame (R492, R493). -/
def execHousekeeping (w : Way) (s : State) : Res := .next (s.onWay w fun t => t.housekeepingReq w)

/-- PWR_STATE_REQ 0x03 (R492). -/
def execService (w : Way) (s : State) : Res := .next (s.onWay w fun t => t.odWriteObj w 0x01033 0 [3])

/-- A demand or an inbound access wakes the module (R486, R492). -/
def execWakeToService (stations : List Nat) (s : State) : Res := .next (s.wakeToService stations)

/-- The module wakes from Pilot (R492, R521). -/
def execPilotWake (cause : Nat) (s : State) : Res := .next (s.pilotWake cause)

/-- The regulators start and PWR_GOOD rises (R568). -/
def execRegulatorStart (s : State) : Res := .next (s.regulatorStart)

/-- BS0 (R496, R551). -/
def execBs0Entry (s : State) : Res := .next (s.bs0)

/-- BS1 (R498). -/
def execBs1Entry (s : State) : Res := .next (s.bs1)

/-- The write of BRINGUP_GO (R499). -/
def execBringupGo (w : Way) (data : List Byte) (s : State) : Res :=
  .next (s.onWay w fun t => t.odWriteObj w 0x01014 0 data)

/-- BS2 (R500, R501). -/
def execBs2Entry (atticFail : Bool) (cellarFail : Bool) (s : State) : Res := .next (s.bs2 atticFail cellarFail)

/-- BS3 (R98, R501). -/
def execBs3Entry (frontBad : Bool) (backBad : Bool) (port1Bad : Bool) (s : State) : Res :=
  .next (s.bs3 frontBad backBad port1Bad)

/-- RESET_CMD 0x02 (R502). -/
def execFull (w : Way) (s : State) : Res := .next (s.onWay w fun t => t.odWriteObj w 0x01010 0 [2])

/-- RESET_CMD 0x01 (R502). -/
def execKeepHouse (w : Way) (s : State) : Res := .next (s.onWay w fun t => t.odWriteObj w 0x01010 0 [1])

/-- KEEP_HOUSE# is held low (R502, R575). -/
def execKeepHousePin (s : State) : Res := .next (s.keepHousePin)

/-- The keep-house reset begins (R503 to R506). -/
def execKeepHouseResetBegin (s : State) : Res := .next (s.keepHouseBegin)

/-- KEEP_HOUSE# rises (R503). -/
def execKeepHouseRise (s : State) : Res := .next (s.keepHouseRise)

/-- The cold start begins (R502). -/
def execColdStartBegin (s : State) : Res := .next (s.coldBegin)

/-- A hart's watchdog expires (R507). -/
def execHartWatchdog (hart : Nat) (s : State) : Res := .next (if s.powered && hart < 4 then s.askReset 5 else s)

/-- The main input is out of range (R569). -/
def execMainInputFault (s : State) : Res := .next (s.mainFault)

/-- PWR_EN falls (R490, R569). -/
def execPwrEnFall (s : State) : Res := .next (s.pwrEnFall)

/-- The auxiliary input falls (R569). -/
def execAuxInputFault (s : State) : Res := .next (s.auxFault)

/-- The auxiliary input comes into range (R568, R450). -/
def execAuxPowerOn (plca : Nat) (s : State) : Res := .next (s.auxOnEvent plca)

end Sys2Proof.Machine
end

