-- ==== Sys2Proof/Machine/WorkshopCmds.lean ====
section
/-! DEFINITION. Meanings: Workshop commands (08). -/

namespace Sys2Proof.Machine

/-- Dispatch of a Workshop letter that names program 0x001 (R267, R273); its rows are computed tile by tile (R268). -/
def execSoftmaxBlock (q : Nat) (s : State) : Res :=
  .next (s.dispatching fun t => t.dispatchLetter q fun l => isWsRoute l.route && l.prog % 4096 == 0x001)

/-- Dispatch of a Workshop letter that names program 0x002 (R267, R273); its rows are computed tile by tile (R268). -/
def execSoftmaxFinish (q : Nat) (s : State) : Res :=
  .next (s.dispatching fun t => t.dispatchLetter q fun l => isWsRoute l.route && l.prog % 4096 == 0x002)

/-- Dispatch of a Workshop letter that names program 0x003 (R267, R273); its rows are computed tile by tile (R268). -/
def execAttnCombine (q : Nat) (s : State) : Res :=
  .next (s.dispatching fun t => t.dispatchLetter q fun l => isWsRoute l.route && l.prog % 4096 == 0x003)

/-- Dispatch of a Workshop letter that names program 0x004 (R267, R273); its rows are computed tile by tile (R268). -/
def execSoftmaxBwd (q : Nat) (s : State) : Res :=
  .next (s.dispatching fun t => t.dispatchLetter q fun l => isWsRoute l.route && l.prog % 4096 == 0x004)

/-- Dispatch of a Workshop letter that names program 0x010 (R267, R273); its rows are computed tile by tile (R268). -/
def execRmsnorm (q : Nat) (s : State) : Res :=
  .next (s.dispatching fun t => t.dispatchLetter q fun l => isWsRoute l.route && l.prog % 4096 == 0x010)

/-- Dispatch of a Workshop letter that names program 0x011 (R267, R273); its rows are computed tile by tile (R268). -/
def execRmsnormBwd (q : Nat) (s : State) : Res :=
  .next (s.dispatching fun t => t.dispatchLetter q fun l => isWsRoute l.route && l.prog % 4096 == 0x011)

/-- Dispatch of a Workshop letter that names program 0x012 (R267, R273); its rows are computed tile by tile (R268). -/
def execLayernorm (q : Nat) (s : State) : Res :=
  .next (s.dispatching fun t => t.dispatchLetter q fun l => isWsRoute l.route && l.prog % 4096 == 0x012)

/-- Dispatch of a Workshop letter that names program 0x020 (R267, R273); its rows are computed tile by tile (R268). -/
def execGatedSilu (q : Nat) (s : State) : Res :=
  .next (s.dispatching fun t => t.dispatchLetter q fun l => isWsRoute l.route && l.prog % 4096 == 0x020)

/-- Dispatch of a Workshop letter that names program 0x021 (R267, R273); its rows are computed tile by tile (R268). -/
def execGatedSiluBwd (q : Nat) (s : State) : Res :=
  .next (s.dispatching fun t => t.dispatchLetter q fun l => isWsRoute l.route && l.prog % 4096 == 0x021)

/-- Dispatch of a Workshop letter that names program 0x030 (R267, R273); its rows are computed tile by tile (R268). -/
def execEwAxpby (q : Nat) (s : State) : Res :=
  .next (s.dispatching fun t => t.dispatchLetter q fun l => isWsRoute l.route && l.prog % 4096 == 0x030)

/-- Dispatch of a Workshop letter that names program 0x040 (R267, R273); its rows are computed tile by tile (R268). -/
def execToppSelect (q : Nat) (s : State) : Res :=
  .next (s.dispatching fun t => t.dispatchLetter q fun l => isWsRoute l.route && l.prog % 4096 == 0x040)

/-- Dispatch of a Workshop letter whose program is none of the standard ones (R267, R273). -/
def execLibrarySpecificProgram (q : Nat) (s : State) : Res :=
  .next (s.dispatching fun t => t.dispatchLetter q fun l => isWsRoute l.route && !standardProgram (l.prog % 4096))

/-- The benches finish a tile (R268, R271); ecc 1 or 2 is a bench-store error (R285). -/
def execWorkshopTileDone (slot : Nat) (ecc : Nat) (s : State) : Res := .next (s.wsTileDone slot ecc)

/-- A tile's outlier contributions are complete (R277, R278). -/
def execOutlierProductsDone (back : Bool) (wait : Nat) (s : State) : Res := .next (s.outlierDone back wait)

/-- A bench has spent this many cycles on its row: a fault when that exceeds WS_ROW_BUDGET (R286, R287). -/
def execBenchWatchdog (row : BenchRow) (s : State) : Res := .next (s.benchFault 1 row.bench row.cycles)

/-- A bench program traps (R286, R287). -/
def execBenchTrap (bench : Nat) (s : State) : Res := .next (s.benchFault 2 bench 0)

/-- The write of WS_LIB_LOAD (R284). -/
def execWsLibLoad (w : Way) (data : List Byte) (s : State) : Res :=
  .next (s.onWay w fun t => t.odWriteObj w 0x04062 0 data)

/-- Every bench has the new library (R284). -/
def execLibInstallDone (s : State) : Res := .next (s.libDone)

/-- The outlier bench reservation takes effect (R279). -/
def execOutlierReservationApply (s : State) : Res := .next (s.applyReservation)

end Sys2Proof.Machine
end

