-- ==== Sys2Proof/Machine/XaxiaCmds.lean ====
section
/-! DEFINITION. Meanings: Xaxia, mailbox, Tandem and object commands (13). -/

namespace Sys2Proof.Machine

/-- HELLO (R454). -/
def execHello (peer : Nat) (msg : List Byte) (s : State) : Res := .next (s.hello peer msg)

/-- AUTH phase 1 (R458). -/
def execAuthStart (peer : Nat) (msg : List Byte) (s : State) : Res :=
  .next (s.xMessage 2 peer msg fun w b t => t.bodyAuth 1 w msg b (xhSid (ofBytes (msg.take 32))))

/-- AUTH phase 2 (R458). -/
def execAuthProof (peer : Nat) (msg : List Byte) (s : State) : Res :=
  .next (s.xMessage 2 peer msg fun w b t => t.bodyAuth 2 w msg b (xhSid (ofBytes (msg.take 32))))

/-- AUTH phase 3 (R458). -/
def execAuthEnd (peer : Nat) (msg : List Byte) (s : State) : Res :=
  .next (s.xMessage 2 peer msg fun w b t => t.bodyAuth 3 w msg b (xhSid (ofBytes (msg.take 32))))

/-- READ (R453, R583). -/
def execRead (peer : Nat) (msg : List Byte) (s : State) : Res :=
  .next (s.xMessage 3 peer msg fun w b t => t.bodyRead w msg b (stokerFlag msg))

/-- WRITE (R453, R583); in the Pilot state the wake frame (R493). -/
def execWrite (peer : Nat) (msg : List Byte) (s : State) : Res :=
  .next (s.xMessage 4 peer msg fun w b t => t.xWriteBody w msg b)

/-- BLOCK_READ (R456). -/
def execBlockRead (peer : Nat) (msg : List Byte) (s : State) : Res :=
  .next (s.xMessage 5 peer msg fun w b t => t.bodyBlockRead w msg b)

/-- BLOCK_WRITE phase 1 (R457). -/
def execBlockWriteBegin (peer : Nat) (msg : List Byte) (s : State) : Res :=
  .next (s.xMessage 6 peer msg fun w b t => t.bodyBlockPhase 1 w msg b)

/-- BLOCK_WRITE phase 2 (R457). -/
def execBlockWriteSegment (peer : Nat) (msg : List Byte) (s : State) : Res :=
  .next (s.xMessage 6 peer msg fun w b t => t.bodyBlockPhase 2 w msg b)

/-- BLOCK_WRITE phase 3 (R457). -/
def execBlockWriteEnd (peer : Nat) (msg : List Byte) (s : State) : Res :=
  .next (s.xMessage 6 peer msg fun w b t => t.bodyBlockPhase 3 w msg b)

/-- SNAPSHOT (R462). -/
def execSnapshot (peer : Nat) (msg : List Byte) (s : State) : Res :=
  .next (s.xMessage 7 peer msg fun w b t => if b.isEmpty then t.snapshotReq w msg else t.respond w msg Abort.badLength [])

/-- A NOTIFY of source n is sent (R461). -/
def execNotify (n : Nat) (s : State) : Res := .next (s.notify n)

/-- The NOTIFY of source n is repeated (R461). -/
def execNotifyRepeat (n : Nat) (s : State) : Res := .next (s.notifyRepeat n)

/-- A START without a PROOF is discarded (R458). -/
def execAuthStartTimeout (sid : Nat) (s : State) : Res := .next (s.authStartTimeout sid)

/-- A peer's lockout ends (R458). -/
def execAuthLockoutEnd (peer : Nat) (s : State) : Res := .next (s.authLockoutEnd peer)

/-- A session closes for idleness (R459, R467). -/
def execSessionIdleTimeout (sid : Nat) (s : State) : Res := .next (s.sessionIdle sid)

/-- A block transfer without a segment is discarded (R457). -/
def execBlockTimeout (idx : Nat) (subIdx : Nat) (s : State) : Res := .next (s.blockTimeout idx subIdx)

/-- A peer's block-read copy is dropped (R456). -/
def execBlockReadCopyExpiry (idx : Nat) (subIdx : Nat) (peer : Option Nat) (s : State) : Res :=
  .next (s.copyExpiry idx subIdx peer)

/-- No beacon for 4 ms (R450). -/
def execPlcaFallback (s : State) : Res := .next (s.plcaFallback)

/-- An IPv6 neighbour solicitation (R451). -/
def execNeighbourSolicitation (peer : Nat) (target : Nat) (s : State) : Res := .next (s.neighbour peer target)

/-- OD_READ (R465). -/
def execOdRead (payload : List Byte) (s : State) : Res :=
  .next (s.mbox payload fun stoker b t => t.bodyRead .mailbox [] b stoker)

/-- OD_WRITE (R465). -/
def execOdWrite (payload : List Byte) (s : State) : Res :=
  .next (s.mbox payload fun _ b t => t.bodyWrite .mailbox [] b)

/-- OD_BLOCK_READ (R465). -/
def execOdBlockRead (payload : List Byte) (s : State) : Res :=
  .next (s.mbox payload fun _ b t => t.bodyBlockRead .mailbox [] b)

/-- OD_BLOCK_WRITE (R465). -/
def execOdBlockWrite (payload : List Byte) (s : State) : Res :=
  .next (s.mbox payload fun _ b t => t.bodyBlockWrite .mailbox [] b)

/-- OD_SNAPSHOT (R465). -/
def execOdSnapshot (payload : List Byte) (s : State) : Res :=
  .next (s.mbox payload fun _ b t => if b.isEmpty then t.snapshotReq .mailbox [] else t.respond .mailbox [] Abort.badLength [])

/-- OD_AUTH (R467). -/
def execOdAuth (payload : List Byte) (s : State) : Res := .next (s.mbox payload fun _ b t => t.mboxAuth b)

/-- The write of TANDEM_SWAP (R436, R440). -/
def execTandemSwap (w : Way) (data : List Byte) (s : State) : Res :=
  .next (s.onWay w fun t => t.odWriteObj w 0x03000 0 data)

/-- The swap point (R436, R437, R440). -/
def execSwapPoint (s : State) : Res := .next (s.swapPoint)

/-- The write of TANDEM_COPY (R441). -/
def execTandemCopy (w : Way) (data : List Byte) (s : State) : Res :=
  .next (s.onWay w fun t => t.odWriteObj w 0x03001 0 data)

/-- The write of CAL_USR_COMMIT (R447). -/
def execCalUsrCommit (w : Way) (data : List Byte) (s : State) : Res :=
  .next (s.onWay w fun t => t.odWriteObj w 0x021FF 0 data)

/-- The trims are in flash (R447). -/
def execCalCommitEnd (s : State) : Res := .next (s.calCommitEnd)

/-- The write of CAL_USR_RETRAIN (R449). -/
def execCalUsrRetrain (w : Way) (data : List Byte) (s : State) : Res :=
  .next (s.onWay w fun t => t.odWriteObj w 0x02160 0 data)

/-- The write of RECIPE_RING_TAIL (R177). -/
def execRecipeRingTail (w : Way) (data : List Byte) (s : State) : Res :=
  .next (s.onWay w fun t => t.odWriteObj w 0x0501B 0 data)

/-- The write of GRAD_QUAR_TAIL (R311). -/
def execGradQuarTail (w : Way) (data : List Byte) (s : State) : Res :=
  .next (s.onWay w fun t => t.odWriteObj w 0x0502B 0 data)

/-- The write of CELLAR_BANK_CURRENT (R379). -/
def execCellarBankCurrent (w : Way) (data : List Byte) (s : State) : Res :=
  .next (s.onWay w fun t => t.odWriteObj w 0x07001 0 data)

/-- The write of an object (R432). -/
def execObjectWrite (w : Way) (idx : Nat) (subIdx : Nat) (data : List Byte) (s : State) : Res :=
  .next (s.onWay w fun t => t.odWriteObj w idx subIdx data)

end Sys2Proof.Machine
end

