-- ==== Sys2Proof/Machine/Dispatch.lean ====
section
/-! DEFINITION. One arm per command. -/

namespace Sys2Proof.Machine

/-- The effect of a command on everything but the queue. -/
def exec (i : Instr) (s : State) : Host.Outcome State Fault Refusal :=
  match i with
  | .letterboxDoorbell data => Sys2Proof.Machine.execLetterboxDoorbell data s
  | .enable q => Sys2Proof.Machine.execEnable q s
  | .disable q => Sys2Proof.Machine.execDisable q s
  | .resume q => Sys2Proof.Machine.execResume q s
  | .flush q => Sys2Proof.Machine.execFlush q s
  | .header q => Sys2Proof.Machine.execHeader q s
  | .frontProduct q => Sys2Proof.Machine.execFrontProduct q s
  | .backProduct q => Sys2Proof.Machine.execBackProduct q s
  | .copyConvert q => Sys2Proof.Machine.execCopyConvert q s
  | .copyTranspose q => Sys2Proof.Machine.execCopyTranspose q s
  | .marker q => Sys2Proof.Machine.execMarker q s
  | .decodeGatherTimeout => Sys2Proof.Machine.execDecodeGatherTimeout s
  | .letterStart station fill => Sys2Proof.Machine.execLetterStart station fill s
  | .segmentEnd back row col ecc => Sys2Proof.Machine.execSegmentEnd back row col ecc s
  | .flushHoldRelease back cycles => Sys2Proof.Machine.execFlushHoldRelease back cycles s
  | .tileDone drain cycles starve => Sys2Proof.Machine.execTileDone drain cycles starve s
  | .passDone drain => Sys2Proof.Machine.execPassDone drain s
  | .tileConversionEnd conv => Sys2Proof.Machine.execTileConversionEnd conv s
  | .kvWaitTimeout path => Sys2Proof.Machine.execKvWaitTimeout path s
  | .letterCompletion q seq => Sys2Proof.Machine.execLetterCompletion q seq s
  | .letterboxNotifyAck w n => Sys2Proof.Machine.execLetterboxNotifyAck w n s
  | .reservedRoute q => Sys2Proof.Machine.execReservedRoute q s
  | .memoryPortGrant port => Sys2Proof.Machine.execMemoryPortGrant port s
  | .burstArrival thread taken ecc sec => Sys2Proof.Machine.execBurstArrival thread taken ecc sec s
  | .softmaxBlock q => Sys2Proof.Machine.execSoftmaxBlock q s
  | .softmaxFinish q => Sys2Proof.Machine.execSoftmaxFinish q s
  | .attnCombine q => Sys2Proof.Machine.execAttnCombine q s
  | .softmaxBwd q => Sys2Proof.Machine.execSoftmaxBwd q s
  | .rmsnorm q => Sys2Proof.Machine.execRmsnorm q s
  | .rmsnormBwd q => Sys2Proof.Machine.execRmsnormBwd q s
  | .layernorm q => Sys2Proof.Machine.execLayernorm q s
  | .gatedSilu q => Sys2Proof.Machine.execGatedSilu q s
  | .gatedSiluBwd q => Sys2Proof.Machine.execGatedSiluBwd q s
  | .ewAxpby q => Sys2Proof.Machine.execEwAxpby q s
  | .toppSelect q => Sys2Proof.Machine.execToppSelect q s
  | .librarySpecificProgram q => Sys2Proof.Machine.execLibrarySpecificProgram q s
  | .workshopTileDone slot ecc => Sys2Proof.Machine.execWorkshopTileDone slot ecc s
  | .outlierProductsDone back wait => Sys2Proof.Machine.execOutlierProductsDone back wait s
  | .benchWatchdog row => Sys2Proof.Machine.execBenchWatchdog row s
  | .benchTrap bench => Sys2Proof.Machine.execBenchTrap bench s
  | .wsLibLoad w data => Sys2Proof.Machine.execWsLibLoad w data s
  | .libInstallDone => Sys2Proof.Machine.execLibInstallDone s
  | .outlierReservationApply => Sys2Proof.Machine.execOutlierReservationApply s
  | .openUpdate q => Sys2Proof.Machine.execOpenUpdate q s
  | .piece q => Sys2Proof.Machine.execPiece q s
  | .close q => Sys2Proof.Machine.execClose q s
  | .quant q => Sys2Proof.Machine.execQuant q s
  | .gzUnknownProg q => Sys2Proof.Machine.execGzUnknownProg q s
  | .grainDone core cycles mem => Sys2Proof.Machine.execGrainDone core cycles mem s
  | .add core => Sys2Proof.Machine.execAdd core s
  | .sub core => Sys2Proof.Machine.execSub core s
  | .mul core => Sys2Proof.Machine.execMul core s
  | .fma core => Sys2Proof.Machine.execFma core s
  | .lerp core => Sys2Proof.Machine.execLerp core s
  | .min core => Sys2Proof.Machine.execMin core s
  | .max core => Sys2Proof.Machine.execMax core s
  | .abs core => Sys2Proof.Machine.execAbs core s
  | .div core => Sys2Proof.Machine.execDiv core s
  | .sqrt core => Sys2Proof.Machine.execSqrt core s
  | .sel core => Sys2Proof.Machine.execSel core s
  | .ld load => Sys2Proof.Machine.execLd load s
  | .st core => Sys2Proof.Machine.execSt core s
  | .cvtsr core => Sys2Proof.Machine.execCvtsr core s
  | .cvtbf core => Sys2Proof.Machine.execCvtbf core s
  | .spowi core => Sys2Proof.Machine.execSpowi core s
  | .body core => Sys2Proof.Machine.execBody core s
  | .commit core => Sys2Proof.Machine.execCommit core s
  | .glaziaRuleLoad w data => Sys2Proof.Machine.execGlaziaRuleLoad w data s
  | .reduceScatter q => Sys2Proof.Machine.execReduceScatter q s
  | .allGather q => Sys2Proof.Machine.execAllGather q s
  | .broadcast q => Sys2Proof.Machine.execBroadcast q s
  | .allToAll q => Sys2Proof.Machine.execAllToAll q s
  | .ringRoundStart slot => Sys2Proof.Machine.execRingRoundStart slot s
  | .contrib port head payload poison => Sys2Proof.Machine.execContrib port head payload poison s
  | .part port head payload poison => Sys2Proof.Machine.execPart port head payload poison s
  | .lateFrame port head payload poison => Sys2Proof.Machine.execLateFrame port head payload poison s
  | .credit port head => Sys2Proof.Machine.execCredit port head s
  | .notice port head => Sys2Proof.Machine.execNotice port head s
  | .chunkDeadline slot owner chunk level => Sys2Proof.Machine.execChunkDeadline slot owner chunk level s
  | .tagDiscard slot => Sys2Proof.Machine.execTagDiscard slot s
  | .uioTimeout g m => Sys2Proof.Machine.execUioTimeout g m s
  | .uioCompletionError g m => Sys2Proof.Machine.execUioCompletionError g m s
  | .rejoin w g m => Sys2Proof.Machine.execRejoin w g m s
  | .clearMisses w g m => Sys2Proof.Machine.execClearMisses w g m s
  | .exportAutoStart guest => Sys2Proof.Machine.execExportAutoStart guest s
  | .exportBank q guest => Sys2Proof.Machine.execExportBank q guest s
  | .guestSend q => Sys2Proof.Machine.execGuestSend q s
  | .exportFrame port head payload poison => Sys2Proof.Machine.execExportFrame port head payload poison s
  | .restoreStream port head payload poison => Sys2Proof.Machine.execRestoreStream port head payload poison s
  | .exportAck port head => Sys2Proof.Machine.execExportAck port head s
  | .share w lo hi => Sys2Proof.Machine.execShare w lo hi s
  | .free w lo hi => Sys2Proof.Machine.execFree w lo hi s
  | .pageCmdLo lo => Sys2Proof.Machine.execPageCmdLo lo s
  | .hello peer msg => Sys2Proof.Machine.execHello peer msg s
  | .authStart peer msg => Sys2Proof.Machine.execAuthStart peer msg s
  | .authProof peer msg => Sys2Proof.Machine.execAuthProof peer msg s
  | .authEnd peer msg => Sys2Proof.Machine.execAuthEnd peer msg s
  | .read peer msg => Sys2Proof.Machine.execRead peer msg s
  | .write peer msg => Sys2Proof.Machine.execWrite peer msg s
  | .blockRead peer msg => Sys2Proof.Machine.execBlockRead peer msg s
  | .blockWriteBegin peer msg => Sys2Proof.Machine.execBlockWriteBegin peer msg s
  | .blockWriteSegment peer msg => Sys2Proof.Machine.execBlockWriteSegment peer msg s
  | .blockWriteEnd peer msg => Sys2Proof.Machine.execBlockWriteEnd peer msg s
  | .snapshot peer msg => Sys2Proof.Machine.execSnapshot peer msg s
  | .notify n => Sys2Proof.Machine.execNotify n s
  | .notifyRepeat n => Sys2Proof.Machine.execNotifyRepeat n s
  | .authStartTimeout sid => Sys2Proof.Machine.execAuthStartTimeout sid s
  | .authLockoutEnd peer => Sys2Proof.Machine.execAuthLockoutEnd peer s
  | .sessionIdleTimeout sid => Sys2Proof.Machine.execSessionIdleTimeout sid s
  | .blockTimeout idx subIdx => Sys2Proof.Machine.execBlockTimeout idx subIdx s
  | .blockReadCopyExpiry idx subIdx peer => Sys2Proof.Machine.execBlockReadCopyExpiry idx subIdx peer s
  | .plcaFallback => Sys2Proof.Machine.execPlcaFallback s
  | .neighbourSolicitation peer target => Sys2Proof.Machine.execNeighbourSolicitation peer target s
  | .odRead payload => Sys2Proof.Machine.execOdRead payload s
  | .odWrite payload => Sys2Proof.Machine.execOdWrite payload s
  | .odBlockRead payload => Sys2Proof.Machine.execOdBlockRead payload s
  | .odBlockWrite payload => Sys2Proof.Machine.execOdBlockWrite payload s
  | .odSnapshot payload => Sys2Proof.Machine.execOdSnapshot payload s
  | .odAuth payload => Sys2Proof.Machine.execOdAuth payload s
  | .tandemSwap w data => Sys2Proof.Machine.execTandemSwap w data s
  | .swapPoint => Sys2Proof.Machine.execSwapPoint s
  | .tandemCopy w data => Sys2Proof.Machine.execTandemCopy w data s
  | .calUsrCommit w data => Sys2Proof.Machine.execCalUsrCommit w data s
  | .calCommitEnd => Sys2Proof.Machine.execCalCommitEnd s
  | .calUsrRetrain w data => Sys2Proof.Machine.execCalUsrRetrain w data s
  | .recipeRingTail w data => Sys2Proof.Machine.execRecipeRingTail w data s
  | .gradQuarTail w data => Sys2Proof.Machine.execGradQuarTail w data s
  | .cellarBankCurrent w data => Sys2Proof.Machine.execCellarBankCurrent w data s
  | .objectWrite w idx subIdx data => Sys2Proof.Machine.execObjectWrite w idx subIdx data s
  | .clkPllSrc w pll data => Sys2Proof.Machine.execClkPllSrc w pll data s
  | .clkEnable w data => Sys2Proof.Machine.execClkEnable w data s
  | .xtalGate count => Sys2Proof.Machine.execXtalGate count s
  | .refclkGate clock count => Sys2Proof.Machine.execRefclkGate clock count s
  | .xtalMonitorGate count => Sys2Proof.Machine.execXtalMonitorGate count s
  | .xtalEdgeMissing => Sys2Proof.Machine.execXtalEdgeMissing s
  | .xtalJudgeTimeout => Sys2Proof.Machine.execXtalJudgeTimeout s
  | .freewheel pll => Sys2Proof.Machine.execFreewheel pll s
  | .clkFailoverSwitch pll => Sys2Proof.Machine.execClkFailoverSwitch pll s
  | .pllLocked pll => Sys2Proof.Machine.execPllLocked pll s
  | .clkIdleTimeout station => Sys2Proof.Machine.execClkIdleTimeout station s
  | .thermalSample raw => Sys2Proof.Machine.execThermalSample raw s
  | .powerMeterSample raw input => Sys2Proof.Machine.execPowerMeterSample raw input s
  | .thermtrip => Sys2Proof.Machine.execThermtrip s
  | .pwrHkIdle => Sys2Proof.Machine.execPwrHkIdle s
  | .pilot w => Sys2Proof.Machine.execPilot w s
  | .housekeeping w => Sys2Proof.Machine.execHousekeeping w s
  | .service w => Sys2Proof.Machine.execService w s
  | .wakeToService stations => Sys2Proof.Machine.execWakeToService stations s
  | .pilotWake cause => Sys2Proof.Machine.execPilotWake cause s
  | .regulatorStart => Sys2Proof.Machine.execRegulatorStart s
  | .bs0Entry => Sys2Proof.Machine.execBs0Entry s
  | .bs1Entry => Sys2Proof.Machine.execBs1Entry s
  | .bringupGo w data => Sys2Proof.Machine.execBringupGo w data s
  | .bs2Entry atticFail cellarFail => Sys2Proof.Machine.execBs2Entry atticFail cellarFail s
  | .bs3Entry frontBad backBad port1Bad => Sys2Proof.Machine.execBs3Entry frontBad backBad port1Bad s
  | .full w => Sys2Proof.Machine.execFull w s
  | .keepHouse w => Sys2Proof.Machine.execKeepHouse w s
  | .keepHousePin => Sys2Proof.Machine.execKeepHousePin s
  | .keepHouseResetBegin => Sys2Proof.Machine.execKeepHouseResetBegin s
  | .keepHouseRise => Sys2Proof.Machine.execKeepHouseRise s
  | .coldStartBegin => Sys2Proof.Machine.execColdStartBegin s
  | .hartWatchdog hart => Sys2Proof.Machine.execHartWatchdog hart s
  | .mainInputFault => Sys2Proof.Machine.execMainInputFault s
  | .pwrEnFall => Sys2Proof.Machine.execPwrEnFall s
  | .auxInputFault => Sys2Proof.Machine.execAuxInputFault s
  | .auxPowerOn plca => Sys2Proof.Machine.execAuxPowerOn plca s
  | .bellClear w data => Sys2Proof.Machine.execBellClear w data s
  | .bellAck w v => Sys2Proof.Machine.execBellAck w v s
  | .bellRoute w n data => Sys2Proof.Machine.execBellRoute w n data s
  | .bellVector w v data => Sys2Proof.Machine.execBellVector w v data s
  | .bellGlobalEn w data => Sys2Proof.Machine.execBellGlobalEn w data s
  | .bellDeliver target => Sys2Proof.Machine.execBellDeliver target s
  | .msixUnmask v => Sys2Proof.Machine.execMsixUnmask v s
  | .meterSnap w data => Sys2Proof.Machine.execMeterSnap w data s
  | .snapshotEdge => Sys2Proof.Machine.execSnapshotEdge s
  | .linkTrained port width rate => Sys2Proof.Machine.execLinkTrained port width rate s
  | .linkRetry port => Sys2Proof.Machine.execLinkRetry port s
  | .linkDown port => Sys2Proof.Machine.execLinkDown port s
  | .perstAssert port => Sys2Proof.Machine.execPerstAssert port s
  | .perstDeassert port => Sys2Proof.Machine.execPerstDeassert port s
  | .ideIntegrityFail port => Sys2Proof.Machine.execIdeIntegrityFail port s
  | .inboundWrite port path addr data poison => Sys2Proof.Machine.execInboundWrite port path addr data poison s
  | .inboundRead port path addr len => Sys2Proof.Machine.execInboundRead port path addr len s
  | .bisnpResponse line => Sys2Proof.Machine.execBisnpResponse line s
  | .spdmRequest path req keyed => Sys2Proof.Machine.execSpdmRequest path req keyed s
  | .secSvnCommit w data => Sys2Proof.Machine.execSecSvnCommit w data s
  | .secFwCommit w data => Sys2Proof.Machine.execSecFwCommit w data s
  | .fwWriteDone => Sys2Proof.Machine.execFwWriteDone s
  | .secOwnerKeyNext w data => Sys2Proof.Machine.execSecOwnerKeyNext w data s
  | .secDebugUnlock w token => Sys2Proof.Machine.execSecDebugUnlock w token s
  | .recoveryLoad images => Sys2Proof.Machine.execRecoveryLoad images s
  | .extest which pins => Sys2Proof.Machine.execExtest which pins s
  | .tapReset => Sys2Proof.Machine.execTapReset s
  | .patrolScrub ceAttic ceCellar ueAttic ueCellar => Sys2Proof.Machine.execPatrolScrub ceAttic ceCellar ueAttic ueCellar s

end Sys2Proof.Machine
end

