-- ==== Sys2Proof/Safety.lean ====
section
/-! DEFINITION. What a run must keep, in the terms the claims use: the canonical form of the memories, 64-bit Meter units,
which parts of the state a command leaves as they were, and how the state of the part may develop at all. -/

namespace Sys2Proof.Machine

/-- All four memories are in canonical form: addresses strictly rising, no entry that equals what an unlisted address
reads as, poisoned sectors strictly rising. -/
def State.memsWf (s : State) : Prop :=
  s.attic.wf = true ∧ s.cellar.wf = true ∧ s.larder.wf = true ∧ s.host.wf = true

/-- Every Meter unit holds a 64-bit number (R523, R524). -/
def State.meterWf (s : State) : Prop := ∀ x ∈ s.meter, x.2 < 2 ^ 64

/-- The keys of a table rise strictly, so that a key is listed at most once. -/
def rising {α : Type} : Nat → List (Nat × α) → Bool
  | _, [] => true
  | lo, (k, _) :: t => decide (lo ≤ k) && rising (k + 1) t

/-- The tables of registers, objects, counters and interrupt targets list each key at most once, in rising order. -/
def State.tablesWf (s : State) : Prop :=
  rising 0 s.od = true ∧ rising 0 s.captain = true ∧ rising 0 s.stoker = true ∧ rising 0 s.domains = true ∧
  rising 0 s.meter = true ∧ swf s.bell.level = true ∧ rising 0 s.bell.targets = true

/-- The parts of State. -/
inductive Fld where
  | pending | attic | cellar | larder | host | od | captain | stoker | domains | meter | tick | freeCtr | sent | lb | rooms
  | porch | ws | bell | gz | ex | pel | dict | mtr | pwr | cxl | sec | tap
  deriving DecidableEq, Repr

/-- Two states agree in one part. -/
def State.agree (s t : State) : Fld → Prop
  | .pending => t.pending = s.pending
  | .attic => t.attic = s.attic
  | .cellar => t.cellar = s.cellar
  | .larder => t.larder = s.larder
  | .host => t.host = s.host
  | .od => t.od = s.od
  | .captain => t.captain = s.captain
  | .stoker => t.stoker = s.stoker
  | .domains => t.domains = s.domains
  | .meter => t.meter = s.meter
  | .tick => t.tick = s.tick
  | .freeCtr => t.freeCtr = s.freeCtr
  | .sent => t.sent = s.sent
  | .lb => t.lb = s.lb
  | .rooms => t.rooms = s.rooms
  | .porch => t.porch = s.porch
  | .ws => t.ws = s.ws
  | .bell => t.bell = s.bell
  | .gz => t.gz = s.gz
  | .ex => t.ex = s.ex
  | .pel => t.pel = s.pel
  | .dict => t.dict = s.dict
  | .mtr => t.mtr = s.mtr
  | .pwr => t.pwr = s.pwr
  | .cxl => t.cxl = s.cxl
  | .sec => t.sec = s.sec
  | .tap => t.tap = s.tap

/-- The frame: every part outside the named ones is as it was. -/
def State.sameBut (s : State) (fs : List Fld) (t : State) : Prop := ∀ f, f ∉ fs → s.agree t f

/-- How a command may take one state to another: the queue of commands is not its to change, the memories keep their
canonical form, the tables their order and the Meter units their width, what has left the part stays on record, no free value is drawn twice,
and every part outside the named ones is as it was. -/
structure State.Evolves (fs : List Fld) (s t : State) : Prop where
  mems : s.memsWf → t.memsWf
  tables : s.tablesWf → t.tablesWf
  meter : s.meterWf → t.meterWf
  sent : s.sent <+: t.sent
  free : s.freeCtr ≤ t.freeCtr
  frame : s.sameBut fs t

/-- A command completes: exec answers a next state, of which P holds. -/
def Completes (c : Instr) (s : State) (P : State → Prop) : Prop := ∃ t, exec c s = .next t ∧ P t

/-- Commands carried out one after another; none when one of them does not complete. -/
def runCmds : List Instr → State → Option State
  | [], s => some s
  | c :: cs, s => match exec c s with
    | .next t => runCmds cs t
    | _ => none

/-- The module runs in Service and every station named has its enable bit set and its clock running, so that a demand on
it changes nothing. -/
def State.awake (s : State) (stations : List Nat) : Prop :=
  s.powered = true ∧ s.odv K.pwrState = 2 ∧ ∀ b ∈ stations, bit (s.odv K.clkEnable) b = true ∧ bit (s.odv K.clkRunning) b = true

/-- A Meter unit. -/
def State.ctr (s : State) (u : Nat) : Nat := aget 0 s.meter u

/-- The Meter units named have grown by the numbers given, modulo 2^64; every other unit is as it was. -/
def State.counted (s : State) (l : List (Nat × Nat)) (t : State) : Prop :=
  ∀ u, t.ctr u = match l.find? (fun x => x.1 == u) with
    | some x => (s.ctr u + x.2) % 2 ^ 64
    | none => s.ctr u

/-- Every object value outside the named ones is as it was. -/
def State.odSame (s : State) (ks : List Nat) (t : State) : Prop := ∀ k, k ∉ ks → t.odv k = s.odv k

/-- One byte of a memory. -/
def State.byteAt (s : State) (sp : Space) (a : Nat) : Byte := (s.mem sp).byte a

/-- Every byte outside n bytes of one space is as it was. -/
def State.bytesSame (s : State) (sp : Space) (lo n : Nat) (t : State) : Prop :=
  ∀ x a, ¬(x = sp ∧ lo ≤ a ∧ a < lo + n) → t.byteAt x a = s.byteAt x a

/-- What of a queue a dispatch does not derive anew: all but the moment its head letter became ready. -/
def QCtx.core (c : QCtx) : QCtx := { c with readyTick := none }

/-- A queue as the Letterbox holds it, without the moment its head letter became ready. -/
def State.queueCore (s : State) (q : Nat) : Option QCtx := (s.queue? q).map QCtx.core

/-- A look-up of queue q's context in the Letterbox's cache drives no other out: it is there, or there is room (R209, R226). -/
def State.cacheRoom (s : State) (q : Nat) : Prop := q ∈ s.lb.cached ∨ s.lb.cached.length < 4096

/-- What a look-up of queue q's context counts in LB_CTX_MISS (R226). -/
def State.misses (s : State) (q : Nat) : List (Nat × Nat) := if q ∈ s.lb.cached then [] else [(Ctr.lbCtxMiss, 1)]

/-- The Letterbox is as it was, apart from which contexts its cache holds. -/
def State.lbSame (s t : State) : Prop := t.lb = { s.lb with cached := t.lb.cached }

/-- No CLOSE letter of queue q waits for its completion record (R361). -/
def State.noClose (s : State) (q : Nat) : Prop := ∀ x b, s.gz.closing = some (x, b) → x.1 ≠ q

/-- The Letterbox runs and the head letter of queue q, l, is ready in ring memory that is not poisoned, while no finished
letter of the queue waits for its record; looking up its context drives no other from the cache. -/
structure State.HeadIs (s : State) (q : Nat) (c : QCtx) (l : Letter) : Prop where
  running : s.awake [4]
  queue : s.queue? q = some c
  ready : s.headReady c = true
  clean : s.letterPoisoned c c.head = false
  letter : s.letterAt c c.head = l
  alone : ∀ f ∈ s.lb.fin, f.queue ≠ q
  cached : s.cacheRoom q
  closed : s.noClose q

/-- A queue after its head letter has left it, with no more than its LATE count changed. -/
def QCtx.sent (c : QCtx) (late : Bool) : QCtx :=
  { c.core with head := (c.head + 1) % 2 ^ 32, late := if late then min (c.late + 1) (2 ^ 32 - 1) else c.late }

/-- The main part of a completion record as it stands in memory (R221). -/
def State.record (t : State) (c : QCtx) (seq : Nat) : Nat := t.rd c.crSpace (c.crBase + 32 * (seq % 2 ^ c.ringLog2)) 32

/-- Records of a queue can be written: they lie in the part's own memory, or the host is reached. -/
def State.crReach (s : State) (c : QCtx) : Prop := c.crSpace ≠ .host ∨ s.hostDown = false

/-- The head letter l of queue q has failed with error e: it left the queue, which halts with ERR_SEQ and LAST_ERROR set,
no other queue changed, and, when every earlier letter had completed, its record stands with the error (R207, R208). -/
def State.failedWith (s : State) (q : Nat) (c : QCtx) (l : Letter) (e : Nat) (t : State) : Prop :=
  t.queueCore q = some { c.sent false with
    st := .halted, errSeq := c.head, lastError := e, haltedOn := c.haltedOn ++ [c.head], done := if c.done = c.head then (c.done + 1) % 2 ^ 32 else c.done } ∧
  (∀ j, j ≠ q → t.queueCore j = s.queueCore j) ∧ t.lb.ops = s.lb.ops ∧ t.lb.gathers = s.lb.gathers ∧
  (c.done = c.head → t.ctr Ctr.lbErrors = (s.ctr Ctr.lbErrors + 1) % 2 ^ 64 ∧ c.notifySrc ∈ t.bell.level ∧
    (s.crReach c → t.record c c.head = (immediate c c.head e l false s.tick).mainWord c s.tick % 2 ^ 256))

/-- The head letter l of queue q has completed without an error, at once: its record stands when its turn has come. -/
def State.completedNow (s : State) (q : Nat) (c : QCtx) (l : Letter) (after : QCtx) (t : State) : Prop :=
  t.queueCore q = some { after with done := if c.done = c.head then (c.done + 1) % 2 ^ 32 else c.done } ∧
  (∀ j, j ≠ q → t.queueCore j = s.queueCore j) ∧ t.lb.ops = s.lb.ops ∧
  t.ctr Ctr.lbDispatched = (s.ctr Ctr.lbDispatched + 1) % 2 ^ 64 ∧
  (c.done = c.head → s.crReach c → t.record c c.head =
    (immediate c c.head 0 l (s.isLate (s.deadlineOf c)) s.tick).mainWord c s.tick % 2 ^ 256) ∧
  (c.done = c.head → l.notify = true → c.notifySrc ∈ t.bell.level)

/-- Letter l of queue q runs: an operation of one constituent, formed now with the captain set as it stands (R225, R438). -/
def State.launched (s : State) (q : Nat) (c : QCtx) (l : Letter) (tg : Target) (slot : Nat) (t : State) : Prop :=
  t.queueCore q = some (c.sent (s.isLate (s.deadlineOf c))) ∧ (∀ j, j ≠ q → t.queueCore j = s.queueCore j) ∧
  t.ctr Ctr.lbDispatched = (s.ctr Ctr.lbDispatched + 1) % 2 ^ 64 ∧
  ∃ o, t.lb.ops = s.lb.ops ++ [o] ∧ o.target = tg ∧ o.slot = slot ∧ o.started = false ∧ o.error = 0 ∧ o.captain = s.captain ∧
    o.dispatchTick = s.tick ∧ o.parts.map (fun p => (p.queue, p.seq, p.letter)) = [(q, c.head, l)]

/-- No letter of a target waits to be run again whole, so that its room, once free, is free (R163). -/
def State.noReplays (s : State) (tg : Target) : Prop := ∀ x ∈ s.lb.ops, x.target = tg → x.replayWaiting = false

/-- The letters that run, with o put in place of the one it names. -/
def State.opsWith (s : State) (o o' : Op) : List Op := s.lb.ops.map fun x => if x.isSame o then o' else x

/-- Does the part answer on a way at all (R465, R490)? -/
def State.reachable (s : State) : Way → Bool
  | .mailbox => s.mboxOn
  | .xaxia _ _ => s.xaxiaOn

/-- A write of an object that passes every check of R583 and waits for nothing: the way is open, steps 1 to 6 and 7 to 9
pass, no PLL of its station relocks, no Tandem swap holds it and no trim commit. -/
structure State.WriteOk (s : State) (w : Way) (idx sub : Nat) (data : List Byte) : Prop where
  reach : s.reachable w = true
  form : s.writeForm w idx sub ((objInfo idx sub).elim 0 (·.ty)) data = 0
  clock : s.relocking idx sub = false
  tandem : isRws idx sub = true → s.odv K.tandemState ≠ 1
  trims : s.dict.trimBusy = true → calValue idx sub = false
  value : s.writeValue idx sub (ofBytes data) = 0
  running : stationsHolding idx sub = [] ∨ s.awake (stationsHolding idx sub)

/-- A write that passes every check of R583 up to step 8 and waits for nothing, of an object outside the Tandem and the
trims: what is left is step 9, whether its staged content is accepted. -/
structure State.WriteToContent (s : State) (w : Way) (idx sub : Nat) (data : List Byte) : Prop where
  reach : s.reachable w = true
  form : s.writeForm w idx sub ((objInfo idx sub).elim 0 (·.ty)) data = 0
  clock : s.relocking idx sub = false
  range : ∀ o ∈ objInfo idx sub, s.rangeAbort idx sub o (ofBytes data) = 0
  state : s.stateAbort idx sub (ofBytes data) = 0
  running : stationsHolding idx sub = [] ∨ s.awake (stationsHolding idx sub)

/-- One answer with a code leaves by the way an access came. -/
def State.answers (s : State) (w : Way) (code : Nat) (t : State) : Prop :=
  ∃ b, t.sent = s.sent ++ [.response (w.peer.elim 0 (· + 1)) code b]

/-- A write was served and answered with success (R470). -/
def State.served (s : State) (w : Way) (t : State) : Prop := s.counted [(Ctr.odAccesses, 1)] t ∧ s.answers w 0 t

/-- A message of type ty from peer p that is executed: the part answers on Xaxia, the message repeats none of the last 16,
and it passes the checks of header, version, type, MAC, sequence and session. -/
def State.Heard (s : State) (ty p : Nat) (d : List Byte) : Prop :=
  s.xaxiaOn = true ∧ s.keptAnswer p d = none ∧ s.xErr ty p d = 0

/-- The way a message came: from peer p, in the session its header names or in none. -/
def wayOf (p : Nat) (d : List Byte) : Way :=
  .xaxia p (if xhSession (ofBytes (d.take 32)) then xhSid (ofBytes (d.take 32)) else 0)

/-- Objects whose write stores the value and does nothing else: not RWS, and none of those R432's chapters give an effect. -/
def plainObj (idx sub : Nat) : Bool :=
  (objInfo idx sub).isSome && !isRws idx sub && !(0x01100 ≤ idx && idx ≤ 0x01103) && !(0x09400 ≤ idx && idx ≤ 0x09FFF)
    && !([0x01010, 0x01013, 0x01014, 0x01020, 0x01033, 0x02160, 0x021FF, 0x03000, 0x03001, 0x04010, 0x04011, 0x04032, 0x04062,
      0x0501B, 0x06021, 0x08010, 0x09000, 0x09002, 0x09003, 0x0A000, 0x0B000, 0x0B003, 0x0B011, 0x0B020, 0x0C020] : List Nat).contains idx

/-- Two runs of bytes (space, address, length) that share none. -/
def apart (x y : Space × Nat × Nat) : Prop := x.1 ≠ y.1 ∨ x.2.1 + x.2.2 ≤ y.2.1 ∨ y.2.1 + y.2.2 ≤ x.2.1

end Sys2Proof.Machine

namespace Sys2Proof

open Sys2Proof.Machine

/-- The parts of the state that a command can reach at all. -/
def Instr.reaches : Instr → List Fld
  | .letterboxDoorbell .. | .enable .. =>
    [.attic, .cellar, .larder, .host, .od, .meter, .lb, .bell]
  | .disable .. | .resume .. =>
    [.attic, .cellar, .larder, .host, .od, .meter, .lb]
  | .flush .. | .header .. | .marker .. | .reservedRoute .. | .close .. | .gzUnknownProg .. =>
    [.attic, .cellar, .larder, .host, .od, .meter, .lb, .bell, .gz, .ex]
  | .frontProduct .. | .backProduct .. | .copyConvert .. | .copyTranspose .. | .softmaxBlock .. | .softmaxFinish .. |
  .attnCombine .. | .softmaxBwd .. | .rmsnorm .. | .rmsnormBwd .. | .layernorm .. | .gatedSilu .. |
  .gatedSiluBwd .. | .ewAxpby .. | .toppSelect .. | .librarySpecificProgram .. | .piece .. =>
    [.attic, .cellar, .larder, .host, .od, .meter, .lb, .porch, .bell, .gz, .ex]
  | .decodeGatherTimeout .. =>
    [.attic, .cellar, .larder, .host, .od, .meter, .tick, .lb, .porch, .bell, .gz, .ex, .mtr]
  | .letterStart .. | .segmentEnd .. =>
    [.attic, .cellar, .larder, .host, .od, .meter, .freeCtr, .lb, .rooms, .porch, .bell]
  | .flushHoldRelease .. | .passDone .. =>
    [.attic, .cellar, .larder, .host, .od, .meter, .freeCtr, .lb, .rooms, .bell]
  | .tileDone .. =>
    [.attic, .cellar, .larder, .host, .od, .meter, .freeCtr, .lb, .rooms, .porch, .bell, .pwr]
  | .tileConversionEnd .. =>
    [.attic, .cellar, .larder, .host, .od, .meter, .freeCtr, .sent, .lb, .rooms, .porch, .bell, .pel, .mtr, .pwr]
  | .kvWaitTimeout .. =>
    [.meter, .tick, .freeCtr, .lb, .rooms, .porch, .bell, .mtr]
  | .letterCompletion .. =>
    [.attic, .cellar, .larder, .host, .od, .meter, .sent, .lb, .porch, .bell, .gz, .ex, .pel, .mtr, .pwr]
  | .letterboxNotifyAck .. | .wsLibLoad .. | .glaziaRuleLoad .. | .rejoin .. | .clearMisses .. | .write .. |
  .odWrite .. | .tandemSwap .. | .tandemCopy .. | .calUsrCommit .. | .calCommitEnd .. | .calUsrRetrain .. |
  .recipeRingTail .. | .gradQuarTail .. | .cellarBankCurrent .. | .objectWrite .. | .clkPllSrc .. | .clkEnable .. |
  .pllLocked .. | .pilot .. | .housekeeping .. | .service .. | .bringupGo .. | .full .. | .keepHouse .. |
  .bellClear .. | .bellAck .. | .bellRoute .. | .bellVector .. | .bellGlobalEn .. | .meterSnap .. |
  .secSvnCommit .. | .secFwCommit .. | .secOwnerKeyNext .. =>
    [.attic, .cellar, .larder, .host, .od, .stoker, .domains, .meter, .sent, .lb, .ws, .bell, .gz, .ex, .pel,
     .dict, .mtr, .pwr, .sec]
  | .memoryPortGrant .. =>
    [.meter, .sent, .porch, .ex, .cxl]
  | .burstArrival .. =>
    [.attic, .cellar, .larder, .host, .od, .meter, .lb, .porch, .bell]
  | .workshopTileDone .. =>
    [.attic, .cellar, .larder, .host, .od, .meter, .freeCtr, .lb, .rooms, .porch, .ws, .bell]
  | .outlierProductsDone .. =>
    [.meter, .lb]
  | .benchWatchdog .. | .benchTrap .. =>
    [.od, .meter, .freeCtr, .lb, .rooms, .porch, .ws, .bell]
  | .libInstallDone .. =>
    [.od, .ws, .sec]
  | .outlierReservationApply .. =>
    [.ws]
  | .openUpdate .. | .exportAck .. =>
    [.attic, .cellar, .larder, .host, .od, .captain, .stoker, .domains, .meter, .freeCtr, .lb, .rooms, .porch,
     .bell, .gz, .ex]
  | .quant .. | .grainDone .. =>
    [.attic, .cellar, .larder, .host, .od, .meter, .freeCtr, .lb, .bell, .gz, .ex]
  | .add .. | .sub .. | .mul .. | .fma .. | .lerp .. | .min .. | .max .. | .abs .. | .div .. | .sqrt .. | .sel .. |
  .st .. | .cvtsr .. | .cvtbf .. | .spowi .. | .body .. =>
    [.gz]
  | .ld .. =>
    [.od, .meter, .freeCtr, .bell, .gz]
  | .commit .. =>
    [.attic, .cellar, .larder, .host, .meter, .bell, .gz]
  | .reduceScatter .. | .allGather .. | .broadcast .. | .allToAll .. =>
    [.attic, .cellar, .larder, .host, .od, .meter, .sent, .lb, .porch, .bell, .gz, .ex, .pel]
  | .ringRoundStart .. =>
    [.attic, .cellar, .larder, .host, .meter, .sent, .lb, .porch, .pel]
  | .contrib .. | .part .. =>
    [.attic, .cellar, .larder, .host, .od, .meter, .sent, .lb, .porch, .pel]
  | .lateFrame .. =>
    [.attic, .cellar, .larder, .host, .od, .meter, .pel]
  | .credit .. =>
    [.meter, .sent, .lb, .porch, .pel]
  | .notice .. =>
    [.attic, .cellar, .larder, .host, .meter, .sent, .lb, .porch, .bell, .pel]
  | .chunkDeadline .. =>
    [.attic, .cellar, .larder, .host, .meter, .tick, .sent, .lb, .porch, .bell, .pel, .mtr]
  | .tagDiscard .. =>
    [.meter, .tick, .sent, .bell, .pel, .mtr]
  | .uioTimeout .. | .uioCompletionError .. =>
    [.attic, .cellar, .larder, .host, .od, .captain, .stoker, .domains, .meter, .freeCtr, .sent, .lb, .rooms,
     .porch, .bell, .gz, .ex, .pel]
  | .exportAutoStart .. =>
    [.attic, .cellar, .larder, .host, .od, .meter, .tick, .bell, .ex, .mtr]
  | .exportBank .. | .guestSend .. =>
    [.attic, .cellar, .larder, .host, .od, .meter, .freeCtr, .lb, .rooms, .porch, .bell, .gz, .ex]
  | .exportFrame .. | .restoreStream .. =>
    [.attic, .cellar, .larder, .host, .od, .meter, .sent, .bell, .ex]
  | .share .. | .free .. =>
    [.attic, .cellar, .larder, .host, .od, .stoker, .domains, .meter, .sent, .lb, .ws, .bell, .gz, .ex, .pel,
     .dict, .mtr, .pwr, .cxl, .sec]
  | .pageCmdLo .. | .inboundRead .. =>
    [.od, .meter, .sent, .cxl]
  | .hello .. =>
    [.meter, .sent, .dict]
  | .authStart .. | .authProof .. | .authEnd .. | .odAuth .. =>
    [.meter, .freeCtr, .sent, .dict]
  | .read .. | .blockRead .. | .odRead .. | .odBlockRead .. =>
    [.od, .meter, .sent, .dict]
  | .blockWriteBegin .. | .blockWriteSegment .. | .blockWriteEnd .. | .odBlockWrite .. | .secDebugUnlock .. =>
    [.od, .domains, .meter, .sent, .dict, .sec]
  | .snapshot .. | .odSnapshot .. =>
    [.meter, .sent, .dict, .mtr]
  | .notify .. | .notifyRepeat .. =>
    [.meter, .freeCtr, .sent, .bell, .dict]
  | .authStartTimeout .. | .authLockoutEnd .. | .sessionIdleTimeout .. | .blockTimeout .. |
  .blockReadCopyExpiry .. =>
    [.dict]
  | .plcaFallback .. | .xtalJudgeTimeout .. | .powerMeterSample .. =>
    [.od]
  | .neighbourSolicitation .. =>
    [.sent]
  | .swapPoint .. =>
    [.attic, .cellar, .larder, .host, .od, .captain, .stoker, .domains, .meter, .sent, .lb, .ws, .bell, .gz, .ex,
     .pel, .dict, .mtr, .pwr, .sec]
  | .xtalGate .. | .xtalEdgeMissing .. =>
    [.od, .pwr]
  | .refclkGate .. =>
    [.attic, .cellar, .larder, .host, .od, .meter, .sent, .lb, .porch, .bell, .pel, .pwr]
  | .xtalMonitorGate .. | .freewheel .. | .thermalSample .. | .perstDeassert .. =>
    [.od, .meter, .bell, .pwr]
  | .clkFailoverSwitch .. | .clkIdleTimeout .. | .pwrHkIdle .. | .wakeToService .. | .pilotWake .. =>
    [.od, .meter]
  | .thermtrip .. | .regulatorStart .. | .keepHouseResetBegin .. | .coldStartBegin .. | .mainInputFault .. |
  .pwrEnFall .. | .auxInputFault .. =>
    [.attic, .cellar, .larder, .od, .captain, .stoker, .domains, .meter, .lb, .rooms, .porch, .ws, .bell, .gz,
     .ex, .pel, .dict, .mtr, .pwr, .cxl, .sec]
  | .bs0Entry .. =>
    [.od, .freeCtr, .pwr]
  | .bs1Entry .. | .linkRetry .. =>
    [.od, .bell]
  | .bs2Entry .. =>
    [.attic, .cellar, .larder, .host, .od, .domains, .meter, .freeCtr, .ws, .bell, .pwr, .sec]
  | .bs3Entry .. =>
    [.od, .lb, .rooms, .bell, .pwr]
  | .keepHousePin .. | .keepHouseRise .. | .hartWatchdog .. =>
    [.pwr]
  | .auxPowerOn .. =>
    [.od, .tick, .bell, .pwr]
  | .bellDeliver .. =>
    [.meter, .sent, .bell]
  | .msixUnmask .. =>
    [.sent, .bell]
  | .snapshotEdge .. =>
    [.od, .meter, .tick, .sent, .bell, .dict, .mtr]
  | .linkTrained .. | .ideIntegrityFail .. =>
    [.od, .meter, .bell]
  | .linkDown .. =>
    [.attic, .cellar, .larder, .host, .od, .meter, .sent, .lb, .porch, .bell, .pel]
  | .perstAssert .. =>
    [.attic, .cellar, .larder, .host, .od, .meter, .sent, .lb, .porch, .bell, .pel, .dict, .pwr]
  | .inboundWrite .. =>
    [.attic, .cellar, .larder, .host, .od, .meter, .sent, .lb, .bell, .gz, .ex, .cxl]
  | .bisnpResponse .. =>
    [.cxl]
  | .spdmRequest .. =>
    [.od, .domains, .sent, .sec]
  | .fwWriteDone .. =>
    [.od, .sec]
  | .recoveryLoad .. =>
    [.od, .pwr, .sec, .tap]
  | .extest .. | .tapReset .. =>
    [.tap]
  | .patrolScrub .. =>
    [.attic, .cellar, .larder, .host, .od, .meter, .bell]

end Sys2Proof
end

