-- ==== Sys2Proof/Certificates/Slice0/Obligations.lean ====
section
/-! DEFINITION. The statements for the provers. -/

open Sys2Proof Sys2Proof.Machine

/-- For every command c and state s, a step of s with c at the front of its queue is exec c on s with the queue's rest.
(02_registers_and_units.md) -/
def Obligations.StepRunsFrontCommand : Prop :=
  ∀ (c : Instr) (rest : List Instr) (s : State),
    step { s with pending := c :: rest } = exec c { s with pending := rest }

/-- On an empty queue a step completes as one tick of the Pilot clock, and changes only the tick, the Bellboard and the
Meter: without auxiliary power nothing changes, with it the tick count grows by one modulo 2^64, and while PWR_GOOD is
high the tick is counted at the present throttle level. That an empty queue stands for a tick is the model's choice (log
2). (R475, R509, R516) -/
def Obligations.StepOnEmptyQueueTicks : Prop :=
  ∀ s : State, s.pending = [] →
    ∃ t, step s = .next t ∧ s.sameBut [.tick, .bell, .meter, .mtr] t ∧
      (s.pwr.auxOn = false → t = s) ∧
      (s.pwr.auxOn = true → t.tick = (s.tick + 1) % 2 ^ 64) ∧
      (s.pwr.auxOn = true → s.pwr.pwrGood = true → s.odv K.thermLevel < 8 →
        t.ctr (Ctr.thermTicks + s.odv K.thermLevel) = (s.ctr (Ctr.thermTicks + s.odv K.thermLevel) + 1) % 2 ^ 64)

/-- Whatever command is at the front of the queue, and when there is none, a step answers a next state, and if the
Attic, Cellar, Larder and host memories were in canonical form (addresses strictly rising, no listed zero byte, poisoned
sectors strictly rising) they still are. (R3, R561) -/
def Obligations.StepKeepsMemories : Prop :=
  ∀ s : State, ∃ t, step s = .next t ∧ (s.memsWf → t.memsWf)

/-- A step keeps the tables of objects, captain and stoker values, DOMAIN values, Meter units and interrupt targets
listing each key once in rising order, the set of high Bellboard sources without repeats, and every Meter unit below
2^64. (R429, R523) -/
def Obligations.StepKeepsTables : Prop :=
  ∀ s t : State, step s = .next t → s.tablesWf → s.meterWf → t.tablesWf ∧ t.meterWf

/-- The state after reset has its memories in canonical form, its tables in order and its Meter units below 2^64, with
no command waiting. (R502, R523) -/
def Obligations.ResetIsWellFormed : Prop :=
  State.reset.memsWf ∧ State.reset.tablesWf ∧ State.reset.meterWf ∧ State.reset.pending = []

/-- A step with a command at the front leaves exactly the rest of the queue waiting; whatever had left the part
(responses, interrupts, frames) is still on record in the same order before anything new; and the count of free values
drawn never falls. (R452, R519) -/
def Obligations.StepKeepsRecord : Prop :=
  ∀ (c : Instr) (rest : List Instr) (s t : State), s.pending = c :: rest → step s = .next t →
    t.pending = rest ∧ s.sent <+: t.sent ∧ s.freeCtr ≤ t.freeCtr

/-- With the Letterbox running, a doorbell for queue q with TAIL value T sets the queue's TAIL to T exactly when the
queue is enabled, is not halted with a CONTEXT error, and T − TAIL and T − DONE, modulo 2^32, are at most the ring size;
otherwise it changes no queue, is counted in LB_DOORBELL_BAD and raises the LB_DOORBELL_BAD source. A context that was
not cached is counted in LB_CTX_MISS. No other queue, object, byte of memory or part of the state changes, but for the
bytes of the Attic to which a context that the look-up drives out of a full cache is written. (That the look-up of a
queue that is not enabled counts as a miss is the model's, log 8.) (R213) -/
def Obligations.DoorbellPublishes : Prop :=
  ∀ (data : Nat) (s : State), s.awake [4] →
    Completes (.letterboxDoorbell data) s fun t =>
      let q := data % 2 ^ 20
      let T := data / 2 ^ 20 % 2 ^ 32
      (s.cacheRoom q → s.sameBut [.lb, .meter, .bell] t) ∧ s.sameBut [.attic, .lb, .meter, .bell] t ∧
      (∀ j, j ≠ q → t.queueCore j = s.queueCore j) ∧
      ((∃ c, s.queue? q = some c ∧ c.ctxError = false ∧ (T + 2 ^ 32 - c.tail % 2 ^ 32) % 2 ^ 32 ≤ 2 ^ c.ringLog2 ∧
          (T + 2 ^ 32 - c.done % 2 ^ 32) % 2 ^ 32 ≤ 2 ^ c.ringLog2 ∧
          t.queueCore q = some { c.core with tail := T } ∧ t.bell = s.bell ∧ s.counted (s.misses q) t) ∨
       ((∀ c, s.queue? q = some c → c.ctxError = true ∨ 2 ^ c.ringLog2 < (T + 2 ^ 32 - c.tail % 2 ^ 32) % 2 ^ 32 ∨
          2 ^ c.ringLog2 < (T + 2 ^ 32 - c.done % 2 ^ 32) % 2 ^ 32) ∧
          s.lbSame t ∧ s.counted (s.misses q ++ [(Ctr.lbDoorbellBad, 1)]) t ∧
          ∀ n, n ∈ t.bell.level ↔ n = Bell.doorbellBad ∨ n ∈ s.bell.level))

/-- With the Letterbox running and queue q not enabled, ENABLE loads the queue with the fields its context in the Attic
holds. A context with RING_LOG2 outside 4 to 20, a reserved KIND, a Cellar ring or record space, a misaligned base, HEAD
not equal to DONE, or TAIL − HEAD above the ring size, or read poisoned, leaves the queue HALTED with LAST_ERROR set to
CONTEXT and raises LB_ERROR; any other leaves it READY. A queue that is enabled already is left as it is and the command
is counted in LB_CMD_IGNORED. (A context that the load drives out of a full cache is written to its place in the Attic.
That it is, and that a count-part array in the Cellar counts as a Cellar record space, are the model's, logs 8 and 51.)
(R212) -/
def Obligations.EnableLoadsContext : Prop :=
  ∀ (q : Nat) (s : State), s.awake [4] →
    Completes (.enable q) s fun t =>
      (s.cacheRoom q → s.sameBut [.lb, .meter, .bell] t) ∧ s.sameBut [.attic, .lb, .meter, .bell] t ∧ (∀ j, j ≠ q → t.queueCore j = s.queueCore j) ∧
      (∀ c, s.queue? q = some c → t.lb = s.lb ∧ t.bell = s.bell ∧ s.counted [(Ctr.lbCmdIgnored, 1)] t) ∧
      (s.queue? q = none →
        let c := parseCtx q (s.ctxWord q) .ready
        let bad : Prop := c.ringLog2 < 4 ∨ 20 < c.ringLog2 ∨ 5 ≤ c.kind ∨ c.ringSpace = .cellar ∨ c.crSpace = .cellar ∨
          (c.cntBase ≠ 0 ∧ c.cntSpace = .cellar) ∨ c.ringBase % 128 ≠ 0 ∨ c.crBase % 32 ≠ 0 ∨ c.cntBase % 128 ≠ 0 ∨
          c.head ≠ c.done ∨ 2 ^ c.ringLog2 < (c.tail + 2 ^ 32 - c.head % 2 ^ 32) % 2 ^ 32 ∨
          s.poisonedAt .attic (s.ctxAddr q) 64 = true
        t.meter = s.meter ∧
        (bad → t.queueCore q = some { c.core with st := .halted, lastError := Err.context, ctxError := true } ∧
          ∀ n, n ∈ t.bell.level ↔ n = Bell.lbError ∨ n ∈ s.bell.level) ∧
        (¬bad → t.queueCore q = some c.core ∧ t.bell = s.bell))

/-- With the Letterbox running: DISABLE of a READY or HALTED queue none of whose letters run (DONE equals HEAD) evicts
it and writes its context over the 64 bytes of its place in the Attic: STATE reads back as DISABLED, HEAD, TAIL, DONE,
ISA, LAST_ERROR, ERR_SEQ and LATE as the part holds them, every other field as it was loaded, and no other byte changes.
Of a queue whose letters run it only stops dispatch; after a CONTEXT error it evicts without writing. RESUME of a HALTED
queue without a CONTEXT error makes it READY. In any other state either command changes no queue and is counted in
LB_CMD_IGNORED. (A context that a look-up drives out of a full cache is written to its place in the Attic: the model's,
log 8.) (R210, R211, R212, R226) -/
def Obligations.DisableAndResume : Prop :=
  ∀ (q : Nat) (s : State), s.awake [4] →
    (∀ c, s.queue? q = some c → c.ctxError = false → c.st ≠ .flushing → c.done = c.head → Completes (.disable q) s fun t =>
      t.queue? q = none ∧ (∀ j, j ≠ q → t.queueCore j = s.queueCore j) ∧ s.bytesSame .attic (s.ctxAddr q) 64 t ∧
      bits (t.ctxWord q) 0 61 = bits c.raw 0 61 ∧ bits (t.ctxWord q) 61 3 = 0 ∧ bits (t.ctxWord q) 64 32 = c.head % 2 ^ 32 ∧
      bits (t.ctxWord q) 96 32 = c.tail % 2 ^ 32 ∧ bits (t.ctxWord q) 128 32 = c.done % 2 ^ 32 ∧
      bits (t.ctxWord q) 160 160 = bits c.raw 160 160 ∧ bits (t.ctxWord q) 320 8 = c.isa % 2 ^ 8 ∧
      bits (t.ctxWord q) 328 8 = c.lastError % 2 ^ 8 ∧ bits (t.ctxWord q) 336 32 = c.errSeq % 2 ^ 32 ∧
      bits (t.ctxWord q) 368 32 = c.late % 2 ^ 32 ∧ bits (t.ctxWord q) 400 112 = bits c.raw 400 112 ∧ s.sameBut [.attic, .lb] t) ∧
    (∀ c, s.queue? q = some c → c.ctxError = false → c.st ≠ .flushing → c.done ≠ c.head → Completes (.disable q) s fun t =>
      t.queueCore q = some { c.core with disabling := true } ∧ (∀ j, j ≠ q → t.queueCore j = s.queueCore j) ∧
      s.counted (s.misses q) t ∧ (s.cacheRoom q → s.sameBut [.meter, .lb] t) ∧ s.sameBut [.attic, .meter, .lb] t) ∧
    (∀ c, s.queue? q = some c → c.ctxError = true → Completes (.disable q) s fun t =>
      t.queue? q = none ∧ (∀ j, j ≠ q → t.queueCore j = s.queueCore j) ∧ s.sameBut [.lb] t) ∧
    ((∀ c, s.queue? q = some c → c.ctxError = false ∧ c.st = .flushing) → Completes (.disable q) s fun t =>
      s.counted [(Ctr.lbCmdIgnored, 1)] t ∧ s.sameBut [.meter] t) ∧
    (∀ c, s.queue? q = some c → c.st = .halted → c.ctxError = false → Completes (.resume q) s fun t =>
      t.queueCore q = some { c.core with st := .ready, haltedOn := [] } ∧ (∀ j, j ≠ q → t.queueCore j = s.queueCore j) ∧
      s.counted (s.misses q) t ∧ (s.cacheRoom q → s.sameBut [.meter, .lb] t) ∧ s.sameBut [.attic, .meter, .lb] t) ∧
    ((∀ c, s.queue? q = some c → c.st ≠ .halted ∨ c.ctxError = true) → Completes (.resume q) s fun t =>
      s.counted [(Ctr.lbCmdIgnored, 1)] t ∧ s.sameBut [.meter] t)

/-- With the Letterbox running, FLUSH of a READY or HALTED queue whose dispatched letters have all completed and which
waits for no DISABLE completes every letter from HEAD to TAIL − 1: the queue ends HALTED with HEAD and DONE at TAIL,
ERR_SEQ and LAST_ERROR unchanged, and every such letter counts once in LB_ERRORS. No other queue changes. (The premises
say that no DISABLE, no finished letter and no CLOSE waits, and that no other context has to leave the cache.) (R211) -/
def Obligations.FlushAborts : Prop :=
  ∀ (q : Nat) (c : QCtx) (s : State), s.awake [4] → s.queue? q = some c → c.ctxError = false →
    c.st ≠ .flushing → c.disabling = false → c.done = c.head → c.head < 2 ^ 32 → c.tail < 2 ^ 32 →
    (∀ f ∈ s.lb.fin, f.queue ≠ q) → s.cacheRoom q → s.noClose q →
    Completes (.flush q) s fun t =>
      s.sameBut [.attic, .cellar, .larder, .host, .meter, .lb, .bell] t ∧
      t.queueCore q = some { c.core with st := .halted, head := c.tail, done := c.tail } ∧
      (∀ j, j ≠ q → t.queueCore j = s.queueCore j) ∧
      t.ctr Ctr.lbErrors = (s.ctr Ctr.lbErrors + (c.tail + 2 ^ 32 - c.head) % 2 ^ 32) % 2 ^ 64

/-- A write of n below 256 to NOTIFY_ACK over BAR0, with the Letterbox running, clears pending bit n: the source LB_DONE
n is no longer high, every other source is as it was, and nothing else changes. By the mailbox the same value clears the
same bit and is answered. (R223) -/
def Obligations.NotifyAckClears : Prop :=
  ∀ (n : Nat) (s : State), n < 256 → s.awake [4] →
    (Completes (.letterboxNotifyAck none n) s fun t =>
      s.sameBut [.bell] t ∧ (∀ m, m ∈ t.bell.level ↔ m ≠ n ∧ m ∈ s.bell.level)) ∧
    (s.mboxOn = true → s.writeForm .mailbox 0x04032 0 ((objInfo 0x04032 0).elim 0 (·.ty)) (leBytes 1 n) = 0 →
      s.relocking 0x04032 0 = false → s.writeValue 0x04032 0 n = 0 →
      Completes (.letterboxNotifyAck (some .mailbox) n) s fun t =>
        s.sameBut [.bell, .meter, .sent] t ∧ (∀ m, m ∈ t.bell.level ↔ m ≠ n ∧ m ∈ s.bell.level) ∧
        s.counted [(Ctr.odAccesses, 1)] t ∧ ∃ b, t.sent = s.sent ++ [.response 0 0 b])

/-- For the sixteen commands that dispatch a room, Workshop or copy letter: with the Letterbox running, the head letter
of queue q ready, of the command's route and program, chosen for its target, nothing holding it, a slot free and its
validation without an error, the letter leaves the queue and runs in that slot, with the captain set latched, counted in
LB_DISPATCHED; a letter of a DECODE queue with a BATCH_KEY starts a gather instead. When a gather ends, all its letters
run as one operation in its slot, counted each in LB_DISPATCHED, and in LB_MERGES when there are two or more. (R183,
R186, R205, R216, R217, R218, R219, R225) -/
def Obligations.LettersAreDispatched : Prop :=
  ∀ s : State,
    let ws : Nat → Letter → Prop := fun n l => (l.route = 4 ∨ l.route = 5) ∧ l.prog % 4096 = n
    let cmds : Nat → List (Instr × (Letter → Prop)) := fun q =>
      [(.frontProduct q, fun l => l.route = 1), (.backProduct q, fun l => l.route = 2), (.copyConvert q, fun l => l.route = 8),
       (.copyTranspose q, fun l => l.route = 9), (.softmaxBlock q, ws 1), (.softmaxFinish q, ws 2), (.attnCombine q, ws 3),
       (.softmaxBwd q, ws 4), (.rmsnorm q, ws 0x10), (.rmsnormBwd q, ws 0x11), (.layernorm q, ws 0x12), (.gatedSilu q, ws 0x20),
       (.gatedSiluBwd q, ws 0x21), (.ewAxpby q, ws 0x30), (.toppSelect q, ws 0x40),
       (.librarySpecificProgram q, fun l => (l.route = 4 ∨ l.route = 5) ∧
         l.prog % 4096 ∉ [1, 2, 3, 4, 0x10, 0x11, 0x12, 0x20, 0x21, 0x30, 0x40])]
    (∀ q c l tg slot, ∀ x ∈ cmds q, x.2 l → s.HeadIs q c l → targetOf l = some tg → (∀ g ∈ s.lb.gathers, g.joins c l = false) → s.chosen q tg = true →
      s.dispatchHeld tg l = false → s.freeSlot tg = some slot → (validate s c l).err = none → Completes x.1 s fun t =>
        (c.kind ≠ 4 ∨ l.batchKey = 0 → s.launched q c l tg slot t ∧ t.lb.gathers = s.lb.gathers) ∧
        (c.kind = 4 → l.batchKey ≠ 0 → t.queueCore q = some (c.sent false) ∧ t.lb.ops = s.lb.ops ∧
          ∃ g, t.lb.gathers = s.lb.gathers ++ [g] ∧ g.target = tg ∧ g.slot = slot ∧ g.startTick = s.tick ∧
            g.parts.map (fun p => (p.queue, p.seq, p.letter)) = [(q, c.head, l)])) ∧
    (∀ g, s.gatherEnding = some g → g.parts ≠ [] → s.targetHeld g.target (g.parts.any (·.hasList)) = false →
      (let u := if g.parts.length < 4096 then s.atLeast (g.startTick + g.limit) else s; ∀ p ∈ g.parts, u.gatherErr p = none) →
      Completes .decodeGatherTimeout s fun t => t.lb.gathers = s.lb.gathers.filter (fun x => !x.isSame g) ∧
      t.tick = (if g.parts.length < 4096 ∧ s.tick < g.startTick + g.limit then (g.startTick + g.limit) % 2 ^ 64 else s.tick) ∧
      t.ctr Ctr.lbDispatched = (s.ctr Ctr.lbDispatched + g.parts.length) % 2 ^ 64 ∧
      (1 < g.parts.length → t.ctr Ctr.lbMerges = (s.ctr Ctr.lbMerges + 1) % 2 ^ 64) ∧
      ∃ o, t.lb.ops = s.lb.ops ++ [o] ∧ o.target = g.target ∧ o.slot = g.slot ∧ o.captain = s.captain ∧
        o.parts.map (fun p => (p.queue, p.seq, p.letter)) = g.parts.map fun p => (p.queue, p.seq, p.letter))

/-- A room, Workshop or copy letter whose validation gives error e, at the moment it would be dispatched, and a letter
of a reserved route, do no work: no operation starts, the queue halts with ERR_SEQ at the letter and LAST_ERROR e, every
other queue stays as it is, and once its turn has come the record with error e is written, counted in LB_ERRORS and
notified. A letter read from a poisoned ring sector fails so with DESC_POISON and USER_TAG 0. (R183, R205, R207, R208,
R221) -/
def Obligations.RefusedLettersHaltTheirQueue : Prop :=
  ∀ (q : Nat) (c : QCtx) (l : Letter) (s : State),
    let only : State → Prop := s.sameBut [.attic, .cellar, .larder, .host, .meter, .lb, .bell]
    (∀ tg e, s.HeadIs q c l → targetOf l = some tg → (∀ g ∈ s.lb.gathers, g.joins c l = false) → s.chosen q tg = true → s.dispatchHeld tg l = false →
      (s.freeSlot tg).isSome = true → (validate s c l).err = some e →
      ((l.route = 1 → Completes (.frontProduct q) s fun t => s.failedWith q c l e t ∧ only t) ∧
       (l.route = 2 → Completes (.backProduct q) s fun t => s.failedWith q c l e t ∧ only t) ∧
       (l.route = 8 → Completes (.copyConvert q) s fun t => s.failedWith q c l e t ∧ only t) ∧
       (l.route = 4 ∨ l.route = 5 → l.prog % 4096 = 1 → Completes (.softmaxBlock q) s fun t => s.failedWith q c l e t ∧ only t))) ∧
    (s.HeadIs q c l → routeAssigned l.route = false → Completes (.reservedRoute q) s fun t =>
      s.failedWith q c l ((firstErr (checks123 c l)).getD Err.route) t ∧ only t) ∧
    (s.awake [4] → s.queue? q = some c → s.headReady c = true → s.letterPoisoned c c.head = true → (∀ f ∈ s.lb.fin, f.queue ≠ q) →
      s.cacheRoom q → s.noClose q →
      Completes (.reservedRoute q) s fun t => s.failedWith q c { s.letterAt c c.head with userTag := 0 } Err.descPoison t ∧ only t)

/-- A header letter of an accepted version, without slots, sets the queue's ISA to the version it names and completes at
once; one of another version fails with ISA_VERSION. A marker letter that passes the checks of ISA, feature level, kind
and slots completes at once and changes nothing else of the queue. Both are counted in LB_DISPATCHED. (R181, R182, R185,
R218, R221) -/
def Obligations.HeadersAndMarkersComplete : Prop :=
  ∀ (q : Nat) (c : QCtx) (l : Letter) (s : State), s.HeadIs q c l →
    let late := s.isLate (s.deadlineOf c)
    let only : State → Prop := s.sameBut [.attic, .cellar, .larder, .host, .meter, .lb, .bell]
    let v := bits l.param0 0 8
    let ok : Prop := v ∈ [0x32, 0x33, 0x34, 0x35, 0x40, 0x41, 0x42, 0x43]
    (l.route = 0 → ok → slotBad false l = false → (c.isa = 0 ∨ l.batchKey = 0 ∨ (c.isa / 16 ≠ 3 ∧ 2 ≤ c.isa % 16)) →
      Completes (.header q) s fun t => s.completedNow q c l { c.sent late with isa := v } t ∧ only t) ∧
    (l.route = 0 → ¬ok → Completes (.header q) s fun t => s.failedWith q c l Err.isaVersion t ∧ only t) ∧
    (l.route = 0x30 → firstErr (checks123 c l) = none → Completes (.marker q) s fun t =>
      s.completedNow q c l (c.sent late) t ∧ only t)

/-- The main part of a completion record holds, for a letter numbered below 2^32 of a queue below 2^20, with an error
code of 8 bits and a tag of 64: the sequence number in bits [31:0], the queue in [51:32], the phase bit of the ring in
[52], the replays in [55:53], the error in [63:56], the status bits in [74:64], zeros in [95:75], the run time in ticks,
saturating, in [127:96], the Pilot time in [191:128] and USER_TAG in [255:192]. (R221) -/
def Obligations.RecordHoldsItsFields : Prop :=
  ∀ (f : FinRec) (c : QCtx) (tick : Nat), f.seq < 2 ^ 32 → f.queue < 2 ^ 20 → f.error < 256 → f.userTag < 2 ^ 64 → tick < 2 ^ 64 →
    let w := f.mainWord c tick
    w < 2 ^ 256 ∧ bits w 0 32 = f.seq ∧ bits w 32 20 = f.queue ∧ bit w 52 = bit f.seq c.ringLog2 ∧ bits w 53 3 = f.replays % 8 ∧
    bits w 56 8 = f.error ∧ bit w 64 = (f.replays != 0) ∧ bit w 65 = f.part.elim false (·.recipe) ∧ bit w 66 = f.part.elim false (·.oprange) ∧
    bit w 67 = f.window ∧ bit w 68 = f.longsum ∧ bit w 69 = f.late ∧ bit w 70 = f.part.elim false (·.poisonBit) ∧
    bit w 71 = f.part.elim false (·.nonfinite) ∧ bit w 72 = f.part.elim false (·.saturated) ∧
    bit w 73 = f.part.elim false (·.histStale) ∧ bit w 74 = f.merged ∧ bits w 75 21 = 0 ∧
    bits w 96 32 = min (tick - f.dispatchTick) (2 ^ 32 - 1) ∧ bits w 128 64 = tick ∧ bits w 192 64 = f.userTag

/-- With its stations clocked, the letter dispatched to a station and not yet started starts there, PORCH_FILL_CYCLES
growing by the time its first operands took, once for each of its letters (the model's count for a merged operation, log
63): a replay that carries an operand shift, and a collective, start as they stand; a letter none of whose constituents
has valid tensor scales stops with BAD_SCALE; of any other the constituents with a bad scale end with BAD_SCALE and the
rest start. A single letter's D takes its tensor scale from memory when it has no history, and from the exponent of the
rolled history slot when its scale mode is HISTORY. (That no letter waits to be run again at the target is the premise
of the second case.) (R38, R90, R149, R152, R194, R198, R207, R244) -/
def Obligations.LetterStartsAtItsStation : Prop :=
  ∀ (s : State) (station fill : Nat) (o : Op),
    s.lb.ops.find? (fun x => x.station == station && !x.started && x.error == 0 && !x.replayWaiting) = some o →
    o.parts ≠ [] → s.awake o.clocks →
    let bad := scalesBad s
    let n := fill * o.parts.length
    (o.kop ≠ 0 ∨ o.target = .peloton → Completes (.letterStart station fill) s fun t =>
      t.lb.ops = s.opsWith o { o with started := true } ∧ s.counted [(Ctr.porchFill, n)] t ∧ s.sameBut [.meter, .lb] t) ∧
    (o.kop = 0 → o.target ≠ .peloton → (∀ p ∈ o.parts, bad p = true) → s.noReplays o.target → Completes (.letterStart station fill) s fun t =>
      t.lb.ops = s.opsWith o { o with started := true, error := Err.badScale } ∧
      t.ctr Ctr.porchFill = (s.ctr Ctr.porchFill + n) % 2 ^ 64 ∧ s.sameBut [.meter, .freeCtr, .lb, .porch, .rooms] t) ∧
    (o.kop = 0 → o.target ≠ .peloton → (∃ p ∈ o.parts, bad p = false) → Completes (.letterStart station fill) s fun t =>
      t.ctr Ctr.porchFill = (s.ctr Ctr.porchFill + n) % 2 ^ 64 ∧
      ((o.parts.map fun p => (p.queue, p.seq)).Nodup → ∀ p ∈ o.parts, bad p = true →
        ∃ x ∈ t.lb.ops, x.parts = [p] ∧ x.started = true ∧ x.error = Err.badScale) ∧
      ∃ o' ∈ t.lb.ops, o'.started = true ∧ o'.error = 0 ∧ o'.target = o.target ∧ o'.slot = o.slot ∧ o'.captain = o.captain ∧
        o'.parts.map (fun p => (p.queue, p.seq, p.letter)) =
          (o.parts.filter fun p => !bad p).map (fun p => (p.queue, p.seq, p.letter)) ∧
        (∀ p d, o.parts = [p] → p.d = some d → p.s = none → p.emptyOut = false →
          ∃ p' d', o'.parts = [p'] ∧ p'.d = some d' ∧ d'.desc = d.desc ∧
          (d.hist = 0xFFFF → d'.tsBits = fixedScale s d) ∧
          (d.hist ≠ 0xFFFF → d.history = true →
            let h := (s.hist o d.hist).roll p.letter.step d.desc.format (o.cass p 6)
            d'.eLatched = clampE h.1.e ∧ d'.stale = h.2 ∧ p'.histStale = (p.histStale || h.2) ∧ d'.tsBits = scalePow (clampE h.1.e))))

/-- A lane that ends its next segment flushes it into the entry of its chunk: in write mode the segment's value rounded
to the accumulator's format, else that value added to the entry and rounded once. The entry is poisoned when an operand
or, in add mode, the entry was, or its read met an uncorrectable error, in which case what it held is free. The lane's
count of flushed segments grows by one, and no other entry of the Pantry changes. A write-mode flush into an entry that
the Landing has not finished reading is held: nothing but the hold changes. While an operand of the segment has not come
into its stream buffer nothing changes at all. When the Landing has finished, a held flush is done as any other, and its
cycles are counted. (That a tiny negative value flushes to −0, and in a long sum every part of the pair rounds to a BF16
accumulator, are the model's, log 64.) (R91, R96, R111, R112, R113, R116, R117, R119, R126, R221, R243) -/
def Obligations.SegmentsFlushOnce : Prop :=
  ∀ (s : State) (back : Bool) (row col ecc cycles : Nat) (o : Op) (r : RoomRun),
    let t := o.tileOf r row col
    let j := (r.lane row col).1
    let k := o.kAt row
    let q := (passOf k r j).1
    let sh := passShape o.y3 k r q
    let c := (passOf k r j).2 / sh.per
    let first := (passOf k r j).2 % sh.per = 0
    let g := segment s o row col j
    let n := if back then 1 else 0
    let key := pantryKey o r t c row col
    let done : Nat → State → Prop := fun ecc u =>
      let old := if ecc = 2 ∧ ¬first then BitVec.ofNat 32 (Config.freeNat s.freeCtr) else (s.entry o r t c row col).1
      let v := if first then accRnd r.bf16 g.v else accRnd r.bf16 ((f32val old).add g.v)
      let lane := (r.lane row col).2 || g.poison
      let pois := lane || (!decide first && ((s.entry o r t c row col).2 || ecc == 2))
      let r' := { r with lanes := aset (0, false) r.lanes (laneKey r row col) (j + 1, lane), poisonTile := r.poisonTile || lane }
      (r.larder = false → u.entry o r t c row col = (v, pois) ∧ u.larder = s.larder ∧
        ∀ i, i ≠ key → aget 0 (u.pantry (o.target == .back)) i = aget 0 (s.pantry (o.target == .back)) i) ∧
      (r.larder = true → r.bf16 = false → (u.entry o r t c row col).1 = v) ∧
      (r.larder = true → r.bf16 = true → u.rd .larder (larderAddr o r t c row col) 2 = bf16.rnd (f32val v) % 2 ^ 16) ∧
      (r.larder = true → pois = true → (u.entry o r t c row col).2 = true) ∧
      u.lb.ops = s.opsWith o (({ o with room := some r' }).noteSegment row g.loss (if col % r.w = 0 then g.delA.nf else 0)
        (if row % r.m = 0 then g.delB.nf else 0)) ∧
      u.ctr Ctr.segWindowLoss = (s.ctr Ctr.segWindowLoss + (if g.loss then 1 else 0)) % 2 ^ 64 ∧
      u.ctr Ctr.pantryCe = (s.ctr Ctr.pantryCe + (if ¬first ∧ r.larder = false ∧ ecc = 1 then 1 else 0)) % 2 ^ 64 ∧
      u.ctr Ctr.pantryUe = (s.ctr Ctr.pantryUe + (if ¬first ∧ r.larder = false ∧ ecc = 2 then 1 else 0)) % 2 ^ 64 ∧
      s.sameBut [.larder, .od, .meter, .freeCtr, .lb, .rooms, .bell] u ∧ (first ∨ ecc ≠ 2 → s.sameBut [.larder, .meter, .lb, .rooms] u)
    s.meterWf → s.opAt n = some o → o.room = some r → o.parts ≠ [] →
    (o.started = true → s.held back = none → row < o.rows → col < o.colsAt row → r.tilesDone ≤ t →
      (o.discarding = true → t = r.tilesDone) → j < segsOf k → laneReady o r t row col = true → s.segWaits o r row col j = false →
      g.badWidth = false →
      (¬first ∨ s.flushHeld o r t q c row col = false → Completes (.segmentEnd back row col ecc) s (done ecc)) ∧
      (first → s.flushHeld o r t q c row col = true → Completes (.segmentEnd back row col ecc) s fun u =>
        u.held back = some (row, col) ∧ s.sameBut [.rooms] u)) ∧
    (s.segWaits o r row col j = true → Completes (.segmentEnd back row col ecc) s fun u => u = s) ∧
    (s.held back = some (row, col) → ¬first ∨ s.flushHeld o r t q c row col = false → Completes (.flushHoldRelease back cycles) s fun u =>
      done 0 u ∧ u.held back = none ∧ u.ctr (Ctr.roomDrainWait + n) = (s.ctr (Ctr.roomDrainWait + n) + cycles) % 2 ^ 64)

/-- When every lane of a room's tile has flushed all segments of the pass at hand and it is not the last, the pass ends:
the next begins, and, in the Pantry, the Landing puts the pass into the tile's compensated pair: the first pass as it is
with a low part of 0, a later one by the two-sum of the high part, its error added to the low part; an error its read
meets is counted. When all segments of the last pass are in, the tile is done: the next tile begins, or a letter that is
to be run again whole begins anew, and the Meter counts the tile, its cycles, packed cycles, poisoned, chunked and
Larder tiles and the cycles the Porch starved the room. (That every part of a long sum's pair rounds to a BF16
accumulator is the model's, log 64.) (R88, R94, R103, R119, R124, R128, R140, R163, R244, R588) -/
def Obligations.TilesAndPassesEnd : Prop :=
  ∀ (s : State) (back : Bool) (cycles starve ecc : Nat) (o : Op) (r : RoomRun),
    let n := if back then 1 else 0
    let t := r.tilesDone
    let q := r.passesDone
    let k := o.tileK r t
    let packed := r.mode = .packed1 ∨ r.mode = .packed2
    let pois := ∃ x ∈ o.tileElems r t, (r.lane x.1 x.2).2 = true
    s.opAt n = some o → o.room = some r → o.parts ≠ [] → o.started = true →
    (q + 1 < passCount k r → tileFlushed o r t q = true → Completes (.passDone ⟨back, ecc⟩) s fun u =>
      u.lb.ops = s.opsWith o { o with room := some { r with passesDone := q + 1 } } ∧
      s.sameBut [.attic, .cellar, .larder, .host, .od, .meter, .freeCtr, .lb, .rooms, .bell] u ∧
      (r.larder = false → 0 < r.m → ∀ row col, o.tileElems r t = [(row, col)] → r.passLen < o.kAt row → q < passCount (o.kAt row) r →
        let p := s.passValue o r t q row col
        let hi := s.entry o r t (pairAt r) row col
        let lo := s.entry o r t (pairAt r + 1) row col
        let sum := f32val (accRnd r.bf16 ((f32val hi.1).add (f32val p.1)))
        let bb := sum.sub (f32val hi.1)
        let err := ((f32val hi.1).sub (sum.sub bb)).add ((f32val p.1).sub bb)
        (ecc ≠ 2 → q = 0 → u.entry o r t (pairAt r) row col = p ∧ u.entry o r t (pairAt r + 1) row col = (0, false)) ∧
        (ecc ≠ 2 → q ≠ 0 → u.entry o r t (pairAt r) row col = (accRnd r.bf16 sum, p.2 || hi.2) ∧
          u.entry o r t (pairAt r + 1) row col = (accRnd r.bf16 ((f32val lo.1).add err), lo.2)) ∧
        (ecc = 1 → u.ctr Ctr.pantryCe = (s.ctr Ctr.pantryCe + 1) % 2 ^ 64) ∧
        (ecc = 2 → u.ctr Ctr.pantryUe = (s.ctr Ctr.pantryUe + 1) % 2 ^ 64))) ∧
    (q + 1 = passCount k r → tileFlushed o r t q = true → Completes (.tileDone ⟨back, ecc⟩ cycles starve) s fun u =>
      (o.discarding = false → t + 1 ≠ o.tiles ∨ s.noReplays o.target → u.lb.ops = s.opsWith o { o with
        room := some { r with tilesDone := t + 1, passesDone := 0, poisonTile := false }, buf := if o.hasLists then o.buf else o.freeBuf t,
        parts := o.parts.map fun p => { p with nfTiles := p.nfTiles ++ [p.nf] } }) ∧
      (o.discarding = true → ∃ x ∈ u.lb.ops, x.isSame o = true ∧ x.replays = o.replays + 1 ∧ x.started = false ∧ x.tilesConv = 0) ∧
      u.ctr (Ctr.roomTilesDone + n) = (s.ctr (Ctr.roomTilesDone + n) + 1) % 2 ^ 64 ∧
      u.ctr (Ctr.roomBusy + n) = (s.ctr (Ctr.roomBusy + n) + cycles) % 2 ^ 64 ∧
      (packed → u.ctr (Ctr.roomPacked + n) = (s.ctr (Ctr.roomPacked + n) + cycles) % 2 ^ 64) ∧
      (pois → u.ctr (Ctr.roomPoisonTiles + n) = (s.ctr (Ctr.roomPoisonTiles + n) + 1) % 2 ^ 64) ∧
      (1 < (passShape o.y3 k r 0).chunks → u.ctr Ctr.chunkedTiles = (s.ctr Ctr.chunkedTiles + 1) % 2 ^ 64) ∧
      (r.larder = true → u.ctr Ctr.larderAccTiles = (s.ctr Ctr.larderAccTiles + 1) % 2 ^ 64) ∧
      u.ctr Ctr.porchStarve = (s.ctr Ctr.porchStarve + starve) % 2 ^ 64)

/-- The tile that a Landing path takes next: in a copy whose bursts are all in, an operand of a wrong width stops the
letter with FORMAT_WIDTH and converts nothing; otherwise, for a letter without paged destinations and a tile without an
operand-range trigger, the tile is converted as the Landing reads it (an error its read meets in the Pantry comes
first). A tile of one element that is not poisoned, for a destination without blocks, accumulation or list, stores the
element times the letter's factor, rounded to D's format, in D's bytes, counts it by its class, and counts the tile in
the Meter. A letter that waits for a KV frame and runs out of time, no earlier than KV_WAIT_TICKS after it began to
wait, stops with KV_POOL_EMPTY. (R44, R59, R144, R157, R159, R336) -/
def Obligations.ConvertedElementsAreStored : Prop :=
  ∀ (s : State) (path ecc : Nat) (o : Op), o.parts ≠ [] →
    let v := match o.room with
      | none => s
      | some r => s.landingEcc o r o.tilesConv (if r.passLen < o.tileK r o.tilesConv then pairAt r else 0) ecc
    (s.convertible path = some o → s.pel.voided = [] → o.room = none → s.noReplays o.target → s.visitAwaited o o.tilesConv = false →
      widthFault s o o.tilesConv = true → Completes (.tileConversionEnd ⟨path, ecc⟩) s fun t =>
      t.lb.ops = s.opsWith o { o with error := Err.formatWidth } ∧ s.sameBut [.od, .lb, .porch, .pwr] t) ∧
    (s.convertible path = some o → (o.target = .copy → s.visitAwaited o o.tilesConv = false) → widthFault s o o.tilesConv = false →
      (∀ p ∈ o.parts, ∀ d, p.d = some d → d.desc.paged = true → d.present = false) →
      v.rangeTrigger o o.tilesConv (tileEls v o o.tilesConv) = none → Completes (.tileConversionEnd ⟨path, ecc⟩) s fun t =>
      (∃ o' ∈ t.lb.ops, o'.isSame o = true ∧ o'.tilesConv = o.tilesConv + 1 ∧ o'.started = o.started ∧ o'.error = o.error ∧ o'.room = o.room) ∧
      (∀ p d e, o.parts = [p] → p.d = some d → p.s = none → s.pel.voided = [] → tileEls v o o.tilesConv = [e] → e.part = 0 → e.poison = false →
        d.present = true → d.desc.paged = false → d.accum = false → d.desc.sideList = false → d.desc.blkCode = 0 →
        d.desc.format ∈ ([1, 2, 3, 4, 5, 6] : List Nat) → (d.desc.space ≠ .host ∨ v.hostDown = false) →
        let nb := fmtBits d.desc.format / 8
        let a := ((d.desc.base : Int) + d.desc.offset (destIdx o p d.desc e.row e.col) * ((8 * nb : Nat) : Int) / 8).toNat
        let r := convertElem d.desc.format d.sat .nearest ((f32val e.val).mul (factorK v o p d.tsBits))
        (d.history = false ∨ r.2 ≠ .saturated) →
        t.rd d.desc.space a nb = r.1 % 2 ^ (8 * nb) ∧ t.ctr Ctr.landingTiles = (s.ctr Ctr.landingTiles + 1) % 2 ^ 64 ∧
        ∃ o' p' d', o' ∈ t.lb.ops ∧ o'.isSame o = true ∧ o'.parts = [p'] ∧ p'.d = some d' ∧
          d'.counts = d.counts.add (Counts.ofCls r.2))) ∧
    (s.lb.ops.find? (fun x => x.station == path && x.kvWaiting.isSome && x.error == 0) = some o → s.noReplays o.target →
      let due := o.kvWaiting.getD 0 + capIn o.captain K.kvWaitTicks
      Completes (.kvWaitTimeout path) s fun t =>
      t.lb.ops = s.opsWith o { o with kvWaiting := none, error := Err.kvPoolEmpty } ∧
      t.tick = (if s.tick < due then due % 2 ^ 64 else s.tick) ∧
      s.sameBut [.meter, .tick, .freeCtr, .lb, .rooms, .porch, .bell, .mtr] t)

/-- A single letter whose work is done, or that was stopped, and whose record is next in its queue, completes: it is no
longer run, DONE moves past it, and its record stands with its sequence number, queue, replays, dispatch time and tag
and with error 0 or the one it stopped with; one that was stopped also halts its queue with ERR_SEQ and LAST_ERROR, is
counted in LB_ERRORS and notifies; one that succeeded leaves the queue's state alone and notifies when the letter asks
for it. (The premises say that no finished letter and no CLOSE of the queue waits for its record, and that no other
context has to leave the cache.) (R189, R207, R208, R221, R223) -/
def Obligations.LettersComplete : Prop :=
  ∀ (s : State) (o : Op) (p : Part) (c : QCtx),
    s.lb.ops.find? (fun x => x.parts.any fun y => y.queue == p.queue && y.seq == p.seq) = some o → o.parts = [p] → o.target ≠ .peloton →
    s.queue? p.queue = some c → c.done = p.seq → c.disabling = false → c.st ≠ .flushing → (∀ f ∈ s.lb.fin, f.queue ≠ p.queue) →
    s.cacheRoom p.queue → s.noClose p.queue →
    let ends : State → Prop := fun t => t.lb.ops = s.lb.ops.filter (fun x => !x.isSame o) ∧ (∀ f ∈ t.lb.fin, f.queue ≠ p.queue) ∧
      ∀ j, j ≠ p.queue → t.queueCore j = s.queueCore j
    (o.error ≠ 0 → Completes (.letterCompletion p.queue p.seq) s fun t => ends t ∧
      t.queueCore p.queue = some { c.core with
        st := .halted, errSeq := p.seq, lastError := o.error, haltedOn := c.haltedOn ++ [p.seq], done := (p.seq + 1) % 2 ^ 32 } ∧
      t.ctr Ctr.lbErrors = (s.ctr Ctr.lbErrors + 1) % 2 ^ 64 ∧ c.notifySrc ∈ t.bell.level ∧
      (p.pins = [] → s.crReach c → t.record c p.seq = (finOf o p).mainWord c s.tick % 2 ^ 256)) ∧
    (o.error = 0 → o.workDone = true → Completes (.letterCompletion p.queue p.seq) s fun t => ends t ∧
      t.queueCore p.queue = some { c.core with done := (p.seq + 1) % 2 ^ 32 } ∧ t.ctr Ctr.lbErrors = s.ctr Ctr.lbErrors ∧
      (p.letter.notify = true → c.notifySrc ∈ t.bell.level) ∧
      (p.pins = [] → s.crReach c → ∃ f : FinRec, t.record c p.seq = f.mainWord c s.tick % 2 ^ 256 ∧ f.queue = p.queue ∧ f.seq = p.seq ∧
        f.error = 0 ∧ f.replays = o.replaysOf p ∧ f.dispatchTick = o.dispatchTick ∧ f.late = p.late ∧ f.userTag = p.letter.userTag))

/-- A memory port grants, among the contenders whose next access lies on it and that are eligible, the one with the
least time and, among equals, the lowest number. If the host holds no line of the access, a read thread issues its next
burst, which is then outstanding; a drain stream writes its next, and bytes that waited for room in its buffer move in.
If the host must first give lines back, nothing is granted. At the Glazia die link the export engine takes at most one
slot in eight. The oldest burst a thread has outstanding arrives: its sectors come into the letter's stream buffer as
memory holds them, the thread's bytes in the buffer grow by them less those the consumer has taken, and a burst of a
staged column block is written to its place in the window. A corrected error of the buffer is counted; an uncorrectable
one of the buffer, or of the memory read, is counted and recorded, and the sector is held poisoned; a corrected error of
the memory is counted. (R231, R233, R237, R241, R242, R256, R257, R545, R564) -/
def Obligations.PortsGrantAndBurstsArrive : Prop :=
  (∀ (s : State) (port : Nat) (c : Contender) (b : Burst) (rest : List Burst), s.arbiter port = some c → c.queue = b :: rest →
    (port = 32 → s.porch.owed ≠ 0 ∨ s.exportWaits = false) →
    let mine : Contender → Prop := fun d => (∃ x ∈ d.queue.head?, portOf x.space x.addr = port) ∧ (d.time s).isSome = true
    let write := 512 ≤ c.num
    let held := s.heldLines b.space b.addr b.len
    let left := c.buffered - min b.len c.buffered
    let moved := min c.backlog (262144 - left)
    let c' := if write then { c with queue := rest, buffered := left + moved, backlog := c.backlog - moved }
      else { c with queue := rest, outstanding := c.outstanding ++ [b] }
    c ∈ s.porch.contenders ∧ mine c ∧
    (∀ d ∈ s.porch.contenders, mine d → (c.time s).getD 0 < (d.time s).getD 0 ∨ (c.time s = d.time s ∧ c.num ≤ d.num)) ∧
    ((∀ l ∈ held, ¬write ∧ l ∈ s.cxl.answered) → Completes (.memoryPortGrant port) s fun t => aget 0 t.porch.granted port = c.num + 1 ∧
      t.porch.contenders = s.porch.contenders.map (fun d => if d.num = c.num then c' else d) ∧ t.porch.streams = s.porch.streams ∧
      t.porch.owed = (if port = 32 then s.porch.owed - 1 else s.porch.owed) ∧ s.sameBut [.porch, .cxl] t) ∧
    ((∃ l ∈ held, write ∨ l ∉ s.cxl.answered) → Completes (.memoryPortGrant port) s fun t =>
      t.porch = { s.porch with owed := if port = 32 then s.porch.owed - 1 else s.porch.owed } ∧ s.sameBut [.porch, .cxl, .meter] t)) ∧
  (∀ s : State, s.porch.owed = 0 → s.exportWaits = true → Completes (.memoryPortGrant 32) s fun t =>
    t.porch = { s.porch with owed := 7 } ∧ s.sameBut [.porch, .ex, .sent] t) ∧
  (∀ (s : State) (thread taken ecc sec : Nat) (c : Contender) (b : Burst) (rest : List Burst) (o : Op),
    s.porch.contenders.find? (fun d => d.num == thread && decide (thread < 512)) = some c → c.outstanding = b :: rest →
    s.opAt c.station = some o → o.parts ≠ [] →
    let n := sec % max 1 b.src.length
    let c' := { c with outstanding := rest, buffered := c.buffered + b.len - min taken (c.buffered + b.len) }
    let old := o.buf.filter fun e => !(e.isB == b.isB && e.tile == b.tile && b.src.contains (e.space, e.sector))
    let come : Option Nat → State → Prop := fun lost t =>
      t.porch.contenders = (s.porch.contenders.map fun d => if d.num = c.num then c' else d) ∧
      t.lb.ops = s.opsWith o { o with buf := old ++ s.bufSectors b lost } ∧
      s.bytesSame .larder (b.copyTo.getD 0) (if b.copyTo.isSome then 32 * b.src.length else 0) t ∧
      ∀ a, b.copyTo = some a → ∀ i < b.src.length, t.rd .larder (a + 32 * i) 32 = s.rd b.space (b.addr + 32 * i) 32
    (ecc = 0 ∨ 4 < ecc → Completes (.burstArrival thread taken ecc sec) s fun t =>
      come none t ∧ s.sameBut [.larder, .lb, .porch] t) ∧
    (ecc = 1 → Completes (.burstArrival thread taken ecc sec) s fun t =>
      come none t ∧ s.counted [(Ctr.porchBufCe, 1)] t ∧ s.sameBut [.larder, .meter, .lb, .porch] t) ∧
    (ecc = 2 → Completes (.burstArrival thread taken ecc sec) s fun t =>
      come (some n) t ∧ s.counted [(Ctr.porchBufUe, 1)] t ∧ Bell.memUe ∈ t.bell.level ∧ t.odv (okey 0x0B300 1) = 4) ∧
    (ecc = 3 → b.space ≠ .host → b.addr % 32 = 0 → Completes (.burstArrival thread taken ecc sec) s fun t =>
      come (some n) t ∧ Bell.memUe ∈ t.bell.level ∧ t.odv (okey 0x0B300 1) = memKind b.space ∧
      t.odv (okey 0x0B300 2) = b.addr + 32 * n) ∧
    (ecc = 4 → b.space ≠ .host → Completes (.burstArrival thread taken ecc sec) s fun t => come none t ∧
      s.counted [(match b.space with | .attic => Ctr.atticCe | .cellar => Ctr.cellarCe | _ => Ctr.larderCe, 1)] t ∧
      s.sameBut [.larder, .meter, .lb, .porch] t))

/-- While fewer than two of its tiles wait for the Landing and the next one's operands are delivered, a slot's letter
ends that tile: for a room-side letter the tile's rows line up for the Landing, in order, each with what its program
computes from the row (for a program whose letter names no row arrays, which writes no memory), and a store error of the
benches is counted. The outlier benches end a tile of a letter with side lists: one more tile is complete, its products
and the Landing's wait are counted. (R268, R271, R272, R277, R278, R285) -/
def Obligations.WorkshopTilesEnd : Prop :=
  (∀ (s : State) (slot ecc : Nat) (o : Op) (p : Part) (i r0 n : Nat),
    let v := (s.viewOf o false o.wsNext).viewOf o true o.wsNext
    s.opAt (2 + slot) = some o → wsTileAt o.parts 0 o.wsNext = some (i, r0, n) → o.parts[i]? = some p → o.started = true →
    o.tilesWaiting < 2 → s.visitAwaited o o.wsNext = false → (∀ e ∈ wsDelivered v p r0 n, e.badWidth = false) →
    rowCycles s p ≤ capIn o.captain K.rowBudget → Completes (.workshopTileDone slot ecc) s fun t =>
      let plain : Prop := p.rowArr 0 = none ∧ p.rowArr 1 = none
      ∃ rows, t.lb.ops = s.opsWith o { o with wsNext := o.wsNext + 1, wsRows := o.wsRows ++ rows, buf := o.buf.filter fun e => decide (o.wsNext < e.tile) } ∧
        rows.map (fun w => (w.part, w.row)) = (if p.letter.route = 5 then [] else (List.range n).map fun j => (i, r0 + j)) ∧
        (plain → p.letter.route ≠ 5 → ecc ≠ 2 →
          rows.map (·.vals) = (List.range n).map fun j => (wsRowOut v p (r0 + j) (rowA v p (r0 + j))).d) ∧
        (ecc = 1 → t.ctr Ctr.wsStoreCe = (s.ctr Ctr.wsStoreCe + 1) % 2 ^ 64) ∧
        (ecc = 2 → t.ctr Ctr.wsStoreUe = (s.ctr Ctr.wsStoreUe + 1) % 2 ^ 64) ∧
        s.sameBut [.attic, .cellar, .larder, .host, .od, .meter, .freeCtr, .lb, .porch, .ws, .bell] t ∧
        (plain → p.letter.route ≠ 5 → ecc ≠ 2 → s.sameBut [.meter, .lb, .porch, .ws] t)) ∧
  (∀ (s : State) (back : Bool) (wait : Nat) (o : Op) (r : RoomRun),
    s.lb.ops.find? (fun x => x.station == (if back then 1 else 0) && x.hasLists && x.started && x.error == 0 && !x.replayWaiting
      && decide (x.outDone < x.tiles)) = some o → o.room = some r → o.parts ≠ [] → Completes (.outlierProductsDone back wait) s fun t =>
      t.lb.ops = s.opsWith o { o with outDone := o.outDone + 1 } ∧
      s.counted [(Ctr.wsOutProducts, outlierCount s o r o.outDone), (Ctr.wsOutWait, wait)] t ∧ s.sameBut [.meter, .lb] t)

/-- A bench that takes more cycles than WS_ROW_BUDGET over a letter's row, or traps in it, ends that letter with
WS_FAULT; WS_FAULT's record names the cause, bench, program, queue and letter, the bench is reset and its store empty,
and the event is counted and raised. A fault of a bench reserved for outlier work marks the tile, records queue
0xFFFFFFFF and the letter's sequence number, and stops no letter. WS_LIB_LOAD starts the load of an image that verifies
and refuses another with SIGNATURE, and with the event WS_LIB_FAIL when no library is active. The library is ready when
neither Workshop nor outlier work runs, and a new reservation is in force when no letter runs in the Workshop. (R262,
R277, R279, R284, R286, R287) -/
def Obligations.BenchesFaultAndLoad : Prop :=
  ∀ s : State,
    let dieOf : Nat → Nat := fun bench => bench / 192
    let recorded : Nat → Nat → State → Prop := fun cause bench t =>
      t.odv (wsFaultKey 1) = cause ∧ t.odv (wsFaultKey 2) = bench ∧ aget (2 ^ 64) t.ws.benchReset bench = s.tick ∧
      aget [] t.ws.store bench = [] ∧ Bell.wsFault ∈ t.bell.level ∧ s.counted [(Ctr.wsFaults, 1)] t
    let inRow : Nat → Op → Part → Prop := fun bench o p =>
      bench < 384 ∧ s.benchResetting bench = false ∧ bench % 192 < s.slotBenches (dieOf bench) ∧ s.opAt (2 + dieOf bench) = some o ∧
      o.room = none ∧ o.started = true ∧ s.noReplays o.target ∧
      ∃ i r0 n, wsTileAt o.parts 0 o.wsNext = some (i, r0, n) ∧ o.parts[i]? = some p
    let ended : Nat → Nat → Op → Part → State → Prop := fun cause bench o p t =>
      recorded cause bench t ∧ t.lb.ops = s.opsWith o { o with error := Err.wsFault } ∧ t.odv (wsFaultKey 3) = p.letter.prog % 4096 ∧
      t.odv (wsFaultKey 4) = p.queue ∧ t.odv (wsFaultKey 5) = p.seq ∧ s.sameBut [.od, .ws, .meter, .bell, .lb, .porch] t
    let inList : Nat → (Op → Bool) → Op → Prop := fun bench long o =>
      bench < 384 ∧ s.benchResetting bench = false ∧ s.slotBenches (dieOf bench) ≤ bench % 192 ∧
      s.lb.ops.find? (fun x => x.station == dieOf bench && x.hasLists && x.started && x.error == 0 && decide (x.outDone < x.tiles) && long x) = some o
    let marked : Nat → Nat → Op → Part → State → Prop := fun cause bench o p t =>
      recorded cause bench t ∧ t.lb.ops = s.opsWith o { o with outFaults := sadd o.outFaults o.outDone } ∧
      t.odv (wsFaultKey 4) = 0xFFFFFFFF ∧ t.odv (wsFaultKey 5) = p.seq ∧ s.sameBut [.od, .ws, .meter, .freeCtr, .bell, .lb] t
    (∀ bench cycles o p, inRow bench o p → capIn o.captain K.rowBudget < cycles → Completes (.benchWatchdog ⟨bench, cycles⟩) s (ended 1 bench o p)) ∧
    (∀ bench o p, inRow bench o p → Completes (.benchTrap bench) s (ended 2 bench o p)) ∧
    (∀ bench cycles o p l, o.parts = p :: l → inList bench (fun x => decide (capIn x.captain K.rowBudget < cycles)) o →
      Completes (.benchWatchdog ⟨bench, cycles⟩) s (marked 1 bench o p)) ∧
    (∀ bench o p l, o.parts = p :: l → inList bench (fun _ => true) o → Completes (.benchTrap bench) s (marked 2 bench o p)) ∧
    (∀ w data, s.WriteToContent w 0x04062 0 data → s.imgVerifies 3 (s.domain K.libImage) = true → Completes (.wsLibLoad w data) s fun t =>
      t.odv K.libState = 2 ∧ t.ws = { s.ws with loading := some (s.domain K.libImage) } ∧
      s.odSame [K.libState] t ∧ s.served w t ∧ s.sameBut [.od, .ws, .meter, .sent] t) ∧
    (∀ w data, s.WriteToContent w 0x04062 0 data → s.imgVerifies 3 (s.domain K.libImage) = false → Completes (.wsLibLoad w data) s fun t =>
      s.answers w Abort.signature t ∧ s.sameBut [.meter, .sent, .bell] t ∧
      (s.odv K.libState = 0 → Bell.wsLibFail ∈ t.bell.level) ∧ (s.odv K.libState ≠ 0 → t.bell = s.bell)) ∧
    (∀ img, s.ws.loading = some img → s.wsRunning = false → Completes .libInstallDone s fun t => t.odv K.libState = 1 ∧
      t.ws.loading = none ∧ t.ws.tables = (List.range 16).map (imageTable img) ∧ t.odv K.libVersion = Config.imageField 1 img % 2 ^ 16 ∧
      t.odv K.libPrograms = t.ws.progs.length ∧ t.sec = { s.sec with libActive := img } ∧
      s.odSame [K.libState, K.libVersion, K.libPrograms] t ∧ s.sameBut [.od, .ws, .sec] t) ∧
    ((∀ o ∈ s.lb.ops, o.target = .workshop → o.roomBusy = true → o.error ≠ 0) → Completes .outlierReservationApply s fun t =>
      t.ws = { s.ws with reserved0 := s.cap K.outlierBenches, reserved1 := s.cap K.outlierBenches } ∧ s.sameBut [.ws] t)

/-- Whatever the SAT option and the rounding mode: a NaN converts to 0 and an infinity to ±127, both NONFINITE. A finite
value of magnitude n/d converts to its nearest integer, ties to even, clamped to −127 to +127; a clamped element is
SATURATED, one that becomes 0 without being 0 UNDERFLOW, any other ordinary. (R48) -/
def Obligations.Int8ConversionSaturates : Prop :=
  ∀ (sat : Bool) (m : Num.Rounding) (neg : Bool),
    let sgn : Int → Int := fun i => if neg then -i else i
    convertElem 6 sat m (.nan neg) = (0, .nonfinite) ∧ convertElem 6 sat m (.inf neg) = (unsigned 8 (sgn 127), .nonfinite) ∧
    ∀ n d : Nat, 0 < d → ∃ q : Nat, 2 * q * d ≤ 2 * n + d ∧ 2 * n ≤ 2 * q * d + d ∧
      (2 * q * d = 2 * n + d ∨ 2 * n = 2 * q * d + d → q % 2 = 0) ∧
      convertElem 6 sat m (.fin neg n d) =
        (unsigned 8 (sgn (min q 127 : Nat)), if 127 < q then .saturated else if q = 0 ∧ n ≠ 0 then .underflow else .ordinary)

/-- Every command completes from every state, the queue of waiting commands stays as it is, and so does every part of
the state that is not among those the command can reach: a write of Glazia's registers by one of its words leaves the
Letterbox, the memories, the dictionary and all else alone, a doorbell leaves the memories alone, and so for each of the
194 commands. (01, 02, 03, 04, 05, 06, 07, 08, 11, 12, 13, 15) -/
def Obligations.CommandsKeepOtherParts : Prop :=
  ∀ (i : Instr) (s : State), Completes i s fun t => s.sameBut i.reaches t

/-- The head letter of Glazia's route, chosen and with Glazia free: OPEN, with the checks of letters, state, bank and
groups passed and no export holding its bank, opens the update of its step with the captain set latched and nothing
covered, and completes; when an export holds the bank and the policy is to wait, it stays dispatched and EX_STATE says
so; when the policy is to skip, the update opens and no export holds the bank any more. PIECE with its grains in range
and uncovered is dispatched and its grains are dealt to the cores. CLOSE of a complete update closes it: the target bank
has NEXT_STEP s + 1 and STATUS 1 and becomes current after the letter's record. QUANT that passes its checks counts its
elements and completes. A letter of another program, an OPEN of a wrong state, bank or group, a PIECE out of range or
overlapping, a PIECE of a group whose record was lost, a CLOSE of an incomplete update and a QUANT that fails a check
fail with their error and halt their queue. (R189, R354, R355, R356, R357, R361, R371, R374, R377, R381) -/
def Obligations.GlaziaLettersRun : Prop :=
  ∀ (s : State) (q : Nat) (c : QCtx) (l : Letter), s.HeadIs q c l → s.awake [4, 12] → l.route = 0x18 → s.chosen q .glazia = true →
    s.freeSlot .glazia = some 0 →
    let late := s.isLate (s.deadlineOf c)
    let prog := l.prog % 4096
    let b := s.openTarget l.step
    let openErr := firstErr (gzChecks s c l ++ [(s.odv K.gzState == 1, Err.gzState), (s.gzBankBad l.step, Err.gzBank), (s.gzTableBad, Err.gzGroup)])
    let n := bits l.param0 0 12
    let bank := (s.odv K.gzStep + 1) % max 1 (s.odv K.bankCount)
    let keys := (List.range (bits l.param1 0 32)).map fun i => gzKey n (bits l.param0 32 32 + i)
    let ok := firstErr (gzChecks s c l) = none
    let fails : Nat → State → Prop := fun e t =>
      t.queueCore q = some { c.sent late with
        st := .halted, errSeq := c.head, lastError := e, haltedOn := c.haltedOn ++ [c.head],
        done := if c.done = c.head then (c.done + 1) % 2 ^ 32 else c.done } ∧
      (∀ j, j ≠ q → t.queueCore j = s.queueCore j) ∧ t.lb.ops = s.lb.ops ∧
      t.ctr Ctr.lbDispatched = (s.ctr Ctr.lbDispatched + 1) % 2 ^ 64 ∧
      (c.done = c.head → t.ctr Ctr.lbErrors = (s.ctr Ctr.lbErrors + 1) % 2 ^ 64 ∧ c.notifySrc ∈ t.bell.level ∧
        (s.crReach c → t.record c c.head = (immediate c c.head e l late s.tick).mainWord c s.tick % 2 ^ 256))
    (prog = 1 → openErr = none → s.exportHolds b = false → Completes (.openUpdate q) s fun t =>
      s.completedNow q c l (c.sent late) t ∧ t.odv K.gzState = 1 ∧ t.odv K.gzStep = l.step ∧ t.gz.waiting = none ∧
      t.gz.covered = [] ∧ t.gz.partials = [] ∧ t.gz.badGroups = [] ∧ t.gz.latched = t.captain) ∧
    (prog = 1 → openErr = none → s.exportHolds b = true → s.cap K.exOverrun = 0 → Completes (.openUpdate q) s fun t =>
      s.launched q c l .glazia 0 t ∧ t.gz.waiting = some (q, c.head) ∧ t.odv K.exState = 2 ∧ t.odv K.gzState = s.odv K.gzState ∧
      t.ctr Ctr.exOverruns = (s.ctr Ctr.exOverruns + 1) % 2 ^ 64 ∧ Bell.exportLate ∈ t.bell.level) ∧
    (prog = 1 → openErr = none → s.exportHolds b = true → s.cap K.exOverrun ≠ 0 → Completes (.openUpdate q) s fun t =>
      t.odv K.gzState = 1 ∧ t.odv K.gzStep = l.step ∧ t.gz.waiting = none ∧ t.exportHolds b = false ∧
      t.ctr Ctr.exOverruns = (s.ctr Ctr.exOverruns + 1) % 2 ^ 64 ∧ Bell.exportLate ∈ t.bell.level ∧
      ∀ j, s.ex.job = some j → j.kind ≠ 2 → j.bank = b → j.begun = true → t.ex.forceFull = true) ∧
    (∀ e, prog = 1 → openErr = some e → e ∈ [Err.gzState, Err.gzBank, Err.gzGroup] → Completes (.openUpdate q) s (fails e)) ∧
    (prog = 2 → ok → s.gzPieceErr l = none → n ∉ s.gz.badGroups → Completes (.piece q) s fun t => s.launched q c l .glazia 0 t ∧
      t.gz.busy = keys ∧ t.gz.covered = s.gz.covered ∧
      (s.gz.cores.length = 8 → (s.gzCore 0).grain = none → bits l.param0 32 32 < 2 ^ 20 → (t.gzCore 0).grain = some (n, bits l.param0 32 32))) ∧
    (prog = 2 → ok → s.gzPieceErr l = none → n ∈ s.gz.badGroups → Completes (.piece q) s fun t => fails Err.gzGroup t ∧ t.odv K.gzState = 0) ∧
    (∀ e, prog = 2 → ok → s.gzPieceErr l = some e → Completes (.piece q) s (fails e)) ∧
    (prog = 3 → ok → s.odv K.gzState ≠ 0 → s.gz.badGroups = [] → s.gzIncomplete = false → Completes (.close q) s fun t =>
      s.completedNow q c l (c.sent late) t ∧ t.odv K.gzState = 0 ∧ t.ctr Ctr.gzUpdates = (s.ctr Ctr.gzUpdates + 1) % 2 ^ 64 ∧
      (c.done = c.head → t.odv K.bankCurrent = bank) ∧
      (c.done ≠ c.head → t.odv K.bankCurrent = s.odv K.bankCurrent ∧ t.gz.closing = some ((q, c.head), bank)) ∧
      (c.crSpace ≠ .cellar → s.odv K.gzStep + 1 < 2 ^ 64 → t.bankNextStep bank = s.odv K.gzStep + 1 ∧ t.bankStatus bank = 1)) ∧
    (prog = 3 → ok → s.odv K.gzState ≠ 0 → s.gz.badGroups ≠ [] → Completes (.close q) s fun t => fails Err.gzGroup t ∧ t.odv K.gzState = 0) ∧
    (prog = 3 → ok → s.odv K.gzState ≠ 0 → s.gz.badGroups = [] → s.gzIncomplete = true → Completes (.close q) s (fails Err.gzIncomplete)) ∧
    (prog = 4 → s.quantErr c l (readSlot s l.slotA) (readSlot s l.slotD) = none → (s.odv K.gzState = 1 → n ∉ s.gz.badGroups) →
      Completes (.quant q) s fun t => s.completedNow q c l (c.sent late) t ∧ ∀ x ∈ s.quantGroup n,
        t.ctr Ctr.gzQuantElements = (s.ctr Ctr.gzQuantElements + x.1.elems) % 2 ^ 64) ∧
    (∀ e, prog = 4 → s.quantErr c l (readSlot s l.slotA) (readSlot s l.slotD) = some e → Completes (.quant q) s fun t =>
      if (0x58 ≤ e ∧ e ≤ 0x5E) ∨ (0x68 ≤ e ∧ e ≤ 0x6B) ∨ e = Err.badScale then fails e t else s.failedWith q c l e t) ∧
    (¬(1 ≤ prog ∧ prog ≤ 4) → (ok → Completes (.gzUnknownProg q) s (fails Err.gzState)) ∧
      ∀ e, firstErr (gzChecks s c l) = some e → Completes (.gzUnknownProg q) s fun t => s.failedWith q c l e t)

/-- When the next word of a core that treats a grain of an unfrozen group is the one a command names: an arithmetic word
whose operands are all scalar puts its FP32 result into its scalar register; any other puts, for each element of the
core's vector, the result of that element's lanes into its lane register, poisoned when an operand lane is. LD puts the
stream's value of each element into the lanes, an error it meets being counted and, if uncorrectable, poisoning a
sector's lanes, ST stages a register for a state slot, SPOWI raises a scalar to the step's power, BODY does nothing
else. The first word of a body run has the core read its vector's inputs. Every word moves the core on by one word and
changes no other register or core. (R344, R345, R346, R361, R362, R364, R377) -/
def Obligations.GlaziaWordsCompute : Prop :=
  ∀ (s : State) (core n gr : Nat) (g : GzGroup) (w : GzWord), s.gzNext core = some (n, g, gr, w) →
    let c := s.gzLoaded core n g gr
    let r := s.gzRegs core n
    let xs := c.inputs.take 64
    let others : State → Prop := fun t =>
      (∀ k, k ≠ core → t.gzCore k = s.gzCore k) ∧ ∀ k m, (k ≠ core ∨ m ≠ n) → t.gzRegs k m = s.gzRegs k m
    let next : State → Prop := fun t => t.gzCore core = { c with pc := c.pc + 1 } ∧ s.sameBut [.gz] t ∧ others t
    let one (f : F32 → F32) : F32 → F32 → F32 → Nat → F32 := fun a _ _ _ => f a
    let two (f : F32 → F32 → F32) : F32 → F32 → F32 → Nat → F32 := fun a b _ _ => f a b
    let words : List (Instr × Nat × (F32 → F32 → F32 → Nat → F32)) :=
      [(.add core, 0x01, two fun a b => f32rnd ((f32val a).add (f32val b))), (.sub core, 0x02, two fun a b => f32rnd ((f32val a).sub (f32val b))),
       (.mul core, 0x03, two fun a b => f32rnd ((f32val a).mul (f32val b))),
       (.fma core, 0x04, fun a b c _ => f32rnd (Machine.Num.fma (f32val a) (f32val b) (f32val c))),
       (.lerp core, 0x05, fun a b c _ => f32rnd (Machine.Num.fma (f32val c) (f32val (f32rnd ((f32val b).sub (f32val a)))) (f32val a))),
       (.min core, 0x06, two f32minIeee), (.max core, 0x07, two f32maxIeee), (.abs core, 0x08, one fun a =>
          if (f32val a).isNaN then f32rnd (f32val a) else BitVec.ofNat 32 (a.toNat % 2 ^ 31)),
       (.div core, 0x09, two f32div), (.sqrt core, 0x0A, one fun a => sqrtF32 (f32val a)),
       (.sel core, 0x0B, fun a b c _ => let x := if (f32val c).lt Machine.Num.zero then a else b
          if (f32val x).isNaN then f32rnd (f32val x) else x),
       (.cvtsr core, 0x12, fun a _ _ k => f32rnd (bf16.decode (bf16.convert false (.stochastic k) (f32val a)).1)),
       (.cvtbf core, 0x13, one fun a => f32rnd (bf16.decode (bf16.rnd (f32val a))))]
    let lanesOf (xs : List GzIn) (v : Nat → GzIn → F32 × Bool) (t : State) : Prop := (∀ k, (t.gzRegs core n).s k = r.s k) ∧
      ∀ k i, i < 64 → (t.gzRegs core n).v k i = if k = w.d then (match xs[i]? with | some x => v i x | none => r.v k i) else r.v k i
    let lanes := lanesOf xs
    (∀ x ∈ words, w.op = x.2.1 →
      (w.isScalar = true → Completes x.1 s fun t => next t ∧ (t.gzRegs core n).lanes = r.lanes ∧
        ∀ k, (t.gzRegs core n).s k = if k = w.d then x.2.2 (r.s w.a) (r.s w.b) (r.s w.c) 0 else r.s k) ∧
      (w.isScalar = false → Completes x.1 s fun t => next t ∧ lanes (fun i x' =>
        let a := r.operand w.a i w.aS
        let b := if gzArity w.op < 2 then ((0 : F32), false) else r.operand w.b i w.bS
        let d := if gzArity w.op < 3 then ((0 : F32), false) else r.operand w.c i w.cS
        let k := srWord (capIn s.gz.latched K.srSeed) 3 0 g.tensorId (s.odv K.gzStep) (g.globalBase + x'.elem)
        (x.2.2 a.1 b.1 d.1 k, a.2 || b.2 || d.2)) t)) ∧
    (∀ ecc sec, w.op = 0x10 →
      let value : Nat → GzIn → F32 × Bool := fun _ x => s.gzStream g w.a x
      let lost := gzLose w.a sec c.inputs
      (ecc ≠ 1 → ecc ≠ 2 → Completes (.ld ⟨core, ecc, sec⟩) s fun t => next t ∧ lanes value t) ∧
      (ecc = 1 → Completes (.ld ⟨core, ecc, sec⟩) s fun t => t.gzCore core = { c with pc := c.pc + 1 } ∧ others t ∧ lanes value t ∧
        s.counted [(Ctr.gzMemCe, 1)] t ∧ s.sameBut [.gz, .meter] t) ∧
      (ecc = 2 → c.inputs ≠ [] ∨ s.gzInBody (s.gzCore core) g = false → Completes (.ld ⟨core, ecc, sec⟩) s fun t =>
        t.gzCore core = { c with pc := c.pc + 1, inputs := lost } ∧ others t ∧ lanesOf (lost.take 64) value t ∧
        t.ctr Ctr.gzMemUe = (s.ctr Ctr.gzMemUe + 1) % 2 ^ 64 ∧ Bell.memUe ∈ t.bell.level ∧
        s.sameBut [.od, .meter, .freeCtr, .gz, .bell] t)) ∧
    (w.op = 0x11 → Completes (.st core) s fun t => s.sameBut [.gz] t ∧ t.gzRegs core n = r ∧ t.gzCore core = { c with
      pc := c.pc + 1
      staged := c.staged.filter (fun x => x.1 != w.a) ++ [(w.a, (List.range xs.length).map fun i =>
        ((r.operand w.b i w.bS).1.toNat, (r.operand w.b i w.bS).2))] }) ∧
    (w.op = 0x20 → Completes (.spowi core) s fun t => next t ∧ (t.gzRegs core n).lanes = r.lanes ∧
      ∀ k, (t.gzRegs core n).s k = if k = w.d then spowi (r.s w.a) (r.s 16) else r.s k) ∧
    (w.op = 0x1E → Completes (.body core) s fun t => t.gzCore core = { s.gzCore core with pc := (s.gzCore core).pc + 1 } ∧ s.sameBut [.gz] t ∧ others t ∧
      t.gzRegs core n = r)

/-- COMMIT counts the vector's elements and moves the core to the rule's body and the next vector with nothing staged.
In a group of one state slot, the target bank then holds for each element what the vector's inputs give from the source
bank, when the element is kept or nothing is staged, else the staged value as the slot stores it. The end of a core's
last vector of a grain, or of a frozen grain, covers the grain, counts the cycles, gives the core the next waiting
grain, and, with the last grain of the PIECE, ends the letter; when it completes the coverage of an unfrozen group, the
group's amax is written. A rule image without a fault is installed by GLAZIA_RULE_LOAD, a faulty one refused. (R345,
R348, R359, R363, R364, R365, R366, R367, R374, R377) -/
def Obligations.VectorsCommitAndGrainsEnd : Prop :=
  (∀ (s : State) (core n gr : Nat) (g : GzGroup) (w : GzWord), s.gzNext core = some (n, g, gr, w) → w.op = 0x1F →
    let c := s.gzLoaded core n g gr
    let es := gzElems g gr c.vec
    Completes (.commit core) s fun t => t.ctr Ctr.gzElements = (s.ctr Ctr.gzElements + es.length) % 2 ^ 64 ∧
      (t.gzCore core).vec = c.vec + 1 ∧ (t.gzCore core).pc = (gzRule s.gzWord g.rule).body + 1 ∧ (t.gzCore core).staged = [] ∧ (t.gzCore core).inputs = [] ∧
      (t.gzCore core).grain = some (n, gr) ∧ s.sameBut [.cellar, .meter, .gz, .bell] t ∧
      ∀ x, g.slots = [x] → ∀ i inp v vs, c.inputs[i]? = some inp → inp.slots = v :: vs →
        let kept := (s.gzLane g c inp i).kept
        let staged := (c.staged.find? fun y => y.1 == 1).bind fun y => y.2[i]?
        let now := t.rd .cellar (s.gzDst + x.offset + (gr * 65536 + c.vec * 64 + i) * x.bytes) x.bytes
        (inp.kept ≠ 0 → kept = inp.kept) ∧ (kept ≠ 0 ∨ staged = none → now = v.1 % 2 ^ (8 * x.bytes)) ∧
        (kept = 0 → ∀ y, staged = some y → now = (gzStore x (s.gzGear g) (BitVec.ofNat 32 y.1)).1 % 2 ^ (8 * x.bytes))) ∧
  (∀ (s : State) (core cycles mem n gr : Nat), core < 8 → (s.gzCore core).grain = some (n, gr) →
    (s.gzFrozen n = false → gzVectors (s.gzGroupAt n) gr ≤ (s.gzCore core).vec) →
    Completes (.grainDone core cycles mem) s fun t => gzKey n gr ∈ t.gz.covered ∧ (∀ k ∈ s.gz.covered, k ∈ t.gz.covered) ∧
      t.gz.busy = sdel s.gz.busy (gzKey n gr) ∧ t.ctr Ctr.gzBusy = (s.ctr Ctr.gzBusy + cycles) % 2 ^ 64 ∧
      (s.gz.todo = [] → (t.gzCore core).grain = none) ∧
      (mem = 1 → t.ctr Ctr.gzMemCe = (s.ctr Ctr.gzMemCe + 1) % 2 ^ 64) ∧
      (mem = 3 → n ∈ t.gz.badGroups) ∧
      (t.gz.busy ≠ [] → t.lb.ops = s.lb.ops ∧ (s.gzFrozen n = false →
        (∀ k, k < (s.gzGroupAt n).grains → k = gr ∨ gzKey n k ∈ s.gz.covered) → t.rd .attic (s.gzGroupAt n).amaxAddr 4 = aget 0 s.gz.amax n % 2 ^ 32)) ∧
      (t.gz.busy = [] → ∀ o ∈ s.gzOp, o.parts ≠ [] → t.lb.ops = s.lb.ops.filter fun x => !x.isSame o)) ∧
  (∀ (s : State) (w : Way) (data : List Byte), s.WriteToContent w 0x06021 0 data → Completes (.glaziaRuleLoad w data) s fun t =>
    let img := s.domain K.gzImage
    (gzImageBad img = false → (∀ i, i < 16384 → t.gzWord i = imageWord img i) ∧ s.odSame [K.gzPresent] t ∧ s.served w t ∧
      (∀ r, r < 16 → bit (t.odv K.gzPresent) r = decide ((gzRule (imageWord img) r).len ≠ 0)) ∧ s.sameBut [.od, .gz, .meter, .sent] t) ∧
    (gzImageBad img = true → s.answers w Abort.imageInvalid t ∧ s.sameBut [.meter, .sent] t))

/-- The head letter of the Peloton's route, chosen and with a slot free: it fails with the first error its checks give,
or, chosen, with BAD_SCALE when a tensor scale of its is bad; with none, and its reservation of the inbox free, it
leaves its queue, is dispatched to the slot and runs there with the members that are not DEAD. A ring round or tree
level that starts is the next one; a ring round of REDUCE_SCATTER towards a member that is not live leaves that member's
chunks unsent and counts them. A chunk's deadline comes no earlier than its time, and settles a chunk none of whose
inputs has begun. A frame whose TAG is not dispatched in 1 s is discarded, counted, and its credit goes back. (R205,
R206, R393, R394, R397, R398, R404, R406, R416, R589) -/
def Obligations.CollectivesBeginAndAdvance : Prop :=
  (∀ (s : State) (q slot op : Nat) (c : QCtx) (l : Letter) (cmd : Instr),
    (op, cmd) ∈ [(1, Instr.reduceScatter q), (2, .allGather q), (3, .broadcast q), (4, .allToAll q)] → s.HeadIs q c l → s.awake [4, 11] →
    l.route = 0x10 → l.prog % 16 = op → s.chosen q .peloton = true → s.freeSlot .peloton = some slot →
    let a := readSlot s l.slotA
    let d := readSlot s l.slotD
    let st := readSlot s l.slotS
    let r := mkRun s c l a d st slot
    let v := firstErr (checks123 c l ++ checks4to8 s c l a (noSlot s) d st ++ [(globalBad a (noSlot s) d st, Err.globalSize)]
      ++ checks11to12 s l a (noSlot s) d st ++ collectiveChecks s l r)
    (∀ e, v = some e → Completes cmd s fun t => s.failedWith q c l e t) ∧
    (v = none → r.reservation ≤ s.inboxFree → plScaleBad s r = true → Completes cmd s fun t =>
      t.queueCore q = some { c.sent (s.isLate (s.deadlineOf c)) with
        st := .halted, errSeq := c.head, lastError := Err.badScale, haltedOn := c.haltedOn ++ [c.head],
        done := if c.done = c.head then (c.done + 1) % 2 ^ 32 else c.done } ∧
      (∀ j, j ≠ q → t.queueCore j = s.queueCore j) ∧ t.lb.ops = s.lb.ops ∧ t.pel.runs = s.pel.runs ∧
      t.ctr Ctr.lbDispatched = (s.ctr Ctr.lbDispatched + 1) % 2 ^ 64) ∧
    (v = none → r.reservation ≤ s.inboxFree → plScaleBad s r = false → (∀ x ∈ s.pel.runs, x.slot ≠ slot) →
      (∀ x ∈ s.lb.ops, x.target = .peloton → x.slot ≠ slot) → (∀ x ∈ s.lb.ops, ∀ p ∈ x.parts, ¬(p.queue = q ∧ p.seq = c.head)) →
      Completes cmd s fun t => t.queueCore q = some (c.sent (s.isLate (s.deadlineOf c))) ∧ (∀ j, j ≠ q → t.queueCore j = s.queueCore j) ∧
        (∃ o ∈ t.lb.ops, o.target = .peloton ∧ o.slot = slot ∧ o.captain = s.captain ∧ o.error = 0 ∧
          o.parts.map (fun p => (p.queue, p.seq, p.letter)) = [(q, c.head, l)]) ∧
        ∃ x ∈ t.pel.runs, x.slot = slot ∧ x.queue = q ∧ x.seq = c.head ∧ x.op = op ∧ x.group = r.group ∧ x.tag = r.tag ∧ x.live = r.live ∧
          x.round = 0 ∧ x.reserve = r.reservation)) ∧
  (∀ (s : State) (slot : Nat) (r : PlRun), s.plRun slot = some r → r.round < r.rounds →
    (∀ place k d es, r.partPlaces true place k = some (d, es) → (partDelivery (s.plView r) d es).2 = false) → Completes (.ringRoundStart slot) s fun t =>
    ∃ r', t.plRun slot = some r' ∧ r'.round = r.round + 1 ∧ r'.op = r.op ∧ r'.live = r.live ∧
      (r.op = 1 → r.tree = false → let o := (r.me + r.round + 1) % max 1 r.members
        r.isLive o = false → r'.tally.orphans = r.tally.orphans + r.chunks o)) ∧
  (∀ (s : State) (slot owner chunk level t0 : Nat) (r : PlRun) (u : PlUnit), s.plRun slot = some r → r.unit? owner chunk level = some u →
    u.start = some t0 → u.done = false →
    let waits : Nat → Prop := fun m => r.input? owner chunk level m = none ∧ m ∉ r.gone ∧ (level = 3 ∨ aget 0 r.grants m ≠ 0)
    let time : Nat → Nat := fun m => max t0 (aget 0 r.grants m - 1) + usTicks (capIn r.captain K.plDeadlineUs)
    (∀ m ∈ u.sources, waits m → time m < 2 ^ 64) → Completes (.chunkDeadline slot owner chunk level) s fun t => s.tick ≤ t.tick ∧ (∀ m ∈ u.sources, waits m → time m ≤ t.tick) ∧
      (t.tick = s.tick ∨ ∃ m ∈ u.sources, waits m ∧ t.tick = time m) ∧
      ((∀ m ∈ u.sources, waits m) → (level = 3 ∨ u.own ≠ none) → (level = 3 → r.op ≠ 1) → ∃ r' u', t.plRun slot = some r' ∧ r'.unit? owner chunk level = some u' ∧ u'.done = true)) ∧
  (∀ (s : State) (slot : Nat),
    let due : Nat → Nat := fun x => if s.tick < x + 25000000 then (x + 25000000) % 2 ^ 64 else s.tick
    (∀ f, s.pel.frames.find? (fun x => x.slot == slot) = some f → Completes (.tagDiscard slot) s fun t =>
      t.pel.frames = s.pel.frames.filter (fun x => x.slot != slot) ∧ t.tick = due f.tick ∧
      t.ctr Ctr.plTagDiscards = (s.ctr Ctr.plTagDiscards + 1) % 2 ^ 64 ∧
      let k := creditKey (fhGroup f.header) (fhSrc f.header)
      aget 0 t.pel.granted k = aget 0 s.pel.granted k + 1) ∧
    (∀ f, s.pel.frames.find? (fun x => x.slot == slot) = none → s.inboxSlots ≤ slot → s.pel.early[slot - s.inboxSlots]? = some f →
      Completes (.tagDiscard slot) s fun t => t.pel.early = s.pel.early.eraseIdx (slot - s.inboxSlots) ∧
        t.tick = due f.tick ∧ t.ctr Ctr.plTagDiscards = (s.ctr Ctr.plTagDiscards + 1) % 2 ^ 64 ∧ s.sameBut [.meter, .tick, .pel, .bell, .mtr] t))

/-- A contribution that arrives at a port that is UP, the engine clocked, lands in the lowest free slot of the inbox,
header and payload, and takes one of its source's credits; without a running or past letter of its TAG it waits there,
else it leaves the slot and reaches the letter, if its source is awaited and has not missed its deadline. A part before
its letter is held, after it counted as late. Late frames are gathered; a whole one is added to the carry of its chunk,
or dropped, and counted. A credit lets one more frame go to its member. A notice that names this module expels it and
stops the group's letters; of another member it makes that member DEAD; so do a UIO time-out and a completion error,
which also notify the rest. REJOIN makes a member LIVE with no misses, CLEAR_MISSES clears its misses. (R397, R402,
R403, R408, R409, R411, R413, R414, R415, R417, R537, R546) -/
def Obligations.PelotonFramesArrive : Prop :=
  ∀ s : State, s.awake [11] →
    let member : Nat → Nat → Nat := fun g m => s.member (s.groupTable g) m
    let own : Nat → Nat := fun g => s.cap (K.plGroup g 2)
    (∀ (port h : Nat) (b : List Byte) (pois : Bool), s.portUp port = true → s.insecure port = false →
      let g := fhGroup h
      let tag := fhTag h
      let k := creditKey g (fhSrc h)
      let here : State → Prop := fun t => t.ctr (Ctr.plReceived + port % 2) = (s.ctr (Ctr.plReceived + port % 2) + b.length) % 2 ^ 64
      let reaches : Bool → State → Prop := fun part t => ∀ r, s.runOf g tag = some r → s.plRun r.slot = some r →
        let x := r.locate part (fhPfmt h) (fhSrc h) (fhChunk h)
        ∀ u, r.unit? x.1 x.2.1 x.2.2 = some u → u.done = false → fhSrc h ∈ u.sources → fhSrc h ∉ r.gone → s.pastDeadline r u (fhSrc h) = false →
          ∃ r' i, t.plRun r.slot = some r' ∧ r'.input? x.1 x.2.1 x.2.2 (fhSrc h) = some i ∧ (fhFrame h, b) ∈ i.frames ∧ i.count = fhCount h
      (∀ n, s.freeInbox = some n → s.pel.voided = [] → Completes (.contrib port h b pois) s fun t => reaches false t ∧
        (s.runOf g tag = none → s.pel.hist.find? (fun r => r.group == g && r.tag == tag) = none →
          here t ∧ t.pel.frames = s.pel.frames ++ [{ slot := n, header := h, length := b.length, port := port % 2, tick := s.tick }] ∧
          aget 0 t.pel.granted k = aget 0 s.pel.granted k - 1 ∧ t.rdBytes .larder (s.slotAddr n) 32 = leBytes 32 h ∧
          t.rdBytes .larder (s.slotAddr n + 64) b.length = b ∧ s.sameBut [.larder, .meter, .pel] t)) ∧
      (s.freeInbox = none → Completes (.contrib port h b pois) s fun t => here t ∧ s.sameBut [.meter] t) ∧
      (Completes (.part port h b pois) s fun t => reaches true t ∧
        (s.runOf g tag = none → (g, tag) ∉ s.pel.ended → here t ∧ t.pel = { s.pel with early := s.pel.early ++ [⟨h, b, pois, port % 2, s.tick⟩] } ∧ s.sameBut [.meter, .pel] t) ∧
        (s.runOf g tag = none → (g, tag) ∈ s.pel.ended → here t ∧ s.sameBut [.meter] t ∧
          t.ctr Ctr.plLateDropped = if fhLast h then (s.ctr Ctr.plLateDropped + 1) % 2 ^ 64 else s.ctr Ctr.plLateDropped)) ∧
      (∀ r d, fhLast h = true → fhFrame h = 0 → pois = false →
        (∀ p ∈ s.pel.lates, ¬(p.1 = (g, tag) ∧ p.2.src = fhSrc h ∧ p.2.chunk = fhChunk h)) →
        s.pel.hist.find? (fun r => r.group == g && r.tag == tag) = some r → r.s = some d →
        let old := s.carryN r (fhChunk h)
        (r.proto = 0x30 ∨ capIn r.captain K.plLatePolicy = 0 ∨ r.chunks r.me ≤ fhChunk h ∨ 65535 < old + fhCount h + r.members →
          Completes (.lateFrame port h b pois) s fun t => here t ∧ t.ctr Ctr.plLateDropped = (s.ctr Ctr.plLateDropped + 1) % 2 ^ 64 ∧ s.sameBut [.meter] t) ∧
        (r.proto ≠ 0x30 → capIn r.captain K.plLatePolicy ≠ 0 → fhChunk h < r.chunks r.me → old + fhCount h + r.members ≤ 65535 → fhCount h ≠ 0 →
          d.space ≠ .host → Completes (.lateFrame port h b pois) s fun t => here t ∧ t.carryN r (fhChunk h) = old + fhCount h ∧
            t.ctr Ctr.plLateAdded = (s.ctr Ctr.plLateAdded + 1) % 2 ^ 64 ∧ s.sameBut [.attic, .cellar, .larder, .meter] t)) ∧
      (s.pel.outq = [] → Completes (.credit port h) s fun t =>
        t.pel = { s.pel with credits := aset 0 s.pel.credits k (aget 0 s.pel.credits k + 1) } ∧ s.sameBut [.lb, .pel, .porch] t) ∧
      (∀ it f p, s.pel.outq = [it] → it.frames = some [f] → it.group = g → it.dst = fhSrc h → (∀ j, aget 0 s.pel.credits j = 0) →
        s.plPort it.ports it.chunk = some p → s.insecure p = false → Completes (.credit port h) s fun t => t.pel.outq = [] ∧ aget 0 t.pel.credits k = 0 ∧
          t.sent = s.sent ++ [.frame (fhOp f.1) it.dst p (leBytes 32 f.1 ++ f.2) []]) ∧
      (fhChunk h = own g → Completes (.notice port h) s fun t => g ∈ t.pel.expelled ∧ Bell.pelotonExpelled ∈ t.bell.level ∧
        ∀ r ∈ t.pel.runs, r.group = g → r.stopped = true) ∧
      (fhChunk h ≠ own g → s.pel.runs = [] → Completes (.notice port h) s fun t => memberDead (t.member (s.groupTable g) (fhChunk h)) = true ∧
        Bell.pelotonDead ∈ t.bell.level ∧ s.sameBut [.attic, .meter, .bell, .pel] t)) ∧
    (∀ g m, m ≠ own g → m < s.cap (K.plGroup g 1) → memberDead (member g m) = false → s.pel.runs = [] → s.ex.job = none →
      let dead : State → Prop := fun t => memberDead (t.member (s.groupTable g) m) = true ∧ Bell.pelotonDead ∈ t.bell.level ∧
        t.ctr Ctr.plDead = (s.ctr Ctr.plDead + 1) % 2 ^ 64 ∧ s.sameBut [.attic, .meter, .bell, .pel, .sent] t
      (Completes (.uioTimeout g m) s fun t => dead t ∧ t.ctr Ctr.uioTimeouts = (s.ctr Ctr.uioTimeouts + 1) % 2 ^ 64) ∧
      Completes (.uioCompletionError g m) s dead) ∧
    (∀ w g m, g < 16 → m < 65536 →
      (s.WriteOk w 0x0C020 0 (leBytes 8 (1 + g * 16 + m * 256)) → Completes (.rejoin w g m) s fun t =>
        memberDead (t.member (s.groupTable g) m) = false ∧ memberMisses (t.member (s.groupTable g) m) = 0 ∧
        (m = own g → g ∉ t.pel.expelled) ∧ s.served w t ∧ s.sameBut [.attic, .pel, .meter, .sent] t) ∧
      (s.WriteOk w 0x0C020 0 (leBytes 8 (2 + g * 16 + m * 256)) → Completes (.clearMisses w g m) s fun t =>
        memberMisses (t.member (s.groupTable g) m) = 0 ∧ memberDead (t.member (s.groupTable g) m) = memberDead (member g m) ∧ s.served w t ∧
        s.sameBut [.attic, .meter, .sent] t))

/-- With the export engine clocked: a bank that waits for an AUTO export becomes the running export to the buddy once
the Peloton has been idle for the stated time, the export port being UP and no export running; an EXPORT letter that
passes its checks does the same at once, and a GUEST_SEND letter does it with the Guest room and its member; the frames
of the stream, all of the export protocol, are formed then and leave at their slots. A stream that arrives is refused on
its first frame when its header does not fit; a later frame of one that was not refused adds to it, and the last, with
the CRC right, makes the Guest room valid, or the restored bank current, and is acknowledged. An acknowledgement ends
the export and sets EX_LAST_STEP; a refusal makes the next export FULL and raises EXPORT_FAIL. (R25, R383, R384, R385,
R387, R388, R389, R390, R402, R418, R419, R421) -/
def Obligations.ExportsAndGuests : Prop :=
  ∀ s : State, s.awake [4, 13] →
    let me := s.cap (K.plGroup (s.cap K.exGroup) 2)
    let busy := if s.gz.waiting.isSome then 2 else 1
    let ready : ExJob → State → Prop := fun j t => t.ex.job = some j ∧ t.sent = s.sent ∧ j.rest ≠ [] ∧
      ∀ f ∈ j.rest, fhOp (ofBytes (f.1.take 32)) = 6
    let due := s.pel.idleSince + usTicks (s.cap K.exIdleUs)
    (∀ guest b, s.ex.pending = some b → s.cap K.exMode = 1 → s.ex.job = none → s.restoring = false → s.pel.runs = [] →
      s.portUp (s.cap K.exPort) = true → Completes (.exportAutoStart guest) s fun t =>
        t.tick = (if s.tick < due then due % 2 ^ 64 else s.tick) ∧ t.ex.pending = none ∧ t.odv K.exState = busy ∧
        (∃ j, ready j t ∧ j.bank = b ∧ j.letter = none ∧ j.kind = (if s.deltaOk b (s.cap K.exGroup) me guest then 1 else 0) ∧
          j.member = s.cap K.exBuddy ∧ j.step = (s.bankNextStep b + 2 ^ 64 - 1) % 2 ^ 64) ∧
        s.sameBut [.host, .od, .meter, .tick, .ex, .bell, .mtr] t) ∧
    (∀ q c l guest, s.HeadIs q c l → l.route = 0x20 → s.chosen q .exporter = true → s.freeSlot .exporter = some 0 →
      firstErr (exChecks s c l) = none →
      (l.prog % 4096 = 1 → s.bankStatus (s.odv K.bankCurrent) = 1 → bit l.param0 0 = true → s.portUp (s.cap K.exPort) = true →
        Completes (.exportBank q guest) s fun t => s.launched q c l .exporter 0 t ∧ t.odv K.exState = busy ∧
          ∃ j, ready j t ∧ j.letter = some (q, c.head) ∧ j.bank = s.odv K.bankCurrent ∧
            j.kind = (if bit l.param0 2 = false ∧ s.deltaOk (s.odv K.bankCurrent) (s.cap K.exGroup) me guest = true then 1 else 0)) ∧
      (l.prog % 4096 = 2 → s.odv K.guestBytes ≠ 0 → ghStatus s.guestHeader ≠ 0xFF → ghSource s.guestHeader = bits l.param0 0 16 →
        s.portUp (s.cap K.exPort) = true → Completes (.guestSend q) s fun t => s.launched q c l .exporter 0 t ∧ t.odv K.exState = busy ∧
          ∃ j, ready j t ∧ j.letter = some (q, c.head) ∧ j.kind = 2 ∧
            j.member = bits l.param0 0 16)) ∧
    (∀ port h b po, s.portUp port = true → s.insecure port = false →
      let hd := ofBytes (b.take 64)
      let replies : State → Prop := fun t => s.portUp 0 = true ∨ s.portUp 1 = true → (∀ p, s.insecure p = false) → ∃ f, t.sent = s.sent ++ [f]
      (fhChunk h = 0 → shKind hd ≠ 2 → s.guestRefuses hd = true → Completes (.exportFrame port h b po) s fun t =>
        t.ctr Ctr.guestRefused = (s.ctr Ctr.guestRefused + 1) % 2 ^ 64 ∧ replies t ∧ s.sameBut [.meter, .sent, .ex] t) ∧
      (fhChunk h = 0 → shKind hd = 2 → s.restoreRefuses hd ≠ 0 → Completes (.restoreStream port h b po) s fun t =>
        replies t ∧ s.sameBut [.meter, .sent, .ex] t) ∧
      (∀ r image, fhChunk h ≠ 0 → s.ex.rx.find? (fun x => x.isOf h && x.image == image) = some r → r.refused = false →
        let cmd := if image then Instr.restoreStream port h b po else Instr.exportFrame port h b po
        let all := r.bytes ++ b
        let first := ofBytes (all.take 64)
        (fhLast h = false → Completes cmd s fun t => ∃ x ∈ t.ex.rx, x.image = image ∧ x.group = r.group ∧ x.src = r.src ∧ x.bytes = all ∧
          x.refused = false) ∧
        (fhLast h = true → crcOk all (shBytes first) = true → Completes cmd s fun t => replies t ∧
          (image = false → t.ctr Ctr.guestApplied = (s.ctr Ctr.guestApplied + 1) % 2 ^ 64 ∧ t.rd .cellar (s.odv K.guestBase + 8) 1 = 1) ∧
          (image = true → t.odv K.bankCurrent = s.odv K.guestStep % max 1 (s.odv K.bankCount) ∧ t.odv K.guestRestore = 0 ∧
            Bell.guestRestored ∈ t.bell.level)))) ∧
    (∀ port h j, s.portUp port = true → s.insecure port = false → s.ex.job = some j → fhGroup h = j.group → fhSrc h = j.member → s.gz.waiting = none →
      Completes (.exportAck port h) s fun t => t.ex.job = none ∧ t.odv K.exState = 0 ∧
        (fhCount h ≠ 0 → j.kind ≠ 2 → t.odv K.exLastStep = j.step ∧ t.ex.forceFull = false ∧
          t.ctr Ctr.exStreams = (s.ctr Ctr.exStreams + 1) % 2 ^ 64 ∧ t.ctr Ctr.exBytes = (s.ctr Ctr.exBytes + j.bytes) % 2 ^ 64) ∧
        (fhCount h = 0 → j.kind ≠ 2 → t.ex.forceFull = true ∧ Bell.exportFail ∈ t.bell.level ∧ t.odv K.exLastStep = s.odv K.exLastStep))

/-- The low half of a page command is held, in place of one held before. With it, the high half at the doorbell makes
the command: a faulty one is counted and raises KV_CMD_BAD; SHARE and FREE, by the doorbell or by a write of KV_CMD,
count in KV_CMD_DONE; FREE ends the context's LENGTH at its first page, SHARE takes it at least to where the source's
pages reach. FREE of one page whose frame stays in use clears the entry and lowers the frame's reference count by one;
of one in no other use it returns the frame to its pool and counts it. (R330, R333, R334, R541) -/
def Obligations.PageCommandsShareAndFree : Prop :=
  ∀ (s : State) (lo hi : Nat), s.awake [4] →
    (Completes (.pageCmdLo lo) s fun t => t.cxl = { s.cxl with pageLo := some (lo % 2 ^ 64) } ∧ s.sameBut [.cxl] t) ∧
    ∀ (w : Option Way) (c : PageCmd),
      let val := match w with | some _ => lo + 2 ^ 64 * hi | none => s.cxl.pageLo.getD 0 + hi * 2 ^ 64
      c = parsePageCmd val → lo < 2 ^ 64 → hi < 2 ^ 64 → c.op ∈ [1, 2] →
      let cmd := if c.op = 2 then Instr.free w lo hi else Instr.share w lo hi
      let cx := s.kvCtx c.ctx
      let sx := s.kvCtx c.src
      (w = none → s.pageCmdBad c = true → Completes cmd s fun t => t.cxl = { s.cxl with pageLo := none } ∧ Bell.kvCmdBad ∈ t.bell.level ∧
        s.counted [(Ctr.kvCmdBad, 1)] t ∧ s.sameBut [.cxl, .bell, .meter] t) ∧
      ((w = none ∧ s.pageCmdBad c = false) ∨ (∃ p, w = some p ∧ s.WriteOk p 0x08010 0 (leBytes 8 lo ++ leBytes 8 hi)) → Completes cmd s fun t =>
        t.odv K.kvCmdDone = (s.odv K.kvCmdDone + 1) % 2 ^ 32 ∧ s.odSame [K.kvCmdDone] t ∧ t.cxl.pageLo = (if w = none then none else s.cxl.pageLo) ∧
        (∀ p ∈ w, s.answers p 0 t) ∧
        (c.op = 2 → (t.kvCtx c.ctx).length = min cx.length (c.first * cx.page)) ∧
        (c.op = 1 → min sx.length ((c.first + c.cnt) * sx.page) % 2 ^ 25 ≤ (t.kvCtx c.ctx).length) ∧
        (c.op = 2 → c.cnt = 1 → (s.kvEntry cx c.first).2.1 = true →
          let f := (s.kvEntry cx c.first).2.2
          let h := s.hdr cx.pool f
          let entry := (spaceOf cx.listSpace, cx.listAddr + 4 * c.first, 4)
          let head := (s.poolSpace cx.pool, s.frameAddr cx.pool f, 64)
          let ctx := (Space.attic, s.kvCtxAddr c.ctx, 64)
          apart entry head → apart entry ctx → apart head ctx → entry.1 ≠ .host →
          (h.refcount - 1 ≠ 0 ∨ h.pins ≠ 0 → (t.kvEntry cx c.first).2.1 = false ∧ (t.hdr cx.pool f).refcount = h.refcount - 1 ∧
            (t.hdr cx.pool f).pins = h.pins) ∧
          (h.refcount - 1 = 0 → h.pins = 0 → t.ctr Ctr.kvFrees = (s.ctr Ctr.kvFrees + 1) % 2 ^ 64)))

/-- A write that passes every check and waits for nothing is served, counted once in OD_ACCESSES and answered with
success. An object without an effect of its own takes exactly the value and no other object changes (so for a plain
object by its number, and for GRAD_QUAR_TAIL and CELLAR_BANK_CURRENT by their commands). An RWS object takes the value
in its stoker value and sets TANDEM_STOKER_DIRTY; every captain value stays as it was. (R432, R435, R583) -/
def Obligations.WriteStoresValue : Prop :=
  ∀ (w : Way) (idx sub : Nat) (data : List Byte) (s : State), sub < 256 → s.WriteOk w idx sub data →
    let stored : State → Prop := fun t => t.odv (okey idx sub) = ofBytes data ∧ s.odSame [okey idx sub] t ∧ s.served w t ∧
      s.sameBut [.od, .meter, .sent] t
    (plainObj idx sub = true → Completes (.objectWrite w idx sub data) s stored) ∧
    (idx = 0x0502B → sub = 0 → Completes (.gradQuarTail w data) s stored) ∧
    (idx = 0x07001 → sub = 0 → Completes (.cellarBankCurrent w data) s stored) ∧
    (isRws idx sub = true → Completes (.objectWrite w idx sub data) s fun t =>
      t.stk (okey idx sub) = ofBytes data ∧ (∀ j, j ≠ okey idx sub → t.stk j = s.stk j) ∧ t.odv K.dirty = 1 ∧
      s.odSame [K.dirty] t ∧ s.served w t ∧ s.sameBut [.stoker, .od, .meter, .sent] t)

/-- A write of any object that fails one of steps 1 to 6, and a write that waits for nothing and fails one of steps 7 to
9 (but the load of a library image that does not verify while no library is active, which raises a source), changes
nothing: it is counted in OD_ACCESSES and OD_ABORTS and answered with the code of the first failing check. (R432, R470,
R583) -/
def Obligations.RefusedWriteChangesNothing : Prop :=
  ∀ (w : Way) (idx sub : Nat) (data : List Byte) (s : State), s.reachable w = true →
    let refused : Nat → State → Prop := fun code t => s.sameBut [.meter, .sent] t ∧
      s.counted [(Ctr.odAccesses, 1), (Ctr.odAborts, 1)] t ∧ s.answers w code t
    let form := s.writeForm w idx sub ((objInfo idx sub).elim 0 (·.ty)) data
    let value := s.writeValue idx sub (ofBytes data)
    (form ≠ 0 → Completes (.objectWrite w idx sub data) s (refused form)) ∧
    (form = 0 → s.relocking idx sub = false → s.odv K.tandemState ≠ 1 → s.dict.trimBusy = false → value ≠ 0 →
      idx ≠ 0x04062 ∨ s.odv K.libState ≠ 0 → Completes (.objectWrite w idx sub data) s (refused value))

/-- An accepted write of TANDEM_SWAP sets TANDEM_STATE to SWAP_PENDING and is not answered yet. At the swap point of a
pending swap with no held RWS write, the captain and the stoker set are exchanged, TANDEM_SWAP_COUNT increments modulo
2^32, TANDEM_SWAP_TICK takes the Pilot time, TANDEM_STOKER_DIRTY clears, TANDEM_STATE returns to STEADY and every swap
that waited is answered; nothing else of the dictionary changes. An accepted write of TANDEM_COPY copies every captain
value into the stoker set and clears TANDEM_STOKER_DIRTY. (R436, R440, R441) -/
def Obligations.TandemSwapExchanges : Prop :=
  ∀ s : State,
    (∀ w data, s.WriteOk w 0x03000 0 data → Completes (.tandemSwap w data) s fun t =>
      t.odv K.tandemState = 1 ∧ s.odSame [K.tandemState] t ∧ t.captain = s.captain ∧ t.stoker = s.stoker ∧
      s.sameBut [.od, .dict] t ∧ (t.dict.held.filter fun h => h.cause == 1).length = (s.dict.held.filter fun h => h.cause == 1).length + 1) ∧
    (s.odv K.tandemState = 1 → (∀ h ∈ s.dict.held, h.cause ≠ 0) → Completes .swapPoint s fun t =>
      t.captain = s.stoker ∧ t.stoker = s.captain ∧ t.odv K.swapCount = (s.odv K.swapCount + 1) % 2 ^ 32 ∧
      t.odv K.swapTick = s.tick ∧ t.odv K.dirty = 0 ∧ t.odv K.tandemState = 0 ∧
      s.odSame [K.swapCount, K.swapTick, K.dirty, K.tandemState] t ∧
      t.dict.held = s.dict.held.filter (fun h => h.cause != 1) ∧
      t.sent.length = s.sent.length + (s.dict.held.filter fun h => h.cause == 1).length) ∧
    (∀ w data, s.WriteOk w 0x03001 0 data → Completes (.tandemCopy w data) s fun t =>
      t.captain = s.captain ∧ t.stoker = s.captain ∧ t.odv K.dirty = 0 ∧ s.odSame [K.dirty] t ∧ s.served w t ∧
      s.sameBut [.stoker, .od, .meter, .sent] t)

/-- An accepted write of CAL_USR_COMMIT starts a commit; when the trims are in flash and no write waits for it, the
commit has ended and what a cold start will load is exactly the trims as they stand. An accepted write of
CAL_USR_RETRAIN empties the stored training results of both memories and has the next start train again. (R447, R449) -/
def Obligations.TrimsCommitAndRetrain : Prop :=
  ∀ s : State,
    (∀ w data, s.WriteOk w 0x021FF 0 data → Completes (.calUsrCommit w data) s fun t =>
      t.dict.trimBusy = true ∧ t.od = s.od ∧ s.served w t ∧ s.sameBut [.dict, .meter, .sent] t) ∧
    (s.dict.trimBusy = true → (∀ h ∈ s.dict.held, h.cause ≠ 3) → Completes .calCommitEnd s fun t =>
      t.dict.trimBusy = false ∧ (∀ idx sub c, calOf idx = some (c, 1) → sub < 256 →
        aget 0 t.dict.savedTrims (okey idx sub) = aget 0 s.od (okey idx sub)) ∧ t.dict.held = s.dict.held ∧ s.sameBut [.dict] t) ∧
    (∀ w data, s.WriteOk w 0x02160 0 data → Completes (.calUsrRetrain w data) s fun t =>
      t.domain (okey 0x02260 0) = [] ∧ t.domain (okey 0x02261 0) = [] ∧ t.pwr.retrain = true ∧ t.pwr.trained = false ∧
      s.served w t ∧ s.sameBut [.domains, .pwr, .meter, .sent] t)

/-- An accepted write of RECIPE_RING_TAIL takes effect at once, and afterwards the held source RECIPE is high exactly
when the tail differs from the head; every other source, object and memory byte is as it was. (R177, R511) -/
def Obligations.RecipeTailFreesSlots : Prop :=
  ∀ (w : Way) (data : List Byte) (s : State), s.WriteOk w 0x0501B 0 data →
    Completes (.recipeRingTail w data) s fun t =>
      t.odv K.recipeTail = ofBytes data ∧ s.odSame [K.recipeTail] t ∧
      (∀ n, n ∈ t.bell.level ↔ (n = Bell.recipe ∧ s.odv K.recipeHead ≠ ofBytes data) ∨ (n ≠ Bell.recipe ∧ n ∈ s.bell.level)) ∧
      s.served w t ∧ s.sameBut [.od, .bell, .meter, .sent] t

/-- While the mailbox is open, a payload of 4 to 4,096 bytes is executed: OD_READ of a readable object is answered with
code 0 and the object's type, size and value and changes nothing else; OD_WRITE of a plain object stores the value
exactly when the write passes its checks; the block commands on a DOMAIN object open a transfer, and read the value from
an offset, taking a copy at offset 0. (R429, R432, R465) -/
def Obligations.MailboxAccesses : Prop :=
  ∀ (pay : List Byte) (s : State), s.mboxOn = true → 4 ≤ pay.length → pay.length ≤ 4096 →
    let b := pay.drop 4
    let idx := (objOf b).1
    let sub := (objOf b).2
    let run : Prop := stationsHolding idx sub = [] ∨ s.awake (stationsHolding idx sub)
    let stoker := (pay.getD 0 0).toNat % 2 == 1
    (b.length = 4 → s.readForm .mailbox idx sub stoker = 0 → s.relocking idx sub = false → run →
      Completes (.odRead pay) s fun t => t.sent = s.sent ++ [.response 0 0 (leBytes 4 0 ++ s.readBody idx sub stoker)] ∧
        s.counted [(Ctr.odAccesses, 1)] t ∧ s.sameBut [.meter, .sent] t) ∧
    (8 ≤ b.length → ofBytes ((b.drop 6).take 2) = (b.drop 8).length → plainObj idx sub = true →
      (b.getD 4 0).toNat = (objInfo idx sub).elim 0 (·.ty) → s.WriteOk .mailbox idx sub (b.drop 8) →
      Completes (.odWrite pay) s fun t => t.odv (okey idx sub) = ofBytes (b.drop 8) ∧ s.odSame [okey idx sub] t ∧
        s.served .mailbox t ∧ s.sameBut [.od, .meter, .sent] t) ∧
    (b.length = 13 → (b.getD 4 0).toNat = 1 → s.blockForm .mailbox idx sub true = 0 →
      ofBytes (b.drop 5) ≤ (objInfo idx sub).elim 0 (·.size) → (∀ x ∈ s.dict.transfers, x.key ≠ okey idx sub) →
      Completes (.odBlockWrite pay) s fun t =>
        t.dict.transfers = s.dict.transfers ++ [⟨okey idx sub, none, ofBytes (b.drop 5), []⟩] ∧ s.served .mailbox t ∧
        s.sameBut [.dict, .meter, .sent] t) ∧
    (b.length = 14 → s.blockForm .mailbox idx sub false = 0 → run → ofBytes ((b.drop 4).take 8) = 0 →
      0 < ofBytes (b.drop 12) → ofBytes (b.drop 12) ≤ 4000 →
      Completes (.odBlockRead pay) s fun t =>
        let data := s.domainRead (okey idx sub)
        let part := data.take (ofBytes (b.drop 12))
        t.sent = s.sent ++ [.response 0 0 (leBytes 4 0 ++ (leBytes 8 data.length ++ leBytes 8 0 ++ leBytes 2 part.length ++ part))] ∧
        (∃ c ∈ t.dict.copies, c.key = okey idx sub ∧ c.peer = none ∧ c.data = data) ∧ s.sameBut [.dict, .meter, .sent] t)

/-- A message that is heard (not a repeat, and with a good header, version, type, MAC and sequence) is executed in the
way it came: a READ of a readable object is answered with code 0 and the value, a WRITE of a plain object that passes
its checks stores the value; the response is the last of the peer's kept responses, and a repeat of the same bytes is
answered from it again without being executed. (R452, R453, R455) -/
def Obligations.XaxiaReadAndWrite : Prop :=
  ∀ (p : Nat) (d : List Byte) (s : State),
    let b := xBody d
    let idx := (objOf b).1
    let sub := (objOf b).2
    let run : Prop := stationsHolding idx sub = [] ∨ s.awake (stationsHolding idx sub)
    let kept : State → Prop := fun t => ∃ rsp, t.sent = s.sent ++ [.response (p + 1) 0 rsp] ∧ (t.peer p).kept.getLast? = some (d, rsp)
    let u := s.noteSeq (ofBytes (d.take 32))
    (s.Heard 3 p d → b.length = 4 → u.readForm (wayOf p d) idx sub (stokerFlag d) = 0 → s.relocking idx sub = false → run →
      Completes (.read p d) s fun t => kept t ∧ s.counted [(Ctr.odAccesses, 1)] t ∧ s.sameBut [.dict, .meter, .sent] t) ∧
    (s.Heard 4 p d → 8 ≤ b.length → ofBytes ((b.drop 6).take 2) = (b.drop 8).length → plainObj idx sub = true →
      (b.getD 4 0).toNat = (objInfo idx sub).elim 0 (·.ty) → u.WriteOk (wayOf p d) idx sub (b.drop 8) →
      ¬(s.odv K.pwrState = 0 ∧ 1 ≤ s.odv K.bringupStage ∧ isWakeFrame b = true) →
      Completes (.write p d) s fun t => kept t ∧ t.odv (okey idx sub) = ofBytes (b.drop 8) ∧ s.odSame [okey idx sub] t ∧
        s.sameBut [.od, .dict, .meter, .sent] t) ∧
    (∀ rsp, s.xaxiaOn = true → s.keptAnswer p d = some rsp → ∀ c ∈ [Instr.hello p d, .read p d, .write p d, .blockRead p d, .snapshot p d],
      Completes c s fun t => s.counted [(Ctr.xaDuplicates, 1)] t ∧
        (∃ code, t.sent = s.sent ++ [.response (p + 1) code rsp]) ∧ s.sameBut [.meter, .sent] t)

/-- Over Xaxia, a heard BLOCK_READ at offset 0 is answered and takes a copy of the present value; BLOCK_WRITE BEGIN
opens a transfer, SEGMENT appends its data in order, and END of a whole transfer with the right CRC replaces the value
(of an object without an effect of its own) and closes the transfer; a transfer that times out is dropped and
remembered; a copy that expires is dropped. (R430, R456, R457) -/
def Obligations.BlockTransfers : Prop :=
  ∀ (p : Nat) (d : List Byte) (s : State),
    let b := xBody d
    let idx := (objOf b).1
    let sub := (objOf b).2
    let key := okey idx sub
    let run : Prop := stationsHolding idx sub = [] ∨ s.awake (stationsHolding idx sub)
    let u := s.noteSeq (ofBytes (d.take 32))
    let w := wayOf p d
    let mine (t : Transfer) : Bool := t.key == key && decide (t.peer = some p)
    (s.Heard 5 p d → b.length = 14 → u.blockForm w idx sub false = 0 → run → ofBytes ((b.drop 4).take 8) = 0 →
      0 < ofBytes ((b.drop 12).take 2) → ofBytes ((b.drop 12).take 2) ≤ 1024 →
      Completes (.blockRead p d) s fun t => (∃ c ∈ t.dict.copies, c.key = key ∧ c.peer = some p ∧ c.data = s.domainRead key) ∧
        (∃ r, t.sent = s.sent ++ [.response (p + 1) 0 r]) ∧ s.sameBut [.dict, .meter, .sent] t) ∧
    (s.Heard 6 p d → b.length = 13 → (b.getD 4 0).toNat = 1 → u.blockForm w idx sub true = 0 →
      ofBytes (b.drop 5) ≤ (objInfo idx sub).elim 0 (·.size) → (∀ x ∈ s.dict.transfers, x.key ≠ key) →
      Completes (.blockWriteBegin p d) s fun t =>
        t.dict.transfers = s.dict.transfers ++ [⟨key, some p, ofBytes (b.drop 5), []⟩] ∧ s.sameBut [.dict, .meter, .sent] t) ∧
    (∀ x, s.Heard 6 p d → 15 < b.length → (b.getD 4 0).toNat = 2 → u.blockForm w idx sub true = 0 →
      s.dict.transfers.find? mine = some x → ofBytes ((b.drop 5).take 8) = x.data.length →
      ofBytes ((b.drop 13).take 2) = (b.drop 15).length → (b.drop 15).length ≤ 1024 → x.data.length + (b.drop 15).length ≤ x.size →
      Completes (.blockWriteSegment p d) s fun t => { x with data := x.data ++ b.drop 15 } ∈ t.dict.transfers ∧
        (∃ r, t.sent = s.sent ++ [.response (p + 1) 0 r]) ∧ s.sameBut [.dict, .meter, .sent] t) ∧
    (∀ x, s.Heard 6 p d → b.length = 9 → (b.getD 4 0).toNat = 3 → u.blockForm w idx sub true = 0 → run → sub = 0 →
      s.dict.transfers.find? mine = some x → x.data.length = x.size → crc32c x.data = ofBytes (b.drop 5) →
      idx ≠ 0x0B031 → idx ≠ 0x0B040 →
      Completes (.blockWriteEnd p d) s fun t => t.domain key = x.data ∧ (∀ j, j ≠ key → t.domain j = s.domain j) ∧
        (∀ y ∈ t.dict.transfers, y.key ≠ key) ∧ s.sameBut [.domains, .dict, .meter, .sent] t) ∧
    (∀ i j x, s.dict.transfers.find? (fun t => t.key == okey i j) = some x → Completes (.blockTimeout i j) s fun t =>
      (∀ y ∈ t.dict.transfers, y.key ≠ okey i j) ∧ (okey i j, x.peer) ∈ t.dict.expired ∧ s.sameBut [.dict] t) ∧
    (∀ i j q, Completes (.blockReadCopyExpiry i j q) s fun t =>
      (∀ c, c ∈ t.dict.copies ↔ c ∈ s.dict.copies ∧ ¬(c.key = okey i j ∧ c.peer = q)) ∧ s.sameBut [.dict] t)

/-- A HELLO that is not a repeat, with a good header, is answered with success exactly when the peer offers major 2 or
1: the peer's version becomes the highest common major with the lower of the two minors (3 for major 1, 1 for major 2);
with no common major the version is forgotten and the answer is VERSION. (A common major in a body of another length
than 18 bytes is answered BAD_LENGTH and leaves the version: the model's choice, log 67.) (R454) -/
def Obligations.HelloNegotiates : Prop :=
  ∀ (p : Nat) (d : List Byte) (s : State), s.xaxiaOn = true → s.keptAnswer p d = none → headerBad d = false →
    xhType (ofBytes (d.take 32)) = 1 →
    let b := xBody d
    let majors := ofBytes (b.take 2)
    let theirs : Nat → Nat := fun m => (b.getD (2 + m) 0).toNat
    let res : Option (Nat × Nat) := if bit majors 2 then some (2, min (theirs 2) 1) else if bit majors 1 then some (1, min (theirs 1) 3) else none
    let short : Prop := res.isSome = true ∧ b.length ≠ 18
    Completes (.hello p d) s fun t => (short → (t.peer p).version = (s.peer p).version) ∧ (¬short → (t.peer p).version = res) ∧
      (short → ∃ r, t.sent = s.sent ++ [.response (p + 1) Abort.badLength r]) ∧
      (¬short → ∃ r, t.sent = s.sent ++ [.response (p + 1) (if res.isSome then 0 else Abort.version) r]) ∧
      (∀ q, q ≠ p → t.peer q = s.peer q) ∧ s.sameBut [.dict, .sent] t

/-- With an owner key fused: a heard AUTH START with role OWNER and a 32-byte nonce, while fewer than four sessions are
open and the peer is not locked out, allocates one session more, not open yet; a PROOF whose signature verifies opens
the session it names, one whose signature does not discards it and is counted; END in an open session closes it. With
four open a START is answered SESSION_LIMIT, and so is a PROOF (the latter the model's choice, log 67). Every phase from
a peer that is locked out is answered AUTH_FAILED and changes no session. The mailbox's START does the same over the
mailbox. A START without a PROOF in time, and an idle session, are discarded; a lockout that ends forgets the failed
proofs. (The nonce and the identifier are free values.) (R458, R459, R467) -/
def Obligations.AuthOpensAndClosesSessions : Prop :=
  ∀ s : State,
    let up : Prop := s.odv K.bringupStage ≠ 0 ∧ s.odv K.pwrState ≠ 0
    (∀ p d, s.Heard 2 p d → up → (xBody d).length = 34 → ((xBody d).getD 0 0).toNat = 1 → ((xBody d).getD 1 0).toNat = 1 →
      s.openSessions < 4 → s.ownerHash.isSome = true → (s.peer p).locked = false →
      Completes (.authStart p d) s fun t => (∃ x, t.dict.sessions.getLast? = some x ∧ x.isOpen = false ∧ x.peer = some p) ∧
        t.dict.sessions.length = s.dict.sessions.length + 1 ∧ (∃ r, t.sent = s.sent ++ [.response (p + 1) 0 r]) ∧
        s.sameBut [.dict, .freeCtr, .sent] t) ∧
    (∀ p d x, s.Heard 2 p d → up → xhSession (ofBytes (d.take 32)) = false → (xBody d).length = 1025 → ((xBody d).getD 0 0).toNat = 2 →
      s.dict.sessions.find? (fun y => !y.isOpen && y.id == xhSid (ofBytes (d.take 32)) && decide (y.peer = some p)) = some x →
      (s.peer p).locked = false → s.openSessions < 4 →
      Completes (.authProof p d) s fun t =>
        let good := Config.signatureOk 2 (s.ownerHash.getD [] ++ proofDigest x ++ ((xBody d).drop 1).take 512)
        (good = true → (∃ y ∈ t.dict.sessions, y.isOpen = true ∧ y.id = x.id ∧ y.peer = some p ∧
          y.key = sessionKeyOf x (Config.decrypt ((xBody d).drop 513))) ∧ s.sameBut [.dict, .sent] t) ∧
        (good = false → (∀ y ∈ t.dict.sessions, y.id ≠ x.id) ∧ s.counted [(Ctr.xaAuthFailures, 1)] t ∧
          s.sameBut [.dict, .meter, .sent] t)) ∧
    (∀ p d, s.Heard 2 p d → up → xhSession (ofBytes (d.take 32)) = true → xhSid (ofBytes (d.take 32)) ≠ 0 → ((xBody d).getD 0 0).toNat = 3 →
      (s.peer p).locked = false →
      Completes (.authEnd p d) s fun t => (∀ y ∈ t.dict.sessions, y.id ≠ xhSid (ofBytes (d.take 32))) ∧ s.sameBut [.dict, .sent] t) ∧
    (∀ p d code cmd, s.Heard 2 p d → up → let phase := ((xBody d).getD 0 0).toNat
      ((s.peer p).locked = true ∧ code = Abort.authFailed ∧ cmd ∈ [Instr.authStart p d, .authProof p d, .authEnd p d]) ∨
        ((s.peer p).locked = false ∧ 4 ≤ s.openSessions ∧ code = Abort.sessionLimit ∧
          ((cmd = .authStart p d ∧ phase = 1 ∧ (xBody d).length = 34 ∧ ((xBody d).getD 1 0).toNat = 1) ∨
            (cmd = .authProof p d ∧ phase = 2 ∧ (xBody d).length = 1025 ∧
              ∃ x ∈ s.dict.sessions, x.isOpen = false ∧ x.id = xhSid (ofBytes (d.take 32)) ∧ x.peer = some p))) →
      Completes cmd s fun t => t.dict.sessions = (s.noteSeq (ofBytes (d.take 32))).dict.sessions ∧
        (∃ r, t.sent = s.sent ++ [.response (p + 1) code r]) ∧ s.sameBut [.dict, .sent] t) ∧
    (∀ pay, s.mboxOn = true → up → pay.length = 38 → ((pay.drop 4).getD 0 0).toNat = 1 → ((pay.drop 4).getD 1 0).toNat = 1 →
      s.openSessions < 4 → s.ownerHash.isSome = true →
      Completes (.odAuth pay) s fun t => t.dict.sessions.length = s.dict.sessions.length + 1 ∧
        (∃ r, t.sent = s.sent ++ [.response 0 0 r]) ∧ s.sameBut [.dict, .freeCtr, .sent] t) ∧
    (∀ sid, Completes (.authStartTimeout sid) s fun t =>
      (∀ x, x ∈ t.dict.sessions ↔ x ∈ s.dict.sessions ∧ (x.isOpen = true ∨ x.id ≠ sid)) ∧ s.sameBut [.dict] t) ∧
    (∀ sid, Completes (.sessionIdleTimeout sid) s fun t =>
      (∀ x, x ∈ t.dict.sessions ↔ x ∈ s.dict.sessions ∧ (x.isOpen = false ∨ x.id ≠ sid)) ∧ s.sameBut [.dict] t) ∧
    (∀ p, (s.peer p).locked = true → Completes (.authLockoutEnd p) s fun t =>
      (t.peer p).locked = false ∧ (t.peer p).fails = [] ∧ s.sameBut [.dict] t)

/-- While NOTIFY is directed at a collector and enabled for source n, and n is high: the first NOTIFY of n leaves as one
datagram, counted, with the sequence number one higher; once it has been sent, the same source is notified again only by
the repeat. With the beacon lost, a module that is not the coordinator counts it; a solicitation of the module's link-
local address is answered with its MAC address. (Which version the datagram's header names is free, log 44.) (R450,
R451, R461) -/
def Obligations.NotifyAndSegment : Prop :=
  ∀ s : State,
    (∀ n, s.notifyOn n = true → n ∉ s.bell.notified → Completes (.notify n) s fun t =>
      t.dict.notifySeq = (s.dict.notifySeq + 1) % 2 ^ 32 ∧ n ∈ t.bell.notified ∧ s.counted [(Ctr.xaNotifySent, 1)] t ∧
      (∃ b, t.sent = s.sent ++ [.frame 0x20 (s.odv (okey 0x0B110 0)) (s.odv (okey 0x0B111 0)) b []]) ∧
      s.sameBut [.meter, .freeCtr, .sent, .bell, .dict] t) ∧
    (∀ n, s.notifyOn n = false ∨ n ∈ s.bell.notified → Completes (.notify n) s fun t => t = s) ∧
    (∀ n, s.notifyOn n = true → n ∈ s.bell.notified → s.odv (okey 0x0B113 0) ≠ 0 → Completes (.notifyRepeat n) s fun t =>
      t.dict.notifySeq = (s.dict.notifySeq + 1) % 2 ^ 32 ∧ s.counted [(Ctr.xaNotifySent, 1)] t ∧
      s.sameBut [.meter, .freeCtr, .sent, .bell, .dict] t) ∧
    (s.xaxiaOn = true → s.odv K.plcaId ≠ 0 → Completes .plcaFallback s fun t =>
      t.odv (okey 0x0B107 0) = (s.odv (okey 0x0B107 0) + 1) % 2 ^ 32 ∧ s.odSame [okey 0x0B107 0] t ∧ s.sameBut [.od] t) ∧
    (∀ p, s.xaxiaOn = true → Completes (.neighbourSolicitation p linkLocal) s fun t =>
      t.sent = s.sent ++ [.frame 0x21 p 0 (leBytes 6 macValue) []] ∧ s.sameBut [.sent] t)

/-- With the auxiliary supply on, and for either reference clock: after 8 consecutive gates that each count 4,096 ± 61
edges its ready bit is set, after 2 consecutive gates outside that window it is clear, and one gate sets the bit only as
the eighth good one of a run (the watch counts at most 8) and clears it only as the second bad one. No other ready bit
changes. The clock is a port's: its loss takes the port DOWN, its return has it train again if it may. (R473) -/
def Obligations.ReferenceClockPresence : Prop :=
  ∀ (r : Nat) (s : State), r < 2 → s.pwr.auxOn = true →
    let good : Nat → Prop := fun n => 4035 ≤ n ∧ n ≤ 4157
    let goodRun : State → Nat := fun u => if r = 0 then u.pwr.watch.refGood0 else u.pwr.watch.refGood1
    let badRun : State → Nat := fun u => if r = 0 then u.pwr.watch.refBad0 else u.pwr.watch.refBad1
    (∀ l : List Nat, l.length = 8 → (∀ n ∈ l, good n) →
      ∃ t, runCmds (l.map (.refclkGate r)) s = some t ∧ t.srcIsReady (2 + r) = true) ∧
    (∀ n m, ¬good n → ¬good m → ∃ t, runCmds [.refclkGate r n, .refclkGate r m] s = some t ∧ t.srcIsReady (2 + r) = false) ∧
    (∀ n, Completes (.refclkGate r n) s fun t =>
      (good n → goodRun t = min 8 (goodRun s + 1) ∧ badRun t = 0 ∧
        t.srcIsReady (2 + r) = (s.srcIsReady (2 + r) || decide (7 ≤ goodRun s))) ∧
      (¬good n → goodRun t = 0 ∧ badRun t = min 2 (badRun s + 1) ∧
        t.srcIsReady (2 + r) = (s.srcIsReady (2 + r) && decide (badRun s = 0)) ∧
        (s.srcIsReady (2 + r) = true → badRun s ≠ 0 → Bell.clkSourceLost ∈ t.bell.level ∧ t.odv (K.portState r) = 0 ∧
          (s.odv (K.portState r) = 0 → s.counted [(Ctr.clkLosses, 1)] t))) ∧
      (s.srcIsReady (2 + r) = false → good n → goodRun s = 7 → s.portAllowed r = true → s.odv (K.portState r) = 0 →
        (if r = 0 then s.pwr.perstLow0 else s.pwr.perstLow1) = false → t.odv (K.portState r) = 1) ∧
      (∀ j, j ≠ 2 + r → t.srcIsReady j = s.srcIsReady j) ∧
      (s.odv (K.portState r) = 0 ∨ s.srcIsReady (2 + r) = false ∨ good n ∨ badRun s = 0 → s.sameBut [.od, .pwr, .bell, .meter] t))

/-- With the auxiliary supply on. While the crystal is not ready, a judgement gate outside its window (±16 counts of
32,768 against a reference clock, ±⌊2,048 × CLK_XTAL_WINDOW / 10,000⌋ of 2,048 against the oscillator, fixed at the
start of a run) starts the run again, and the eighth good one makes it ready and moves the Pilot domain to it. Once
ready, two monitor gates in a row outside the window lose it: not ready, Pilot domain on the oscillator, CLK_SOURCE_LOST
raised and counted. A missing edge moves the Pilot domain to the oscillator at once and keeps the ready bit. In BS0 a
crystal not judged in time has every PLL that names it take the first present reference clock or the oscillator, and
sets the CRYSTAL bit of BRINGUP_FAULTS. (R472, R474, R475, R496) -/
def Obligations.CrystalIsJudgedAndLost : Prop :=
  ∀ s : State, s.pwr.auxOn = true →
    let w := s.pwr.watch
    let win := 2048 * s.odv K.xtalWindow / 10000
    (∀ n, s.srcIsReady 1 = false → Completes (.xtalGate n) s fun t =>
      let byRef := if w.goodGates = 0 then s.srcIsReady 2 || s.srcIsReady 3 else w.byRef
      let width := if w.goodGates = 0 then win else w.window
      let good : Prop := if byRef = true then 32752 ≤ n ∧ n ≤ 32784 else 2048 ≤ n + width ∧ n ≤ 2048 + width
      (¬good → t.pwr.watch.goodGates = 0 ∧ t.od = s.od) ∧
      (good → w.goodGates < 7 → t.pwr.watch.goodGates = w.goodGates + 1 ∧ t.pwr.watch.byRef = byRef ∧
        t.pwr.watch.window = width ∧ t.od = s.od) ∧
      (good → 7 ≤ w.goodGates → t.srcIsReady 1 = true ∧ t.odv K.pilotSrc = 1 ∧ (∀ j, j ≠ 1 → t.srcIsReady j = s.srcIsReady j) ∧
        s.odSame [K.srcReady, K.pilotSrc] t) ∧ s.sameBut [.od, .pwr] t) ∧
    (∀ n, s.srcIsReady 1 = true → Completes (.xtalMonitorGate n) s fun t =>
      let good : Prop := 2048 ≤ n + win ∧ n ≤ 2048 + win
      (good → t.pwr.watch.monBad = 0 ∧ t.srcIsReady 1 = true ∧ t.bell = s.bell ∧ t.meter = s.meter ∧
        (w.missing = true → w.monGood = 7 → t.odv K.pilotSrc = 1 ∧ t.pwr.watch.missing = false)) ∧
      (¬good → w.monBad ≠ 1 → t.pwr.watch.monBad = w.monBad + 1 ∧ t.od = s.od ∧ t.bell = s.bell ∧ t.meter = s.meter) ∧
      (¬good → w.monBad = 1 → t.srcIsReady 1 = false ∧ t.odv K.pilotSrc = 0 ∧ Bell.clkSourceLost ∈ t.bell.level ∧
        s.counted [(Ctr.clkLosses, 1)] t ∧ s.odSame [K.srcReady, K.pilotSrc] t) ∧ s.sameBut [.od, .pwr, .bell, .meter] t) ∧
    (s.srcIsReady 1 = true → Completes .xtalEdgeMissing s fun t =>
      t.odv K.pilotSrc = 0 ∧ t.pwr.watch.missing = true ∧ s.odSame [K.pilotSrc] t ∧ s.sameBut [.od, .pwr] t) ∧
    (s.pwr.pwrGood = true → s.pwr.starting ≠ 0 → s.odv K.bringupStage = 0 → s.srcIsReady 1 = false →
      bit (s.odv K.bringupFaults) 0 = false → Completes .xtalJudgeTimeout s fun t =>
        bit (t.odv K.bringupFaults) 0 = true ∧
        (∀ p, p < 4 → t.odv (K.pllSrc p) = if s.odv (K.pllSrc p) = 1 then
          (if s.srcIsReady 2 = true then 2 else if s.srcIsReady 3 = true then 3 else 0) else s.odv (K.pllSrc p)) ∧
        s.odSame [K.bringupFaults, K.pllSrc 0, K.pllSrc 1, K.pllSrc 2, K.pllSrc 3] t ∧ s.sameBut [.od] t)

/-- A write of a PLL's SRC with the present source does nothing but answer, with another source that is not ready is
answered WRONG_STATE and changes nothing, and with another ready source sets SRC, counts one switch and makes a running
PLL relock. A PLL that enters Freewheel reads FREEWHEEL at its floor, holds the running others of ARRAY, HALL and CELLAR
at their floors (when it is one of them), raises CLK_FREEWHEEL and is counted. With failover SWITCH a freewheeling PLL
moves to the first ready source in the order XTAL, REFCLK0, REFCLK1, OSC other than the one it lost, and with HOLD
nothing happens. A relocking PLL for which no access waits locks at its frequency. (R476, R477, R479, R480, R482) -/
def Obligations.PllsSwitchFreewheelAndLock : Prop :=
  ∀ (p : Nat) (s : State), p < 4 →
    let mhz := [K.pllMhz 0, K.pllMhz 1, K.pllMhz 2, K.pllMhz 3]
    (∀ w data, s.WriteOk w (0x01100 + p) 1 data → Completes (.clkPllSrc w p data) s fun t =>
      let v := ofBytes data
      (s.odv (K.pllSrc p) = v → s.served w t ∧ s.sameBut [.meter, .sent] t) ∧
      (s.odv (K.pllSrc p) ≠ v → t.odv (K.pllSrc p) = v ∧ t.pllState p = (if s.pllState p = 0 then 0 else 1) ∧
        s.counted [(Ctr.odAccesses, 1), (Ctr.clkSwitches, 1)] t ∧ s.answers w 0 t ∧
        s.odSame ([K.pllSrc p, K.pllSt p] ++ mhz) t ∧ s.sameBut [.od, .meter, .sent] t)) ∧
    (∀ w data, s.reachable w = true → s.writeForm w (0x01100 + p) 1 ((objInfo (0x01100 + p) 1).elim 0 (·.ty)) data = 0 →
      s.relocking (0x01100 + p) 1 = false → s.odv (K.pllSrc p) ≠ ofBytes data → s.srcIsReady (ofBytes data) = false →
      Completes (.clkPllSrc w p data) s fun t => s.answers w Abort.wrongState t ∧ s.sameBut [.meter, .sent] t) ∧
    (s.pllState p = 1 ∨ s.pllState p = 2 → Completes (.freewheel p) s fun t =>
      t.pllState p = 3 ∧ t.odv (K.pllMhz p) = pllFloor p ∧
      (p ≠ 2 → ∀ q ∈ [0, 1, 3], s.pllState q = 2 → t.odv (K.pllMhz q) = pllFloor q) ∧
      Bell.clkFreewheel ∈ t.bell.level ∧ s.counted [(Ctr.clkFreewheel, 1)] t ∧ s.odSame (K.pllSt p :: mhz) t ∧
      s.sameBut [.od, .pwr, .bell, .meter] t) ∧
    (∀ n, s.pllState p = 3 → s.odv K.failover = 1 →
      ([1, 2, 3, 0].find? fun n => s.srcIsReady n && n != aget 4 s.pwr.lostSrc p) = some n →
      Completes (.clkFailoverSwitch p) s fun t => t.odv (K.pllSrc p) = n ∧ t.pllState p = 1 ∧
        s.counted [(Ctr.clkSwitches, 1)] t ∧ s.odSame ([K.pllSrc p, K.pllSt p] ++ mhz) t ∧ s.sameBut [.od, .meter] t) ∧
    (s.odv K.failover = 0 → Completes (.clkFailoverSwitch p) s fun t => t = s) ∧
    (s.pllState p = 1 → (∀ h ∈ s.dict.held, h.cause ≠ 5) → Completes (.pllLocked p) s fun t =>
      t.pllState p = 2 ∧ t.odv (K.pllMhz p) = t.pllTarget p ∧ s.odSame (K.pllSt p :: mhz) t ∧ s.sameBut [.od] t)

/-- An accepted write of CLK_ENABLE keeps bits 3 to 0 set and takes bits 13 to 4; the clock of a station whose bit is
now clear stops exactly when the station has no running letter, and no other clock starts or stops; every clock that
stops is counted. An idle station whose timeout comes (an enabled one only when CLK_IDLE_TIMEOUT_US is not 0) has its
clock stopped, and ARRAY_PLL and CELLAR_PLL stop with the last of their stations. A demand on an enabled station in
Service leaves its clock running, counts one start if it stood, and starts its PLL. (R30, R483, R484, R486) -/
def Obligations.StationClocksStopAndStart : Prop :=
  ∀ s : State,
    (∀ w data, s.WriteOk w 0x01020 0 data → Completes (.clkEnable w data) s fun t =>
      let v := 15 + bits (ofBytes data) 4 10 * 16
      let u := s.setOd K.clkEnable v
      let stops : Nat → Bool := fun b => bit (s.odv K.clkRunning) b && !(bit v b || u.stationBusy b)
      t.odv K.clkEnable = v ∧ s.answers w 0 t ∧ s.sameBut [.od, .meter, .sent] t ∧
      s.counted [(Ctr.odAccesses, 1), (Ctr.clkGates, (([4, 5, 6, 7, 8, 9, 10, 11, 12, 13] : List Nat).filter stops).length)] t ∧
      (∀ b, 4 ≤ b → b < 14 → bit (t.odv K.clkRunning) b = (bit (s.odv K.clkRunning) b && (bit v b || u.stationBusy b))) ∧
      (∀ b, b < 4 ∨ 14 ≤ b → bit (t.odv K.clkRunning) b = bit (s.odv K.clkRunning) b) ∧
      s.odSame [K.clkEnable, K.clkRunning, K.pllSt 0, K.pllMhz 0, K.pllSt 3, K.pllMhz 3] t) ∧
    (∀ b, 4 ≤ b → b < 14 → s.stationBusy b = false → (s.enabled b = true → s.cap (okey 0x01030 0) ≠ 0) →
      Completes (.clkIdleTimeout b) s fun t =>
        bit (t.odv K.clkRunning) b = false ∧ (∀ j, j ≠ b → bit (t.odv K.clkRunning) j = bit (s.odv K.clkRunning) j) ∧
        (bit (s.odv K.clkRunning) b = true → bit (t.odv K.clkRunning) 7 = false → bit (t.odv K.clkRunning) 8 = false → t.pllState 0 = 0) ∧
        (bit (s.odv K.clkRunning) b = true → bit (t.odv K.clkRunning) 12 = false → bit (t.odv K.clkRunning) 13 = false → t.pllState 3 = 0) ∧
        s.counted [(Ctr.clkGates, if bit (s.odv K.clkRunning) b then 1 else 0)] t ∧
        s.odSame [K.clkRunning, K.pllSt 0, K.pllMhz 0, K.pllSt 3, K.pllMhz 3] t ∧ s.sameBut [.od, .meter] t) ∧
    (∀ b, 4 ≤ b → b < 14 → s.powered = true → s.odv K.pwrState = 2 → bit (s.odv K.clkEnable) b = true →
      Completes (.wakeToService [b]) s fun t =>
        bit (t.odv K.clkRunning) b = true ∧ (∀ j, j ≠ b → bit (t.odv K.clkRunning) j = bit (s.odv K.clkRunning) j) ∧
        (bit (s.odv K.clkRunning) b = true → t = s) ∧
        (bit (s.odv K.clkRunning) b = false → s.counted [(Ctr.clkStarts + b, 1)] t ∧ (s.pllState (pllOf b) = 0 → t.pllState (pllOf b) = 2)) ∧
        s.odSame [K.clkRunning, K.pllSt (pllOf b), K.pllMhz (pllOf b)] t ∧ s.sameBut [.od, .meter] t)

/-- While the module runs outside BS0 and the Pilot state: a thermal sample gives each of the 64 sensors its raw reading
plus its effective offset, in 1/16 °C and within an I16, and THERM_MAX the largest of them; a sample at or above 100.0
°C raises the throttle level by one to at most 7, the tenth in a row below 97.0 °C lowers it by one, and any other keeps
it; leaving and returning to level 0 raise THERMAL_THROTTLE and count. A power sample gives each of the 8 rails its raw
power times its effective gain over 2^15, and rail 9 the input's. (A reading that is not given counts as the least, and
the product is rounded down and kept modulo 2^32: the model's choice.) (R30, R448, R489, R531) -/
def Obligations.SamplesAreRead : Prop :=
  ∀ s : State, s.pwr.pwrGood = true → s.odv K.bringupStage ≠ 0 → s.odv K.pwrState ≠ 0 →
    (∀ raw, Completes (.thermalSample raw) s fun t =>
      let eff : Nat → Int := fun i => max (-32768) (min 32767 (raw.getD i (-32768) + s.calEff calThermal (i + 1)))
      let level := s.odv K.thermLevel
      ∃ top : Int, (∀ i, i < 64 → eff i ≤ top) ∧ (∃ i, i < 64 ∧ top = eff i) ∧ t.odv K.thermMax = twos 2 top ∧
        (∀ i, i < 64 → t.odv (K.thermSensor i) = twos 2 (eff i)) ∧
        (1600 ≤ top → t.odv K.thermLevel = min 7 (level + 1) ∧ t.pwr.coolSamples = 0) ∧
        (1552 ≤ top → top < 1600 → t.odv K.thermLevel = level ∧ t.pwr.coolSamples = 0 ∧ t.bell = s.bell) ∧
        (top < 1552 → s.pwr.coolSamples ≠ 9 → t.odv K.thermLevel = level ∧ t.pwr.coolSamples = s.pwr.coolSamples + 1 ∧ t.bell = s.bell) ∧
        (top < 1552 → s.pwr.coolSamples = 9 → t.odv K.thermLevel = level - 1 ∧ t.pwr.coolSamples = 0) ∧
        ((level = 0 ∧ 1600 ≤ top) ∨ (level = 1 ∧ t.odv K.thermLevel = 0) → Bell.thermalThrottle ∈ t.bell.level) ∧
        (level = 0 → 1600 ≤ top → s.counted [(Ctr.thermEntries, 1)] t) ∧
        (level = 1 → top < 1552 → s.pwr.coolSamples = 9 → s.counted [(Ctr.thermExits, 1)] t) ∧ s.sameBut [.od, .pwr, .bell, .meter] t) ∧
    (∀ raw input, Completes (.powerMeterSample raw input) s fun t =>
      (∀ i, i < 8 → t.odv (okey 0x0A030 (i + 1)) = raw.getD i 0 * (s.calEff calPower (i + 1)).toNat / 2 ^ 15 % 2 ^ 32) ∧
      t.odv (okey 0x0A030 9) = input % 2 ^ 32 ∧ (∀ k, k / 256 ≠ 0x0A030 → t.odv k = s.odv k) ∧ s.sameBut [.od] t)

/-- While PWR_GOOD is high: THERMTRIP, a main input fault and a fall of PWR_EN stop the regulators, lose every memory,
the dictionary and the Meter, keep the Pilot tick, the fuses and the host's memory, and record cause 6 for THERMTRIP; a
fault of the auxiliary input also stops the Pilot domain. Auxiliary power starts the Pilot domain at tick 0 on the
oscillator, with PLCA_ID sampled from the pins. The regulators then start a cold start with PWR_GOOD high, objects at
their defaults (BS0), with the recorded cause; not while THERMTRIP is latched. (That the memories read zero is the
model's choice, log 1.) (R475, R490, R568, R569) -/
def Obligations.SupplyEvents : Prop :=
  ∀ s : State,
    let lost : State → Prop := fun t => t.pwr.pwrGood = false ∧ t.attic = Mem.empty ∧ t.cellar = Mem.empty ∧ t.larder = Mem.empty ∧
      t.host = s.host ∧ t.pending = s.pending ∧ t.sent = s.sent ∧ t.tick = s.tick ∧ t.sec.ownerKeys = s.sec.ownerKeys ∧ t.meter = [] ∧
      t.captain = [] ∧ t.stoker = [] ∧ t.lb = State.reset.lb ∧ t.ws = State.reset.ws ∧ t.pel = State.reset.pel
    (s.pwr.pwrGood = true →
      (Completes .thermtrip s fun t => lost t ∧ t.pwr.thermtrip = true ∧ t.pwr.cause = 6 ∧ t.pwr.auxOn = s.pwr.auxOn) ∧
      (Completes .mainInputFault s fun t => lost t ∧ t.pwr.mainOn = false ∧ t.pwr.supplyFault = true ∧ t.alert = true) ∧
      (Completes .pwrEnFall s fun t => lost t ∧ t.pwr.pwrEn = false ∧ t.pwr.thermtrip = false)) ∧
    (Completes .auxInputFault s fun t => lost t ∧ t.pwr.auxOn = false ∧ t.pwr.cause = 1) ∧
    (∀ plca, s.pwr.auxOn = false → Completes (.auxPowerOn plca) s fun t => t.pwr.auxOn = true ∧ t.tick = 0 ∧ t.bell = State.reset.bell ∧
      t.odv K.srcReady = 1 ∧ t.odv K.pilotSrc = 0 ∧ t.odv K.plcaId = plca % 32 ∧ t.odv K.clkRunning = 9 ∧
      s.odSame [K.srcReady, K.pilotSrc, K.plcaId, K.clkRunning] t ∧ s.sameBut [.tick, .bell, .pwr, .od] t) ∧
    (s.pwr.auxOn = true → s.pwr.pwrGood = false → s.pwr.thermtrip = false → Completes .regulatorStart s fun t =>
      t.pwr.pwrGood = true ∧ t.pwr.starting = 1 ∧
      (∀ k, k ∉ [K.srcReady, K.pilotSrc, K.plcaId, K.rollback, K.resetCause] →
        (∀ x ∈ s.dict.savedTrims ++ s.pwr.saved, x.1 ≠ k) → t.odv k = odDefault k) ∧
      t.odv K.resetCause = (if s.pwr.cause = 6 then 6 else 1) ∧ t.attic = Mem.empty ∧ t.cellar = Mem.empty ∧ t.larder = Mem.empty ∧
      t.host = s.host ∧ t.pending = s.pending ∧ t.sent = s.sent ∧ t.tick = s.tick ∧ t.sec.ownerKeys = s.sec.ownerKeys) ∧
    (s.pwr.thermtrip = true → Completes .regulatorStart s fun t => t = s)

/-- During a start. BS0 locks MGMT_PLL at 1,000 MHz, opens Housekeeping and runs the boot slot if its images verify,
else the other slot with the SLOT fault bit set, else neither, with ALERT# asserted. BS1 follows once firmware runs and
the crystal is judged or given up, and starts port 0's training if it is DOWN and PERST0# is high. BRINGUP_GO releases a
held start. BS2 with a memory that fails training only sets its fault bits; otherwise it reaches Service with the Larder
empty, HALL_PLL running, the Front Room in its quarter state, the Back Room not in service, the enable bits of
Letterbox, Porch, Landing, Front Room, Workshop, Peloton, Glazia and export set, and the library of the running slot
installed if it verifies. BS3 ends the start: it enables the Back Room, gives it its state from the lane margins and, on
a cold start, its self-test, and raises BRINGUP_STAGE. (R98, R284, R340, R449, R496, R498, R499, R500, R501, R551) -/
def Obligations.BringUpStages : Prop :=
  ∀ s : State, s.powered = true → s.pwr.starting ≠ 0 →
    (s.odv K.bringupStage = 0 → s.pllState 2 = 0 → Completes .bs0Entry s fun t =>
      let a := s.odv K.bootSlot
      t.pllState 2 = 2 ∧ t.odv (K.pllMhz 2) = 1000 ∧ t.odv K.clkRunning = 15 ∧ t.odv K.clkEnable = 15 ∧ t.odv K.pwrState = 1 ∧
      t.odv K.bringupStage = 0 ∧
      (s.slotVerifies (s.sec.slot a) = true → t.odv K.runningSlot = a ∧ t.odv K.bringupFaults = s.odv K.bringupFaults ∧ t.pwr = s.pwr) ∧
      (s.slotVerifies (s.sec.slot a) = false → s.slotVerifies (s.sec.slot (1 - a)) = true →
        t.odv K.runningSlot = 1 - a ∧ t.odv K.bringupFaults = s.odv K.bringupFaults ||| 64 ∧ t.pwr = s.pwr) ∧
      (s.slotVerifies (s.sec.slot a) = false → s.slotVerifies (s.sec.slot (1 - a)) = false →
        t.odv K.runningSlot = s.odv K.runningSlot ∧ t.pwr.noFirmware = true ∧ t.alert = true) ∧
      s.sameBut [.od, .pwr, .freeCtr] t) ∧
    (s.odv K.bringupStage = 0 → s.pllState 2 ≠ 0 → s.pwr.noFirmware = false →
      s.srcIsReady 1 = true ∨ bit (s.odv K.bringupFaults) 0 = true → Completes .bs1Entry s fun t =>
      t.odv K.bringupStage = 1 ∧
      t.odv (K.portState 0) = (if s.pwr.perstLow0 = false ∧ s.odv (K.portState 0) = 0 then 1 else s.odv (K.portState 0)) ∧
      (bit (s.odv K.bringupFaults) 0 = true → Bell.clkSourceLost ∈ t.bell.level) ∧
      s.odSame [K.bringupStage, K.portState 0, K.portWidth 0, K.portRate 0] t ∧ s.sameBut [.od, .bell] t) ∧
    (∀ w data, s.WriteOk w 0x01014 0 data → Completes (.bringupGo w data) s fun t =>
      t.pwr = { s.pwr with released := true } ∧ s.served w t ∧ s.sameBut [.pwr, .meter, .sent] t) ∧
    (s.odv K.bringupStage = 1 → (s.odv K.bringupHold = 1 → s.pwr.released = true) →
      (∀ a c, (a || c) = true → Completes (.bs2Entry a c) s fun t =>
        t.odv K.bringupFaults = s.odv K.bringupFaults ||| ((if a then 2 else 0) + (if c then 4 else 0)) ∧
        s.odSame [K.bringupFaults] t ∧ s.sameBut [.od] t) ∧
      Completes (.bs2Entry false false) s fun t =>
        t.odv K.bringupStage = 2 ∧ t.odv K.pwrState = 2 ∧ t.odv K.frontMode = 1 ∧ t.odv K.backMode = 0 ∧ t.larder = Mem.empty ∧
        (∀ b ∈ [4, 5, 6, 7, 9, 11, 12, 13], bit (t.odv K.clkEnable) b = true) ∧ t.pllState 1 ≠ 0 ∧
        Bell.bringupStage ∈ t.bell.level ∧
        (s.imgVerifies 3 (s.runningImage 3) = true → t.sec.libActive = s.runningImage 3 ∧ t.odv K.libState = 1) ∧
        (s.imgVerifies 3 (s.runningImage 3) = false → Bell.wsLibFail ∈ t.bell.level ∧ t.odv K.libState = s.odv K.libState)) ∧
    (s.odv K.bringupStage = 2 → (∀ o ∈ s.lb.ops, o.target ≠ .front) → ∀ fb bb p1, Completes (.bs3Entry fb bb p1) s fun t =>
      let cold := s.pwr.starting = 1
      t.odv K.bringupStage = 3 ∧ t.pwr.starting = 0 ∧ bit (t.odv K.clkEnable) 8 = true ∧ bit (t.odv K.clkEnable) 10 = true ∧
      t.odv K.frontMode = (if fb = true ∧ cold then 0 else s.marginMode [1, 2]) ∧
      t.odv K.backMode = (if bb = true ∧ cold then 0 else s.marginMode [3, 4, 5, 6]) ∧
      t.odv K.bringupFaults = s.odv K.bringupFaults ||| ((if fb = true ∧ cold then 8 else 0) + (if bb = true ∧ cold then 16 else 0) +
        (if p1 then 32 else 0)) ∧
      Bell.bringupStage ∈ t.bell.level)

/-- A RESET_CMD write is answered, and asks for its reset, as do the KEEP_HOUSE# pin and a watchdog; nothing else
changes until the reset begins. A keep-house reset, with stored training results, keeps the Attic, the Cellar, the
host's memory, both Tandem sets, every DOMAIN value, the rule image, which groups expelled the module, the fuses, the
Pilot time and which latched sources are high; it empties the Larder, the Letterbox's queues, the rooms, the Porch, the
Workshop and the Meter, takes the enable bits and the bring-up stage back, and records its cause. Without stored
training results, and for RESET_CMD 0x02, a cold start follows: all memories are empty, both Tandem sets at their
defaults, every object without a place in the Pilot domain, the fuses or the flash at its default, causes 7 and 4. The
rise of KEEP_HOUSE# lets bring-up start. (R443, R502, R503, R504, R505, R506, R507) -/
def Obligations.ResetsKeepAndLose : Prop :=
  ∀ s : State,
    let defaults : State → Prop := fun t => ∀ k, k ∉ [K.srcReady, K.pilotSrc, K.plcaId, K.rollback, K.resetCause] →
        (∀ x ∈ s.dict.savedTrims ++ s.pwr.saved, x.1 ≠ k) → t.odv k = odDefault k
    let cold : Nat → State → Prop := fun cause t => t.attic = Mem.empty ∧ t.cellar = Mem.empty ∧ t.larder = Mem.empty ∧ t.host = s.host ∧
        t.captain = [] ∧ t.stoker = [] ∧ t.meter = [] ∧ t.tick = s.tick ∧ t.sec.ownerKeys = s.sec.ownerKeys ∧ t.pending = s.pending ∧
        t.odv K.resetCause = cause ∧ defaults t ∧ t.pwr.starting = 1 ∧ t.pwr.resets = []
    (∀ w, s.WriteOk w 0x01010 0 [2] → s.powered = true → Completes (.full w) s fun t =>
      t.pwr = { s.pwr with resets := s.pwr.resets ++ [4] } ∧ s.served w t ∧ s.sameBut [.pwr, .meter, .sent] t) ∧
    (∀ w, s.WriteOk w 0x01010 0 [1] → s.powered = true → Completes (.keepHouse w) s fun t =>
      t.pwr = { s.pwr with resets := s.pwr.resets ++ [3] } ∧ s.served w t ∧ s.sameBut [.pwr, .meter, .sent] t) ∧
    (s.pwr.pwrGood = true → s.pwr.thermtrip = false → Completes .keepHousePin s fun t =>
      t.pwr = { s.pwr with keepHouseLow := true, resets := s.pwr.resets ++ [2] } ∧ s.sameBut [.pwr] t) ∧
    (∀ h, h < 4 → s.powered = true → Completes (.hartWatchdog h) s fun t =>
      t.pwr = { s.pwr with resets := s.pwr.resets ++ [5] } ∧ s.sameBut [.pwr] t) ∧
    (∀ c, s.pwr.resets.find? (fun c => c != 4) = some c → s.pwr.trained = true → s.pwr.retrain = false →
      Completes .keepHouseResetBegin s fun t =>
        t.attic = s.attic ∧ t.cellar = s.cellar ∧ t.host = s.host ∧ t.captain = s.captain ∧ t.stoker = s.stoker ∧
        t.domains = s.domains ∧ t.tick = s.tick ∧ t.sec.ownerKeys = s.sec.ownerKeys ∧ t.pending = s.pending ∧ t.tap = s.tap ∧
        t.pel.expelled = s.pel.expelled ∧ t.gz.image = s.gz.image ∧
        (∀ n, bellLatched n = true → n ∈ s.bell.level → n ∈ t.bell.level) ∧
        t.odv K.swapCount = s.odv K.swapCount ∧ t.odv K.dirty = s.odv K.dirty ∧ t.odv K.resetCause = c ∧
        t.larder = Mem.empty ∧ t.lb = State.reset.lb ∧ t.rooms = State.reset.rooms ∧ t.porch = State.reset.porch ∧
        t.ws = State.reset.ws ∧ t.meter = [] ∧ t.odv K.clkEnable = odDefault K.clkEnable ∧ t.odv K.bringupStage = 0 ∧
        t.odv K.pwrState = odDefault K.pwrState ∧ t.dict.sessions = [] ∧ t.pwr.starting = 2 ∧ t.pwr.resets = [] ∧ t.pwr.inReset = s.pwr.keepHouseLow) ∧
    (4 ∈ s.pwr.resets → Completes .coldStartBegin s (cold 4)) ∧
    (∀ c, s.pwr.resets.find? (fun c => c != 4) = some c → s.pwr.trained = false ∨ s.pwr.retrain = true →
        Completes .keepHouseResetBegin s (cold 7)) ∧
    (Completes .keepHouseRise s fun t => t.pwr = { s.pwr with keepHouseLow := false, inReset := false } ∧ s.sameBut [.pwr] t)

/-- An idle module in Service whose time-out comes (PWR_HK_IDLE_MS not 0), or that is asked, enters Housekeeping: ARRAY,
HALL and CELLAR PLL off, only the always-on clocks running, and the entry counted. A request for Pilot, with both PERST#
low, from Housekeeping or from an idle Service, turns MGMT_PLL off, keeps only the Pilot and Xaxia clocks, closes the
sessions and counts the entry. A request for Service from Housekeeping, from BS2 on, and a demand on a station, reach
Service with HALL_PLL running. A module in Pilot wakes for an enabled source that is high, the wake frame, or a PERST#
that is no longer low, and records which. (R459, R491, R492, R493, R494, R521) -/
def Obligations.PowerStatesMove : Prop :=
  ∀ s : State,
    let inHk : State → Prop := fun t => t.odv K.pwrState = 1 ∧ t.pllState 0 = 0 ∧ t.pllState 1 = 0 ∧ t.pllState 3 = 0 ∧
      t.odv K.clkRunning = s.odv K.clkRunning % 16 ∧ t.ctr Ctr.pwrHk = (s.ctr Ctr.pwrHk + 1) % 2 ^ 64
    let allowed : Way → Nat → Prop := fun w v => s.WriteOk w 0x01033 0 [BitVec.ofNat 8 v]
    (s.powered = true → s.odv K.pwrState = 2 → s.idle = true → s.cap (okey 0x01031 0) ≠ 0 → Completes .pwrHkIdle s fun t =>
      inHk t ∧ s.sameBut [.od, .meter] t) ∧
    (∀ w, allowed w 2 → s.odv K.pwrState = 2 → Completes (.housekeeping w) s fun t =>
      inHk t ∧ s.answers w 0 t ∧ s.sameBut [.od, .meter, .sent] t) ∧
    (∀ w, allowed w 1 → Completes (.pilot w) s fun t =>
      t.odv K.pwrState = 0 ∧ t.pllState 2 = 0 ∧ t.odv K.clkRunning = 9 ∧ t.dict.sessions = [] ∧
      t.ctr Ctr.pwrPilot = (s.ctr Ctr.pwrPilot + 1) % 2 ^ 64 ∧ s.answers w 0 t ∧ s.sameBut [.od, .dict, .meter, .sent] t) ∧
    (∀ w, allowed w 3 → Completes (.service w) s fun t =>
      t.odv K.pwrState = 2 ∧ t.pllState 1 ≠ 0 ∧ s.served w t ∧ s.odSame [K.pwrState, K.pllSt 1, K.pllMhz 1] t ∧
      s.sameBut [.od, .meter, .sent] t) ∧
    (∀ l, (∀ b ∈ l, b < 14) → s.powered = true → s.odv K.pwrState = 1 → 2 ≤ s.odv K.bringupStage → Completes (.wakeToService l) s fun t =>
      t.odv K.pwrState = 2 ∧ t.pllState 1 ≠ 0 ∧ t.ctr Ctr.pwrWakeWaits = (s.ctr Ctr.pwrWakeWaits + 1) % 2 ^ 64 ∧
      (∀ b ∈ l, bit (s.odv K.clkEnable) b = true → bit (t.odv K.clkRunning) b = true) ∧ s.sameBut [.od, .meter] t) ∧
    (∀ c, s.powered = true → s.odv K.pwrState = 0 → s.odv K.bringupStage ≠ 0 →
      (c = 1 ∧ s.anyEnabledHigh = true) ∨ c = 2 ∨ (c = 3 ∧ s.pwr.perstLow0 = false) ∨ (c = 4 ∧ s.pwr.perstLow1 = false) →
      Completes (.pilotWake c) s fun t => t.odv K.pwrState = 1 ∧ t.odv K.wakeCause = c ∧ t.pllState 2 = 2 ∧
        t.odv K.clkRunning = 15 ∧ t.ctr Ctr.pwrHk = (s.ctr Ctr.pwrHk + 1) % 2 ^ 64 ∧ s.sameBut [.od, .meter] t) ∧
    (∀ p sid, s.powered = true → s.odv K.pwrState = 0 → s.odv K.bringupStage ≠ 0 → s.xaxiaOn = true →
      Completes (.housekeeping (.xaxia p sid)) s fun t => t.odv K.pwrState = 1 ∧ t.odv K.wakeCause = 2 ∧
        s.answers (.xaxia p sid) 0 t ∧ s.sameBut [.od, .meter, .sent] t)

/-- An accepted write of source n's route changes no route in effect; in the Pilot tick after it, the host part of the
route is the value written, the hart part stays, and no other route changes. A target that a high source is newly routed
to has one rise more and waits; every other target keeps its count, also the one a high source is unrouted from. (The
tick is the step on an empty queue, log 2.) (R514) -/
def Obligations.RouteTakesEffectNextTick : Prop :=
  ∀ (n : Nat) (s : State), n < 1024 →
    (∀ w data, s.WriteOk w (0x09400 + n) 0 data → Completes (.bellRoute w n data) s fun t =>
      (∀ j, t.bellRoute j = s.bellRoute j) ∧ (n, ofBytes data % 4096) ∈ t.bell.newRoutes ∧
      (∀ x, t.bellTarget x = s.bellTarget x) ∧ s.served w t ∧ s.sameBut [.od, .bell, .meter, .sent] t) ∧
    (∀ v, s.pending = [] → s.pwr.auxOn = true → s.bell.newRoutes = [(n, v)] → v < 4096 → ∃ t, step s = .next t ∧
      t.bellRoute n = v + aget 0 s.bell.hartRoutes n ∧ (∀ j, j ≠ n → t.bellRoute j = s.bellRoute j) ∧ t.bell.newRoutes = [] ∧
      t.bell.level = s.bell.level ∧
      ∀ x, (n ∈ s.bell.level → x ∈ t.bellTargetsOf n → x ∉ s.bellTargetsOf n →
          (t.bellTarget x).count = (s.bellTarget x).count + 1 ∧ (t.bellTarget x).waiting = true) ∧
        (n ∉ s.bell.level ∨ x ∉ t.bellTargetsOf n ∨ x ∈ s.bellTargetsOf n →
          (t.bellTarget x).count = (s.bellTarget x).count ∧ (t.bellTarget x).waiting = (s.bellTarget x).waiting))

/-- An accepted write of BELL_CLEAR lowers the latched source it names, but leaves a source high whose event is of the
same Pilot tick; no other source changes. A number that is reserved or names a held source is answered OUT_OF_RANGE and
changes nothing. An acknowledgement of host vector v, over BAR0 or by a write of BELL_ACK: not in service, it is ignored
and counted in BELL_ACK_IGNORED; in service it ends the service, and with a high source routed to v and none waiting
pends v again with count 1, so that it is met again exactly under its own limits. (R512, R517) -/
def Obligations.SourcesClearAndVectorsAcknowledge : Prop :=
  ∀ s : State,
    (∀ w data, s.WriteOk w 0x09002 0 data → Completes (.bellClear w data) s fun t =>
      let n := ofBytes data
      (∀ m, m ∈ t.bell.level ↔ m ∈ s.bell.level ∧ (m ≠ n ∨ aget 0 s.bell.raisedAt n = s.tick + 1)) ∧ bellLatched n = true ∧
      s.served w t ∧ s.sameBut [.bell, .meter, .sent] t) ∧
    (∀ w data, s.reachable w = true → s.writeForm w 0x09002 0 ((objInfo 0x09002 0).elim 0 (·.ty)) data = 0 →
      s.relocking 0x09002 0 = false → bellLatched (ofBytes data) = false →
      Completes (.bellClear w data) s fun t => s.answers w Abort.outOfRange t ∧ s.sameBut [.meter, .sent] t) ∧
    (∀ v, v < 2048 →
      let acked : State → Prop := fun t =>
        ((s.bellTarget v).inService = false → t.bell = s.bell ∧ t.ctr Ctr.bellAckIgnored = (s.ctr Ctr.bellAckIgnored + 1) % 2 ^ 64) ∧
        ((s.bellTarget v).inService = true →
          (s.bellAnyHigh v = true → (s.bellTarget v).waiting = false →
            t.bellTarget v = ⟨1, 0, true, false⟩ ∧ t.ctr Ctr.bellRepends = (s.ctr Ctr.bellRepends + 1) % 2 ^ 64 ∧
            (t.bellMet v = true ↔ bits (t.bellLimits v) 0 16 ≤ 1 ∨ bits (t.bellLimits v) 16 24 = 0)) ∧
          (s.bellAnyHigh v = false ∨ (s.bellTarget v).waiting = true →
            t.bellTarget v = { s.bellTarget v with inService := false })) ∧
        (∀ x, x ≠ v → t.bellTarget x = s.bellTarget x) ∧ t.bell.level = s.bell.level
      (Completes (.bellAck none v) s fun t => acked t ∧ s.sameBut [.bell, .meter] t) ∧
      (∀ w, s.WriteOk w 0x09003 0 (leBytes 2 v) → Completes (.bellAck (some w) v) s fun t =>
        acked t ∧ s.answers w 0 t ∧ s.sameBut [.bell, .meter, .sent] t))

/-- With the auxiliary supply on and delivery enabled, a target that is met and not in service is delivered: its count
is 0, it waits no more and is in service; a hart gets its interrupt, a vector its MSI-X message, or its pending bit
while it or the function is masked; otherwise nothing happens. A write of a vector's limits that nothing waits on only
stores them. A write of 0 to BELL_GLOBAL_EN delivers nothing; a write of 1 leaves no met target that is not in service.
Clearing a vector's mask, or the function mask, sends the messages of its pending bits that are masked no more. (R515,
R516, R519, R520) -/
def Obligations.TargetsDeliver : Prop :=
  ∀ s : State,
    (∀ x, x < 2052 → s.pwr.auxOn = true → s.bellMet x = true → (s.bellTarget x).inService = false → s.bellGlobal = true →
      Completes (.bellDeliver x) s fun t =>
        t.bellTarget x = { s.bellTarget x with count := 0, waiting := false, inService := true } ∧
        (∀ y, y ≠ x → t.bellTarget y = s.bellTarget y) ∧
        (x < 2048 → s.bell.functionMask = false → s.bell.unmasked.contains x = true → t.sent = s.sent ++ [.msix x]) ∧
        (x < 2048 → s.bell.functionMask = true ∨ s.bell.unmasked.contains x = false → t.sent = s.sent ∧ x ∈ t.bell.pendingBits) ∧
        (2048 ≤ x → t.sent = s.sent ++ [.hartIrq (x - 2048)]) ∧
        s.counted [(if x < 2048 then Ctr.bellHost else Ctr.bellHart, 1)] t ∧ s.sameBut [.bell, .meter, .sent] t) ∧
    (∀ x, s.bellMet x = false ∨ (s.bellTarget x).inService = true ∨ s.bellGlobal = false → Completes (.bellDeliver x) s fun t => t = s) ∧
    (∀ w v data, v < 2048 → s.WriteOk w (0x09800 + v) 0 data → (s.bellTarget v).waiting = false →
      Completes (.bellVector w v data) s fun t => t.odv (okey (0x09800 + v) 0) = ofBytes data % 2 ^ 40 ∧
        s.odSame [okey (0x09800 + v) 0] t ∧ s.served w t ∧ s.sameBut [.od, .meter, .sent] t) ∧
    (∀ w data, s.WriteOk w 0x09000 0 data → Completes (.bellGlobalEn w data) s fun t =>
      (∃ ms b, t.sent = s.sent ++ ms ++ [.response (w.peer.elim 0 (· + 1)) 0 b]) ∧
      (ofBytes data = 0 → t.bellGlobal = false ∧ t.bell = s.bell ∧ s.served w t) ∧
      (ofBytes data = 1 → t.bellGlobal = true ∧ ∀ x, x < 2052 → t.bellMet x = true → (t.bellTarget x).inService = true) ∧
      s.odSame [okey 0x09000 0] t ∧ s.sameBut [.od, .bell, .meter, .sent] t) ∧
    (∀ v, v < 2048 → Completes (.msixUnmask v) s fun t =>
      v ∈ t.bell.unmasked ∧ t.sent = s.sent ++ (if s.bell.functionMask then [] else (s.bell.pendingBits.filter (· == v)).map .msix) ∧
      (∀ x, x ≠ v → (x ∈ t.bell.pendingBits ↔ x ∈ s.bell.pendingBits)) ∧ s.sameBut [.bell, .sent] t) ∧
    (Completes (.msixUnmask 2048) s fun t => t.bell.functionMask = false ∧
      t.sent = s.sent ++ (s.bell.pendingBits.filter s.bell.unmasked.contains).map .msix ∧ s.sameBut [.bell, .sent] t)

/-- An accepted write of METER_SNAP, a heard SNAPSHOT and an OD_SNAPSHOT (in an owner session where one is required) set
edge E six ticks on unless an edge is already pending, count nothing, and wait for it. At the edge every Meter unit is
copied into its shadow as it stood two ticks before (of the units, only the ticks at a throttle level and the ticks in
which the Bellboard was held grow with time), the snapshot number increments modulo 2^32, SNAP_TICK is E, every access
that waited is answered once, and no edge is pending. (R462, R524, R525, R526, R527, R528) -/
def Obligations.SnapshotsCopyTheMeter : Prop :=
  ∀ s : State,
    let waits : State → Prop := fun t => (∀ e, s.mtr.edge = some e → t.mtr = s.mtr) ∧
      (s.mtr.edge = none → t.mtr = { s.mtr with edge := some (s.tick + 6), cut := none }) ∧ t.sent = s.sent ∧
      (t.dict.held.filter fun h => h.cause == 2).length = (s.dict.held.filter fun h => h.cause == 2).length + 1 ∧
      s.sameBut [.mtr, .dict] t
    (∀ w data, s.WriteOk w 0x0A000 0 data → Completes (.meterSnap w data) s waits) ∧
    (∀ p d, s.Heard 7 p d → xBody d = [] → s.odv K.bringupStage ≠ 0 → s.odv K.pwrState ≠ 0 →
      (s.noteSeq (ofBytes (d.take 32))).sessionBad (wayOf p d) = false →
      (s.odv (okey 0x0B104 0) = 1 → (s.noteSeq (ofBytes (d.take 32))).owns (wayOf p d) = true) → Completes (.snapshot p d) s waits) ∧
    (∀ pay, s.mboxOn = true → pay.length = 4 → s.odv K.pwrState ≠ 0 → (s.odv (okey 0x0B104 0) = 1 → s.owns .mailbox = true) →
      Completes (.odSnapshot pay) s waits) ∧
    let level := Ctr.thermTicks + s.odv (okey 0x01051 0)
    (∀ e, s.mtr.edge = some e → Completes .snapshotEdge s fun t =>
      t.mtr.edge = none ∧ t.tick = (if s.tick < e then e % 2 ^ 64 else s.tick) ∧
      (∀ c, s.mtr.cut = some c → e ≤ s.tick + 2 → t.mtr.shadow = c.1) ∧
      (s.tick + 2 < e → ∀ u, aget 0 t.mtr.shadow u = s.ctr u ∨ u = Ctr.bellHeld ∨
        (u = level ∧ s.pwr.pwrGood = true ∧ aget 0 t.mtr.shadow u = (s.ctr u + (e - 2 - s.tick)) % 2 ^ 64)) ∧ t.odv (okey 0x0A002 0) = e ∧
      t.odv (okey 0x0A001 0) = (s.odv (okey 0x0A001 0) + 1) % 2 ^ 32 ∧ s.odSame [okey 0x0A001 0, okey 0x0A002 0] t ∧
      (∀ h, h ∈ t.dict.held ↔ h ∈ s.dict.held ∧ h.cause ≠ 2) ∧
      t.sent.length = s.sent.length + (s.dict.held.filter fun h => h.cause == 2).length ∧
      s.sameBut [.tick, .od, .mtr, .dict, .meter, .sent, .bell] t)

/-- A training port whose link may be up takes the greatest common width of 16, 8 and 4 and rate of 128, 64 and 32
within its CXL_MAX_RATE, is UP and counts one training; with no common width or rate it is DOWN. A DOWN port that may be
up and whose PERST# is high tries again. A port that is not DOWN and falls, while no Peloton operation runs, is DOWN
with width and rate 0, raises CXL_LINK and counts. PERST0# also returns the function's MSI-X masks, pending bits and
table to their defaults and closes the mailbox session. When PERST# rises a module in Pilot wakes, with its cause. An
integrity failure makes the port's IDE state insecure, raises CXL_LINK and counts. (R492, R503, R535, R536, R537, R547)
-/
def Obligations.PortsTrainAndFall : Prop :=
  ∀ (p : Nat) (s : State), p < 2 →
    let low := if p = 0 then s.pwr.perstLow0 else s.pwr.perstLow1
    let link := [K.portState p, K.portWidth p, K.portRate p]
    (∀ width rate, s.odv (K.portState p) = 1 → s.portAllowed p = true → Completes (.linkTrained p width rate) s fun t =>
      let r := min rate (s.odv (K.portMaxRate p))
      (4 ≤ width → 32 ≤ r → t.odv (K.portState p) = 2 ∧
        t.odv (K.portWidth p) = (if 16 ≤ width then 16 else if 8 ≤ width then 8 else 4) ∧
        t.odv (K.portRate p) = (if 128 ≤ r then 128 else if 64 ≤ r then 64 else 32) ∧ s.counted [(Ctr.retrains + p, 1)] t) ∧
      (width < 4 ∨ r < 32 → t.odv (K.portState p) = 0 ∧ t.meter = s.meter) ∧
      Bell.cxlLink ∈ t.bell.level ∧ s.odSame link t ∧ s.sameBut [.od, .bell, .meter] t) ∧
    (s.odv (K.portState p) = 0 → s.portAllowed p = true → low = false → Completes (.linkRetry p) s fun t =>
      t.odv (K.portState p) = 1 ∧ s.odSame link t ∧ s.sameBut [.od, .bell] t) ∧
    (let fallen : State → Prop := fun t => t.odv (K.portState p) = 0 ∧ s.odSame link t ∧
        (s.odv (K.portState p) ≠ 0 → t.odv (K.portWidth p) = 0 ∧ t.odv (K.portRate p) = 0 ∧ Bell.cxlLink ∈ t.bell.level ∧
          s.counted [(Ctr.linkDowns + p, 1)] t)
     (∀ r ∈ s.pel.runs, r.stopped = true) →
      (Completes (.linkDown p) s fun t => fallen t ∧ s.sameBut [.od, .bell, .meter] t) ∧
      (Completes (.perstAssert p) s fun t => fallen t ∧
        (if p = 0 then t.pwr.perstLow0 else t.pwr.perstLow1) = true ∧
        (p = 0 → t.bell.unmasked = [] ∧ t.bell.functionMask = false ∧ t.bell.pendingBits = [] ∧ t.bell.msix = [] ∧
          ∀ x, x ∈ t.dict.sessions ↔ x ∈ s.dict.sessions ∧ x.peer.isSome = true) ∧ s.sameBut [.od, .bell, .meter, .pwr, .dict] t)) ∧
    (Completes (.perstDeassert p) s fun t => (if p = 0 then t.pwr.perstLow0 else t.pwr.perstLow1) = false ∧
      (s.powered = true → s.odv K.pwrState = 0 → s.odv K.bringupStage ≠ 0 →
        t.odv K.pwrState = 1 ∧ t.odv K.wakeCause = 3 + p ∧ t.pllState 2 = 2) ∧
      (s.odv (K.portState p) = 0 → s.portAllowed p = true → t.odv (K.portState p) = 1) ∧
      s.sameBut [.od, .bell, .meter, .pwr] t) ∧
    (Completes (.ideIntegrityFail p) s fun t => t.odv (K.portIde p) = 2 ∧ Bell.cxlLink ∈ t.bell.level ∧
      s.counted [(Ctr.ideFails + p, 1)] t ∧ s.odSame [K.portIde p] t ∧ s.sameBut [.od, .bell, .meter] t)

/-- At an UP port, in Service: a write that falls in BAR2's Attic or Larder window or in decoder 0 stores its bytes
there and nowhere else, is answered, and, when it came poisoned, poisons the sectors it touches and is counted, while a
whole clean sector's mark is cleared; a write through decoder 1 is dropped, counted and answered; one that falls in no
window is answered with Unsupported Request and changes nothing; one to a window of BAR2 at a port whose IDE stream is
insecure is dropped (that it is the stream which carries it is the model's choice, log 67). A read of a window returns
its bytes and the poisoned sectors among them; through a decoder the lines read are in the snoop filter from then on,
and nothing leaves the filter while it has room. The response to a BISnpInv takes the line out of the filter, that to a
BISnpData lets the read go on. (R539, R544, R545, R547, R561, R563) -/
def Obligations.InboundAccessesLand : Prop :=
  ∀ (port : Nat) (s : State), port < 2 → s.odv (K.portState port) = 2 → 2 ≤ s.odv K.bringupStage →
    s.odv K.pwrState = 2 →
    (∀ path addr data poison sp a, path ∈ [1, 2] → (path = 1 → s.insecure port = false) → s.window path addr data.length true = some (sp, a) →
      Completes (.inboundWrite port path addr data poison) s fun t =>
        (∀ i (h : i < data.length), t.byteAt sp (a + i) = data[i]) ∧ s.bytesSame sp a data.length t ∧
        t.sent = s.sent ++ [.frame 0x32 0 port [] []] ∧
        (poison = true → (∀ i, i < data.length → (t.mem sp).poisonedAt (a + i) = true) ∧ s.counted [(Ctr.poisonInbound, 1)] t) ∧
        (poison = false → t.meter = s.meter ∧
          ∀ k, (k ∈ (t.mem sp).poison ↔ k ∈ (s.mem sp).poison ∧ ¬(a ≤ 32 * k ∧ 32 * k + 32 ≤ a + data.length))) ∧
        s.sameBut [.attic, .larder, .meter, .sent] t) ∧
    (∀ addr data poison x, s.window 3 addr data.length true = some x → Completes (.inboundWrite port 3 addr data poison) s fun t =>
      s.counted [(Ctr.hdmWriteDrops, 1)] t ∧ t.sent = s.sent ++ [.frame 0x32 0 port [] []] ∧ s.sameBut [.meter, .sent] t) ∧
    (∀ path addr data poison, path ∈ [1, 2, 3] → (path = 1 → s.insecure port = false) → s.window path addr data.length true = none →
      Completes (.inboundWrite port path addr data poison) s fun t =>
        t.sent = s.sent ++ [.frame 0x31 0 port [] []] ∧ s.sameBut [.sent] t) ∧
    (s.insecure port = true → ∀ addr data poison n, (Completes (.inboundWrite port 1 addr data poison) s fun t => t = s) ∧
      Completes (.inboundRead port 1 addr n) s fun t => t = s) ∧
    (∀ path addr n sp a, path ∈ [1, 2, 3] → (path = 1 → s.insecure port = false) → s.window path addr n false = some (sp, a) → Completes (.inboundRead port path addr n) s fun t =>
      (∃ bad, t.sent = s.sent ++ [.frame 0x30 0 port ((List.range n).map fun i => s.byteAt sp (a + i)) bad] ∧
        ∀ i, i ∈ bad ↔ i < (a + n + 31) / 32 - a / 32 ∧ a / 32 + i ∈ (s.mem sp).poison) ∧
      (path = 1 → s.sameBut [.sent] t) ∧
      (path ≠ 1 → s.cxl.snoop.length + ((addr + n + 63) / 64 - addr / 64) ≤ 1048576 →
        (∀ i, i < (addr + n + 63) / 64 - addr / 64 →
          lineOf (path == 3) (if path = 3 then 64 * (addr / 64 + i) else 64 * (a / 64 + i)) ∈ t.cxl.snoop) ∧
        s.cxl.snoop <+: t.cxl.snoop ∧ s.sameBut [.cxl, .sent] t)) ∧
    (∀ line inv, s.cxl.asked.find? (fun x => x.1 == line) = some (line, inv) → Completes (.bisnpResponse line) s fun t =>
      (line, inv) ∉ t.cxl.asked ∧ (inv = true → line ∉ t.cxl.snoop) ∧ (inv = false → line ∈ t.cxl.answered) ∧ s.sameBut [.cxl] t)

/-- SEC_SVN_COMMIT raises the rollback number to the running slot's smallest SVN and never lowers it. SEC_FW_COMMIT
starts to write the staged images exactly when they verify, else it is answered SIGNATURE; when the write is done they
are in the slot that is not running. SEC_OWNER_KEY_NEXT fuses one hash more exactly when both slots are signed by it. An
unlock token that verifies lifts the debug lock, another is answered SIGNATURE. In BS0, images that verify go into slot
A by the test port and boot next, others change nothing. An SPDM request over an UP port is answered with one frame, as
part of the path's conversation, which GET_VERSION starts afresh; one that carries an IDE key makes the port secure.
(What verifies is the signature check's answer, and the SPDM response's bytes are free, log 45.) (R547, R550, R552,
R553, R554, R555, R556, R557, R559) -/
def Obligations.FirmwareKeysAndAttestation : Prop :=
  ∀ s : State,
    (∀ w data, s.WriteOk w 0x0B003 0 data → Completes (.secSvnCommit w data) s fun t =>
      t.odv K.rollback = max (s.odv K.rollback) s.runningSvn ∧ s.odSame [K.rollback] t ∧ s.served w t ∧
      s.sameBut [.od, .meter, .sent] t) ∧
    (∀ w data, s.WriteToContent w 0x0B011 0 data → Completes (.secFwCommit w data) s fun t =>
      (s.slotVerifies (s.domain K.fwImage) = true → t.odv K.fwState = 1 ∧ t.sec = { s.sec with writing := some (s.domain K.fwImage) } ∧
        s.odSame [K.fwState] t ∧ s.served w t ∧ s.sameBut [.od, .sec, .meter, .sent] t) ∧
      (s.slotVerifies (s.domain K.fwImage) = false → s.answers w Abort.signature t ∧ s.sameBut [.meter, .sent] t)) ∧
    (∀ b, s.sec.writing = some b → Completes .fwWriteDone s fun t => t.odv K.fwState = 2 ∧ t.sec.writing = none ∧
      t.sec.slot (1 - s.odv K.runningSlot) = b ∧ t.sec.ownerKeys = s.sec.ownerKeys ∧ s.odSame [K.fwState] t ∧ s.sameBut [.od, .sec] t) ∧
    (∀ w data, s.WriteToContent w 0x0B020 0 data → Completes (.secOwnerKeyNext w data) s fun t =>
      let hash := leBytes 64 (ofBytes data)
      (s.bothSigned hash = true → t.sec = { s.sec with ownerKeys := s.sec.ownerKeys ++ [hash] } ∧ t.ownerHash = some hash ∧
        s.served w t ∧ s.sameBut [.sec, .meter, .sent] t) ∧
      (s.bothSigned hash = false → s.answers w Abort.signature t ∧ s.sameBut [.meter, .sent] t)) ∧
    (∀ w token, s.reachable w = true → s.blockForm w 0x0B031 0 true = 0 → token.length ≤ (objInfo 0x0B031 0).elim 0 (·.size) →
      Completes (.secDebugUnlock w token) s fun t =>
        (s.tokenOk token = true → t.sec = { s.sec with unlocked := true } ∧ s.served w t ∧ s.sameBut [.sec, .meter, .sent] t) ∧
        (s.tokenOk token = false → s.answers w Abort.signature t ∧ s.sameBut [.meter, .sent] t)) ∧
    (∀ b, s.pwr.pwrGood = true → s.odv K.bringupStage = 0 → Completes (.recoveryLoad b) s fun t =>
      (s.slotVerifies b = true → t.sec = { s.sec with slotA := b } ∧ t.odv K.bootSlot = 0 ∧ t.tap.recovery = 1 ∧ t.pllState 2 = 0 ∧
        t.pwr.starting = s.pwr.starting ∧ t.pwr.noFirmware = false ∧ s.sameBut [.od, .sec, .tap, .pwr] t) ∧
      (s.slotVerifies b = false → t.tap.recovery = 2 ∧ s.sameBut [.tap] t)) ∧
    (∀ path req keyed, path < 2 → s.odv (K.portState path) = 2 → Completes (.spdmRequest path req keyed) s fun t =>
      ∃ rsp, t.sent = s.sent ++ [.frame 0x10 0 path rsp []] ∧ rsp.length ≤ 65536 ∧
        aget [] t.sec.spdm path = (if req.getD 1 0 = 0x84 then [] else aget [] s.sec.spdm path) ++ req ++ rsp ∧
        (keyed = true → t.odv (K.portIde path) = 1) ∧ s.odSame [K.portIde path] t ∧ s.sameBut [.od, .sec, .sent] t) ∧
    (∀ req keyed, Completes (.spdmRequest 2 req keyed) s fun t =>
      t.domain K.spdmReq = req ∧ (∀ k, k ≠ K.spdmReq → k ≠ K.spdmRsp → t.domain k = s.domain k) ∧ t.sent = s.sent ∧
      s.sameBut [.domains, .sec] t)

/-- A patrol scrub, while the module is out of the Pilot state and its memories are trained, reads every sector of the
Attic and the Cellar once and counts them, counts the corrected errors per tier, poisons every sector it could not
correct and counts those; any of them raises MEM_UE and overwrites MEM_ERR_LAST. It changes no byte. With the auxiliary
supply on, EXTEST and its variants take the pins only in BS0 or the Pilot state; else BYPASS is loaded and no pin is
driven. A reset of the test port puts IDCODE in force. (R553, R560, R562, R564, R577, R578) -/
def Obligations.ScrubAndTestPort : Prop :=
  ∀ s : State, s.meterWf →
    (∀ ceA ceC ueA ueC, s.powered = true → s.odv K.pwrState ≠ 0 → 2 ≤ s.odv K.bringupStage →
      (∀ n ∈ ueA, 32 * n < 0xC000000000) → (∀ n ∈ ueC, 32 * n < 0xC800000000) → Completes (.patrolScrub ceA ceC ueA ueC) s fun t =>
        s.counted [(Ctr.scrubSectors, (0xC000000000 + 0xC800000000) / 32), (Ctr.atticCe, ceA), (Ctr.cellarCe, ceC),
          (Ctr.atticUe, ueA.length), (Ctr.cellarUe, ueC.length)] t ∧
        (∀ k, k ∈ t.attic.poison ↔ k ∈ s.attic.poison ∨ k ∈ ueA) ∧ (∀ k, k ∈ t.cellar.poison ↔ k ∈ s.cellar.poison ∨ k ∈ ueC) ∧
        (∀ sp a, t.byteAt sp a = s.byteAt sp a) ∧
        (ueA ≠ [] ∨ ueC ≠ [] → Bell.memUe ∈ t.bell.level ∧ t.odv (okey 0x0B300 3) = s.tick ∧
          t.odv (okey 0x0B300 1) = (if ueC = [] then 1 else 2)) ∧
        (ueA = [] → ueC = [] → t.od = s.od ∧ t.bell = s.bell) ∧ s.sameBut [.attic, .cellar, .od, .bell, .meter] t) ∧
    (∀ which pins, s.pwr.auxOn = true → which < 3 → Completes (.extest which pins) s fun t =>
      (s.odv K.bringupStage = 0 ∨ s.odv K.pwrState = 0 → t.tap = { s.tap with ir := 2 + which, scanned := some pins }) ∧
      (s.odv K.bringupStage ≠ 0 → s.odv K.pwrState ≠ 0 → t.tap = { s.tap with ir := 0, scanned := none }) ∧ s.sameBut [.tap] t) ∧
    (s.pwr.auxOn = true → Completes .tapReset s fun t => t.tap = { s.tap with ir := 1, scanned := none } ∧ s.sameBut [.tap] t)
end

