-- ==== Sys2Proof/Laws/Canonical.lean ====
section
/-! SUPPORT. Association lists, number sets and memories: every operation keeps the canonical form, and a read after a
write gives the value written. -/

namespace Sys2Proof.Machine

section Assoc
variable {α : Type} [DecidableEq α] {d : α}

theorem awfFrom_mono {lo lo' : Nat} {l : List (Nat × α)} (h : awfFrom d lo l = true) (hl : lo' ≤ lo) : awfFrom d lo' l = true := by
  cases l with
  | nil => rfl
  | cons p t => obtain ⟨k, v⟩ := p; simp [awfFrom] at h ⊢; exact ⟨⟨by omega, h.1.2⟩, h.2⟩

theorem awfFrom_filter {p : Nat × α → Bool} {lo : Nat} {l : List (Nat × α)} (h : awfFrom d lo l = true) :
    awfFrom d lo (l.filter p) = true := by
  induction l generalizing lo with
  | nil => rfl
  | cons x t ih =>
    obtain ⟨k, v⟩ := x
    simp [awfFrom] at h
    simp only [List.filter]
    split
    · simp [awfFrom]; exact ⟨h.1, ih h.2⟩
    · exact ih (awfFrom_mono h.2 (by omega))

theorem ains_wfFrom {lo a : Nat} {v : α} {l : List (Nat × α)} (h : awfFrom d lo l = true) (ha : lo ≤ a) (hv : v ≠ d) :
    awfFrom d lo (ains l a v) = true := by
  induction l generalizing lo with
  | nil => simp [ains, awfFrom, ha, hv]
  | cons p t ih =>
    obtain ⟨k, w⟩ := p
    simp [awfFrom] at h
    obtain ⟨⟨hk, hw⟩, ht⟩ := h
    simp only [ains]
    split
    · simp [awfFrom, ha, hv, hw, ht]; omega
    · split
      · next he => subst he; simp [awfFrom, hk, hv, ht]
      · simp [awfFrom, hk, hw]; exact ih ht (by omega)

theorem aset_wfFrom {lo a : Nat} {v : α} {l : List (Nat × α)} (h : awfFrom d lo l = true) (ha : lo ≤ a) :
    awfFrom d lo (aset d l a v) = true := by
  unfold aset
  split
  · exact awfFrom_filter h
  · next hv => exact ains_wfFrom h ha hv

theorem aset_wf {a : Nat} {v : α} {l : List (Nat × α)} (h : awf d l = true) : awf d (aset d l a v) = true :=
  aset_wfFrom h (Nat.zero_le _)

omit [DecidableEq α] in
theorem aget_filter_self {a : Nat} {l : List (Nat × α)} : aget d (l.filter fun x => x.1 != a) a = d := by
  induction l with
  | nil => rfl
  | cons p t ih =>
    obtain ⟨k, w⟩ := p
    by_cases h : k = a
    · simp [h, ih]
    · simp [h, aget, ih, Ne.symm h]

omit [DecidableEq α] in
theorem aget_filter_other {a b : Nat} {l : List (Nat × α)} (h : b ≠ a) : aget d (l.filter fun x => x.1 != a) b = aget d l b := by
  induction l with
  | nil => rfl
  | cons p t ih =>
    obtain ⟨k, w⟩ := p
    by_cases e : k = a
    · subst e; simp [aget, h, ih]
    · by_cases e' : b = k <;> simp [e, aget, ih, e']

omit [DecidableEq α] in
theorem aget_ains {a b : Nat} {v : α} {l : List (Nat × α)} : aget d (ains l a v) b = if b = a then v else aget d l b := by
  induction l with
  | nil => simp [ains, aget]
  | cons p t ih =>
    obtain ⟨k, w⟩ := p
    simp only [ains]
    split
    · simp [aget]
    · split
      · next he => subst he; by_cases h : b = a <;> simp [aget, h]
      · next hne =>
        by_cases h : b = k
        · have : ¬b = a := fun e => hne (e ▸ h)
          simp [aget, h, h ▸ this]
        · simp [aget, h, ih]

/-- A key read after a write, of any list. -/
theorem aget_aset {a b : Nat} {v : α} {l : List (Nat × α)} : aget d (aset d l a v) b = if b = a then v else aget d l b := by
  unfold aset
  split
  · next hv =>
    split
    · next e => rw [e, aget_filter_self, hv]
    · next e => exact aget_filter_other e
  · exact aget_ains

@[simp] theorem aget_aset_self {a : Nat} {v : α} {l : List (Nat × α)} : aget d (aset d l a v) a = v := by simp [aget_aset]

omit [DecidableEq α] in
theorem aget_cons {k : Nat} {v : α} {t : List (Nat × α)} {b : Nat} (h : b ≠ k) : aget d ((k, v) :: t) b = aget d t b := by
  simp [aget, h]

theorem aget_aset_other {a b : Nat} {v d' : α} {l : List (Nat × α)} (h : b ≠ a) : aget d' (aset d l a v) b = aget d' l b := by
  unfold aset
  split
  · exact aget_filter_other h
  · rw [aget_ains, if_neg h]

omit [DecidableEq α] in
theorem mem_ains {a : Nat} {v : α} {l : List (Nat × α)} {x : Nat × α} (h : x ∈ ains l a v) : x = (a, v) ∨ x ∈ l := by
  induction l with
  | nil => simpa [ains] using h
  | cons p t ih =>
    obtain ⟨k, w⟩ := p
    simp only [ains] at h
    split at h
    · simpa using h
    · split at h
      · rcases List.mem_cons.1 h with h | h
        · exact .inl h
        · exact .inr (List.mem_cons_of_mem _ h)
      · rcases List.mem_cons.1 h with h | h
        · exact .inr (h ▸ List.mem_cons_self)
        · exact (ih h).imp id (List.mem_cons_of_mem _)

/-- What a written list holds. -/
theorem mem_aset {a : Nat} {v : α} {l : List (Nat × α)} {x : Nat × α} (h : x ∈ aset d l a v) : x = (a, v) ∨ x ∈ l := by
  unfold aset at h
  split at h
  · exact .inr (List.mem_filter.1 h).1
  · exact mem_ains h

end Assoc

/-! ### Tables with rising keys -/

section Rising
variable {α : Type}

theorem rising_mono {lo lo' : Nat} {l : List (Nat × α)} (h : rising lo l = true) (hl : lo' ≤ lo) : rising lo' l = true := by
  cases l with
  | nil => rfl
  | cons p t => simp [rising] at h ⊢; exact ⟨by omega, h.2⟩

theorem rising_filter {p : Nat × α → Bool} {lo : Nat} {l : List (Nat × α)} (h : rising lo l = true) :
    rising lo (l.filter p) = true := by
  induction l generalizing lo with
  | nil => rfl
  | cons x t ih =>
    simp [rising] at h
    simp only [List.filter]
    split
    · simp [rising]; exact ⟨h.1, ih h.2⟩
    · exact ih (rising_mono h.2 (by omega))

theorem ains_risingFrom {lo a : Nat} {v : α} {l : List (Nat × α)} (h : rising lo l = true) (ha : lo ≤ a) :
    rising lo (ains l a v) = true := by
  induction l generalizing lo with
  | nil => simp [ains, rising, ha]
  | cons p t ih =>
    obtain ⟨k, w⟩ := p
    simp [rising] at h
    simp only [ains]
    split
    · simp [rising, h.2]; omega
    · split
      · next he => subst he; simp [rising, h]
      · simp [rising, h.1]; exact ih h.2 (by omega)

variable [DecidableEq α] {d : α}

theorem aset_risingFrom {lo a : Nat} {v : α} {l : List (Nat × α)} (h : rising lo l = true) (ha : lo ≤ a) :
    rising lo (aset d l a v) = true := by
  unfold aset
  split
  · exact rising_filter h
  · exact ains_risingFrom h ha

theorem aset_rising {a : Nat} {v : α} {l : List (Nat × α)} (h : rising 0 l = true) : rising 0 (aset d l a v) = true :=
  aset_risingFrom h (Nat.zero_le _)

end Rising

/-! ### Number sets -/

theorem swfFrom_mono {lo lo' : Nat} {l : List Nat} (h : swfFrom lo l = true) (hl : lo' ≤ lo) : swfFrom lo' l = true := by
  cases l with
  | nil => rfl
  | cons k t => simp [swfFrom] at h ⊢; exact ⟨by omega, h.2⟩

theorem sadd_wfFrom {lo a : Nat} {l : List Nat} (h : swfFrom lo l = true) (ha : lo ≤ a) : swfFrom lo (sadd l a) = true := by
  induction l generalizing lo with
  | nil => simp [sadd, swfFrom, ha]
  | cons k t ih =>
    simp [swfFrom] at h
    simp only [sadd]
    split
    · simp [swfFrom, ha, h.2]; omega
    · split
      · simp [swfFrom, h]
      · simp [swfFrom, h.1]; exact ih h.2 (by omega)

theorem sadd_wf {a : Nat} {l : List Nat} (h : swf l = true) : swf (sadd l a) = true := sadd_wfFrom h (Nat.zero_le _)

theorem swfFrom_filter {p : Nat → Bool} {lo : Nat} {l : List Nat} (h : swfFrom lo l = true) : swfFrom lo (l.filter p) = true := by
  induction l generalizing lo with
  | nil => rfl
  | cons k t ih =>
    simp [swfFrom] at h
    simp only [List.filter]
    split
    · simp [swfFrom, h.1]; exact ih h.2
    · exact swfFrom_mono (ih h.2) (by omega)

theorem swf_filter {p : Nat → Bool} {l : List Nat} (h : swf l = true) : swf (l.filter p) = true := swfFrom_filter h

theorem sdel_wf {a : Nat} {l : List Nat} (h : swf l = true) : swf (sdel l a) = true := swf_filter h

@[simp] theorem mem_sdel {l : List Nat} {a b : Nat} : b ∈ sdel l a ↔ b ≠ a ∧ b ∈ l := by
  simp [sdel, and_comm]

@[simp] theorem mem_sadd {l : List Nat} {a b : Nat} : b ∈ sadd l a ↔ b = a ∨ b ∈ l := by
  induction l with
  | nil => simp [sadd]
  | cons k t ih =>
    simp only [sadd]
    split
    · simp
    · split
      · next h => subst h; simp
      · simp [ih]; tauto

/-! ### Bytes -/

@[simp] theorem leBytes_length (n v : Nat) : (leBytes n v).length = n := by
  induction n generalizing v with
  | zero => rfl
  | succ n ih => simp [leBytes, ih]

theorem ofBytes_leBytes (n v : Nat) (h : v < 256 ^ n) : ofBytes (leBytes n v) = v := by
  induction n generalizing v with
  | zero => simp at h; subst h; rfl
  | succ n ih =>
    have : v / 256 < 256 ^ n := by rw [Nat.div_lt_iff_lt_mul (by norm_num)]; rw [pow_succ] at h; exact h
    simp [leBytes, ofBytes, ih _ this]; omega

/-! ### Memories -/

namespace Mem

theorem store_wf {m : Mem} (h : m.wf = true) (a : Nat) (bs : List Byte) : (m.store a bs).wf = true := by
  induction bs generalizing m a with
  | nil => exact h
  | cons b t ih =>
    apply ih
    simp [wf] at h ⊢
    exact ⟨aset_wf h.1, h.2⟩

theorem storeCells_wf {m : Mem} (h : m.wf = true) (cs : List Host.Cell) : (m.storeCells cs).wf = true := by
  induction cs generalizing m with
  | nil => exact h
  | cons c t ih =>
    apply ih
    simp [wf] at h ⊢
    exact ⟨aset_wf h.1, h.2⟩

theorem markPoison_wf {m : Mem} (h : m.wf = true) (n : Nat) : (m.markPoison n).wf = true := by
  simp [wf, markPoison] at h ⊢
  exact ⟨h.1, sadd_wf h.2⟩

theorem filterPoison_wf {m : Mem} (h : m.wf = true) (p : Nat → Bool) : ({ m with poison := m.poison.filter p } : Mem).wf = true := by
  simp [wf] at h ⊢
  exact ⟨h.1, swf_filter h.2⟩

theorem write_wf {m : Mem} (h : m.wf = true) (a : Nat) (bs : List Byte) : (m.write a bs).wf = true :=
  store_wf (filterPoison_wf h _) a bs

theorem writeNat_wf {m : Mem} (h : m.wf = true) (a n v : Nat) : (m.writeNat a n v).wf = true := write_wf h a _

theorem writeCells_wf {m : Mem} (h : m.wf = true) (cs : List Host.Cell) : (m.writeCells cs).wf = true :=
  storeCells_wf (filterPoison_wf h _) cs

theorem poisonRange_wf {m : Mem} (h : m.wf = true) (a n : Nat) : (m.poisonRange a n).wf = true := by
  unfold poisonRange
  split
  · exact h
  · generalize List.range _ = l
    induction l generalizing m with
    | nil => exact h
    | cons i t ih => exact ih (markPoison_wf h _)

theorem empty_wf : Mem.empty.wf = true := rfl

/-- A byte outside a run of stored bytes reads as before. -/
theorem byte_store_outside (m : Mem) (a b : Nat) (bs : List Byte) (h : b < a ∨ a + bs.length ≤ b) : (m.store a bs).byte b = m.byte b := by
  induction bs generalizing m a with
  | nil => rfl
  | cons x t ih =>
    simp only [List.length_cons] at h
    rw [store, ih _ _ (by omega)]
    exact aget_aset_other (by omega)

/-- A byte of a run of stored bytes reads as it was stored. -/
theorem byte_store_inside (m : Mem) (a i : Nat) (bs : List Byte) (h : i < bs.length) :
    (m.store a bs).byte (a + i) = bs.getD i 0 := by
  induction bs generalizing m a i with
  | nil => simp at h
  | cons x t ih =>
    rw [store]
    cases i with
    | zero =>
      rw [byte_store_outside _ _ _ _ (by omega)]
      simp [byte]
    | succ i =>
      have := ih { m with cells := aset 0 m.cells a x } (a + 1) i (by simpa using h)
      simpa [Nat.add_assoc, Nat.add_comm 1 i] using this

theorem byte_write_outside (m : Mem) (a b : Nat) (bs : List Byte) (h : b < a ∨ a + bs.length ≤ b) : (m.write a bs).byte b = m.byte b :=
  byte_store_outside _ a b bs h

theorem byte_write_inside (m : Mem) (a i : Nat) (bs : List Byte) (h : i < bs.length) :
    (m.write a bs).byte (a + i) = bs.getD i 0 := byte_store_inside _ a i bs h

theorem bytes_write_self (m : Mem) (a : Nat) (bs : List Byte) : (m.write a bs).bytes a bs.length = bs := by
  have key : ∀ (n i : Nat), i + n = bs.length → (m.write a bs).bytes (a + i) n = bs.drop i := by
    intro n
    induction n with
    | zero => intro i hi; simp [bytes]; omega
    | succ n ih =>
      intro i hi
      rw [bytes, byte_write_inside m a i bs (by omega), Nat.add_assoc, ih (i + 1) (by omega)]
      rw [List.drop_eq_getElem_cons (by omega : i < bs.length)]
      simp [List.getD_eq_getElem?_getD, List.getElem?_eq_getElem (by omega : i < bs.length)]
  simpa using key bs.length 0 (by simp)

/-- A number read back after it was written. -/
theorem nat_writeNat_self (m : Mem) (a n v : Nat) (hv : v < 256 ^ n) : (m.writeNat a n v).nat a n = v := by
  have := bytes_write_self m a (leBytes n v)
  rw [leBytes_length] at this
  rw [nat, writeNat, this, ofBytes_leBytes n v hv]

end Mem

end Sys2Proof.Machine
end

