-- ==== Sys2Proof/Laws/EvolvesBase.lean ====
section
/-! SUPPORT. The relation Evolves: what every command may do to the state, composed from the operations. -/

namespace Sys2Proof.Machine

/-- Is every part of one list in the other? -/
def Fld.sub (a b : List Fld) : Bool := a.all fun f => b.contains f

theorem Fld.sub_mem {a b : List Fld} (h : Fld.sub a b = true) {f : Fld} (hf : f ∈ a) : f ∈ b := by
  simp [Fld.sub] at h; exact h f hf

/-- A run of writes keeps a table's order. -/
theorem foldl_rising {α β : Type} [DecidableEq α] (l : List β) (d : β → α) (k : β → Nat) (v : β → α) {m : List (Nat × α)}
    (h : rising 0 m = true) : rising 0 (l.foldl (fun m x => aset (d x) m (k x) (v x)) m) = true := by
  induction l generalizing m with
  | nil => exact h
  | cons x t ih => exact ih (aset_rising h)

namespace State

theorem agree_refl (s : State) (f : Fld) : s.agree s f := by cases f <;> rfl

theorem agree_trans {s t u : State} {f : Fld} (h1 : s.agree t f) (h2 : t.agree u f) : s.agree u f := by
  cases f <;> exact Eq.trans h2 h1

/-- A state whose tables are those of another. -/
theorem tables_of {s t : State} (h1 : t.od = s.od) (h2 : t.captain = s.captain) (h3 : t.stoker = s.stoker)
    (h4 : t.domains = s.domains) (h5 : t.meter = s.meter) (h6 : t.bell.level = s.bell.level)
    (h7 : t.bell.targets = s.bell.targets) (h : s.tablesWf) : t.tablesWf := by
  simp only [tablesWf, h1, h2, h3, h4, h5, h6, h7]; exact h

namespace Evolves

theorem refl (fs : List Fld) (s : State) : Evolves fs s s :=
  ⟨id, id, id, List.prefix_rfl, Nat.le_refl _, fun f _ => agree_refl s f⟩

/-- One operation after what came before. -/
theorem step {fs gs : List Fld} {r s t : State} (h : Evolves fs r s) (g : Evolves gs s t) (hs : Fld.sub gs fs = true) : Evolves fs r t :=
  ⟨g.mems ∘ h.mems, g.tables ∘ h.tables, g.meter ∘ h.meter, h.sent.trans g.sent, h.free.trans g.free,
    fun f hf => agree_trans (h.frame f hf) (g.frame f fun hg => hf (Fld.sub_mem hs hg))⟩

theorem mono {fs gs : List Fld} {s t : State} (g : Evolves gs s t) (hs : Fld.sub gs fs = true) : Evolves fs s t :=
  (refl fs s).step g hs

theorem ite {fs : List Fld} {r a b : State} {c : Prop} [Decidable c] (ha : Evolves fs r a) (hb : Evolves fs r b) :
    Evolves fs r (if c then a else b) := by split <;> assumption

theorem foldl {fs : List Fld} {r s : State} {α : Type} {g : State → α → State} {l : List α} (h : Evolves fs r s)
    (hg : ∀ t x, Evolves fs r t → Evolves fs r (g t x)) : Evolves fs r (l.foldl g s) := by
  induction l generalizing s with
  | nil => exact h
  | cons x t ih => exact ih (hg s x h)

/-- A step of a fold that changes the state alone. -/
theorem foldl_fst {fs : List Fld} {r : State} {α β : Type} {g : State × β → α → State × β} {l : List α} {p : State × β}
    (h : Evolves fs r p.1) (hg : ∀ t x, Evolves fs r t.1 → Evolves fs r (g t x).1) : Evolves fs r (l.foldl g p).1 := by
  induction l generalizing p with
  | nil => exact h
  | cons x t ih => exact ih (hg p x h)

/-- A state on the way is named with what holds of it. -/
theorem cut {fs : List Fld} {r x : State} {P : Prop} (h : Evolves fs r x) (k : Evolves fs r x → P) : P := k h

/-- A state given by an equation. -/
theorem eqv {fs : List Fld} {r a t : State} (h : Evolves fs r a) (e : a = t) : Evolves fs r t := e ▸ h

/-- An update that leaves the memories, the Meter, the record of what left and the count of free values alone. -/
theorem upd {fs : List Fld} {r s t : State} (h : Evolves fs r s)
    (ht : s.tablesWf → t.tablesWf) (ha : t.attic = s.attic) (hc : t.cellar = s.cellar) (hl : t.larder = s.larder) (hh : t.host = s.host)
    (hm : t.meter = s.meter) (hs : t.sent = s.sent) (hf : t.freeCtr = s.freeCtr) (hfr : ∀ f, f ∉ fs → s.agree t f) :
    Evolves fs r t :=
  h.step (gs := fs) ⟨by simp [memsWf, ha, hc, hl, hh], ht, by simp [meterWf, hm], by rw [hs], by rw [hf], hfr⟩ (by simp [Fld.sub])

end Evolves

/-! ### The operations that touch memory, the Meter, what leaves and the free values -/

theorem count_evolves (s : State) (u n : Nat) : s.Evolves [.meter] (s.count u n) :=
  ⟨id, fun ⟨h1, h2, h3, h4, h5, h6⟩ => ⟨h1, h2, h3, h4, aset_rising h5, h6⟩,
   fun h x hx => (mem_aset hx).elim (fun e => e ▸ Nat.mod_lt _ (by norm_num)) (h x),
   List.prefix_rfl, Nat.le_refl _, fun f hf => by cases f <;> first | rfl | simp at hf⟩

theorem send_evolves (s : State) (m : Sent) : s.Evolves [.sent] (s.send m) :=
  ⟨id, id, id, List.prefix_append _ _, Nat.le_refl _, fun f hf => by cases f <;> first | rfl | simp at hf⟩

theorem setMem_evolves (s : State) (sp : Space) (m : Mem) (h : (s.mem sp).wf = true → m.wf = true) :
    s.Evolves [.attic, .cellar, .larder, .host] (s.setMem sp m) := by
  cases sp <;>
    exact ⟨fun w => by simp_all [memsWf, setMem, mem], fun w => w, id, List.prefix_rfl, Nat.le_refl _,
      fun f hf => by cases f <;> first | rfl | simp at hf⟩

theorem put_evolves (s : State) (sp : Space) (f : Mem → Mem) (h : ∀ m, m.wf = true → (f m).wf = true) :
    s.Evolves [.attic, .cellar, .larder, .host, .meter] (s.put sp f) := by
  unfold put
  refine Evolves.ite ((count_evolves _ _ _).mono rfl) ((setMem_evolves _ _ _ (h _)).mono rfl)

theorem wr_evolves (s : State) (sp : Space) (a n v : Nat) : s.Evolves [.attic, .cellar, .larder, .host, .meter] (s.wr sp a n v) :=
  put_evolves _ _ _ fun _ h => Mem.writeNat_wf h _ _ _

theorem wrBytes_evolves (s : State) (sp : Space) (a : Nat) (b : List Byte) :
    s.Evolves [.attic, .cellar, .larder, .host, .meter] (s.wrBytes sp a b) :=
  put_evolves _ _ _ fun _ h => Mem.write_wf h _ _

theorem wrCells_evolves (s : State) (sp : Space) (cs : List Host.Cell) :
    s.Evolves [.attic, .cellar, .larder, .host, .meter] (s.wrCells sp cs) :=
  put_evolves _ _ _ fun _ h => Mem.writeCells_wf h _

theorem poison_evolves (s : State) (sp : Space) (a n : Nat) : s.Evolves [.attic, .cellar, .larder, .host, .meter] (s.poison sp a n) :=
  put_evolves _ _ _ fun _ h => Mem.poisonRange_wf h _ _

theorem free_evolves (s : State) : s.Evolves [.freeCtr] s.free.2 :=
  ⟨id, fun h => h, id, List.prefix_rfl, Nat.le_succ _, fun f hf => by cases f <;> first | rfl | simp at hf⟩

end State

end Sys2Proof.Machine
end

