-- ==== Sys2Proof/Laws/EvolvesOps.lean ====
section
/-! SUPPORT. How the state may develop, operation by operation: the shared operations, the Bellboard, the Pages, the Letterbox, the Porch and the letters' validation. -/

namespace Sys2Proof.Machine

namespace State.Evolves

/-- Any update, by what it does to the parts that the relation watches. -/
theorem upd' {fs : List Fld} {r s t : State} (h : Evolves fs r s) (hw : s.memsWf → t.memsWf) (ht : s.tablesWf → t.tablesWf) (hm : s.meterWf → t.meterWf)
    (hs : s.sent <+: t.sent) (hf : s.freeCtr ≤ t.freeCtr) (hfr : ∀ f, f ∉ fs → s.agree t f) : Evolves fs r t :=
  h.step (gs := fs) ⟨hw, ht, hm, hs, hf, hfr⟩ (by simp [Fld.sub])

/-- More free values drawn. -/
theorem draw {fs : List Fld} {r s : State} (h : Evolves fs r s) (n : Nat) (hn : s.freeCtr ≤ n) (hs : Fld.sub [.freeCtr] fs = true) :
    Evolves fs r { s with freeCtr := n } :=
  h.step (gs := [.freeCtr]) ⟨id, id, id, List.prefix_rfl, hn, fun f hf => by cases f <;> first | rfl | simp at hf⟩ hs

end State.Evolves

theorem State.popFree_evolves' {s : State} {p f : Nat} {t : State} (e : s.popFree p = some (f, t)) :
    State.Evolves [.attic, .cellar, .larder, .host, .meter] s t := by
  simp only [State.popFree] at e
  split at e
  · cases e
  · cases e; exact State.wr_evolves ..

theorem rising_mapVal {α : Type} {f : α → α} {lo : Nat} {l : List (Nat × α)} (h : rising lo l = true) :
    rising lo (l.map fun x => (x.1, f x.2)) = true := by
  induction l generalizing lo with
  | nil => rfl
  | cons p t ih => simp [rising] at h ⊢; exact ⟨h.1, by simpa using ih h.2⟩

theorem State.noteEvent_evolves (s : State) (n : Nat) :
    State.Evolves [.bell] s (State.noteEvent s n) := by
  unfold State.noteEvent
  refine State.Evolves.upd (s := s) ?_ (State.tables_of rfl rfl rfl rfl rfl rfl rfl) rfl rfl rfl rfl rfl rfl rfl fun f hf => by cases f <;> first | rfl | simp at hf
  exact State.Evolves.refl _ _

theorem State.setBellTarget_evolves (s : State) (x : Nat) (t : BellTarget) :
    State.Evolves [.bell] s (State.setBellTarget s x t) := by
  unfold State.setBellTarget
  refine State.Evolves.upd (s := s) ?_ (fun ⟨h1, h2, h3, h4, h5, h6, h7⟩ => ⟨by first | exact h1 | exact aset_rising h1, by first | exact h2 | exact aset_rising h2, by first | exact h3 | exact aset_rising h3, by first | exact h4 | exact aset_rising h4, by first | exact h5 | exact aset_rising h5, by first | exact h6 | exact sadd_wf h6 | exact sdel_wf h6 | exact swf_filter h6, by first | exact h7 | exact aset_rising h7 | exact rising_filter h7⟩) rfl rfl rfl rfl rfl rfl rfl fun f hf => by cases f <;> first | rfl | simp at hf
  exact State.Evolves.refl _ _

theorem State.bellRise_evolves (s : State) (x : Nat) :
    State.Evolves [.bell] s (State.bellRise s x) := by
  unfold State.bellRise
  extract_lets +onlyGivenNames x0
  clear_value x0
  refine State.Evolves.step ?_ (State.setBellTarget_evolves ..) rfl
  exact State.Evolves.refl _ _

theorem State.raise_evolves (s : State) (n : Nat) :
    State.Evolves [.bell] s (State.raise s n) := by
  unfold State.raise
  extract_lets +onlyGivenNames x0
  refine State.Evolves.cut (fs := [.bell]) (r := s) (x := x0) ?_ fun hx0 => ?_
  · unfold x0
    refine State.Evolves.step ?_ (State.noteEvent_evolves ..) rfl
    exact State.Evolves.refl _ _
  clear_value x0
  refine State.Evolves.ite ?_ ?_
  · exact hx0
  · refine State.Evolves.foldl ?_ ?_
    · refine State.Evolves.upd (s := x0) ?_ (fun ⟨h1, h2, h3, h4, h5, h6, h7⟩ => ⟨by first | exact h1 | exact aset_rising h1, by first | exact h2 | exact aset_rising h2, by first | exact h3 | exact aset_rising h3, by first | exact h4 | exact aset_rising h4, by first | exact h5 | exact aset_rising h5, by first | exact h6 | exact sadd_wf h6 | exact sdel_wf h6 | exact swf_filter h6, by first | exact h7 | exact aset_rising h7 | exact rising_filter h7⟩) rfl rfl rfl rfl rfl rfl rfl fun f hf => by cases f <;> first | rfl | simp at hf
      exact hx0
    · intro t1 x2 ht1
      refine State.Evolves.step ?_ (State.bellRise_evolves ..) rfl
      exact ht1

theorem State.setOd_evolves (s : State) (k : Nat) (v : Nat) :
    State.Evolves [.od] s (State.setOd s k v) := by
  unfold State.setOd
  refine State.Evolves.upd (s := s) ?_ (fun ⟨h1, h2, h3, h4, h5, h6, h7⟩ => ⟨by first | exact h1 | exact aset_rising h1, by first | exact h2 | exact aset_rising h2, by first | exact h3 | exact aset_rising h3, by first | exact h4 | exact aset_rising h4, by first | exact h5 | exact aset_rising h5, by first | exact h6 | exact sadd_wf h6 | exact sdel_wf h6 | exact swf_filter h6, by first | exact h7 | exact aset_rising h7 | exact rising_filter h7⟩) rfl rfl rfl rfl rfl rfl rfl fun f hf => by cases f <;> first | rfl | simp at hf
  exact State.Evolves.refl _ _

theorem State.memRecord_evolves (s : State) (k : Nat) (addr : Nat) :
    State.Evolves [.od, .bell] s (State.memRecord s k addr) := by
  unfold State.memRecord
  refine State.Evolves.step ?_ (State.raise_evolves ..) rfl
  refine State.Evolves.step ?_ (State.setOd_evolves ..) rfl
  refine State.Evolves.step ?_ (State.setOd_evolves ..) rfl
  refine State.Evolves.step ?_ (State.setOd_evolves ..) rfl
  exact State.Evolves.refl _ _

theorem State.sramUe_evolves (s : State) (unit : Nat) :
    State.Evolves [.od, .meter, .freeCtr, .bell] s (State.sramUe s unit) := by
  unfold State.sramUe
  split
  · rename_i v0 v1 v2 e3
    refine State.Evolves.cut (fs := [.od, .meter, .freeCtr, .bell]) (r := s) (x := v2) (State.Evolves.eqv ?_ (congrArg (fun y => y.2) e3)) fun hv2 => ?_
    · refine State.Evolves.step ?_ (State.free_evolves ..) rfl
      exact State.Evolves.refl _ _
    refine State.Evolves.step ?_ (State.memRecord_evolves ..) rfl
    refine State.Evolves.step ?_ (State.count_evolves ..) rfl
    exact hv2

theorem State.lower_evolves (s : State) (n : Nat) :
    State.Evolves [.bell] s (State.lower s n) := by
  unfold State.lower
  refine State.Evolves.upd (s := s) ?_ (fun ⟨h1, h2, h3, h4, h5, h6, h7⟩ => ⟨by first | exact h1 | exact aset_rising h1, by first | exact h2 | exact aset_rising h2, by first | exact h3 | exact aset_rising h3, by first | exact h4 | exact aset_rising h4, by first | exact h5 | exact aset_rising h5, by first | exact h6 | exact sadd_wf h6 | exact sdel_wf h6 | exact swf_filter h6, by first | exact h7 | exact aset_rising h7 | exact rising_filter h7⟩) rfl rfl rfl rfl rfl rfl rfl fun f hf => by cases f <;> first | rfl | simp at hf
  exact State.Evolves.refl _ _

theorem State.sendPeer_evolves (s : State) (p : Nat) (m : Sent) :
    State.Evolves [.sent] s (State.sendPeer s p m) := by
  unfold State.sendPeer
  refine State.Evolves.ite ?_ ?_
  · exact State.Evolves.refl _ _
  · refine State.Evolves.step ?_ (State.send_evolves ..) rfl
    exact State.Evolves.refl _ _

theorem State.setCap_evolves (s : State) (k : Nat) (v : Nat) :
    State.Evolves [.captain] s (State.setCap s k v) := by
  unfold State.setCap
  refine State.Evolves.upd (s := s) ?_ (fun ⟨h1, h2, h3, h4, h5, h6, h7⟩ => ⟨by first | exact h1 | exact aset_rising h1, by first | exact h2 | exact aset_rising h2, by first | exact h3 | exact aset_rising h3, by first | exact h4 | exact aset_rising h4, by first | exact h5 | exact aset_rising h5, by first | exact h6 | exact sadd_wf h6 | exact sdel_wf h6 | exact swf_filter h6, by first | exact h7 | exact aset_rising h7 | exact rising_filter h7⟩) rfl rfl rfl rfl rfl rfl rfl fun f hf => by cases f <;> first | rfl | simp at hf
  exact State.Evolves.refl _ _

theorem State.recipeLevel_evolves (s : State) :
    State.Evolves [.bell] s (State.recipeLevel s) := by
  unfold State.recipeLevel
  refine State.Evolves.ite ?_ ?_
  · refine State.Evolves.step ?_ (State.lower_evolves ..) rfl
    exact State.Evolves.refl _ _
  · refine State.Evolves.step ?_ (State.raise_evolves ..) rfl
    exact State.Evolves.refl _ _

theorem State.setPll_evolves (s : State) (p : Nat) (st : Nat) (mhz : Nat) :
    State.Evolves [.od] s (State.setPll s p st mhz) := by
  unfold State.setPll
  refine State.Evolves.step ?_ (State.setOd_evolves ..) rfl
  refine State.Evolves.step ?_ (State.setOd_evolves ..) rfl
  exact State.Evolves.refl _ _

theorem State.startPll_evolves (s : State) (p : Nat) :
    State.Evolves [.od] s (State.startPll s p) := by
  unfold State.startPll
  refine State.Evolves.ite ?_ ?_
  · extract_lets +onlyGivenNames x0
    refine State.Evolves.cut (fs := [.od]) (r := s) (x := x0) ?_ fun hx0 => ?_
    · unfold x0
      refine State.Evolves.step ?_ (State.setPll_evolves ..) rfl
      exact State.Evolves.refl _ _
    clear_value x0
    refine State.Evolves.step ?_ (State.setPll_evolves ..) rfl
    exact hx0
  · exact State.Evolves.refl _ _

theorem State.wake_evolves (s : State) :
    State.Evolves [.od, .meter] s (State.wake s) := by
  unfold State.wake
  refine State.Evolves.ite ?_ ?_
  · refine State.Evolves.step ?_ (State.startPll_evolves ..) rfl
    refine State.Evolves.step ?_ (State.count_evolves ..) rfl
    refine State.Evolves.step ?_ (State.setOd_evolves ..) rfl
    exact State.Evolves.refl _ _
  · exact State.Evolves.refl _ _

theorem State.startStation_evolves (s : State) (b : Nat) :
    State.Evolves [.od, .meter] s (State.startStation s b) := by
  unfold State.startStation
  refine State.Evolves.ite ?_ ?_
  · exact State.Evolves.refl _ _
  · refine State.Evolves.step ?_ (State.count_evolves ..) rfl
    refine State.Evolves.step ?_ (State.setOd_evolves ..) rfl
    refine State.Evolves.step ?_ (State.startPll_evolves ..) rfl
    exact State.Evolves.refl _ _

theorem State.demand_evolves (s : State) (stations : List Nat) :
    State.Evolves [.od, .meter] s (State.demand s stations) := by
  unfold State.demand
  extract_lets +onlyGivenNames x0
  clear_value x0
  refine State.Evolves.ite ?_ ?_
  · exact State.Evolves.refl _ _
  · refine State.Evolves.foldl ?_ ?_
    · refine State.Evolves.step ?_ (State.wake_evolves ..) rfl
      exact State.Evolves.refl _ _
    · intro t1 x2 ht1
      refine State.Evolves.step ?_ (State.startStation_evolves ..) rfl
      exact ht1

theorem State.setDomain_evolves (s : State) (k : Nat) (b : List Byte) :
    State.Evolves [.domains] s (State.setDomain s k b) := by
  unfold State.setDomain
  refine State.Evolves.upd (s := s) ?_ (fun ⟨h1, h2, h3, h4, h5, h6, h7⟩ => ⟨by first | exact h1 | exact aset_rising h1, by first | exact h2 | exact aset_rising h2, by first | exact h3 | exact aset_rising h3, by first | exact h4 | exact aset_rising h4, by first | exact h5 | exact aset_rising h5, by first | exact h6 | exact sadd_wf h6 | exact sdel_wf h6 | exact swf_filter h6, by first | exact h7 | exact aset_rising h7 | exact rising_filter h7⟩) rfl rfl rfl rfl rfl rfl rfl fun f hf => by cases f <;> first | rfl | simp at hf
  exact State.Evolves.refl _ _

theorem State.setStk_evolves (s : State) (k : Nat) (v : Nat) :
    State.Evolves [.stoker] s (State.setStk s k v) := by
  unfold State.setStk
  refine State.Evolves.upd (s := s) ?_ (fun ⟨h1, h2, h3, h4, h5, h6, h7⟩ => ⟨by first | exact h1 | exact aset_rising h1, by first | exact h2 | exact aset_rising h2, by first | exact h3 | exact aset_rising h3, by first | exact h4 | exact aset_rising h4, by first | exact h5 | exact aset_rising h5, by first | exact h6 | exact sadd_wf h6 | exact sdel_wf h6 | exact swf_filter h6, by first | exact h7 | exact aset_rising h7 | exact rising_filter h7⟩) rfl rfl rfl rfl rfl rfl rfl fun f hf => by cases f <;> first | rfl | simp at hf
  exact State.Evolves.refl _ _

theorem State.entryStat_evolves (s : State) (e : Nat) (field : Nat) (n : Nat) :
    State.Evolves [.mtr] s (State.entryStat s e field n) := by
  unfold State.entryStat
  refine State.Evolves.upd (s := s) ?_ (State.tables_of rfl rfl rfl rfl rfl rfl rfl) rfl rfl rfl rfl rfl rfl rfl fun f hf => by cases f <;> first | rfl | simp at hf
  exact State.Evolves.refl _ _

theorem State.memUe_evolves (s : State) (sp : Space) (sector : Nat) :
    State.Evolves [.attic, .cellar, .larder, .host, .od, .meter, .bell] s (State.memUe s sp sector) := by
  unfold State.memUe
  extract_lets +onlyGivenNames x0
  clear_value x0
  refine State.Evolves.step ?_ (State.memRecord_evolves ..) rfl
  refine State.Evolves.step ?_ (State.count_evolves ..) rfl
  refine State.Evolves.step ?_ (State.poison_evolves ..) rfl
  exact State.Evolves.refl _ _

theorem State.advanceBank_evolves (s : State) (b : Nat) :
    State.Evolves [.od, .meter, .ex] s (State.advanceBank s b) := by
  unfold State.advanceBank
  extract_lets +onlyGivenNames x0
  refine State.Evolves.cut (fs := [.od, .meter, .ex]) (r := s) (x := x0) ?_ fun hx0 => ?_
  · unfold x0
    refine State.Evolves.step ?_ (State.count_evolves ..) rfl
    refine State.Evolves.step ?_ (State.setOd_evolves ..) rfl
    exact State.Evolves.refl _ _
  clear_value x0
  refine State.Evolves.ite ?_ ?_
  · refine State.Evolves.upd (s := x0) ?_ (State.tables_of rfl rfl rfl rfl rfl rfl rfl) rfl rfl rfl rfl rfl rfl rfl fun f hf => by cases f <;> first | rfl | simp at hf
    exact hx0
  · exact hx0

theorem State.retunePlls_evolves (s : State) :
    State.Evolves [.od] s (State.retunePlls s) := by
  unfold State.retunePlls
  refine State.Evolves.foldl ?_ ?_
  · exact State.Evolves.refl _ _
  · intro t0 x1 ht0
    refine State.Evolves.ite ?_ ?_
    · refine State.Evolves.step ?_ (State.setPll_evolves ..) rfl
      exact ht0
    · exact ht0

theorem State.setHdr_evolves (s : State) (p : Nat) (f : Nat) (h : PageHdr) :
    State.Evolves [.attic, .cellar, .larder, .host, .meter] s (State.setHdr s p f h) := by
  unfold State.setHdr
  refine State.Evolves.step ?_ (State.wr_evolves ..) rfl
  exact State.Evolves.refl _ _

theorem State.setKvEntry_evolves (s : State) (c : KvCtx) (j : Nat) (valid : Bool) (frame : Nat) :
    State.Evolves [.attic, .cellar, .larder, .host, .meter] s (State.setKvEntry s c j valid frame) := by
  unfold State.setKvEntry
  refine State.Evolves.step ?_ (State.wr_evolves ..) rfl
  exact State.Evolves.refl _ _

theorem State.pushFree_evolves (s : State) (p : Nat) (f : Nat) :
    State.Evolves [.attic, .cellar, .larder, .host, .meter] s (State.pushFree s p f) := by
  unfold State.pushFree
  extract_lets +onlyGivenNames x0
  clear_value x0
  extract_lets +onlyGivenNames x1
  refine State.Evolves.cut (fs := [.attic, .cellar, .larder, .host, .meter]) (r := s) (x := x1) ?_ fun hx1 => ?_
  · unfold x1
    refine State.Evolves.step ?_ (State.wr_evolves ..) rfl
    exact State.Evolves.refl _ _
  clear_value x1
  refine State.Evolves.step ?_ (State.wr_evolves ..) rfl
  exact hx1

theorem State.maybeFree_evolves (s : State) (p : Nat) (f : Nat) (deferred : Bool) :
    State.Evolves [.attic, .cellar, .larder, .host, .meter] s (State.maybeFree s p f deferred) := by
  unfold State.maybeFree
  extract_lets +onlyGivenNames x0
  clear_value x0
  refine State.Evolves.ite ?_ ?_
  · extract_lets +onlyGivenNames x1
    refine State.Evolves.cut (fs := [.attic, .cellar, .larder, .host, .meter]) (r := s) (x := x1) ?_ fun hx1 => ?_
    · unfold x1
      refine State.Evolves.step ?_ (State.count_evolves ..) rfl
      refine State.Evolves.step ?_ (State.pushFree_evolves ..) rfl
      exact State.Evolves.refl _ _
    clear_value x1
    refine State.Evolves.ite ?_ ?_
    · refine State.Evolves.step ?_ (State.count_evolves ..) rfl
      exact hx1
    · exact hx1
  · exact State.Evolves.refl _ _

theorem State.releaseFrame_evolves (s : State) (p : Nat) (f : Nat) :
    State.Evolves [.attic, .cellar, .larder, .host, .meter] s (State.releaseFrame s p f) := by
  unfold State.releaseFrame
  extract_lets +onlyGivenNames x0
  clear_value x0
  refine State.Evolves.step ?_ (State.maybeFree_evolves ..) rfl
  refine State.Evolves.step ?_ (State.setHdr_evolves ..) rfl
  exact State.Evolves.refl _ _

theorem State.setKvLength_evolves (s : State) (c : KvCtx) (n : Nat) :
    State.Evolves [.attic, .cellar, .larder, .host, .meter] s (State.setKvLength s c n) := by
  unfold State.setKvLength
  extract_lets +onlyGivenNames x0
  clear_value x0
  extract_lets +onlyGivenNames x1
  clear_value x1
  refine State.Evolves.step ?_ (State.wr_evolves ..) rfl
  exact State.Evolves.refl _ _

theorem State.kvFree_evolves (s : State) (c : PageCmd) :
    State.Evolves [.attic, .cellar, .larder, .host, .meter] s (State.kvFree s c) := by
  unfold State.kvFree
  extract_lets +onlyGivenNames x0
  clear_value x0
  extract_lets +onlyGivenNames x1
  refine State.Evolves.cut (fs := [.attic, .cellar, .larder, .host, .meter]) (r := s) (x := x1) ?_ fun hx1 => ?_
  · unfold x1
    refine State.Evolves.foldl ?_ ?_
    · exact State.Evolves.refl _ _
    · intro t2 x3 ht2
      extract_lets +onlyGivenNames x4
      clear_value x4
      split
      · refine State.Evolves.ite ?_ ?_
        · refine State.Evolves.step ?_ (State.releaseFrame_evolves ..) rfl
          refine State.Evolves.step ?_ (State.setKvEntry_evolves ..) rfl
          exact ht2
        · exact ht2
  clear_value x1
  refine State.Evolves.step ?_ (State.setKvLength_evolves ..) rfl
  exact hx1

theorem State.pinFrame_evolves (s : State) (p : Nat) (f : Nat) :
    State.Evolves [.attic, .cellar, .larder, .host, .meter] s (State.pinFrame s p f) := by
  unfold State.pinFrame
  extract_lets +onlyGivenNames x0
  clear_value x0
  refine State.Evolves.step ?_ (State.setHdr_evolves ..) rfl
  exact State.Evolves.refl _ _

theorem State.copyRun_evolves (s : State) (sp : Space) (src : Nat) (dst : Nat) (n : Nat) :
    State.Evolves [.attic, .cellar, .larder, .host, .meter] s (State.copyRun s sp src dst n) := by
  unfold State.copyRun
  extract_lets +onlyGivenNames x0
  clear_value x0
  extract_lets +onlyGivenNames x1
  refine State.Evolves.cut (fs := [.attic, .cellar, .larder, .host, .meter]) (r := s) (x := x1) ?_ fun hx1 => ?_
  · unfold x1
    refine State.Evolves.step ?_ (State.wrBytes_evolves ..) rfl
    exact State.Evolves.refl _ _
  clear_value x1
  refine State.Evolves.foldl ?_ ?_
  · exact hx1
  · intro t2 x3 ht2
    refine State.Evolves.step ?_ (State.poison_evolves ..) rfl
    exact ht2

theorem State.writeTranslate_evolves (s : State) (c : KvCtx) (j : Nat) (p : Nat) (format : Nat) (blkCode : Nat) (ts : Nat) :
    State.Evolves [.attic, .cellar, .larder, .host, .meter, .bell] s (State.writeTranslate s c j p format blkCode ts).2 := by
  unfold State.writeTranslate
  extract_lets +onlyGivenNames x0
  clear_value x0
  split
  · extract_lets +onlyGivenNames x6
    extract_lets +onlyGivenNames x7
    split
    · unfold x6
      split
      · rename_i v14 v15 v16 v17 e18 e19 v20 e21
        dsimp only
        refine State.Evolves.step ?_ (State.raise_evolves ..) rfl
        refine State.Evolves.step ?_ (State.count_evolves ..) rfl
        exact State.Evolves.refl _ _
      · rename_i v22 v23 v24 v25 e26 e27 v28 v29 v30 e31
        have h32 := State.Evolves.step (fs := [.attic, .cellar, .larder, .host, .meter, .bell]) (r := s) ?_ (State.popFree_evolves' e31) rfl
        · unfold x7
          dsimp only
          refine State.Evolves.step ?_ (State.pinFrame_evolves ..) rfl
          refine State.Evolves.step ?_ (State.setKvEntry_evolves ..) rfl
          refine State.Evolves.step ?_ (State.setHdr_evolves ..) rfl
          refine State.Evolves.step ?_ (State.count_evolves ..) rfl
          exact h32
        exact State.Evolves.refl _ _
    · extract_lets +onlyGivenNames x39
      clear_value x39
      extract_lets +onlyGivenNames x40
      clear_value x40
      extract_lets +onlyGivenNames x41
      clear_value x41
      split
      · unfold x6
        split
        · rename_i v49 v50 v51 v52 e53 v54 e55 v56 e57
          dsimp only
          refine State.Evolves.step ?_ (State.raise_evolves ..) rfl
          refine State.Evolves.step ?_ (State.count_evolves ..) rfl
          exact State.Evolves.refl _ _
        · rename_i v58 v59 v60 v61 e62 v63 e64 v65 v66 v67 e68
          have h69 := State.Evolves.step (fs := [.attic, .cellar, .larder, .host, .meter, .bell]) (r := s) ?_ (State.popFree_evolves' e68) rfl
          · unfold x7
            dsimp only
            refine State.Evolves.step ?_ (State.pinFrame_evolves ..) rfl
            refine State.Evolves.step ?_ (State.setKvEntry_evolves ..) rfl
            refine State.Evolves.step ?_ (State.releaseFrame_evolves ..) rfl
            refine State.Evolves.step ?_ (State.setHdr_evolves ..) rfl
            refine State.Evolves.step ?_ (State.count_evolves ..) rfl
            exact h69
          exact State.Evolves.refl _ _
      · split
        · unfold x7
          dsimp only
          refine State.Evolves.step ?_ (State.pinFrame_evolves ..) rfl
          refine State.Evolves.step ?_ (State.setKvEntry_evolves ..) rfl
          refine State.Evolves.step ?_ (State.setHdr_evolves ..) rfl
          exact State.Evolves.refl _ _
        · split
          · unfold x6
            split
            · rename_i v102 v103 v104 v105 e106 v107 v108 v109 e110 v111 e112
              dsimp only
              refine State.Evolves.step ?_ (State.raise_evolves ..) rfl
              refine State.Evolves.step ?_ (State.count_evolves ..) rfl
              exact State.Evolves.refl _ _
            · rename_i v113 v114 v115 v116 e117 v118 v119 v120 e121 v122 v123 v124 e125
              have h126 := State.Evolves.step (fs := [.attic, .cellar, .larder, .host, .meter, .bell]) (r := s) ?_ (State.popFree_evolves' e125) rfl
              · beta_reduce
                extract_lets +onlyGivenNames x127
                clear_value x127
                extract_lets +onlyGivenNames x128
                clear_value x128
                extract_lets +onlyGivenNames x129
                clear_value x129
                extract_lets +onlyGivenNames x130
                clear_value x130
                extract_lets +onlyGivenNames x131
                refine State.Evolves.cut (fs := [.attic, .cellar, .larder, .host, .meter, .bell]) (r := s) (x := x131) ?_ fun hx131 => ?_
                · unfold x131
                  refine State.Evolves.step ?_ (State.copyRun_evolves ..) rfl
                  refine State.Evolves.step ?_ (State.count_evolves ..) rfl
                  exact h126
                clear_value x131
                extract_lets +onlyGivenNames x132
                clear_value x132
                extract_lets +onlyGivenNames x133
                clear_value x133
                extract_lets +onlyGivenNames x134
                refine State.Evolves.cut (fs := [.attic, .cellar, .larder, .host, .meter, .bell]) (r := s) (x := x134) ?_ fun hx134 => ?_
                · unfold x134
                  refine State.Evolves.ite ?_ ?_
                  · exact hx131
                  · refine State.Evolves.step ?_ (State.copyRun_evolves ..) rfl
                    exact hx131
                clear_value x134
                extract_lets +onlyGivenNames x135
                refine State.Evolves.cut (fs := [.attic, .cellar, .larder, .host, .meter, .bell]) (r := s) (x := x135) ?_ fun hx135 => ?_
                · unfold x135
                  refine State.Evolves.step ?_ (State.count_evolves ..) rfl
                  refine State.Evolves.step ?_ (State.setHdr_evolves ..) rfl
                  exact hx134
                clear_value x135
                unfold x7
                dsimp only
                refine State.Evolves.step ?_ (State.pinFrame_evolves ..) rfl
                refine State.Evolves.step ?_ (State.setKvEntry_evolves ..) rfl
                refine State.Evolves.step ?_ (State.releaseFrame_evolves ..) rfl
                exact hx135
              exact State.Evolves.refl _ _
          · unfold x7
            dsimp only
            refine State.Evolves.step ?_ (State.pinFrame_evolves ..) rfl
            refine State.Evolves.step ?_ (State.setKvEntry_evolves ..) rfl
            exact State.Evolves.refl _ _

theorem State.sketchPage_evolves (s : State) (c : KvCtx) (j : Nat) (f : Nat) :
    State.Evolves [.attic, .cellar, .larder, .host, .meter] s (State.sketchPage s c j f) := by
  unfold State.sketchPage
  extract_lets +onlyGivenNames x0
  clear_value x0
  extract_lets +onlyGivenNames x1
  clear_value x1
  extract_lets +onlyGivenNames x2
  refine State.Evolves.cut (fs := [.attic, .cellar, .larder, .host, .meter]) (r := s) (x := x2) ?_ fun hx2 => ?_
  · unfold x2
    refine State.Evolves.foldl ?_ ?_
    · exact State.Evolves.refl _ _
    · intro t3 x4 ht3
      split
      · extract_lets +onlyGivenNames x10
        refine State.Evolves.cut (fs := [.attic, .cellar, .larder, .host, .meter]) (r := s) (x := x10) ?_ fun hx10 => ?_
        · unfold x10
          refine State.Evolves.step ?_ (State.wrBytes_evolves ..) rfl
          exact ht3
        clear_value x10
        extract_lets +onlyGivenNames x11
        refine State.Evolves.cut (fs := [.attic, .cellar, .larder, .host, .meter]) (r := s) (x := x11) ?_ fun hx11 => ?_
        · unfold x11
          refine State.Evolves.step ?_ (State.wr_evolves ..) rfl
          exact hx10
        clear_value x11
        refine State.Evolves.step ?_ (State.wr_evolves ..) rfl
        exact hx11
  clear_value x2
  refine State.Evolves.step ?_ (State.count_evolves ..) rfl
  refine State.Evolves.step ?_ (State.setHdr_evolves ..) rfl
  exact hx2

theorem State.pageCmdIgnored_evolves (s : State) :
    State.Evolves [.meter, .bell] s (State.pageCmdIgnored s) := by
  unfold State.pageCmdIgnored
  refine State.Evolves.step ?_ (State.raise_evolves ..) rfl
  refine State.Evolves.step ?_ (State.count_evolves ..) rfl
  exact State.Evolves.refl _ _

theorem State.kvShare_evolves (s : State) (c : PageCmd) :
    State.Evolves [.attic, .cellar, .larder, .host, .meter] s (State.kvShare s c) := by
  unfold State.kvShare
  extract_lets +onlyGivenNames x0
  clear_value x0
  extract_lets +onlyGivenNames x1
  clear_value x1
  extract_lets +onlyGivenNames x2
  clear_value x2
  extract_lets +onlyGivenNames x3
  clear_value x3
  extract_lets +onlyGivenNames x4
  refine State.Evolves.cut (fs := [.attic, .cellar, .larder, .host, .meter]) (r := s) (x := x4) ?_ fun hx4 => ?_
  · unfold x4
    refine State.Evolves.foldl ?_ ?_
    · exact State.Evolves.refl _ _
    · intro t5 x6 ht5
      extract_lets +onlyGivenNames x7
      clear_value x7
      split
      · extract_lets +onlyGivenNames x13
        refine State.Evolves.cut (fs := [.attic, .cellar, .larder, .host, .meter]) (r := s) (x := x13) ?_ fun hx13 => ?_
        · unfold x13
          refine State.Evolves.ite ?_ ?_
          · refine State.Evolves.step ?_ (State.releaseFrame_evolves ..) rfl
            refine State.Evolves.step ?_ (State.setKvEntry_evolves ..) rfl
            exact ht5
          · exact ht5
        clear_value x13
        split
        · extract_lets +onlyGivenNames x24
          refine State.Evolves.cut (fs := [.attic, .cellar, .larder, .host, .meter]) (r := s) (x := x24) ?_ fun hx24 => ?_
          · unfold x24
            refine State.Evolves.step ?_ (State.setKvEntry_evolves ..) rfl
            exact hx13
          clear_value x24
          extract_lets +onlyGivenNames x25
          clear_value x25
          extract_lets +onlyGivenNames x26
          refine State.Evolves.cut (fs := [.attic, .cellar, .larder, .host, .meter]) (r := s) (x := x26) ?_ fun hx26 => ?_
          · unfold x26
            refine State.Evolves.ite ?_ ?_
            · refine State.Evolves.step ?_ (State.setHdr_evolves ..) rfl
              exact hx24
            · exact hx24
          clear_value x26
          refine State.Evolves.ite ?_ ?_
          · refine State.Evolves.foldl ?_ ?_
            · exact hx26
            · intro t27 x28 ht27
              extract_lets +onlyGivenNames x29
              refine State.Evolves.cut (fs := [.attic, .cellar, .larder, .host, .meter]) (r := s) (x := x29) ?_ fun hx29 => ?_
              · unfold x29
                refine State.Evolves.step ?_ (State.wrBytes_evolves ..) rfl
                exact ht27
              clear_value x29
              extract_lets +onlyGivenNames x30
              refine State.Evolves.cut (fs := [.attic, .cellar, .larder, .host, .meter]) (r := s) (x := x30) ?_ fun hx30 => ?_
              · unfold x30
                refine State.Evolves.step ?_ (State.wr_evolves ..) rfl
                exact hx29
              clear_value x30
              refine State.Evolves.step ?_ (State.wr_evolves ..) rfl
              exact hx30
          · exact hx26
  clear_value x4
  refine State.Evolves.step ?_ (State.setKvLength_evolves ..) rfl
  exact hx4

theorem State.pageCmd_evolves (s : State) (c : PageCmd) :
    State.Evolves [.attic, .cellar, .larder, .host, .od, .meter] s (State.pageCmd s c) := by
  unfold State.pageCmd
  extract_lets +onlyGivenNames x0
  refine State.Evolves.cut (fs := [.attic, .cellar, .larder, .host, .od, .meter]) (r := s) (x := x0) ?_ fun hx0 => ?_
  · unfold x0
    refine State.Evolves.ite ?_ ?_
    · refine State.Evolves.step ?_ (State.kvShare_evolves ..) rfl
      exact State.Evolves.refl _ _
    · refine State.Evolves.step ?_ (State.kvFree_evolves ..) rfl
      exact State.Evolves.refl _ _
  clear_value x0
  refine State.Evolves.step ?_ (State.setOd_evolves ..) rfl
  exact hx0

theorem State.buildPool_evolves (s : State) (p : Nat) :
    State.Evolves [.attic, .cellar, .larder, .host, .meter] s (State.buildPool s p) := by
  unfold State.buildPool
  extract_lets +onlyGivenNames x0
  clear_value x0
  refine State.Evolves.foldl ?_ ?_
  · refine State.Evolves.step ?_ (State.wr_evolves ..) rfl
    exact State.Evolves.refl _ _
  · intro t1 x2 ht1
    refine State.Evolves.step ?_ (State.pushFree_evolves ..) rfl
    exact ht1

theorem State.unpinAll_evolves (s : State) (pins : List (Nat × Nat)) :
    State.Evolves [.attic, .cellar, .larder, .host, .meter] s (State.unpinAll s pins) := by
  unfold State.unpinAll
  refine State.Evolves.foldl ?_ ?_
  · exact State.Evolves.refl _ _
  · intro t0 x1 ht0
    split
    · extract_lets +onlyGivenNames x5
      clear_value x5
      refine State.Evolves.step ?_ (State.maybeFree_evolves ..) rfl
      refine State.Evolves.step ?_ (State.setHdr_evolves ..) rfl
      exact ht0

theorem State.writeBack_evolves (s : State) (c : QCtx) (stcode : Nat) :
    State.Evolves [.attic, .cellar, .larder, .host, .meter] s (State.writeBack s c stcode) := by
  unfold State.writeBack
  refine State.Evolves.step ?_ (State.wr_evolves ..) rfl
  exact State.Evolves.refl _ _

theorem State.cacheCtx_evolves (s : State) (q : Nat) :
    State.Evolves [.attic, .cellar, .larder, .host, .meter, .lb] s (State.cacheCtx s q) := by
  unfold State.cacheCtx
  refine State.Evolves.ite ?_ ?_
  · refine State.Evolves.upd (s := s) ?_ (State.tables_of rfl rfl rfl rfl rfl rfl rfl) rfl rfl rfl rfl rfl rfl rfl fun f hf => by cases f <;> first | rfl | simp at hf
    exact State.Evolves.refl _ _
  · extract_lets +onlyGivenNames x0
    clear_value x0
    extract_lets +onlyGivenNames x1
    refine State.Evolves.cut (fs := [.attic, .cellar, .larder, .host, .meter, .lb]) (r := s) (x := x1) ?_ fun hx1 => ?_
    · unfold x1
      split
      · exact State.Evolves.refl _ _
      · split
        · exact State.Evolves.refl _ _
        · refine State.Evolves.step ?_ (State.writeBack_evolves ..) rfl
          exact State.Evolves.refl _ _
    clear_value x1
    refine State.Evolves.upd (s := x1) ?_ (State.tables_of rfl rfl rfl rfl rfl rfl rfl) rfl rfl rfl rfl rfl rfl rfl fun f hf => by cases f <;> first | rfl | simp at hf
    exact hx1

theorem State.touchCtx_evolves (s : State) (q : Nat) :
    State.Evolves [.attic, .cellar, .larder, .host, .meter, .lb] s (State.touchCtx s q) := by
  unfold State.touchCtx
  refine State.Evolves.ite ?_ ?_
  · refine State.Evolves.step ?_ (State.cacheCtx_evolves ..) rfl
    exact State.Evolves.refl _ _
  · extract_lets +onlyGivenNames x0
    refine State.Evolves.cut (fs := [.attic, .cellar, .larder, .host, .meter, .lb]) (r := s) (x := x0) ?_ fun hx0 => ?_
    · unfold x0
      refine State.Evolves.step ?_ (State.count_evolves ..) rfl
      exact State.Evolves.refl _ _
    clear_value x0
    refine State.Evolves.ite ?_ ?_
    · refine State.Evolves.step ?_ (State.cacheCtx_evolves ..) rfl
      exact hx0
    · exact hx0

theorem State.setQueue_evolves (s : State) (c : QCtx) :
    State.Evolves [.lb] s (State.setQueue s c) := by
  unfold State.setQueue
  refine State.Evolves.upd (s := s) ?_ (State.tables_of rfl rfl rfl rfl rfl rfl rfl) rfl rfl rfl rfl rfl rfl rfl fun f hf => by cases f <;> first | rfl | simp at hf
  exact State.Evolves.refl _ _

theorem State.evict_evolves (s : State) (q : Nat) :
    State.Evolves [.lb] s (State.evict s q) := by
  unfold State.evict
  refine State.Evolves.upd (s := s) ?_ (State.tables_of rfl rfl rfl rfl rfl rfl rfl) rfl rfl rfl rfl rfl rfl rfl fun f hf => by cases f <;> first | rfl | simp at hf
  exact State.Evolves.refl _ _

theorem State.afterRecord_evolves (s : State) (q : Nat) :
    State.Evolves [.attic, .cellar, .larder, .host, .meter, .lb] s (State.afterRecord s q) := by
  unfold State.afterRecord
  extract_lets +onlyGivenNames x0
  refine State.Evolves.cut (fs := [.attic, .cellar, .larder, .host, .meter, .lb]) (r := s) (x := x0) ?_ fun hx0 => ?_
  · unfold x0
    split
    · exact State.Evolves.refl _ _
    · refine State.Evolves.ite ?_ ?_
      · refine State.Evolves.step ?_ (State.setQueue_evolves ..) rfl
        exact State.Evolves.refl _ _
      · exact State.Evolves.refl _ _
  clear_value x0
  split
  · exact hx0
  · refine State.Evolves.ite ?_ ?_
    · refine State.Evolves.step ?_ (State.evict_evolves ..) rfl
      refine State.Evolves.step ?_ (State.writeBack_evolves ..) rfl
      exact hx0
    · exact hx0

theorem State.closeAdvance_evolves (s : State) (f : FinRec) :
    State.Evolves [.od, .meter, .gz, .ex] s (State.closeAdvance s f) := by
  unfold State.closeAdvance
  split
  · exact State.Evolves.refl _ _
  · refine State.Evolves.ite ?_ ?_
    · refine State.Evolves.step ?_ (State.advanceBank_evolves ..) rfl
      refine State.Evolves.upd (s := s) ?_ (State.tables_of rfl rfl rfl rfl rfl rfl rfl) rfl rfl rfl rfl rfl rfl rfl fun f hf => by cases f <;> first | rfl | simp at hf
      exact State.Evolves.refl _ _
    · exact State.Evolves.refl _ _

theorem State.writeRecord_evolves (s : State) (c : QCtx) (f : FinRec) :
    State.Evolves [.attic, .cellar, .larder, .host, .od, .meter, .lb, .bell, .gz, .ex] s (State.writeRecord s c f) := by
  unfold State.writeRecord
  extract_lets +onlyGivenNames x0
  refine State.Evolves.cut (fs := [.attic, .cellar, .larder, .host, .od, .meter, .lb, .bell, .gz, .ex]) (r := s) (x := x0) ?_ fun hx0 => ?_
  · unfold x0
    refine State.Evolves.ite ?_ ?_
    · refine State.Evolves.step ?_ (State.wr_evolves ..) rfl
      exact State.Evolves.refl _ _
    · exact State.Evolves.refl _ _
  clear_value x0
  extract_lets +onlyGivenNames x1
  refine State.Evolves.cut (fs := [.attic, .cellar, .larder, .host, .od, .meter, .lb, .bell, .gz, .ex]) (r := s) (x := x1) ?_ fun hx1 => ?_
  · unfold x1
    refine State.Evolves.step ?_ (State.wr_evolves ..) rfl
    exact hx0
  clear_value x1
  extract_lets +onlyGivenNames x2
  refine State.Evolves.cut (fs := [.attic, .cellar, .larder, .host, .od, .meter, .lb, .bell, .gz, .ex]) (r := s) (x := x2) ?_ fun hx2 => ?_
  · unfold x2
    refine State.Evolves.ite ?_ ?_
    · refine State.Evolves.step ?_ (State.count_evolves ..) rfl
      exact hx1
    · exact hx1
  clear_value x2
  extract_lets +onlyGivenNames x3
  refine State.Evolves.cut (fs := [.attic, .cellar, .larder, .host, .od, .meter, .lb, .bell, .gz, .ex]) (r := s) (x := x3) ?_ fun hx3 => ?_
  · unfold x3
    refine State.Evolves.step ?_ (State.touchCtx_evolves ..) rfl
    refine State.Evolves.step ?_ (State.setQueue_evolves ..) rfl
    exact hx2
  clear_value x3
  extract_lets +onlyGivenNames x4
  refine State.Evolves.cut (fs := [.attic, .cellar, .larder, .host, .od, .meter, .lb, .bell, .gz, .ex]) (r := s) (x := x4) ?_ fun hx4 => ?_
  · unfold x4
    refine State.Evolves.ite ?_ ?_
    · refine State.Evolves.step ?_ (State.raise_evolves ..) rfl
      exact hx3
    · exact hx3
  clear_value x4
  extract_lets +onlyGivenNames x5
  clear_value x5
  extract_lets +onlyGivenNames x6
  refine State.Evolves.cut (fs := [.attic, .cellar, .larder, .host, .od, .meter, .lb, .bell, .gz, .ex]) (r := s) (x := x6) ?_ fun hx6 => ?_
  · unfold x6
    refine State.Evolves.upd (s := x4) ?_ (State.tables_of rfl rfl rfl rfl rfl rfl rfl) rfl rfl rfl rfl rfl rfl rfl fun f hf => by cases f <;> first | rfl | simp at hf
    exact hx4
  clear_value x6
  refine State.Evolves.step ?_ (State.closeAdvance_evolves ..) rfl
  refine State.Evolves.step ?_ (State.unpinAll_evolves ..) rfl
  exact hx6

theorem State.drain_evolves (s : State) (q : Nat) (n : Nat) :
    State.Evolves [.attic, .cellar, .larder, .host, .od, .meter, .lb, .bell, .gz, .ex] s (State.drain s q n) := by
  induction n generalizing s with
  | zero => exact State.Evolves.refl _ _
  | succ n ih =>
    unfold State.drain
    split
    · exact State.Evolves.refl _ _
    · refine State.Evolves.step ?_ (ih _) rfl
      refine State.Evolves.step ?_ (State.afterRecord_evolves ..) rfl
      exact (State.writeRecord_evolves ..).mono rfl

theorem State.pinReads_evolves (s : State) (parts : List Part) :
    State.Evolves [.attic, .cellar, .larder, .host, .meter] s (State.pinReads s parts).1 := by
  unfold State.pinReads
  refine State.Evolves.foldl_fst ?_ ?_
  · dsimp only
    exact State.Evolves.refl _ _
  · intro t0 x1 ht0
    split
    · rename_i v2 v3 v4 e5
      dsimp only
      refine State.Evolves.foldl ?_ ?_
      · exact ht0
      · intro t6 x7 ht6
        refine State.Evolves.step ?_ (State.pinFrame_evolves ..) rfl
        exact ht6

theorem State.haltQueue_evolves (s : State) (q : Nat) (seq : Nat) (err : Nat) :
    State.Evolves [.lb] s (State.haltQueue s q seq err) := by
  unfold State.haltQueue
  split
  · exact State.Evolves.refl _ _
  · refine State.Evolves.step ?_ (State.setQueue_evolves ..) rfl
    exact State.Evolves.refl _ _

theorem State.advanceHead_evolves (s : State) (c : QCtx) :
    State.Evolves [.attic, .cellar, .larder, .host, .meter, .lb] s (State.advanceHead s c) := by
  unfold State.advanceHead
  refine State.Evolves.step ?_ (State.touchCtx_evolves ..) rfl
  refine State.Evolves.step ?_ (State.setQueue_evolves ..) rfl
  exact State.Evolves.refl _ _

theorem State.settle_evolves (s : State) :
    State.Evolves [.lb] s (State.settle s) := by
  unfold State.settle
  extract_lets +onlyGivenNames x0
  clear_value x0
  refine State.Evolves.upd (s := s) ?_ (State.tables_of rfl rfl rfl rfl rfl rfl rfl) rfl rfl rfl rfl rfl rfl rfl fun f hf => by cases f <;> first | rfl | simp at hf
  exact State.Evolves.refl _ _

theorem State.finish_evolves (s : State) (f : FinRec) :
    State.Evolves [.attic, .cellar, .larder, .host, .od, .meter, .lb, .bell, .gz, .ex] s (State.finish s f) := by
  unfold State.finish
  extract_lets +onlyGivenNames x0
  clear_value x0
  extract_lets +onlyGivenNames x1
  refine State.Evolves.cut (fs := [.attic, .cellar, .larder, .host, .od, .meter, .lb, .bell, .gz, .ex]) (r := s) (x := x1) ?_ fun hx1 => ?_
  · unfold x1
    refine State.Evolves.upd (s := s) ?_ (State.tables_of rfl rfl rfl rfl rfl rfl rfl) rfl rfl rfl rfl rfl rfl rfl fun f hf => by cases f <;> first | rfl | simp at hf
    exact State.Evolves.refl _ _
  clear_value x1
  refine State.Evolves.step ?_ (State.drain_evolves ..) rfl
  exact hx1

theorem State.failLetter_evolves (s : State) (c : QCtx) (err : Nat) (l : Letter) :
    State.Evolves [.attic, .cellar, .larder, .host, .od, .meter, .lb, .bell, .gz, .ex] s (State.failLetter s c err l) := by
  unfold State.failLetter
  extract_lets +onlyGivenNames x0
  refine State.Evolves.cut (fs := [.attic, .cellar, .larder, .host, .od, .meter, .lb, .bell, .gz, .ex]) (r := s) (x := x0) ?_ fun hx0 => ?_
  · unfold x0
    refine State.Evolves.step ?_ (State.haltQueue_evolves ..) rfl
    refine State.Evolves.step ?_ (State.advanceHead_evolves ..) rfl
    exact State.Evolves.refl _ _
  clear_value x0
  refine State.Evolves.step ?_ (State.settle_evolves ..) rfl
  refine State.Evolves.step ?_ (State.finish_evolves ..) rfl
  exact hx0

theorem State.failPoisoned_evolves (s : State) (c : QCtx) :
    State.Evolves [.attic, .cellar, .larder, .host, .od, .meter, .lb, .bell, .gz, .ex] s (State.failPoisoned s c) := by
  unfold State.failPoisoned
  refine State.Evolves.step ?_ (State.failLetter_evolves ..) rfl
  exact State.Evolves.refl _ _

theorem State.dropStreams_evolves (s : State) (st : Nat) :
    State.Evolves [.porch] s (State.dropStreams s st) := by
  unfold State.dropStreams
  refine State.Evolves.upd (s := s) ?_ (State.tables_of rfl rfl rfl rfl rfl rfl rfl) rfl rfl rfl rfl rfl rfl rfl fun f hf => by cases f <;> first | rfl | simp at hf
  exact State.Evolves.refl _ _

theorem State.countStreams_evolves (s : State) (o : Op) :
    State.Evolves [.meter] s (State.countStreams s o) := by
  unfold State.countStreams
  split
  · extract_lets +onlyGivenNames x4
    refine State.Evolves.cut (fs := [.meter]) (r := s) (x := x4) ?_ fun hx4 => ?_
    · unfold x4
      refine State.Evolves.ite ?_ ?_
      · refine State.Evolves.step ?_ (State.count_evolves ..) rfl
        exact State.Evolves.refl _ _
      · exact State.Evolves.refl _ _
    clear_value x4
    extract_lets +onlyGivenNames x5
    clear_value x5
    refine State.Evolves.ite ?_ ?_
    · exact hx4
    · refine State.Evolves.step ?_ (State.count_evolves ..) rfl
      exact hx4

theorem State.countDelivery_evolves (s : State) (d : Delivery) :
    State.Evolves [.meter] s (State.countDelivery s d) := by
  unfold State.countDelivery
  refine State.Evolves.step ?_ (State.count_evolves ..) rfl
  refine State.Evolves.step ?_ (State.count_evolves ..) rfl
  refine State.Evolves.step ?_ (State.count_evolves ..) rfl
  exact State.Evolves.refl _ _

theorem State.setupStreams_evolves (s : State) (o : Op) :
    State.Evolves [.porch] s (State.setupStreams s o).1 := by
  unfold State.setupStreams
  extract_lets +onlyGivenNames x0
  clear_value x0
  extract_lets +onlyGivenNames x1
  clear_value x1
  dsimp only
  refine State.Evolves.upd (s := s) ?_ (State.tables_of rfl rfl rfl rfl rfl rfl rfl) rfl rfl rfl rfl rfl rfl rfl fun f hf => by cases f <;> first | rfl | simp at hf
  exact State.Evolves.refl _ _

theorem State.releaseDrains_evolves (s : State) (st : Nat) :
    State.Evolves [.porch] s (State.releaseDrains s st) := by
  unfold State.releaseDrains
  refine State.Evolves.ite ?_ ?_
  · exact State.Evolves.refl _ _
  · refine State.Evolves.upd (s := s) ?_ (State.tables_of rfl rfl rfl rfl rfl rfl rfl) rfl rfl rfl rfl rfl rfl rfl fun f hf => by cases f <;> first | rfl | simp at hf
    exact State.Evolves.refl _ _

theorem State.releaseReads_evolves (s : State) (st : Nat) :
    State.Evolves [.porch] s (State.releaseReads s st) := by
  unfold State.releaseReads
  refine State.Evolves.upd (s := s) ?_ (State.tables_of rfl rfl rfl rfl rfl rfl rfl) rfl rfl rfl rfl rfl rfl rfl fun f hf => by cases f <;> first | rfl | simp at hf
  exact State.Evolves.refl _ _

theorem State.setContender_evolves (s : State) (c : Contender) :
    State.Evolves [.porch] s (State.setContender s c) := by
  unfold State.setContender
  refine State.Evolves.upd (s := s) ?_ (State.tables_of rfl rfl rfl rfl rfl rfl rfl) rfl rfl rfl rfl rfl rfl rfl fun f hf => by cases f <;> first | rfl | simp at hf
  exact State.Evolves.refl _ _

theorem State.grant_evolves (s : State) (port : Nat) (c : Contender) :
    State.Evolves [.porch] s (State.grant s port c) := by
  unfold State.grant
  extract_lets +onlyGivenNames x0
  clear_value x0
  extract_lets +onlyGivenNames x1
  refine State.Evolves.cut (fs := [.porch]) (r := s) (x := x1) ?_ fun hx1 => ?_
  · unfold x1
    refine State.Evolves.upd (s := s) ?_ (State.tables_of rfl rfl rfl rfl rfl rfl rfl) rfl rfl rfl rfl rfl rfl rfl fun f hf => by cases f <;> first | rfl | simp at hf
    exact State.Evolves.refl _ _
  clear_value x1
  split
  · exact hx1
  · refine State.Evolves.ite ?_ ?_
    · refine State.Evolves.step ?_ (State.setContender_evolves ..) rfl
      exact hx1
    · extract_lets +onlyGivenNames x8
      clear_value x8
      extract_lets +onlyGivenNames x9
      clear_value x9
      refine State.Evolves.step ?_ (State.setContender_evolves ..) rfl
      exact hx1

theorem State.bellReroute_evolves (s : State) (n : Nat) (v : Nat) :
    State.Evolves [.bell] s (State.bellReroute s n v) := by
  unfold State.bellReroute
  extract_lets +onlyGivenNames x0
  clear_value x0
  extract_lets +onlyGivenNames x1
  clear_value x1
  extract_lets +onlyGivenNames x2
  extract_lets +onlyGivenNames x3
  refine State.Evolves.cut (fs := [.bell]) (r := s) (x := x3) ?_ fun hx3 => ?_
  · unfold x3
    refine State.Evolves.upd (s := s) ?_ (State.tables_of rfl rfl rfl rfl rfl rfl rfl) rfl rfl rfl rfl rfl rfl rfl fun f hf => by cases f <;> first | rfl | simp at hf
    exact State.Evolves.refl _ _
  clear_value x3
  refine State.Evolves.ite ?_ ?_
  · refine State.Evolves.foldl ?_ ?_
    · exact hx3
    · intro t4 x5 ht4
      refine State.Evolves.step ?_ (State.bellRise_evolves ..) rfl
      exact ht4
  · exact hx3

theorem State.bellTicks_evolves (s : State) (n : Nat) :
    State.Evolves [.meter, .bell] s (State.bellTicks s n) := by
  unfold State.bellTicks
  extract_lets +onlyGivenNames x0
  refine State.Evolves.cut (fs := [.meter, .bell]) (r := s) (x := x0) ?_ fun hx0 => ?_
  · unfold x0
    refine State.Evolves.foldl ?_ ?_
    · exact State.Evolves.refl _ _
    · intro t1 x2 ht1
      refine State.Evolves.step ?_ (State.bellReroute_evolves ..) rfl
      exact ht1
  clear_value x0
  extract_lets +onlyGivenNames x3
  clear_value x3
  extract_lets +onlyGivenNames x4
  extract_lets +onlyGivenNames x5
  refine State.Evolves.cut (fs := [.meter, .bell]) (r := s) (x := x5) ?_ fun hx5 => ?_
  · unfold x5
    refine State.Evolves.upd (s := x0) hx0 (fun ⟨h1, h2, h3, h4, h5, h6, h7⟩ => ⟨h1, h2, h3, h4, h5, h6, rising_mapVal (f := fun y => if y.waiting then { y with timer := y.timer + n } else y) h7⟩) rfl rfl rfl rfl rfl rfl rfl fun f hf => by cases f <;> first | rfl | simp at hf
  clear_value x5
  refine State.Evolves.ite ?_ ?_
  · exact hx5
  · refine State.Evolves.step ?_ (State.count_evolves ..) rfl
    exact hx5

theorem State.runTicks_evolves (s : State) (n : Nat) :
    State.Evolves [.meter, .tick, .bell] s (State.runTicks s n) := by
  unfold State.runTicks
  refine State.Evolves.ite ?_ ?_
  · exact State.Evolves.refl _ _
  · extract_lets +onlyGivenNames x0
    refine State.Evolves.cut (fs := [.meter, .tick, .bell]) (r := s) (x := x0) ?_ fun hx0 => ?_
    · unfold x0
      refine State.Evolves.step ?_ (State.bellTicks_evolves ..) rfl
      refine State.Evolves.upd (s := s) ?_ (State.tables_of rfl rfl rfl rfl rfl rfl rfl) rfl rfl rfl rfl rfl rfl rfl fun f hf => by cases f <;> first | rfl | simp at hf
      exact State.Evolves.refl _ _
    clear_value x0
    refine State.Evolves.ite ?_ ?_
    · refine State.Evolves.step ?_ (State.count_evolves ..) rfl
      exact hx0
    · exact hx0

theorem State.bellClear_evolves (s : State) (n : Nat) :
    State.Evolves [.bell] s (State.bellClear s n) := by
  unfold State.bellClear
  refine State.Evolves.ite ?_ ?_
  · refine State.Evolves.step ?_ (State.lower_evolves ..) rfl
    exact State.Evolves.refl _ _
  · exact State.Evolves.refl _ _

theorem State.meterCut_evolves (s : State) :
    State.Evolves [.mtr] s (State.meterCut s) := by
  unfold State.meterCut
  refine State.Evolves.upd (s := s) ?_ (State.tables_of rfl rfl rfl rfl rfl rfl rfl) rfl rfl rfl rfl rfl rfl rfl fun f hf => by cases f <;> first | rfl | simp at hf
  exact State.Evolves.refl _ _

theorem State.ticks_evolves (s : State) (n : Nat) :
    State.Evolves [.meter, .tick, .bell, .mtr] s (State.ticks s n) := by
  unfold State.ticks
  split
  · refine State.Evolves.step ?_ (State.runTicks_evolves ..) rfl
    exact State.Evolves.refl _ _
  · refine State.Evolves.ite ?_ ?_
    · refine State.Evolves.step ?_ (State.runTicks_evolves ..) rfl
      refine State.Evolves.step ?_ (State.meterCut_evolves ..) rfl
      refine State.Evolves.step ?_ (State.runTicks_evolves ..) rfl
      exact State.Evolves.refl _ _
    · refine State.Evolves.step ?_ (State.runTicks_evolves ..) rfl
      exact State.Evolves.refl _ _

theorem State.pilotTick_evolves (s : State) :
    State.Evolves [.meter, .tick, .bell, .mtr] s (State.pilotTick s) := by
  unfold State.pilotTick
  refine State.Evolves.ite ?_ ?_
  · refine State.Evolves.step ?_ (State.ticks_evolves ..) rfl
    exact State.Evolves.refl _ _
  · exact State.Evolves.refl _ _

theorem State.msixSend_evolves (s : State) (v : Nat) :
    State.Evolves [.sent, .bell] s (State.msixSend s v) := by
  unfold State.msixSend
  refine State.Evolves.ite ?_ ?_
  · refine State.Evolves.upd (s := s) ?_ (State.tables_of rfl rfl rfl rfl rfl rfl rfl) rfl rfl rfl rfl rfl rfl rfl fun f hf => by cases f <;> first | rfl | simp at hf
    exact State.Evolves.refl _ _
  · refine State.Evolves.step ?_ (State.send_evolves ..) rfl
    exact State.Evolves.refl _ _

theorem State.bellRouteWrite_evolves (s : State) (n : Nat) (v : Nat) :
    State.Evolves [.od, .bell] s (State.bellRouteWrite s n v) :=
  State.Evolves.step (s := { s with bell := { s.bell with newRoutes := aset 4096 s.bell.newRoutes n (v % 4096) } })
    (State.Evolves.upd (s := s) (State.Evolves.refl _ _) (State.tables_of rfl rfl rfl rfl rfl rfl rfl) rfl rfl rfl rfl rfl rfl rfl fun f hf => by cases f <;> first | rfl | simp at hf)
    (State.setOd_evolves _ (okey (0x09400 + n) 0) (v % 4096)) rfl

theorem State.bellDeliver_evolves (s : State) (x : Nat) :
    State.Evolves [.meter, .sent, .bell] s (State.bellDeliver s x) := by
  unfold State.bellDeliver
  refine State.Evolves.ite ?_ ?_
  · exact State.Evolves.refl _ _
  · extract_lets +onlyGivenNames x0
    clear_value x0
    extract_lets +onlyGivenNames x1
    refine State.Evolves.cut (fs := [.meter, .sent, .bell]) (r := s) (x := x1) ?_ fun hx1 => ?_
    · unfold x1
      refine State.Evolves.step ?_ (State.setBellTarget_evolves ..) rfl
      exact State.Evolves.refl _ _
    clear_value x1
    refine State.Evolves.ite ?_ ?_
    · refine State.Evolves.step ?_ (State.msixSend_evolves ..) rfl
      refine State.Evolves.step ?_ (State.count_evolves ..) rfl
      exact hx1
    · refine State.Evolves.step ?_ (State.send_evolves ..) rfl
      refine State.Evolves.step ?_ (State.count_evolves ..) rfl
      exact hx1

theorem State.bellDeliverAll_evolves (s : State) :
    State.Evolves [.meter, .sent, .bell] s (State.bellDeliverAll s) := by
  unfold State.bellDeliverAll
  refine State.Evolves.foldl ?_ ?_
  · exact State.Evolves.refl _ _
  · intro t0 x1 ht0
    refine State.Evolves.step ?_ (State.bellDeliver_evolves ..) rfl
    exact ht0

theorem State.bellGlobalWrite_evolves (s : State) (v : Nat) :
    State.Evolves [.od, .meter, .sent, .bell] s (State.bellGlobalWrite s v) := by
  unfold State.bellGlobalWrite
  extract_lets +onlyGivenNames x0
  refine State.Evolves.cut (fs := [.od, .meter, .sent, .bell]) (r := s) (x := x0) ?_ fun hx0 => ?_
  · unfold x0
    refine State.Evolves.step ?_ (State.setOd_evolves ..) rfl
    exact State.Evolves.refl _ _
  clear_value x0
  refine State.Evolves.ite ?_ ?_
  · refine State.Evolves.step ?_ (State.bellDeliverAll_evolves ..) rfl
    exact hx0
  · exact hx0

theorem State.msixMask_evolves (s : State) (v : Nat) :
    State.Evolves [.bell] s (State.msixMask s v) := by
  unfold State.msixMask
  refine State.Evolves.ite ?_ ?_
  · refine State.Evolves.upd (s := s) ?_ (State.tables_of rfl rfl rfl rfl rfl rfl rfl) rfl rfl rfl rfl rfl rfl rfl fun f hf => by cases f <;> first | rfl | simp at hf
    exact State.Evolves.refl _ _
  · refine State.Evolves.upd (s := s) ?_ (State.tables_of rfl rfl rfl rfl rfl rfl rfl) rfl rfl rfl rfl rfl rfl rfl fun f hf => by cases f <;> first | rfl | simp at hf
    exact State.Evolves.refl _ _

theorem State.bellAck_evolves (s : State) (v : Nat) :
    State.Evolves [.meter, .bell] s (State.bellAck s v) := by
  unfold State.bellAck
  extract_lets +onlyGivenNames x0
  clear_value x0
  refine State.Evolves.ite ?_ ?_
  · refine State.Evolves.step ?_ (State.count_evolves ..) rfl
    exact State.Evolves.refl _ _
  · refine State.Evolves.ite ?_ ?_
    · refine State.Evolves.step ?_ (State.count_evolves ..) rfl
      refine State.Evolves.step ?_ (State.setBellTarget_evolves ..) rfl
      exact State.Evolves.refl _ _
    · refine State.Evolves.step ?_ (State.setBellTarget_evolves ..) rfl
      exact State.Evolves.refl _ _

theorem State.atLeast_evolves (s : State) (t : Nat) :
    State.Evolves [.meter, .tick, .bell, .mtr] s (State.atLeast s t) := by
  unfold State.atLeast
  refine State.Evolves.step ?_ (State.ticks_evolves ..) rfl
  exact State.Evolves.refl _ _

theorem State.msixUnmask_evolves (s : State) (v : Nat) :
    State.Evolves [.sent, .bell] s (State.msixUnmask s v) := by
  unfold State.msixUnmask
  extract_lets +onlyGivenNames x0
  extract_lets +onlyGivenNames x1
  refine State.Evolves.cut (fs := [.sent, .bell]) (r := s) (x := x1) ?_ fun hx1 => ?_
  · unfold x1
    refine State.Evolves.ite ?_ ?_
    · refine State.Evolves.upd (s := s) ?_ (State.tables_of rfl rfl rfl rfl rfl rfl rfl) rfl rfl rfl rfl rfl rfl rfl fun f hf => by cases f <;> first | rfl | simp at hf
      exact State.Evolves.refl _ _
    · refine State.Evolves.upd (s := s) ?_ (State.tables_of rfl rfl rfl rfl rfl rfl rfl) rfl rfl rfl rfl rfl rfl rfl fun f hf => by cases f <;> first | rfl | simp at hf
      exact State.Evolves.refl _ _
  clear_value x1
  extract_lets +onlyGivenNames x2
  clear_value x2
  refine State.Evolves.foldl ?_ ?_
  · exact hx1
  · intro t3 x4 ht3
    refine State.Evolves.step ?_ (State.send_evolves ..) rfl
    refine State.Evolves.upd (s := t3) ?_ (State.tables_of rfl rfl rfl rfl rfl rfl rfl) rfl rfl rfl rfl rfl rfl rfl fun f hf => by cases f <;> first | rfl | simp at hf
    exact ht3

theorem State.bellVectorWrite_evolves (s : State) (v : Nat) (w : Nat) :
    State.Evolves [.od, .meter, .sent, .bell] s (State.bellVectorWrite s v w) := by
  unfold State.bellVectorWrite
  refine State.Evolves.step ?_ (State.bellDeliver_evolves ..) rfl
  refine State.Evolves.step ?_ (State.setOd_evolves ..) rfl
  exact State.Evolves.refl _ _

theorem State.doorbell_evolves (s : State) (data : Nat) :
    State.Evolves [.attic, .cellar, .larder, .host, .meter, .lb, .bell] s (State.doorbell s data) := by
  unfold State.doorbell
  extract_lets +onlyGivenNames x0
  clear_value x0
  extract_lets +onlyGivenNames x1
  clear_value x1
  extract_lets +onlyGivenNames x2
  refine State.Evolves.cut (fs := [.attic, .cellar, .larder, .host, .meter, .lb, .bell]) (r := s) (x := x2) ?_ fun hx2 => ?_
  · unfold x2
    refine State.Evolves.step ?_ (State.raise_evolves ..) rfl
    refine State.Evolves.step ?_ (State.count_evolves ..) rfl
    exact State.Evolves.refl _ _
  clear_value x2
  split
  · refine State.Evolves.step ?_ (State.raise_evolves ..) rfl
    refine State.Evolves.step ?_ (State.count_evolves ..) rfl
    refine State.Evolves.step ?_ (State.touchCtx_evolves ..) rfl
    exact State.Evolves.refl _ _
  · refine State.Evolves.ite ?_ ?_
    · refine State.Evolves.step ?_ (State.settle_evolves ..) rfl
      refine State.Evolves.step ?_ (State.touchCtx_evolves ..) rfl
      refine State.Evolves.step ?_ (State.setQueue_evolves ..) rfl
      exact State.Evolves.refl _ _
    · refine State.Evolves.step ?_ (State.touchCtx_evolves ..) rfl
      exact hx2

theorem State.partTile_evolves (s : State) (o : Op) :
    State.Evolves [.meter, .freeCtr] s (State.partTile s o) := by
  unfold State.partTile
  split
  · exact State.Evolves.refl _ _
  · refine State.Evolves.ite ?_ ?_
    · exact State.Evolves.refl _ _
    · extract_lets +onlyGivenNames x5
      clear_value x5
      split
      · rename_i v6 v7 e8 v9 v10 v11 e12
        refine State.Evolves.cut (fs := [.meter, .freeCtr]) (r := s) (x := v11) (State.Evolves.eqv ?_ (congrArg (fun y => y.2) e12)) fun hv11 => ?_
        · refine State.Evolves.step ?_ (State.free_evolves ..) rfl
          exact State.Evolves.refl _ _
        extract_lets +onlyGivenNames x13
        refine State.Evolves.cut (fs := [.meter, .freeCtr]) (r := s) (x := x13) ?_ fun hx13 => ?_
        · unfold x13
          refine State.Evolves.step ?_ (State.count_evolves ..) rfl
          exact hv11
        clear_value x13
        refine State.Evolves.ite ?_ ?_
        · refine State.Evolves.step ?_ (State.count_evolves ..) rfl
          exact hx13
        · exact hx13

theorem State.dispatchReserved_evolves (s : State) (q : Nat) :
    State.Evolves [.attic, .cellar, .larder, .host, .od, .meter, .lb, .bell, .gz, .ex] s (State.dispatchReserved s q) := by
  unfold State.dispatchReserved
  split
  · exact State.Evolves.refl _ _
  · refine State.Evolves.ite ?_ ?_
    · exact State.Evolves.refl _ _
    · refine State.Evolves.ite ?_ ?_
      · refine State.Evolves.step ?_ (State.failPoisoned_evolves ..) rfl
        exact State.Evolves.refl _ _
      · extract_lets +onlyGivenNames x5
        clear_value x5
        refine State.Evolves.ite ?_ ?_
        · exact State.Evolves.refl _ _
        · refine State.Evolves.step ?_ (State.failLetter_evolves ..) rfl
          exact State.Evolves.refl _ _

theorem State.cmdIgnored_evolves (s : State) :
    State.Evolves [.meter] s (State.cmdIgnored s) := by
  unfold State.cmdIgnored
  refine State.Evolves.step ?_ (State.count_evolves ..) rfl
  exact State.Evolves.refl _ _

theorem State.enableQueue_evolves (s : State) (q : Nat) :
    State.Evolves [.attic, .cellar, .larder, .host, .meter, .lb, .bell] s (State.enableQueue s q) := by
  unfold State.enableQueue
  split
  · refine State.Evolves.step ?_ (State.cmdIgnored_evolves ..) rfl
    exact State.Evolves.refl _ _
  · extract_lets +onlyGivenNames x5
    clear_value x5
    extract_lets +onlyGivenNames x6
    clear_value x6
    extract_lets +onlyGivenNames x7
    refine State.Evolves.ite ?_ ?_
    · refine State.Evolves.step ?_ (State.raise_evolves ..) rfl
      unfold x7
      refine State.Evolves.step ?_ (State.cacheCtx_evolves ..) rfl
      refine State.Evolves.upd (s := s) ?_ (State.tables_of rfl rfl rfl rfl rfl rfl rfl) rfl rfl rfl rfl rfl rfl rfl fun f hf => by cases f <;> first | rfl | simp at hf
      exact State.Evolves.refl _ _
    · refine State.Evolves.step ?_ (State.settle_evolves ..) rfl
      unfold x7
      refine State.Evolves.step ?_ (State.cacheCtx_evolves ..) rfl
      refine State.Evolves.upd (s := s) ?_ (State.tables_of rfl rfl rfl rfl rfl rfl rfl) rfl rfl rfl rfl rfl rfl rfl fun f hf => by cases f <;> first | rfl | simp at hf
      exact State.Evolves.refl _ _

theorem State.disableQueue_evolves (s : State) (q : Nat) :
    State.Evolves [.attic, .cellar, .larder, .host, .meter, .lb] s (State.disableQueue s q) := by
  unfold State.disableQueue
  split
  · refine State.Evolves.step ?_ (State.cmdIgnored_evolves ..) rfl
    exact State.Evolves.refl _ _
  · refine State.Evolves.ite ?_ ?_
    · refine State.Evolves.step ?_ (State.settle_evolves ..) rfl
      refine State.Evolves.step ?_ (State.evict_evolves ..) rfl
      exact State.Evolves.refl _ _
    · refine State.Evolves.ite ?_ ?_
      · refine State.Evolves.step ?_ (State.cmdIgnored_evolves ..) rfl
        exact State.Evolves.refl _ _
      · refine State.Evolves.ite ?_ ?_
        · refine State.Evolves.step ?_ (State.settle_evolves ..) rfl
          refine State.Evolves.step ?_ (State.evict_evolves ..) rfl
          refine State.Evolves.step ?_ (State.writeBack_evolves ..) rfl
          exact State.Evolves.refl _ _
        · refine State.Evolves.step ?_ (State.touchCtx_evolves ..) rfl
          refine State.Evolves.step ?_ (State.setQueue_evolves ..) rfl
          exact State.Evolves.refl _ _

theorem State.resumeQueue_evolves (s : State) (q : Nat) :
    State.Evolves [.attic, .cellar, .larder, .host, .meter, .lb] s (State.resumeQueue s q) := by
  unfold State.resumeQueue
  split
  · refine State.Evolves.step ?_ (State.cmdIgnored_evolves ..) rfl
    exact State.Evolves.refl _ _
  · refine State.Evolves.ite ?_ ?_
    · refine State.Evolves.step ?_ (State.settle_evolves ..) rfl
      refine State.Evolves.step ?_ (State.touchCtx_evolves ..) rfl
      refine State.Evolves.step ?_ (State.setQueue_evolves ..) rfl
      exact State.Evolves.refl _ _
    · refine State.Evolves.step ?_ (State.cmdIgnored_evolves ..) rfl
      exact State.Evolves.refl _ _

theorem State.flushQueue_evolves (s : State) (q : Nat) :
    State.Evolves [.attic, .cellar, .larder, .host, .od, .meter, .lb, .bell, .gz, .ex] s (State.flushQueue s q) := by
  unfold State.flushQueue
  split
  · refine State.Evolves.step ?_ (State.cmdIgnored_evolves ..) rfl
    exact State.Evolves.refl _ _
  · refine State.Evolves.ite ?_ ?_
    · refine State.Evolves.step ?_ (State.cmdIgnored_evolves ..) rfl
      exact State.Evolves.refl _ _
    · extract_lets +onlyGivenNames x5
      clear_value x5
      extract_lets +onlyGivenNames x6
      clear_value x6
      extract_lets +onlyGivenNames x7
      refine State.Evolves.cut (fs := [.attic, .cellar, .larder, .host, .od, .meter, .lb, .bell, .gz, .ex]) (r := s) (x := x7) ?_ fun hx7 => ?_
      · unfold x7
        refine State.Evolves.step ?_ (State.touchCtx_evolves ..) rfl
        refine State.Evolves.step ?_ (State.setQueue_evolves ..) rfl
        exact State.Evolves.refl _ _
      clear_value x7
      refine State.Evolves.step ?_ (State.settle_evolves ..) rfl
      refine State.Evolves.step ?_ (State.afterRecord_evolves ..) rfl
      refine State.Evolves.foldl ?_ ?_
      · exact hx7
      · intro t8 x9 ht8
        refine State.Evolves.step ?_ (State.finish_evolves ..) rfl
        exact ht8

theorem State.queueCmd_evolves (s : State) (data : Nat) :
    State.Evolves [.attic, .cellar, .larder, .host, .od, .meter, .lb, .bell, .gz, .ex] s (State.queueCmd s data) := by
  unfold State.queueCmd
  extract_lets +onlyGivenNames x0
  clear_value x0
  split
  · refine State.Evolves.step ?_ (State.enableQueue_evolves ..) rfl
    exact State.Evolves.refl _ _
  · refine State.Evolves.step ?_ (State.disableQueue_evolves ..) rfl
    exact State.Evolves.refl _ _
  · refine State.Evolves.step ?_ (State.resumeQueue_evolves ..) rfl
    exact State.Evolves.refl _ _
  · refine State.Evolves.step ?_ (State.flushQueue_evolves ..) rfl
    exact State.Evolves.refl _ _
  · refine State.Evolves.step ?_ (State.cmdIgnored_evolves ..) rfl
    exact State.Evolves.refl _ _

theorem State.dropGather_evolves (s : State) (g : Gather) :
    State.Evolves [.lb] s (State.dropGather s g) := by
  unfold State.dropGather
  refine State.Evolves.upd (s := s) ?_ (State.tables_of rfl rfl rfl rfl rfl rfl rfl) rfl rfl rfl rfl rfl rfl rfl fun f hf => by cases f <;> first | rfl | simp at hf
  exact State.Evolves.refl _ _

theorem State.setGather_evolves (s : State) (g : Gather) :
    State.Evolves [.lb] s (State.setGather s g) := by
  unfold State.setGather
  refine State.Evolves.upd (s := s) ?_ (State.tables_of rfl rfl rfl rfl rfl rfl rfl) rfl rfl rfl rfl rfl rfl rfl fun f hf => by cases f <;> first | rfl | simp at hf
  exact State.Evolves.refl _ _

theorem State.joinGather_evolves (s : State) (g : Gather) (c : QCtx) (l : Letter) :
    State.Evolves [.attic, .cellar, .larder, .host, .od, .meter, .lb, .bell, .gz, .ex] s (State.joinGather s g c l) := by
  unfold State.joinGather
  extract_lets +onlyGivenNames x0
  clear_value x0
  split
  · refine State.Evolves.step ?_ (State.failLetter_evolves ..) rfl
    exact State.Evolves.refl _ _
  · refine State.Evolves.step ?_ (State.settle_evolves ..) rfl
    refine State.Evolves.step ?_ (State.setGather_evolves ..) rfl
    refine State.Evolves.step ?_ (State.advanceHead_evolves ..) rfl
    exact State.Evolves.refl _ _

theorem State.addGather_evolves (s : State) (g : Gather) :
    State.Evolves [.lb] s (State.addGather s g) := by
  unfold State.addGather
  refine State.Evolves.upd (s := s) ?_ (State.tables_of rfl rfl rfl rfl rfl rfl rfl) rfl rfl rfl rfl rfl rfl rfl fun f hf => by cases f <;> first | rfl | simp at hf
  exact State.Evolves.refl _ _

theorem State.noteLate_evolves (s : State) (q : Nat) :
    State.Evolves [.meter, .lb] s (State.noteLate s q) := by
  unfold State.noteLate
  extract_lets +onlyGivenNames x0
  refine State.Evolves.cut (fs := [.meter, .lb]) (r := s) (x := x0) ?_ fun hx0 => ?_
  · unfold x0
    refine State.Evolves.step ?_ (State.count_evolves ..) rfl
    exact State.Evolves.refl _ _
  clear_value x0
  split
  · exact hx0
  · refine State.Evolves.step ?_ (State.setQueue_evolves ..) rfl
    exact hx0

theorem State.launch_evolves (s : State) (t : Target) (slot : Nat) (parts : List Part) :
    State.Evolves [.attic, .cellar, .larder, .host, .meter, .lb, .porch] s (State.launch s t slot parts) := by
  unfold State.launch
  extract_lets +onlyGivenNames x0
  extract_lets +onlyGivenNames x1
  clear_value x1
  extract_lets +onlyGivenNames x2
  refine State.Evolves.cut (fs := [.attic, .cellar, .larder, .host, .meter, .lb, .porch]) (r := s) (x := x2) ?_ fun hx2 => ?_
  · unfold x2
    refine State.Evolves.foldl ?_ ?_
    · exact State.Evolves.refl _ _
    · intro t3 x4 ht3
      refine State.Evolves.ite ?_ ?_
      · refine State.Evolves.step ?_ (State.noteLate_evolves ..) rfl
        exact ht3
      · exact ht3
  clear_value x2
  split
  · rename_i v5 v6 v7 e8
    refine State.Evolves.cut (fs := [.attic, .cellar, .larder, .host, .meter, .lb, .porch]) (r := s) (x := v6) (State.Evolves.eqv ?_ (congrArg (fun y => y.1) e8)) fun hv6 => ?_
    · refine State.Evolves.step ?_ (State.pinReads_evolves ..) rfl
      exact hx2
    extract_lets +onlyGivenNames x9
    clear_value x9
    extract_lets +onlyGivenNames x10
    refine State.Evolves.cut (fs := [.attic, .cellar, .larder, .host, .meter, .lb, .porch]) (r := s) (x := x10) ?_ fun hx10 => ?_
    · unfold x10
      refine State.Evolves.step ?_ (State.count_evolves ..) rfl
      refine State.Evolves.step ?_ (State.count_evolves ..) rfl
      exact hv6
    clear_value x10
    split
    · rename_i v11 v12 v13 e14
      refine State.Evolves.cut (fs := [.attic, .cellar, .larder, .host, .meter, .lb, .porch]) (r := s) (x := v12) (State.Evolves.eqv ?_ (congrArg (fun y => y.1) e14)) fun hv12 => ?_
      · refine State.Evolves.step ?_ (State.setupStreams_evolves ..) rfl
        refine State.Evolves.step ?_ (State.countStreams_evolves ..) rfl
        exact hx10
      refine State.Evolves.step ?_ (State.settle_evolves ..) rfl
      refine State.Evolves.upd (s := v12) ?_ (State.tables_of rfl rfl rfl rfl rfl rfl rfl) rfl rfl rfl rfl rfl rfl rfl fun f hf => by cases f <;> first | rfl | simp at hf
      exact hv12

theorem State.dispatchLetter_evolves (s : State) (q : Nat) (want : Letter → Bool) :
    State.Evolves [.attic, .cellar, .larder, .host, .od, .meter, .lb, .porch, .bell, .gz, .ex] s (State.dispatchLetter s q want) := by
  unfold State.dispatchLetter
  split
  · exact State.Evolves.refl _ _
  · split
    · exact State.Evolves.refl _ _
    · refine State.Evolves.ite ?_ ?_
      · exact State.Evolves.refl _ _
      · refine State.Evolves.ite ?_ ?_
        · exact State.Evolves.refl _ _
        · split
          · refine State.Evolves.step ?_ (State.joinGather_evolves ..) rfl
            exact State.Evolves.refl _ _
          · refine State.Evolves.ite ?_ ?_
            · exact State.Evolves.refl _ _
            · split
              · exact State.Evolves.refl _ _
              · extract_lets +onlyGivenNames x61
                clear_value x61
                split
                · refine State.Evolves.step ?_ (State.failLetter_evolves ..) rfl
                  exact State.Evolves.refl _ _
                · extract_lets +onlyGivenNames x91
                  clear_value x91
                  extract_lets +onlyGivenNames x92
                  refine State.Evolves.cut (fs := [.attic, .cellar, .larder, .host, .od, .meter, .lb, .porch, .bell, .gz, .ex]) (r := s) (x := x92) ?_ fun hx92 => ?_
                  · unfold x92
                    refine State.Evolves.step ?_ (State.advanceHead_evolves ..) rfl
                    exact State.Evolves.refl _ _
                  clear_value x92
                  refine State.Evolves.ite ?_ ?_
                  · refine State.Evolves.step ?_ (State.settle_evolves ..) rfl
                    refine State.Evolves.step ?_ (State.addGather_evolves ..) rfl
                    exact hx92
                  · refine State.Evolves.step ?_ (State.launch_evolves ..) rfl
                    exact hx92

theorem State.failPart_evolves (s : State) (p : Part) (err : Nat) :
    State.Evolves [.attic, .cellar, .larder, .host, .od, .meter, .lb, .bell, .gz, .ex] s (State.failPart s p err) := by
  unfold State.failPart
  split
  · exact State.Evolves.refl _ _
  · refine State.Evolves.step ?_ (State.settle_evolves ..) rfl
    refine State.Evolves.step ?_ (State.finish_evolves ..) rfl
    refine State.Evolves.step ?_ (State.haltQueue_evolves ..) rfl
    exact State.Evolves.refl _ _

theorem State.refuseLetter_evolves (s : State) (c : QCtx) (station : Nat) (err : Nat) (l : Letter) :
    State.Evolves [.attic, .cellar, .larder, .host, .od, .meter, .lb, .bell, .gz, .ex] s (State.refuseLetter s c station err l) := by
  unfold State.refuseLetter
  refine State.Evolves.ite ?_ ?_
  · extract_lets +onlyGivenNames x0
    clear_value x0
    extract_lets +onlyGivenNames x1
    refine State.Evolves.cut (fs := [.attic, .cellar, .larder, .host, .od, .meter, .lb, .bell, .gz, .ex]) (r := s) (x := x1) ?_ fun hx1 => ?_
    · unfold x1
      refine State.Evolves.step ?_ (State.demand_evolves ..) rfl
      refine State.Evolves.step ?_ (State.advanceHead_evolves ..) rfl
      exact State.Evolves.refl _ _
    clear_value x1
    extract_lets +onlyGivenNames x2
    refine State.Evolves.cut (fs := [.attic, .cellar, .larder, .host, .od, .meter, .lb, .bell, .gz, .ex]) (r := s) (x := x2) ?_ fun hx2 => ?_
    · unfold x2
      refine State.Evolves.step ?_ (State.haltQueue_evolves ..) rfl
      refine State.Evolves.step ?_ (State.count_evolves ..) rfl
      refine State.Evolves.ite ?_ ?_
      · refine State.Evolves.step ?_ (State.noteLate_evolves ..) rfl
        exact hx1
      · exact hx1
    clear_value x2
    refine State.Evolves.step ?_ (State.settle_evolves ..) rfl
    refine State.Evolves.step ?_ (State.finish_evolves ..) rfl
    exact hx2
  · refine State.Evolves.step ?_ (State.failLetter_evolves ..) rfl
    exact State.Evolves.refl _ _

theorem State.stopStation_evolves (s : State) (b : Nat) :
    State.Evolves [.od, .meter] s (State.stopStation s b) := by
  unfold State.stopStation
  extract_lets +onlyGivenNames x0
  clear_value x0
  refine State.Evolves.ite ?_ ?_
  · exact State.Evolves.refl _ _
  · extract_lets +onlyGivenNames x1
    refine State.Evolves.cut (fs := [.od, .meter]) (r := s) (x := x1) ?_ fun hx1 => ?_
    · unfold x1
      refine State.Evolves.step ?_ (State.count_evolves ..) rfl
      refine State.Evolves.step ?_ (State.setOd_evolves ..) rfl
      exact State.Evolves.refl _ _
    clear_value x1
    extract_lets +onlyGivenNames x2
    clear_value x2
    extract_lets +onlyGivenNames x3
    refine State.Evolves.cut (fs := [.od, .meter]) (r := s) (x := x3) ?_ fun hx3 => ?_
    · unfold x3
      refine State.Evolves.ite ?_ ?_
      · refine State.Evolves.step ?_ (State.setPll_evolves ..) rfl
        exact hx1
      · exact hx1
    clear_value x3
    refine State.Evolves.ite ?_ ?_
    · refine State.Evolves.step ?_ (State.setPll_evolves ..) rfl
      exact hx3
    · exact hx3

theorem State.stopDisabled_evolves (s : State) :
    State.Evolves [.od, .meter] s (State.stopDisabled s) := by
  unfold State.stopDisabled
  refine State.Evolves.foldl ?_ ?_
  · exact State.Evolves.refl _ _
  · intro t0 x1 ht0
    refine State.Evolves.ite ?_ ?_
    · refine State.Evolves.step ?_ (State.stopStation_evolves ..) rfl
      exact ht0
    · exact ht0

theorem State.dropOp_evolves (s : State) (o : Op) :
    State.Evolves [.od, .meter, .lb] s (State.dropOp s o) := by
  unfold State.dropOp
  refine State.Evolves.step ?_ (State.stopDisabled_evolves ..) rfl
  refine State.Evolves.upd (s := s) ?_ (State.tables_of rfl rfl rfl rfl rfl rfl rfl) rfl rfl rfl rfl rfl rfl rfl fun f hf => by cases f <;> first | rfl | simp at hf
  exact State.Evolves.refl _ _

theorem State.setOp_evolves (s : State) (o : Op) :
    State.Evolves [.lb] s (State.setOp s o) := by
  unfold State.setOp
  refine State.Evolves.upd (s := s) ?_ (State.tables_of rfl rfl rfl rfl rfl rfl rfl) rfl rfl rfl rfl rfl rfl rfl fun f hf => by cases f <;> first | rfl | simp at hf
  exact State.Evolves.refl _ _

theorem State.dispatchReplays_evolves (s : State) (t : Target) :
    State.Evolves [.meter, .lb, .porch] s (State.dispatchReplays s t) := by
  unfold State.dispatchReplays
  split
  · exact State.Evolves.refl _ _
  · refine State.Evolves.ite ?_ ?_
    · exact State.Evolves.refl _ _
    · extract_lets +onlyGivenNames x5
      clear_value x5
      split
      · rename_i v6 v7 e8 v9 v10 v11 e12
        refine State.Evolves.cut (fs := [.meter, .lb, .porch]) (r := s) (x := v10) (State.Evolves.eqv ?_ (congrArg (fun y => y.1) e12)) fun hv10 => ?_
        · refine State.Evolves.step ?_ (State.setupStreams_evolves ..) rfl
          exact State.Evolves.refl _ _
        refine State.Evolves.step ?_ (State.count_evolves ..) rfl
        refine State.Evolves.step ?_ (State.setOp_evolves ..) rfl
        exact hv10

theorem State.notifyAck_evolves (s : State) (n : Nat) :
    State.Evolves [.bell] s (State.notifyAck s n) := by
  unfold State.notifyAck
  refine State.Evolves.ite ?_ ?_
  · refine State.Evolves.step ?_ (State.lower_evolves ..) rfl
    exact State.Evolves.refl _ _
  · exact State.Evolves.refl _ _

theorem State.clearHeld_evolves (s : State) (t : Target) :
    State.Evolves [.meter, .freeCtr, .rooms] s (State.clearHeld s t) := by
  unfold State.clearHeld
  split
  · refine State.Evolves.ite ?_ ?_
    · exact State.Evolves.refl _ _
    · split
      · rename_i v1 v2 v3 v4 e5
        refine State.Evolves.cut (fs := [.meter, .freeCtr, .rooms]) (r := s) (x := v4) (State.Evolves.eqv ?_ (congrArg (fun y => y.2) e5)) fun hv4 => ?_
        · refine State.Evolves.step ?_ (State.free_evolves ..) rfl
          exact State.Evolves.refl _ _
        refine State.Evolves.step ?_ (State.count_evolves ..) rfl
        refine State.Evolves.upd (s := v4) ?_ (State.tables_of rfl rfl rfl rfl rfl rfl rfl) rfl rfl rfl rfl rfl rfl rfl fun f hf => by cases f <;> first | rfl | simp at hf
        exact hv4
  · refine State.Evolves.ite ?_ ?_
    · exact State.Evolves.refl _ _
    · split
      · rename_i v7 v8 v9 v10 e11
        refine State.Evolves.cut (fs := [.meter, .freeCtr, .rooms]) (r := s) (x := v10) (State.Evolves.eqv ?_ (congrArg (fun y => y.2) e11)) fun hv10 => ?_
        · refine State.Evolves.step ?_ (State.free_evolves ..) rfl
          exact State.Evolves.refl _ _
        refine State.Evolves.step ?_ (State.count_evolves ..) rfl
        refine State.Evolves.upd (s := v10) ?_ (State.tables_of rfl rfl rfl rfl rfl rfl rfl) rfl rfl rfl rfl rfl rfl rfl fun f hf => by cases f <;> first | rfl | simp at hf
        exact hv10
  · exact State.Evolves.refl _ _

theorem State.leaveStation_evolves (s : State) (o : Op) :
    State.Evolves [.meter, .freeCtr, .rooms, .porch] s (State.leaveStation s o) := by
  unfold State.leaveStation
  refine State.Evolves.ite ?_ ?_
  · refine State.Evolves.step ?_ (State.partTile_evolves ..) rfl
    refine State.Evolves.step ?_ (State.clearHeld_evolves ..) rfl
    refine State.Evolves.step ?_ (State.dropStreams_evolves ..) rfl
    exact State.Evolves.refl _ _
  · exact State.Evolves.refl _ _

theorem State.dispatchMarker_evolves (s : State) (q : Nat) :
    State.Evolves [.attic, .cellar, .larder, .host, .od, .meter, .lb, .bell, .gz, .ex] s (State.dispatchMarker s q) := by
  unfold State.dispatchMarker
  split
  · exact State.Evolves.refl _ _
  · refine State.Evolves.ite ?_ ?_
    · exact State.Evolves.refl _ _
    · split
      · refine State.Evolves.step ?_ (State.failLetter_evolves ..) rfl
        exact State.Evolves.refl _ _
      · extract_lets +onlyGivenNames x19
        clear_value x19
        extract_lets +onlyGivenNames x20
        refine State.Evolves.cut (fs := [.attic, .cellar, .larder, .host, .od, .meter, .lb, .bell, .gz, .ex]) (r := s) (x := x20) ?_ fun hx20 => ?_
        · unfold x20
          refine State.Evolves.step ?_ (State.advanceHead_evolves ..) rfl
          exact State.Evolves.refl _ _
        clear_value x20
        extract_lets +onlyGivenNames x21
        refine State.Evolves.cut (fs := [.attic, .cellar, .larder, .host, .od, .meter, .lb, .bell, .gz, .ex]) (r := s) (x := x21) ?_ fun hx21 => ?_
        · unfold x21
          refine State.Evolves.step ?_ (State.count_evolves ..) rfl
          refine State.Evolves.ite ?_ ?_
          · refine State.Evolves.step ?_ (State.noteLate_evolves ..) rfl
            exact hx20
          · exact hx20
        clear_value x21
        refine State.Evolves.step ?_ (State.settle_evolves ..) rfl
        refine State.Evolves.step ?_ (State.finish_evolves ..) rfl
        exact hx21

theorem State.dispatchHeader_evolves (s : State) (q : Nat) :
    State.Evolves [.attic, .cellar, .larder, .host, .od, .meter, .lb, .bell, .gz, .ex] s (State.dispatchHeader s q) := by
  unfold State.dispatchHeader
  split
  · exact State.Evolves.refl _ _
  · refine State.Evolves.ite ?_ ?_
    · exact State.Evolves.refl _ _
    · extract_lets +onlyGivenNames x6
      clear_value x6
      extract_lets +onlyGivenNames x7
      clear_value x7
      extract_lets +onlyGivenNames x8
      clear_value x8
      split
      · refine State.Evolves.step ?_ (State.failLetter_evolves ..) rfl
        exact State.Evolves.refl _ _
      · extract_lets +onlyGivenNames x22
        clear_value x22
        extract_lets +onlyGivenNames x23
        refine State.Evolves.cut (fs := [.attic, .cellar, .larder, .host, .od, .meter, .lb, .bell, .gz, .ex]) (r := s) (x := x23) ?_ fun hx23 => ?_
        · unfold x23
          refine State.Evolves.step ?_ (State.touchCtx_evolves ..) rfl
          refine State.Evolves.step ?_ (State.setQueue_evolves ..) rfl
          exact State.Evolves.refl _ _
        clear_value x23
        extract_lets +onlyGivenNames x24
        refine State.Evolves.cut (fs := [.attic, .cellar, .larder, .host, .od, .meter, .lb, .bell, .gz, .ex]) (r := s) (x := x24) ?_ fun hx24 => ?_
        · unfold x24
          refine State.Evolves.step ?_ (State.count_evolves ..) rfl
          refine State.Evolves.ite ?_ ?_
          · refine State.Evolves.step ?_ (State.noteLate_evolves ..) rfl
            exact hx23
          · exact hx23
        clear_value x24
        refine State.Evolves.step ?_ (State.settle_evolves ..) rfl
        refine State.Evolves.step ?_ (State.finish_evolves ..) rfl
        exact hx24

theorem State.endGather_evolves (s : State) :
    State.Evolves [.attic, .cellar, .larder, .host, .od, .meter, .tick, .lb, .porch, .bell, .gz, .ex, .mtr] s (State.endGather s) := by
  unfold State.endGather
  split
  · exact State.Evolves.refl _ _
  · refine State.Evolves.ite ?_ ?_
    · exact State.Evolves.refl _ _
    · extract_lets +onlyGivenNames x5
      refine State.Evolves.cut (fs := [.attic, .cellar, .larder, .host, .od, .meter, .tick, .lb, .porch, .bell, .gz, .ex, .mtr]) (r := s) (x := x5) ?_ fun hx5 => ?_
      · unfold x5
        refine State.Evolves.ite ?_ ?_
        · refine State.Evolves.step ?_ (State.atLeast_evolves ..) rfl
          exact State.Evolves.refl _ _
        · exact State.Evolves.refl _ _
      clear_value x5
      extract_lets +onlyGivenNames x6
      clear_value x6
      extract_lets +onlyGivenNames x7
      clear_value x7
      extract_lets +onlyGivenNames x8
      refine State.Evolves.cut (fs := [.attic, .cellar, .larder, .host, .od, .meter, .tick, .lb, .porch, .bell, .gz, .ex, .mtr]) (r := s) (x := x8) ?_ fun hx8 => ?_
      · unfold x8
        refine State.Evolves.foldl ?_ ?_
        · refine State.Evolves.step ?_ (State.dropGather_evolves ..) rfl
          exact hx5
        · intro t9 x10 ht9
          refine State.Evolves.step ?_ (State.failPart_evolves ..) rfl
          exact ht9
      clear_value x8
      refine State.Evolves.ite ?_ ?_
      · exact hx8
      · refine State.Evolves.step ?_ (State.launch_evolves ..) rfl
        exact hx8

theorem State.stopOp_evolves (s : State) (o : Op) (err : Nat) :
    State.Evolves [.meter, .freeCtr, .lb, .rooms, .porch] s (State.stopOp s o err) := by
  unfold State.stopOp
  refine State.Evolves.step ?_ (State.dispatchReplays_evolves ..) rfl
  refine State.Evolves.step ?_ (State.leaveStation_evolves ..) rfl
  refine State.Evolves.step ?_ (State.setOp_evolves ..) rfl
  exact State.Evolves.refl _ _

end Sys2Proof.Machine
end

