-- ==== Sys2Proof/Laws/EvolvesLanding.lean ====
section
/-! SUPPORT. How the state may develop, operation by operation: the rooms, the Landing and the Workshop. -/

namespace Sys2Proof.Machine

theorem State.accEcc_evolves (s : State) (o : Op) (r : RoomRun) (t : Nat) (c : Nat) (row : Nat) (col : Nat) (ecc : Nat) :
    State.Evolves [.attic, .cellar, .larder, .host, .od, .meter, .freeCtr, .bell] s (State.accEcc s o r t c row col ecc) := by
  unfold State.accEcc
  refine State.Evolves.ite ?_ ?_
  · refine State.Evolves.step ?_ (State.count_evolves ..) rfl
    exact State.Evolves.refl _ _
  · refine State.Evolves.ite ?_ ?_
    · refine State.Evolves.ite ?_ ?_
      · refine State.Evolves.step ?_ (State.memUe_evolves ..) rfl
        exact State.Evolves.refl _ _
      · refine State.Evolves.step ?_ (State.sramUe_evolves ..) rfl
        exact State.Evolves.refl _ _
    · exact State.Evolves.refl _ _

theorem State.healEntry_evolves (s : State) (o : Op) (r : RoomRun) (t : Nat) (c : Nat) (row : Nat) (col : Nat) :
    State.Evolves [.attic, .cellar, .larder, .host] s (State.healEntry s o r t c row col) :=
  State.Evolves.ite (State.setMem_evolves _ _ _ fun h => Mem.filterPoison_wf h _) (State.Evolves.refl _ _)

theorem State.setEntry_evolves (s : State) (o : Op) (r : RoomRun) (t : Nat) (c : Nat) (row : Nat) (col : Nat) (v : F32) (p : Bool) :
    State.Evolves [.attic, .cellar, .larder, .host, .meter, .rooms] s (State.setEntry s o r t c row col v p) := by
  unfold State.setEntry
  refine State.Evolves.ite ?_ ?_
  · extract_lets +onlyGivenNames x0
    clear_value x0
    extract_lets +onlyGivenNames x1
    refine State.Evolves.cut (fs := [.attic, .cellar, .larder, .host, .meter, .rooms]) (r := s) (x := x1) ?_ fun hx1 => ?_
    · unfold x1
      refine State.Evolves.ite ?_ ?_
      · refine State.Evolves.step ?_ (State.wr_evolves ..) rfl
        exact State.Evolves.refl _ _
      · refine State.Evolves.step ?_ (State.wr_evolves ..) rfl
        exact State.Evolves.refl _ _
    clear_value x1
    refine State.Evolves.ite ?_ ?_
    · refine State.Evolves.step ?_ (State.poison_evolves ..) rfl
      exact hx1
    · exact hx1
  · extract_lets +onlyGivenNames x2
    clear_value x2
    extract_lets +onlyGivenNames x3
    clear_value x3
    refine State.Evolves.ite ?_ ?_
    · refine State.Evolves.upd (s := s) ?_ (State.tables_of rfl rfl rfl rfl rfl rfl rfl) rfl rfl rfl rfl rfl rfl rfl fun f hf => by cases f <;> first | rfl | simp at hf
      exact State.Evolves.refl _ _
    · refine State.Evolves.upd (s := s) ?_ (State.tables_of rfl rfl rfl rfl rfl rfl rfl) rfl rfl rfl rfl rfl rfl rfl fun f hf => by cases f <;> first | rfl | simp at hf
      exact State.Evolves.refl _ _

theorem State.flush_evolves (s : State) (o : Op) (r : RoomRun) (row : Nat) (col : Nat) (ecc : Nat) :
    State.Evolves [.attic, .cellar, .larder, .host, .od, .meter, .freeCtr, .lb, .rooms, .bell] s (State.flush s o r row col ecc) := by
  unfold State.flush
  split
  · extract_lets +onlyGivenNames x4
    clear_value x4
    split
    · extract_lets +onlyGivenNames x13
      clear_value x13
      extract_lets +onlyGivenNames x14
      clear_value x14
      extract_lets +onlyGivenNames x15
      clear_value x15
      extract_lets +onlyGivenNames x16
      clear_value x16
      split
      · extract_lets +onlyGivenNames x29
        clear_value x29
        split
        · rename_i v30 v31 v32 e33 v34 v35 v36 e37 v38 v39 v40 e41 v42 v43 v44 e45
          refine State.Evolves.cut (fs := [.attic, .cellar, .larder, .host, .od, .meter, .freeCtr, .lb, .rooms, .bell]) (r := s) (x := v44) (State.Evolves.eqv ?_ (congrArg (fun y => y.2) e45)) fun hv44 => ?_
          · split
            · dsimp only
              refine State.Evolves.step ?_ (State.free_evolves ..) rfl
              exact State.Evolves.refl _ _
            · dsimp only
              exact State.Evolves.refl _ _
          extract_lets +onlyGivenNames x48
          clear_value x48
          extract_lets +onlyGivenNames x49
          clear_value x49
          extract_lets +onlyGivenNames x50
          refine State.Evolves.cut (fs := [.attic, .cellar, .larder, .host, .od, .meter, .freeCtr, .lb, .rooms, .bell]) (r := s) (x := x50) ?_ fun hx50 => ?_
          · unfold x50
            refine State.Evolves.ite ?_ ?_
            · refine State.Evolves.step ?_ (State.healEntry_evolves ..) rfl
              exact hv44
            · exact hv44
          clear_value x50
          extract_lets +onlyGivenNames x51
          refine State.Evolves.cut (fs := [.attic, .cellar, .larder, .host, .od, .meter, .freeCtr, .lb, .rooms, .bell]) (r := s) (x := x51) ?_ fun hx51 => ?_
          · unfold x51
            refine State.Evolves.ite ?_ ?_
            · exact hx50
            · refine State.Evolves.step ?_ (State.accEcc_evolves ..) rfl
              exact hx50
          clear_value x51
          extract_lets +onlyGivenNames x52
          refine State.Evolves.cut (fs := [.attic, .cellar, .larder, .host, .od, .meter, .freeCtr, .lb, .rooms, .bell]) (r := s) (x := x52) ?_ fun hx52 => ?_
          · unfold x52
            refine State.Evolves.step ?_ (State.setEntry_evolves ..) rfl
            exact hx51
          clear_value x52
          extract_lets +onlyGivenNames x53
          refine State.Evolves.cut (fs := [.attic, .cellar, .larder, .host, .od, .meter, .freeCtr, .lb, .rooms, .bell]) (r := s) (x := x53) ?_ fun hx53 => ?_
          · unfold x53
            refine State.Evolves.ite ?_ ?_
            · refine State.Evolves.step ?_ (State.count_evolves ..) rfl
              exact hx52
            · exact hx52
          clear_value x53
          extract_lets +onlyGivenNames x54
          clear_value x54
          extract_lets +onlyGivenNames x55
          clear_value x55
          extract_lets +onlyGivenNames x56
          refine State.Evolves.cut (fs := [.attic, .cellar, .larder, .host, .od, .meter, .freeCtr, .lb, .rooms, .bell]) (r := s) (x := x56) ?_ fun hx56 => ?_
          · unfold x56
            refine State.Evolves.step ?_ (State.count_evolves ..) rfl
            exact hx53
          clear_value x56
          extract_lets +onlyGivenNames x57
          refine State.Evolves.cut (fs := [.attic, .cellar, .larder, .host, .od, .meter, .freeCtr, .lb, .rooms, .bell]) (r := s) (x := x57) ?_ fun hx57 => ?_
          · unfold x57
            refine State.Evolves.step ?_ (State.count_evolves ..) rfl
            exact hx56
          clear_value x57
          extract_lets +onlyGivenNames x58
          refine State.Evolves.cut (fs := [.attic, .cellar, .larder, .host, .od, .meter, .freeCtr, .lb, .rooms, .bell]) (r := s) (x := x58) ?_ fun hx58 => ?_
          · unfold x58
            refine State.Evolves.ite ?_ ?_
            · refine State.Evolves.step ?_ (State.countDelivery_evolves ..) rfl
              exact hx57
            · exact hx57
          clear_value x58
          extract_lets +onlyGivenNames x59
          refine State.Evolves.cut (fs := [.attic, .cellar, .larder, .host, .od, .meter, .freeCtr, .lb, .rooms, .bell]) (r := s) (x := x59) ?_ fun hx59 => ?_
          · unfold x59
            refine State.Evolves.ite ?_ ?_
            · refine State.Evolves.step ?_ (State.countDelivery_evolves ..) rfl
              exact hx58
            · exact hx58
          clear_value x59
          extract_lets +onlyGivenNames x60
          clear_value x60
          refine State.Evolves.step ?_ (State.setOp_evolves ..) rfl
          exact hx59

theorem State.setHeld_evolves (s : State) (back : Bool) (h : Option (Nat × Nat)) :
    State.Evolves [.rooms] s (State.setHeld s back h) := by
  unfold State.setHeld
  refine State.Evolves.ite ?_ ?_
  · refine State.Evolves.upd (s := s) ?_ (State.tables_of rfl rfl rfl rfl rfl rfl rfl) rfl rfl rfl rfl rfl rfl rfl fun f hf => by cases f <;> first | rfl | simp at hf
    exact State.Evolves.refl _ _
  · refine State.Evolves.upd (s := s) ?_ (State.tables_of rfl rfl rfl rfl rfl rfl rfl) rfl rfl rfl rfl rfl rfl rfl fun f hf => by cases f <;> first | rfl | simp at hf
    exact State.Evolves.refl _ _

theorem State.drainPass_evolves (s : State) (o : Op) (r : RoomRun) (t : Nat) (q : Nat) :
    State.Evolves [.attic, .cellar, .larder, .host, .meter, .rooms] s (State.drainPass s o r t q) := by
  unfold State.drainPass
  extract_lets +onlyGivenNames x0
  clear_value x0
  extract_lets +onlyGivenNames x1
  clear_value x1
  extract_lets +onlyGivenNames x2
  refine State.Evolves.cut (fs := [.attic, .cellar, .larder, .host, .meter, .rooms]) (r := s) (x := x2) ?_ fun hx2 => ?_
  · unfold x2
    refine State.Evolves.foldl ?_ ?_
    · exact State.Evolves.refl _ _
    · intro t3 x4 ht3
      split
      · refine State.Evolves.step ?_ (State.healEntry_evolves ..) rfl
        refine State.Evolves.step ?_ (State.healEntry_evolves ..) rfl
        exact ht3
  clear_value x2
  refine State.Evolves.foldl ?_ ?_
  · exact hx2
  · intro t8 x9 ht8
    split
    · refine State.Evolves.step ?_ (State.setEntry_evolves ..) rfl
      refine State.Evolves.step ?_ (State.setEntry_evolves ..) rfl
      exact ht8

theorem State.segmentEnd_evolves (s : State) (back : Bool) (row : Nat) (col : Nat) (ecc : Nat) :
    State.Evolves [.attic, .cellar, .larder, .host, .od, .meter, .freeCtr, .lb, .rooms, .porch, .bell] s (State.segmentEnd s back row col ecc) := by
  unfold State.segmentEnd
  split
  · exact State.Evolves.refl _ _
  · split
    · exact State.Evolves.refl _ _
    · extract_lets +onlyGivenNames x16
      clear_value x16
      refine State.Evolves.ite ?_ ?_
      · exact State.Evolves.refl _ _
      · refine State.Evolves.ite ?_ ?_
        · refine State.Evolves.step ?_ (State.stopOp_evolves ..) rfl
          exact State.Evolves.refl _ _
        · refine State.Evolves.ite ?_ ?_
          · refine State.Evolves.step ?_ (State.setHeld_evolves ..) rfl
            exact State.Evolves.refl _ _
          · refine State.Evolves.step ?_ (State.flush_evolves ..) rfl
            exact State.Evolves.refl _ _

theorem State.holdRelease_evolves (s : State) (back : Bool) (cycles : Nat) :
    State.Evolves [.attic, .cellar, .larder, .host, .od, .meter, .freeCtr, .lb, .rooms, .bell] s (State.holdRelease s back cycles) := by
  unfold State.holdRelease
  split
  · split
    · exact State.Evolves.refl _ _
    · refine State.Evolves.ite ?_ ?_
      · exact State.Evolves.refl _ _
      · refine State.Evolves.step ?_ (State.count_evolves ..) rfl
        refine State.Evolves.step ?_ (State.flush_evolves ..) rfl
        refine State.Evolves.step ?_ (State.setHeld_evolves ..) rfl
        exact State.Evolves.refl _ _
  · exact State.Evolves.refl _ _

theorem State.landingEcc_evolves (s : State) (o : Op) (r : RoomRun) (t : Nat) (c : Nat) (ecc : Nat) :
    State.Evolves [.attic, .cellar, .larder, .host, .od, .meter, .freeCtr, .rooms, .bell] s (State.landingEcc s o r t c ecc) := by
  unfold State.landingEcc
  split
  · exact State.Evolves.refl _ _
  · refine State.Evolves.ite ?_ ?_
    · split
      · rename_i v7 v8 v9 v10 e11 v12 v13 v14 e15
        refine State.Evolves.cut (fs := [.attic, .cellar, .larder, .host, .od, .meter, .freeCtr, .rooms, .bell]) (r := s) (x := v14) (State.Evolves.eqv ?_ (congrArg (fun y => y.2) e15)) fun hv14 => ?_
        · refine State.Evolves.step ?_ (State.free_evolves ..) rfl
          exact State.Evolves.refl _ _
        refine State.Evolves.step ?_ (State.setEntry_evolves ..) rfl
        refine State.Evolves.step ?_ (State.accEcc_evolves ..) rfl
        exact hv14
    · refine State.Evolves.step ?_ (State.accEcc_evolves ..) rfl
      exact State.Evolves.refl _ _

theorem State.tileDone_evolves (s : State) (back : Bool) (cycles : Nat) (starve : Nat) (ecc : Nat) :
    State.Evolves [.attic, .cellar, .larder, .host, .od, .meter, .freeCtr, .lb, .rooms, .porch, .bell] s (State.tileDone s back cycles starve ecc) := by
  unfold State.tileDone
  split
  · exact State.Evolves.refl _ _
  · split
    · exact State.Evolves.refl _ _
    · extract_lets +onlyGivenNames x16
      clear_value x16
      extract_lets +onlyGivenNames x17
      clear_value x17
      extract_lets +onlyGivenNames x18
      clear_value x18
      refine State.Evolves.ite ?_ ?_
      · exact State.Evolves.refl _ _
      · extract_lets +onlyGivenNames x19
        refine State.Evolves.cut (fs := [.attic, .cellar, .larder, .host, .od, .meter, .freeCtr, .lb, .rooms, .porch, .bell]) (r := s) (x := x19) ?_ fun hx19 => ?_
        · unfold x19
          refine State.Evolves.ite ?_ ?_
          · exact State.Evolves.refl _ _
          · refine State.Evolves.step ?_ (State.drainPass_evolves ..) rfl
            refine State.Evolves.step ?_ (State.landingEcc_evolves ..) rfl
            exact State.Evolves.refl _ _
        clear_value x19
        extract_lets +onlyGivenNames x20
        clear_value x20
        extract_lets +onlyGivenNames x21
        clear_value x21
        extract_lets +onlyGivenNames x22
        clear_value x22
        extract_lets +onlyGivenNames x23
        refine State.Evolves.cut (fs := [.attic, .cellar, .larder, .host, .od, .meter, .freeCtr, .lb, .rooms, .porch, .bell]) (r := s) (x := x23) ?_ fun hx23 => ?_
        · unfold x23
          refine State.Evolves.step ?_ (State.setOp_evolves ..) rfl
          exact hx19
        clear_value x23
        extract_lets +onlyGivenNames x24
        refine State.Evolves.cut (fs := [.attic, .cellar, .larder, .host, .od, .meter, .freeCtr, .lb, .rooms, .porch, .bell]) (r := s) (x := x24) ?_ fun hx24 => ?_
        · unfold x24
          refine State.Evolves.step ?_ (State.count_evolves ..) rfl
          refine State.Evolves.step ?_ (State.count_evolves ..) rfl
          exact hx23
        clear_value x24
        extract_lets +onlyGivenNames x25
        refine State.Evolves.cut (fs := [.attic, .cellar, .larder, .host, .od, .meter, .freeCtr, .lb, .rooms, .porch, .bell]) (r := s) (x := x25) ?_ fun hx25 => ?_
        · unfold x25
          refine State.Evolves.ite ?_ ?_
          · refine State.Evolves.step ?_ (State.count_evolves ..) rfl
            exact hx24
          · exact hx24
        clear_value x25
        extract_lets +onlyGivenNames x26
        refine State.Evolves.cut (fs := [.attic, .cellar, .larder, .host, .od, .meter, .freeCtr, .lb, .rooms, .porch, .bell]) (r := s) (x := x26) ?_ fun hx26 => ?_
        · unfold x26
          refine State.Evolves.ite ?_ ?_
          · refine State.Evolves.step ?_ (State.count_evolves ..) rfl
            exact hx25
          · exact hx25
        clear_value x26
        extract_lets +onlyGivenNames x27
        refine State.Evolves.cut (fs := [.attic, .cellar, .larder, .host, .od, .meter, .freeCtr, .lb, .rooms, .porch, .bell]) (r := s) (x := x27) ?_ fun hx27 => ?_
        · unfold x27
          refine State.Evolves.ite ?_ ?_
          · refine State.Evolves.step ?_ (State.count_evolves ..) rfl
            exact hx26
          · exact hx26
        clear_value x27
        extract_lets +onlyGivenNames x28
        refine State.Evolves.cut (fs := [.attic, .cellar, .larder, .host, .od, .meter, .freeCtr, .lb, .rooms, .porch, .bell]) (r := s) (x := x28) ?_ fun hx28 => ?_
        · unfold x28
          refine State.Evolves.ite ?_ ?_
          · refine State.Evolves.step ?_ (State.count_evolves ..) rfl
            exact hx27
          · exact hx27
        clear_value x28
        extract_lets +onlyGivenNames x29
        refine State.Evolves.cut (fs := [.attic, .cellar, .larder, .host, .od, .meter, .freeCtr, .lb, .rooms, .porch, .bell]) (r := s) (x := x29) ?_ fun hx29 => ?_
        · unfold x29
          refine State.Evolves.step ?_ (State.count_evolves ..) rfl
          refine State.Evolves.step ?_ (State.count_evolves ..) rfl
          exact hx28
        clear_value x29
        refine State.Evolves.ite ?_ ?_
        · extract_lets +onlyGivenNames x30
          clear_value x30
          refine State.Evolves.step ?_ (State.settle_evolves ..) rfl
          refine State.Evolves.step ?_ (State.dispatchReplays_evolves ..) rfl
          refine State.Evolves.step ?_ (State.dropStreams_evolves ..) rfl
          refine State.Evolves.step ?_ (State.setOp_evolves ..) rfl
          exact hx29
        · refine State.Evolves.ite ?_ ?_
          · refine State.Evolves.step ?_ (State.settle_evolves ..) rfl
            refine State.Evolves.step ?_ (State.dispatchReplays_evolves ..) rfl
            refine State.Evolves.step ?_ (State.releaseReads_evolves ..) rfl
            exact hx29
          · exact hx29

theorem State.passDone_evolves (s : State) (back : Bool) (ecc : Nat) :
    State.Evolves [.attic, .cellar, .larder, .host, .od, .meter, .freeCtr, .lb, .rooms, .bell] s (State.passDone s back ecc) := by
  unfold State.passDone
  split
  · exact State.Evolves.refl _ _
  · split
    · exact State.Evolves.refl _ _
    · extract_lets +onlyGivenNames x16
      clear_value x16
      extract_lets +onlyGivenNames x17
      clear_value x17
      refine State.Evolves.ite ?_ ?_
      · exact State.Evolves.refl _ _
      · refine State.Evolves.step ?_ (State.setOp_evolves ..) rfl
        refine State.Evolves.step ?_ (State.drainPass_evolves ..) rfl
        refine State.Evolves.step ?_ (State.landingEcc_evolves ..) rfl
        exact State.Evolves.refl _ _

theorem State.recipe_evolves (s : State) (o : Op) (i : Nat) (isS : Bool) (cause : Nat) (a : Nat) (b : Nat) :
    State.Evolves [.attic, .cellar, .larder, .host, .od, .meter, .bell, .mtr] s (State.recipe s o i isS cause a b).1 := by
  unfold State.recipe
  split
  · dsimp only
    exact State.Evolves.refl _ _
  · split
    · dsimp only
      exact State.Evolves.refl _ _
    · split
      · dsimp only
        exact State.Evolves.refl _ _
      · extract_lets +onlyGivenNames x30
        clear_value x30
        extract_lets +onlyGivenNames x31
        clear_value x31
        extract_lets +onlyGivenNames x32
        refine State.Evolves.cut (fs := [.attic, .cellar, .larder, .host, .od, .meter, .bell, .mtr]) (r := s) (x := x32) ?_ fun hx32 => ?_
        · unfold x32
          refine State.Evolves.step ?_ (State.entryStat_evolves ..) rfl
          refine State.Evolves.step ?_ (State.count_evolves ..) rfl
          exact State.Evolves.refl _ _
        clear_value x32
        extract_lets +onlyGivenNames x33
        clear_value x33
        extract_lets +onlyGivenNames x34
        refine State.Evolves.cut (fs := [.attic, .cellar, .larder, .host, .od, .meter, .bell, .mtr]) (r := s) (x := x34) ?_ fun hx34 => ?_
        · unfold x34
          refine State.Evolves.ite ?_ ?_
          · refine State.Evolves.step ?_ (State.raise_evolves ..) rfl
            refine State.Evolves.step ?_ (State.setOd_evolves ..) rfl
            exact hx32
          · refine State.Evolves.step ?_ (State.recipeLevel_evolves ..) rfl
            refine State.Evolves.step ?_ (State.setOd_evolves ..) rfl
            refine State.Evolves.step ?_ (State.wr_evolves ..) rfl
            exact hx32
        clear_value x34
        exact hx34

theorem State.splitBad_evolves (s : State) (o : Op) :
    State.Evolves [.lb] s (State.splitBad s o).1 := by
  unfold State.splitBad
  extract_lets +onlyGivenNames x0
  clear_value x0
  extract_lets +onlyGivenNames x1
  clear_value x1
  split
  · dsimp only
    exact State.Evolves.refl _ _
  · extract_lets +onlyGivenNames x4
    clear_value x4
    extract_lets +onlyGivenNames x5
    clear_value x5
    extract_lets +onlyGivenNames x6
    clear_value x6
    dsimp only
    refine State.Evolves.upd (s := s) ?_ (State.tables_of rfl rfl rfl rfl rfl rfl rfl) rfl rfl rfl rfl rfl rfl rfl fun f hf => by cases f <;> first | rfl | simp at hf
    exact State.Evolves.refl _ _

theorem State.setHist_evolves (s : State) (o : Op) (h : Nat) (v : HistSlot) :
    State.Evolves [.attic, .cellar, .larder, .host, .meter] s (State.setHist s o h v) := by
  unfold State.setHist
  refine State.Evolves.step ?_ (State.wr_evolves ..) rfl
  exact State.Evolves.refl _ _

theorem State.startDest_evolves (s : State) (o : Op) (i : Nat) (isS : Bool) :
    State.Evolves [.attic, .cellar, .larder, .host, .meter] s (State.startDest s o i isS).1 := by
  unfold State.startDest
  split
  · dsimp only
    exact State.Evolves.refl _ _
  · split
    · dsimp only
      exact State.Evolves.refl _ _
    · split
      · dsimp only
        exact State.Evolves.refl _ _
      · extract_lets +onlyGivenNames x30
        clear_value x30
        extract_lets +onlyGivenNames x31
        clear_value x31
        split
        · dsimp only
          exact State.Evolves.refl _ _
        · split
          · extract_lets +onlyGivenNames x60
            refine State.Evolves.cut (fs := [.attic, .cellar, .larder, .host, .meter]) (r := s) (x := x60) ?_ fun hx60 => ?_
            · unfold x60
              refine State.Evolves.step ?_ (State.setHist_evolves ..) rfl
              exact State.Evolves.refl _ _
            clear_value x60
            extract_lets +onlyGivenNames x61
            refine State.Evolves.cut (fs := [.attic, .cellar, .larder, .host, .meter]) (r := s) (x := x61) ?_ fun hx61 => ?_
            · unfold x61
              refine State.Evolves.ite ?_ ?_
              · refine State.Evolves.step ?_ (State.count_evolves ..) rfl
                exact hx60
              · exact hx60
            clear_value x61
            extract_lets +onlyGivenNames x62
            clear_value x62
            extract_lets +onlyGivenNames x63
            clear_value x63
            extract_lets +onlyGivenNames x64
            clear_value x64
            split
            · exact hx61
            · extract_lets +onlyGivenNames x91
              clear_value x91
              extract_lets +onlyGivenNames x92
              refine State.Evolves.cut (fs := [.attic, .cellar, .larder, .host, .meter]) (r := s) (x := x92) ?_ fun hx92 => ?_
              · unfold x92
                split
                · exact hx61
                · refine State.Evolves.step ?_ (State.wr_evolves ..) rfl
                  exact hx61
              clear_value x92
              exact hx92

theorem State.countKeep_evolves (s : State) (o : Op) :
    State.Evolves [.meter] s (State.countKeep s o) := by
  unfold State.countKeep
  split
  · exact State.Evolves.refl _ _
  · refine State.Evolves.ite ?_ ?_
    · exact State.Evolves.refl _ _
    · refine State.Evolves.ite ?_ ?_
      · exact State.Evolves.refl _ _
      · refine State.Evolves.step ?_ (State.count_evolves ..) rfl
        exact State.Evolves.refl _ _

theorem State.countPages_evolves (s : State) (o : Op) :
    State.Evolves [.meter, .bell] s (State.countPages s o) := by
  unfold State.countPages
  refine State.Evolves.ite ?_ ?_
  · exact State.Evolves.refl _ _
  · refine State.Evolves.foldl ?_ ?_
    · exact State.Evolves.refl _ _
    · intro t0 x1 ht0
      extract_lets +onlyGivenNames x2
      refine State.Evolves.cut (fs := [.meter, .bell]) (r := s) (x := x2) ?_ fun hx2 => ?_
      · unfold x2
        refine State.Evolves.foldl ?_ ?_
        · exact ht0
        · intro t3 x4 ht3
          split
          · exact ht3
          · refine State.Evolves.step ?_ (State.count_evolves ..) rfl
            exact ht3
          · refine State.Evolves.step ?_ (State.count_evolves ..) rfl
            exact ht3
          · refine State.Evolves.step ?_ (State.count_evolves ..) rfl
            exact ht3
          · refine State.Evolves.step ?_ (State.count_evolves ..) rfl
            exact ht3
          · refine State.Evolves.step ?_ (State.count_evolves ..) rfl
            exact ht3
      clear_value x2
      refine State.Evolves.ite ?_ ?_
      · refine State.Evolves.step ?_ (State.raise_evolves ..) rfl
        exact hx2
      · exact hx2

theorem State.letterStart_evolves (s : State) (st : Nat) (fill : Nat) :
    State.Evolves [.attic, .cellar, .larder, .host, .od, .meter, .freeCtr, .lb, .rooms, .porch, .bell] s (State.letterStart s st fill) := by
  unfold State.letterStart
  split
  · exact State.Evolves.refl _ _
  · extract_lets +onlyGivenNames x5
    clear_value x5
    extract_lets +onlyGivenNames x6
    clear_value x6
    extract_lets +onlyGivenNames x7
    clear_value x7
    extract_lets +onlyGivenNames x8
    refine State.Evolves.cut (fs := [.attic, .cellar, .larder, .host, .od, .meter, .freeCtr, .lb, .rooms, .porch, .bell]) (r := s) (x := x8) ?_ fun hx8 => ?_
    · unfold x8
      refine State.Evolves.step ?_ (State.demand_evolves ..) rfl
      exact State.Evolves.refl _ _
    clear_value x8
    refine State.Evolves.ite ?_ ?_
    · exact hx8
    · extract_lets +onlyGivenNames x9
      refine State.Evolves.cut (fs := [.attic, .cellar, .larder, .host, .od, .meter, .freeCtr, .lb, .rooms, .porch, .bell]) (r := s) (x := x9) ?_ fun hx9 => ?_
      · unfold x9
        refine State.Evolves.ite ?_ ?_
        · refine State.Evolves.step ?_ (State.count_evolves ..) rfl
          exact hx8
        · exact hx8
      clear_value x9
      extract_lets +onlyGivenNames x10
      refine State.Evolves.cut (fs := [.attic, .cellar, .larder, .host, .od, .meter, .freeCtr, .lb, .rooms, .porch, .bell]) (r := s) (x := x10) ?_ fun hx10 => ?_
      · unfold x10
        refine State.Evolves.step ?_ (State.count_evolves ..) rfl
        exact hx9
      clear_value x10
      refine State.Evolves.ite ?_ ?_
      · refine State.Evolves.step ?_ (State.setOp_evolves ..) rfl
        exact hx10
      · refine State.Evolves.ite ?_ ?_
        · refine State.Evolves.step ?_ (State.stopOp_evolves ..) rfl
          exact hx10
        · split
          · rename_i v11 v12 e13 v14 v15 v16 e17
            refine State.Evolves.cut (fs := [.attic, .cellar, .larder, .host, .od, .meter, .freeCtr, .lb, .rooms, .porch, .bell]) (r := s) (x := v15) (State.Evolves.eqv ?_ (congrArg (fun y => y.1) e17)) fun hv15 => ?_
            · refine State.Evolves.step ?_ (State.splitBad_evolves ..) rfl
              exact hx10
            split
            · rename_i v18 v19 v20 e21
              refine State.Evolves.cut (fs := [.attic, .cellar, .larder, .host, .od, .meter, .freeCtr, .lb, .rooms, .porch, .bell]) (r := s) (x := v19) (State.Evolves.eqv ?_ (congrArg (fun y => y.1) e21)) fun hv19 => ?_
              · refine State.Evolves.foldl_fst ?_ ?_
                · exact hv15
                · intro t22 x23 ht22
                  split
                  · rename_i v24 v25 v26 e27
                    refine State.Evolves.cut (fs := [.attic, .cellar, .larder, .host, .od, .meter, .freeCtr, .lb, .rooms, .porch, .bell]) (r := s) (x := v25) (State.Evolves.eqv ?_ (congrArg (fun y => y.1) e27)) fun hv25 => ?_
                    · refine State.Evolves.step ?_ (State.startDest_evolves ..) rfl
                      exact ht22
                    refine State.Evolves.step ?_ (State.startDest_evolves ..) rfl
                    exact hv25
              extract_lets +onlyGivenNames x28
              clear_value x28
              extract_lets +onlyGivenNames x29
              refine State.Evolves.cut (fs := [.attic, .cellar, .larder, .host, .od, .meter, .freeCtr, .lb, .rooms, .porch, .bell]) (r := s) (x := x29) ?_ fun hx29 => ?_
              · unfold x29
                refine State.Evolves.step ?_ (State.countKeep_evolves ..) rfl
                exact hv19
              clear_value x29
              extract_lets +onlyGivenNames x30
              refine State.Evolves.cut (fs := [.attic, .cellar, .larder, .host, .od, .meter, .freeCtr, .lb, .rooms, .porch, .bell]) (r := s) (x := x30) ?_ fun hx30 => ?_
              · unfold x30
                refine State.Evolves.step ?_ (State.count_evolves ..) rfl
                exact hx29
              clear_value x30
              refine State.Evolves.step ?_ (State.setOp_evolves ..) rfl
              refine State.Evolves.step ?_ (State.countPages_evolves ..) rfl
              exact hx30

theorem State.rescaleList_evolves (s : State) (d : DestRun) (k : Nat) :
    State.Evolves [.attic, .cellar, .larder, .host, .meter] s (State.rescaleList s d k).1 := by
  unfold State.rescaleList
  split
  · dsimp only
    exact State.Evolves.refl _ _
  · extract_lets +onlyGivenNames x5
    clear_value x5
    refine State.Evolves.foldl_fst ?_ ?_
    · dsimp only
      exact State.Evolves.refl _ _
    · intro t6 x7 ht6
      extract_lets +onlyGivenNames x8
      clear_value x8
      extract_lets +onlyGivenNames x9
      clear_value x9
      extract_lets +onlyGivenNames x10
      clear_value x10
      extract_lets +onlyGivenNames x11
      clear_value x11
      extract_lets +onlyGivenNames x12
      clear_value x12
      extract_lets +onlyGivenNames x13
      clear_value x13
      dsimp only
      refine State.Evolves.step ?_ (State.count_evolves ..) rfl
      refine State.Evolves.step ?_ (State.wr_evolves ..) rfl
      exact ht6

theorem State.endPages_evolves (s : State) (o : Op) :
    State.Evolves [.attic, .cellar, .larder, .host, .meter] s (State.endPages s o) := by
  unfold State.endPages
  refine State.Evolves.foldl ?_ ?_
  · exact State.Evolves.refl _ _
  · intro t0 x1 ht0
    split
    · exact ht0
    · refine State.Evolves.ite ?_ ?_
      · exact ht0
      · extract_lets +onlyGivenNames x7
        clear_value x7
        extract_lets +onlyGivenNames x8
        clear_value x8
        extract_lets +onlyGivenNames x9
        clear_value x9
        refine State.Evolves.ite ?_ ?_
        · exact ht0
        · extract_lets +onlyGivenNames x10
          clear_value x10
          extract_lets +onlyGivenNames x11
          refine State.Evolves.cut (fs := [.attic, .cellar, .larder, .host, .meter]) (r := s) (x := x11) ?_ fun hx11 => ?_
          · unfold x11
            refine State.Evolves.foldl ?_ ?_
            · exact ht0
            · intro t12 x13 ht12
              split
              · extract_lets +onlyGivenNames x20
                clear_value x20
                extract_lets +onlyGivenNames x21
                clear_value x21
                extract_lets +onlyGivenNames x22
                refine State.Evolves.cut (fs := [.attic, .cellar, .larder, .host, .meter]) (r := s) (x := x22) ?_ fun hx22 => ?_
                · unfold x22
                  refine State.Evolves.step ?_ (State.setHdr_evolves ..) rfl
                  exact ht12
                clear_value x22
                refine State.Evolves.ite ?_ ?_
                · refine State.Evolves.step ?_ (State.sketchPage_evolves ..) rfl
                  exact hx22
                · exact hx22
          clear_value x11
          refine State.Evolves.ite ?_ ?_
          · refine State.Evolves.step ?_ (State.setKvLength_evolves ..) rfl
            exact hx11
          · exact hx11

theorem State.endDest_evolves (s : State) (o : Op) (i : Nat) (isS : Bool) :
    State.Evolves [.attic, .cellar, .larder, .host, .od, .meter, .bell, .mtr] s (State.endDest s o i isS).1 := by
  unfold State.endDest
  split
  · dsimp only
    exact State.Evolves.refl _ _
  · extract_lets +onlyGivenNames x6
    refine State.Evolves.cut (fs := [.attic, .cellar, .larder, .host, .od, .meter, .bell, .mtr]) (r := s) (x := x6) ?_ fun hx6 => ?_
    · unfold x6
      split
      · exact State.Evolves.refl _ _
      · refine State.Evolves.ite ?_ ?_
        · refine State.Evolves.step ?_ (State.wr_evolves ..) rfl
          exact State.Evolves.refl _ _
        · exact State.Evolves.refl _ _
    clear_value x6
    split
    · exact hx6
    · extract_lets +onlyGivenNames x30
      clear_value x30
      extract_lets +onlyGivenNames x31
      clear_value x31
      extract_lets +onlyGivenNames x32
      clear_value x32
      extract_lets +onlyGivenNames x33
      clear_value x33
      extract_lets +onlyGivenNames x34
      clear_value x34
      extract_lets +onlyGivenNames x35
      clear_value x35
      extract_lets +onlyGivenNames x36
      clear_value x36
      extract_lets +onlyGivenNames x37
      refine State.Evolves.cut (fs := [.attic, .cellar, .larder, .host, .od, .meter, .bell, .mtr]) (r := s) (x := x37) ?_ fun hx37 => ?_
      · unfold x37
        refine State.Evolves.step ?_ (State.setHist_evolves ..) rfl
        exact hx6
      clear_value x37
      split
      · rename_i v38 v39 v40 e41 v42 v43 v44 v45 e46
        refine State.Evolves.cut (fs := [.attic, .cellar, .larder, .host, .od, .meter, .bell, .mtr]) (r := s) (x := v44) (State.Evolves.eqv ?_ (congrArg (fun y => y.1) e46)) fun hv44 => ?_
        · split
          · refine State.Evolves.step ?_ (State.recipe_evolves ..) rfl
            exact hx37
          · exact hx37
        split
        · rename_i v49 v50 v51 e52
          refine State.Evolves.cut (fs := [.attic, .cellar, .larder, .host, .od, .meter, .bell, .mtr]) (r := s) (x := v50) (State.Evolves.eqv ?_ (congrArg (fun y => y.1) e52)) fun hv50 => ?_
          · split
            · refine State.Evolves.step ?_ (State.recipe_evolves ..) rfl
              exact hv44
            · exact hv44
          split
          · refine State.Evolves.step ?_ (State.recipe_evolves ..) rfl
            exact hv50
          · exact hv50

theorem State.endOp_evolves (s : State) (o : Op) :
    State.Evolves [.attic, .cellar, .larder, .host, .od, .meter, .lb, .porch, .bell, .gz, .ex, .mtr] s (State.endOp s o) := by
  unfold State.endOp
  split
  · rename_i v0 v1 v2 e3
    refine State.Evolves.cut (fs := [.attic, .cellar, .larder, .host, .od, .meter, .lb, .porch, .bell, .gz, .ex, .mtr]) (r := s) (x := v1) (State.Evolves.eqv ?_ (congrArg (fun y => y.1) e3)) fun hv1 => ?_
    · split
      · dsimp only
        exact State.Evolves.refl _ _
      · refine State.Evolves.foldl_fst ?_ ?_
        · dsimp only
          exact State.Evolves.refl _ _
        · intro t6 x7 ht6
          split
          · rename_i v8 v9 v10 v11 e12
            refine State.Evolves.cut (fs := [.attic, .cellar, .larder, .host, .od, .meter, .lb, .porch, .bell, .gz, .ex, .mtr]) (r := s) (x := v10) (State.Evolves.eqv ?_ (congrArg (fun y => y.1) e12)) fun hv10 => ?_
            · refine State.Evolves.step ?_ (State.endDest_evolves ..) rfl
              exact ht6
            refine State.Evolves.step ?_ (State.endDest_evolves ..) rfl
            exact hv10
    extract_lets +onlyGivenNames x13
    refine State.Evolves.cut (fs := [.attic, .cellar, .larder, .host, .od, .meter, .lb, .porch, .bell, .gz, .ex, .mtr]) (r := s) (x := x13) ?_ fun hx13 => ?_
    · unfold x13
      refine State.Evolves.ite ?_ ?_
      · exact hv1
      · refine State.Evolves.step ?_ (State.endPages_evolves ..) rfl
        exact hv1
    clear_value x13
    extract_lets +onlyGivenNames x14
    refine State.Evolves.cut (fs := [.attic, .cellar, .larder, .host, .od, .meter, .lb, .porch, .bell, .gz, .ex, .mtr]) (r := s) (x := x14) ?_ fun hx14 => ?_
    · unfold x14
      refine State.Evolves.ite ?_ ?_
      · refine State.Evolves.step ?_ (State.count_evolves ..) rfl
        exact hx13
      · exact hx13
    clear_value x14
    extract_lets +onlyGivenNames x15
    refine State.Evolves.cut (fs := [.attic, .cellar, .larder, .host, .od, .meter, .lb, .porch, .bell, .gz, .ex, .mtr]) (r := s) (x := x15) ?_ fun hx15 => ?_
    · unfold x15
      refine State.Evolves.ite ?_ ?_
      · exact hx14
      · refine State.Evolves.foldl ?_ ?_
        · exact hx14
        · intro t16 x17 ht16
          refine State.Evolves.ite ?_ ?_
          · refine State.Evolves.step ?_ (State.entryStat_evolves ..) rfl
            exact ht16
          · exact ht16
    clear_value x15
    extract_lets +onlyGivenNames x18
    refine State.Evolves.cut (fs := [.attic, .cellar, .larder, .host, .od, .meter, .lb, .porch, .bell, .gz, .ex, .mtr]) (r := s) (x := x18) ?_ fun hx18 => ?_
    · unfold x18
      refine State.Evolves.step ?_ (State.dropOp_evolves ..) rfl
      exact hx15
    clear_value x18
    extract_lets +onlyGivenNames x19
    refine State.Evolves.cut (fs := [.attic, .cellar, .larder, .host, .od, .meter, .lb, .porch, .bell, .gz, .ex, .mtr]) (r := s) (x := x19) ?_ fun hx19 => ?_
    · unfold x19
      refine State.Evolves.ite ?_ ?_
      · exact hx18
      · refine State.Evolves.ite ?_ ?_
        · refine State.Evolves.step ?_ (State.releaseDrains_evolves ..) rfl
          exact hx18
        · refine State.Evolves.step ?_ (State.dropStreams_evolves ..) rfl
          exact hx18
    clear_value x19
    extract_lets +onlyGivenNames x20
    refine State.Evolves.cut (fs := [.attic, .cellar, .larder, .host, .od, .meter, .lb, .porch, .bell, .gz, .ex, .mtr]) (r := s) (x := x20) ?_ fun hx20 => ?_
    · unfold x20
      refine State.Evolves.ite ?_ ?_
      · refine State.Evolves.foldl ?_ ?_
        · exact hx19
        · intro t21 x22 ht21
          refine State.Evolves.step ?_ (State.haltQueue_evolves ..) rfl
          exact ht21
      · exact hx19
    clear_value x20
    extract_lets +onlyGivenNames x23
    clear_value x23
    refine State.Evolves.step ?_ (State.settle_evolves ..) rfl
    refine State.Evolves.foldl ?_ ?_
    · exact hx20
    · intro t24 x25 ht24
      refine State.Evolves.step ?_ (State.finish_evolves ..) rfl
      exact ht24

theorem State.kvPrepare_evolves (s : State) (o : Op) (els : List TileEl) :
    State.Evolves [.attic, .cellar, .larder, .host, .meter, .bell] s (State.kvPrepare s o els).1 := by
  unfold State.kvPrepare
  refine State.Evolves.foldl_fst ?_ ?_
  · dsimp only
    exact State.Evolves.refl _ _
  · intro t0 x1 ht0
    split
    · rename_i v2 v3 v4 e5 e6
      split
      · exact ht0
      · split
        · exact ht0
        · split
          · rename_i v20 v21 e22 v23 v24 v25 v26 v27
            extract_lets +onlyGivenNames x28
            clear_value x28
            extract_lets +onlyGivenNames x29
            clear_value x29
            extract_lets +onlyGivenNames x30
            clear_value x30
            split
            · exact ht0
            · extract_lets +onlyGivenNames x33
              clear_value x33
              split
              · rename_i v34 v35 v36 e37
                refine State.Evolves.cut (fs := [.attic, .cellar, .larder, .host, .meter, .bell]) (r := s) (x := v36) (State.Evolves.eqv ?_ (congrArg (fun y => y.2) e37)) fun hv36 => ?_
                · refine State.Evolves.step ?_ (State.writeTranslate_evolves ..) rfl
                  exact ht0
                dsimp only
                refine State.Evolves.ite ?_ ?_
                · exact ht0
                · exact hv36
              · rename_i v38 v39 v40 v41 v42 e43
                refine State.Evolves.cut (fs := [.attic, .cellar, .larder, .host, .meter, .bell]) (r := s) (x := v42) (State.Evolves.eqv ?_ (congrArg (fun y => y.2) e43)) fun hv42 => ?_
                · refine State.Evolves.step ?_ (State.writeTranslate_evolves ..) rfl
                  exact ht0
                extract_lets +onlyGivenNames x44
                clear_value x44
                extract_lets +onlyGivenNames x45
                refine State.Evolves.cut (fs := [.attic, .cellar, .larder, .host, .meter, .bell]) (r := s) (x := x45) ?_ fun hx45 => ?_
                · unfold x45
                  refine State.Evolves.ite ?_ ?_
                  · refine State.Evolves.step ?_ (State.setHdr_evolves ..) rfl
                    exact hv42
                  · exact hv42
                clear_value x45
                extract_lets +onlyGivenNames x46
                clear_value x46
                exact hx45
    · rename_i v47 v48 v49
      exact ht0

theorem State.copyDelivered_evolves (s : State) (o : Op) (t : Nat) :
    State.Evolves [.meter, .porch] s (State.copyDelivered s o t) := by
  unfold State.copyDelivered
  split
  · extract_lets +onlyGivenNames x6
    refine State.Evolves.cut (fs := [.meter, .porch]) (r := s) (x := x6) ?_ fun hx6 => ?_
    · unfold x6
      refine State.Evolves.step ?_ (State.countDelivery_evolves ..) rfl
      exact State.Evolves.refl _ _
    clear_value x6
    refine State.Evolves.ite ?_ ?_
    · extract_lets +onlyGivenNames x7
      clear_value x7
      refine State.Evolves.step ?_ (State.releaseReads_evolves ..) rfl
      refine State.Evolves.step ?_ (State.count_evolves ..) rfl
      exact hx6
    · exact hx6
  · exact State.Evolves.refl _ _

theorem State.meterConv_evolves (s : State) (c : Counts) :
    State.Evolves [.meter] s (State.meterConv s c) := by
  unfold State.meterConv
  refine State.Evolves.step ?_ (State.count_evolves ..) rfl
  refine State.Evolves.step ?_ (State.count_evolves ..) rfl
  refine State.Evolves.step ?_ (State.count_evolves ..) rfl
  refine State.Evolves.step ?_ (State.count_evolves ..) rfl
  refine State.Evolves.step ?_ (State.count_evolves ..) rfl
  refine State.Evolves.step ?_ (State.count_evolves ..) rfl
  refine State.Evolves.step ?_ (State.count_evolves ..) rfl
  refine State.Evolves.step ?_ (State.count_evolves ..) rfl
  refine State.Evolves.step ?_ (State.count_evolves ..) rfl
  exact State.Evolves.refl _ _

theorem State.rescaleOne_evolves (s : State) (d : DestRun) (k : Nat) (ls : List Nat) :
    State.Evolves [.attic, .cellar, .larder, .host, .meter] s (State.rescaleOne s d k ls).1 := by
  unfold State.rescaleOne
  extract_lets +onlyGivenNames x0
  clear_value x0
  split
  · extract_lets +onlyGivenNames x5
    clear_value x5
    extract_lets +onlyGivenNames x6
    refine State.Evolves.cut (fs := [.attic, .cellar, .larder, .host, .meter]) (r := s) (x := x6) ?_ fun hx6 => ?_
    · unfold x6
      refine State.Evolves.step ?_ (State.count_evolves ..) rfl
      refine State.Evolves.step ?_ (State.wr_evolves ..) rfl
      exact State.Evolves.refl _ _
    clear_value x6
    dsimp only
    refine State.Evolves.ite ?_ ?_
    · refine State.Evolves.step ?_ (State.poison_evolves ..) rfl
      exact hx6
    · exact hx6

theorem State.rescaleBlock_evolves (s : State) (d : DestRun) (k : Nat) (b : ℤ) (idx : List Nat) :
    State.Evolves [.attic, .cellar, .larder, .host, .meter] s (State.rescaleBlock s d k b idx).1 := by
  unfold State.rescaleBlock
  split
  · dsimp only
    exact State.Evolves.refl _ _
  · extract_lets +onlyGivenNames x5
    clear_value x5
    extract_lets +onlyGivenNames x6
    clear_value x6
    extract_lets +onlyGivenNames x7
    clear_value x7
    extract_lets +onlyGivenNames x8
    clear_value x8
    extract_lets +onlyGivenNames x9
    clear_value x9
    split
    · dsimp only
      exact State.Evolves.refl _ _
    · split
      · dsimp only
        refine State.Evolves.step ?_ (State.count_evolves ..) rfl
        refine State.Evolves.step ?_ (State.wr_evolves ..) rfl
        exact State.Evolves.refl _ _
      · extract_lets +onlyGivenNames x28
        clear_value x28
        extract_lets +onlyGivenNames x29
        clear_value x29
        extract_lets +onlyGivenNames x30
        clear_value x30
        extract_lets +onlyGivenNames x31
        clear_value x31
        extract_lets +onlyGivenNames x32
        clear_value x32
        extract_lets +onlyGivenNames x33
        clear_value x33
        extract_lets +onlyGivenNames x34
        clear_value x34
        extract_lets +onlyGivenNames x35
        refine State.Evolves.cut (fs := [.attic, .cellar, .larder, .host, .meter]) (r := s) (x := x35) ?_ fun hx35 => ?_
        · unfold x35
          refine State.Evolves.step ?_ (State.wr_evolves ..) rfl
          exact State.Evolves.refl _ _
        clear_value x35
        extract_lets +onlyGivenNames x36
        refine State.Evolves.cut (fs := [.attic, .cellar, .larder, .host, .meter]) (r := s) (x := x36) ?_ fun hx36 => ?_
        · unfold x36
          refine State.Evolves.ite ?_ ?_
          · refine State.Evolves.step ?_ (State.poison_evolves ..) rfl
            exact hx35
          · exact hx35
        clear_value x36
        dsimp only
        refine State.Evolves.step ?_ (State.count_evolves ..) rfl
        refine State.Evolves.step ?_ (State.wr_evolves ..) rfl
        exact hx36

theorem State.rescaleAll_evolves (s : State) (o : Op) (i : Nat) (p : Part) (d : DestRun) (t : Nat) (k : Nat) :
    State.Evolves [.attic, .cellar, .larder, .host, .meter] s (State.rescaleAll s o i p d t k).1 := by
  unfold State.rescaleAll
  extract_lets +onlyGivenNames x0
  clear_value x0
  extract_lets +onlyGivenNames x1
  clear_value x1
  split
  · rename_i v2 v3 v4 e5
    refine State.Evolves.cut (fs := [.attic, .cellar, .larder, .host, .meter]) (r := s) (x := v3) (State.Evolves.eqv ?_ (congrArg (fun y => y.1) e5)) fun hv3 => ?_
    · split
      · refine State.Evolves.foldl_fst ?_ ?_
        · dsimp only
          exact State.Evolves.refl _ _
        · intro t7 x8 ht7
          split
          · rename_i e9 v10 v11 v12 e13
            refine State.Evolves.cut (fs := [.attic, .cellar, .larder, .host, .meter]) (r := s) (x := v11) (State.Evolves.eqv ?_ (congrArg (fun y => y.1) e13)) fun hv11 => ?_
            · refine State.Evolves.step ?_ (State.rescaleOne_evolves ..) rfl
              exact ht7
            exact hv11
      · extract_lets +onlyGivenNames x15
        clear_value x15
        extract_lets +onlyGivenNames x16
        clear_value x16
        refine State.Evolves.foldl_fst ?_ ?_
        · dsimp only
          exact State.Evolves.refl _ _
        · intro t17 x18 ht17
          split
          · rename_i v19 v20 v21 v22 e23
            refine State.Evolves.cut (fs := [.attic, .cellar, .larder, .host, .meter]) (r := s) (x := v21) (State.Evolves.eqv ?_ (congrArg (fun y => y.1) e23)) fun hv21 => ?_
            · refine State.Evolves.step ?_ (State.rescaleBlock_evolves ..) rfl
              exact ht17
            exact hv21
    split
    · rename_i v24 v25 v26 e27
      refine State.Evolves.cut (fs := [.attic, .cellar, .larder, .host, .meter]) (r := s) (x := v25) (State.Evolves.eqv ?_ (congrArg (fun y => y.1) e27)) fun hv25 => ?_
      · refine State.Evolves.step ?_ (State.rescaleList_evolves ..) rfl
        exact hv3
      exact hv25

theorem State.raiseScale_evolves (s : State) (o : Op) (i : Nat) (p : Part) (d : DestRun) (amax : F32) (t : Nat) :
    State.Evolves [.attic, .cellar, .larder, .host, .meter] s (State.raiseScale s o i p d amax t).1 := by
  unfold State.raiseScale
  extract_lets +onlyGivenNames x0
  clear_value x0
  extract_lets +onlyGivenNames x1
  clear_value x1
  extract_lets +onlyGivenNames x2
  clear_value x2
  split
  · rename_i v3 v4 v5 e6
    refine State.Evolves.cut (fs := [.attic, .cellar, .larder, .host, .meter]) (r := s) (x := v4) (State.Evolves.eqv ?_ (congrArg (fun y => y.1) e6)) fun hv4 => ?_
    · refine State.Evolves.step ?_ (State.rescaleAll_evolves ..) rfl
      exact State.Evolves.refl _ _
    extract_lets +onlyGivenNames x7
    clear_value x7
    extract_lets +onlyGivenNames x8
    refine State.Evolves.cut (fs := [.attic, .cellar, .larder, .host, .meter]) (r := s) (x := x8) ?_ fun hx8 => ?_
    · unfold x8
      split
      · exact hv4
      · refine State.Evolves.step ?_ (State.wr_evolves ..) rfl
        exact hv4
    clear_value x8
    extract_lets +onlyGivenNames x14
    clear_value x14
    extract_lets +onlyGivenNames x15
    refine State.Evolves.cut (fs := [.attic, .cellar, .larder, .host, .meter]) (r := s) (x := x15) ?_ fun hx15 => ?_
    · unfold x15
      refine State.Evolves.ite ?_ ?_
      · exact hx8
      · refine State.Evolves.step ?_ (State.setHist_evolves ..) rfl
        exact hx8
    clear_value x15
    extract_lets +onlyGivenNames x16
    clear_value x16
    extract_lets +onlyGivenNames x17
    clear_value x17
    dsimp only
    refine State.Evolves.step ?_ (State.count_evolves ..) rfl
    exact hx15

theorem State.convPart_evolves (s : State) (o : Op) (t : Nat) (i : Nat) (els : List TileEl) :
    State.Evolves [.attic, .cellar, .larder, .host, .od, .meter, .bell, .mtr] s (State.convPart s o t i els).1 := by
  unfold State.convPart
  split
  · dsimp only
    exact State.Evolves.refl _ _
  · extract_lets +onlyGivenNames x5
    clear_value x5
    extract_lets +onlyGivenNames x6
    clear_value x6
    extract_lets +onlyGivenNames x7
    clear_value x7
    extract_lets +onlyGivenNames x8
    refine State.Evolves.cut (fs := [.attic, .cellar, .larder, .host, .od, .meter, .bell, .mtr]) (r := s) (x := x8) ?_ fun hx8 => ?_
    · unfold x8
      refine State.Evolves.foldl ?_ ?_
      · exact State.Evolves.refl _ _
      · intro t9 x10 ht9
        refine State.Evolves.step ?_ (State.meterConv_evolves ..) rfl
        exact ht9
    clear_value x8
    extract_lets +onlyGivenNames x11
    clear_value x11
    extract_lets +onlyGivenNames x12
    clear_value x12
    extract_lets +onlyGivenNames x13
    clear_value x13
    split
    · rename_i v14 v15 e16 v17 v18 v19 e20
      refine State.Evolves.cut (fs := [.attic, .cellar, .larder, .host, .od, .meter, .bell, .mtr]) (r := s) (x := v18) (State.Evolves.eqv ?_ (congrArg (fun y => y.1) e20)) fun hv18 => ?_
      · refine State.Evolves.foldl_fst ?_ ?_
        · exact hx8
        · intro t21 x22 ht21
          split
          · refine State.Evolves.step ?_ (State.recipe_evolves ..) rfl
            exact ht21
          · split
            · refine State.Evolves.step ?_ (State.recipe_evolves ..) rfl
              exact ht21
            · exact ht21
      split
      · exact hv18
      · split
        · split
          · rename_i v33 v34 v35 v36 v37 e38
            refine State.Evolves.cut (fs := [.attic, .cellar, .larder, .host, .od, .meter, .bell, .mtr]) (r := s) (x := v36) (State.Evolves.eqv ?_ (congrArg (fun y => y.1) e38)) fun hv36 => ?_
            · refine State.Evolves.foldl_fst ?_ ?_
              · exact hv18
              · intro t39 x40 ht39
                extract_lets +onlyGivenNames x41
                clear_value x41
                extract_lets +onlyGivenNames x42
                refine State.Evolves.cut (fs := [.attic, .cellar, .larder, .host, .od, .meter, .bell, .mtr]) (r := s) (x := x42.1) ?_ fun hx42 => ?_
                · unfold x42
                  split
                  · refine State.Evolves.step ?_ (State.recipe_evolves ..) rfl
                    refine State.Evolves.step ?_ (State.entryStat_evolves ..) rfl
                    refine State.Evolves.step ?_ (State.count_evolves ..) rfl
                    exact ht39
                  · exact ht39
                split
                · refine State.Evolves.step ?_ (State.recipe_evolves ..) rfl
                  refine State.Evolves.step ?_ (State.entryStat_evolves ..) rfl
                  refine State.Evolves.step ?_ (State.count_evolves ..) rfl
                  exact hx42
                · exact hx42
            exact hv36
        · extract_lets +onlyGivenNames x49
          clear_value x49
          split
          · rename_i v50 v51 v52 v53 v54 v55 e56
            refine State.Evolves.cut (fs := [.attic, .cellar, .larder, .host, .od, .meter, .bell, .mtr]) (r := s) (x := v53) (State.Evolves.eqv ?_ (congrArg (fun y => y.1) e56)) fun hv53 => ?_
            · refine State.Evolves.foldl_fst ?_ ?_
              · dsimp only
                refine State.Evolves.step ?_ (State.entryStat_evolves ..) rfl
                refine State.Evolves.step ?_ (State.count_evolves ..) rfl
                refine State.Evolves.step ?_ (State.count_evolves ..) rfl
                exact hv18
              · intro t57 x58 ht57
                split
                · rename_i v59 v60 v61 v62
                  split
                  · exact ht57
                  · split
                    · exact ht57
                    · extract_lets +onlyGivenNames x79
                      clear_value x79
                      extract_lets +onlyGivenNames x80
                      refine State.Evolves.cut (fs := [.attic, .cellar, .larder, .host, .od, .meter, .bell, .mtr]) (r := s) (x := x80) ?_ fun hx80 => ?_
                      · unfold x80
                        refine State.Evolves.ite ?_ ?_
                        · refine State.Evolves.step ?_ (State.meterConv_evolves ..) rfl
                          exact ht57
                        · exact ht57
                      clear_value x80
                      extract_lets +onlyGivenNames x81
                      clear_value x81
                      split
                      · split
                        · rename_i v88 v89 v90 e91 v92 e93 v94 v95 v96 v97 e98
                          refine State.Evolves.cut (fs := [.attic, .cellar, .larder, .host, .od, .meter, .bell, .mtr]) (r := s) (x := v95) (State.Evolves.eqv ?_ (congrArg (fun y => y.1) e98)) fun hv95 => ?_
                          · refine State.Evolves.step ?_ (State.raiseScale_evolves ..) rfl
                            exact hx80
                          extract_lets +onlyGivenNames x99
                          clear_value x99
                          extract_lets +onlyGivenNames x100
                          clear_value x100
                          dsimp only
                          refine State.Evolves.step ?_ (State.meterConv_evolves ..) rfl
                          exact hv95
                      · exact hx80
            extract_lets +onlyGivenNames x107
            clear_value x107
            exact hv53

theorem State.gradCheck_evolves (s : State) (o : Op) (p : Part) (d : DestRun) (c : Conv) (els : List TileEl) :
    State.Evolves [.attic, .cellar, .larder, .host, .od, .meter, .bell, .pel] s (State.gradCheck s o p d c els).1 := by
  unfold State.gradCheck
  split
  · dsimp only
    exact State.Evolves.refl _ _
  · extract_lets +onlyGivenNames x2
    clear_value x2
    extract_lets +onlyGivenNames x3
    clear_value x3
    extract_lets +onlyGivenNames x4
    clear_value x4
    extract_lets +onlyGivenNames x5
    clear_value x5
    split
    · split
      · dsimp only
        refine State.Evolves.step ?_ (State.count_evolves ..) rfl
        exact State.Evolves.refl _ _
      · split
        · dsimp only
          refine State.Evolves.step ?_ (State.count_evolves ..) rfl
          exact State.Evolves.refl _ _
        · dsimp only
          refine State.Evolves.step ?_ (State.count_evolves ..) rfl
          refine State.Evolves.step ?_ (State.wr_evolves ..) rfl
          exact State.Evolves.refl _ _
    · split
      · dsimp only
        exact State.Evolves.refl _ _
      · extract_lets +onlyGivenNames x37
        clear_value x37
        split
        · dsimp only
          exact State.Evolves.refl _ _
        · split
          · dsimp only
            refine State.Evolves.step ?_ (State.setOd_evolves ..) rfl
            exact State.Evolves.refl _ _
          · extract_lets +onlyGivenNames x56
            clear_value x56
            extract_lets +onlyGivenNames x57
            clear_value x57
            extract_lets +onlyGivenNames x58
            clear_value x58
            extract_lets +onlyGivenNames x59
            refine State.Evolves.cut (fs := [.attic, .cellar, .larder, .host, .od, .meter, .bell, .pel]) (r := s) (x := x59) ?_ fun hx59 => ?_
            · unfold x59
              refine State.Evolves.upd (s := s) ?_ (State.tables_of rfl rfl rfl rfl rfl rfl rfl) rfl rfl rfl rfl rfl rfl rfl fun f hf => by cases f <;> first | rfl | simp at hf
              exact State.Evolves.refl _ _
            clear_value x59
            extract_lets +onlyGivenNames x60
            refine State.Evolves.cut (fs := [.attic, .cellar, .larder, .host, .od, .meter, .bell, .pel]) (r := s) (x := x60) ?_ fun hx60 => ?_
            · unfold x60
              refine State.Evolves.step ?_ (State.setOd_evolves ..) rfl
              refine State.Evolves.step ?_ (State.wr_evolves ..) rfl
              exact hx59
            clear_value x60
            dsimp only
            refine State.Evolves.step ?_ (State.raise_evolves ..) rfl
            refine State.Evolves.step ?_ (State.count_evolves ..) rfl
            exact hx60

theorem State.appendEntries_evolves (s : State) (d : DestRun) (es : List SideEntry) :
    State.Evolves [.attic, .cellar, .larder, .host, .meter] s (State.appendEntries s d es) := by
  unfold State.appendEntries
  split
  · exact State.Evolves.refl _ _
  · extract_lets +onlyGivenNames x5
    clear_value x5
    extract_lets +onlyGivenNames x6
    clear_value x6
    extract_lets +onlyGivenNames x7
    refine State.Evolves.cut (fs := [.attic, .cellar, .larder, .host, .meter]) (r := s) (x := x7) ?_ fun hx7 => ?_
    · unfold x7
      refine State.Evolves.foldl ?_ ?_
      · exact State.Evolves.refl _ _
      · intro t8 x9 ht8
        split
        · refine State.Evolves.step ?_ (State.wr_evolves ..) rfl
          exact ht8
    clear_value x7
    refine State.Evolves.ite ?_ ?_
    · exact hx7
    · refine State.Evolves.step ?_ (State.wr_evolves ..) rfl
      exact hx7

theorem State.wrMarked_evolves (s : State) (cells : List (Space × Host.Cell)) (marks : List (Space × Nat)) :
    State.Evolves [.attic, .cellar, .larder, .host, .meter] s (State.wrMarked s cells marks) := by
  unfold State.wrMarked
  extract_lets +onlyGivenNames x0
  refine State.Evolves.foldl ?_ ?_
  · unfold x0
    extract_lets +onlyGivenNames x1
    clear_value x1
    refine State.Evolves.ite ?_ ?_
    · extract_lets +onlyGivenNames x2
      clear_value x2
      refine State.Evolves.ite ?_ ?_
      · extract_lets +onlyGivenNames x3
        clear_value x3
        refine State.Evolves.ite ?_ ?_
        · extract_lets +onlyGivenNames x4
          clear_value x4
          refine State.Evolves.ite ?_ ?_
          · exact State.Evolves.refl _ _
          · refine State.Evolves.step ?_ (State.wrCells_evolves ..) rfl
            exact State.Evolves.refl _ _
        · refine State.Evolves.step ?_ (State.wrCells_evolves ..) rfl
          extract_lets +onlyGivenNames x5
          clear_value x5
          refine State.Evolves.ite ?_ ?_
          · exact State.Evolves.refl _ _
          · refine State.Evolves.step ?_ (State.wrCells_evolves ..) rfl
            exact State.Evolves.refl _ _
      · refine State.Evolves.step ?_ (State.wrCells_evolves ..) rfl
        extract_lets +onlyGivenNames x6
        clear_value x6
        refine State.Evolves.ite ?_ ?_
        · extract_lets +onlyGivenNames x7
          clear_value x7
          refine State.Evolves.ite ?_ ?_
          · exact State.Evolves.refl _ _
          · refine State.Evolves.step ?_ (State.wrCells_evolves ..) rfl
            exact State.Evolves.refl _ _
        · refine State.Evolves.step ?_ (State.wrCells_evolves ..) rfl
          extract_lets +onlyGivenNames x8
          clear_value x8
          refine State.Evolves.ite ?_ ?_
          · exact State.Evolves.refl _ _
          · refine State.Evolves.step ?_ (State.wrCells_evolves ..) rfl
            exact State.Evolves.refl _ _
    · refine State.Evolves.step ?_ (State.wrCells_evolves ..) rfl
      extract_lets +onlyGivenNames x9
      clear_value x9
      refine State.Evolves.ite ?_ ?_
      · extract_lets +onlyGivenNames x10
        clear_value x10
        refine State.Evolves.ite ?_ ?_
        · extract_lets +onlyGivenNames x11
          clear_value x11
          refine State.Evolves.ite ?_ ?_
          · exact State.Evolves.refl _ _
          · refine State.Evolves.step ?_ (State.wrCells_evolves ..) rfl
            exact State.Evolves.refl _ _
        · refine State.Evolves.step ?_ (State.wrCells_evolves ..) rfl
          extract_lets +onlyGivenNames x12
          clear_value x12
          refine State.Evolves.ite ?_ ?_
          · exact State.Evolves.refl _ _
          · refine State.Evolves.step ?_ (State.wrCells_evolves ..) rfl
            exact State.Evolves.refl _ _
      · refine State.Evolves.step ?_ (State.wrCells_evolves ..) rfl
        extract_lets +onlyGivenNames x13
        clear_value x13
        refine State.Evolves.ite ?_ ?_
        · extract_lets +onlyGivenNames x14
          clear_value x14
          refine State.Evolves.ite ?_ ?_
          · exact State.Evolves.refl _ _
          · refine State.Evolves.step ?_ (State.wrCells_evolves ..) rfl
            exact State.Evolves.refl _ _
        · refine State.Evolves.step ?_ (State.wrCells_evolves ..) rfl
          extract_lets +onlyGivenNames x15
          clear_value x15
          refine State.Evolves.ite ?_ ?_
          · exact State.Evolves.refl _ _
          · refine State.Evolves.step ?_ (State.wrCells_evolves ..) rfl
            exact State.Evolves.refl _ _
  · intro t16 x17 ht16
    split
    · refine State.Evolves.step ?_ (State.poison_evolves ..) rfl
      exact ht16

theorem State.storeConv_evolves (s : State) (d : DestRun) (c : Conv) :
    State.Evolves [.attic, .cellar, .larder, .host, .meter, .freeCtr] s (State.storeConv s d c) := by
  have h := State.Evolves.step (State.wrMarked_evolves s c.cells c.marks) (State.appendEntries_evolves _ d c.entries) rfl
  have e := h.frame .freeCtr (by simp)
  simp only [State.agree] at e
  exact (h.mono rfl).draw _ (by omega) rfl

/-- The free values that a tile's store draws. -/
theorem State.storeConv_free (s : State) (d : DestRun) (c : Conv) : (s.storeConv d c).freeCtr = s.freeCtr + c.draws := rfl

theorem Conv.without_draws (c : Conv) (l : List (Space × Nat)) : (c.without l).draws = c.draws := by
  unfold Conv.without; split <;> rfl

theorem State.storeDest_evolves (s : State) (o : Op) (i : Nat) (els : List TileEl) (x : Bool × Conv) :
    State.Evolves [.attic, .cellar, .larder, .host, .od, .meter, .freeCtr, .bell, .pel, .mtr] s (State.storeDest s o i els x).1 := by
  unfold State.storeDest
  split
  · dsimp only
    exact State.Evolves.refl _ _
  · split
    · rename_i v6 v7 v8 e9 v10 v11 v12 e13
      refine State.Evolves.cut (fs := [.attic, .cellar, .larder, .host, .od, .meter, .freeCtr, .bell, .pel, .mtr]) (r := s) (x := v11) (State.Evolves.eqv ?_ (congrArg (fun y => y.1) e13)) fun hv11 => ?_
      · refine State.Evolves.step ?_ (State.gradCheck_evolves ..) rfl
        exact State.Evolves.refl _ _
      extract_lets +onlyGivenNames x14
      clear_value x14
      split
      · dsimp only
        refine State.Evolves.step ?_ (State.entryStat_evolves ..) rfl
        refine State.Evolves.step ?_ (State.storeConv_evolves ..) rfl
        exact hv11
      · dsimp only
        exact hv11.draw _ (Nat.le_add_right ..) rfl
      · dsimp only
        exact (hv11.step (State.storeConv_evolves ..) rfl).draw _ (by rw [State.storeConv_free, Conv.without_draws]; exact Nat.le_refl _) rfl

theorem State.convertEls_evolves (s : State) (o : Op) (t : Nat) (els : List TileEl) :
    State.Evolves [.attic, .cellar, .larder, .host, .od, .meter, .freeCtr, .lb, .porch, .bell, .pel, .mtr] s (State.convertEls s o t els) := by
  unfold State.convertEls
  extract_lets +onlyGivenNames x0
  refine State.Evolves.cut (fs := [.attic, .cellar, .larder, .host, .od, .meter, .freeCtr, .lb, .porch, .bell, .pel, .mtr]) (r := s) (x := x0) ?_ fun hx0 => ?_
  · unfold x0
    refine State.Evolves.step ?_ (State.copyDelivered_evolves ..) rfl
    refine State.Evolves.step ?_ (State.count_evolves ..) rfl
    exact State.Evolves.refl _ _
  clear_value x0
  extract_lets +onlyGivenNames x1
  clear_value x1
  split
  · rename_i v2 v3 v4 e5
    refine State.Evolves.cut (fs := [.attic, .cellar, .larder, .host, .od, .meter, .freeCtr, .lb, .porch, .bell, .pel, .mtr]) (r := s) (x := v3) (State.Evolves.eqv ?_ (congrArg (fun y => y.1) e5)) fun hv3 => ?_
    · refine State.Evolves.foldl_fst ?_ ?_
      · exact hx0
      · intro t6 x7 ht6
        extract_lets +onlyGivenNames x8
        clear_value x8
        split
        · rename_i v9 v10 v11 v12 e13
          refine State.Evolves.cut (fs := [.attic, .cellar, .larder, .host, .od, .meter, .freeCtr, .lb, .porch, .bell, .pel, .mtr]) (r := s) (x := v10) (State.Evolves.eqv ?_ (congrArg (fun y => y.1) e13)) fun hv10 => ?_
          · refine State.Evolves.step ?_ (State.convPart_evolves ..) rfl
            exact ht6
          refine State.Evolves.foldl_fst ?_ ?_
          · exact hv10
          · intro t14 x15 ht14
            refine State.Evolves.step ?_ (State.storeDest_evolves ..) rfl
            exact ht14
    refine State.Evolves.step ?_ (State.setOp_evolves ..) rfl
    exact hv3

theorem State.restoreLists_evolves (s : State) (o : Op) :
    State.Evolves [.attic, .cellar, .larder, .host, .meter] s (State.restoreLists s o) := by
  unfold State.restoreLists
  refine State.Evolves.foldl ?_ ?_
  · exact State.Evolves.refl _ _
  · intro t0 x1 ht0
    refine State.Evolves.foldl ?_ ?_
    · exact ht0
    · intro t2 x3 ht2
      split
      · exact ht2
      · refine State.Evolves.step ?_ (State.wr_evolves ..) rfl
        exact ht2

theorem State.rangeTrigger_evolves' {s : State} {o : Op} {n : Nat} {els : List TileEl} {b : Bool} {s1 : State} {o1 : Op}
    (e : s.rangeTrigger o n els = some (b, s1, o1)) :
    State.Evolves [.attic, .cellar, .larder, .host, .od, .meter, .bell, .mtr] s s1 := by
  unfold State.rangeTrigger at e
  extract_lets +onlyGivenNames hits at e
  clear_value hits
  split at e
  · cases e
  split at e
  · simp only [Option.some.injEq, Prod.mk.injEq] at e
    obtain ⟨-, rfl, -⟩ := e
    exact ((State.count_evolves ..).mono rfl).step (State.entryStat_evolves ..) rfl
  · extract_lets +onlyGivenNames one r at e
    simp only [Option.some.injEq, Prod.mk.injEq] at e
    obtain ⟨-, rfl, -⟩ := e
    refine State.Evolves.foldl_fst (State.Evolves.refl _ _) fun t x ht => ?_
    unfold one
    split
    · exact ht
    · dsimp only
      have hf := fun (ds : List DestRun) (g : State × Op → DestRun → State × Op) (hg : ∀ y d, State.Evolves [.attic, .cellar, .larder, .host, .od, .meter, .bell, .mtr] s y.1 → State.Evolves [.attic, .cellar, .larder, .host, .od, .meter, .bell, .mtr] s (g y d).1) =>
        State.Evolves.foldl_fst (l := ds) ht hg
      refine State.Evolves.ite (hf _ _ fun y d h => h.step (State.recipe_evolves ..) rfl) ?_
      refine State.Evolves.step (State.Evolves.step ?_ (State.count_evolves ..) rfl) (State.entryStat_evolves ..) rfl
      exact hf _ _ fun y d h => h.step (State.recipe_evolves ..) rfl

theorem State.kvWaitTimeout_evolves (s : State) (path : Nat) :
    State.Evolves [.meter, .tick, .freeCtr, .lb, .rooms, .porch, .bell, .mtr] s (State.kvWaitTimeout s path) := by
  unfold State.kvWaitTimeout
  split
  · exact State.Evolves.refl _ _
  · refine State.Evolves.step ?_ (State.stopOp_evolves ..) rfl
    refine State.Evolves.step ?_ (State.atLeast_evolves ..) rfl
    exact State.Evolves.refl _ _

theorem State.runAgain_evolves (s : State) (o : Op) :
    State.Evolves [.meter, .lb, .porch] s (State.runAgain s o) := by
  unfold State.runAgain
  extract_lets +onlyGivenNames x0
  clear_value x0
  refine State.Evolves.ite ?_ ?_
  · refine State.Evolves.step ?_ (State.setOp_evolves ..) rfl
    exact State.Evolves.refl _ _
  · refine State.Evolves.step ?_ (State.settle_evolves ..) rfl
    refine State.Evolves.step ?_ (State.dispatchReplays_evolves ..) rfl
    refine State.Evolves.step ?_ (State.setOp_evolves ..) rfl
    exact State.Evolves.refl _ _

theorem State.meterWaste_evolves (s : State) (o : Op) (els : List TileEl) :
    State.Evolves [.meter] s (State.meterWaste s o els) := by
  unfold State.meterWaste
  refine State.Evolves.foldl ?_ ?_
  · refine State.Evolves.step ?_ (State.count_evolves ..) rfl
    exact State.Evolves.refl _ _
  · intro t0 x1 ht0
    split
    · exact ht0
    · refine State.Evolves.foldl ?_ ?_
      · exact ht0
      · intro t7 x8 ht7
        refine State.Evolves.step ?_ (State.meterConv_evolves ..) rfl
        exact ht7

theorem State.convertTile_evolves (s : State) (path : Nat) (ecc : Nat) :
    State.Evolves [.attic, .cellar, .larder, .host, .od, .meter, .freeCtr, .lb, .rooms, .porch, .bell, .pel, .mtr] s (State.convertTile s path ecc) := by
  unfold State.convertTile
  split
  · exact State.Evolves.refl _ _
  · extract_lets +onlyGivenNames x5
    clear_value x5
    refine State.Evolves.ite ?_ ?_
    · exact State.Evolves.refl _ _
    · refine State.Evolves.ite ?_ ?_
      · refine State.Evolves.step ?_ (State.stopOp_evolves ..) rfl
        exact State.Evolves.refl _ _
      · extract_lets +onlyGivenNames x6
        refine State.Evolves.cut (fs := [.attic, .cellar, .larder, .host, .od, .meter, .freeCtr, .lb, .rooms, .porch, .bell, .pel, .mtr]) (r := s) (x := x6) ?_ fun hx6 => ?_
        · unfold x6
          split
          · exact State.Evolves.refl _ _
          · refine State.Evolves.step ?_ (State.landingEcc_evolves ..) rfl
            exact State.Evolves.refl _ _
        clear_value x6
        extract_lets +onlyGivenNames x18
        clear_value x18
        split
        · rename_i v19 v20 e21 v22 v23 v24 v25 e26
          refine State.Evolves.cut (fs := [.attic, .cellar, .larder, .host, .od, .meter, .freeCtr, .lb, .rooms, .porch, .bell, .pel, .mtr]) (r := s) (x := v23) (State.Evolves.eqv ?_ (congrArg (fun y => y.1) e26)) fun hv23 => ?_
          · refine State.Evolves.step ?_ (State.kvPrepare_evolves ..) rfl
            exact hx6
          split
          · refine State.Evolves.step ?_ (State.stopOp_evolves ..) rfl
            exact hv23
          · refine State.Evolves.step ?_ (State.setOp_evolves ..) rfl
            exact hv23
          · split
            · rename_i v31 v32 v33 v34 e35
              have h36 := State.Evolves.step (fs := [.attic, .cellar, .larder, .host, .od, .meter, .freeCtr, .lb, .rooms, .porch, .bell, .pel, .mtr]) (r := s) ?_ (State.rangeTrigger_evolves' e35) rfl
              · refine State.Evolves.step ?_ (State.runAgain_evolves ..) rfl
                refine State.Evolves.step ?_ (State.restoreLists_evolves ..) rfl
                refine State.Evolves.step ?_ (State.meterWaste_evolves ..) rfl
                exact h36
              exact hv23
            · rename_i v37 v38 v39 v40 e41
              have h42 := State.Evolves.step (fs := [.attic, .cellar, .larder, .host, .od, .meter, .freeCtr, .lb, .rooms, .porch, .bell, .pel, .mtr]) (r := s) ?_ (State.rangeTrigger_evolves' e41) rfl
              · refine State.Evolves.step ?_ (State.convertEls_evolves ..) rfl
                exact h42
              exact hv23
            · rename_i v43 v44 e45
              refine State.Evolves.step ?_ (State.convertEls_evolves ..) rfl
              exact hv23

theorem State.letterCompletion_evolves (s : State) (q : Nat) (seq : Nat) :
    State.Evolves [.attic, .cellar, .larder, .host, .od, .meter, .lb, .porch, .bell, .gz, .ex, .mtr] s (State.letterCompletion s q seq) := by
  unfold State.letterCompletion
  split
  · exact State.Evolves.refl _ _
  · refine State.Evolves.ite ?_ ?_
    · refine State.Evolves.step ?_ (State.endOp_evolves ..) rfl
      exact State.Evolves.refl _ _
    · exact State.Evolves.refl _ _

theorem State.raWrite_evolves (s : State) (l : Option Loc) (size : Nat) (r : Nat) (ws : List F32) (poison : Bool) :
    State.Evolves [.attic, .cellar, .larder, .host, .meter] s (State.raWrite s l size r ws poison) := by
  unfold State.raWrite
  split
  · exact State.Evolves.refl _ _
  · refine State.Evolves.ite ?_ ?_
    · exact State.Evolves.refl _ _
    · extract_lets +onlyGivenNames x3
      clear_value x3
      extract_lets +onlyGivenNames x4
      refine State.Evolves.cut (fs := [.attic, .cellar, .larder, .host, .meter]) (r := s) (x := x4) ?_ fun hx4 => ?_
      · unfold x4
        refine State.Evolves.foldl ?_ ?_
        · exact State.Evolves.refl _ _
        · intro t5 x6 ht5
          split
          · refine State.Evolves.step ?_ (State.wr_evolves ..) rfl
            exact ht5
      clear_value x4
      refine State.Evolves.ite ?_ ?_
      · refine State.Evolves.step ?_ (State.poison_evolves ..) rfl
        exact hx4
      · exact hx4

theorem State.directRow_evolves (s : State) (p : Part) (r : Nat) (out : RowOut) :
    State.Evolves [.attic, .cellar, .larder, .host, .meter, .freeCtr] s (State.directRow s p r out) := by
  unfold State.directRow
  split
  · exact State.Evolves.refl _ _
  · refine State.Evolves.foldl ?_ ?_
    · exact State.Evolves.refl _ _
    · intro t5 x6 ht5
      split
      · extract_lets +onlyGivenNames x14
        clear_value x14
        extract_lets +onlyGivenNames x15
        clear_value x15
        split
        · rename_i v16 v17 e18 v19 v20 v21 v22 v23 v24 v25 e26
          refine State.Evolves.cut (fs := [.attic, .cellar, .larder, .host, .meter, .freeCtr]) (r := s) (x := v25) (State.Evolves.eqv ?_ (congrArg (fun y => y.2) e26)) fun hv25 => ?_
          · split
            · refine State.Evolves.step ?_ (State.free_evolves ..) rfl
              exact ht5
            · exact ht5
          extract_lets +onlyGivenNames x29
          clear_value x29
          extract_lets +onlyGivenNames x30
          clear_value x30
          extract_lets +onlyGivenNames x31
          refine State.Evolves.cut (fs := [.attic, .cellar, .larder, .host, .meter, .freeCtr]) (r := s) (x := x31) ?_ fun hx31 => ?_
          · unfold x31
            refine State.Evolves.step ?_ (State.count_evolves ..) rfl
            refine State.Evolves.step ?_ (State.wr_evolves ..) rfl
            exact hv25
          clear_value x31
          refine State.Evolves.ite ?_ ?_
          · refine State.Evolves.step ?_ (State.poison_evolves ..) rfl
            exact hx31
          · exact hx31

theorem State.wsRowsOut_evolves (s : State) (o : Op) (slot : Nat) (i : Nat) (p : Part) (r0 : Nat) (n : Nat) (ecc : Nat) :
    State.Evolves [.attic, .cellar, .larder, .host, .meter, .freeCtr, .ws] s (State.wsRowsOut s o slot i p r0 n ecc).1 := by
  unfold State.wsRowsOut
  extract_lets +onlyGivenNames x0
  clear_value x0
  extract_lets +onlyGivenNames x1
  clear_value x1
  refine State.Evolves.foldl_fst ?_ ?_
  · dsimp only
    exact State.Evolves.refl _ _
  · intro t2 x3 ht2
    extract_lets +onlyGivenNames x4
    clear_value x4
    extract_lets +onlyGivenNames x5
    extract_lets +onlyGivenNames x6
    clear_value x6
    extract_lets +onlyGivenNames x7
    clear_value x7
    extract_lets +onlyGivenNames x8
    clear_value x8
    extract_lets +onlyGivenNames x9
    refine State.Evolves.cut (fs := [.attic, .cellar, .larder, .host, .meter, .freeCtr, .ws]) (r := s) (x := x9) ?_ fun hx9 => ?_
    · exact ht2
    clear_value x9
    extract_lets +onlyGivenNames x10
    clear_value x10
    extract_lets +onlyGivenNames x11
    refine State.Evolves.cut (fs := [.attic, .cellar, .larder, .host, .meter, .freeCtr, .ws]) (r := s) (x := x11) ?_ fun hx11 => ?_
    · unfold x11
      refine State.Evolves.upd (s := x9) ?_ (State.tables_of rfl rfl rfl rfl rfl rfl rfl) rfl rfl rfl rfl rfl rfl rfl fun f hf => by cases f <;> first | rfl | simp at hf
      exact hx9
    clear_value x11
    extract_lets +onlyGivenNames x12
    refine State.Evolves.cut (fs := [.attic, .cellar, .larder, .host, .meter, .freeCtr, .ws]) (r := s) (x := x12) ?_ fun hx12 => ?_
    · unfold x12
      refine State.Evolves.step ?_ (State.raWrite_evolves ..) rfl
      refine State.Evolves.step ?_ (State.raWrite_evolves ..) rfl
      exact hx11
    clear_value x12
    extract_lets +onlyGivenNames x13
    refine State.Evolves.cut (fs := [.attic, .cellar, .larder, .host, .meter, .freeCtr, .ws]) (r := s) (x := x13) ?_ fun hx13 => ?_
    · unfold x13
      refine State.Evolves.step ?_ (State.count_evolves ..) rfl
      refine State.Evolves.step ?_ (State.count_evolves ..) rfl
      exact hx12
    clear_value x13
    split
    · dsimp only
      refine State.Evolves.step ?_ (State.directRow_evolves ..) rfl
      exact hx13
    · exact hx13

theorem State.installLib_evolves (s : State) (img : List Byte) :
    State.Evolves [.od, .ws] s (State.installLib s img) := by
  unfold State.installLib
  extract_lets +onlyGivenNames x0
  clear_value x0
  extract_lets +onlyGivenNames x1
  clear_value x1
  extract_lets +onlyGivenNames x2
  refine State.Evolves.cut (fs := [.od, .ws]) (r := s) (x := x2) ?_ fun hx2 => ?_
  · unfold x2
    refine State.Evolves.step ?_ (State.setOd_evolves ..) rfl
    refine State.Evolves.step ?_ (State.setOd_evolves ..) rfl
    refine State.Evolves.step ?_ (State.setOd_evolves ..) rfl
    exact State.Evolves.refl _ _
  clear_value x2
  refine State.Evolves.upd (s := x2) ?_ (State.tables_of rfl rfl rfl rfl rfl rfl rfl) rfl rfl rfl rfl rfl rfl rfl fun f hf => by cases f <;> first | rfl | simp at hf
  exact hx2

theorem State.libInstallDone_evolves (s : State) :
    State.Evolves [.od, .ws] s (State.libInstallDone s) := by
  unfold State.libInstallDone
  split
  · exact State.Evolves.refl _ _
  · refine State.Evolves.ite ?_ ?_
    · exact State.Evolves.refl _ _
    · refine State.Evolves.step ?_ (State.installLib_evolves ..) rfl
      exact State.Evolves.refl _ _

theorem State.applyReservation_evolves (s : State) :
    State.Evolves [.ws] s (State.applyReservation s) := by
  unfold State.applyReservation
  refine State.Evolves.ite ?_ ?_
  · exact State.Evolves.refl _ _
  · refine State.Evolves.upd (s := s) ?_ (State.tables_of rfl rfl rfl rfl rfl rfl rfl) rfl rfl rfl rfl rfl rfl rfl fun f hf => by cases f <;> first | rfl | simp at hf
    exact State.Evolves.refl _ _

theorem State.wsFaultRecord_evolves (s : State) (cause : Nat) (bench : Nat) (prog : Nat) (queue : Nat) (seq : Nat) :
    State.Evolves [.od, .meter, .ws, .bell] s (State.wsFaultRecord s cause bench prog queue seq) := by
  unfold State.wsFaultRecord
  extract_lets +onlyGivenNames x0
  refine State.Evolves.cut (fs := [.od, .meter, .ws, .bell]) (r := s) (x := x0) ?_ fun hx0 => ?_
  · unfold x0
    refine State.Evolves.step ?_ (State.setOd_evolves ..) rfl
    refine State.Evolves.step ?_ (State.setOd_evolves ..) rfl
    refine State.Evolves.step ?_ (State.setOd_evolves ..) rfl
    refine State.Evolves.step ?_ (State.setOd_evolves ..) rfl
    refine State.Evolves.step ?_ (State.setOd_evolves ..) rfl
    exact State.Evolves.refl _ _
  clear_value x0
  refine State.Evolves.step ?_ (State.raise_evolves ..) rfl
  refine State.Evolves.step ?_ (State.count_evolves ..) rfl
  refine State.Evolves.upd (s := x0) ?_ (State.tables_of rfl rfl rfl rfl rfl rfl rfl) rfl rfl rfl rfl rfl rfl rfl fun f hf => by cases f <;> first | rfl | simp at hf
  exact hx0

theorem State.benchFault_evolves (s : State) (cause : Nat) (bench : Nat) (cycles : Nat) :
    State.Evolves [.od, .meter, .freeCtr, .lb, .rooms, .porch, .ws, .bell] s (State.benchFault s cause bench cycles) := by
  unfold State.benchFault
  extract_lets +onlyGivenNames x0
  clear_value x0
  refine State.Evolves.ite ?_ ?_
  · exact State.Evolves.refl _ _
  · extract_lets +onlyGivenNames x1
    clear_value x1
    refine State.Evolves.ite ?_ ?_
    · split
      · exact State.Evolves.refl _ _
      · split
        · rename_i v7 v8 e9 v10 v11 v12 e13
          refine State.Evolves.cut (fs := [.od, .meter, .freeCtr, .lb, .rooms, .porch, .ws, .bell]) (r := s) (x := v12) (State.Evolves.eqv ?_ (congrArg (fun y => y.2) e13)) fun hv12 => ?_
          · refine State.Evolves.step ?_ (State.free_evolves ..) rfl
            exact State.Evolves.refl _ _
          extract_lets +onlyGivenNames x14
          clear_value x14
          refine State.Evolves.step ?_ (State.setOp_evolves ..) rfl
          refine State.Evolves.step ?_ (State.wsFaultRecord_evolves ..) rfl
          exact hv12
    · split
      · exact State.Evolves.refl _ _
      · split
        · exact State.Evolves.refl _ _
        · split
          · exact State.Evolves.refl _ _
          · refine State.Evolves.ite ?_ ?_
            · exact State.Evolves.refl _ _
            · refine State.Evolves.step ?_ (State.stopOp_evolves ..) rfl
              refine State.Evolves.step ?_ (State.wsFaultRecord_evolves ..) rfl
              exact State.Evolves.refl _ _

theorem State.wsTileDone_evolves (s : State) (slot : Nat) (ecc : Nat) :
    State.Evolves [.attic, .cellar, .larder, .host, .od, .meter, .freeCtr, .lb, .rooms, .porch, .ws, .bell] s (State.wsTileDone s slot ecc) := by
  unfold State.wsTileDone
  split
  · exact State.Evolves.refl _ _
  · split
    · exact State.Evolves.refl _ _
    · split
      · exact State.Evolves.refl _ _
      · refine State.Evolves.ite ?_ ?_
        · exact State.Evolves.refl _ _
        · extract_lets +onlyGivenNames x39
          clear_value x39
          refine State.Evolves.ite ?_ ?_
          · refine State.Evolves.step ?_ (State.stopOp_evolves ..) rfl
            exact State.Evolves.refl _ _
          · refine State.Evolves.ite ?_ ?_
            · refine State.Evolves.step ?_ (State.benchFault_evolves ..) rfl
              exact State.Evolves.refl _ _
            · split
              · rename_i v40 v41 e42 v43 v44 v45 v46 e47 v48 v49 e50 v51 v52 v53 e54
                refine State.Evolves.cut (fs := [.attic, .cellar, .larder, .host, .od, .meter, .freeCtr, .lb, .rooms, .porch, .ws, .bell]) (r := s) (x := v52) (State.Evolves.eqv ?_ (congrArg (fun y => y.1) e54)) fun hv52 => ?_
                · refine State.Evolves.step ?_ (State.wsRowsOut_evolves ..) rfl
                  exact State.Evolves.refl _ _
                extract_lets +onlyGivenNames x55
                refine State.Evolves.cut (fs := [.attic, .cellar, .larder, .host, .od, .meter, .freeCtr, .lb, .rooms, .porch, .ws, .bell]) (r := s) (x := x55) ?_ fun hx55 => ?_
                · unfold x55
                  refine State.Evolves.step ?_ (State.count_evolves ..) rfl
                  exact hv52
                clear_value x55
                extract_lets +onlyGivenNames x56
                refine State.Evolves.cut (fs := [.attic, .cellar, .larder, .host, .od, .meter, .freeCtr, .lb, .rooms, .porch, .ws, .bell]) (r := s) (x := x56) ?_ fun hx56 => ?_
                · unfold x56
                  refine State.Evolves.step ?_ (State.count_evolves ..) rfl
                  refine State.Evolves.step ?_ (State.countDelivery_evolves ..) rfl
                  exact hx55
                clear_value x56
                extract_lets +onlyGivenNames x57
                refine State.Evolves.cut (fs := [.attic, .cellar, .larder, .host, .od, .meter, .freeCtr, .lb, .rooms, .porch, .ws, .bell]) (r := s) (x := x57) ?_ fun hx57 => ?_
                · unfold x57
                  refine State.Evolves.ite ?_ ?_
                  · refine State.Evolves.step ?_ (State.count_evolves ..) rfl
                    exact hx56
                  · refine State.Evolves.ite ?_ ?_
                    · refine State.Evolves.step ?_ (State.sramUe_evolves ..) rfl
                      exact hx56
                    · exact hx56
                clear_value x57
                extract_lets +onlyGivenNames x58
                refine State.Evolves.cut (fs := [.attic, .cellar, .larder, .host, .od, .meter, .freeCtr, .lb, .rooms, .porch, .ws, .bell]) (r := s) (x := x58) ?_ fun hx58 => ?_
                · unfold x58
                  refine State.Evolves.step ?_ (State.setOp_evolves ..) rfl
                  exact hx57
                clear_value x58
                refine State.Evolves.ite ?_ ?_
                · refine State.Evolves.step ?_ (State.releaseReads_evolves ..) rfl
                  exact hx58
                · exact hx58

theorem State.outlierDone_evolves (s : State) (back : Bool) (wait : Nat) :
    State.Evolves [.meter, .lb] s (State.outlierDone s back wait) := by
  unfold State.outlierDone
  split
  · exact State.Evolves.refl _ _
  · split
    · exact State.Evolves.refl _ _
    · refine State.Evolves.step ?_ (State.setOp_evolves ..) rfl
      refine State.Evolves.step ?_ (State.count_evolves ..) rfl
      refine State.Evolves.step ?_ (State.count_evolves ..) rfl
      exact State.Evolves.refl _ _

end Sys2Proof.Machine
end

