-- ==== Sys2Proof/Laws/EvolvesEngines.lean ====
section
/-! SUPPORT. How the state may develop, operation by operation: Glazia, the Peloton and the exports. -/

namespace Sys2Proof.Machine

theorem State.gzCover_evolves (s : State) (n : Nat) (grain : Nat) (p : Nat × Nat) :
    State.Evolves [.attic, .cellar, .larder, .host, .meter, .gz] s (State.gzCover s n grain p) := by
  unfold State.gzCover
  extract_lets +onlyGivenNames x0
  clear_value x0
  extract_lets +onlyGivenNames x1
  refine State.Evolves.cut (fs := [.attic, .cellar, .larder, .host, .meter, .gz]) (r := s) (x := x1) ?_ fun hx1 => ?_
  · unfold x1
    refine State.Evolves.upd (s := s) ?_ (State.tables_of rfl rfl rfl rfl rfl rfl rfl) rfl rfl rfl rfl rfl rfl rfl fun f hf => by cases f <;> first | rfl | simp at hf
    exact State.Evolves.refl _ _
  clear_value x1
  refine State.Evolves.ite ?_ ?_
  · refine State.Evolves.step ?_ (State.wr_evolves ..) rfl
    exact hx1
  · exact hx1

theorem State.gzWrite_evolves (s : State) (e : Nat) (x : GzSlot) (vals : List (Nat × Bool)) :
    State.Evolves [.attic, .cellar, .larder, .host, .meter] s (State.gzWrite s e x vals) := by
  unfold State.gzWrite
  extract_lets +onlyGivenNames x0
  clear_value x0
  extract_lets +onlyGivenNames x1
  refine State.Evolves.cut (fs := [.attic, .cellar, .larder, .host, .meter]) (r := s) (x := x1) ?_ fun hx1 => ?_
  · unfold x1
    refine State.Evolves.step ?_ (State.wrBytes_evolves ..) rfl
    exact State.Evolves.refl _ _
  clear_value x1
  refine State.Evolves.foldl ?_ ?_
  · exact hx1
  · intro t2 x3 ht2
    split
    · refine State.Evolves.ite ?_ ?_
      · refine State.Evolves.step ?_ (State.count_evolves ..) rfl
        refine State.Evolves.step ?_ (State.poison_evolves ..) rfl
        exact ht2
      · exact ht2

theorem State.gzWriteAll_evolves (s : State) (g : GzGroup) (e : Nat) (rows : List (List (Nat × Bool))) :
    State.Evolves [.attic, .cellar, .larder, .host, .meter] s (State.gzWriteAll s g e rows) := by
  unfold State.gzWriteAll
  refine State.Evolves.foldl ?_ ?_
  · exact State.Evolves.refl _ _
  · intro t0 x1 ht0
    split
    · refine State.Evolves.step ?_ (State.gzWrite_evolves ..) rfl
      exact ht0

theorem State.gzAmax_evolves (s : State) (n : Nat) (w : F32) (poison : Bool) :
    State.Evolves [.gz] s (State.gzAmax s n w poison) := by
  unfold State.gzAmax
  extract_lets +onlyGivenNames x0
  clear_value x0
  refine State.Evolves.ite ?_ ?_
  · exact State.Evolves.refl _ _
  · refine State.Evolves.upd (s := s) ?_ (State.tables_of rfl rfl rfl rfl rfl rfl rfl) rfl rfl rfl rfl rfl rfl rfl fun f hf => by cases f <;> first | rfl | simp at hf
    exact State.Evolves.refl _ _

theorem State.gzCopyGrain_evolves (s : State) (n : Nat) (grain : Nat) :
    State.Evolves [.attic, .cellar, .larder, .host, .meter, .gz] s (State.gzCopyGrain s n grain) := by
  unfold State.gzCopyGrain
  extract_lets +onlyGivenNames x0
  clear_value x0
  extract_lets +onlyGivenNames x1
  clear_value x1
  extract_lets +onlyGivenNames x2
  clear_value x2
  extract_lets +onlyGivenNames x3
  refine State.Evolves.cut (fs := [.attic, .cellar, .larder, .host, .meter, .gz]) (r := s) (x := x3) ?_ fun hx3 => ?_
  · unfold x3
    refine State.Evolves.step ?_ (State.gzWriteAll_evolves ..) rfl
    exact State.Evolves.refl _ _
  clear_value x3
  refine State.Evolves.foldl ?_ ?_
  · exact hx3
  · intro t4 x5 ht4
    split
    · refine State.Evolves.step ?_ (State.gzAmax_evolves ..) rfl
      exact ht4
    · exact ht4

theorem State.gzCopyFrozen_evolves (s : State) (n : Nat) :
    State.Evolves [.attic, .cellar, .larder, .host, .meter, .gz] s (State.gzCopyFrozen s n) := by
  unfold State.gzCopyFrozen
  refine State.Evolves.ite ?_ ?_
  · exact State.Evolves.refl _ _
  · extract_lets +onlyGivenNames x0
    clear_value x0
    extract_lets +onlyGivenNames x1
    refine State.Evolves.cut (fs := [.attic, .cellar, .larder, .host, .meter, .gz]) (r := s) (x := x1) ?_ fun hx1 => ?_
    · unfold x1
      refine State.Evolves.ite ?_ ?_
      · refine State.Evolves.step ?_ (State.count_evolves ..) rfl
        exact State.Evolves.refl _ _
      · exact State.Evolves.refl _ _
    clear_value x1
    refine State.Evolves.foldl ?_ ?_
    · exact hx1
    · intro t2 x3 ht2
      refine State.Evolves.step ?_ (State.gzCover_evolves ..) rfl
      refine State.Evolves.step ?_ (State.gzCopyGrain_evolves ..) rfl
      exact ht2

theorem State.setGzCore_evolves (s : State) (c : Nat) (x : GzCore) :
    State.Evolves [.gz] s (State.setGzCore s c x) := by
  unfold State.setGzCore
  refine State.Evolves.upd (s := s) ?_ (State.tables_of rfl rfl rfl rfl rfl rfl rfl) rfl rfl rfl rfl rfl rfl rfl fun f hf => by cases f <;> first | rfl | simp at hf
  exact State.Evolves.refl _ _

theorem State.gzCommit_evolves (s : State) (core : Nat) :
    State.Evolves [.attic, .cellar, .larder, .host, .meter, .bell, .gz] s (State.gzCommit s core) := by
  unfold State.gzCommit
  split
  · exact State.Evolves.refl _ _
  · refine State.Evolves.ite ?_ ?_
    · exact State.Evolves.refl _ _
    · extract_lets +onlyGivenNames x8
      clear_value x8
      extract_lets +onlyGivenNames x9
      clear_value x9
      extract_lets +onlyGivenNames x10
      clear_value x10
      extract_lets +onlyGivenNames x11
      refine State.Evolves.cut (fs := [.attic, .cellar, .larder, .host, .meter, .bell, .gz]) (r := s) (x := x11) ?_ fun hx11 => ?_
      · unfold x11
        refine State.Evolves.step ?_ (State.gzWriteAll_evolves ..) rfl
        exact State.Evolves.refl _ _
      clear_value x11
      extract_lets +onlyGivenNames x12
      refine State.Evolves.cut (fs := [.attic, .cellar, .larder, .host, .meter, .bell, .gz]) (r := s) (x := x12) ?_ fun hx12 => ?_
      · unfold x12
        refine State.Evolves.foldl ?_ ?_
        · exact hx11
        · intro t13 x14 ht13
          refine State.Evolves.step ?_ (State.gzAmax_evolves ..) rfl
          exact ht13
      clear_value x12
      extract_lets +onlyGivenNames x15
      clear_value x15
      extract_lets +onlyGivenNames x16
      refine State.Evolves.cut (fs := [.attic, .cellar, .larder, .host, .meter, .bell, .gz]) (r := s) (x := x16) ?_ fun hx16 => ?_
      · unfold x16
        refine State.Evolves.step ?_ (State.count_evolves ..) rfl
        refine State.Evolves.step ?_ (State.count_evolves ..) rfl
        refine State.Evolves.step ?_ (State.count_evolves ..) rfl
        refine State.Evolves.step ?_ (State.count_evolves ..) rfl
        refine State.Evolves.step ?_ (State.count_evolves ..) rfl
        refine State.Evolves.step ?_ (State.count_evolves ..) rfl
        exact hx12
      clear_value x16
      extract_lets +onlyGivenNames x17
      clear_value x17
      extract_lets +onlyGivenNames x18
      clear_value x18
      extract_lets +onlyGivenNames x19
      refine State.Evolves.cut (fs := [.attic, .cellar, .larder, .host, .meter, .bell, .gz]) (r := s) (x := x19) ?_ fun hx19 => ?_
      · unfold x19
        refine State.Evolves.ite ?_ ?_
        · refine State.Evolves.step ?_ (State.raise_evolves ..) rfl
          exact hx16
        · exact hx16
      clear_value x19
      extract_lets +onlyGivenNames x20
      refine State.Evolves.cut (fs := [.attic, .cellar, .larder, .host, .meter, .bell, .gz]) (r := s) (x := x20) ?_ fun hx20 => ?_
      · unfold x20
        refine State.Evolves.ite ?_ ?_
        · refine State.Evolves.step ?_ (State.raise_evolves ..) rfl
          exact hx19
        · exact hx19
      clear_value x20
      extract_lets +onlyGivenNames x21
      clear_value x21
      extract_lets +onlyGivenNames x22
      clear_value x22
      extract_lets +onlyGivenNames x23
      clear_value x23
      extract_lets +onlyGivenNames x24
      clear_value x24
      extract_lets +onlyGivenNames x25
      clear_value x25
      extract_lets +onlyGivenNames x26
      clear_value x26
      extract_lets +onlyGivenNames x27
      refine State.Evolves.cut (fs := [.attic, .cellar, .larder, .host, .meter, .bell, .gz]) (r := s) (x := x27) ?_ fun hx27 => ?_
      · unfold x27
        refine State.Evolves.step ?_ (State.setGzCore_evolves ..) rfl
        exact hx20
      clear_value x27
      refine State.Evolves.upd (s := x27) ?_ (State.tables_of rfl rfl rfl rfl rfl rfl rfl) rfl rfl rfl rfl rfl rfl rfl fun f hf => by cases f <;> first | rfl | simp at hf
      exact hx27

theorem State.gearStep_evolves (s : State) (e : Nat) (r : Num) :
    State.Evolves [.od, .captain, .stoker, .meter] s (State.gearStep s e r) := by
  unfold State.gearStep
  extract_lets +onlyGivenNames x0
  clear_value x0
  extract_lets +onlyGivenNames x1
  clear_value x1
  refine State.Evolves.ite ?_ ?_
  · exact State.Evolves.refl _ _
  · extract_lets +onlyGivenNames x2
    refine State.Evolves.cut (fs := [.od, .captain, .stoker, .meter]) (r := s) (x := x2) ?_ fun hx2 => ?_
    · unfold x2
      refine State.Evolves.step ?_ (State.count_evolves ..) rfl
      refine State.Evolves.step ?_ (State.setOd_evolves ..) rfl
      exact State.Evolves.refl _ _
    clear_value x2
    refine State.Evolves.ite ?_ ?_
    · exact hx2
    · extract_lets +onlyGivenNames x3
      clear_value x3
      extract_lets +onlyGivenNames x4
      clear_value x4
      extract_lets +onlyGivenNames x5
      clear_value x5
      extract_lets +onlyGivenNames x6
      clear_value x6
      refine State.Evolves.ite ?_ ?_
      · refine State.Evolves.step ?_ (State.count_evolves ..) rfl
        exact hx2
      · extract_lets +onlyGivenNames x7
        refine State.Evolves.cut (fs := [.od, .captain, .stoker, .meter]) (r := s) (x := x7) ?_ fun hx7 => ?_
        · unfold x7
          refine State.Evolves.step ?_ (State.count_evolves ..) rfl
          refine State.Evolves.step ?_ (State.setCap_evolves ..) rfl
          exact hx2
        clear_value x7
        extract_lets +onlyGivenNames x8
        clear_value x8
        refine State.Evolves.ite ?_ ?_
        · exact hx7
        · refine State.Evolves.step ?_ (State.setStk_evolves ..) rfl
          exact hx7

theorem State.moveGears_evolves (s : State) (l : Letter) :
    State.Evolves [.od, .captain, .stoker, .domains, .meter, .bell] s (State.moveGears s l) := by
  unfold State.moveGears
  extract_lets +onlyGivenNames x0
  clear_value x0
  extract_lets +onlyGivenNames x1
  refine State.Evolves.cut (fs := [.od, .captain, .stoker, .domains, .meter, .bell]) (r := s) (x := x1) ?_ fun hx1 => ?_
  · unfold x1
    refine State.Evolves.step ?_ (State.setOd_evolves ..) rfl
    exact State.Evolves.refl _ _
  clear_value x1
  extract_lets +onlyGivenNames x2
  refine State.Evolves.cut (fs := [.od, .captain, .stoker, .domains, .meter, .bell]) (r := s) (x := x2) ?_ fun hx2 => ?_
  · unfold x2
    refine State.Evolves.foldl ?_ ?_
    · exact hx1
    · intro t3 x4 ht3
      split
      · split
        · exact ht3
        · refine State.Evolves.step ?_ (State.gearStep_evolves ..) rfl
          exact ht3
  clear_value x2
  extract_lets +onlyGivenNames x15
  clear_value x15
  extract_lets +onlyGivenNames x16
  refine State.Evolves.cut (fs := [.od, .captain, .stoker, .domains, .meter, .bell]) (r := s) (x := x16) ?_ fun hx16 => ?_
  · unfold x16
    refine State.Evolves.step ?_ (State.setDomain_evolves ..) rfl
    exact hx2
  clear_value x16
  refine State.Evolves.ite ?_ ?_
  · refine State.Evolves.step ?_ (State.raise_evolves ..) rfl
    exact hx16
  · exact hx16

theorem State.gzLatch_evolves (s : State) (l : Letter) :
    State.Evolves [.od, .captain, .stoker, .domains, .meter, .bell, .gz] s (State.gzLatch s l) := by
  unfold State.gzLatch
  extract_lets +onlyGivenNames x0
  refine State.Evolves.cut (fs := [.od, .captain, .stoker, .domains, .meter, .bell, .gz]) (r := s) (x := x0) ?_ fun hx0 => ?_
  · unfold x0
    refine State.Evolves.step ?_ (State.moveGears_evolves ..) rfl
    exact State.Evolves.refl _ _
  clear_value x0
  extract_lets +onlyGivenNames x1
  clear_value x1
  extract_lets +onlyGivenNames x2
  clear_value x2
  refine State.Evolves.upd (s := x0) ?_ (State.tables_of rfl rfl rfl rfl rfl rfl rfl) rfl rfl rfl rfl rfl rfl rfl fun f hf => by cases f <;> first | rfl | simp at hf
  exact hx0

theorem State.setGzRegs_evolves (s : State) (r : GzRegs) :
    State.Evolves [.gz] s (State.setGzRegs s r) := by
  unfold State.setGzRegs
  refine State.Evolves.upd (s := s) ?_ (State.tables_of rfl rfl rfl rfl rfl rfl rfl) rfl rfl rfl rfl rfl rfl rfl fun f hf => by cases f <;> first | rfl | simp at hf
  exact State.Evolves.refl _ _

theorem State.gzExec_evolves (s : State) (core : Nat) (op : Nat) :
    State.Evolves [.gz] s (State.gzExec s core op) := by
  unfold State.gzExec
  split
  · exact State.Evolves.refl _ _
  · refine State.Evolves.ite ?_ ?_
    · exact State.Evolves.refl _ _
    · extract_lets +onlyGivenNames x8
      clear_value x8
      extract_lets +onlyGivenNames x9
      clear_value x9
      extract_lets +onlyGivenNames x10
      clear_value x10
      extract_lets +onlyGivenNames x11
      refine State.Evolves.ite ?_ ?_
      · extract_lets +onlyGivenNames x12
        clear_value x12
        unfold x11
        refine State.Evolves.step ?_ (State.setGzCore_evolves ..) rfl
        refine State.Evolves.step ?_ (State.setGzRegs_evolves ..) rfl
        exact State.Evolves.refl _ _
      · refine State.Evolves.ite ?_ ?_
        · extract_lets +onlyGivenNames x13
          clear_value x13
          refine State.Evolves.step ?_ (State.setGzCore_evolves ..) rfl
          exact State.Evolves.refl _ _
        · refine State.Evolves.ite ?_ ?_
          · unfold x11
            refine State.Evolves.step ?_ (State.setGzCore_evolves ..) rfl
            refine State.Evolves.step ?_ (State.setGzRegs_evolves ..) rfl
            exact State.Evolves.refl _ _
          · refine State.Evolves.ite ?_ ?_
            · unfold x11
              refine State.Evolves.step ?_ (State.setGzCore_evolves ..) rfl
              refine State.Evolves.step ?_ (State.setGzRegs_evolves ..) rfl
              exact State.Evolves.refl _ _
            · extract_lets +onlyGivenNames x14
              clear_value x14
              unfold x11
              refine State.Evolves.step ?_ (State.setGzCore_evolves ..) rfl
              refine State.Evolves.step ?_ (State.setGzRegs_evolves ..) rfl
              exact State.Evolves.refl _ _

theorem State.gzLd_evolves (s : State) (core : Nat) (ecc : Nat) (sec : Nat) :
    State.Evolves [.od, .meter, .freeCtr, .bell, .gz] s (State.gzLd s core ecc sec) := by
  unfold State.gzLd
  split
  · exact State.Evolves.refl _ _
  · refine State.Evolves.ite ?_ ?_
    · exact State.Evolves.refl _ _
    · refine State.Evolves.ite ?_ ?_
      · refine State.Evolves.step ?_ (State.count_evolves ..) rfl
        refine State.Evolves.step ?_ (State.gzExec_evolves ..) rfl
        exact State.Evolves.refl _ _
      · refine State.Evolves.ite ?_ ?_
        · extract_lets +onlyGivenNames x8
          clear_value x8
          refine State.Evolves.step ?_ (State.sramUe_evolves ..) rfl
          refine State.Evolves.step ?_ (State.gzExec_evolves ..) rfl
          refine State.Evolves.step ?_ (State.setGzCore_evolves ..) rfl
          exact State.Evolves.refl _ _
        · refine State.Evolves.step ?_ (State.gzExec_evolves ..) rfl
          exact State.Evolves.refl _ _

theorem State.gzComplete_evolves (s : State) (c : QCtx) (l : Letter) (late : Bool) (tick : Nat) :
    State.Evolves [.attic, .cellar, .larder, .host, .od, .meter, .lb, .bell, .gz, .ex] s (State.gzComplete s c l late tick) := by
  unfold State.gzComplete
  refine State.Evolves.step ?_ (State.settle_evolves ..) rfl
  refine State.Evolves.step ?_ (State.finish_evolves ..) rfl
  exact State.Evolves.refl _ _

theorem State.gzDeal_evolves (s : State) (core : Nat) (key : Nat) :
    State.Evolves [.gz] s (State.gzDeal s core key) := by
  unfold State.gzDeal
  extract_lets +onlyGivenNames x0
  clear_value x0
  extract_lets +onlyGivenNames x1
  clear_value x1
  extract_lets +onlyGivenNames x2
  clear_value x2
  refine State.Evolves.step ?_ (State.setGzCore_evolves ..) rfl
  exact State.Evolves.refl _ _

theorem State.gzDealAll_evolves (s : State) (n : Nat) : State.Evolves [.gz] s (State.gzDealAll s n) := by
  induction n generalizing s with
  | zero => exact State.Evolves.refl _ _
  | succ n ih =>
    unfold State.gzDealAll
    split
    · refine State.Evolves.step ?_ (ih _) rfl
      refine State.Evolves.step ?_ (State.gzDeal_evolves ..) rfl
      refine State.Evolves.upd (s := s) (State.Evolves.refl _ _) (State.tables_of rfl rfl rfl rfl rfl rfl rfl) rfl rfl rfl rfl rfl rfl rfl fun f hf => by cases f <;> first | rfl | simp at hf
    · exact State.Evolves.refl _ _

theorem State.gzClose_evolves (s : State) (q : Nat) (seq : Nat) (l : Letter) :
    State.Evolves [.attic, .cellar, .larder, .host, .od, .meter, .gz, .ex] s (State.gzClose s q seq l) := by
  unfold State.gzClose
  extract_lets +onlyGivenNames x0
  clear_value x0
  extract_lets +onlyGivenNames x1
  refine State.Evolves.cut (fs := [.attic, .cellar, .larder, .host, .od, .meter, .gz, .ex]) (r := s) (x := x1) ?_ fun hx1 => ?_
  · unfold x1
    refine State.Evolves.foldl ?_ ?_
    · exact State.Evolves.refl _ _
    · intro t2 x3 ht2
      refine State.Evolves.step ?_ (State.gzCopyFrozen_evolves ..) rfl
      exact ht2
  clear_value x1
  extract_lets +onlyGivenNames x4
  refine State.Evolves.cut (fs := [.attic, .cellar, .larder, .host, .od, .meter, .gz, .ex]) (r := s) (x := x4) ?_ fun hx4 => ?_
  · unfold x4
    refine State.Evolves.foldl ?_ ?_
    · exact hx1
    · intro t5 x6 ht5
      extract_lets +onlyGivenNames x7
      clear_value x7
      refine State.Evolves.step ?_ (State.wr_evolves ..) rfl
      exact ht5
  clear_value x4
  extract_lets +onlyGivenNames x8
  clear_value x8
  extract_lets +onlyGivenNames x9
  refine State.Evolves.cut (fs := [.attic, .cellar, .larder, .host, .od, .meter, .gz, .ex]) (r := s) (x := x9) ?_ fun hx9 => ?_
  · unfold x9
    refine State.Evolves.ite ?_ ?_
    · exact hx4
    · refine State.Evolves.step ?_ (State.wrBytes_evolves ..) rfl
      exact hx4
  clear_value x9
  extract_lets +onlyGivenNames x10
  clear_value x10
  extract_lets +onlyGivenNames x11
  clear_value x11
  extract_lets +onlyGivenNames x12
  clear_value x12
  extract_lets +onlyGivenNames x13
  refine State.Evolves.cut (fs := [.attic, .cellar, .larder, .host, .od, .meter, .gz, .ex]) (r := s) (x := x13) ?_ fun hx13 => ?_
  · unfold x13
    refine State.Evolves.step ?_ (State.wr_evolves ..) rfl
    exact hx9
  clear_value x13
  extract_lets +onlyGivenNames x14
  refine State.Evolves.cut (fs := [.attic, .cellar, .larder, .host, .od, .meter, .gz, .ex]) (r := s) (x := x14) ?_ fun hx14 => ?_
  · unfold x14
    refine State.Evolves.step ?_ (State.count_evolves ..) rfl
    refine State.Evolves.step ?_ (State.setOd_evolves ..) rfl
    exact hx13
  clear_value x14
  extract_lets +onlyGivenNames x15
  clear_value x15
  extract_lets +onlyGivenNames x16
  refine State.Evolves.cut (fs := [.attic, .cellar, .larder, .host, .od, .meter, .gz, .ex]) (r := s) (x := x16) ?_ fun hx16 => ?_
  · unfold x16
    refine State.Evolves.upd (s := x14) ?_ (State.tables_of rfl rfl rfl rfl rfl rfl rfl) rfl rfl rfl rfl rfl rfl rfl fun f hf => by cases f <;> first | rfl | simp at hf
    exact hx14
  clear_value x16
  extract_lets +onlyGivenNames x17
  clear_value x17
  refine State.Evolves.upd (s := x16) ?_ (State.tables_of rfl rfl rfl rfl rfl rfl rfl) rfl rfl rfl rfl rfl rfl rfl fun f hf => by cases f <;> first | rfl | simp at hf
  exact hx16

theorem State.gzBody_evolves (s : State) (core : Nat) :
    State.Evolves [.gz] s (State.gzBody s core) := by
  unfold State.gzBody
  split
  · exact State.Evolves.refl _ _
  · refine State.Evolves.ite ?_ ?_
    · exact State.Evolves.refl _ _
    · extract_lets +onlyGivenNames x8
      clear_value x8
      refine State.Evolves.step ?_ (State.setGzCore_evolves ..) rfl
      refine State.Evolves.step ?_ (State.setGzRegs_evolves ..) rfl
      exact State.Evolves.refl _ _

theorem State.gzMemError_evolves (s : State) (mem : Nat) (n : Nat) :
    State.Evolves [.od, .meter, .freeCtr, .bell, .gz] s (State.gzMemError s mem n) := by
  unfold State.gzMemError
  split
  · refine State.Evolves.step ?_ (State.count_evolves ..) rfl
    exact State.Evolves.refl _ _
  · refine State.Evolves.step ?_ (State.sramUe_evolves ..) rfl
    refine State.Evolves.upd (s := s) ?_ (State.tables_of rfl rfl rfl rfl rfl rfl rfl) rfl rfl rfl rfl rfl rfl rfl fun f hf => by cases f <;> first | rfl | simp at hf
    exact State.Evolves.refl _ _
  · refine State.Evolves.step ?_ (State.sramUe_evolves ..) rfl
    refine State.Evolves.upd (s := s) ?_ (State.tables_of rfl rfl rfl rfl rfl rfl rfl) rfl rfl rfl rfl rfl rfl rfl fun f hf => by cases f <;> first | rfl | simp at hf
    exact State.Evolves.refl _ _
  · exact State.Evolves.refl _ _

theorem State.grainDone_evolves (s : State) (core : Nat) (cycles : Nat) (mem : Nat) :
    State.Evolves [.attic, .cellar, .larder, .host, .od, .meter, .freeCtr, .lb, .bell, .gz, .ex] s (State.grainDone s core cycles mem) := by
  unfold State.grainDone
  extract_lets +onlyGivenNames x0
  clear_value x0
  split
  · exact State.Evolves.refl _ _
  · refine State.Evolves.ite ?_ ?_
    · exact State.Evolves.refl _ _
    · extract_lets +onlyGivenNames x7
      clear_value x7
      refine State.Evolves.ite ?_ ?_
      · exact State.Evolves.refl _ _
      · extract_lets +onlyGivenNames x8
        refine State.Evolves.cut (fs := [.attic, .cellar, .larder, .host, .od, .meter, .freeCtr, .lb, .bell, .gz, .ex]) (r := s) (x := x8) ?_ fun hx8 => ?_
        · unfold x8
          refine State.Evolves.ite ?_ ?_
          · refine State.Evolves.step ?_ (State.gzCopyGrain_evolves ..) rfl
            exact State.Evolves.refl _ _
          · exact State.Evolves.refl _ _
        clear_value x8
        extract_lets +onlyGivenNames x9
        refine State.Evolves.cut (fs := [.attic, .cellar, .larder, .host, .od, .meter, .freeCtr, .lb, .bell, .gz, .ex]) (r := s) (x := x9) ?_ fun hx9 => ?_
        · unfold x9
          refine State.Evolves.step ?_ (State.gzMemError_evolves ..) rfl
          exact hx8
        clear_value x9
        extract_lets +onlyGivenNames x10
        refine State.Evolves.cut (fs := [.attic, .cellar, .larder, .host, .od, .meter, .freeCtr, .lb, .bell, .gz, .ex]) (r := s) (x := x10) ?_ fun hx10 => ?_
        · unfold x10
          refine State.Evolves.step ?_ (State.count_evolves ..) rfl
          refine State.Evolves.step ?_ (State.gzCover_evolves ..) rfl
          exact hx9
        clear_value x10
        extract_lets +onlyGivenNames x11
        clear_value x11
        extract_lets +onlyGivenNames x12
        refine State.Evolves.cut (fs := [.attic, .cellar, .larder, .host, .od, .meter, .freeCtr, .lb, .bell, .gz, .ex]) (r := s) (x := x12) ?_ fun hx12 => ?_
        · unfold x12
          refine State.Evolves.upd (s := x10) ?_ (State.tables_of rfl rfl rfl rfl rfl rfl rfl) rfl rfl rfl rfl rfl rfl rfl fun f hf => by cases f <;> first | rfl | simp at hf
          exact hx10
        clear_value x12
        extract_lets +onlyGivenNames x13
        refine State.Evolves.cut (fs := [.attic, .cellar, .larder, .host, .od, .meter, .freeCtr, .lb, .bell, .gz, .ex]) (r := s) (x := x13) ?_ fun hx13 => ?_
        · unfold x13
          refine State.Evolves.step ?_ (State.gzDealAll_evolves ..) rfl
          refine State.Evolves.step ?_ (State.setGzCore_evolves ..) rfl
          exact hx12
        clear_value x13
        refine State.Evolves.ite ?_ ?_
        · exact hx13
        · split
          · exact hx13
          · split
            · exact hx13
            · refine State.Evolves.step ?_ (State.settle_evolves ..) rfl
              refine State.Evolves.step ?_ (State.finish_evolves ..) rfl
              refine State.Evolves.step ?_ (State.dropOp_evolves ..) rfl
              exact hx13

theorem State.gzTake_evolves (s : State) (c : QCtx) :
    State.Evolves [.attic, .cellar, .larder, .host, .od, .meter, .lb] s (State.gzTake s c).1 := by
  unfold State.gzTake
  extract_lets +onlyGivenNames x0
  clear_value x0
  extract_lets +onlyGivenNames x1
  refine State.Evolves.cut (fs := [.attic, .cellar, .larder, .host, .od, .meter, .lb]) (r := s) (x := x1) ?_ fun hx1 => ?_
  · unfold x1
    refine State.Evolves.step ?_ (State.demand_evolves ..) rfl
    refine State.Evolves.step ?_ (State.advanceHead_evolves ..) rfl
    exact State.Evolves.refl _ _
  clear_value x1
  dsimp only
  refine State.Evolves.step ?_ (State.count_evolves ..) rfl
  refine State.Evolves.ite ?_ ?_
  · refine State.Evolves.step ?_ (State.noteLate_evolves ..) rfl
    exact hx1
  · exact hx1

theorem State.gzInstall_evolves (s : State) (img : List Byte) :
    State.Evolves [.od, .gz] s (State.gzInstall s img) := by
  unfold State.gzInstall
  extract_lets +onlyGivenNames x0
  clear_value x0
  extract_lets +onlyGivenNames x1
  clear_value x1
  refine State.Evolves.step ?_ (State.setOd_evolves ..) rfl
  refine State.Evolves.upd (s := s) ?_ (State.tables_of rfl rfl rfl rfl rfl rfl rfl) rfl rfl rfl rfl rfl rfl rfl fun f hf => by cases f <;> first | rfl | simp at hf
  exact State.Evolves.refl _ _

theorem State.gzQuant_evolves (s : State) (l : Letter) (a : TDesc) (d : TDesc) :
    State.Evolves [.attic, .cellar, .larder, .host, .meter, .freeCtr] s (State.gzQuant s l a d) := by
  unfold State.gzQuant
  split
  · exact State.Evolves.refl _ _
  · split
    · extract_lets +onlyGivenNames x14
      clear_value x14
      extract_lets +onlyGivenNames x15
      clear_value x15
      extract_lets +onlyGivenNames x16
      clear_value x16
      extract_lets +onlyGivenNames x17
      refine State.Evolves.cut (fs := [.attic, .cellar, .larder, .host, .meter, .freeCtr]) (r := s) (x := x17) ?_ fun hx17 => ?_
      · unfold x17
        split
        · exact State.Evolves.refl _ _
        · refine State.Evolves.step ?_ (State.wr_evolves ..) rfl
          exact State.Evolves.refl _ _
      clear_value x17
      extract_lets +onlyGivenNames x39
      refine State.Evolves.cut (fs := [.attic, .cellar, .larder, .host, .meter, .freeCtr]) (r := s) (x := x39) ?_ fun hx39 => ?_
      · unfold x39
        refine State.Evolves.step ?_ (State.wrMarked_evolves ..) rfl
        exact hx17
      clear_value x39
      refine State.Evolves.step ?_ (State.count_evolves ..) rfl
      refine State.Evolves.step ?_ (State.count_evolves ..) rfl
      exact hx39.draw _ (by omega) rfl

theorem State.lateAct_evolves (s : State) (g : Nat) (tag : Nat) (c : Nat) (count : Nat) (pfmt : Nat) (step : Nat) (b : List Byte) :
    State.Evolves [.attic, .cellar, .larder, .host, .meter] s (State.lateAct s g tag c count pfmt step b) := by
  unfold State.lateAct
  extract_lets +onlyGivenNames x0
  refine State.Evolves.cut (fs := [.attic, .cellar, .larder, .host, .meter]) (r := s) (x := x0) ?_ fun hx0 => ?_
  · unfold x0
    refine State.Evolves.step ?_ (State.count_evolves ..) rfl
    exact State.Evolves.refl _ _
  clear_value x0
  split
  · exact hx0
  · split
    · exact hx0
    · extract_lets +onlyGivenNames x17
      clear_value x17
      refine State.Evolves.ite ?_ ?_
      · exact hx0
      · refine State.Evolves.ite ?_ ?_
        · refine State.Evolves.step ?_ (State.count_evolves ..) rfl
          exact State.Evolves.refl _ _
        · extract_lets +onlyGivenNames x18
          clear_value x18
          extract_lets +onlyGivenNames x19
          clear_value x19
          extract_lets +onlyGivenNames x20
          clear_value x20
          refine State.Evolves.step ?_ (State.count_evolves ..) rfl
          refine State.Evolves.step ?_ (State.wr_evolves ..) rfl
          refine State.Evolves.step ?_ (State.wrCells_evolves ..) rfl
          exact State.Evolves.refl _ _

theorem State.lateFrame_evolves (s : State) (h : Nat) (c : Nat) (b : List Byte) (poison : Bool) :
    State.Evolves [.attic, .cellar, .larder, .host, .meter, .pel] s (State.lateFrame s h c b poison) := by
  unfold State.lateFrame
  extract_lets +onlyGivenNames x0
  clear_value x0
  extract_lets +onlyGivenNames x1
  clear_value x1
  extract_lets +onlyGivenNames x2
  clear_value x2
  extract_lets +onlyGivenNames x3
  clear_value x3
  extract_lets +onlyGivenNames x4
  clear_value x4
  refine State.Evolves.ite ?_ ?_
  · extract_lets +onlyGivenNames x5
    clear_value x5
    extract_lets +onlyGivenNames x6
    refine State.Evolves.cut (fs := [.attic, .cellar, .larder, .host, .meter, .pel]) (r := s) (x := x6) ?_ fun hx6 => ?_
    · unfold x6
      refine State.Evolves.upd (s := s) ?_ (State.tables_of rfl rfl rfl rfl rfl rfl rfl) rfl rfl rfl rfl rfl rfl rfl fun f hf => by cases f <;> first | rfl | simp at hf
      exact State.Evolves.refl _ _
    clear_value x6
    refine State.Evolves.ite ?_ ?_
    · refine State.Evolves.step ?_ (State.count_evolves ..) rfl
      exact hx6
    · refine State.Evolves.step ?_ (State.lateAct_evolves ..) rfl
      exact hx6
  · refine State.Evolves.upd (s := s) ?_ (State.tables_of rfl rfl rfl rfl rfl rfl rfl) rfl rfl rfl rfl rfl rfl rfl fun f hf => by cases f <;> first | rfl | simp at hf
    exact State.Evolves.refl _ _

theorem State.plSend_evolves (s : State) (ports : List Nat) (c : Nat) (dst : Nat) (f : Nat × List Byte) :
    State.Evolves [.meter, .sent] s (State.plSend s ports c dst f) := by
  unfold State.plSend
  split
  · exact State.Evolves.refl _ _
  · refine State.Evolves.ite ?_ ?_
    · exact State.Evolves.refl _ _
    · refine State.Evolves.step ?_ (State.count_evolves ..) rfl
      refine State.Evolves.step ?_ (State.send_evolves ..) rfl
      exact State.Evolves.refl _ _

theorem State.setRun_evolves (s : State) (r : PlRun) :
    State.Evolves [.pel] s (State.setRun s r) := by
  unfold State.setRun
  refine State.Evolves.upd (s := s) ?_ (State.tables_of rfl rfl rfl rfl rfl rfl rfl) rfl rfl rfl rfl rfl rfl rfl fun f hf => by cases f <;> first | rfl | simp at hf
  exact State.Evolves.refl _ _

theorem State.modRun_evolves (s : State) (slot : Nat) (f : PlRun → PlRun) :
    State.Evolves [.pel] s (State.modRun s slot f) := by
  unfold State.modRun
  split
  · exact State.Evolves.refl _ _
  · refine State.Evolves.step ?_ (State.setRun_evolves ..) rfl
    exact State.Evolves.refl _ _

theorem State.tally_evolves (s : State) (slot : Nat) (f : PlTally → PlTally) :
    State.Evolves [.pel] s (State.tally s slot f) := by
  unfold State.tally
  refine State.Evolves.step ?_ (State.modRun_evolves ..) rfl
  exact State.Evolves.refl _ _

theorem State.lateInput_evolves (s : State) (r : PlRun) (h : Nat) (o : Nat) (c : Nat) (b : List Byte) (poison : Bool) :
    State.Evolves [.attic, .cellar, .larder, .host, .meter, .sent, .pel] s (State.lateInput s r h o c b poison) := by
  unfold State.lateInput
  refine State.Evolves.ite ?_ ?_
  · refine State.Evolves.step ?_ (State.lateFrame_evolves ..) rfl
    exact State.Evolves.refl _ _
  · refine State.Evolves.ite ?_ ?_
    · refine State.Evolves.step ?_ (State.count_evolves ..) rfl
      exact State.Evolves.refl _ _
    · refine State.Evolves.ite ?_ ?_
      · refine State.Evolves.step ?_ (State.count_evolves ..) rfl
        exact State.Evolves.refl _ _
      · extract_lets +onlyGivenNames x0
        clear_value x0
        extract_lets +onlyGivenNames x1
        refine State.Evolves.cut (fs := [.attic, .cellar, .larder, .host, .meter, .sent, .pel]) (r := s) (x := x1) ?_ fun hx1 => ?_
        · unfold x1
          refine State.Evolves.step ?_ (State.plSend_evolves ..) rfl
          exact State.Evolves.refl _ _
        clear_value x1
        refine State.Evolves.ite ?_ ?_
        · refine State.Evolves.step ?_ (State.tally_evolves ..) rfl
          exact hx1
        · exact hx1

theorem State.grantCredit_evolves (s : State) (r : PlRun) (m : Nat) :
    State.Evolves [.meter, .sent, .pel] s (State.grantCredit s r m) := by
  unfold State.grantCredit
  extract_lets +onlyGivenNames x0
  clear_value x0
  extract_lets +onlyGivenNames x1
  clear_value x1
  extract_lets +onlyGivenNames x2
  refine State.Evolves.cut (fs := [.meter, .sent, .pel]) (r := s) (x := x2) ?_ fun hx2 => ?_
  · unfold x2
    refine State.Evolves.upd (s := s) ?_ (State.tables_of rfl rfl rfl rfl rfl rfl rfl) rfl rfl rfl rfl rfl rfl rfl fun f hf => by cases f <;> first | rfl | simp at hf
    exact State.Evolves.refl _ _
  clear_value x2
  refine State.Evolves.step ?_ (State.plSend_evolves ..) rfl
  exact hx2

theorem State.grantTwo_evolves (s : State) (r : PlRun) (m : Nat) :
    State.Evolves [.meter, .sent, .pel] s (State.grantTwo s r m) := by
  unfold State.grantTwo
  extract_lets +onlyGivenNames x0
  clear_value x0
  extract_lets +onlyGivenNames x1
  refine State.Evolves.cut (fs := [.meter, .sent, .pel]) (r := s) (x := x1) ?_ fun hx1 => ?_
  · unfold x1
    refine State.Evolves.ite ?_ ?_
    · refine State.Evolves.step ?_ (State.grantCredit_evolves ..) rfl
      exact State.Evolves.refl _ _
    · exact State.Evolves.refl _ _
  clear_value x1
  extract_lets +onlyGivenNames x2
  refine State.Evolves.cut (fs := [.meter, .sent, .pel]) (r := s) (x := x2) ?_ fun hx2 => ?_
  · unfold x2
    refine State.Evolves.ite ?_ ?_
    · refine State.Evolves.step ?_ (State.grantCredit_evolves ..) rfl
      exact hx1
    · exact hx1
  clear_value x2
  refine State.Evolves.step ?_ (State.modRun_evolves ..) rfl
  exact hx2

theorem State.plAdvance_evolves (s : State) (slot : Nat) :
    State.Evolves [.meter, .sent, .pel] s (State.plAdvance s slot) := by
  unfold State.plAdvance
  split
  · exact State.Evolves.refl _ _
  · refine State.Evolves.ite ?_ ?_
    · exact State.Evolves.refl _ _
    · split
      · exact State.Evolves.refl _ _
      · extract_lets +onlyGivenNames x17
        clear_value x17
        refine State.Evolves.foldl ?_ ?_
        · exact State.Evolves.refl _ _
        · intro t18 x19 ht18
          refine State.Evolves.ite ?_ ?_
          · refine State.Evolves.step ?_ (State.grantTwo_evolves ..) rfl
            exact ht18
          · exact ht18

theorem State.setItem_evolves (s : State) (it : PlItem) (keep : Bool) :
    State.Evolves [.pel] s (State.setItem s it keep) := by
  unfold State.setItem
  extract_lets +onlyGivenNames x0
  clear_value x0
  refine State.Evolves.upd (s := s) ?_ (State.tables_of rfl rfl rfl rfl rfl rfl rfl) rfl rfl rfl rfl rfl rfl rfl fun f hf => by cases f <;> first | rfl | simp at hf
  exact State.Evolves.refl _ _

theorem State.readOwn_evolves (s : State) (r : PlRun) (o : Nat) (c : Nat) :
    State.Evolves [.meter, .pel] s (State.readOwn s r o c).2 := by
  unfold State.readOwn
  extract_lets +onlyGivenNames x0
  clear_value x0
  extract_lets +onlyGivenNames x1
  refine State.Evolves.cut (fs := [.meter, .pel]) (r := s) (x := x1) ?_ fun hx1 => ?_
  · unfold x1
    refine State.Evolves.step ?_ (State.countDelivery_evolves ..) rfl
    exact State.Evolves.refl _ _
  clear_value x1
  extract_lets +onlyGivenNames x2
  clear_value x2
  extract_lets +onlyGivenNames x3
  clear_value x3
  split
  · exact hx1
  · extract_lets +onlyGivenNames x6
    refine State.Evolves.cut (fs := [.meter, .pel]) (r := s) (x := x6) ?_ fun hx6 => ?_
    · unfold x6
      refine State.Evolves.step ?_ (State.count_evolves ..) rfl
      exact hx1
    clear_value x6
    extract_lets +onlyGivenNames x7
    clear_value x7
    extract_lets +onlyGivenNames x8
    clear_value x8
    dsimp only
    refine State.Evolves.ite ?_ ?_
    · refine State.Evolves.upd (s := x6) ?_ (State.tables_of rfl rfl rfl rfl rfl rfl rfl) rfl rfl rfl rfl rfl rfl rfl fun f hf => by cases f <;> first | rfl | simp at hf
      exact hx6
    · exact hx6

theorem State.chunkFrames_evolves (s : State) (it : PlItem) (r : PlRun) :
    State.Evolves [.meter, .pel] s (State.chunkFrames s it r).2 := by
  unfold State.chunkFrames
  split
  · rename_i v0 v1 v2 e3
    refine State.Evolves.cut (fs := [.meter, .pel]) (r := s) (x := v2) (State.Evolves.eqv ?_ (congrArg (fun y => y.2) e3)) fun hv2 => ?_
    · refine State.Evolves.step ?_ (State.readOwn_evolves ..) rfl
      exact State.Evolves.refl _ _
    split
    · split
      · exact hv2
      · dsimp only
        refine State.Evolves.step ?_ (State.tally_evolves ..) rfl
        exact hv2
    · exact hv2

theorem State.readItem_evolves (s : State) (it : PlItem) :
    State.Evolves [.meter, .pel] s (State.readItem s it) := by
  unfold State.readItem
  split
  · refine State.Evolves.step ?_ (State.setItem_evolves ..) rfl
    exact State.Evolves.refl _ _
  · split
    · rename_i v5 v6 e7 v8 v9 v10 e11
      refine State.Evolves.cut (fs := [.meter, .pel]) (r := s) (x := v10) (State.Evolves.eqv ?_ (congrArg (fun y => y.2) e11)) fun hv10 => ?_
      · refine State.Evolves.step ?_ (State.chunkFrames_evolves ..) rfl
        exact State.Evolves.refl _ _
      refine State.Evolves.step ?_ (State.setItem_evolves ..) rfl
      exact hv10

theorem State.plSettle_evolves (s : State) (slot : Nat) :
    State.Evolves [.meter, .lb, .porch, .pel] s (State.plSettle s slot) := by
  unfold State.plSettle
  split
  · exact State.Evolves.refl _ _
  · refine State.Evolves.ite ?_ ?_
    · extract_lets +onlyGivenNames x5
      refine State.Evolves.cut (fs := [.meter, .lb, .porch, .pel]) (r := s) (x := x5) ?_ fun hx5 => ?_
      · unfold x5
        refine State.Evolves.foldl ?_ ?_
        · exact State.Evolves.refl _ _
        · intro t6 x7 ht6
          refine State.Evolves.step ?_ (State.readItem_evolves ..) rfl
          exact ht6
      clear_value x5
      split
      · exact hx5
      · refine State.Evolves.step ?_ (State.releaseReads_evolves ..) rfl
        refine State.Evolves.step ?_ (State.setOp_evolves ..) rfl
        exact hx5
    · exact State.Evolves.refl _ _

theorem State.noteSources_evolves (s : State) (slot : Nat) (part : Bool) (ms : List (Nat × SrcState)) :
    State.Evolves [.meter, .pel] s (State.noteSources s slot part ms) := by
  unfold State.noteSources
  refine State.Evolves.foldl ?_ ?_
  · exact State.Evolves.refl _ _
  · intro t0 x1 ht0
    split
    · split
      · refine State.Evolves.step ?_ (State.count_evolves ..) rfl
        refine State.Evolves.step ?_ (State.tally_evolves ..) rfl
        refine State.Evolves.step ?_ (State.modRun_evolves ..) rfl
        exact ht0
      · refine State.Evolves.ite ?_ ?_
        · extract_lets +onlyGivenNames x12
          refine State.Evolves.cut (fs := [.meter, .pel]) (r := s) (x := x12) ?_ fun hx12 => ?_
          · unfold x12
            refine State.Evolves.step ?_ (State.modRun_evolves ..) rfl
            exact ht0
          clear_value x12
          refine State.Evolves.ite ?_ ?_
          · exact hx12
          · refine State.Evolves.step ?_ (State.count_evolves ..) rfl
            exact hx12
        · refine State.Evolves.ite ?_ ?_
          · refine State.Evolves.step ?_ (State.count_evolves ..) rfl
            exact ht0
          · exact ht0
      · exact ht0

theorem State.writeChunk_evolves (s : State) (r : PlRun) (c : Nat) (own : List Nat × Nat) (ms : List (Nat × SrcState)) (torn : Bool) :
    State.Evolves [.attic, .cellar, .larder, .host, .meter, .pel] s (State.writeChunk s r c own ms torn) := by
  unfold State.writeChunk
  split
  · exact State.Evolves.refl _ _
  · extract_lets +onlyGivenNames x5
    clear_value x5
    extract_lets +onlyGivenNames x6
    clear_value x6
    extract_lets +onlyGivenNames x7
    clear_value x7
    split
    · extract_lets +onlyGivenNames x15
      clear_value x15
      extract_lets +onlyGivenNames x16
      clear_value x16
      extract_lets +onlyGivenNames x17
      refine State.Evolves.cut (fs := [.attic, .cellar, .larder, .host, .meter, .pel]) (r := s) (x := x17) ?_ fun hx17 => ?_
      · unfold x17
        refine State.Evolves.step ?_ (State.wr_evolves ..) rfl
        refine State.Evolves.step ?_ (State.wrCells_evolves ..) rfl
        exact State.Evolves.refl _ _
      clear_value x17
      extract_lets +onlyGivenNames x18
      refine State.Evolves.cut (fs := [.attic, .cellar, .larder, .host, .meter, .pel]) (r := s) (x := x18) ?_ fun hx18 => ?_
      · unfold x18
        split
        · exact hx17
        · refine State.Evolves.ite ?_ ?_
          · exact hx17
          · extract_lets +onlyGivenNames x38
            clear_value x38
            refine State.Evolves.step ?_ (State.wr_evolves ..) rfl
            exact hx17
      clear_value x18
      extract_lets +onlyGivenNames x39
      refine State.Evolves.cut (fs := [.attic, .cellar, .larder, .host, .meter, .pel]) (r := s) (x := x39) ?_ fun hx39 => ?_
      · unfold x39
        refine State.Evolves.ite ?_ ?_
        · refine State.Evolves.step ?_ (State.count_evolves ..) rfl
          exact hx18
        · exact hx18
      clear_value x39
      extract_lets +onlyGivenNames x40
      clear_value x40
      refine State.Evolves.step ?_ (State.tally_evolves ..) rfl
      exact hx39

theorem State.enqueue_evolves (s : State) (its : List PlItem) :
    State.Evolves [.pel] s (State.enqueue s its) := by
  unfold State.enqueue
  refine State.Evolves.upd (s := s) ?_ (State.tables_of rfl rfl rfl rfl rfl rfl rfl) rfl rfl rfl rfl rfl rfl rfl fun f hf => by cases f <;> first | rfl | simp at hf
  exact State.Evolves.refl _ _

theorem State.writeCode_evolves (s : State) (t : TDesc) (ls : List Nat) (code : Nat) :
    State.Evolves [.attic, .cellar, .larder, .host, .meter] s (State.writeCode s t ls code) := by
  unfold State.writeCode
  split
  · extract_lets +onlyGivenNames x5
    clear_value x5
    extract_lets +onlyGivenNames x6
    clear_value x6
    refine State.Evolves.step ?_ (State.wr_evolves ..) rfl
    exact State.Evolves.refl _ _

theorem State.writePart_evolves (s : State) (t : TDesc) (lss : List (List Nat)) (b : List Byte) :
    State.Evolves [.attic, .cellar, .larder, .host, .meter] s (State.writePart s t lss b) := by
  unfold State.writePart
  extract_lets +onlyGivenNames x0
  clear_value x0
  extract_lets +onlyGivenNames x1
  clear_value x1
  extract_lets +onlyGivenNames x2
  clear_value x2
  extract_lets +onlyGivenNames x3
  refine State.Evolves.cut (fs := [.attic, .cellar, .larder, .host, .meter]) (r := s) (x := x3) ?_ fun hx3 => ?_
  · unfold x3
    refine State.Evolves.foldl ?_ ?_
    · exact State.Evolves.refl _ _
    · intro t4 x5 ht4
      split
      · refine State.Evolves.step ?_ (State.wrBytes_evolves ..) rfl
        exact ht4
  clear_value x3
  refine State.Evolves.ite ?_ ?_
  · refine State.Evolves.step ?_ (State.wrCells_evolves ..) rfl
    exact hx3
  · extract_lets +onlyGivenNames x10
    clear_value x10
    refine State.Evolves.foldl ?_ ?_
    · exact hx3
    · intro t11 x12 ht11
      split
      · refine State.Evolves.step ?_ (State.writeCode_evolves ..) rfl
        exact ht11

theorem State.sendPart_evolves (s : State) (r : PlRun) (o : Nat) (c : Nat) (dsts : List Nat) (b : Option (List Byte)) :
    State.Evolves [.meter, .sent] s (State.sendPart s r o c dsts b) := by
  unfold State.sendPart
  refine State.Evolves.ite ?_ ?_
  · exact State.Evolves.refl _ _
  · refine State.Evolves.foldl ?_ ?_
    · exact State.Evolves.refl _ _
    · intro t0 x1 ht0
      refine State.Evolves.foldl ?_ ?_
      · exact ht0
      · intro t2 x3 ht2
        refine State.Evolves.step ?_ (State.plSend_evolves ..) rfl
        exact ht2

theorem State.plSendItem_evolves (s : State) (it : PlItem) :
    State.Evolves [.meter, .sent, .pel] s (State.plSendItem s it) := by
  unfold State.plSendItem
  split
  · refine State.Evolves.step ?_ (State.readItem_evolves ..) rfl
    exact State.Evolves.refl _ _
  · refine State.Evolves.step ?_ (State.setItem_evolves ..) rfl
    exact State.Evolves.refl _ _
  · extract_lets +onlyGivenNames x8
    clear_value x8
    extract_lets +onlyGivenNames x9
    clear_value x9
    extract_lets +onlyGivenNames x10
    refine State.Evolves.cut (fs := [.meter, .sent, .pel]) (r := s) (x := x10) ?_ fun hx10 => ?_
    · unfold x10
      refine State.Evolves.upd (s := s) ?_ (State.tables_of rfl rfl rfl rfl rfl rfl rfl) rfl rfl rfl rfl rfl rfl rfl fun f hf => by cases f <;> first | rfl | simp at hf
      exact State.Evolves.refl _ _
    clear_value x10
    refine State.Evolves.step ?_ (State.setItem_evolves ..) rfl
    refine State.Evolves.step ?_ (State.plSend_evolves ..) rfl
    exact hx10

theorem State.plPumpGo_evolves (s : State) (n : Nat) : State.Evolves [.meter, .sent, .pel] s (State.plPumpGo s n) := by
  induction n generalizing s with
  | zero => exact State.Evolves.refl _ _
  | succ n ih =>
    unfold State.plPumpGo
    split
    · exact State.Evolves.refl _ _
    · exact ((State.plSendItem_evolves ..).mono rfl).step (ih _) rfl

theorem State.plPump_evolves (s : State) :
    State.Evolves [.meter, .sent, .pel] s (State.plPump s) := by
  unfold State.plPump
  refine State.Evolves.step ?_ (State.plPumpGo_evolves ..) rfl
  exact State.Evolves.refl _ _

theorem State.plTry_evolves (s : State) (slot : Nat) (o : Nat) (c : Nat) (level : Nat) :
    State.Evolves [.attic, .cellar, .larder, .host, .meter, .sent, .pel] s (State.plTry s slot o c level) := by
  unfold State.plTry
  split
  · exact State.Evolves.refl _ _
  · split
    · exact State.Evolves.refl _ _
    · refine State.Evolves.ite ?_ ?_
      · exact State.Evolves.refl _ _
      · extract_lets +onlyGivenNames x16
        clear_value x16
        refine State.Evolves.ite ?_ ?_
        · exact State.Evolves.refl _ _
        · extract_lets +onlyGivenNames x17
          clear_value x17
          extract_lets +onlyGivenNames x18
          clear_value x18
          extract_lets +onlyGivenNames x19
          refine State.Evolves.cut (fs := [.attic, .cellar, .larder, .host, .meter, .sent, .pel]) (r := s) (x := x19) ?_ fun hx19 => ?_
          · unfold x19
            refine State.Evolves.step ?_ (State.noteSources_evolves ..) rfl
            refine State.Evolves.step ?_ (State.setRun_evolves ..) rfl
            exact State.Evolves.refl _ _
          clear_value x19
          extract_lets +onlyGivenNames x20
          refine State.Evolves.cut (fs := [.attic, .cellar, .larder, .host, .meter, .sent, .pel]) (r := s) (x := x20) ?_ fun hx20 => ?_
          · unfold x20
            refine State.Evolves.ite ?_ ?_
            · exact hx19
            · refine State.Evolves.step ?_ (State.writeChunk_evolves ..) rfl
              exact hx19
          clear_value x20
          extract_lets +onlyGivenNames x21
          clear_value x21
          extract_lets +onlyGivenNames x22
          clear_value x22
          extract_lets +onlyGivenNames x23
          clear_value x23
          extract_lets +onlyGivenNames x24
          refine State.Evolves.cut (fs := [.attic, .cellar, .larder, .host, .meter, .sent, .pel]) (r := s) (x := x24) ?_ fun hx24 => ?_
          · unfold x24
            refine State.Evolves.ite ?_ ?_
            · refine State.Evolves.step ?_ (State.count_evolves ..) rfl
              exact hx20
            · exact hx20
          clear_value x24
          extract_lets +onlyGivenNames x25
          clear_value x25
          extract_lets +onlyGivenNames x26
          refine State.Evolves.cut (fs := [.attic, .cellar, .larder, .host, .meter, .sent, .pel]) (r := s) (x := x26) ?_ fun hx26 => ?_
          · unfold x26
            refine State.Evolves.ite ?_ ?_
            · exact hx20
            · refine State.Evolves.ite ?_ ?_
              · refine State.Evolves.step ?_ (State.modRun_evolves ..) rfl
                exact hx24
              · refine State.Evolves.step ?_ (State.enqueue_evolves ..) rfl
                exact hx24
          clear_value x26
          extract_lets +onlyGivenNames x27
          clear_value x27
          extract_lets +onlyGivenNames x28
          refine State.Evolves.cut (fs := [.attic, .cellar, .larder, .host, .meter, .sent, .pel]) (r := s) (x := x28) ?_ fun hx28 => ?_
          · unfold x28
            split
            · refine State.Evolves.step ?_ (State.writePart_evolves ..) rfl
              exact hx26
            · refine State.Evolves.step ?_ (State.tally_evolves ..) rfl
              exact hx26
          clear_value x28
          extract_lets +onlyGivenNames x51
          refine State.Evolves.cut (fs := [.attic, .cellar, .larder, .host, .meter, .sent, .pel]) (r := s) (x := x51) ?_ fun hx51 => ?_
          · unfold x51
            refine State.Evolves.ite ?_ ?_
            · exact hx26
            · refine State.Evolves.ite ?_ ?_
              · refine State.Evolves.step ?_ (State.sendPart_evolves ..) rfl
                exact hx28
              · exact hx28
          clear_value x51
          refine State.Evolves.step ?_ (State.plPump_evolves ..) rfl
          exact hx51

theorem State.plTryAll_evolves (s : State) (slot : Nat) :
    State.Evolves [.attic, .cellar, .larder, .host, .meter, .sent, .lb, .porch, .pel] s (State.plTryAll s slot) := by
  unfold State.plTryAll
  split
  · exact State.Evolves.refl _ _
  · extract_lets +onlyGivenNames x5
    clear_value x5
    refine State.Evolves.step ?_ (State.plSettle_evolves ..) rfl
    refine State.Evolves.foldl ?_ ?_
    · exact State.Evolves.refl _ _
    · intro t6 x7 ht6
      refine State.Evolves.ite ?_ ?_
      · exact ht6
      · refine State.Evolves.step ?_ (State.plTry_evolves ..) rfl
        exact ht6

theorem State.plStep_evolves (s : State) (slot : Nat) :
    State.Evolves [.attic, .cellar, .larder, .host, .meter, .sent, .lb, .porch, .pel] s (State.plStep s slot) := by
  unfold State.plStep
  refine State.Evolves.step ?_ (State.plAdvance_evolves ..) rfl
  refine State.Evolves.step ?_ (State.plTryAll_evolves ..) rfl
  refine State.Evolves.step ?_ (State.plAdvance_evolves ..) rfl
  exact State.Evolves.refl _ _

theorem State.inputFrame_evolves (s : State) (r : PlRun) (running : Bool) (part : Bool) (h : Nat) (port : Nat) (b : List Byte) (poison : Bool) :
    State.Evolves [.attic, .cellar, .larder, .host, .meter, .sent, .lb, .porch, .pel] s (State.inputFrame s r running part h port b poison) := by
  unfold State.inputFrame
  extract_lets +onlyGivenNames x0
  clear_value x0
  split
  · extract_lets +onlyGivenNames x6
    refine State.Evolves.cut (fs := [.attic, .cellar, .larder, .host, .meter, .sent, .lb, .porch, .pel]) (r := s) (x := x6) ?_ fun hx6 => ?_
    · unfold x6
      refine State.Evolves.ite ?_ ?_
      · refine State.Evolves.ite ?_ ?_
        · refine State.Evolves.step ?_ (State.count_evolves ..) rfl
          exact State.Evolves.refl _ _
        · exact State.Evolves.refl _ _
      · refine State.Evolves.step ?_ (State.lateInput_evolves ..) rfl
        exact State.Evolves.refl _ _
    clear_value x6
    refine State.Evolves.ite ?_ ?_
    · exact hx6
    · split
      · exact hx6
      · extract_lets +onlyGivenNames x22
        clear_value x22
        refine State.Evolves.ite ?_ ?_
        · exact hx6
        · extract_lets +onlyGivenNames x23
          clear_value x23
          extract_lets +onlyGivenNames x24
          clear_value x24
          extract_lets +onlyGivenNames x25
          clear_value x25
          refine State.Evolves.step ?_ (State.plStep_evolves ..) rfl
          refine State.Evolves.step ?_ (State.setRun_evolves ..) rfl
          exact State.Evolves.refl _ _

theorem State.received_evolves (s : State) (port : Nat) (n : Nat) :
    State.Evolves [.od, .meter] s (State.received s port n) := by
  unfold State.received
  refine State.Evolves.step ?_ (State.count_evolves ..) rfl
  refine State.Evolves.step ?_ (State.demand_evolves ..) rfl
  exact State.Evolves.refl _ _

theorem State.sendRepaired_evolves (s : State) (v : PlVoid) :
    State.Evolves [.attic, .cellar, .larder, .host, .meter, .sent] s (State.sendRepaired s v) := by
  unfold State.sendRepaired
  extract_lets +onlyGivenNames x0
  clear_value x0
  extract_lets +onlyGivenNames x1
  clear_value x1
  refine State.Evolves.ite ?_ ?_
  · refine State.Evolves.step ?_ (State.lateAct_evolves ..) rfl
    exact State.Evolves.refl _ _
  · refine State.Evolves.foldl ?_ ?_
    · exact State.Evolves.refl _ _
    · intro t2 x3 ht2
      refine State.Evolves.step ?_ (State.plSend_evolves ..) rfl
      exact ht2

theorem State.repairedSends_evolves (s : State) :
    State.Evolves [.attic, .cellar, .larder, .host, .meter, .sent, .pel] s (State.repairedSends s) := by
  unfold State.repairedSends
  refine State.Evolves.foldl ?_ ?_
  · exact State.Evolves.refl _ _
  · intro t0 x1 ht0
    refine State.Evolves.ite ?_ ?_
    · extract_lets +onlyGivenNames x2
      refine State.Evolves.cut (fs := [.attic, .cellar, .larder, .host, .meter, .sent, .pel]) (r := s) (x := x2) ?_ fun hx2 => ?_
      · unfold x2
        refine State.Evolves.step ?_ (State.sendRepaired_evolves ..) rfl
        exact ht0
      clear_value x2
      refine State.Evolves.upd (s := x2) ?_ (State.tables_of rfl rfl rfl rfl rfl rfl rfl) rfl rfl rfl rfl rfl rfl rfl fun f hf => by cases f <;> first | rfl | simp at hf
      exact hx2
    · exact ht0

theorem State.returnCredit_evolves (s : State) (h : Nat) :
    State.Evolves [.meter, .sent, .pel] s (State.returnCredit s h) := by
  unfold State.returnCredit
  extract_lets +onlyGivenNames x0
  clear_value x0
  extract_lets +onlyGivenNames x1
  clear_value x1
  extract_lets +onlyGivenNames x2
  refine State.Evolves.cut (fs := [.meter, .sent, .pel]) (r := s) (x := x2) ?_ fun hx2 => ?_
  · unfold x2
    refine State.Evolves.upd (s := s) ?_ (State.tables_of rfl rfl rfl rfl rfl rfl rfl) rfl rfl rfl rfl rfl rfl rfl fun f hf => by cases f <;> first | rfl | simp at hf
    exact State.Evolves.refl _ _
  clear_value x2
  refine State.Evolves.step ?_ (State.plSend_evolves ..) rfl
  exact hx2

theorem State.consume_evolves (s : State) (f : PlFrame) (r : PlRun) (running : Bool) :
    State.Evolves [.attic, .cellar, .larder, .host, .meter, .sent, .lb, .porch, .pel] s (State.consume s f r running) := by
  unfold State.consume
  extract_lets +onlyGivenNames x0
  clear_value x0
  extract_lets +onlyGivenNames x1
  clear_value x1
  extract_lets +onlyGivenNames x2
  clear_value x2
  extract_lets +onlyGivenNames x3
  refine State.Evolves.cut (fs := [.attic, .cellar, .larder, .host, .meter, .sent, .lb, .porch, .pel]) (r := s) (x := x3) ?_ fun hx3 => ?_
  · unfold x3
    refine State.Evolves.upd (s := s) ?_ (State.tables_of rfl rfl rfl rfl rfl rfl rfl) rfl rfl rfl rfl rfl rfl rfl fun f hf => by cases f <;> first | rfl | simp at hf
    exact State.Evolves.refl _ _
  clear_value x3
  refine State.Evolves.step ?_ (State.inputFrame_evolves ..) rfl
  refine State.Evolves.step ?_ (State.returnCredit_evolves ..) rfl
  exact hx3

theorem State.takeFrame_evolves (s : State) (f : PlFrame) :
    State.Evolves [.attic, .cellar, .larder, .host, .meter, .sent, .lb, .porch, .pel] s (State.takeFrame s f) := by
  unfold State.takeFrame
  extract_lets +onlyGivenNames x0
  clear_value x0
  extract_lets +onlyGivenNames x1
  clear_value x1
  split
  · refine State.Evolves.step ?_ (State.consume_evolves ..) rfl
    exact State.Evolves.refl _ _
  · split
    · refine State.Evolves.step ?_ (State.consume_evolves ..) rfl
      exact State.Evolves.refl _ _
    · exact State.Evolves.refl _ _

theorem State.contribFrame_evolves (s : State) (port : Nat) (h : Nat) (b : List Byte) (poison : Bool) :
    State.Evolves [.attic, .cellar, .larder, .host, .od, .meter, .sent, .lb, .porch, .pel] s (State.contribFrame s port h b poison) := by
  unfold State.contribFrame
  extract_lets +onlyGivenNames x0
  refine State.Evolves.cut (fs := [.attic, .cellar, .larder, .host, .od, .meter, .sent, .lb, .porch, .pel]) (r := s) (x := x0) ?_ fun hx0 => ?_
  · unfold x0
    refine State.Evolves.step ?_ (State.received_evolves ..) rfl
    exact State.Evolves.refl _ _
  clear_value x0
  split
  · exact hx0
  · extract_lets +onlyGivenNames x6
    clear_value x6
    extract_lets +onlyGivenNames x7
    refine State.Evolves.cut (fs := [.attic, .cellar, .larder, .host, .od, .meter, .sent, .lb, .porch, .pel]) (r := s) (x := x7) ?_ fun hx7 => ?_
    · unfold x7
      refine State.Evolves.step ?_ (State.wrBytes_evolves ..) rfl
      exact hx0
    clear_value x7
    extract_lets +onlyGivenNames x8
    refine State.Evolves.cut (fs := [.attic, .cellar, .larder, .host, .od, .meter, .sent, .lb, .porch, .pel]) (r := s) (x := x8) ?_ fun hx8 => ?_
    · unfold x8
      refine State.Evolves.step ?_ (State.wrBytes_evolves ..) rfl
      exact hx7
    clear_value x8
    extract_lets +onlyGivenNames x9
    refine State.Evolves.cut (fs := [.attic, .cellar, .larder, .host, .od, .meter, .sent, .lb, .porch, .pel]) (r := s) (x := x9) ?_ fun hx9 => ?_
    · unfold x9
      refine State.Evolves.ite ?_ ?_
      · refine State.Evolves.step ?_ (State.poison_evolves ..) rfl
        exact hx8
      · exact hx8
    clear_value x9
    extract_lets +onlyGivenNames x10
    clear_value x10
    extract_lets +onlyGivenNames x11
    clear_value x11
    extract_lets +onlyGivenNames x12
    clear_value x12
    extract_lets +onlyGivenNames x13
    refine State.Evolves.cut (fs := [.attic, .cellar, .larder, .host, .od, .meter, .sent, .lb, .porch, .pel]) (r := s) (x := x13) ?_ fun hx13 => ?_
    · unfold x13
      refine State.Evolves.upd (s := x9) ?_ (State.tables_of rfl rfl rfl rfl rfl rfl rfl) rfl rfl rfl rfl rfl rfl rfl fun f hf => by cases f <;> first | rfl | simp at hf
      exact hx9
    clear_value x13
    refine State.Evolves.step ?_ (State.repairedSends_evolves ..) rfl
    refine State.Evolves.step ?_ (State.takeFrame_evolves ..) rfl
    exact hx13

theorem State.creditArrival_evolves (s : State) (h : Nat) :
    State.Evolves [.meter, .sent, .lb, .porch, .pel] s (State.creditArrival s h) := by
  unfold State.creditArrival
  extract_lets +onlyGivenNames x0
  clear_value x0
  extract_lets +onlyGivenNames x1
  clear_value x1
  extract_lets +onlyGivenNames x2
  refine State.Evolves.cut (fs := [.meter, .sent, .lb, .porch, .pel]) (r := s) (x := x2) ?_ fun hx2 => ?_
  · unfold x2
    refine State.Evolves.upd (s := s) ?_ (State.tables_of rfl rfl rfl rfl rfl rfl rfl) rfl rfl rfl rfl rfl rfl rfl fun f hf => by cases f <;> first | rfl | simp at hf
    exact State.Evolves.refl _ _
  clear_value x2
  extract_lets +onlyGivenNames x3
  refine State.Evolves.cut (fs := [.meter, .sent, .lb, .porch, .pel]) (r := s) (x := x3) ?_ fun hx3 => ?_
  · unfold x3
    refine State.Evolves.step ?_ (State.plPump_evolves ..) rfl
    exact hx2
  clear_value x3
  refine State.Evolves.foldl ?_ ?_
  · exact hx3
  · intro t4 x5 ht4
    refine State.Evolves.step ?_ (State.plSettle_evolves ..) rfl
    exact ht4

theorem State.plStop_evolves (s : State) (r : PlRun) (err : Nat) :
    State.Evolves [.lb, .porch, .pel] s (State.plStop s r err) := by
  unfold State.plStop
  extract_lets +onlyGivenNames x0
  clear_value x0
  extract_lets +onlyGivenNames x1
  clear_value x1
  extract_lets +onlyGivenNames x2
  refine State.Evolves.cut (fs := [.lb, .porch, .pel]) (r := s) (x := x2) ?_ fun hx2 => ?_
  · unfold x2
    refine State.Evolves.upd (s := s) ?_ (State.tables_of rfl rfl rfl rfl rfl rfl rfl) rfl rfl rfl rfl rfl rfl rfl fun f hf => by cases f <;> first | rfl | simp at hf
    exact State.Evolves.refl _ _
  clear_value x2
  split
  · exact hx2
  · refine State.Evolves.step ?_ (State.dropStreams_evolves ..) rfl
    refine State.Evolves.step ?_ (State.setOp_evolves ..) rfl
    exact hx2

theorem State.sendOwnPart_evolves (s : State) (r : PlRun) (o : Nat) (place : Nat) (dsts : List Nat) :
    State.Evolves [.meter, .sent, .lb, .porch, .pel] s (State.sendOwnPart s r o place dsts) := by
  unfold State.sendOwnPart
  refine State.Evolves.foldl ?_ ?_
  · exact State.Evolves.refl _ _
  · intro t0 x1 ht0
    split
    · exact ht0
    · extract_lets +onlyGivenNames x8
      split
      · extract_lets +onlyGivenNames x17
        refine State.Evolves.cut (fs := [.meter, .sent, .lb, .porch, .pel]) (r := s) (x := x17) ?_ fun hx17 => ?_
        · unfold x17
          refine State.Evolves.step ?_ (State.countDelivery_evolves ..) rfl
          exact ht0
        clear_value x17
        refine State.Evolves.ite ?_ ?_
        · refine State.Evolves.step ?_ (State.plStop_evolves ..) rfl
          exact hx17
        · refine State.Evolves.step ?_ (State.sendPart_evolves ..) rfl
          exact hx17

theorem State.takeEarly_evolves (s : State) (g : Nat) (tag : Nat) :
    State.Evolves [.attic, .cellar, .larder, .host, .meter, .sent, .lb, .porch, .pel] s (State.takeEarly s g tag) := by
  unfold State.takeEarly
  extract_lets +onlyGivenNames x0
  clear_value x0
  extract_lets +onlyGivenNames x1
  clear_value x1
  extract_lets +onlyGivenNames x2
  clear_value x2
  extract_lets +onlyGivenNames x3
  refine State.Evolves.cut (fs := [.attic, .cellar, .larder, .host, .meter, .sent, .lb, .porch, .pel]) (r := s) (x := x3) ?_ fun hx3 => ?_
  · unfold x3
    refine State.Evolves.upd (s := s) ?_ (State.tables_of rfl rfl rfl rfl rfl rfl rfl) rfl rfl rfl rfl rfl rfl rfl fun f hf => by cases f <;> first | rfl | simp at hf
    exact State.Evolves.refl _ _
  clear_value x3
  refine State.Evolves.foldl ?_ ?_
  · exact hx3
  · intro t4 x5 ht4
    split
    · refine State.Evolves.step ?_ (State.inputFrame_evolves ..) rfl
      exact ht4
    · exact ht4

theorem State.lateArrival_evolves (s : State) (port : Nat) (h : Nat) (b : List Byte) (poison : Bool) :
    State.Evolves [.attic, .cellar, .larder, .host, .od, .meter, .pel] s (State.lateArrival s port h b poison) := by
  unfold State.lateArrival
  refine State.Evolves.step ?_ (State.lateFrame_evolves ..) rfl
  refine State.Evolves.step ?_ (State.received_evolves ..) rfl
  exact State.Evolves.refl _ _

theorem State.setMemberState_evolves (s : State) (table : Nat) (m : Nat) (dead : Bool) :
    State.Evolves [.attic, .cellar, .larder, .host, .meter] s (State.setMemberState s table m dead) := by
  unfold State.setMemberState
  extract_lets +onlyGivenNames x0
  clear_value x0
  refine State.Evolves.step ?_ (State.wr_evolves ..) rfl
  exact State.Evolves.refl _ _

theorem State.orphan_evolves (s : State) (slot : Nat) (n : Nat) :
    State.Evolves [.meter, .pel] s (State.orphan s slot n) := by
  unfold State.orphan
  refine State.Evolves.step ?_ (State.count_evolves ..) rfl
  refine State.Evolves.step ?_ (State.tally_evolves ..) rfl
  exact State.Evolves.refl _ _

theorem State.memberGone_evolves (s : State) (g : Nat) (m : Nat) :
    State.Evolves [.attic, .cellar, .larder, .host, .meter, .sent, .lb, .porch, .pel] s (State.memberGone s g m) := by
  unfold State.memberGone
  extract_lets +onlyGivenNames x0
  clear_value x0
  extract_lets +onlyGivenNames x1
  clear_value x1
  extract_lets +onlyGivenNames x2
  refine State.Evolves.cut (fs := [.attic, .cellar, .larder, .host, .meter, .sent, .lb, .porch, .pel]) (r := s) (x := x2) ?_ fun hx2 => ?_
  · unfold x2
    refine State.Evolves.upd (s := s) ?_ (State.tables_of rfl rfl rfl rfl rfl rfl rfl) rfl rfl rfl rfl rfl rfl rfl fun f hf => by cases f <;> first | rfl | simp at hf
    exact State.Evolves.refl _ _
  clear_value x2
  extract_lets +onlyGivenNames x3
  refine State.Evolves.cut (fs := [.attic, .cellar, .larder, .host, .meter, .sent, .lb, .porch, .pel]) (r := s) (x := x3) ?_ fun hx3 => ?_
  · unfold x3
    refine State.Evolves.step ?_ (State.count_evolves ..) rfl
    exact hx2
  clear_value x3
  refine State.Evolves.foldl ?_ ?_
  · exact hx3
  · intro t4 x5 ht4
    refine State.Evolves.ite ?_ ?_
    · exact ht4
    · extract_lets +onlyGivenNames x6
      clear_value x6
      extract_lets +onlyGivenNames x7
      clear_value x7
      extract_lets +onlyGivenNames x8
      clear_value x8
      extract_lets +onlyGivenNames x9
      refine State.Evolves.cut (fs := [.attic, .cellar, .larder, .host, .meter, .sent, .lb, .porch, .pel]) (r := s) (x := x9) ?_ fun hx9 => ?_
      · unfold x9
        refine State.Evolves.upd (s := t4) ?_ (State.tables_of rfl rfl rfl rfl rfl rfl rfl) rfl rfl rfl rfl rfl rfl rfl fun f hf => by cases f <;> first | rfl | simp at hf
        exact ht4
      clear_value x9
      extract_lets +onlyGivenNames x10
      refine State.Evolves.cut (fs := [.attic, .cellar, .larder, .host, .meter, .sent, .lb, .porch, .pel]) (r := s) (x := x10) ?_ fun hx10 => ?_
      · unfold x10
        refine State.Evolves.ite ?_ ?_
        · exact hx9
        · refine State.Evolves.step ?_ (State.orphan_evolves ..) rfl
          exact hx9
      clear_value x10
      refine State.Evolves.step ?_ (State.plStep_evolves ..) rfl
      refine State.Evolves.step ?_ (State.modRun_evolves ..) rfl
      exact hx10

theorem State.declareDead_evolves (s : State) (g : Nat) (m : Nat) :
    State.Evolves [.attic, .cellar, .larder, .host, .meter, .sent, .lb, .porch, .bell, .pel] s (State.declareDead s g m) := by
  unfold State.declareDead
  extract_lets +onlyGivenNames x0
  clear_value x0
  extract_lets +onlyGivenNames x1
  clear_value x1
  extract_lets +onlyGivenNames x2
  clear_value x2
  refine State.Evolves.ite ?_ ?_
  · exact State.Evolves.refl _ _
  · extract_lets +onlyGivenNames x3
    refine State.Evolves.cut (fs := [.attic, .cellar, .larder, .host, .meter, .sent, .lb, .porch, .bell, .pel]) (r := s) (x := x3) ?_ fun hx3 => ?_
    · unfold x3
      refine State.Evolves.step ?_ (State.count_evolves ..) rfl
      refine State.Evolves.step ?_ (State.raise_evolves ..) rfl
      refine State.Evolves.step ?_ (State.setMemberState_evolves ..) rfl
      exact State.Evolves.refl _ _
    clear_value x3
    extract_lets +onlyGivenNames x4
    refine State.Evolves.cut (fs := [.attic, .cellar, .larder, .host, .meter, .sent, .lb, .porch, .bell, .pel]) (r := s) (x := x4) ?_ fun hx4 => ?_
    · unfold x4
      refine State.Evolves.foldl ?_ ?_
      · exact hx3
      · intro t5 x6 ht5
        refine State.Evolves.ite ?_ ?_
        · exact ht5
        · refine State.Evolves.step ?_ (State.plSend_evolves ..) rfl
          exact ht5
    clear_value x4
    refine State.Evolves.step ?_ (State.memberGone_evolves ..) rfl
    exact hx4

theorem State.tagDiscard_evolves (s : State) (slot : Nat) :
    State.Evolves [.meter, .tick, .sent, .bell, .pel, .mtr] s (State.tagDiscard s slot) := by
  unfold State.tagDiscard
  split
  · refine State.Evolves.ite ?_ ?_
    · exact State.Evolves.refl _ _
    · split
      · exact State.Evolves.refl _ _
      · refine State.Evolves.step ?_ (State.count_evolves ..) rfl
        extract_lets +onlyGivenNames x12
        refine State.Evolves.cut (fs := [.meter, .tick, .sent, .bell, .pel, .mtr]) (r := s) (x := x12) ?_ fun hx12 => ?_
        · unfold x12
          refine State.Evolves.step ?_ (State.atLeast_evolves ..) rfl
          exact State.Evolves.refl _ _
        clear_value x12
        refine State.Evolves.upd (s := x12) ?_ (State.tables_of rfl rfl rfl rfl rfl rfl rfl) rfl rfl rfl rfl rfl rfl rfl fun f hf => by cases f <;> first | rfl | simp at hf
        exact hx12
  · extract_lets +onlyGivenNames x16
    refine State.Evolves.cut (fs := [.meter, .tick, .sent, .bell, .pel, .mtr]) (r := s) (x := x16) ?_ fun hx16 => ?_
    · unfold x16
      refine State.Evolves.step ?_ (State.atLeast_evolves ..) rfl
      exact State.Evolves.refl _ _
    clear_value x16
    extract_lets +onlyGivenNames x17
    clear_value x17
    extract_lets +onlyGivenNames x18
    refine State.Evolves.cut (fs := [.meter, .tick, .sent, .bell, .pel, .mtr]) (r := s) (x := x18) ?_ fun hx18 => ?_
    · unfold x18
      refine State.Evolves.upd (s := x16) ?_ (State.tables_of rfl rfl rfl rfl rfl rfl rfl) rfl rfl rfl rfl rfl rfl rfl fun f hf => by cases f <;> first | rfl | simp at hf
      exact hx16
    clear_value x18
    refine State.Evolves.step ?_ (State.count_evolves ..) rfl
    refine State.Evolves.step ?_ (State.returnCredit_evolves ..) rfl
    exact hx18

theorem State.dropVoided_evolves (s : State) (tensor : Nat) :
    State.Evolves [.meter, .pel] s (State.dropVoided s tensor) := by
  unfold State.dropVoided
  extract_lets +onlyGivenNames x0
  clear_value x0
  extract_lets +onlyGivenNames x1
  clear_value x1
  refine State.Evolves.step ?_ (State.count_evolves ..) rfl
  refine State.Evolves.upd (s := s) ?_ (State.tables_of rfl rfl rfl rfl rfl rfl rfl) rfl rfl rfl rfl rfl rfl rfl fun f hf => by cases f <;> first | rfl | simp at hf
  exact State.Evolves.refl _ _

theorem State.partFrame_evolves (s : State) (port : Nat) (h : Nat) (b : List Byte) (poison : Bool) :
    State.Evolves [.attic, .cellar, .larder, .host, .od, .meter, .sent, .lb, .porch, .pel] s (State.partFrame s port h b poison) := by
  unfold State.partFrame
  extract_lets +onlyGivenNames x0
  refine State.Evolves.cut (fs := [.attic, .cellar, .larder, .host, .od, .meter, .sent, .lb, .porch, .pel]) (r := s) (x := x0) ?_ fun hx0 => ?_
  · unfold x0
    refine State.Evolves.step ?_ (State.received_evolves ..) rfl
    exact State.Evolves.refl _ _
  clear_value x0
  extract_lets +onlyGivenNames x1
  clear_value x1
  extract_lets +onlyGivenNames x2
  clear_value x2
  split
  · refine State.Evolves.step ?_ (State.inputFrame_evolves ..) rfl
    exact hx0
  · refine State.Evolves.ite ?_ ?_
    · refine State.Evolves.ite ?_ ?_
      · refine State.Evolves.step ?_ (State.count_evolves ..) rfl
        exact hx0
      · exact hx0
    · refine State.Evolves.upd (s := x0) ?_ (State.tables_of rfl rfl rfl rfl rfl rfl rfl) rfl rfl rfl rfl rfl rfl rfl fun f hf => by cases f <;> first | rfl | simp at hf
      exact hx0

theorem State.setMisses_evolves (s : State) (table : Nat) (m : Nat) (n : Nat) :
    State.Evolves [.attic, .cellar, .larder, .host, .meter] s (State.setMisses s table m n) := by
  unfold State.setMisses
  refine State.Evolves.step ?_ (State.wr_evolves ..) rfl
  exact State.Evolves.refl _ _

theorem State.clearMisses_evolves (s : State) (g : Nat) (m : Nat) :
    State.Evolves [.attic, .cellar, .larder, .host, .meter] s (State.clearMisses s g m) := by
  unfold State.clearMisses
  refine State.Evolves.step ?_ (State.setMisses_evolves ..) rfl
  exact State.Evolves.refl _ _

theorem State.ownPart_evolves (s : State) (r : PlRun) :
    State.Evolves [.attic, .cellar, .larder, .host, .meter] s (State.ownPart s r) := by
  unfold State.ownPart
  refine State.Evolves.ite ?_ ?_
  · exact State.Evolves.refl _ _
  · refine State.Evolves.foldl ?_ ?_
    · exact State.Evolves.refl _ _
    · intro t0 x1 ht0
      split
      · extract_lets +onlyGivenNames x10
        clear_value x10
        extract_lets +onlyGivenNames x11
        refine State.Evolves.cut (fs := [.attic, .cellar, .larder, .host, .meter]) (r := s) (x := x11) ?_ fun hx11 => ?_
        · unfold x11
          refine State.Evolves.step ?_ (State.writePart_evolves ..) rfl
          exact ht0
        clear_value x11
        refine State.Evolves.foldl ?_ ?_
        · exact hx11
        · intro t12 x13 ht12
          refine State.Evolves.step ?_ (State.poison_evolves ..) rfl
          exact ht12
      · exact ht0

theorem State.readOwnUnits_evolves (s : State) (slot : Nat) (level : Nat) :
    State.Evolves [.meter, .pel] s (State.readOwnUnits s slot level) := by
  unfold State.readOwnUnits
  split
  · exact State.Evolves.refl _ _
  · refine State.Evolves.foldl ?_ ?_
    · exact State.Evolves.refl _ _
    · intro t5 x6 ht5
      refine State.Evolves.ite ?_ ?_
      · exact ht5
      · split
        · rename_i v7 v8 e9 v10 v11 v12 e13
          refine State.Evolves.cut (fs := [.meter, .pel]) (r := s) (x := v12) (State.Evolves.eqv ?_ (congrArg (fun y => y.2) e13)) fun hv12 => ?_
          · refine State.Evolves.step ?_ (State.readOwn_evolves ..) rfl
            exact ht5
          refine State.Evolves.step ?_ (State.modRun_evolves ..) rfl
          exact hv12

theorem State.roundStart_evolves (s : State) (slot : Nat) :
    State.Evolves [.attic, .cellar, .larder, .host, .meter, .sent, .lb, .porch, .pel] s (State.roundStart s slot) := by
  unfold State.roundStart
  split
  · exact State.Evolves.refl _ _
  · refine State.Evolves.ite ?_ ?_
    · exact State.Evolves.refl _ _
    · extract_lets +onlyGivenNames x5
      clear_value x5
      extract_lets +onlyGivenNames x6
      refine State.Evolves.cut (fs := [.attic, .cellar, .larder, .host, .meter, .sent, .lb, .porch, .pel]) (r := s) (x := x6) ?_ fun hx6 => ?_
      · unfold x6
        refine State.Evolves.step ?_ (State.setRun_evolves ..) rfl
        exact State.Evolves.refl _ _
      clear_value x6
      extract_lets +onlyGivenNames x7
      clear_value x7
      extract_lets +onlyGivenNames x8
      clear_value x8
      extract_lets +onlyGivenNames x9
      clear_value x9
      extract_lets +onlyGivenNames x10
      refine State.Evolves.cut (fs := [.attic, .cellar, .larder, .host, .meter, .sent, .lb, .porch, .pel]) (r := s) (x := x10) ?_ fun hx10 => ?_
      · unfold x10
        refine State.Evolves.ite ?_ ?_
        · refine State.Evolves.step ?_ (State.readOwnUnits_evolves ..) rfl
          exact hx6
        · exact hx6
      clear_value x10
      extract_lets +onlyGivenNames x11
      refine State.Evolves.cut (fs := [.attic, .cellar, .larder, .host, .meter, .sent, .lb, .porch, .pel]) (r := s) (x := x11) ?_ fun hx11 => ?_
      · unfold x11
        refine State.Evolves.step ?_ (State.readOwnUnits_evolves ..) rfl
        exact hx6
      clear_value x11
      extract_lets +onlyGivenNames x12
      clear_value x12
      extract_lets +onlyGivenNames x13
      refine State.Evolves.cut (fs := [.attic, .cellar, .larder, .host, .meter, .sent, .lb, .porch, .pel]) (r := s) (x := x13) ?_ fun hx13 => ?_
      · unfold x13
        refine State.Evolves.ite ?_ ?_
        · refine State.Evolves.ite ?_ ?_
          · refine State.Evolves.step ?_ (State.enqueue_evolves ..) rfl
            exact hx10
          · refine State.Evolves.step ?_ (State.orphan_evolves ..) rfl
            exact hx10
        · refine State.Evolves.ite ?_ ?_
          · refine State.Evolves.foldl ?_ ?_
            · exact hx11
            · intro t14 x15 ht14
              refine State.Evolves.ite ?_ ?_
              · refine State.Evolves.step ?_ (State.orphan_evolves ..) rfl
                exact ht14
              · split
                · exact ht14
                · refine State.Evolves.ite ?_ ?_
                  · exact ht14
                  · refine State.Evolves.step ?_ (State.enqueue_evolves ..) rfl
                    exact ht14
          · refine State.Evolves.ite ?_ ?_
            · refine State.Evolves.ite ?_ ?_
              · exact hx6
              · refine State.Evolves.step ?_ (State.sendOwnPart_evolves ..) rfl
                exact hx6
            · refine State.Evolves.ite ?_ ?_
              · exact hx6
              · refine State.Evolves.step ?_ (State.sendOwnPart_evolves ..) rfl
                exact hx6
      clear_value x13
      refine State.Evolves.step ?_ (State.repairedSends_evolves ..) rfl
      refine State.Evolves.step ?_ (State.plStep_evolves ..) rfl
      refine State.Evolves.step ?_ (State.plPump_evolves ..) rfl
      exact hx13

theorem State.chunkDeadline_evolves (s : State) (slot : Nat) (o : Nat) (c : Nat) (level : Nat) :
    State.Evolves [.attic, .cellar, .larder, .host, .meter, .tick, .sent, .lb, .porch, .bell, .pel, .mtr] s (State.chunkDeadline s slot o c level) := by
  unfold State.chunkDeadline
  split
  · exact State.Evolves.refl _ _
  · split
    · exact State.Evolves.refl _ _
    · split
      · exact State.Evolves.refl _ _
      · refine State.Evolves.ite ?_ ?_
        · exact State.Evolves.refl _ _
        · extract_lets +onlyGivenNames x33
          clear_value x33
          extract_lets +onlyGivenNames x34
          clear_value x34
          refine State.Evolves.step ?_ (State.plStep_evolves ..) rfl
          refine State.Evolves.step ?_ (State.atLeast_evolves ..) rfl
          exact State.Evolves.refl _ _

theorem State.noticeArrival_evolves (s : State) (h : Nat) :
    State.Evolves [.attic, .cellar, .larder, .host, .meter, .sent, .lb, .porch, .bell, .pel] s (State.noticeArrival s h) := by
  unfold State.noticeArrival
  extract_lets +onlyGivenNames x0
  clear_value x0
  extract_lets +onlyGivenNames x1
  clear_value x1
  refine State.Evolves.ite ?_ ?_
  · extract_lets +onlyGivenNames x2
    clear_value x2
    extract_lets +onlyGivenNames x3
    refine State.Evolves.cut (fs := [.attic, .cellar, .larder, .host, .meter, .sent, .lb, .porch, .bell, .pel]) (r := s) (x := x3) ?_ fun hx3 => ?_
    · unfold x3
      refine State.Evolves.step ?_ (State.raise_evolves ..) rfl
      refine State.Evolves.upd (s := s) ?_ (State.tables_of rfl rfl rfl rfl rfl rfl rfl) rfl rfl rfl rfl rfl rfl rfl fun f hf => by cases f <;> first | rfl | simp at hf
      exact State.Evolves.refl _ _
    clear_value x3
    refine State.Evolves.foldl ?_ ?_
    · exact hx3
    · intro t4 x5 ht4
      refine State.Evolves.ite ?_ ?_
      · refine State.Evolves.step ?_ (State.plStop_evolves ..) rfl
        exact ht4
      · exact ht4
  · refine State.Evolves.step ?_ (State.memberGone_evolves ..) rfl
    refine State.Evolves.step ?_ (State.raise_evolves ..) rfl
    refine State.Evolves.step ?_ (State.setMemberState_evolves ..) rfl
    exact State.Evolves.refl _ _

theorem State.plBegin_evolves (s : State) (r : PlRun) :
    State.Evolves [.attic, .cellar, .larder, .host, .meter, .sent, .lb, .porch, .pel] s (State.plBegin s r) := by
  unfold State.plBegin
  extract_lets +onlyGivenNames x0
  clear_value x0
  extract_lets +onlyGivenNames x1
  refine State.Evolves.cut (fs := [.attic, .cellar, .larder, .host, .meter, .sent, .lb, .porch, .pel]) (r := s) (x := x1) ?_ fun hx1 => ?_
  · unfold x1
    refine State.Evolves.ite ?_ ?_
    · refine State.Evolves.step ?_ (State.dropVoided_evolves ..) rfl
      exact State.Evolves.refl _ _
    · exact State.Evolves.refl _ _
  clear_value x1
  extract_lets +onlyGivenNames x2
  clear_value x2
  extract_lets +onlyGivenNames x3
  clear_value x3
  extract_lets +onlyGivenNames x4
  clear_value x4
  extract_lets +onlyGivenNames x5
  clear_value x5
  extract_lets +onlyGivenNames x6
  refine State.Evolves.cut (fs := [.attic, .cellar, .larder, .host, .meter, .sent, .lb, .porch, .pel]) (r := s) (x := x6) ?_ fun hx6 => ?_
  · unfold x6
    refine State.Evolves.upd (s := x1) ?_ (State.tables_of rfl rfl rfl rfl rfl rfl rfl) rfl rfl rfl rfl rfl rfl rfl fun f hf => by cases f <;> first | rfl | simp at hf
    exact hx1
  clear_value x6
  extract_lets +onlyGivenNames x7
  clear_value x7
  extract_lets +onlyGivenNames x8
  refine State.Evolves.cut (fs := [.attic, .cellar, .larder, .host, .meter, .sent, .lb, .porch, .pel]) (r := s) (x := x8) ?_ fun hx8 => ?_
  · unfold x8
    refine State.Evolves.foldl ?_ ?_
    · exact hx6
    · intro t9 x10 ht9
      refine State.Evolves.step ?_ (State.tally_evolves ..) rfl
      exact ht9
  clear_value x8
  extract_lets +onlyGivenNames x11
  refine State.Evolves.cut (fs := [.attic, .cellar, .larder, .host, .meter, .sent, .lb, .porch, .pel]) (r := s) (x := x11) ?_ fun hx11 => ?_
  · unfold x11
    refine State.Evolves.step ?_ (State.ownPart_evolves ..) rfl
    exact hx8
  clear_value x11
  extract_lets +onlyGivenNames x12
  refine State.Evolves.cut (fs := [.attic, .cellar, .larder, .host, .meter, .sent, .lb, .porch, .pel]) (r := s) (x := x12) ?_ fun hx12 => ?_
  · unfold x12
    refine State.Evolves.ite ?_ ?_
    · refine State.Evolves.foldl ?_ ?_
      · exact hx11
      · intro t13 x14 ht13
        refine State.Evolves.step ?_ (State.grantTwo_evolves ..) rfl
        exact ht13
    · refine State.Evolves.step ?_ (State.plAdvance_evolves ..) rfl
      exact hx11
  clear_value x12
  extract_lets +onlyGivenNames x15
  refine State.Evolves.cut (fs := [.attic, .cellar, .larder, .host, .meter, .sent, .lb, .porch, .pel]) (r := s) (x := x15) ?_ fun hx15 => ?_
  · unfold x15
    refine State.Evolves.foldl ?_ ?_
    · exact hx12
    · intro t16 x17 ht16
      refine State.Evolves.step ?_ (State.takeFrame_evolves ..) rfl
      exact ht16
  clear_value x15
  refine State.Evolves.step ?_ (State.plStep_evolves ..) rfl
  refine State.Evolves.step ?_ (State.takeEarly_evolves ..) rfl
  exact hx15

theorem State.endMisses_evolves (s : State) (r : PlRun) :
    State.Evolves [.attic, .cellar, .larder, .host, .meter, .sent, .lb, .porch, .bell, .pel] s (State.endMisses s r) := by
  unfold State.endMisses
  extract_lets +onlyGivenNames x0
  clear_value x0
  refine State.Evolves.foldl ?_ ?_
  · exact State.Evolves.refl _ _
  · intro t1 x2 ht1
    refine State.Evolves.ite ?_ ?_
    · extract_lets +onlyGivenNames x3
      clear_value x3
      extract_lets +onlyGivenNames x4
      refine State.Evolves.cut (fs := [.attic, .cellar, .larder, .host, .meter, .sent, .lb, .porch, .bell, .pel]) (r := s) (x := x4) ?_ fun hx4 => ?_
      · unfold x4
        refine State.Evolves.step ?_ (State.setMisses_evolves ..) rfl
        exact ht1
      clear_value x4
      refine State.Evolves.ite ?_ ?_
      · refine State.Evolves.step ?_ (State.declareDead_evolves ..) rfl
        exact hx4
      · exact hx4
    · refine State.Evolves.ite ?_ ?_
      · exact ht1
      · refine State.Evolves.step ?_ (State.setMisses_evolves ..) rfl
        exact ht1

theorem State.dispatchCollective_evolves (s : State) (q : Nat) (op : Nat) (guess : Bool) :
    State.Evolves [.attic, .cellar, .larder, .host, .od, .meter, .sent, .lb, .porch, .bell, .gz, .ex, .pel] s (State.dispatchCollective s q op guess) := by
  unfold State.dispatchCollective
  split
  · exact State.Evolves.refl _ _
  · refine State.Evolves.ite ?_ ?_
    · exact State.Evolves.refl _ _
    · split
      · exact State.Evolves.refl _ _
      · extract_lets +onlyGivenNames x19
        clear_value x19
        extract_lets +onlyGivenNames x20
        clear_value x20
        extract_lets +onlyGivenNames x21
        clear_value x21
        extract_lets +onlyGivenNames x22
        clear_value x22
        extract_lets +onlyGivenNames x23
        clear_value x23
        split
        · refine State.Evolves.step ?_ (State.failLetter_evolves ..) rfl
          exact State.Evolves.refl _ _
        · refine State.Evolves.ite ?_ ?_
          · exact State.Evolves.refl _ _
          · refine State.Evolves.ite ?_ ?_
            · refine State.Evolves.step ?_ (State.refuseLetter_evolves ..) rfl
              exact State.Evolves.refl _ _
            · extract_lets +onlyGivenNames x43
              clear_value x43
              extract_lets +onlyGivenNames x44
              refine State.Evolves.cut (fs := [.attic, .cellar, .larder, .host, .od, .meter, .sent, .lb, .porch, .bell, .gz, .ex, .pel]) (r := s) (x := x44) ?_ fun hx44 => ?_
              · unfold x44
                refine State.Evolves.step ?_ (State.demand_evolves ..) rfl
                refine State.Evolves.step ?_ (State.launch_evolves ..) rfl
                refine State.Evolves.step ?_ (State.advanceHead_evolves ..) rfl
                exact State.Evolves.refl _ _
              clear_value x44
              refine State.Evolves.step ?_ (State.repairedSends_evolves ..) rfl
              refine State.Evolves.step ?_ (State.plBegin_evolves ..) rfl
              exact hx44

theorem State.endCollective_evolves (s : State) (o : Op) :
    State.Evolves [.attic, .cellar, .larder, .host, .od, .meter, .sent, .lb, .porch, .bell, .gz, .ex, .pel] s (State.endCollective s o) := by
  unfold State.endCollective
  split
  · extract_lets +onlyGivenNames x7
    refine State.Evolves.cut (fs := [.attic, .cellar, .larder, .host, .od, .meter, .sent, .lb, .porch, .bell, .gz, .ex, .pel]) (r := s) (x := x7) ?_ fun hx7 => ?_
    · unfold x7
      refine State.Evolves.ite ?_ ?_
      · refine State.Evolves.step ?_ (State.endMisses_evolves ..) rfl
        exact State.Evolves.refl _ _
      · exact State.Evolves.refl _ _
    clear_value x7
    extract_lets +onlyGivenNames x8
    clear_value x8
    extract_lets +onlyGivenNames x9
    clear_value x9
    extract_lets +onlyGivenNames x10
    clear_value x10
    extract_lets +onlyGivenNames x11
    clear_value x11
    extract_lets +onlyGivenNames x12
    refine State.Evolves.cut (fs := [.attic, .cellar, .larder, .host, .od, .meter, .sent, .lb, .porch, .bell, .gz, .ex, .pel]) (r := s) (x := x12) ?_ fun hx12 => ?_
    · unfold x12
      refine State.Evolves.upd (s := x7) ?_ (State.tables_of rfl rfl rfl rfl rfl rfl rfl) rfl rfl rfl rfl rfl rfl rfl fun f hf => by cases f <;> first | rfl | simp at hf
      exact hx7
    clear_value x12
    extract_lets +onlyGivenNames x13
    refine State.Evolves.cut (fs := [.attic, .cellar, .larder, .host, .od, .meter, .sent, .lb, .porch, .bell, .gz, .ex, .pel]) (r := s) (x := x13) ?_ fun hx13 => ?_
    · unfold x13
      refine State.Evolves.step ?_ (State.dropStreams_evolves ..) rfl
      refine State.Evolves.step ?_ (State.dropOp_evolves ..) rfl
      exact hx12
    clear_value x13
    extract_lets +onlyGivenNames x14
    refine State.Evolves.cut (fs := [.attic, .cellar, .larder, .host, .od, .meter, .sent, .lb, .porch, .bell, .gz, .ex, .pel]) (r := s) (x := x14) ?_ fun hx14 => ?_
    · unfold x14
      refine State.Evolves.ite ?_ ?_
      · refine State.Evolves.step ?_ (State.haltQueue_evolves ..) rfl
        exact hx13
      · exact hx13
    clear_value x14
    refine State.Evolves.step ?_ (State.settle_evolves ..) rfl
    refine State.Evolves.step ?_ (State.finish_evolves ..) rfl
    exact hx14
  · exact State.Evolves.refl _ _

theorem State.rejoin_evolves (s : State) (g : Nat) (m : Nat) :
    State.Evolves [.attic, .cellar, .larder, .host, .meter, .pel] s (State.rejoin s g m) := by
  unfold State.rejoin
  extract_lets +onlyGivenNames x0
  clear_value x0
  extract_lets +onlyGivenNames x1
  refine State.Evolves.cut (fs := [.attic, .cellar, .larder, .host, .meter, .pel]) (r := s) (x := x1) ?_ fun hx1 => ?_
  · unfold x1
    refine State.Evolves.step ?_ (State.setMisses_evolves ..) rfl
    refine State.Evolves.step ?_ (State.setMemberState_evolves ..) rfl
    exact State.Evolves.refl _ _
  clear_value x1
  refine State.Evolves.ite ?_ ?_
  · refine State.Evolves.upd (s := x1) ?_ (State.tables_of rfl rfl rfl rfl rfl rfl rfl) rfl rfl rfl rfl rfl rfl rfl fun f hf => by cases f <;> first | rfl | simp at hf
    exact hx1
  · exact hx1

theorem State.plPortDown_evolves (s : State) (p : Nat) :
    State.Evolves [.attic, .cellar, .larder, .host, .meter, .sent, .lb, .porch, .pel] s (State.plPortDown s p) := by
  unfold State.plPortDown
  refine State.Evolves.foldl ?_ ?_
  · exact State.Evolves.refl _ _
  · intro t0 x1 ht0
    refine State.Evolves.ite ?_ ?_
    · exact ht0
    · refine State.Evolves.ite ?_ ?_
      · refine State.Evolves.step ?_ (State.plStop_evolves ..) rfl
        exact ht0
      · refine State.Evolves.step ?_ (State.plStep_evolves ..) rfl
        refine State.Evolves.step ?_ (State.modRun_evolves ..) rfl
        exact ht0

theorem State.exLaunch_evolves (s : State) (c : QCtx) (l : Letter) :
    State.Evolves [.attic, .cellar, .larder, .host, .meter, .lb, .porch] s (State.exLaunch s c l) := by
  unfold State.exLaunch
  extract_lets +onlyGivenNames x0
  clear_value x0
  extract_lets +onlyGivenNames x1
  clear_value x1
  refine State.Evolves.step ?_ (State.launch_evolves ..) rfl
  refine State.Evolves.step ?_ (State.advanceHead_evolves ..) rfl
  exact State.Evolves.refl _ _

theorem State.gzEndOp_evolves (s : State) :
    State.Evolves [.attic, .cellar, .larder, .host, .od, .meter, .lb, .bell, .gz, .ex] s (State.gzEndOp s) := by
  unfold State.gzEndOp
  split
  · exact State.Evolves.refl _ _
  · split
    · exact State.Evolves.refl _ _
    · refine State.Evolves.step ?_ (State.settle_evolves ..) rfl
      refine State.Evolves.step ?_ (State.finish_evolves ..) rfl
      refine State.Evolves.step ?_ (State.dropOp_evolves ..) rfl
      exact State.Evolves.refl _ _

theorem State.gzOpenCommit_evolves (s : State) (step : Nat) :
    State.Evolves [.attic, .cellar, .larder, .host, .od, .meter, .gz] s (State.gzOpenCommit s step) := by
  unfold State.gzOpenCommit
  extract_lets +onlyGivenNames x0
  clear_value x0
  extract_lets +onlyGivenNames x1
  refine State.Evolves.cut (fs := [.attic, .cellar, .larder, .host, .od, .meter, .gz]) (r := s) (x := x1) ?_ fun hx1 => ?_
  · unfold x1
    refine State.Evolves.step ?_ (State.setOd_evolves ..) rfl
    refine State.Evolves.step ?_ (State.setOd_evolves ..) rfl
    refine State.Evolves.upd (s := s) ?_ (State.tables_of rfl rfl rfl rfl rfl rfl rfl) rfl rfl rfl rfl rfl rfl rfl fun f hf => by cases f <;> first | rfl | simp at hf
    exact State.Evolves.refl _ _
  clear_value x1
  refine State.Evolves.step ?_ (State.wr_evolves ..) rfl
  exact hx1

theorem State.resumeOpen_evolves (s : State) :
    State.Evolves [.attic, .cellar, .larder, .host, .od, .captain, .stoker, .domains, .meter, .lb, .bell, .gz, .ex] s (State.resumeOpen s) := by
  unfold State.resumeOpen
  split
  · split
    · exact State.Evolves.refl _ _
    · refine State.Evolves.ite ?_ ?_
      · exact State.Evolves.refl _ _
      · extract_lets +onlyGivenNames x24
        refine State.Evolves.cut (fs := [.attic, .cellar, .larder, .host, .od, .captain, .stoker, .domains, .meter, .lb, .bell, .gz, .ex]) (r := s) (x := x24) ?_ fun hx24 => ?_
        · unfold x24
          refine State.Evolves.step ?_ (State.gzEndOp_evolves ..) rfl
          refine State.Evolves.step ?_ (State.gzOpenCommit_evolves ..) rfl
          refine State.Evolves.step ?_ (State.gzLatch_evolves ..) rfl
          exact State.Evolves.refl _ _
        clear_value x24
        refine State.Evolves.step ?_ (State.setOd_evolves ..) rfl
        exact hx24
  · exact State.Evolves.refl _ _

theorem State.hostCopy_evolves (s : State) (b : Nat) (group : Nat) (me : Nat) :
    State.Evolves [.attic, .cellar, .larder, .host, .meter] s (State.hostCopy s b group me) := by
  unfold State.hostCopy
  extract_lets +onlyGivenNames x0
  clear_value x0
  refine State.Evolves.ite ?_ ?_
  · exact State.Evolves.refl _ _
  · extract_lets +onlyGivenNames x1
    clear_value x1
    refine State.Evolves.ite ?_ ?_
    · refine State.Evolves.step ?_ (State.count_evolves ..) rfl
      exact State.Evolves.refl _ _
    · refine State.Evolves.foldl ?_ ?_
      · refine State.Evolves.step ?_ (State.wrBytes_evolves ..) rfl
        exact State.Evolves.refl _ _
      · intro t2 x3 ht2
        refine State.Evolves.step ?_ (State.poison_evolves ..) rfl
        exact ht2

theorem State.startExport_evolves (s : State) (letter : Option (Nat × Nat)) (b : Nat) (force : Bool) (guest : Nat) :
    State.Evolves [.od, .meter, .ex] s (State.startExport s letter b force guest) := by
  unfold State.startExport
  extract_lets +onlyGivenNames x0
  clear_value x0
  extract_lets +onlyGivenNames x1
  clear_value x1
  extract_lets +onlyGivenNames x2
  clear_value x2
  extract_lets +onlyGivenNames x3
  clear_value x3
  extract_lets +onlyGivenNames x4
  clear_value x4
  extract_lets +onlyGivenNames x5
  clear_value x5
  extract_lets +onlyGivenNames x6
  clear_value x6
  extract_lets +onlyGivenNames x7
  clear_value x7
  extract_lets +onlyGivenNames x8
  clear_value x8
  extract_lets +onlyGivenNames x9
  refine State.Evolves.cut (fs := [.od, .meter, .ex]) (r := s) (x := x9) ?_ fun hx9 => ?_
  · unfold x9
    refine State.Evolves.upd (s := s) ?_ (State.tables_of rfl rfl rfl rfl rfl rfl rfl) rfl rfl rfl rfl rfl rfl rfl fun f hf => by cases f <;> first | rfl | simp at hf
    exact State.Evolves.refl _ _
  clear_value x9
  refine State.Evolves.step ?_ (State.setOd_evolves ..) rfl
  refine State.Evolves.step ?_ (State.demand_evolves ..) rfl
  exact hx9

theorem State.exportAuto_evolves (s : State) (guest : Nat) :
    State.Evolves [.attic, .cellar, .larder, .host, .od, .meter, .tick, .bell, .ex, .mtr] s (State.exportAuto s guest) := by
  unfold State.exportAuto
  split
  · exact State.Evolves.refl _ _
  · refine State.Evolves.ite ?_ ?_
    · exact State.Evolves.refl _ _
    · extract_lets +onlyGivenNames x5
      refine State.Evolves.cut (fs := [.attic, .cellar, .larder, .host, .od, .meter, .tick, .bell, .ex, .mtr]) (r := s) (x := x5) ?_ fun hx5 => ?_
      · unfold x5
        refine State.Evolves.step ?_ (State.atLeast_evolves ..) rfl
        exact State.Evolves.refl _ _
      clear_value x5
      extract_lets +onlyGivenNames x6
      clear_value x6
      extract_lets +onlyGivenNames x7
      refine State.Evolves.cut (fs := [.attic, .cellar, .larder, .host, .od, .meter, .tick, .bell, .ex, .mtr]) (r := s) (x := x7) ?_ fun hx7 => ?_
      · unfold x7
        refine State.Evolves.step ?_ (State.count_evolves ..) rfl
        refine State.Evolves.upd (s := x5) ?_ (State.tables_of rfl rfl rfl rfl rfl rfl rfl) rfl rfl rfl rfl rfl rfl rfl fun f hf => by cases f <;> first | rfl | simp at hf
        exact hx5
      clear_value x7
      extract_lets +onlyGivenNames x8
      clear_value x8
      extract_lets +onlyGivenNames x9
      refine State.Evolves.cut (fs := [.attic, .cellar, .larder, .host, .od, .meter, .tick, .bell, .ex, .mtr]) (r := s) (x := x9) ?_ fun hx9 => ?_
      · unfold x9
        refine State.Evolves.ite ?_ ?_
        · refine State.Evolves.step ?_ (State.hostCopy_evolves ..) rfl
          exact hx7
        · exact hx7
      clear_value x9
      refine State.Evolves.step ?_ (State.startExport_evolves ..) rfl
      exact hx9

theorem State.endExportLetter_evolves (s : State) (letter : Option (Nat × Nat)) (err : Nat) :
    State.Evolves [.meter, .freeCtr, .lb, .rooms, .porch] s (State.endExportLetter s letter err) := by
  unfold State.endExportLetter
  split
  · exact State.Evolves.refl _ _
  · split
    · exact State.Evolves.refl _ _
    · refine State.Evolves.ite ?_ ?_
      · refine State.Evolves.step ?_ (State.setOp_evolves ..) rfl
        exact State.Evolves.refl _ _
      · refine State.Evolves.step ?_ (State.stopOp_evolves ..) rfl
        exact State.Evolves.refl _ _

theorem State.gzEndUpdate_evolves (s : State) :
    State.Evolves [.od] s (State.gzEndUpdate s) := by
  unfold State.gzEndUpdate
  refine State.Evolves.step ?_ (State.setOd_evolves ..) rfl
  exact State.Evolves.refl _ _

theorem State.closeLetter_evolves (s : State) (q : Nat) :
    State.Evolves [.attic, .cellar, .larder, .host, .od, .meter, .lb, .bell, .gz, .ex] s (State.closeLetter s q) := by
  unfold State.closeLetter
  split
  · exact State.Evolves.refl _ _
  · split
    · refine State.Evolves.step ?_ (State.refuseLetter_evolves ..) rfl
      exact State.Evolves.refl _ _
    · refine State.Evolves.ite ?_ ?_
      · refine State.Evolves.step ?_ (State.gzEndUpdate_evolves ..) rfl
        refine State.Evolves.step ?_ (State.refuseLetter_evolves ..) rfl
        exact State.Evolves.refl _ _
      · refine State.Evolves.ite ?_ ?_
        · refine State.Evolves.step ?_ (State.refuseLetter_evolves ..) rfl
          exact State.Evolves.refl _ _
        · split
          · rename_i v19 v20 v21 e22 v23 e24 v25 v26 v27 e28
            refine State.Evolves.cut (fs := [.attic, .cellar, .larder, .host, .od, .meter, .lb, .bell, .gz, .ex]) (r := s) (x := v26) (State.Evolves.eqv ?_ (congrArg (fun y => y.1) e28)) fun hv26 => ?_
            · refine State.Evolves.step ?_ (State.gzTake_evolves ..) rfl
              exact State.Evolves.refl _ _
            refine State.Evolves.step ?_ (State.gzComplete_evolves ..) rfl
            refine State.Evolves.step ?_ (State.gzClose_evolves ..) rfl
            exact hv26

theorem State.setRx_evolves (s : State) (r : ExRx) (keep : Bool) :
    State.Evolves [.ex] s (State.setRx s r keep) := by
  unfold State.setRx
  refine State.Evolves.upd (s := s) ?_ (State.tables_of rfl rfl rfl rfl rfl rfl rfl) rfl rfl rfl rfl rfl rfl rfl fun f hf => by cases f <;> first | rfl | simp at hf
  exact State.Evolves.refl _ _

theorem State.exReply_evolves (s : State) (h : Nat) (err : Nat) :
    State.Evolves [.meter, .sent] s (State.exReply s h err) := by
  unfold State.exReply
  extract_lets +onlyGivenNames x0
  clear_value x0
  extract_lets +onlyGivenNames x1
  clear_value x1
  refine State.Evolves.step ?_ (State.plSend_evolves ..) rfl
  exact State.Evolves.refl _ _

theorem State.applySegs_evolves (s : State) (segs : List (Nat × Nat × Nat)) (b : List Byte) (old : Nat) (poison : List Nat) :
    State.Evolves [.attic, .cellar, .larder, .host, .meter] s (State.applySegs s segs b old poison) := by
  unfold State.applySegs
  refine State.Evolves.foldl ?_ ?_
  · exact State.Evolves.refl _ _
  · intro t0 x1 ht0
    split
    · extract_lets +onlyGivenNames x6
      clear_value x6
      extract_lets +onlyGivenNames x7
      clear_value x7
      refine State.Evolves.ite ?_ ?_
      · exact ht0
      · extract_lets +onlyGivenNames x8
        refine State.Evolves.cut (fs := [.attic, .cellar, .larder, .host, .meter]) (r := s) (x := x8) ?_ fun hx8 => ?_
        · unfold x8
          refine State.Evolves.step ?_ (State.wrBytes_evolves ..) rfl
          exact ht0
        clear_value x8
        refine State.Evolves.foldl ?_ ?_
        · exact hx8
        · intro t9 x10 ht9
          refine State.Evolves.step ?_ (State.poison_evolves ..) rfl
          exact ht9

theorem State.restoreComplete_evolves (s : State) (h : Nat) :
    State.Evolves [.attic, .cellar, .larder, .host, .od, .meter, .bell, .ex] s (State.restoreComplete s h) := by
  unfold State.restoreComplete
  extract_lets +onlyGivenNames x0
  clear_value x0
  extract_lets +onlyGivenNames x1
  clear_value x1
  extract_lets +onlyGivenNames x2
  clear_value x2
  extract_lets +onlyGivenNames x3
  refine State.Evolves.cut (fs := [.attic, .cellar, .larder, .host, .od, .meter, .bell, .ex]) (r := s) (x := x3) ?_ fun hx3 => ?_
  · unfold x3
    refine State.Evolves.step ?_ (State.wr_evolves ..) rfl
    exact State.Evolves.refl _ _
  clear_value x3
  extract_lets +onlyGivenNames x4
  clear_value x4
  refine State.Evolves.step ?_ (State.raise_evolves ..) rfl
  refine State.Evolves.step ?_ (State.setOd_evolves ..) rfl
  refine State.Evolves.step ?_ (State.advanceBank_evolves ..) rfl
  refine State.Evolves.upd (s := x3) ?_ (State.tables_of rfl rfl rfl rfl rfl rfl rfl) rfl rfl rfl rfl rfl rfl rfl fun f hf => by cases f <;> first | rfl | simp at hf
  exact hx3

theorem State.guestComplete_evolves (s : State) (h : Nat) :
    State.Evolves [.attic, .cellar, .larder, .host, .meter] s (State.guestComplete s h) := by
  unfold State.guestComplete
  extract_lets +onlyGivenNames x0
  clear_value x0
  extract_lets +onlyGivenNames x1
  refine State.Evolves.cut (fs := [.attic, .cellar, .larder, .host, .meter]) (r := s) (x := x1) ?_ fun hx1 => ?_
  · unfold x1
    refine State.Evolves.step ?_ (State.wr_evolves ..) rfl
    exact State.Evolves.refl _ _
  clear_value x1
  extract_lets +onlyGivenNames x2
  refine State.Evolves.cut (fs := [.attic, .cellar, .larder, .host, .meter]) (r := s) (x := x2) ?_ fun hx2 => ?_
  · unfold x2
    refine State.Evolves.step ?_ (State.wr_evolves ..) rfl
    exact hx1
  clear_value x2
  extract_lets +onlyGivenNames x3
  refine State.Evolves.cut (fs := [.attic, .cellar, .larder, .host, .meter]) (r := s) (x := x3) ?_ fun hx3 => ?_
  · unfold x3
    refine State.Evolves.step ?_ (State.wr_evolves ..) rfl
    exact hx2
  clear_value x3
  extract_lets +onlyGivenNames x4
  refine State.Evolves.cut (fs := [.attic, .cellar, .larder, .host, .meter]) (r := s) (x := x4) ?_ fun hx4 => ?_
  · unfold x4
    refine State.Evolves.step ?_ (State.wr_evolves ..) rfl
    exact hx3
  clear_value x4
  refine State.Evolves.step ?_ (State.count_evolves ..) rfl
  refine State.Evolves.step ?_ (State.wr_evolves ..) rfl
  exact hx4

theorem State.streamFrame_evolves (s : State) (image : Bool) (port : Nat) (h : Nat) (b : List Byte) (poison : List Nat) :
    State.Evolves [.attic, .cellar, .larder, .host, .od, .meter, .sent, .bell, .ex] s (State.streamFrame s image port h b poison) := by
  unfold State.streamFrame
  extract_lets +onlyGivenNames x0
  refine State.Evolves.cut (fs := [.attic, .cellar, .larder, .host, .od, .meter, .sent, .bell, .ex]) (r := s) (x := x0) ?_ fun hx0 => ?_
  · unfold x0
    refine State.Evolves.step ?_ (State.demand_evolves ..) rfl
    exact State.Evolves.refl _ _
  clear_value x0
  extract_lets +onlyGivenNames x1
  clear_value x1
  extract_lets +onlyGivenNames x2
  clear_value x2
  extract_lets +onlyGivenNames x3
  clear_value x3
  refine State.Evolves.ite ?_ ?_
  · exact hx0
  · extract_lets +onlyGivenNames x4
    clear_value x4
    extract_lets +onlyGivenNames x5
    clear_value x5
    extract_lets +onlyGivenNames x6
    refine State.Evolves.cut (fs := [.attic, .cellar, .larder, .host, .od, .meter, .sent, .bell, .ex]) (r := s) (x := x6) ?_ fun hx6 => ?_
    · unfold x6
      refine State.Evolves.step ?_ (State.setRx_evolves ..) rfl
      exact hx0
    clear_value x6
    extract_lets +onlyGivenNames x7
    clear_value x7
    extract_lets +onlyGivenNames x8
    refine State.Evolves.cut (fs := [.attic, .cellar, .larder, .host, .od, .meter, .sent, .bell, .ex]) (r := s) (x := x8) ?_ fun hx8 => ?_
    · unfold x8
      refine State.Evolves.ite ?_ ?_
      · exact hx0
      · refine State.Evolves.ite ?_ ?_
        · refine State.Evolves.step ?_ (State.exReply_evolves ..) rfl
          refine State.Evolves.ite ?_ ?_
          · exact hx6
          · refine State.Evolves.step ?_ (State.count_evolves ..) rfl
            exact hx6
        · refine State.Evolves.ite ?_ ?_
          · exact hx6
          · refine State.Evolves.step ?_ (State.wr_evolves ..) rfl
            refine State.Evolves.step ?_ (State.wr_evolves ..) rfl
            exact hx6
    clear_value x8
    split
    · exact hx8
    · refine State.Evolves.ite ?_ ?_
      · refine State.Evolves.step ?_ (State.setRx_evolves ..) rfl
        exact hx8
      · extract_lets +onlyGivenNames x14
        clear_value x14
        extract_lets +onlyGivenNames x15
        clear_value x15
        extract_lets +onlyGivenNames x16
        clear_value x16
        extract_lets +onlyGivenNames x17
        clear_value x17
        extract_lets +onlyGivenNames x18
        clear_value x18
        extract_lets +onlyGivenNames x19
        clear_value x19
        extract_lets +onlyGivenNames x20
        refine State.Evolves.cut (fs := [.attic, .cellar, .larder, .host, .od, .meter, .sent, .bell, .ex]) (r := s) (x := x20) ?_ fun hx20 => ?_
        · unfold x20
          refine State.Evolves.step ?_ (State.applySegs_evolves ..) rfl
          exact hx8
        clear_value x20
        refine State.Evolves.ite ?_ ?_
        · refine State.Evolves.step ?_ (State.setRx_evolves ..) rfl
          exact hx20
        · extract_lets +onlyGivenNames x21
          refine State.Evolves.cut (fs := [.attic, .cellar, .larder, .host, .od, .meter, .sent, .bell, .ex]) (r := s) (x := x21) ?_ fun hx21 => ?_
          · unfold x21
            refine State.Evolves.step ?_ (State.setRx_evolves ..) rfl
            exact hx20
          clear_value x21
          refine State.Evolves.ite ?_ ?_
          · refine State.Evolves.step ?_ (State.exReply_evolves ..) rfl
            refine State.Evolves.ite ?_ ?_
            · exact hx21
            · refine State.Evolves.step ?_ (State.count_evolves ..) rfl
              exact hx21
          · refine State.Evolves.step ?_ (State.exReply_evolves ..) rfl
            refine State.Evolves.ite ?_ ?_
            · refine State.Evolves.step ?_ (State.restoreComplete_evolves ..) rfl
              exact hx21
            · refine State.Evolves.step ?_ (State.guestComplete_evolves ..) rfl
              exact hx21

theorem State.endExport_evolves (s : State) (j : ExJob) (err : Nat) :
    State.Evolves [.attic, .cellar, .larder, .host, .od, .captain, .stoker, .domains, .meter, .freeCtr, .lb, .rooms, .porch, .bell, .gz, .ex] s (State.endExport s j err) := by
  unfold State.endExport
  extract_lets +onlyGivenNames x0
  clear_value x0
  extract_lets +onlyGivenNames x1
  refine State.Evolves.cut (fs := [.attic, .cellar, .larder, .host, .od, .captain, .stoker, .domains, .meter, .freeCtr, .lb, .rooms, .porch, .bell, .gz, .ex]) (r := s) (x := x1) ?_ fun hx1 => ?_
  · unfold x1
    refine State.Evolves.upd (s := s) ?_ (State.tables_of rfl rfl rfl rfl rfl rfl rfl) rfl rfl rfl rfl rfl rfl rfl fun f hf => by cases f <;> first | rfl | simp at hf
    exact State.Evolves.refl _ _
  clear_value x1
  extract_lets +onlyGivenNames x2
  refine State.Evolves.cut (fs := [.attic, .cellar, .larder, .host, .od, .captain, .stoker, .domains, .meter, .freeCtr, .lb, .rooms, .porch, .bell, .gz, .ex]) (r := s) (x := x2) ?_ fun hx2 => ?_
  · unfold x2
    refine State.Evolves.step ?_ (State.count_evolves ..) rfl
    refine State.Evolves.step ?_ (State.count_evolves ..) rfl
    refine State.Evolves.step ?_ (State.setOd_evolves ..) rfl
    exact hx1
  clear_value x2
  extract_lets +onlyGivenNames x3
  refine State.Evolves.cut (fs := [.attic, .cellar, .larder, .host, .od, .captain, .stoker, .domains, .meter, .freeCtr, .lb, .rooms, .porch, .bell, .gz, .ex]) (r := s) (x := x3) ?_ fun hx3 => ?_
  · unfold x3
    refine State.Evolves.step ?_ (State.count_evolves ..) rfl
    exact hx2
  clear_value x3
  extract_lets +onlyGivenNames x4
  clear_value x4
  extract_lets +onlyGivenNames x5
  clear_value x5
  extract_lets +onlyGivenNames x6
  refine State.Evolves.cut (fs := [.attic, .cellar, .larder, .host, .od, .captain, .stoker, .domains, .meter, .freeCtr, .lb, .rooms, .porch, .bell, .gz, .ex]) (r := s) (x := x6) ?_ fun hx6 => ?_
  · unfold x6
    refine State.Evolves.ite ?_ ?_
    · exact hx1
    · refine State.Evolves.ite ?_ ?_
      · refine State.Evolves.upd (s := x3) ?_ (State.tables_of rfl rfl rfl rfl rfl rfl rfl) rfl rfl rfl rfl rfl rfl rfl fun f hf => by cases f <;> first | rfl | simp at hf
        exact hx3
      · refine State.Evolves.step ?_ (State.raise_evolves ..) rfl
        refine State.Evolves.upd (s := x1) ?_ (State.tables_of rfl rfl rfl rfl rfl rfl rfl) rfl rfl rfl rfl rfl rfl rfl fun f hf => by cases f <;> first | rfl | simp at hf
        exact hx1
  clear_value x6
  extract_lets +onlyGivenNames x7
  refine State.Evolves.cut (fs := [.attic, .cellar, .larder, .host, .od, .captain, .stoker, .domains, .meter, .freeCtr, .lb, .rooms, .porch, .bell, .gz, .ex]) (r := s) (x := x7) ?_ fun hx7 => ?_
  · unfold x7
    refine State.Evolves.step ?_ (State.endExportLetter_evolves ..) rfl
    exact hx6
  clear_value x7
  refine State.Evolves.step ?_ (State.stopDisabled_evolves ..) rfl
  refine State.Evolves.step ?_ (State.resumeOpen_evolves ..) rfl
  refine State.Evolves.step ?_ (State.setOd_evolves ..) rfl
  exact hx7

theorem State.exportLost_evolves (s : State) (g : Nat) (m : Nat) :
    State.Evolves [.attic, .cellar, .larder, .host, .od, .captain, .stoker, .domains, .meter, .freeCtr, .lb, .rooms, .porch, .bell, .gz, .ex] s (State.exportLost s g m) := by
  unfold State.exportLost
  split
  · exact State.Evolves.refl _ _
  · refine State.Evolves.ite ?_ ?_
    · refine State.Evolves.step ?_ (State.endExport_evolves ..) rfl
      exact State.Evolves.refl _ _
    · exact State.Evolves.refl _ _

theorem State.abandonExport_evolves (s : State) (b : Nat) :
    State.Evolves [.od, .meter, .freeCtr, .lb, .rooms, .porch, .ex] s (State.abandonExport s b) := by
  unfold State.abandonExport
  extract_lets +onlyGivenNames x0
  clear_value x0
  extract_lets +onlyGivenNames x1
  refine State.Evolves.cut (fs := [.od, .meter, .freeCtr, .lb, .rooms, .porch, .ex]) (r := s) (x := x1) ?_ fun hx1 => ?_
  · unfold x1
    refine State.Evolves.ite ?_ ?_
    · refine State.Evolves.upd (s := s) ?_ (State.tables_of rfl rfl rfl rfl rfl rfl rfl) rfl rfl rfl rfl rfl rfl rfl fun f hf => by cases f <;> first | rfl | simp at hf
      exact State.Evolves.refl _ _
    · exact State.Evolves.refl _ _
  clear_value x1
  split
  · exact hx1
  · refine State.Evolves.ite ?_ ?_
    · exact hx1
    · extract_lets +onlyGivenNames x7
      clear_value x7
      extract_lets +onlyGivenNames x8
      refine State.Evolves.cut (fs := [.od, .meter, .freeCtr, .lb, .rooms, .porch, .ex]) (r := s) (x := x8) ?_ fun hx8 => ?_
      · unfold x8
        refine State.Evolves.upd (s := x1) ?_ (State.tables_of rfl rfl rfl rfl rfl rfl rfl) rfl rfl rfl rfl rfl rfl rfl fun f hf => by cases f <;> first | rfl | simp at hf
        exact hx1
      clear_value x8
      refine State.Evolves.step ?_ (State.stopDisabled_evolves ..) rfl
      refine State.Evolves.step ?_ (State.setOd_evolves ..) rfl
      refine State.Evolves.step ?_ (State.endExportLetter_evolves ..) rfl
      exact hx8

theorem State.openLetter_evolves (s : State) (q : Nat) :
    State.Evolves [.attic, .cellar, .larder, .host, .od, .captain, .stoker, .domains, .meter, .freeCtr, .lb, .rooms, .porch, .bell, .gz, .ex] s (State.openLetter s q) := by
  unfold State.openLetter
  split
  · exact State.Evolves.refl _ _
  · split
    · refine State.Evolves.step ?_ (State.refuseLetter_evolves ..) rfl
      exact State.Evolves.refl _ _
    · extract_lets +onlyGivenNames x19
      clear_value x19
      extract_lets +onlyGivenNames x20
      clear_value x20
      extract_lets +onlyGivenNames x21
      refine State.Evolves.cut (fs := [.attic, .cellar, .larder, .host, .od, .captain, .stoker, .domains, .meter, .freeCtr, .lb, .rooms, .porch, .bell, .gz, .ex]) (r := s) (x := x21) ?_ fun hx21 => ?_
      · unfold x21
        refine State.Evolves.ite ?_ ?_
        · refine State.Evolves.step ?_ (State.raise_evolves ..) rfl
          refine State.Evolves.step ?_ (State.count_evolves ..) rfl
          exact State.Evolves.refl _ _
        · exact State.Evolves.refl _ _
      clear_value x21
      refine State.Evolves.ite ?_ ?_
      · extract_lets +onlyGivenNames x22
        clear_value x22
        extract_lets +onlyGivenNames x23
        clear_value x23
        extract_lets +onlyGivenNames x24
        refine State.Evolves.cut (fs := [.attic, .cellar, .larder, .host, .od, .captain, .stoker, .domains, .meter, .freeCtr, .lb, .rooms, .porch, .bell, .gz, .ex]) (r := s) (x := x24) ?_ fun hx24 => ?_
        · unfold x24
          refine State.Evolves.step ?_ (State.demand_evolves ..) rfl
          refine State.Evolves.step ?_ (State.launch_evolves ..) rfl
          refine State.Evolves.step ?_ (State.advanceHead_evolves ..) rfl
          exact hx21
        clear_value x24
        refine State.Evolves.step ?_ (State.setOd_evolves ..) rfl
        refine State.Evolves.upd (s := x24) ?_ (State.tables_of rfl rfl rfl rfl rfl rfl rfl) rfl rfl rfl rfl rfl rfl rfl fun f hf => by cases f <;> first | rfl | simp at hf
        exact hx24
      · extract_lets +onlyGivenNames x25
        refine State.Evolves.cut (fs := [.attic, .cellar, .larder, .host, .od, .captain, .stoker, .domains, .meter, .freeCtr, .lb, .rooms, .porch, .bell, .gz, .ex]) (r := s) (x := x25) ?_ fun hx25 => ?_
        · unfold x25
          refine State.Evolves.ite ?_ ?_
          · refine State.Evolves.step ?_ (State.abandonExport_evolves ..) rfl
            exact hx21
          · exact hx21
        clear_value x25
        split
        · rename_i v26 v27 v28 e29 v30 e31 v32 v33 v34 e35
          refine State.Evolves.cut (fs := [.attic, .cellar, .larder, .host, .od, .captain, .stoker, .domains, .meter, .freeCtr, .lb, .rooms, .porch, .bell, .gz, .ex]) (r := s) (x := v33) (State.Evolves.eqv ?_ (congrArg (fun y => y.1) e35)) fun hv33 => ?_
          · refine State.Evolves.step ?_ (State.gzTake_evolves ..) rfl
            exact hx25
          refine State.Evolves.step ?_ (State.gzComplete_evolves ..) rfl
          refine State.Evolves.step ?_ (State.gzOpenCommit_evolves ..) rfl
          refine State.Evolves.step ?_ (State.gzLatch_evolves ..) rfl
          exact hv33

theorem State.pieceLetter_evolves (s : State) (q : Nat) :
    State.Evolves [.attic, .cellar, .larder, .host, .od, .meter, .lb, .porch, .bell, .gz, .ex] s (State.pieceLetter s q) := by
  unfold State.pieceLetter
  split
  · exact State.Evolves.refl _ _
  · extract_lets +onlyGivenNames x6
    clear_value x6
    split
    · refine State.Evolves.step ?_ (State.refuseLetter_evolves ..) rfl
      exact State.Evolves.refl _ _
    · split
      · refine State.Evolves.step ?_ (State.refuseLetter_evolves ..) rfl
        exact State.Evolves.refl _ _
      · refine State.Evolves.ite ?_ ?_
        · refine State.Evolves.step ?_ (State.gzEndUpdate_evolves ..) rfl
          refine State.Evolves.step ?_ (State.refuseLetter_evolves ..) rfl
          exact State.Evolves.refl _ _
        · extract_lets +onlyGivenNames x37
          clear_value x37
          extract_lets +onlyGivenNames x38
          clear_value x38
          extract_lets +onlyGivenNames x39
          refine State.Evolves.cut (fs := [.attic, .cellar, .larder, .host, .od, .meter, .lb, .porch, .bell, .gz, .ex]) (r := s) (x := x39) ?_ fun hx39 => ?_
          · unfold x39
            refine State.Evolves.step ?_ (State.demand_evolves ..) rfl
            refine State.Evolves.step ?_ (State.launch_evolves ..) rfl
            refine State.Evolves.step ?_ (State.advanceHead_evolves ..) rfl
            exact State.Evolves.refl _ _
          clear_value x39
          extract_lets +onlyGivenNames x40
          refine State.Evolves.cut (fs := [.attic, .cellar, .larder, .host, .od, .meter, .lb, .porch, .bell, .gz, .ex]) (r := s) (x := x40) ?_ fun hx40 => ?_
          · unfold x40
            refine State.Evolves.ite ?_ ?_
            · refine State.Evolves.step ?_ (State.count_evolves ..) rfl
              exact hx39
            · exact hx39
          clear_value x40
          extract_lets +onlyGivenNames x41
          clear_value x41
          refine State.Evolves.step ?_ (State.gzDealAll_evolves ..) rfl
          refine State.Evolves.upd (s := x40) ?_ (State.tables_of rfl rfl rfl rfl rfl rfl rfl) rfl rfl rfl rfl rfl rfl rfl fun f hf => by cases f <;> first | rfl | simp at hf
          exact hx40

theorem State.guestSend_evolves (s : State) (q : Nat) :
    State.Evolves [.attic, .cellar, .larder, .host, .od, .meter, .freeCtr, .lb, .rooms, .porch, .bell, .gz, .ex] s (State.guestSend s q) := by
  unfold State.guestSend
  split
  · exact State.Evolves.refl _ _
  · extract_lets +onlyGivenNames x6
    clear_value x6
    extract_lets +onlyGivenNames x7
    clear_value x7
    extract_lets +onlyGivenNames x8
    clear_value x8
    extract_lets +onlyGivenNames x9
    clear_value x9
    split
    · refine State.Evolves.step ?_ (State.refuseLetter_evolves ..) rfl
      exact State.Evolves.refl _ _
    · extract_lets +onlyGivenNames x23
      refine State.Evolves.cut (fs := [.attic, .cellar, .larder, .host, .od, .meter, .freeCtr, .lb, .rooms, .porch, .bell, .gz, .ex]) (r := s) (x := x23) ?_ fun hx23 => ?_
      · unfold x23
        refine State.Evolves.step ?_ (State.exLaunch_evolves ..) rfl
        exact State.Evolves.refl _ _
      clear_value x23
      extract_lets +onlyGivenNames x24
      clear_value x24
      extract_lets +onlyGivenNames x25
      clear_value x25
      refine State.Evolves.ite ?_ ?_
      · refine State.Evolves.step ?_ (State.endExportLetter_evolves ..) rfl
        exact hx23
      · extract_lets +onlyGivenNames x26
        clear_value x26
        extract_lets +onlyGivenNames x27
        clear_value x27
        extract_lets +onlyGivenNames x28
        clear_value x28
        extract_lets +onlyGivenNames x29
        refine State.Evolves.cut (fs := [.attic, .cellar, .larder, .host, .od, .meter, .freeCtr, .lb, .rooms, .porch, .bell, .gz, .ex]) (r := s) (x := x29) ?_ fun hx29 => ?_
        · unfold x29
          refine State.Evolves.step ?_ (State.demand_evolves ..) rfl
          refine State.Evolves.upd (s := x23) ?_ (State.tables_of rfl rfl rfl rfl rfl rfl rfl) rfl rfl rfl rfl rfl rfl rfl fun f hf => by cases f <;> first | rfl | simp at hf
          exact hx23
        clear_value x29
        refine State.Evolves.step ?_ (State.setOd_evolves ..) rfl
        exact hx29

theorem State.exportLetter_evolves (s : State) (q : Nat) (guest : Nat) :
    State.Evolves [.attic, .cellar, .larder, .host, .od, .meter, .freeCtr, .lb, .rooms, .porch, .bell, .gz, .ex] s (State.exportLetter s q guest) := by
  unfold State.exportLetter
  split
  · exact State.Evolves.refl _ _
  · extract_lets +onlyGivenNames x6
    clear_value x6
    split
    · refine State.Evolves.step ?_ (State.refuseLetter_evolves ..) rfl
      exact State.Evolves.refl _ _
    · extract_lets +onlyGivenNames x20
      refine State.Evolves.cut (fs := [.attic, .cellar, .larder, .host, .od, .meter, .freeCtr, .lb, .rooms, .porch, .bell, .gz, .ex]) (r := s) (x := x20) ?_ fun hx20 => ?_
      · unfold x20
        refine State.Evolves.step ?_ (State.exLaunch_evolves ..) rfl
        exact State.Evolves.refl _ _
      clear_value x20
      extract_lets +onlyGivenNames x21
      clear_value x21
      extract_lets +onlyGivenNames x22
      clear_value x22
      extract_lets +onlyGivenNames x23
      refine State.Evolves.cut (fs := [.attic, .cellar, .larder, .host, .od, .meter, .freeCtr, .lb, .rooms, .porch, .bell, .gz, .ex]) (r := s) (x := x23) ?_ fun hx23 => ?_
      · unfold x23
        refine State.Evolves.ite ?_ ?_
        · refine State.Evolves.step ?_ (State.hostCopy_evolves ..) rfl
          exact hx20
        · exact hx20
      clear_value x23
      refine State.Evolves.ite ?_ ?_
      · refine State.Evolves.step ?_ (State.endExportLetter_evolves ..) rfl
        exact hx23
      · refine State.Evolves.ite ?_ ?_
        · refine State.Evolves.step ?_ (State.raise_evolves ..) rfl
          refine State.Evolves.step ?_ (State.endExportLetter_evolves ..) rfl
          exact hx23
        · refine State.Evolves.step ?_ (State.startExport_evolves ..) rfl
          exact hx23

theorem State.completeLetter_evolves (s : State) (q : Nat) (seq : Nat) :
    State.Evolves [.attic, .cellar, .larder, .host, .od, .meter, .sent, .lb, .porch, .bell, .gz, .ex, .pel, .mtr] s (State.completeLetter s q seq) := by
  unfold State.completeLetter
  split
  · exact State.Evolves.refl _ _
  · refine State.Evolves.ite ?_ ?_
    · refine State.Evolves.ite ?_ ?_
      · refine State.Evolves.step ?_ (State.endCollective_evolves ..) rfl
        exact State.Evolves.refl _ _
      · exact State.Evolves.refl _ _
    · refine State.Evolves.step ?_ (State.letterCompletion_evolves ..) rfl
      exact State.Evolves.refl _ _

theorem State.quantLetter_evolves (s : State) (q : Nat) :
    State.Evolves [.attic, .cellar, .larder, .host, .od, .meter, .freeCtr, .lb, .bell, .gz, .ex] s (State.quantLetter s q) := by
  unfold State.quantLetter
  split
  · exact State.Evolves.refl _ _
  · extract_lets +onlyGivenNames x6
    clear_value x6
    extract_lets +onlyGivenNames x7
    clear_value x7
    split
    · refine State.Evolves.step ?_ (State.refuseLetter_evolves ..) rfl
      exact State.Evolves.refl _ _
    · refine State.Evolves.ite ?_ ?_
      · refine State.Evolves.step ?_ (State.gzEndUpdate_evolves ..) rfl
        refine State.Evolves.step ?_ (State.refuseLetter_evolves ..) rfl
        exact State.Evolves.refl _ _
      · split
        · rename_i v21 v22 v23 e24 v25 e26 v27 v28 v29 e30
          refine State.Evolves.cut (fs := [.attic, .cellar, .larder, .host, .od, .meter, .freeCtr, .lb, .bell, .gz, .ex]) (r := s) (x := v28) (State.Evolves.eqv ?_ (congrArg (fun y => y.1) e30)) fun hv28 => ?_
          · refine State.Evolves.step ?_ (State.gzTake_evolves ..) rfl
            exact State.Evolves.refl _ _
          refine State.Evolves.step ?_ (State.gzComplete_evolves ..) rfl
          refine State.Evolves.step ?_ (State.gzQuant_evolves ..) rfl
          exact hv28

theorem State.exportAck_evolves (s : State) (h : Nat) :
    State.Evolves [.attic, .cellar, .larder, .host, .od, .captain, .stoker, .domains, .meter, .freeCtr, .lb, .rooms, .porch, .bell, .gz, .ex] s (State.exportAck s h) := by
  unfold State.exportAck
  split
  · exact State.Evolves.refl _ _
  · refine State.Evolves.ite ?_ ?_
    · exact State.Evolves.refl _ _
    · refine State.Evolves.ite ?_ ?_
      · refine State.Evolves.step ?_ (State.endExport_evolves ..) rfl
        exact State.Evolves.refl _ _
      · refine State.Evolves.step ?_ (State.endExport_evolves ..) rfl
        exact State.Evolves.refl _ _

theorem State.gzUnknown_evolves (s : State) (q : Nat) :
    State.Evolves [.attic, .cellar, .larder, .host, .od, .meter, .lb, .bell, .gz, .ex] s (State.gzUnknown s q) := by
  unfold State.gzUnknown
  split
  · exact State.Evolves.refl _ _
  · refine State.Evolves.step ?_ (State.refuseLetter_evolves ..) rfl
    exact State.Evolves.refl _ _

theorem State.exportNext_evolves (s : State) :
    State.Evolves [.sent, .ex] s (State.exportNext s) := by
  unfold State.exportNext
  split
  · exact State.Evolves.refl _ _
  · split
    · exact State.Evolves.refl _ _
    · refine State.Evolves.step ?_ (State.sendPeer_evolves ..) rfl
      refine State.Evolves.upd (s := s) ?_ (State.tables_of rfl rfl rfl rfl rfl rfl rfl) rfl rfl rfl rfl rfl rfl rfl fun f hf => by cases f <;> first | rfl | simp at hf
      exact State.Evolves.refl _ _

end Sys2Proof.Machine
end

