-- ==== Sys2Proof/Laws/EvolvesBoard.lean ====
section
/-! SUPPORT. How the state may develop, operation by operation: the Meter, clocks, power, security and the Dictionary. -/

namespace Sys2Proof.Machine

theorem State.setWatch_evolves (s : State) (w : SrcWatch) :
    State.Evolves [.pwr] s (State.setWatch s w) := by
  unfold State.setWatch
  refine State.Evolves.upd (s := s) ?_ (State.tables_of rfl rfl rfl rfl rfl rfl rfl) rfl rfl rfl rfl rfl rfl rfl fun f hf => by cases f <;> first | rfl | simp at hf
  exact State.Evolves.refl _ _

theorem State.setReady_evolves (s : State) (n : Nat) (b : Bool) :
    State.Evolves [.od] s (State.setReady s n b) := by
  unfold State.setReady
  extract_lets +onlyGivenNames x0
  clear_value x0
  refine State.Evolves.ite ?_ ?_
  · exact State.Evolves.refl _ _
  · refine State.Evolves.step ?_ (State.setOd_evolves ..) rfl
    exact State.Evolves.refl _ _

theorem State.xtalGate_evolves (s : State) (count : Nat) :
    State.Evolves [.od, .pwr] s (State.xtalGate s count) := by
  unfold State.xtalGate
  refine State.Evolves.ite ?_ ?_
  · exact State.Evolves.refl _ _
  · extract_lets +onlyGivenNames x0
    clear_value x0
    extract_lets +onlyGivenNames x1
    clear_value x1
    extract_lets +onlyGivenNames x2
    clear_value x2
    refine State.Evolves.ite ?_ ?_
    · refine State.Evolves.step ?_ (State.setWatch_evolves ..) rfl
      exact State.Evolves.refl _ _
    · refine State.Evolves.ite ?_ ?_
      · refine State.Evolves.step ?_ (State.setWatch_evolves ..) rfl
        exact State.Evolves.refl _ _
      · refine State.Evolves.step ?_ (State.setOd_evolves ..) rfl
        refine State.Evolves.step ?_ (State.setReady_evolves ..) rfl
        refine State.Evolves.step ?_ (State.setWatch_evolves ..) rfl
        exact State.Evolves.refl _ _

theorem State.xtalJudgeTimeout_evolves (s : State) :
    State.Evolves [.od] s (State.xtalJudgeTimeout s) := by
  unfold State.xtalJudgeTimeout
  refine State.Evolves.ite ?_ ?_
  · exact State.Evolves.refl _ _
  · extract_lets +onlyGivenNames x0
    clear_value x0
    extract_lets +onlyGivenNames x1
    refine State.Evolves.cut (fs := [.od]) (r := s) (x := x1) ?_ fun hx1 => ?_
    · unfold x1
      refine State.Evolves.foldl ?_ ?_
      · exact State.Evolves.refl _ _
      · intro t2 x3 ht2
        refine State.Evolves.ite ?_ ?_
        · refine State.Evolves.step ?_ (State.setOd_evolves ..) rfl
          exact ht2
        · exact ht2
    clear_value x1
    refine State.Evolves.step ?_ (State.setOd_evolves ..) rfl
    exact hx1

theorem State.sourceLost_evolves (s : State) (n : Nat) :
    State.Evolves [.od, .meter, .bell] s (State.sourceLost s n) := by
  unfold State.sourceLost
  refine State.Evolves.step ?_ (State.count_evolves ..) rfl
  refine State.Evolves.step ?_ (State.raise_evolves ..) rfl
  refine State.Evolves.step ?_ (State.setReady_evolves ..) rfl
  exact State.Evolves.refl _ _

theorem State.xtalMonitor_evolves (s : State) (count : Nat) :
    State.Evolves [.od, .meter, .bell, .pwr] s (State.xtalMonitor s count) := by
  unfold State.xtalMonitor
  refine State.Evolves.ite ?_ ?_
  · exact State.Evolves.refl _ _
  · extract_lets +onlyGivenNames x0
    clear_value x0
    refine State.Evolves.ite ?_ ?_
    · refine State.Evolves.ite ?_ ?_
      · refine State.Evolves.step ?_ (State.setOd_evolves ..) rfl
        refine State.Evolves.step ?_ (State.setWatch_evolves ..) rfl
        exact State.Evolves.refl _ _
      · refine State.Evolves.step ?_ (State.setWatch_evolves ..) rfl
        exact State.Evolves.refl _ _
    · refine State.Evolves.ite ?_ ?_
      · refine State.Evolves.step ?_ (State.sourceLost_evolves ..) rfl
        refine State.Evolves.step ?_ (State.setOd_evolves ..) rfl
        refine State.Evolves.step ?_ (State.setWatch_evolves ..) rfl
        exact State.Evolves.refl _ _
      · refine State.Evolves.step ?_ (State.setWatch_evolves ..) rfl
        exact State.Evolves.refl _ _

theorem State.pllLocked_evolves (s : State) (p : Nat) :
    State.Evolves [.od] s (State.pllLocked s p) := by
  unfold State.pllLocked
  refine State.Evolves.ite ?_ ?_
  · exact State.Evolves.refl _ _
  · refine State.Evolves.step ?_ (State.retunePlls_evolves ..) rfl
    refine State.Evolves.step ?_ (State.setPll_evolves ..) rfl
    exact State.Evolves.refl _ _

theorem State.refclkGate_evolves (s : State) (r : Nat) (count : Nat) :
    State.Evolves [.od, .meter, .bell, .pwr] s (State.refclkGate s r count) := by
  unfold State.refclkGate
  refine State.Evolves.ite ?_ ?_
  · exact State.Evolves.refl _ _
  · extract_lets +onlyGivenNames x0
    clear_value x0
    extract_lets +onlyGivenNames x1
    clear_value x1
    extract_lets +onlyGivenNames x2
    clear_value x2
    extract_lets +onlyGivenNames x3
    clear_value x3
    extract_lets +onlyGivenNames x4
    refine State.Evolves.cut (fs := [.od, .meter, .bell, .pwr]) (r := s) (x := x4) ?_ fun hx4 => ?_
    · unfold x4
      refine State.Evolves.step ?_ (State.setWatch_evolves ..) rfl
      exact State.Evolves.refl _ _
    clear_value x4
    refine State.Evolves.ite ?_ ?_
    · refine State.Evolves.step ?_ (State.setReady_evolves ..) rfl
      exact hx4
    · refine State.Evolves.ite ?_ ?_
      · refine State.Evolves.step ?_ (State.sourceLost_evolves ..) rfl
        exact hx4
      · exact hx4

theorem State.setLevel_evolves (s : State) (l : Nat) :
    State.Evolves [.od, .meter, .bell] s (State.setLevel s l) := by
  unfold State.setLevel
  extract_lets +onlyGivenNames x0
  clear_value x0
  extract_lets +onlyGivenNames x1
  refine State.Evolves.cut (fs := [.od, .meter, .bell]) (r := s) (x := x1) ?_ fun hx1 => ?_
  · unfold x1
    refine State.Evolves.step ?_ (State.retunePlls_evolves ..) rfl
    refine State.Evolves.step ?_ (State.setOd_evolves ..) rfl
    exact State.Evolves.refl _ _
  clear_value x1
  refine State.Evolves.ite ?_ ?_
  · extract_lets +onlyGivenNames x2
    refine State.Evolves.cut (fs := [.od, .meter, .bell]) (r := s) (x := x2) ?_ fun hx2 => ?_
    · unfold x2
      refine State.Evolves.step ?_ (State.raise_evolves ..) rfl
      exact hx1
    clear_value x2
    refine State.Evolves.step ?_ (State.count_evolves ..) rfl
    exact hx2
  · exact hx1

theorem State.switchPll_evolves (s : State) (p : Nat) (src : Nat) :
    State.Evolves [.od, .meter] s (State.switchPll s p src) := by
  unfold State.switchPll
  extract_lets +onlyGivenNames x0
  refine State.Evolves.cut (fs := [.od, .meter]) (r := s) (x := x0) ?_ fun hx0 => ?_
  · unfold x0
    refine State.Evolves.step ?_ (State.count_evolves ..) rfl
    refine State.Evolves.step ?_ (State.setOd_evolves ..) rfl
    exact State.Evolves.refl _ _
  clear_value x0
  refine State.Evolves.ite ?_ ?_
  · exact hx0
  · refine State.Evolves.step ?_ (State.retunePlls_evolves ..) rfl
    refine State.Evolves.step ?_ (State.setPll_evolves ..) rfl
    exact hx0

theorem State.thermalSample_evolves (s : State) (raw : List ℤ) :
    State.Evolves [.od, .meter, .bell, .pwr] s (State.thermalSample s raw) := by
  unfold State.thermalSample
  refine State.Evolves.ite ?_ ?_
  · exact State.Evolves.refl _ _
  · extract_lets +onlyGivenNames x0
    clear_value x0
    extract_lets +onlyGivenNames x1
    clear_value x1
    extract_lets +onlyGivenNames x2
    refine State.Evolves.cut (fs := [.od, .meter, .bell, .pwr]) (r := s) (x := x2) ?_ fun hx2 => ?_
    · unfold x2
      refine State.Evolves.foldl ?_ ?_
      · refine State.Evolves.step ?_ (State.setOd_evolves ..) rfl
        exact State.Evolves.refl _ _
      · intro t3 x4 ht3
        refine State.Evolves.step ?_ (State.setOd_evolves ..) rfl
        exact ht3
    clear_value x2
    extract_lets +onlyGivenNames x5
    clear_value x5
    extract_lets +onlyGivenNames x6
    clear_value x6
    refine State.Evolves.ite ?_ ?_
    · refine State.Evolves.step ?_ (State.setLevel_evolves ..) rfl
      refine State.Evolves.upd (s := x2) ?_ (State.tables_of rfl rfl rfl rfl rfl rfl rfl) rfl rfl rfl rfl rfl rfl rfl fun f hf => by cases f <;> first | rfl | simp at hf
      exact hx2
    · refine State.Evolves.ite ?_ ?_
      · refine State.Evolves.step ?_ (State.setLevel_evolves ..) rfl
        refine State.Evolves.upd (s := x2) ?_ (State.tables_of rfl rfl rfl rfl rfl rfl rfl) rfl rfl rfl rfl rfl rfl rfl fun f hf => by cases f <;> first | rfl | simp at hf
        exact hx2
      · refine State.Evolves.upd (s := x2) ?_ (State.tables_of rfl rfl rfl rfl rfl rfl rfl) rfl rfl rfl rfl rfl rfl rfl fun f hf => by cases f <;> first | rfl | simp at hf
        exact hx2

theorem State.xtalMissing_evolves (s : State) :
    State.Evolves [.od, .pwr] s (State.xtalMissing s) := by
  unfold State.xtalMissing
  refine State.Evolves.ite ?_ ?_
  · exact State.Evolves.refl _ _
  · refine State.Evolves.step ?_ (State.setOd_evolves ..) rfl
    refine State.Evolves.step ?_ (State.setWatch_evolves ..) rfl
    exact State.Evolves.refl _ _

theorem State.powerSample_evolves (s : State) (raw : List Nat) (input : Nat) :
    State.Evolves [.od] s (State.powerSample s raw input) := by
  unfold State.powerSample
  refine State.Evolves.ite ?_ ?_
  · exact State.Evolves.refl _ _
  · extract_lets +onlyGivenNames x0
    refine State.Evolves.cut (fs := [.od]) (r := s) (x := x0) ?_ fun hx0 => ?_
    · unfold x0
      refine State.Evolves.foldl ?_ ?_
      · exact State.Evolves.refl _ _
      · intro t1 x2 ht1
        refine State.Evolves.step ?_ (State.setOd_evolves ..) rfl
        exact ht1
    clear_value x0
    refine State.Evolves.step ?_ (State.setOd_evolves ..) rfl
    exact hx0

theorem State.freewheel_evolves (s : State) (p : Nat) :
    State.Evolves [.od, .meter, .bell, .pwr] s (State.freewheel s p) := by
  unfold State.freewheel
  refine State.Evolves.ite ?_ ?_
  · exact State.Evolves.refl _ _
  · extract_lets +onlyGivenNames x0
    clear_value x0
    extract_lets +onlyGivenNames x1
    refine State.Evolves.cut (fs := [.od, .meter, .bell, .pwr]) (r := s) (x := x1) ?_ fun hx1 => ?_
    · unfold x1
      refine State.Evolves.upd (s := s) ?_ (State.tables_of rfl rfl rfl rfl rfl rfl rfl) rfl rfl rfl rfl rfl rfl rfl fun f hf => by cases f <;> first | rfl | simp at hf
      exact State.Evolves.refl _ _
    clear_value x1
    refine State.Evolves.step ?_ (State.count_evolves ..) rfl
    refine State.Evolves.step ?_ (State.raise_evolves ..) rfl
    refine State.Evolves.step ?_ (State.retunePlls_evolves ..) rfl
    refine State.Evolves.step ?_ (State.setPll_evolves ..) rfl
    exact hx1

theorem State.clkIdleTimeout_evolves (s : State) (b : Nat) :
    State.Evolves [.od, .meter] s (State.clkIdleTimeout s b) := by
  unfold State.clkIdleTimeout
  refine State.Evolves.ite ?_ ?_
  · exact State.Evolves.refl _ _
  · refine State.Evolves.step ?_ (State.stopStation_evolves ..) rfl
    exact State.Evolves.refl _ _

theorem State.failoverSwitch_evolves (s : State) (p : Nat) :
    State.Evolves [.od, .meter] s (State.failoverSwitch s p) := by
  unfold State.failoverSwitch
  refine State.Evolves.ite ?_ ?_
  · exact State.Evolves.refl _ _
  · split
    · exact State.Evolves.refl _ _
    · refine State.Evolves.step ?_ (State.switchPll_evolves ..) rfl
      exact State.Evolves.refl _ _

theorem State.clkEnableWrite_evolves (s : State) (v : Nat) :
    State.Evolves [.od, .meter] s (State.clkEnableWrite s v) := by
  unfold State.clkEnableWrite
  refine State.Evolves.step ?_ (State.stopDisabled_evolves ..) rfl
  refine State.Evolves.step ?_ (State.setOd_evolves ..) rfl
  exact State.Evolves.refl _ _

theorem State.leavePilot_evolves (s : State) (cause : Nat) :
    State.Evolves [.od, .meter] s (State.leavePilot s cause) := by
  unfold State.leavePilot
  refine State.Evolves.ite ?_ ?_
  · exact State.Evolves.refl _ _
  · extract_lets +onlyGivenNames x0
    refine State.Evolves.cut (fs := [.od, .meter]) (r := s) (x := x0) ?_ fun hx0 => ?_
    · unfold x0
      refine State.Evolves.step ?_ (State.setPll_evolves ..) rfl
      refine State.Evolves.step ?_ (State.setOd_evolves ..) rfl
      exact State.Evolves.refl _ _
    clear_value x0
    refine State.Evolves.step ?_ (State.count_evolves ..) rfl
    refine State.Evolves.step ?_ (State.setOd_evolves ..) rfl
    refine State.Evolves.step ?_ (State.setOd_evolves ..) rfl
    refine State.Evolves.step ?_ (State.retunePlls_evolves ..) rfl
    exact hx0

theorem State.cold_evolves (s : State) (cause : Nat) :
    State.Evolves [.attic, .cellar, .larder, .od, .captain, .stoker, .domains, .meter, .lb, .rooms, .porch, .ws, .bell, .gz, .ex, .pel, .dict, .mtr, .pwr, .cxl, .sec] s (State.cold s cause) := by
  unfold State.cold
  dsimp only
  refine State.Evolves.step ?_ (State.setOd_evolves ..) rfl
  exact State.Evolves.upd' (State.Evolves.refl _ _) (fun h => ⟨rfl, rfl, rfl, h.2.2.2⟩) (fun ⟨h1, h2, h3, h4, h5, h6, h7⟩ => ⟨foldl_rising _ _ _ _ (foldl_rising _ _ _ _ (foldl_rising _ _ _ _ rfl)), rfl, rfl, rfl, rfl, rfl, rfl⟩) (fun _ x hx => by simp [State.reset] at hx)
    List.prefix_rfl (Nat.le_refl _) fun f hf => by cases f <;> first | rfl | simp at hf

theorem State.askReset_evolves (s : State) (cause : Nat) :
    State.Evolves [.pwr] s (State.askReset s cause) := by
  unfold State.askReset
  refine State.Evolves.ite ?_ ?_
  · exact State.Evolves.refl _ _
  · refine State.Evolves.upd (s := s) ?_ (State.tables_of rfl rfl rfl rfl rfl rfl rfl) rfl rfl rfl rfl rfl rfl rfl fun f hf => by cases f <;> first | rfl | simp at hf
    exact State.Evolves.refl _ _

theorem State.keepHousePin_evolves (s : State) :
    State.Evolves [.pwr] s (State.keepHousePin s) := by
  unfold State.keepHousePin
  refine State.Evolves.ite ?_ ?_
  · exact State.Evolves.refl _ _
  · refine State.Evolves.step ?_ (State.askReset_evolves ..) rfl
    refine State.Evolves.upd (s := s) ?_ (State.tables_of rfl rfl rfl rfl rfl rfl rfl) rfl rfl rfl rfl rfl rfl rfl fun f hf => by cases f <;> first | rfl | simp at hf
    exact State.Evolves.refl _ _

theorem State.wakeToService_evolves (s : State) (stations : List Nat) :
    State.Evolves [.od, .meter] s (State.wakeToService s stations) := by
  unfold State.wakeToService
  refine State.Evolves.ite ?_ ?_
  · exact State.Evolves.refl _ _
  · refine State.Evolves.step ?_ (State.demand_evolves ..) rfl
    refine State.Evolves.step ?_ (State.wake_evolves ..) rfl
    exact State.Evolves.refl _ _

theorem State.setPort_evolves (s : State) (p : Nat) (st : Nat) (width : Nat) (rate : Nat) :
    State.Evolves [.od, .bell] s (State.setPort s p st width rate) := by
  unfold State.setPort
  refine State.Evolves.step ?_ (State.raise_evolves ..) rfl
  refine State.Evolves.step ?_ (State.setOd_evolves ..) rfl
  refine State.Evolves.step ?_ (State.setOd_evolves ..) rfl
  refine State.Evolves.step ?_ (State.setOd_evolves ..) rfl
  exact State.Evolves.refl _ _

theorem State.linkDown_evolves (s : State) (p : Nat) :
    State.Evolves [.attic, .cellar, .larder, .host, .od, .meter, .sent, .lb, .porch, .bell, .pel] s (State.linkDown s p) := by
  unfold State.linkDown
  refine State.Evolves.ite ?_ ?_
  · exact State.Evolves.refl _ _
  · refine State.Evolves.step ?_ (State.plPortDown_evolves ..) rfl
    refine State.Evolves.step ?_ (State.count_evolves ..) rfl
    refine State.Evolves.step ?_ (State.setPort_evolves ..) rfl
    exact State.Evolves.refl _ _

theorem State.linkTrain_evolves (s : State) (p : Nat) :
    State.Evolves [.od, .bell] s (State.linkTrain s p) := by
  unfold State.linkTrain
  extract_lets +onlyGivenNames x0
  clear_value x0
  refine State.Evolves.ite ?_ ?_
  · exact State.Evolves.refl _ _
  · refine State.Evolves.step ?_ (State.setPort_evolves ..) rfl
    exact State.Evolves.refl _ _

theorem State.linkRetry_evolves (s : State) (p : Nat) :
    State.Evolves [.od, .bell] s (State.linkRetry s p) := by
  unfold State.linkRetry
  refine State.Evolves.ite ?_ ?_
  · refine State.Evolves.step ?_ (State.linkTrain_evolves ..) rfl
    exact State.Evolves.refl _ _
  · exact State.Evolves.refl _ _

theorem State.refclkPort_evolves (s : State) (r : Nat) (count : Nat) :
    State.Evolves [.attic, .cellar, .larder, .host, .od, .meter, .sent, .lb, .porch, .bell, .pel, .pwr] s (State.refclkPort s r count) := by
  unfold State.refclkPort
  extract_lets +onlyGivenNames x0
  refine State.Evolves.cut (fs := [.attic, .cellar, .larder, .host, .od, .meter, .sent, .lb, .porch, .bell, .pel, .pwr]) (r := s) (x := x0) ?_ fun hx0 => ?_
  · unfold x0
    refine State.Evolves.step ?_ (State.refclkGate_evolves ..) rfl
    exact State.Evolves.refl _ _
  clear_value x0
  refine State.Evolves.ite ?_ ?_
  · refine State.Evolves.step ?_ (State.linkDown_evolves ..) rfl
    exact hx0
  · refine State.Evolves.ite ?_ ?_
    · refine State.Evolves.step ?_ (State.linkRetry_evolves ..) rfl
      exact hx0
    · exact hx0

theorem State.powerOff_evolves (s : State) :
    State.Evolves [.attic, .cellar, .larder, .od, .captain, .stoker, .domains, .meter, .lb, .rooms, .porch, .ws, .bell, .gz, .ex, .pel, .dict, .mtr, .pwr, .cxl, .sec] s (State.powerOff s) := by
  unfold State.powerOff
  extract_lets +onlyGivenNames x0
  refine State.Evolves.cut (fs := [.attic, .cellar, .larder, .od, .captain, .stoker, .domains, .meter, .lb, .rooms, .porch, .ws, .bell, .gz, .ex, .pel, .dict, .mtr, .pwr, .cxl, .sec]) (r := s) (x := x0) ?_ fun hx0 => ?_
  · unfold x0
    refine State.Evolves.step ?_ (State.cold_evolves ..) rfl
    exact State.Evolves.refl _ _
  clear_value x0
  refine State.Evolves.upd (s := x0) ?_ (fun ⟨h1, h2, h3, h4, h5, h6, h7⟩ => ⟨by first | exact h1 | exact aset_rising h1, by first | exact h2 | exact aset_rising h2, by first | exact h3 | exact aset_rising h3, by first | exact h4 | exact aset_rising h4, by first | exact h5 | exact aset_rising h5, by first | exact h6 | exact sadd_wf h6 | exact sdel_wf h6 | exact swf_filter h6, by first | exact h7 | exact aset_rising h7 | exact rising_filter h7⟩) rfl rfl rfl rfl rfl rfl rfl fun f hf => by cases f <;> first | rfl | simp at hf
  exact hx0

theorem State.supplyLost_evolves (s : State) :
    State.Evolves [.attic, .cellar, .larder, .od, .captain, .stoker, .domains, .meter, .lb, .rooms, .porch, .ws, .bell, .gz, .ex, .pel, .dict, .mtr, .pwr, .cxl, .sec] s (State.supplyLost s) := by
  unfold State.supplyLost
  refine State.Evolves.ite ?_ ?_
  · exact State.Evolves.refl _ _
  · extract_lets +onlyGivenNames x0
    refine State.Evolves.cut (fs := [.attic, .cellar, .larder, .od, .captain, .stoker, .domains, .meter, .lb, .rooms, .porch, .ws, .bell, .gz, .ex, .pel, .dict, .mtr, .pwr, .cxl, .sec]) (r := s) (x := x0) ?_ fun hx0 => ?_
    · unfold x0
      refine State.Evolves.step ?_ (State.powerOff_evolves ..) rfl
      exact State.Evolves.refl _ _
    clear_value x0
    refine State.Evolves.upd (s := x0) ?_ (State.tables_of rfl rfl rfl rfl rfl rfl rfl) rfl rfl rfl rfl rfl rfl rfl fun f hf => by cases f <;> first | rfl | simp at hf
    exact hx0

theorem State.pwrEnFall_evolves (s : State) :
    State.Evolves [.attic, .cellar, .larder, .od, .captain, .stoker, .domains, .meter, .lb, .rooms, .porch, .ws, .bell, .gz, .ex, .pel, .dict, .mtr, .pwr, .cxl, .sec] s (State.pwrEnFall s) := by
  unfold State.pwrEnFall
  extract_lets +onlyGivenNames x0
  refine State.Evolves.cut (fs := [.attic, .cellar, .larder, .od, .captain, .stoker, .domains, .meter, .lb, .rooms, .porch, .ws, .bell, .gz, .ex, .pel, .dict, .mtr, .pwr, .cxl, .sec]) (r := s) (x := x0) ?_ fun hx0 => ?_
  · unfold x0
    refine State.Evolves.step ?_ (State.supplyLost_evolves ..) rfl
    exact State.Evolves.refl _ _
  clear_value x0
  refine State.Evolves.upd (s := x0) ?_ (State.tables_of rfl rfl rfl rfl rfl rfl rfl) rfl rfl rfl rfl rfl rfl rfl fun f hf => by cases f <;> first | rfl | simp at hf
  exact hx0

theorem State.enterHousekeeping_evolves (s : State) :
    State.Evolves [.od, .meter] s (State.enterHousekeeping s) := by
  unfold State.enterHousekeeping
  extract_lets +onlyGivenNames x0
  refine State.Evolves.cut (fs := [.od, .meter]) (r := s) (x := x0) ?_ fun hx0 => ?_
  · unfold x0
    refine State.Evolves.step ?_ (State.setPll_evolves ..) rfl
    refine State.Evolves.step ?_ (State.setPll_evolves ..) rfl
    refine State.Evolves.step ?_ (State.setPll_evolves ..) rfl
    exact State.Evolves.refl _ _
  clear_value x0
  refine State.Evolves.step ?_ (State.count_evolves ..) rfl
  refine State.Evolves.step ?_ (State.setOd_evolves ..) rfl
  refine State.Evolves.step ?_ (State.setOd_evolves ..) rfl
  exact hx0

theorem State.hkIdle_evolves (s : State) :
    State.Evolves [.od, .meter] s (State.hkIdle s) := by
  unfold State.hkIdle
  refine State.Evolves.ite ?_ ?_
  · exact State.Evolves.refl _ _
  · refine State.Evolves.step ?_ (State.enterHousekeeping_evolves ..) rfl
    exact State.Evolves.refl _ _

theorem State.auxOnEvent_evolves (s : State) (plca : Nat) :
    State.Evolves [.od, .tick, .bell, .pwr] s (State.auxOnEvent s plca) := by
  unfold State.auxOnEvent
  refine State.Evolves.ite ?_ ?_
  · exact State.Evolves.refl _ _
  · extract_lets +onlyGivenNames x0
    clear_value x0
    extract_lets +onlyGivenNames x1
    clear_value x1
    extract_lets +onlyGivenNames x2
    refine State.Evolves.cut (fs := [.od, .tick, .bell, .pwr]) (r := s) (x := x2) ?_ fun hx2 => ?_
    · unfold x2
      exact State.Evolves.upd (s := s) (State.Evolves.refl _ _) (fun ⟨h1, h2, h3, h4, h5, h6, h7⟩ => ⟨h1, h2, h3, h4, h5, rfl, rfl⟩) rfl rfl rfl rfl rfl rfl rfl fun f hf => by cases f <;> first | rfl | simp at hf
    clear_value x2
    refine State.Evolves.step ?_ (State.setOd_evolves ..) rfl
    refine State.Evolves.step ?_ (State.setOd_evolves ..) rfl
    refine State.Evolves.step ?_ (State.setOd_evolves ..) rfl
    refine State.Evolves.step ?_ (State.setOd_evolves ..) rfl
    exact hx2

theorem State.keepHouseRise_evolves (s : State) :
    State.Evolves [.pwr] s (State.keepHouseRise s) := by
  unfold State.keepHouseRise
  refine State.Evolves.upd (s := s) ?_ (State.tables_of rfl rfl rfl rfl rfl rfl rfl) rfl rfl rfl rfl rfl rfl rfl fun f hf => by cases f <;> first | rfl | simp at hf
  exact State.Evolves.refl _ _

theorem State.linkTrained_evolves (s : State) (p : Nat) (width : Nat) (rate : Nat) :
    State.Evolves [.od, .meter, .bell] s (State.linkTrained s p width rate) := by
  unfold State.linkTrained
  refine State.Evolves.ite ?_ ?_
  · exact State.Evolves.refl _ _
  · extract_lets +onlyGivenNames x0
    clear_value x0
    extract_lets +onlyGivenNames x1
    clear_value x1
    extract_lets +onlyGivenNames x2
    clear_value x2
    refine State.Evolves.ite ?_ ?_
    · refine State.Evolves.step ?_ (State.setPort_evolves ..) rfl
      exact State.Evolves.refl _ _
    · refine State.Evolves.step ?_ (State.count_evolves ..) rfl
      refine State.Evolves.step ?_ (State.setPort_evolves ..) rfl
      exact State.Evolves.refl _ _

theorem State.thermTrip_evolves (s : State) :
    State.Evolves [.attic, .cellar, .larder, .od, .captain, .stoker, .domains, .meter, .lb, .rooms, .porch, .ws, .bell, .gz, .ex, .pel, .dict, .mtr, .pwr, .cxl, .sec] s (State.thermTrip s) := by
  unfold State.thermTrip
  refine State.Evolves.ite ?_ ?_
  · exact State.Evolves.refl _ _
  · extract_lets +onlyGivenNames x0
    refine State.Evolves.cut (fs := [.attic, .cellar, .larder, .od, .captain, .stoker, .domains, .meter, .lb, .rooms, .porch, .ws, .bell, .gz, .ex, .pel, .dict, .mtr, .pwr, .cxl, .sec]) (r := s) (x := x0) ?_ fun hx0 => ?_
    · unfold x0
      refine State.Evolves.step ?_ (State.powerOff_evolves ..) rfl
      exact State.Evolves.refl _ _
    clear_value x0
    refine State.Evolves.upd (s := x0) ?_ (State.tables_of rfl rfl rfl rfl rfl rfl rfl) rfl rfl rfl rfl rfl rfl rfl fun f hf => by cases f <;> first | rfl | simp at hf
    exact hx0

theorem State.keepHouse_evolves (s : State) (cause : Nat) :
    State.Evolves [.larder, .od, .meter, .lb, .rooms, .porch, .ws, .bell, .gz, .ex, .pel, .dict, .mtr, .pwr, .cxl, .sec] s (State.keepHouse s cause) := by
  unfold State.keepHouse
  dsimp only
  have hx : State.Evolves [.larder, .od, .meter, .lb, .rooms, .porch, .ws, .bell, .gz, .ex, .pel, .dict, .mtr, .pwr, .cxl, .sec] s
      (([0, 1] : List Nat).foldl (fun s p => if (s.odv (K.portState p) == 0) = true then s else s.setPort p 0 0 0) s) :=
    State.Evolves.foldl (State.Evolves.refl _ _) fun t p ht => State.Evolves.ite ht (ht.step (State.setPort_evolves ..) rfl)
  refine State.Evolves.step ?_ (State.recipeLevel_evolves ..) rfl
  refine State.Evolves.step ?_ (State.setOd_evolves ..) rfl
  exact State.Evolves.upd' hx (fun h => ⟨h.1, h.2.1, rfl, h.2.2.2⟩) (fun ⟨h1, h2, h3, h4, h5, h6, h7⟩ => ⟨rising_filter h1, h2, h3, h4, rfl, swf_filter h6, rfl⟩) (fun _ y hy => by simp [State.reset] at hy)
    List.prefix_rfl (Nat.le_refl _) fun f hf => by cases f <;> first | rfl | simp at hf

theorem State.keepHouseBegin_evolves (s : State) :
    State.Evolves [.attic, .cellar, .larder, .od, .captain, .stoker, .domains, .meter, .lb, .rooms, .porch, .ws, .bell, .gz, .ex, .pel, .dict, .mtr, .pwr, .cxl, .sec] s (State.keepHouseBegin s) := by
  unfold State.keepHouseBegin
  split
  · exact State.Evolves.refl _ _
  · extract_lets +onlyGivenNames x5
    clear_value x5
    extract_lets +onlyGivenNames x6
    refine State.Evolves.cut (fs := [.attic, .cellar, .larder, .od, .captain, .stoker, .domains, .meter, .lb, .rooms, .porch, .ws, .bell, .gz, .ex, .pel, .dict, .mtr, .pwr, .cxl, .sec]) (r := s) (x := x6) ?_ fun hx6 => ?_
    · unfold x6
      refine State.Evolves.upd (s := s) ?_ (State.tables_of rfl rfl rfl rfl rfl rfl rfl) rfl rfl rfl rfl rfl rfl rfl fun f hf => by cases f <;> first | rfl | simp at hf
      exact State.Evolves.refl _ _
    clear_value x6
    refine State.Evolves.ite ?_ ?_
    · refine State.Evolves.step ?_ (State.cold_evolves ..) rfl
      exact hx6
    · refine State.Evolves.step ?_ (State.keepHouse_evolves ..) rfl
      exact hx6

theorem State.pilotWake_evolves (s : State) (cause : Nat) :
    State.Evolves [.od, .meter] s (State.pilotWake s cause) := by
  unfold State.pilotWake
  refine State.Evolves.ite ?_ ?_
  · exact State.Evolves.refl _ _
  · refine State.Evolves.ite ?_ ?_
    · refine State.Evolves.ite ?_ ?_
      · refine State.Evolves.step ?_ (State.count_evolves ..) rfl
        refine State.Evolves.step ?_ (State.leavePilot_evolves ..) rfl
        exact State.Evolves.refl _ _
      · exact State.Evolves.refl _ _
    · refine State.Evolves.ite ?_ ?_
      · refine State.Evolves.ite ?_ ?_
        · exact State.Evolves.refl _ _
        · refine State.Evolves.step ?_ (State.leavePilot_evolves ..) rfl
          exact State.Evolves.refl _ _
      · refine State.Evolves.ite ?_ ?_
        · refine State.Evolves.ite ?_ ?_
          · exact State.Evolves.refl _ _
          · refine State.Evolves.step ?_ (State.leavePilot_evolves ..) rfl
            exact State.Evolves.refl _ _
        · refine State.Evolves.ite ?_ ?_
          · refine State.Evolves.step ?_ (State.leavePilot_evolves ..) rfl
            exact State.Evolves.refl _ _
          · exact State.Evolves.refl _ _

theorem State.perstDeassert_evolves (s : State) (p : Nat) :
    State.Evolves [.od, .meter, .bell, .pwr] s (State.perstDeassert s p) := by
  unfold State.perstDeassert
  refine State.Evolves.ite ?_ ?_
  · exact State.Evolves.refl _ _
  · extract_lets +onlyGivenNames x0
    clear_value x0
    extract_lets +onlyGivenNames x1
    refine State.Evolves.cut (fs := [.od, .meter, .bell, .pwr]) (r := s) (x := x1) ?_ fun hx1 => ?_
    · unfold x1
      refine State.Evolves.ite ?_ ?_
      · refine State.Evolves.upd (s := s) ?_ (State.tables_of rfl rfl rfl rfl rfl rfl rfl) rfl rfl rfl rfl rfl rfl rfl fun f hf => by cases f <;> first | rfl | simp at hf
        exact State.Evolves.refl _ _
      · refine State.Evolves.upd (s := s) ?_ (State.tables_of rfl rfl rfl rfl rfl rfl rfl) rfl rfl rfl rfl rfl rfl rfl fun f hf => by cases f <;> first | rfl | simp at hf
        exact State.Evolves.refl _ _
    clear_value x1
    refine State.Evolves.step ?_ (State.linkRetry_evolves ..) rfl
    refine State.Evolves.step ?_ (State.pilotWake_evolves ..) rfl
    exact hx1

theorem State.coldBegin_evolves (s : State) :
    State.Evolves [.attic, .cellar, .larder, .od, .captain, .stoker, .domains, .meter, .lb, .rooms, .porch, .ws, .bell, .gz, .ex, .pel, .dict, .mtr, .pwr, .cxl, .sec] s (State.coldBegin s) := by
  unfold State.coldBegin
  refine State.Evolves.ite ?_ ?_
  · refine State.Evolves.step ?_ (State.cold_evolves ..) rfl
    exact State.Evolves.refl _ _
  · exact State.Evolves.refl _ _

theorem State.functionDefaults_evolves (s : State) :
    State.Evolves [.bell] s (State.functionDefaults s) := by
  unfold State.functionDefaults
  refine State.Evolves.upd (s := s) ?_ (State.tables_of rfl rfl rfl rfl rfl rfl rfl) rfl rfl rfl rfl rfl rfl rfl fun f hf => by cases f <;> first | rfl | simp at hf
  exact State.Evolves.refl _ _

theorem State.closeSessions_evolves (s : State) :
    State.Evolves [.dict] s (State.closeSessions s) := by
  unfold State.closeSessions
  refine State.Evolves.upd (s := s) ?_ (State.tables_of rfl rfl rfl rfl rfl rfl rfl) rfl rfl rfl rfl rfl rfl rfl fun f hf => by cases f <;> first | rfl | simp at hf
  exact State.Evolves.refl _ _

theorem State.mainFault_evolves (s : State) :
    State.Evolves [.attic, .cellar, .larder, .od, .captain, .stoker, .domains, .meter, .lb, .rooms, .porch, .ws, .bell, .gz, .ex, .pel, .dict, .mtr, .pwr, .cxl, .sec] s (State.mainFault s) := by
  unfold State.mainFault
  extract_lets +onlyGivenNames x0
  refine State.Evolves.cut (fs := [.attic, .cellar, .larder, .od, .captain, .stoker, .domains, .meter, .lb, .rooms, .porch, .ws, .bell, .gz, .ex, .pel, .dict, .mtr, .pwr, .cxl, .sec]) (r := s) (x := x0) ?_ fun hx0 => ?_
  · unfold x0
    refine State.Evolves.step ?_ (State.supplyLost_evolves ..) rfl
    exact State.Evolves.refl _ _
  clear_value x0
  refine State.Evolves.upd (s := x0) ?_ (State.tables_of rfl rfl rfl rfl rfl rfl rfl) rfl rfl rfl rfl rfl rfl rfl fun f hf => by cases f <;> first | rfl | simp at hf
  exact hx0

theorem State.enterPilot_evolves (s : State) :
    State.Evolves [.od, .meter, .dict] s (State.enterPilot s) := by
  unfold State.enterPilot
  extract_lets +onlyGivenNames x0
  refine State.Evolves.cut (fs := [.od, .meter, .dict]) (r := s) (x := x0) ?_ fun hx0 => ?_
  · unfold x0
    refine State.Evolves.step ?_ (State.setOd_evolves ..) rfl
    refine State.Evolves.step ?_ (State.setPll_evolves ..) rfl
    exact State.Evolves.refl _ _
  clear_value x0
  refine State.Evolves.step ?_ (State.closeSessions_evolves ..) rfl
  refine State.Evolves.step ?_ (State.count_evolves ..) rfl
  refine State.Evolves.step ?_ (State.setOd_evolves ..) rfl
  exact hx0

theorem State.auxFault_evolves (s : State) :
    State.Evolves [.attic, .cellar, .larder, .od, .captain, .stoker, .domains, .meter, .lb, .rooms, .porch, .ws, .bell, .gz, .ex, .pel, .dict, .mtr, .pwr, .cxl, .sec] s (State.auxFault s) := by
  unfold State.auxFault
  extract_lets +onlyGivenNames x0
  refine State.Evolves.cut (fs := [.attic, .cellar, .larder, .od, .captain, .stoker, .domains, .meter, .lb, .rooms, .porch, .ws, .bell, .gz, .ex, .pel, .dict, .mtr, .pwr, .cxl, .sec]) (r := s) (x := x0) ?_ fun hx0 => ?_
  · unfold x0
    refine State.Evolves.step ?_ (State.powerOff_evolves ..) rfl
    exact State.Evolves.refl _ _
  clear_value x0
  refine State.Evolves.upd (s := x0) ?_ (State.tables_of rfl rfl rfl rfl rfl rfl rfl) rfl rfl rfl rfl rfl rfl rfl fun f hf => by cases f <;> first | rfl | simp at hf
  exact hx0

theorem State.pwrReq_evolves (s : State) (v : Nat) :
    State.Evolves [.od, .meter, .dict] s (State.pwrReq s v) := by
  unfold State.pwrReq
  extract_lets +onlyGivenNames x0
  clear_value x0
  refine State.Evolves.ite ?_ ?_
  · refine State.Evolves.ite ?_ ?_
    · refine State.Evolves.step ?_ (State.enterPilot_evolves ..) rfl
      refine State.Evolves.step ?_ (State.enterHousekeeping_evolves ..) rfl
      exact State.Evolves.refl _ _
    · refine State.Evolves.step ?_ (State.enterPilot_evolves ..) rfl
      exact State.Evolves.refl _ _
  · refine State.Evolves.ite ?_ ?_
    · refine State.Evolves.ite ?_ ?_
      · refine State.Evolves.step ?_ (State.leavePilot_evolves ..) rfl
        exact State.Evolves.refl _ _
      · refine State.Evolves.step ?_ (State.enterHousekeeping_evolves ..) rfl
        exact State.Evolves.refl _ _
    · refine State.Evolves.step ?_ (State.startPll_evolves ..) rfl
      refine State.Evolves.step ?_ (State.setOd_evolves ..) rfl
      exact State.Evolves.refl _ _

theorem State.perstAssert_evolves (s : State) (p : Nat) :
    State.Evolves [.attic, .cellar, .larder, .host, .od, .meter, .sent, .lb, .porch, .bell, .pel, .dict, .pwr] s (State.perstAssert s p) := by
  unfold State.perstAssert
  refine State.Evolves.ite ?_ ?_
  · extract_lets +onlyGivenNames x0
    clear_value x0
    extract_lets +onlyGivenNames x1
    refine State.Evolves.cut (fs := [.attic, .cellar, .larder, .host, .od, .meter, .sent, .lb, .porch, .bell, .pel, .dict, .pwr]) (r := s) (x := x1) ?_ fun hx1 => ?_
    · unfold x1
      refine State.Evolves.upd (s := s) ?_ (State.tables_of rfl rfl rfl rfl rfl rfl rfl) rfl rfl rfl rfl rfl rfl rfl fun f hf => by cases f <;> first | rfl | simp at hf
      exact State.Evolves.refl _ _
    clear_value x1
    extract_lets +onlyGivenNames x2
    refine State.Evolves.cut (fs := [.attic, .cellar, .larder, .host, .od, .meter, .sent, .lb, .porch, .bell, .pel, .dict, .pwr]) (r := s) (x := x2) ?_ fun hx2 => ?_
    · unfold x2
      refine State.Evolves.step ?_ (State.functionDefaults_evolves ..) rfl
      exact hx1
    clear_value x2
    extract_lets +onlyGivenNames x3
    clear_value x3
    extract_lets +onlyGivenNames x4
    refine State.Evolves.cut (fs := [.attic, .cellar, .larder, .host, .od, .meter, .sent, .lb, .porch, .bell, .pel, .dict, .pwr]) (r := s) (x := x4) ?_ fun hx4 => ?_
    · unfold x4
      refine State.Evolves.upd (s := x2) ?_ (State.tables_of rfl rfl rfl rfl rfl rfl rfl) rfl rfl rfl rfl rfl rfl rfl fun f hf => by cases f <;> first | rfl | simp at hf
      exact hx2
    clear_value x4
    refine State.Evolves.step ?_ (State.linkDown_evolves ..) rfl
    exact hx4
  · refine State.Evolves.ite ?_ ?_
    · refine State.Evolves.step ?_ (State.linkDown_evolves ..) rfl
      refine State.Evolves.upd (s := s) ?_ (State.tables_of rfl rfl rfl rfl rfl rfl rfl) rfl rfl rfl rfl rfl rfl rfl fun f hf => by cases f <;> first | rfl | simp at hf
      exact State.Evolves.refl _ _
    · exact State.Evolves.refl _ _

theorem State.regulatorStart_evolves (s : State) :
    State.Evolves [.attic, .cellar, .larder, .od, .captain, .stoker, .domains, .meter, .lb, .rooms, .porch, .ws, .bell, .gz, .ex, .pel, .dict, .mtr, .pwr, .cxl, .sec] s (State.regulatorStart s) := by
  unfold State.regulatorStart
  refine State.Evolves.ite ?_ ?_
  · exact State.Evolves.refl _ _
  · extract_lets +onlyGivenNames x0
    refine State.Evolves.cut (fs := [.attic, .cellar, .larder, .od, .captain, .stoker, .domains, .meter, .lb, .rooms, .porch, .ws, .bell, .gz, .ex, .pel, .dict, .mtr, .pwr, .cxl, .sec]) (r := s) (x := x0) ?_ fun hx0 => ?_
    · unfold x0
      refine State.Evolves.step ?_ (State.cold_evolves ..) rfl
      exact State.Evolves.refl _ _
    clear_value x0
    refine State.Evolves.upd (s := x0) ?_ (State.tables_of rfl rfl rfl rfl rfl rfl rfl) rfl rfl rfl rfl rfl rfl rfl fun f hf => by cases f <;> first | rfl | simp at hf
    exact hx0

theorem State.recoveryLoad_evolves (s : State) (b : List Byte) :
    State.Evolves [.od, .pwr, .sec, .tap] s (State.recoveryLoad s b) := by
  unfold State.recoveryLoad
  refine State.Evolves.ite ?_ ?_
  · refine State.Evolves.upd (s := s) ?_ (State.tables_of rfl rfl rfl rfl rfl rfl rfl) rfl rfl rfl rfl rfl rfl rfl fun f hf => by cases f <;> first | rfl | simp at hf
    exact State.Evolves.refl _ _
  · refine State.Evolves.ite ?_ ?_
    · extract_lets +onlyGivenNames x0
      clear_value x0
      extract_lets +onlyGivenNames x1
      refine State.Evolves.cut (fs := [.od, .pwr, .sec, .tap]) (r := s) (x := x1) ?_ fun hx1 => ?_
      · unfold x1
        refine State.Evolves.step ?_ (State.setOd_evolves ..) rfl
        refine State.Evolves.upd (s := s) ?_ (State.tables_of rfl rfl rfl rfl rfl rfl rfl) rfl rfl rfl rfl rfl rfl rfl fun f hf => by cases f <;> first | rfl | simp at hf
        exact State.Evolves.refl _ _
      clear_value x1
      extract_lets +onlyGivenNames x2
      clear_value x2
      extract_lets +onlyGivenNames x3
      refine State.Evolves.cut (fs := [.od, .pwr, .sec, .tap]) (r := s) (x := x3) ?_ fun hx3 => ?_
      · unfold x3
        refine State.Evolves.upd (s := x1) ?_ (State.tables_of rfl rfl rfl rfl rfl rfl rfl) rfl rfl rfl rfl rfl rfl rfl fun f hf => by cases f <;> first | rfl | simp at hf
        exact hx1
      clear_value x3
      extract_lets +onlyGivenNames x4
      clear_value x4
      extract_lets +onlyGivenNames x5
      refine State.Evolves.cut (fs := [.od, .pwr, .sec, .tap]) (r := s) (x := x5) ?_ fun hx5 => ?_
      · unfold x5
        refine State.Evolves.step ?_ (State.setPll_evolves ..) rfl
        exact hx3
      clear_value x5
      refine State.Evolves.upd (s := x5) ?_ (State.tables_of rfl rfl rfl rfl rfl rfl rfl) rfl rfl rfl rfl rfl rfl rfl fun f hf => by cases f <;> first | rfl | simp at hf
      exact hx5
    · refine State.Evolves.upd (s := s) ?_ (State.tables_of rfl rfl rfl rfl rfl rfl rfl) rfl rfl rfl rfl rfl rfl rfl fun f hf => by cases f <;> first | rfl | simp at hf
      exact State.Evolves.refl _ _

theorem State.fwWriteDone_evolves (s : State) :
    State.Evolves [.od, .sec] s (State.fwWriteDone s) := by
  unfold State.fwWriteDone
  split
  · exact State.Evolves.refl _ _
  · extract_lets +onlyGivenNames x5
    refine State.Evolves.cut (fs := [.od, .sec]) (r := s) (x := x5) ?_ fun hx5 => ?_
    · unfold x5
      refine State.Evolves.step ?_ (State.setOd_evolves ..) rfl
      exact State.Evolves.refl _ _
    clear_value x5
    refine State.Evolves.upd (s := x5) ?_ (State.tables_of rfl rfl rfl rfl rfl rfl rfl) rfl rfl rfl rfl rfl rfl rfl fun f hf => by cases f <;> first | rfl | simp at hf
    exact hx5

theorem State.tapReset_evolves (s : State) :
    State.Evolves [.tap] s (State.tapReset s) := by
  unfold State.tapReset
  refine State.Evolves.ite ?_ ?_
  · refine State.Evolves.upd (s := s) ?_ (State.tables_of rfl rfl rfl rfl rfl rfl rfl) rfl rfl rfl rfl rfl rfl rfl fun f hf => by cases f <;> first | rfl | simp at hf
    exact State.Evolves.refl _ _
  · exact State.Evolves.refl _ _

theorem State.extest_evolves (s : State) (which : Nat) (pins : Nat) :
    State.Evolves [.tap] s (State.extest s which pins) := by
  unfold State.extest
  refine State.Evolves.ite ?_ ?_
  · exact State.Evolves.refl _ _
  · refine State.Evolves.ite ?_ ?_
    · refine State.Evolves.upd (s := s) ?_ (State.tables_of rfl rfl rfl rfl rfl rfl rfl) rfl rfl rfl rfl rfl rfl rfl fun f hf => by cases f <;> first | rfl | simp at hf
      exact State.Evolves.refl _ _
    · refine State.Evolves.upd (s := s) ?_ (State.tables_of rfl rfl rfl rfl rfl rfl rfl) rfl rfl rfl rfl rfl rfl rfl fun f hf => by cases f <;> first | rfl | simp at hf
      exact State.Evolves.refl _ _

theorem State.svnCommit_evolves (s : State) :
    State.Evolves [.od] s (State.svnCommit s) := by
  unfold State.svnCommit
  refine State.Evolves.step ?_ (State.setOd_evolves ..) rfl
  exact State.Evolves.refl _ _

theorem State.fwCommit_evolves (s : State) :
    State.Evolves [.od, .sec] s (State.fwCommit s) := by
  unfold State.fwCommit
  extract_lets +onlyGivenNames x0
  refine State.Evolves.cut (fs := [.od, .sec]) (r := s) (x := x0) ?_ fun hx0 => ?_
  · unfold x0
    refine State.Evolves.step ?_ (State.setOd_evolves ..) rfl
    exact State.Evolves.refl _ _
  clear_value x0
  refine State.Evolves.upd (s := x0) ?_ (State.tables_of rfl rfl rfl rfl rfl rfl rfl) rfl rfl rfl rfl rfl rfl rfl fun f hf => by cases f <;> first | rfl | simp at hf
  exact hx0

theorem State.fuseOwner_evolves (s : State) (hash : List Byte) :
    State.Evolves [.sec] s (State.fuseOwner s hash) := by
  unfold State.fuseOwner
  refine State.Evolves.upd (s := s) ?_ (State.tables_of rfl rfl rfl rfl rfl rfl rfl) rfl rfl rfl rfl rfl rfl rfl fun f hf => by cases f <;> first | rfl | simp at hf
  exact State.Evolves.refl _ _

theorem State.spdm_evolves (s : State) (path : Nat) (req : List Byte) :
    State.Evolves [.sec] s (State.spdm s path req).2 := by
  unfold State.spdm
  extract_lets +onlyGivenNames x0
  clear_value x0
  extract_lets +onlyGivenNames x1
  clear_value x1
  extract_lets +onlyGivenNames x2
  clear_value x2
  dsimp only
  refine State.Evolves.upd (s := s) ?_ (State.tables_of rfl rfl rfl rfl rfl rfl rfl) rfl rfl rfl rfl rfl rfl rfl fun f hf => by cases f <;> first | rfl | simp at hf
  exact State.Evolves.refl _ _

theorem State.spdmRequest_evolves (s : State) (path : Nat) (req : List Byte) :
    State.Evolves [.domains, .sent, .sec] s (State.spdmRequest s path req) := by
  unfold State.spdmRequest
  refine State.Evolves.ite ?_ ?_
  · split
    · rename_i v0 v1 v2 e3
      refine State.Evolves.cut (fs := [.domains, .sent, .sec]) (r := s) (x := v2) (State.Evolves.eqv ?_ (congrArg (fun y => y.2) e3)) fun hv2 => ?_
      · refine State.Evolves.step ?_ (State.spdm_evolves ..) rfl
        exact State.Evolves.refl _ _
      refine State.Evolves.step ?_ (State.setDomain_evolves ..) rfl
      refine State.Evolves.step ?_ (State.setDomain_evolves ..) rfl
      exact hv2
  · refine State.Evolves.ite ?_ ?_
    · split
      · rename_i v4 v5 v6 e7
        refine State.Evolves.cut (fs := [.domains, .sent, .sec]) (r := s) (x := v6) (State.Evolves.eqv ?_ (congrArg (fun y => y.2) e7)) fun hv6 => ?_
        · refine State.Evolves.step ?_ (State.spdm_evolves ..) rfl
          exact State.Evolves.refl _ _
        refine State.Evolves.step ?_ (State.send_evolves ..) rfl
        exact hv6
    · exact State.Evolves.refl _ _

theorem State.free32_evolves (s : State) :
    State.Evolves [.freeCtr] s (State.free32 s).2 := by
  unfold State.free32
  split
  · rename_i v0 v1 v2 e3
    refine State.Evolves.cut (fs := [.freeCtr]) (r := s) (x := v2) (State.Evolves.eqv ?_ (congrArg (fun y => y.2) e3)) fun hv2 => ?_
    · refine State.Evolves.step ?_ (State.free_evolves ..) rfl
      exact State.Evolves.refl _ _
    exact hv2

theorem State.snapStart_evolves (s : State) :
    State.Evolves [.mtr] s (State.snapStart s) := by
  unfold State.snapStart
  split
  · exact State.Evolves.refl _ _
  · refine State.Evolves.upd (s := s) ?_ (State.tables_of rfl rfl rfl rfl rfl rfl rfl) rfl rfl rfl rfl rfl rfl rfl fun f hf => by cases f <;> first | rfl | simp at hf
    exact State.Evolves.refl _ _

theorem State.snapEdge_evolves (s : State) :
    State.Evolves [.od, .meter, .tick, .bell, .mtr] s (State.snapEdge s) := by
  unfold State.snapEdge
  split
  · exact State.Evolves.refl _ _
  · extract_lets +onlyGivenNames x5
    refine State.Evolves.cut (fs := [.od, .meter, .tick, .bell, .mtr]) (r := s) (x := x5) ?_ fun hx5 => ?_
    · unfold x5
      refine State.Evolves.step ?_ (State.atLeast_evolves ..) rfl
      exact State.Evolves.refl _ _
    clear_value x5
    extract_lets +onlyGivenNames x6
    clear_value x6
    split
    · extract_lets +onlyGivenNames x14
      clear_value x14
      extract_lets +onlyGivenNames x15
      refine State.Evolves.cut (fs := [.od, .meter, .tick, .bell, .mtr]) (r := s) (x := x15) ?_ fun hx15 => ?_
      · unfold x15
        refine State.Evolves.step ?_ (State.setOd_evolves ..) rfl
        refine State.Evolves.step ?_ (State.setOd_evolves ..) rfl
        exact hx5
      clear_value x15
      refine State.Evolves.upd (s := x15) ?_ (State.tables_of rfl rfl rfl rfl rfl rfl rfl) rfl rfl rfl rfl rfl rfl rfl fun f hf => by cases f <;> first | rfl | simp at hf
      exact hx15

theorem State.takeHeld_evolves (s : State) (cause : Nat) :
    State.Evolves [.dict] s (State.takeHeld s cause).2 := by
  unfold State.takeHeld
  dsimp only
  refine State.Evolves.upd (s := s) ?_ (State.tables_of rfl rfl rfl rfl rfl rfl rfl) rfl rfl rfl rfl rfl rfl rfl fun f hf => by cases f <;> first | rfl | simp at hf
  exact State.Evolves.refl _ _

theorem State.setPeer_evolves (s : State) (x : XPeer) :
    State.Evolves [.dict] s (State.setPeer s x) := by
  unfold State.setPeer
  refine State.Evolves.upd (s := s) ?_ (State.tables_of rfl rfl rfl rfl rfl rfl rfl) rfl rfl rfl rfl rfl rfl rfl fun f hf => by cases f <;> first | rfl | simp at hf
  exact State.Evolves.refl _ _

theorem State.sendDatagram_evolves (s : State) (p : Nat) (req : List Byte) (rsp : List Byte) (code : Nat) :
    State.Evolves [.sent, .dict] s (State.sendDatagram s p req rsp code) := by
  unfold State.sendDatagram
  extract_lets +onlyGivenNames x0
  clear_value x0
  extract_lets +onlyGivenNames x1
  clear_value x1
  refine State.Evolves.step ?_ (State.send_evolves ..) rfl
  refine State.Evolves.step ?_ (State.setPeer_evolves ..) rfl
  exact State.Evolves.refl _ _

theorem State.answer_evolves (s : State) (w : Way) (req : List Byte) (code : Nat) (body : List Byte) :
    State.Evolves [.sent, .dict] s (State.answer s w req code body) := by
  unfold State.answer
  split
  · refine State.Evolves.step ?_ (State.send_evolves ..) rfl
    exact State.Evolves.refl _ _
  · refine State.Evolves.ite ?_ ?_
    · refine State.Evolves.step ?_ (State.send_evolves ..) rfl
      exact State.Evolves.refl _ _
    · refine State.Evolves.step ?_ (State.sendDatagram_evolves ..) rfl
      exact State.Evolves.refl _ _

theorem State.respond_evolves (s : State) (w : Way) (req : List Byte) (code : Nat) (body : List Byte) :
    State.Evolves [.meter, .sent, .dict] s (State.respond s w req code body) := by
  unfold State.respond
  extract_lets +onlyGivenNames x0
  refine State.Evolves.cut (fs := [.meter, .sent, .dict]) (r := s) (x := x0) ?_ fun hx0 => ?_
  · unfold x0
    refine State.Evolves.step ?_ (State.count_evolves ..) rfl
    exact State.Evolves.refl _ _
  clear_value x0
  refine State.Evolves.step ?_ (State.answer_evolves ..) rfl
  refine State.Evolves.ite ?_ ?_
  · exact hx0
  · refine State.Evolves.step ?_ (State.count_evolves ..) rfl
    exact hx0

theorem State.dropTransfer_evolves (s : State) (key : Nat) :
    State.Evolves [.dict] s (State.dropTransfer s key) := by
  unfold State.dropTransfer
  refine State.Evolves.upd (s := s) ?_ (State.tables_of rfl rfl rfl rfl rfl rfl rfl) rfl rfl rfl rfl rfl rfl rfl fun f hf => by cases f <;> first | rfl | simp at hf
  exact State.Evolves.refl _ _

theorem State.hold_evolves (s : State) (h : HeldAccess) :
    State.Evolves [.dict] s (State.hold s h) := by
  unfold State.hold
  refine State.Evolves.upd (s := s) ?_ (State.tables_of rfl rfl rfl rfl rfl rfl rfl) rfl rfl rfl rfl rfl rfl rfl fun f hf => by cases f <;> first | rfl | simp at hf
  exact State.Evolves.refl _ _

theorem State.odReadReq_evolves (s : State) (w : Way) (req : List Byte) (idx : Nat) (sub : Nat) (stoker : Bool) :
    State.Evolves [.od, .meter, .sent, .dict] s (State.odReadReq s w req idx sub stoker) := by
  unfold State.odReadReq
  extract_lets +onlyGivenNames x0
  clear_value x0
  refine State.Evolves.ite ?_ ?_
  · refine State.Evolves.step ?_ (State.respond_evolves ..) rfl
    exact State.Evolves.refl _ _
  · refine State.Evolves.ite ?_ ?_
    · refine State.Evolves.step ?_ (State.hold_evolves ..) rfl
      exact State.Evolves.refl _ _
    · extract_lets +onlyGivenNames x1
      refine State.Evolves.cut (fs := [.od, .meter, .sent, .dict]) (r := s) (x := x1) ?_ fun hx1 => ?_
      · unfold x1
        refine State.Evolves.step ?_ (State.demand_evolves ..) rfl
        exact State.Evolves.refl _ _
      clear_value x1
      refine State.Evolves.step ?_ (State.respond_evolves ..) rfl
      exact hx1

theorem State.libLoad_evolves (s : State) :
    State.Evolves [.od, .ws] s (State.libLoad s) := by
  unfold State.libLoad
  extract_lets +onlyGivenNames x0
  refine State.Evolves.cut (fs := [.od, .ws]) (r := s) (x := x0) ?_ fun hx0 => ?_
  · unfold x0
    refine State.Evolves.step ?_ (State.setOd_evolves ..) rfl
    exact State.Evolves.refl _ _
  clear_value x0
  refine State.Evolves.upd (s := x0) ?_ (State.tables_of rfl rfl rfl rfl rfl rfl rfl) rfl rfl rfl rfl rfl rfl rfl fun f hf => by cases f <;> first | rfl | simp at hf
  exact hx0

theorem State.plCommand_evolves (s : State) (v : Nat) :
    State.Evolves [.attic, .cellar, .larder, .host, .meter, .pel] s (State.plCommand s v) := by
  unfold State.plCommand
  refine State.Evolves.ite ?_ ?_
  · refine State.Evolves.step ?_ (State.rejoin_evolves ..) rfl
    exact State.Evolves.refl _ _
  · refine State.Evolves.step ?_ (State.clearMisses_evolves ..) rfl
    exact State.Evolves.refl _ _

theorem State.retrain_evolves (s : State) :
    State.Evolves [.domains, .pwr] s (State.retrain s) := by
  unfold State.retrain
  extract_lets +onlyGivenNames x0
  refine State.Evolves.cut (fs := [.domains, .pwr]) (r := s) (x := x0) ?_ fun hx0 => ?_
  · unfold x0
    refine State.Evolves.step ?_ (State.setDomain_evolves ..) rfl
    refine State.Evolves.step ?_ (State.setDomain_evolves ..) rfl
    exact State.Evolves.refl _ _
  clear_value x0
  refine State.Evolves.upd (s := x0) ?_ (State.tables_of rfl rfl rfl rfl rfl rfl rfl) rfl rfl rfl rfl rfl rfl rfl fun f hf => by cases f <;> first | rfl | simp at hf
  exact hx0

theorem State.setFlash_evolves (s : State) (key : Nat) (v : Nat) :
    State.Evolves [.od, .pwr] s (State.setFlash s key v) := by
  unfold State.setFlash
  extract_lets +onlyGivenNames x0
  refine State.Evolves.cut (fs := [.od, .pwr]) (r := s) (x := x0) ?_ fun hx0 => ?_
  · unfold x0
    refine State.Evolves.step ?_ (State.setOd_evolves ..) rfl
    exact State.Evolves.refl _ _
  clear_value x0
  refine State.Evolves.upd (s := x0) ?_ (State.tables_of rfl rfl rfl rfl rfl rfl rfl) rfl rfl rfl rfl rfl rfl rfl fun f hf => by cases f <;> first | rfl | simp at hf
  exact hx0

theorem State.odEffect_evolves (s : State) (idx : Nat) (sub : Nat) (v : Nat) :
    State.Evolves [.attic, .cellar, .larder, .host, .od, .stoker, .domains, .meter, .sent, .lb, .ws, .bell, .gz, .ex, .pel, .dict, .mtr, .pwr, .sec] s (State.odEffect s idx sub v) := by
  unfold State.odEffect
  extract_lets +onlyGivenNames x0
  clear_value x0
  split
  · exact State.Evolves.refl _ _
  · extract_lets +onlyGivenNames x6
    refine State.Evolves.cut (fs := [.attic, .cellar, .larder, .host, .od, .stoker, .domains, .meter, .sent, .lb, .ws, .bell, .gz, .ex, .pel, .dict, .mtr, .pwr, .sec]) (r := s) (x := x6) ?_ fun hx6 => ?_
    · unfold x6
      refine State.Evolves.step ?_ (State.demand_evolves ..) rfl
      exact State.Evolves.refl _ _
    clear_value x6
    refine State.Evolves.ite ?_ ?_
    · refine State.Evolves.step ?_ (State.setOd_evolves ..) rfl
      refine State.Evolves.step ?_ (State.setStk_evolves ..) rfl
      exact hx6
    · refine State.Evolves.ite ?_ ?_
      · refine State.Evolves.upd (s := x6) ?_ (State.tables_of rfl rfl rfl rfl rfl rfl rfl) rfl rfl rfl rfl rfl rfl rfl fun f hf => by cases f <;> first | rfl | simp at hf
        exact hx6
      · refine State.Evolves.ite ?_ ?_
        · refine State.Evolves.step ?_ (State.clkEnableWrite_evolves ..) rfl
          exact hx6
        · refine State.Evolves.ite ?_ ?_
          · refine State.Evolves.ite ?_ ?_
            · exact hx6
            · refine State.Evolves.step ?_ (State.switchPll_evolves ..) rfl
              exact hx6
          · refine State.Evolves.ite ?_ ?_
            · refine State.Evolves.step ?_ (State.retunePlls_evolves ..) rfl
              refine State.Evolves.step ?_ (State.setOd_evolves ..) rfl
              exact hx6
            · refine State.Evolves.ite ?_ ?_
              · refine State.Evolves.step ?_ (State.setOd_evolves ..) rfl
                exact hx6
              · refine State.Evolves.ite ?_ ?_
                · refine State.Evolves.step ?_ (State.setOd_evolves ..) rfl
                  exact State.Evolves.upd (s := x6) hx6 (fun ⟨h1, h2, h3, h4, h5, h6, h7⟩ => ⟨h1, h2, h2, h4, h5, h6, h7⟩) rfl rfl rfl rfl rfl rfl rfl fun f hf => by cases f <;> first | rfl | simp at hf
                · refine State.Evolves.ite ?_ ?_
                  · refine State.Evolves.step ?_ (State.doorbell_evolves ..) rfl
                    exact hx6
                  · refine State.Evolves.ite ?_ ?_
                    · refine State.Evolves.step ?_ (State.queueCmd_evolves ..) rfl
                      exact hx6
                    · refine State.Evolves.ite ?_ ?_
                      · refine State.Evolves.step ?_ (State.notifyAck_evolves ..) rfl
                        exact hx6
                      · refine State.Evolves.ite ?_ ?_
                        · refine State.Evolves.step ?_ (State.libLoad_evolves ..) rfl
                          exact hx6
                        · refine State.Evolves.ite ?_ ?_
                          · refine State.Evolves.step ?_ (State.recipeLevel_evolves ..) rfl
                            refine State.Evolves.step ?_ (State.setOd_evolves ..) rfl
                            exact hx6
                          · refine State.Evolves.ite ?_ ?_
                            · refine State.Evolves.step ?_ (State.gzInstall_evolves ..) rfl
                              exact hx6
                            · refine State.Evolves.ite ?_ ?_
                              · refine State.Evolves.step ?_ (State.pageCmd_evolves ..) rfl
                                exact hx6
                              · refine State.Evolves.ite ?_ ?_
                                · refine State.Evolves.step ?_ (State.bellGlobalWrite_evolves ..) rfl
                                  exact hx6
                                · refine State.Evolves.ite ?_ ?_
                                  · refine State.Evolves.step ?_ (State.bellClear_evolves ..) rfl
                                    exact hx6
                                  · refine State.Evolves.ite ?_ ?_
                                    · refine State.Evolves.step ?_ (State.bellAck_evolves ..) rfl
                                      exact hx6
                                    · refine State.Evolves.ite ?_ ?_
                                      · refine State.Evolves.step ?_ (State.bellRouteWrite_evolves ..) rfl
                                        exact hx6
                                      · refine State.Evolves.ite ?_ ?_
                                        · refine State.Evolves.step ?_ (State.bellVectorWrite_evolves ..) rfl
                                          exact hx6
                                        · refine State.Evolves.ite ?_ ?_
                                          · refine State.Evolves.step ?_ (State.snapStart_evolves ..) rfl
                                            exact hx6
                                          · refine State.Evolves.ite ?_ ?_
                                            · refine State.Evolves.step ?_ (State.svnCommit_evolves ..) rfl
                                              exact hx6
                                            · refine State.Evolves.ite ?_ ?_
                                              · refine State.Evolves.step ?_ (State.fwCommit_evolves ..) rfl
                                                exact hx6
                                              · refine State.Evolves.ite ?_ ?_
                                                · refine State.Evolves.step ?_ (State.fuseOwner_evolves ..) rfl
                                                  exact hx6
                                                · refine State.Evolves.ite ?_ ?_
                                                  · refine State.Evolves.step ?_ (State.plCommand_evolves ..) rfl
                                                    exact hx6
                                                  · refine State.Evolves.ite ?_ ?_
                                                    · refine State.Evolves.upd (s := x6) ?_ (State.tables_of rfl rfl rfl rfl rfl rfl rfl) rfl rfl rfl rfl rfl rfl rfl fun f hf => by cases f <;> first | rfl | simp at hf
                                                      exact hx6
                                                    · refine State.Evolves.ite ?_ ?_
                                                      · refine State.Evolves.step ?_ (State.retrain_evolves ..) rfl
                                                        exact hx6
                                                      · refine State.Evolves.ite ?_ ?_
                                                        · refine State.Evolves.step ?_ (State.setFlash_evolves ..) rfl
                                                          exact hx6
                                                        · refine State.Evolves.step ?_ (State.setOd_evolves ..) rfl
                                                          exact hx6

theorem State.odCommit_evolves (s : State) (w : Way) (req : List Byte) (idx : Nat) (sub : Nat) (v : Nat) (data : List Byte) :
    State.Evolves [.attic, .cellar, .larder, .host, .od, .stoker, .domains, .meter, .sent, .lb, .ws, .bell, .gz, .ex, .pel, .dict, .mtr, .pwr, .sec] s (State.odCommit s w req idx sub v data) := by
  unfold State.odCommit
  extract_lets +onlyGivenNames x0
  clear_value x0
  refine State.Evolves.ite ?_ ?_
  · refine State.Evolves.step ?_ (State.respond_evolves ..) rfl
    refine State.Evolves.ite ?_ ?_
    · refine State.Evolves.step ?_ (State.raise_evolves ..) rfl
      exact State.Evolves.refl _ _
    · exact State.Evolves.refl _ _
  · refine State.Evolves.ite ?_ ?_
    · refine State.Evolves.step ?_ (State.askReset_evolves ..) rfl
      refine State.Evolves.step ?_ (State.respond_evolves ..) rfl
      exact State.Evolves.refl _ _
    · refine State.Evolves.ite ?_ ?_
      · refine State.Evolves.step ?_ (State.pwrReq_evolves ..) rfl
        refine State.Evolves.step ?_ (State.respond_evolves ..) rfl
        exact State.Evolves.refl _ _
      · refine State.Evolves.ite ?_ ?_
        · refine State.Evolves.step ?_ (State.hold_evolves ..) rfl
          refine State.Evolves.step ?_ (State.odEffect_evolves ..) rfl
          exact State.Evolves.refl _ _
        · refine State.Evolves.ite ?_ ?_
          · refine State.Evolves.step ?_ (State.hold_evolves ..) rfl
            refine State.Evolves.step ?_ (State.odEffect_evolves ..) rfl
            exact State.Evolves.refl _ _
          · refine State.Evolves.step ?_ (State.respond_evolves ..) rfl
            refine State.Evolves.step ?_ (State.odEffect_evolves ..) rfl
            exact State.Evolves.refl _ _

theorem State.applyHeld_evolves (s : State) (h : HeldAccess) :
    State.Evolves [.attic, .cellar, .larder, .host, .od, .stoker, .domains, .meter, .sent, .lb, .ws, .bell, .gz, .ex, .pel, .dict, .mtr, .pwr, .sec] s (State.applyHeld s h) := by
  unfold State.applyHeld
  refine State.Evolves.step ?_ (State.odCommit_evolves ..) rfl
  exact State.Evolves.refl _ _

theorem State.calCommitEnd_evolves (s : State) :
    State.Evolves [.attic, .cellar, .larder, .host, .od, .stoker, .domains, .meter, .sent, .lb, .ws, .bell, .gz, .ex, .pel, .dict, .mtr, .pwr, .sec] s (State.calCommitEnd s) := by
  unfold State.calCommitEnd
  refine State.Evolves.ite ?_ ?_
  · exact State.Evolves.refl _ _
  · extract_lets +onlyGivenNames x0
    clear_value x0
    extract_lets +onlyGivenNames x1
    clear_value x1
    extract_lets +onlyGivenNames x2
    refine State.Evolves.cut (fs := [.attic, .cellar, .larder, .host, .od, .stoker, .domains, .meter, .sent, .lb, .ws, .bell, .gz, .ex, .pel, .dict, .mtr, .pwr, .sec]) (r := s) (x := x2) ?_ fun hx2 => ?_
    · unfold x2
      refine State.Evolves.upd (s := s) ?_ (State.tables_of rfl rfl rfl rfl rfl rfl rfl) rfl rfl rfl rfl rfl rfl rfl fun f hf => by cases f <;> first | rfl | simp at hf
      exact State.Evolves.refl _ _
    clear_value x2
    split
    · rename_i v3 v4 v5 e6
      refine State.Evolves.cut (fs := [.attic, .cellar, .larder, .host, .od, .stoker, .domains, .meter, .sent, .lb, .ws, .bell, .gz, .ex, .pel, .dict, .mtr, .pwr, .sec]) (r := s) (x := v5) (State.Evolves.eqv ?_ (congrArg (fun y => y.2) e6)) fun hv5 => ?_
      · refine State.Evolves.step ?_ (State.takeHeld_evolves ..) rfl
        exact hx2
      refine State.Evolves.foldl ?_ ?_
      · exact hv5
      · intro t7 x8 ht7
        refine State.Evolves.step ?_ (State.applyHeld_evolves ..) rfl
        exact ht7

theorem State.findTransfer_evolves (s : State) (w : Way) (key : Nat) :
    State.Evolves [.dict] s (State.findTransfer s w key).2.2 := by
  unfold State.findTransfer
  split
  · dsimp only
    exact State.Evolves.refl _ _
  · split
    · dsimp only
      refine State.Evolves.upd (s := s) ?_ (State.tables_of rfl rfl rfl rfl rfl rfl rfl) rfl rfl rfl rfl rfl rfl rfl fun f hf => by cases f <;> first | rfl | simp at hf
      exact State.Evolves.refl _ _
    · dsimp only
      exact State.Evolves.refl _ _

theorem State.domainEffect_evolves (s : State) (idx : Nat) (data : List Byte) :
    State.Evolves [.od, .domains, .meter, .sent, .sec] s (State.domainEffect s idx data) := by
  unfold State.domainEffect
  extract_lets +onlyGivenNames x0
  refine State.Evolves.cut (fs := [.od, .domains, .meter, .sent, .sec]) (r := s) (x := x0) ?_ fun hx0 => ?_
  · unfold x0
    refine State.Evolves.step ?_ (State.demand_evolves ..) rfl
    exact State.Evolves.refl _ _
  clear_value x0
  refine State.Evolves.ite ?_ ?_
  · refine State.Evolves.upd (s := x0) ?_ (State.tables_of rfl rfl rfl rfl rfl rfl rfl) rfl rfl rfl rfl rfl rfl rfl fun f hf => by cases f <;> first | rfl | simp at hf
    exact hx0
  · refine State.Evolves.ite ?_ ?_
    · refine State.Evolves.step ?_ (State.spdmRequest_evolves ..) rfl
      exact hx0
    · refine State.Evolves.step ?_ (State.setDomain_evolves ..) rfl
      exact hx0

theorem State.blockEnd_evolves (s : State) (w : Way) (req : List Byte) (idx : Nat) (sub : Nat) (crc : Nat) :
    State.Evolves [.od, .domains, .meter, .sent, .dict, .sec] s (State.blockEnd s w req idx sub crc) := by
  unfold State.blockEnd
  extract_lets +onlyGivenNames x0
  clear_value x0
  extract_lets +onlyGivenNames x1
  clear_value x1
  refine State.Evolves.ite ?_ ?_
  · refine State.Evolves.step ?_ (State.respond_evolves ..) rfl
    exact State.Evolves.refl _ _
  · split
    · rename_i v2 v3 v4 e5
      refine State.Evolves.cut (fs := [.od, .domains, .meter, .sent, .dict, .sec]) (r := s) (x := v4) (State.Evolves.eqv ?_ (congrArg (fun y => y.2.2) e5)) fun hv4 => ?_
      · refine State.Evolves.step ?_ (State.findTransfer_evolves ..) rfl
        exact State.Evolves.refl _ _
      refine State.Evolves.step ?_ (State.respond_evolves ..) rfl
      exact hv4
    · rename_i v6 v7 v8 v9 e10
      refine State.Evolves.cut (fs := [.od, .domains, .meter, .sent, .dict, .sec]) (r := s) (x := v9) (State.Evolves.eqv ?_ (congrArg (fun y => y.2.2) e10)) fun hv9 => ?_
      · refine State.Evolves.step ?_ (State.findTransfer_evolves ..) rfl
        exact State.Evolves.refl _ _
      extract_lets +onlyGivenNames x11
      refine State.Evolves.cut (fs := [.od, .domains, .meter, .sent, .dict, .sec]) (r := s) (x := x11) ?_ fun hx11 => ?_
      · unfold x11
        refine State.Evolves.step ?_ (State.dropTransfer_evolves ..) rfl
        exact hv9
      clear_value x11
      extract_lets +onlyGivenNames x12
      clear_value x12
      refine State.Evolves.ite ?_ ?_
      · refine State.Evolves.step ?_ (State.respond_evolves ..) rfl
        exact hx11
      · refine State.Evolves.step ?_ (State.respond_evolves ..) rfl
        refine State.Evolves.step ?_ (State.domainEffect_evolves ..) rfl
        exact hx11

theorem State.odWrite_evolves (s : State) (w : Way) (req : List Byte) (idx : Nat) (sub : Nat) (ty : Nat) (data : List Byte) :
    State.Evolves [.attic, .cellar, .larder, .host, .od, .stoker, .domains, .meter, .sent, .lb, .ws, .bell, .gz, .ex, .pel, .dict, .mtr, .pwr, .sec] s (State.odWrite s w req idx sub ty data) := by
  unfold State.odWrite
  extract_lets +onlyGivenNames x0
  clear_value x0
  refine State.Evolves.ite ?_ ?_
  · refine State.Evolves.step ?_ (State.respond_evolves ..) rfl
    exact State.Evolves.refl _ _
  · refine State.Evolves.ite ?_ ?_
    · refine State.Evolves.step ?_ (State.hold_evolves ..) rfl
      exact State.Evolves.refl _ _
    · refine State.Evolves.ite ?_ ?_
      · refine State.Evolves.step ?_ (State.count_evolves ..) rfl
        refine State.Evolves.step ?_ (State.hold_evolves ..) rfl
        exact State.Evolves.refl _ _
      · refine State.Evolves.ite ?_ ?_
        · refine State.Evolves.step ?_ (State.hold_evolves ..) rfl
          exact State.Evolves.refl _ _
        · refine State.Evolves.step ?_ (State.odCommit_evolves ..) rfl
          exact State.Evolves.refl _ _

theorem State.pllLockedServe_evolves (s : State) (p : Nat) :
    State.Evolves [.attic, .cellar, .larder, .host, .od, .stoker, .domains, .meter, .sent, .lb, .ws, .bell, .gz, .ex, .pel, .dict, .mtr, .pwr, .sec] s (State.pllLockedServe s p) := by
  unfold State.pllLockedServe
  extract_lets +onlyGivenNames x0
  refine State.Evolves.cut (fs := [.attic, .cellar, .larder, .host, .od, .stoker, .domains, .meter, .sent, .lb, .ws, .bell, .gz, .ex, .pel, .dict, .mtr, .pwr, .sec]) (r := s) (x := x0) ?_ fun hx0 => ?_
  · unfold x0
    refine State.Evolves.step ?_ (State.pllLocked_evolves ..) rfl
    exact State.Evolves.refl _ _
  clear_value x0
  split
  · rename_i v1 v2 v3 e4
    refine State.Evolves.cut (fs := [.attic, .cellar, .larder, .host, .od, .stoker, .domains, .meter, .sent, .lb, .ws, .bell, .gz, .ex, .pel, .dict, .mtr, .pwr, .sec]) (r := s) (x := v3) (State.Evolves.eqv ?_ (congrArg (fun y => y.2) e4)) fun hv3 => ?_
    · refine State.Evolves.step ?_ (State.takeHeld_evolves ..) rfl
      exact hx0
    refine State.Evolves.foldl ?_ ?_
    · exact hv3
    · intro t5 x6 ht5
      refine State.Evolves.ite ?_ ?_
      · refine State.Evolves.step ?_ (State.odReadReq_evolves ..) rfl
        exact ht5
      · refine State.Evolves.step ?_ (State.odWrite_evolves ..) rfl
        exact ht5

theorem State.blockTimeout_evolves (s : State) (idx : Nat) (sub : Nat) :
    State.Evolves [.dict] s (State.blockTimeout s idx sub) := by
  unfold State.blockTimeout
  extract_lets +onlyGivenNames x0
  clear_value x0
  split
  · exact State.Evolves.refl _ _
  · extract_lets +onlyGivenNames x6
    refine State.Evolves.cut (fs := [.dict]) (r := s) (x := x6) ?_ fun hx6 => ?_
    · unfold x6
      refine State.Evolves.step ?_ (State.dropTransfer_evolves ..) rfl
      exact State.Evolves.refl _ _
    clear_value x6
    refine State.Evolves.upd (s := x6) ?_ (State.tables_of rfl rfl rfl rfl rfl rfl rfl) rfl rfl rfl rfl rfl rfl rfl fun f hf => by cases f <;> first | rfl | simp at hf
    exact hx6

theorem State.odWriteObj_evolves (s : State) (w : Way) (idx : Nat) (sub : Nat) (data : List Byte) :
    State.Evolves [.attic, .cellar, .larder, .host, .od, .stoker, .domains, .meter, .sent, .lb, .ws, .bell, .gz, .ex, .pel, .dict, .mtr, .pwr, .sec] s (State.odWriteObj s w idx sub data) := by
  unfold State.odWriteObj
  refine State.Evolves.step ?_ (State.odWrite_evolves ..) rfl
  exact State.Evolves.refl _ _

theorem State.blockSegment_evolves (s : State) (w : Way) (req : List Byte) (idx : Nat) (sub : Nat) (off : Nat) (len : Nat) (data : List Byte) :
    State.Evolves [.meter, .sent, .dict] s (State.blockSegment s w req idx sub off len data) := by
  unfold State.blockSegment
  extract_lets +onlyGivenNames x0
  clear_value x0
  extract_lets +onlyGivenNames x1
  clear_value x1
  refine State.Evolves.ite ?_ ?_
  · refine State.Evolves.step ?_ (State.respond_evolves ..) rfl
    exact State.Evolves.refl _ _
  · split
    · rename_i v2 v3 v4 e5
      refine State.Evolves.cut (fs := [.meter, .sent, .dict]) (r := s) (x := v4) (State.Evolves.eqv ?_ (congrArg (fun y => y.2.2) e5)) fun hv4 => ?_
      · refine State.Evolves.step ?_ (State.findTransfer_evolves ..) rfl
        exact State.Evolves.refl _ _
      refine State.Evolves.step ?_ (State.respond_evolves ..) rfl
      exact hv4
    · rename_i v6 v7 v8 v9 e10
      refine State.Evolves.cut (fs := [.meter, .sent, .dict]) (r := s) (x := v9) (State.Evolves.eqv ?_ (congrArg (fun y => y.2.2) e10)) fun hv9 => ?_
      · refine State.Evolves.step ?_ (State.findTransfer_evolves ..) rfl
        exact State.Evolves.refl _ _
      refine State.Evolves.ite ?_ ?_
      · refine State.Evolves.step ?_ (State.respond_evolves ..) rfl
        exact hv9
      · refine State.Evolves.ite ?_ ?_
        · refine State.Evolves.step ?_ (State.respond_evolves ..) rfl
          refine State.Evolves.step ?_ (State.dropTransfer_evolves ..) rfl
          exact hv9
        · extract_lets +onlyGivenNames x11
          clear_value x11
          extract_lets +onlyGivenNames x12
          refine State.Evolves.cut (fs := [.meter, .sent, .dict]) (r := s) (x := x12) ?_ fun hx12 => ?_
          · unfold x12
            refine State.Evolves.step ?_ (State.dropTransfer_evolves ..) rfl
            exact hv9
          clear_value x12
          extract_lets +onlyGivenNames x13
          clear_value x13
          extract_lets +onlyGivenNames x14
          refine State.Evolves.cut (fs := [.meter, .sent, .dict]) (r := s) (x := x14) ?_ fun hx14 => ?_
          · unfold x14
            refine State.Evolves.upd (s := x12) ?_ (State.tables_of rfl rfl rfl rfl rfl rfl rfl) rfl rfl rfl rfl rfl rfl rfl fun f hf => by cases f <;> first | rfl | simp at hf
            exact hx12
          clear_value x14
          refine State.Evolves.step ?_ (State.respond_evolves ..) rfl
          exact hx14

theorem State.snapshotEdge_evolves (s : State) :
    State.Evolves [.od, .meter, .tick, .sent, .bell, .dict, .mtr] s (State.snapshotEdge s) := by
  unfold State.snapshotEdge
  refine State.Evolves.ite ?_ ?_
  · exact State.Evolves.refl _ _
  · extract_lets +onlyGivenNames x0
    refine State.Evolves.cut (fs := [.od, .meter, .tick, .sent, .bell, .dict, .mtr]) (r := s) (x := x0) ?_ fun hx0 => ?_
    · unfold x0
      refine State.Evolves.step ?_ (State.snapEdge_evolves ..) rfl
      exact State.Evolves.refl _ _
    clear_value x0
    split
    · rename_i v1 v2 v3 e4
      refine State.Evolves.cut (fs := [.od, .meter, .tick, .sent, .bell, .dict, .mtr]) (r := s) (x := v3) (State.Evolves.eqv ?_ (congrArg (fun y => y.2) e4)) fun hv3 => ?_
      · refine State.Evolves.step ?_ (State.takeHeld_evolves ..) rfl
        exact hx0
      extract_lets +onlyGivenNames x5
      clear_value x5
      refine State.Evolves.foldl ?_ ?_
      · exact hv3
      · intro t6 x7 ht6
        refine State.Evolves.step ?_ (State.respond_evolves ..) rfl
        exact ht6

theorem State.blockRead_evolves (s : State) (w : Way) (req : List Byte) (idx : Nat) (sub : Nat) (off : Nat) (len : Nat) :
    State.Evolves [.od, .meter, .sent, .dict] s (State.blockRead s w req idx sub off len) := by
  unfold State.blockRead
  extract_lets +onlyGivenNames x0
  clear_value x0
  extract_lets +onlyGivenNames x1
  clear_value x1
  extract_lets +onlyGivenNames x2
  clear_value x2
  refine State.Evolves.ite ?_ ?_
  · refine State.Evolves.step ?_ (State.respond_evolves ..) rfl
    exact State.Evolves.refl _ _
  · extract_lets +onlyGivenNames x3
    refine State.Evolves.cut (fs := [.od, .meter, .sent, .dict]) (r := s) (x := x3) ?_ fun hx3 => ?_
    · unfold x3
      refine State.Evolves.step ?_ (State.demand_evolves ..) rfl
      exact State.Evolves.refl _ _
    clear_value x3
    extract_lets +onlyGivenNames x4
    clear_value x4
    refine State.Evolves.ite ?_ ?_
    · refine State.Evolves.step ?_ (State.respond_evolves ..) rfl
      exact hx3
    · extract_lets +onlyGivenNames x5
      clear_value x5
      extract_lets +onlyGivenNames x6
      clear_value x6
      extract_lets +onlyGivenNames x7
      clear_value x7
      extract_lets +onlyGivenNames x8
      refine State.Evolves.cut (fs := [.od, .meter, .sent, .dict]) (r := s) (x := x8) ?_ fun hx8 => ?_
      · unfold x8
        refine State.Evolves.ite ?_ ?_
        · refine State.Evolves.upd (s := x3) ?_ (State.tables_of rfl rfl rfl rfl rfl rfl rfl) rfl rfl rfl rfl rfl rfl rfl fun f hf => by cases f <;> first | rfl | simp at hf
          exact hx3
        · exact hx3
      clear_value x8
      extract_lets +onlyGivenNames x9
      clear_value x9
      refine State.Evolves.step ?_ (State.respond_evolves ..) rfl
      exact hx8

theorem State.snapshotReq_evolves (s : State) (w : Way) (req : List Byte) :
    State.Evolves [.meter, .sent, .dict, .mtr] s (State.snapshotReq s w req) := by
  unfold State.snapshotReq
  extract_lets +onlyGivenNames x0
  clear_value x0
  refine State.Evolves.ite ?_ ?_
  · refine State.Evolves.step ?_ (State.respond_evolves ..) rfl
    exact State.Evolves.refl _ _
  · refine State.Evolves.step ?_ (State.hold_evolves ..) rfl
    refine State.Evolves.step ?_ (State.snapStart_evolves ..) rfl
    exact State.Evolves.refl _ _

theorem State.blockBegin_evolves (s : State) (w : Way) (req : List Byte) (idx : Nat) (sub : Nat) (size : Nat) :
    State.Evolves [.meter, .sent, .dict] s (State.blockBegin s w req idx sub size) := by
  unfold State.blockBegin
  extract_lets +onlyGivenNames x0
  clear_value x0
  extract_lets +onlyGivenNames x1
  clear_value x1
  extract_lets +onlyGivenNames x2
  clear_value x2
  refine State.Evolves.ite ?_ ?_
  · refine State.Evolves.step ?_ (State.respond_evolves ..) rfl
    exact State.Evolves.refl _ _
  · refine State.Evolves.ite ?_ ?_
    · refine State.Evolves.step ?_ (State.respond_evolves ..) rfl
      exact State.Evolves.refl _ _
    · extract_lets +onlyGivenNames x3
      clear_value x3
      extract_lets +onlyGivenNames x4
      clear_value x4
      extract_lets +onlyGivenNames x5
      refine State.Evolves.cut (fs := [.meter, .sent, .dict]) (r := s) (x := x5) ?_ fun hx5 => ?_
      · unfold x5
        refine State.Evolves.upd (s := s) ?_ (State.tables_of rfl rfl rfl rfl rfl rfl rfl) rfl rfl rfl rfl rfl rfl rfl fun f hf => by cases f <;> first | rfl | simp at hf
        exact State.Evolves.refl _ _
      clear_value x5
      refine State.Evolves.step ?_ (State.respond_evolves ..) rfl
      exact hx5

theorem State.swapPoint_evolves (s : State) :
    State.Evolves [.attic, .cellar, .larder, .host, .od, .captain, .stoker, .domains, .meter, .sent, .lb, .ws, .bell, .gz, .ex, .pel, .dict, .mtr, .pwr, .sec] s (State.swapPoint s) := by
  unfold State.swapPoint
  refine State.Evolves.ite ?_ ?_
  · exact State.Evolves.refl _ _
  · extract_lets +onlyGivenNames x0
    refine State.Evolves.cut (fs := [.attic, .cellar, .larder, .host, .od, .captain, .stoker, .domains, .meter, .sent, .lb, .ws, .bell, .gz, .ex, .pel, .dict, .mtr, .pwr, .sec]) (r := s) (x := x0) ?_ fun hx0 => ?_
    · unfold x0
      exact State.Evolves.upd (s := s) (State.Evolves.refl _ _) (fun ⟨h1, h2, h3, h4, h5, h6, h7⟩ => ⟨h1, h3, h2, h4, h5, h6, h7⟩) rfl rfl rfl rfl rfl rfl rfl fun f hf => by cases f <;> first | rfl | simp at hf
    clear_value x0
    extract_lets +onlyGivenNames x1
    refine State.Evolves.cut (fs := [.attic, .cellar, .larder, .host, .od, .captain, .stoker, .domains, .meter, .sent, .lb, .ws, .bell, .gz, .ex, .pel, .dict, .mtr, .pwr, .sec]) (r := s) (x := x1) ?_ fun hx1 => ?_
    · unfold x1
      refine State.Evolves.step ?_ (State.setOd_evolves ..) rfl
      refine State.Evolves.step ?_ (State.setOd_evolves ..) rfl
      refine State.Evolves.step ?_ (State.setOd_evolves ..) rfl
      refine State.Evolves.step ?_ (State.setOd_evolves ..) rfl
      exact hx0
    clear_value x1
    split
    · rename_i v2 v3 v4 e5
      refine State.Evolves.cut (fs := [.attic, .cellar, .larder, .host, .od, .captain, .stoker, .domains, .meter, .sent, .lb, .ws, .bell, .gz, .ex, .pel, .dict, .mtr, .pwr, .sec]) (r := s) (x := v4) (State.Evolves.eqv ?_ (congrArg (fun y => y.2) e5)) fun hv4 => ?_
      · refine State.Evolves.step ?_ (State.takeHeld_evolves ..) rfl
        exact hx1
      extract_lets +onlyGivenNames x6
      refine State.Evolves.cut (fs := [.attic, .cellar, .larder, .host, .od, .captain, .stoker, .domains, .meter, .sent, .lb, .ws, .bell, .gz, .ex, .pel, .dict, .mtr, .pwr, .sec]) (r := s) (x := x6) ?_ fun hx6 => ?_
      · unfold x6
        refine State.Evolves.foldl ?_ ?_
        · exact hv4
        · intro t7 x8 ht7
          refine State.Evolves.step ?_ (State.respond_evolves ..) rfl
          exact ht7
      clear_value x6
      split
      · rename_i v9 v10 v11 e12
        refine State.Evolves.cut (fs := [.attic, .cellar, .larder, .host, .od, .captain, .stoker, .domains, .meter, .sent, .lb, .ws, .bell, .gz, .ex, .pel, .dict, .mtr, .pwr, .sec]) (r := s) (x := v11) (State.Evolves.eqv ?_ (congrArg (fun y => y.2) e12)) fun hv11 => ?_
        · refine State.Evolves.step ?_ (State.takeHeld_evolves ..) rfl
          exact hx6
        refine State.Evolves.foldl ?_ ?_
        · exact hv11
        · intro t13 x14 ht13
          refine State.Evolves.step ?_ (State.applyHeld_evolves ..) rfl
          exact ht13

theorem State.copyExpiry_evolves (s : State) (idx : Nat) (sub : Nat) (peer : Option Nat) :
    State.Evolves [.dict] s (State.copyExpiry s idx sub peer) := by
  unfold State.copyExpiry
  refine State.Evolves.upd (s := s) ?_ (State.tables_of rfl rfl rfl rfl rfl rfl rfl) rfl rfl rfl rfl rfl rfl rfl fun f hf => by cases f <;> first | rfl | simp at hf
  exact State.Evolves.refl _ _

end Sys2Proof.Machine
end

