-- ==== Sys2Proof/Laws/EvolvesLinks.lean ====
section
/-! SUPPORT. How the state may develop, operation by operation: Xaxia, CXL and the bring-up. -/

namespace Sys2Proof.Machine

theorem State.neighbour_evolves (s : State) (p : Nat) (target : Nat) :
    State.Evolves [.sent] s (State.neighbour s p target) := by
  unfold State.neighbour
  refine State.Evolves.ite ?_ ?_
  · refine State.Evolves.step ?_ (State.send_evolves ..) rfl
    exact State.Evolves.refl _ _
  · exact State.Evolves.refl _ _

theorem State.reply_evolves (s : State) (p : Nat) (d : List Byte) (code : Nat) (sid : Nat) (key : Option (List Byte)) (body : List Byte) :
    State.Evolves [.sent, .dict] s (State.reply s p d code sid key body) := by
  unfold State.reply
  refine State.Evolves.step ?_ (State.sendDatagram_evolves ..) rfl
  exact State.Evolves.refl _ _

theorem State.authReply_evolves (s : State) (w : Way) (req : List Byte) (code : Nat) (sid : Nat) (key : Option (List Byte)) (body : List Byte) :
    State.Evolves [.sent, .dict] s (State.authReply s w req code sid key body) := by
  unfold State.authReply
  split
  · refine State.Evolves.step ?_ (State.send_evolves ..) rfl
    exact State.Evolves.refl _ _
  · refine State.Evolves.step ?_ (State.reply_evolves ..) rfl
    exact State.Evolves.refl _ _

theorem State.setSessions_evolves (s : State) (l : List Session) :
    State.Evolves [.dict] s (State.setSessions s l) := by
  unfold State.setSessions
  refine State.Evolves.upd (s := s) ?_ (State.tables_of rfl rfl rfl rfl rfl rfl rfl) rfl rfl rfl rfl rfl rfl rfl fun f hf => by cases f <;> first | rfl | simp at hf
  exact State.Evolves.refl _ _

theorem State.authEnd_evolves (s : State) (w : Way) (req : List Byte) :
    State.Evolves [.sent, .dict] s (State.authEnd s w req) := by
  unfold State.authEnd
  split
  · refine State.Evolves.ite ?_ ?_
    · refine State.Evolves.step ?_ (State.authReply_evolves ..) rfl
      refine State.Evolves.step ?_ (State.setSessions_evolves ..) rfl
      exact State.Evolves.refl _ _
    · refine State.Evolves.step ?_ (State.authReply_evolves ..) rfl
      exact State.Evolves.refl _ _
  · refine State.Evolves.ite ?_ ?_
    · extract_lets +onlyGivenNames x4
      clear_value x4
      refine State.Evolves.step ?_ (State.reply_evolves ..) rfl
      refine State.Evolves.step ?_ (State.setSessions_evolves ..) rfl
      exact State.Evolves.refl _ _
    · refine State.Evolves.step ?_ (State.reply_evolves ..) rfl
      exact State.Evolves.refl _ _

theorem State.noteSeq_evolves (s : State) (h : Nat) :
    State.Evolves [.dict] s (State.noteSeq s h) := by
  unfold State.noteSeq
  refine State.Evolves.ite ?_ ?_
  · refine State.Evolves.upd (s := s) ?_ (State.tables_of rfl rfl rfl rfl rfl rfl rfl) rfl rfl rfl rfl rfl rfl rfl fun f hf => by cases f <;> first | rfl | simp at hf
    exact State.Evolves.refl _ _
  · exact State.Evolves.refl _ _

theorem State.xMessage_evolves {fs : List Fld} {r s : State} {ty p : Nat} {d : List Byte} {run : Way → List Byte → State → State}
    (h : State.Evolves fs r s) (hs : Fld.sub [.meter, .sent, .dict] fs = true)
    (hf : ∀ w b t, State.Evolves fs r t → State.Evolves fs r (run w b t)) : State.Evolves fs r (s.xMessage ty p d run) := by
  unfold State.xMessage
  dsimp only
  refine State.Evolves.ite h ?_
  split
  · exact (h.step ((State.count_evolves ..).mono (gs := [.meter]) (fs := [.meter, .sent, .dict]) rfl) hs).step
      ((State.send_evolves ..).mono (fs := [.meter, .sent, .dict]) rfl) hs
  · refine State.Evolves.ite ?_ ?_
    · exact h.step ((State.reply_evolves ..).mono (fs := [.meter, .sent, .dict]) rfl) hs
    · exact hf _ _ _ (h.step ((State.noteSeq_evolves ..).mono (fs := [.meter, .sent, .dict]) rfl) hs)

theorem State.freshSid_evolves (s : State) :
    State.Evolves [.freeCtr] s (State.freshSid s).2 := by
  unfold State.freshSid
  split
  · rename_i v0 v1 v2 e3
    refine State.Evolves.cut (fs := [.freeCtr]) (r := s) (x := v2) (State.Evolves.eqv ?_ (congrArg (fun y => y.2) e3)) fun hv2 => ?_
    · refine State.Evolves.step ?_ (State.free_evolves ..) rfl
      exact State.Evolves.refl _ _
    extract_lets +onlyGivenNames x4
    clear_value x4
    exact hv2

theorem State.authStart_evolves (s : State) (w : Way) (req : List Byte) (b : List Byte) :
    State.Evolves [.freeCtr, .sent, .dict] s (State.authStart s w req b) := by
  unfold State.authStart
  extract_lets +onlyGivenNames x0
  clear_value x0
  refine State.Evolves.ite ?_ ?_
  · refine State.Evolves.step ?_ (State.authReply_evolves ..) rfl
    exact State.Evolves.refl _ _
  · split
    · rename_i v1 v2 v3 e4
      refine State.Evolves.cut (fs := [.freeCtr, .sent, .dict]) (r := s) (x := v3) (State.Evolves.eqv ?_ (congrArg (fun y => y.2) e4)) fun hv3 => ?_
      · refine State.Evolves.step ?_ (State.freshSid_evolves ..) rfl
        exact State.Evolves.refl _ _
      split
      · rename_i v5 v6 v7 e8
        refine State.Evolves.cut (fs := [.freeCtr, .sent, .dict]) (r := s) (x := v7) (State.Evolves.eqv ?_ (congrArg (fun y => y.2) e8)) fun hv7 => ?_
        · refine State.Evolves.step ?_ (State.free32_evolves ..) rfl
          exact hv3
        extract_lets +onlyGivenNames x9
        clear_value x9
        refine State.Evolves.step ?_ (State.authReply_evolves ..) rfl
        refine State.Evolves.step ?_ (State.setSessions_evolves ..) rfl
        exact hv7

theorem State.proofFailed_evolves (s : State) (w : Way) (x : Session) :
    State.Evolves [.meter, .dict] s (State.proofFailed s w x) := by
  unfold State.proofFailed
  extract_lets +onlyGivenNames x0
  refine State.Evolves.cut (fs := [.meter, .dict]) (r := s) (x := x0) ?_ fun hx0 => ?_
  · unfold x0
    refine State.Evolves.step ?_ (State.count_evolves ..) rfl
    refine State.Evolves.step ?_ (State.setSessions_evolves ..) rfl
    exact State.Evolves.refl _ _
  clear_value x0
  split
  · exact hx0
  · extract_lets +onlyGivenNames x5
    clear_value x5
    extract_lets +onlyGivenNames x6
    clear_value x6
    refine State.Evolves.step ?_ (State.setPeer_evolves ..) rfl
    exact hx0

theorem State.sendNotify_evolves (s : State) (n : Nat) :
    State.Evolves [.meter, .freeCtr, .sent, .bell, .dict] s (State.sendNotify s n) := by
  unfold State.sendNotify
  extract_lets +onlyGivenNames x0
  clear_value x0
  extract_lets +onlyGivenNames x1
  clear_value x1
  split
  · rename_i v2 v3 v4 e5
    refine State.Evolves.cut (fs := [.meter, .freeCtr, .sent, .bell, .dict]) (r := s) (x := v4) (State.Evolves.eqv ?_ (congrArg (fun y => y.2) e5)) fun hv4 => ?_
    · refine State.Evolves.step ?_ (State.free_evolves ..) rfl
      exact State.Evolves.refl _ _
    extract_lets +onlyGivenNames x6
    clear_value x6
    extract_lets +onlyGivenNames x7
    extract_lets +onlyGivenNames x8
    clear_value x8
    extract_lets +onlyGivenNames x9
    refine State.Evolves.cut (fs := [.meter, .freeCtr, .sent, .bell, .dict]) (r := s) (x := x9) ?_ fun hx9 => ?_
    · unfold x9
      refine State.Evolves.upd (s := v4) ?_ (State.tables_of rfl rfl rfl rfl rfl rfl rfl) rfl rfl rfl rfl rfl rfl rfl fun f hf => by cases f <;> first | rfl | simp at hf
      exact hv4
    clear_value x9
    refine State.Evolves.step ?_ (State.count_evolves ..) rfl
    refine State.Evolves.step ?_ (State.send_evolves ..) rfl
    exact hx9

theorem State.notify_evolves (s : State) (n : Nat) :
    State.Evolves [.meter, .freeCtr, .sent, .bell, .dict] s (State.notify s n) := by
  unfold State.notify
  refine State.Evolves.ite ?_ ?_
  · refine State.Evolves.step ?_ (State.sendNotify_evolves ..) rfl
    exact State.Evolves.refl _ _
  · exact State.Evolves.refl _ _

theorem State.plcaFallback_evolves (s : State) :
    State.Evolves [.od] s (State.plcaFallback s) := by
  unfold State.plcaFallback
  refine State.Evolves.ite ?_ ?_
  · refine State.Evolves.step ?_ (State.setOd_evolves ..) rfl
    exact State.Evolves.refl _ _
  · exact State.Evolves.refl _ _

theorem State.authProof_evolves (s : State) (w : Way) (req : List Byte) (b : List Byte) (sid : Nat) :
    State.Evolves [.meter, .sent, .dict] s (State.authProof s w req b sid) := by
  unfold State.authProof
  split
  · refine State.Evolves.step ?_ (State.authReply_evolves ..) rfl
    exact State.Evolves.refl _ _
  · refine State.Evolves.ite ?_ ?_
    · refine State.Evolves.step ?_ (State.authReply_evolves ..) rfl
      exact State.Evolves.refl _ _
    · refine State.Evolves.ite ?_ ?_
      · refine State.Evolves.step ?_ (State.authReply_evolves ..) rfl
        exact State.Evolves.refl _ _
      · extract_lets +onlyGivenNames x5
        clear_value x5
        extract_lets +onlyGivenNames x6
        clear_value x6
        refine State.Evolves.ite ?_ ?_
        · refine State.Evolves.step ?_ (State.authReply_evolves ..) rfl
          refine State.Evolves.step ?_ (State.proofFailed_evolves ..) rfl
          exact State.Evolves.refl _ _
        · extract_lets +onlyGivenNames x7
          clear_value x7
          extract_lets +onlyGivenNames x8
          clear_value x8
          extract_lets +onlyGivenNames x9
          clear_value x9
          refine State.Evolves.step ?_ (State.authReply_evolves ..) rfl
          refine State.Evolves.step ?_ (State.setSessions_evolves ..) rfl
          exact State.Evolves.refl _ _

theorem State.bodyAuth_evolves (s : State) (phase : Nat) (w : Way) (req : List Byte) (b : List Byte) (sid : Nat) :
    State.Evolves [.meter, .freeCtr, .sent, .dict] s (State.bodyAuth s phase w req b sid) := by
  unfold State.bodyAuth
  refine State.Evolves.ite ?_ ?_
  · refine State.Evolves.step ?_ (State.authReply_evolves ..) rfl
    exact State.Evolves.refl _ _
  · refine State.Evolves.ite ?_ ?_
    · refine State.Evolves.step ?_ (State.authReply_evolves ..) rfl
      exact State.Evolves.refl _ _
    · refine State.Evolves.ite ?_ ?_
      · refine State.Evolves.step ?_ (State.authReply_evolves ..) rfl
        exact State.Evolves.refl _ _
      · split
        · refine State.Evolves.step ?_ (State.authStart_evolves ..) rfl
          exact State.Evolves.refl _ _
        · refine State.Evolves.step ?_ (State.authProof_evolves ..) rfl
          exact State.Evolves.refl _ _
        · refine State.Evolves.step ?_ (State.authEnd_evolves ..) rfl
          exact State.Evolves.refl _ _

theorem State.mboxAuth_evolves (s : State) (b : List Byte) :
    State.Evolves [.meter, .freeCtr, .sent, .dict] s (State.mboxAuth s b) := by
  unfold State.mboxAuth
  extract_lets +onlyGivenNames x0
  clear_value x0
  split
  · refine State.Evolves.step ?_ (State.bodyAuth_evolves ..) rfl
    exact State.Evolves.refl _ _
  · refine State.Evolves.step ?_ (State.bodyAuth_evolves ..) rfl
    exact State.Evolves.refl _ _
  · refine State.Evolves.step ?_ (State.bodyAuth_evolves ..) rfl
    exact State.Evolves.refl _ _
  · refine State.Evolves.step ?_ (State.authReply_evolves ..) rfl
    exact State.Evolves.refl _ _

theorem State.notifyRepeat_evolves (s : State) (n : Nat) :
    State.Evolves [.meter, .freeCtr, .sent, .bell, .dict] s (State.notifyRepeat s n) := by
  unfold State.notifyRepeat
  refine State.Evolves.ite ?_ ?_
  · refine State.Evolves.step ?_ (State.sendNotify_evolves ..) rfl
    exact State.Evolves.refl _ _
  · exact State.Evolves.refl _ _

theorem State.bodyWrite_evolves (s : State) (w : Way) (req : List Byte) (b : List Byte) :
    State.Evolves [.attic, .cellar, .larder, .host, .od, .stoker, .domains, .meter, .sent, .lb, .ws, .bell, .gz, .ex, .pel, .dict, .mtr, .pwr, .sec] s (State.bodyWrite s w req b) := by
  unfold State.bodyWrite
  split
  · extract_lets +onlyGivenNames x4
    clear_value x4
    refine State.Evolves.ite ?_ ?_
    · refine State.Evolves.step ?_ (State.respond_evolves ..) rfl
      exact State.Evolves.refl _ _
    · refine State.Evolves.step ?_ (State.odWrite_evolves ..) rfl
      exact State.Evolves.refl _ _

theorem State.bodyBlockWrite_evolves (s : State) (w : Way) (req : List Byte) (b : List Byte) :
    State.Evolves [.od, .domains, .meter, .sent, .dict, .sec] s (State.bodyBlockWrite s w req b) := by
  unfold State.bodyBlockWrite
  split
  · extract_lets +onlyGivenNames x4
    clear_value x4
    split
    · refine State.Evolves.ite ?_ ?_
      · refine State.Evolves.step ?_ (State.respond_evolves ..) rfl
        exact State.Evolves.refl _ _
      · refine State.Evolves.step ?_ (State.blockBegin_evolves ..) rfl
        exact State.Evolves.refl _ _
    · refine State.Evolves.ite ?_ ?_
      · refine State.Evolves.step ?_ (State.respond_evolves ..) rfl
        exact State.Evolves.refl _ _
      · refine State.Evolves.step ?_ (State.blockSegment_evolves ..) rfl
        exact State.Evolves.refl _ _
    · refine State.Evolves.ite ?_ ?_
      · refine State.Evolves.step ?_ (State.respond_evolves ..) rfl
        exact State.Evolves.refl _ _
      · refine State.Evolves.step ?_ (State.blockEnd_evolves ..) rfl
        exact State.Evolves.refl _ _
    · refine State.Evolves.step ?_ (State.respond_evolves ..) rfl
      exact State.Evolves.refl _ _

theorem State.bodyBlockPhase_evolves (s : State) (phase : Nat) (w : Way) (req : List Byte) (b : List Byte) :
    State.Evolves [.od, .domains, .meter, .sent, .dict, .sec] s (State.bodyBlockPhase s phase w req b) := by
  unfold State.bodyBlockPhase
  refine State.Evolves.ite ?_ ?_
  · refine State.Evolves.step ?_ (State.respond_evolves ..) rfl
    exact State.Evolves.refl _ _
  · refine State.Evolves.step ?_ (State.bodyBlockWrite_evolves ..) rfl
    exact State.Evolves.refl _ _

theorem State.authLockoutEnd_evolves (s : State) (p : Nat) :
    State.Evolves [.dict] s (State.authLockoutEnd s p) := by
  unfold State.authLockoutEnd
  refine State.Evolves.ite ?_ ?_
  · refine State.Evolves.step ?_ (State.setPeer_evolves ..) rfl
    exact State.Evolves.refl _ _
  · exact State.Evolves.refl _ _

theorem State.bodyBlockRead_evolves (s : State) (w : Way) (req : List Byte) (b : List Byte) :
    State.Evolves [.od, .meter, .sent, .dict] s (State.bodyBlockRead s w req b) := by
  unfold State.bodyBlockRead
  split
  · refine State.Evolves.ite ?_ ?_
    · refine State.Evolves.step ?_ (State.respond_evolves ..) rfl
      exact State.Evolves.refl _ _
    · refine State.Evolves.step ?_ (State.blockRead_evolves ..) rfl
      exact State.Evolves.refl _ _

theorem State.hello_evolves (s : State) (p : Nat) (d : List Byte) :
    State.Evolves [.meter, .sent, .dict] s (State.hello s p d) := by
  unfold State.hello
  extract_lets +onlyGivenNames x0
  clear_value x0
  refine State.Evolves.ite ?_ ?_
  · exact State.Evolves.refl _ _
  · split
    · refine State.Evolves.step ?_ (State.send_evolves ..) rfl
      refine State.Evolves.step ?_ (State.count_evolves ..) rfl
      exact State.Evolves.refl _ _
    · refine State.Evolves.ite ?_ ?_
      · refine State.Evolves.step ?_ (State.reply_evolves ..) rfl
        exact State.Evolves.refl _ _
      · refine State.Evolves.ite ?_ ?_
        · refine State.Evolves.step ?_ (State.reply_evolves ..) rfl
          exact State.Evolves.refl _ _
        · extract_lets +onlyGivenNames x6
          clear_value x6
          extract_lets +onlyGivenNames x7
          clear_value x7
          extract_lets +onlyGivenNames x8
          clear_value x8
          split
          · extract_lets +onlyGivenNames x13
            clear_value x13
            extract_lets +onlyGivenNames x14
            refine State.Evolves.cut (fs := [.meter, .sent, .dict]) (r := s) (x := x14) ?_ fun hx14 => ?_
            · unfold x14
              refine State.Evolves.step ?_ (State.setPeer_evolves ..) rfl
              exact State.Evolves.refl _ _
            clear_value x14
            refine State.Evolves.step ?_ (State.reply_evolves ..) rfl
            exact hx14
          · refine State.Evolves.ite ?_ ?_
            · refine State.Evolves.step ?_ (State.reply_evolves ..) rfl
              exact State.Evolves.refl _ _
            · extract_lets +onlyGivenNames x20
              clear_value x20
              extract_lets +onlyGivenNames x21
              clear_value x21
              extract_lets +onlyGivenNames x22
              refine State.Evolves.cut (fs := [.meter, .sent, .dict]) (r := s) (x := x22) ?_ fun hx22 => ?_
              · unfold x22
                refine State.Evolves.step ?_ (State.setPeer_evolves ..) rfl
                exact State.Evolves.refl _ _
              clear_value x22
              extract_lets +onlyGivenNames x23
              clear_value x23
              refine State.Evolves.step ?_ (State.reply_evolves ..) rfl
              exact hx22

theorem State.bodyRead_evolves (s : State) (w : Way) (req : List Byte) (b : List Byte) (stoker : Bool) :
    State.Evolves [.od, .meter, .sent, .dict] s (State.bodyRead s w req b stoker) := by
  unfold State.bodyRead
  split
  · refine State.Evolves.ite ?_ ?_
    · refine State.Evolves.step ?_ (State.respond_evolves ..) rfl
      exact State.Evolves.refl _ _
    · refine State.Evolves.step ?_ (State.odReadReq_evolves ..) rfl
      exact State.Evolves.refl _ _

theorem State.sessionIdle_evolves (s : State) (sid : Nat) :
    State.Evolves [.dict] s (State.sessionIdle s sid) := by
  unfold State.sessionIdle
  refine State.Evolves.step ?_ (State.setSessions_evolves ..) rfl
  exact State.Evolves.refl _ _

theorem State.xWriteBody_evolves (w : Way) (req : List Byte) (b : List Byte) (s : State) :
    State.Evolves [.attic, .cellar, .larder, .host, .od, .stoker, .domains, .meter, .sent, .lb, .ws, .bell, .gz, .ex, .pel, .dict, .mtr, .pwr, .sec] s (State.xWriteBody w req b s) := by
  unfold State.xWriteBody
  refine State.Evolves.ite ?_ ?_
  · refine State.Evolves.step ?_ (State.respond_evolves ..) rfl
    refine State.Evolves.step ?_ (State.pilotWake_evolves ..) rfl
    exact State.Evolves.refl _ _
  · refine State.Evolves.step ?_ (State.bodyWrite_evolves ..) rfl
    exact State.Evolves.refl _ _

theorem State.authStartTimeout_evolves (s : State) (sid : Nat) :
    State.Evolves [.dict] s (State.authStartTimeout s sid) := by
  unfold State.authStartTimeout
  refine State.Evolves.step ?_ (State.setSessions_evolves ..) rfl
  exact State.Evolves.refl _ _

theorem State.patrolScrub_evolves (s : State) (ceAttic : Nat) (ceCellar : Nat) (ueAttic : List Nat) (ueCellar : List Nat) :
    State.Evolves [.attic, .cellar, .larder, .host, .od, .meter, .bell] s (State.patrolScrub s ceAttic ceCellar ueAttic ueCellar) := by
  unfold State.patrolScrub
  refine State.Evolves.ite ?_ ?_
  · exact State.Evolves.refl _ _
  · extract_lets +onlyGivenNames x0
    refine State.Evolves.cut (fs := [.attic, .cellar, .larder, .host, .od, .meter, .bell]) (r := s) (x := x0) ?_ fun hx0 => ?_
    · unfold x0
      refine State.Evolves.step ?_ (State.count_evolves ..) rfl
      refine State.Evolves.step ?_ (State.count_evolves ..) rfl
      exact State.Evolves.refl _ _
    clear_value x0
    extract_lets +onlyGivenNames x1
    refine State.Evolves.cut (fs := [.attic, .cellar, .larder, .host, .od, .meter, .bell]) (r := s) (x := x1) ?_ fun hx1 => ?_
    · unfold x1
      refine State.Evolves.step ?_ (State.count_evolves ..) rfl
      exact hx0
    clear_value x1
    extract_lets +onlyGivenNames x2
    refine State.Evolves.cut (fs := [.attic, .cellar, .larder, .host, .od, .meter, .bell]) (r := s) (x := x2) ?_ fun hx2 => ?_
    · unfold x2
      refine State.Evolves.foldl ?_ ?_
      · exact hx1
      · intro t3 x4 ht3
        refine State.Evolves.step ?_ (State.memUe_evolves ..) rfl
        exact ht3
    clear_value x2
    refine State.Evolves.foldl ?_ ?_
    · exact hx2
    · intro t5 x6 ht5
      refine State.Evolves.step ?_ (State.memUe_evolves ..) rfl
      exact ht5

theorem State.ideFail_evolves (s : State) (p : Nat) :
    State.Evolves [.od, .meter, .bell] s (State.ideFail s p) := by
  unfold State.ideFail
  refine State.Evolves.ite ?_ ?_
  · exact State.Evolves.refl _ _
  · refine State.Evolves.step ?_ (State.count_evolves ..) rfl
    refine State.Evolves.step ?_ (State.raise_evolves ..) rfl
    refine State.Evolves.step ?_ (State.setOd_evolves ..) rfl
    exact State.Evolves.refl _ _

theorem State.uioFailed_evolves (s : State) (g : Nat) (m : Nat) :
    State.Evolves [.attic, .cellar, .larder, .host, .od, .captain, .stoker, .domains, .meter, .freeCtr, .sent, .lb, .rooms, .porch, .bell, .gz, .ex, .pel] s (State.uioFailed s g m) := by
  unfold State.uioFailed
  refine State.Evolves.step ?_ (State.exportLost_evolves ..) rfl
  refine State.Evolves.step ?_ (State.declareDead_evolves ..) rfl
  exact State.Evolves.refl _ _

theorem State.bisnpResponse_evolves (s : State) (line : Nat) :
    State.Evolves [.cxl] s (State.bisnpResponse s line) := by
  unfold State.bisnpResponse
  split
  · exact State.Evolves.refl _ _
  · extract_lets +onlyGivenNames x5
    clear_value x5
    refine State.Evolves.ite ?_ ?_
    · refine State.Evolves.upd (s := s) ?_ (State.tables_of rfl rfl rfl rfl rfl rfl rfl) rfl rfl rfl rfl rfl rfl rfl fun f hf => by cases f <;> first | rfl | simp at hf
      exact State.Evolves.refl _ _
    · refine State.Evolves.upd (s := s) ?_ (State.tables_of rfl rfl rfl rfl rfl rfl rfl) rfl rfl rfl rfl rfl rfl rfl fun f hf => by cases f <;> first | rfl | simp at hf
      exact State.Evolves.refl _ _

theorem State.pageHi_evolves (s : State) (hi : Nat) :
    State.Evolves [.attic, .cellar, .larder, .host, .od, .meter, .bell, .cxl] s (State.pageHi s hi) := by
  unfold State.pageHi
  extract_lets +onlyGivenNames x0
  clear_value x0
  extract_lets +onlyGivenNames x1
  clear_value x1
  extract_lets +onlyGivenNames x2
  refine State.Evolves.cut (fs := [.attic, .cellar, .larder, .host, .od, .meter, .bell, .cxl]) (r := s) (x := x2) ?_ fun hx2 => ?_
  · unfold x2
    refine State.Evolves.upd (s := s) ?_ (State.tables_of rfl rfl rfl rfl rfl rfl rfl) rfl rfl rfl rfl rfl rfl rfl fun f hf => by cases f <;> first | rfl | simp at hf
    exact State.Evolves.refl _ _
  clear_value x2
  refine State.Evolves.ite ?_ ?_
  · refine State.Evolves.step ?_ (State.pageCmdIgnored_evolves ..) rfl
    exact hx2
  · refine State.Evolves.step ?_ (State.pageCmd_evolves ..) rfl
    exact hx2

theorem State.uioTimeout_evolves (s : State) (g : Nat) (m : Nat) :
    State.Evolves [.attic, .cellar, .larder, .host, .od, .captain, .stoker, .domains, .meter, .freeCtr, .sent, .lb, .rooms, .porch, .bell, .gz, .ex, .pel] s (State.uioTimeout s g m) := by
  unfold State.uioTimeout
  refine State.Evolves.step ?_ (State.uioFailed_evolves ..) rfl
  refine State.Evolves.step ?_ (State.count_evolves ..) rfl
  exact State.Evolves.refl _ _

theorem State.writeDone_evolves (s : State) (port : Nat) :
    State.Evolves [.sent] s (State.writeDone s port) := by
  unfold State.writeDone
  refine State.Evolves.step ?_ (State.send_evolves ..) rfl
  exact State.Evolves.refl _ _

theorem State.unsupported_evolves (s : State) (port : Nat) :
    State.Evolves [.sent] s (State.unsupported s port) := by
  unfold State.unsupported
  refine State.Evolves.step ?_ (State.send_evolves ..) rfl
  exact State.Evolves.refl _ _

theorem State.pageLo_evolves (s : State) (lo : Nat) :
    State.Evolves [.cxl] s (State.pageLo s lo) := by
  unfold State.pageLo
  refine State.Evolves.upd (s := s) ?_ (State.tables_of rfl rfl rfl rfl rfl rfl rfl) rfl rfl rfl rfl rfl rfl rfl fun f hf => by cases f <;> first | rfl | simp at hf
  exact State.Evolves.refl _ _

theorem State.msixWrite_evolves (s : State) (off : Nat) (data : List Byte) :
    State.Evolves [.sent, .bell] s (State.msixWrite s off data) := by
  unfold State.msixWrite
  refine State.Evolves.foldl ?_ ?_
  · exact State.Evolves.refl _ _
  · intro t0 x1 ht0
    split
    · extract_lets +onlyGivenNames x5
      clear_value x5
      refine State.Evolves.ite ?_ ?_
      · refine State.Evolves.ite ?_ ?_
        · refine State.Evolves.step ?_ (State.msixMask_evolves ..) rfl
          exact ht0
        · refine State.Evolves.step ?_ (State.msixUnmask_evolves ..) rfl
          exact ht0
      · refine State.Evolves.ite ?_ ?_
        · refine State.Evolves.upd (s := t0) ?_ (State.tables_of rfl rfl rfl rfl rfl rfl rfl) rfl rfl rfl rfl rfl rfl rfl fun f hf => by cases f <;> first | rfl | simp at hf
          exact ht0
        · exact ht0

theorem State.bar0Write_evolves (s : State) (off : Nat) (data : List Byte) :
    State.Evolves [.attic, .cellar, .larder, .host, .od, .meter, .sent, .lb, .bell, .gz, .ex, .cxl] s (State.bar0Write s off data) := by
  unfold State.bar0Write
  extract_lets +onlyGivenNames x0
  clear_value x0
  extract_lets +onlyGivenNames x1
  refine State.Evolves.cut (fs := [.attic, .cellar, .larder, .host, .od, .meter, .sent, .lb, .bell, .gz, .ex, .cxl]) (r := s) (x := x1) ?_ fun hx1 => ?_
  · unfold x1
    refine State.Evolves.step ?_ (State.writeDone_evolves ..) rfl
    refine State.Evolves.step ?_ (State.demand_evolves ..) rfl
    exact State.Evolves.refl _ _
  clear_value x1
  refine State.Evolves.ite ?_ ?_
  · refine State.Evolves.ite ?_ ?_
    · refine State.Evolves.step ?_ (State.unsupported_evolves ..) rfl
      exact State.Evolves.refl _ _
    · refine State.Evolves.ite ?_ ?_
      · refine State.Evolves.step ?_ (State.writeDone_evolves ..) rfl
        refine State.Evolves.ite ?_ ?_
        · refine State.Evolves.step ?_ (State.bellAck_evolves ..) rfl
          exact State.Evolves.refl _ _
        · exact State.Evolves.refl _ _
      · refine State.Evolves.ite ?_ ?_
        · refine State.Evolves.step ?_ (State.writeDone_evolves ..) rfl
          exact State.Evolves.refl _ _
        · refine State.Evolves.ite ?_ ?_
          · refine State.Evolves.step ?_ (State.unsupported_evolves ..) rfl
            exact State.Evolves.refl _ _
          · refine State.Evolves.ite ?_ ?_
            · refine State.Evolves.step ?_ (State.doorbell_evolves ..) rfl
              exact hx1
            · refine State.Evolves.ite ?_ ?_
              · refine State.Evolves.step ?_ (State.queueCmd_evolves ..) rfl
                exact hx1
              · refine State.Evolves.ite ?_ ?_
                · refine State.Evolves.step ?_ (State.pageLo_evolves ..) rfl
                  exact hx1
                · refine State.Evolves.ite ?_ ?_
                  · refine State.Evolves.step ?_ (State.pageHi_evolves ..) rfl
                    exact hx1
                  · refine State.Evolves.step ?_ (State.notifyAck_evolves ..) rfl
                    exact hx1
  · refine State.Evolves.ite ?_ ?_
    · refine State.Evolves.step ?_ (State.unsupported_evolves ..) rfl
      exact State.Evolves.refl _ _
    · refine State.Evolves.ite ?_ ?_
      · refine State.Evolves.step ?_ (State.writeDone_evolves ..) rfl
        refine State.Evolves.step ?_ (State.msixWrite_evolves ..) rfl
        exact State.Evolves.refl _ _
      · refine State.Evolves.step ?_ (State.writeDone_evolves ..) rfl
        exact State.Evolves.refl _ _

theorem State.inboundWrite_evolves (s : State) (port : Nat) (path : Nat) (addr : Nat) (data : List Byte) (poison : Bool) :
    State.Evolves [.attic, .cellar, .larder, .host, .od, .meter, .sent, .lb, .bell, .gz, .ex, .cxl] s (State.inboundWrite s port path addr data poison) := by
  unfold State.inboundWrite
  refine State.Evolves.ite ?_ ?_
  · exact State.Evolves.refl _ _
  · refine State.Evolves.ite ?_ ?_
    · refine State.Evolves.ite ?_ ?_
      · refine State.Evolves.step ?_ (State.bar0Write_evolves ..) rfl
        exact State.Evolves.refl _ _
      · refine State.Evolves.step ?_ (State.unsupported_evolves ..) rfl
        exact State.Evolves.refl _ _
    · refine State.Evolves.ite ?_ ?_
      · refine State.Evolves.ite ?_ ?_
        · refine State.Evolves.step ?_ (State.unsupported_evolves ..) rfl
          exact State.Evolves.refl _ _
        · refine State.Evolves.ite ?_ ?_
          · refine State.Evolves.step ?_ (State.msixMask_evolves ..) rfl
            exact State.Evolves.refl _ _
          · refine State.Evolves.step ?_ (State.msixUnmask_evolves ..) rfl
            exact State.Evolves.refl _ _
      · refine State.Evolves.ite ?_ ?_
        · refine State.Evolves.ite ?_ ?_
          · refine State.Evolves.step ?_ (State.writeDone_evolves ..) rfl
            refine State.Evolves.step ?_ (State.count_evolves ..) rfl
            refine State.Evolves.step ?_ (State.wake_evolves ..) rfl
            exact State.Evolves.refl _ _
          · refine State.Evolves.step ?_ (State.unsupported_evolves ..) rfl
            exact State.Evolves.refl _ _
        · refine State.Evolves.ite ?_ ?_
          · refine State.Evolves.step ?_ (State.unsupported_evolves ..) rfl
            exact State.Evolves.refl _ _
          · split
            · refine State.Evolves.step ?_ (State.unsupported_evolves ..) rfl
              exact State.Evolves.refl _ _
            · extract_lets +onlyGivenNames x6
              refine State.Evolves.cut (fs := [.attic, .cellar, .larder, .host, .od, .meter, .sent, .lb, .bell, .gz, .ex, .cxl]) (r := s) (x := x6) ?_ fun hx6 => ?_
              · unfold x6
                refine State.Evolves.step ?_ (State.writeDone_evolves ..) rfl
                refine State.Evolves.step ?_ (State.wrBytes_evolves ..) rfl
                refine State.Evolves.step ?_ (State.wake_evolves ..) rfl
                exact State.Evolves.refl _ _
              clear_value x6
              refine State.Evolves.ite ?_ ?_
              · refine State.Evolves.step ?_ (State.count_evolves ..) rfl
                refine State.Evolves.step ?_ (State.poison_evolves ..) rfl
                exact hx6
              · exact hx6

theorem State.snoopFor_evolves (s : State) (sp : Space) (a : Nat) (n : Nat) (write : Bool) :
    State.Evolves [.meter, .cxl] s (State.snoopFor s sp a n write).2 := by
  unfold State.snoopFor
  extract_lets +onlyGivenNames x0
  clear_value x0
  extract_lets +onlyGivenNames x1
  clear_value x1
  extract_lets +onlyGivenNames x2
  clear_value x2
  split
  · dsimp only
    refine State.Evolves.upd (s := s) ?_ (State.tables_of rfl rfl rfl rfl rfl rfl rfl) rfl rfl rfl rfl rfl rfl rfl fun f hf => by cases f <;> first | rfl | simp at hf
    exact State.Evolves.refl _ _
  · dsimp only
    refine State.Evolves.step ?_ (State.count_evolves ..) rfl
    refine State.Evolves.upd (s := s) ?_ (State.tables_of rfl rfl rfl rfl rfl rfl rfl) rfl rfl rfl rfl rfl rfl rfl fun f hf => by cases f <;> first | rfl | simp at hf
    exact State.Evolves.refl _ _

theorem State.spdmEvent_evolves (s : State) (path : Nat) (req : List Byte) (keyed : Bool) :
    State.Evolves [.od, .domains, .sent, .sec] s (State.spdmEvent s path req keyed) := by
  unfold State.spdmEvent
  extract_lets +onlyGivenNames x0
  refine State.Evolves.cut (fs := [.od, .domains, .sent, .sec]) (r := s) (x := x0) ?_ fun hx0 => ?_
  · unfold x0
    refine State.Evolves.step ?_ (State.spdmRequest_evolves ..) rfl
    exact State.Evolves.refl _ _
  clear_value x0
  refine State.Evolves.ite ?_ ?_
  · refine State.Evolves.step ?_ (State.setOd_evolves ..) rfl
    exact hx0
  · exact hx0

theorem State.snoopInsert_evolves (s : State) (line : Nat) :
    State.Evolves [.meter, .cxl] s (State.snoopInsert s line) := by
  unfold State.snoopInsert
  refine State.Evolves.ite ?_ ?_
  · exact State.Evolves.refl _ _
  · refine State.Evolves.ite ?_ ?_
    · refine State.Evolves.upd (s := s) ?_ (State.tables_of rfl rfl rfl rfl rfl rfl rfl) rfl rfl rfl rfl rfl rfl rfl fun f hf => by cases f <;> first | rfl | simp at hf
      exact State.Evolves.refl _ _
    · refine State.Evolves.step ?_ (State.count_evolves ..) rfl
      refine State.Evolves.upd (s := s) ?_ (State.tables_of rfl rfl rfl rfl rfl rfl rfl) rfl rfl rfl rfl rfl rfl rfl fun f hf => by cases f <;> first | rfl | simp at hf
      exact State.Evolves.refl _ _

theorem State.inboundRead_evolves (s : State) (port : Nat) (path : Nat) (addr : Nat) (n : Nat) :
    State.Evolves [.od, .meter, .sent, .cxl] s (State.inboundRead s port path addr n) := by
  unfold State.inboundRead
  refine State.Evolves.ite ?_ ?_
  · exact State.Evolves.refl _ _
  · refine State.Evolves.ite ?_ ?_
    · split
      · refine State.Evolves.ite ?_ ?_
        · refine State.Evolves.step ?_ (State.send_evolves ..) rfl
          exact State.Evolves.refl _ _
        · refine State.Evolves.step ?_ (State.unsupported_evolves ..) rfl
          exact State.Evolves.refl _ _
      · refine State.Evolves.step ?_ (State.unsupported_evolves ..) rfl
        exact State.Evolves.refl _ _
    · refine State.Evolves.ite ?_ ?_
      · refine State.Evolves.step ?_ (State.unsupported_evolves ..) rfl
        exact State.Evolves.refl _ _
      · split
        · refine State.Evolves.step ?_ (State.unsupported_evolves ..) rfl
          exact State.Evolves.refl _ _
        · extract_lets +onlyGivenNames x11
          refine State.Evolves.cut (fs := [.od, .meter, .sent, .cxl]) (r := s) (x := x11) ?_ fun hx11 => ?_
          · unfold x11
            refine State.Evolves.step ?_ (State.wake_evolves ..) rfl
            exact State.Evolves.refl _ _
          clear_value x11
          extract_lets +onlyGivenNames x12
          clear_value x12
          extract_lets +onlyGivenNames x13
          refine State.Evolves.cut (fs := [.od, .meter, .sent, .cxl]) (r := s) (x := x13) ?_ fun hx13 => ?_
          · unfold x13
            refine State.Evolves.ite ?_ ?_
            · refine State.Evolves.foldl ?_ ?_
              · exact hx11
              · intro t14 x15 ht14
                refine State.Evolves.step ?_ (State.snoopInsert_evolves ..) rfl
                exact ht14
            · exact hx11
          clear_value x13
          refine State.Evolves.step ?_ (State.send_evolves ..) rfl
          exact hx13

theorem State.bs0_evolves (s : State) :
    State.Evolves [.od, .freeCtr, .pwr] s (State.bs0 s) := by
  unfold State.bs0
  refine State.Evolves.ite ?_ ?_
  · exact State.Evolves.refl _ _
  · extract_lets +onlyGivenNames x0
    refine State.Evolves.cut (fs := [.od, .freeCtr, .pwr]) (r := s) (x := x0) ?_ fun hx0 => ?_
    · unfold x0
      refine State.Evolves.step ?_ (State.setOd_evolves ..) rfl
      refine State.Evolves.step ?_ (State.setOd_evolves ..) rfl
      refine State.Evolves.step ?_ (State.setOd_evolves ..) rfl
      refine State.Evolves.step ?_ (State.setPll_evolves ..) rfl
      exact State.Evolves.refl _ _
    clear_value x0
    split
    · rename_i v1 v2 v3 e4
      refine State.Evolves.cut (fs := [.od, .freeCtr, .pwr]) (r := s) (x := v3) (State.Evolves.eqv ?_ (congrArg (fun y => y.2) e4)) fun hv3 => ?_
      · refine State.Evolves.step ?_ (State.free32_evolves ..) rfl
        exact hx0
      extract_lets +onlyGivenNames x5
      refine State.Evolves.cut (fs := [.od, .freeCtr, .pwr]) (r := s) (x := x5) ?_ fun hx5 => ?_
      · unfold x5
        refine State.Evolves.step ?_ (State.setOd_evolves ..) rfl
        exact hv3
      clear_value x5
      extract_lets +onlyGivenNames x6
      clear_value x6
      refine State.Evolves.ite ?_ ?_
      · refine State.Evolves.step ?_ (State.setOd_evolves ..) rfl
        exact hx5
      · refine State.Evolves.ite ?_ ?_
        · refine State.Evolves.step ?_ (State.setOd_evolves ..) rfl
          refine State.Evolves.step ?_ (State.setOd_evolves ..) rfl
          exact hx5
        · refine State.Evolves.upd (s := x5) ?_ (State.tables_of rfl rfl rfl rfl rfl rfl rfl) rfl rfl rfl rfl rfl rfl rfl fun f hf => by cases f <;> first | rfl | simp at hf
          exact hx5

theorem State.loadLibrary_evolves (s : State) :
    State.Evolves [.od, .ws, .bell, .sec] s (State.loadLibrary s) := by
  unfold State.loadLibrary
  extract_lets +onlyGivenNames x0
  clear_value x0
  extract_lets +onlyGivenNames x1
  clear_value x1
  extract_lets +onlyGivenNames x2
  refine State.Evolves.cut (fs := [.od, .ws, .bell, .sec]) (r := s) (x := x2) ?_ fun hx2 => ?_
  · unfold x2
    refine State.Evolves.upd (s := s) ?_ (State.tables_of rfl rfl rfl rfl rfl rfl rfl) rfl rfl rfl rfl rfl rfl rfl fun f hf => by cases f <;> first | rfl | simp at hf
    exact State.Evolves.refl _ _
  clear_value x2
  refine State.Evolves.ite ?_ ?_
  · extract_lets +onlyGivenNames x3
    refine State.Evolves.cut (fs := [.od, .ws, .bell, .sec]) (r := s) (x := x3) ?_ fun hx3 => ?_
    · unfold x3
      refine State.Evolves.step ?_ (State.installLib_evolves ..) rfl
      exact hx2
    clear_value x3
    refine State.Evolves.upd (s := x3) ?_ (State.tables_of rfl rfl rfl rfl rfl rfl rfl) rfl rfl rfl rfl rfl rfl rfl fun f hf => by cases f <;> first | rfl | simp at hf
    exact hx3
  · refine State.Evolves.step ?_ (State.raise_evolves ..) rfl
    exact hx2

theorem State.trainMemories_evolves (s : State) (cold : Bool) :
    State.Evolves [.domains, .freeCtr, .pwr] s (State.trainMemories s cold) := by
  unfold State.trainMemories
  refine State.Evolves.ite ?_ ?_
  · exact State.Evolves.refl _ _
  · split
    · rename_i v0 v1 v2 e3
      refine State.Evolves.cut (fs := [.domains, .freeCtr, .pwr]) (r := s) (x := v2) (State.Evolves.eqv ?_ (congrArg (fun y => y.2) e3)) fun hv2 => ?_
      · refine State.Evolves.step ?_ (State.free32_evolves ..) rfl
        exact State.Evolves.refl _ _
      split
      · rename_i v4 v5 v6 e7
        refine State.Evolves.cut (fs := [.domains, .freeCtr, .pwr]) (r := s) (x := v6) (State.Evolves.eqv ?_ (congrArg (fun y => y.2) e7)) fun hv6 => ?_
        · refine State.Evolves.step ?_ (State.free32_evolves ..) rfl
          exact hv2
        extract_lets +onlyGivenNames x8
        refine State.Evolves.cut (fs := [.domains, .freeCtr, .pwr]) (r := s) (x := x8) ?_ fun hx8 => ?_
        · unfold x8
          refine State.Evolves.step ?_ (State.setDomain_evolves ..) rfl
          refine State.Evolves.step ?_ (State.setDomain_evolves ..) rfl
          exact hv6
        clear_value x8
        refine State.Evolves.upd (s := x8) ?_ (State.tables_of rfl rfl rfl rfl rfl rfl rfl) rfl rfl rfl rfl rfl rfl rfl fun f hf => by cases f <;> first | rfl | simp at hf
        exact hx8

theorem State.unpinPool_evolves (s : State) (p : Nat) :
    State.Evolves [.attic, .cellar, .larder, .host, .meter] s (State.unpinPool s p) := by
  unfold State.unpinPool
  extract_lets +onlyGivenNames x0
  clear_value x0
  refine State.Evolves.foldl ?_ ?_
  · exact State.Evolves.refl _ _
  · intro t1 x2 ht1
    extract_lets +onlyGivenNames x3
    clear_value x3
    extract_lets +onlyGivenNames x4
    refine State.Evolves.cut (fs := [.attic, .cellar, .larder, .host, .meter]) (r := s) (x := x4) ?_ fun hx4 => ?_
    · unfold x4
      refine State.Evolves.ite ?_ ?_
      · exact ht1
      · refine State.Evolves.step ?_ (State.setHdr_evolves ..) rfl
        exact ht1
    clear_value x4
    refine State.Evolves.ite ?_ ?_
    · extract_lets +onlyGivenNames x5
      refine State.Evolves.cut (fs := [.attic, .cellar, .larder, .host, .meter]) (r := s) (x := x5) ?_ fun hx5 => ?_
      · unfold x5
        refine State.Evolves.step ?_ (State.count_evolves ..) rfl
        refine State.Evolves.step ?_ (State.pushFree_evolves ..) rfl
        exact hx4
      clear_value x5
      refine State.Evolves.ite ?_ ?_
      · exact hx5
      · refine State.Evolves.step ?_ (State.count_evolves ..) rfl
        exact hx5
    · exact hx4

theorem State.startPool_evolves (s : State) (cold : Bool) (p : Nat) :
    State.Evolves [.attic, .cellar, .larder, .host, .meter] s (State.startPool s cold p) := by
  unfold State.startPool
  extract_lets +onlyGivenNames x0
  clear_value x0
  refine State.Evolves.ite ?_ ?_
  · exact State.Evolves.refl _ _
  · refine State.Evolves.ite ?_ ?_
    · refine State.Evolves.step ?_ (State.unpinPool_evolves ..) rfl
      exact State.Evolves.refl _ _
    · refine State.Evolves.step ?_ (State.buildPool_evolves ..) rfl
      exact State.Evolves.refl _ _

theorem State.setEnables_evolves (s : State) (l : List Nat) :
    State.Evolves [.od] s (State.setEnables s l) := by
  unfold State.setEnables
  refine State.Evolves.step ?_ (State.setOd_evolves ..) rfl
  exact State.Evolves.refl _ _

theorem State.frontSettle_evolves (s : State) :
    State.Evolves [.od, .lb, .pwr] s (State.frontSettle s) := by
  unfold State.frontSettle
  split
  · exact State.Evolves.refl _ _
  · refine State.Evolves.ite ?_ ?_
    · exact State.Evolves.refl _ _
    · refine State.Evolves.step ?_ (State.settle_evolves ..) rfl
      refine State.Evolves.step ?_ (State.setOd_evolves ..) rfl
      refine State.Evolves.upd (s := s) ?_ (State.tables_of rfl rfl rfl rfl rfl rfl rfl) rfl rfl rfl rfl rfl rfl rfl fun f hf => by cases f <;> first | rfl | simp at hf
      exact State.Evolves.refl _ _

theorem State.bs3_evolves (s : State) (frontBad : Bool) (backBad : Bool) (port1Bad : Bool) :
    State.Evolves [.od, .lb, .rooms, .bell, .pwr] s (State.bs3 s frontBad backBad port1Bad) := by
  unfold State.bs3
  refine State.Evolves.ite ?_ ?_
  · exact State.Evolves.refl _ _
  · extract_lets +onlyGivenNames x0
    clear_value x0
    extract_lets +onlyGivenNames x1
    clear_value x1
    extract_lets +onlyGivenNames x2
    clear_value x2
    extract_lets +onlyGivenNames x3
    clear_value x3
    extract_lets +onlyGivenNames x4
    clear_value x4
    extract_lets +onlyGivenNames x5
    clear_value x5
    extract_lets +onlyGivenNames x6
    clear_value x6
    extract_lets +onlyGivenNames x7
    refine State.Evolves.cut (fs := [.od, .lb, .rooms, .bell, .pwr]) (r := s) (x := x7) ?_ fun hx7 => ?_
    · unfold x7
      refine State.Evolves.upd (s := s) ?_ (State.tables_of rfl rfl rfl rfl rfl rfl rfl) rfl rfl rfl rfl rfl rfl rfl fun f hf => by cases f <;> first | rfl | simp at hf
      exact State.Evolves.refl _ _
    clear_value x7
    extract_lets +onlyGivenNames x8
    refine State.Evolves.cut (fs := [.od, .lb, .rooms, .bell, .pwr]) (r := s) (x := x8) ?_ fun hx8 => ?_
    · unfold x8
      refine State.Evolves.step ?_ (State.setOd_evolves ..) rfl
      exact hx7
    clear_value x8
    extract_lets +onlyGivenNames x9
    refine State.Evolves.cut (fs := [.od, .lb, .rooms, .bell, .pwr]) (r := s) (x := x9) ?_ fun hx9 => ?_
    · unfold x9
      refine State.Evolves.step ?_ (State.retunePlls_evolves ..) rfl
      refine State.Evolves.step ?_ (State.setEnables_evolves ..) rfl
      refine State.Evolves.step ?_ (State.setOd_evolves ..) rfl
      exact hx8
    clear_value x9
    extract_lets +onlyGivenNames x10
    refine State.Evolves.cut (fs := [.od, .lb, .rooms, .bell, .pwr]) (r := s) (x := x10) ?_ fun hx10 => ?_
    · unfold x10
      refine State.Evolves.ite ?_ ?_
      · refine State.Evolves.step ?_ (State.raise_evolves ..) rfl
        exact hx9
      · exact hx9
    clear_value x10
    extract_lets +onlyGivenNames x11
    refine State.Evolves.cut (fs := [.od, .lb, .rooms, .bell, .pwr]) (r := s) (x := x11) ?_ fun hx11 => ?_
    · unfold x11
      refine State.Evolves.step ?_ (State.setOd_evolves ..) rfl
      exact hx10
    clear_value x11
    extract_lets +onlyGivenNames x12
    clear_value x12
    extract_lets +onlyGivenNames x13
    refine State.Evolves.cut (fs := [.od, .lb, .rooms, .bell, .pwr]) (r := s) (x := x13) ?_ fun hx13 => ?_
    · unfold x13
      refine State.Evolves.upd (s := x11) ?_ (State.tables_of rfl rfl rfl rfl rfl rfl rfl) rfl rfl rfl rfl rfl rfl rfl fun f hf => by cases f <;> first | rfl | simp at hf
      exact hx11
    clear_value x13
    extract_lets +onlyGivenNames x14
    refine State.Evolves.cut (fs := [.od, .lb, .rooms, .bell, .pwr]) (r := s) (x := x14) ?_ fun hx14 => ?_
    · unfold x14
      refine State.Evolves.step ?_ (State.raise_evolves ..) rfl
      refine State.Evolves.ite ?_ ?_
      · exact hx13
      · refine State.Evolves.step ?_ (State.linkTrain_evolves ..) rfl
        exact hx13
    clear_value x14
    refine State.Evolves.step ?_ (State.frontSettle_evolves ..) rfl
    exact hx14

theorem State.libDone_evolves (s : State) :
    State.Evolves [.od, .ws, .sec] s (State.libDone s) := by
  unfold State.libDone
  extract_lets +onlyGivenNames x0
  refine State.Evolves.cut (fs := [.od, .ws, .sec]) (r := s) (x := x0) ?_ fun hx0 => ?_
  · unfold x0
    refine State.Evolves.step ?_ (State.libInstallDone_evolves ..) rfl
    exact State.Evolves.refl _ _
  clear_value x0
  split
  · refine State.Evolves.ite ?_ ?_
    · refine State.Evolves.upd (s := x0) ?_ (State.tables_of rfl rfl rfl rfl rfl rfl rfl) rfl rfl rfl rfl rfl rfl rfl fun f hf => by cases f <;> first | rfl | simp at hf
      exact hx0
    · exact hx0
  · exact hx0

theorem State.startPools_evolves (s : State) (cold : Bool) :
    State.Evolves [.attic, .cellar, .larder, .host, .meter, .pwr] s (State.startPools s cold) := by
  unfold State.startPools
  extract_lets +onlyGivenNames x0
  refine State.Evolves.cut (fs := [.attic, .cellar, .larder, .host, .meter, .pwr]) (r := s) (x := x0) ?_ fun hx0 => ?_
  · unfold x0
    refine State.Evolves.foldl ?_ ?_
    · exact State.Evolves.refl _ _
    · intro t1 x2 ht1
      refine State.Evolves.step ?_ (State.startPool_evolves ..) rfl
      exact ht1
  clear_value x0
  extract_lets +onlyGivenNames x3
  clear_value x3
  refine State.Evolves.upd (s := x0) ?_ (State.tables_of rfl rfl rfl rfl rfl rfl rfl) rfl rfl rfl rfl rfl rfl rfl fun f hf => by cases f <;> first | rfl | simp at hf
  exact hx0

theorem State.bs1_evolves (s : State) :
    State.Evolves [.od, .bell] s (State.bs1 s) := by
  unfold State.bs1
  refine State.Evolves.ite ?_ ?_
  · exact State.Evolves.refl _ _
  · extract_lets +onlyGivenNames x0
    refine State.Evolves.cut (fs := [.od, .bell]) (r := s) (x := x0) ?_ fun hx0 => ?_
    · unfold x0
      refine State.Evolves.step ?_ (State.linkTrain_evolves ..) rfl
      refine State.Evolves.step ?_ (State.setOd_evolves ..) rfl
      exact State.Evolves.refl _ _
    clear_value x0
    refine State.Evolves.ite ?_ ?_
    · refine State.Evolves.step ?_ (State.raise_evolves ..) rfl
      exact hx0
    · exact hx0

theorem State.emptyGuest_evolves (s : State) (cold : Bool) :
    State.Evolves [.attic, .cellar, .larder, .host, .meter] s (State.emptyGuest s cold) := by
  unfold State.emptyGuest
  refine State.Evolves.ite ?_ ?_
  · refine State.Evolves.step ?_ (State.wr_evolves ..) rfl
    exact State.Evolves.refl _ _
  · exact State.Evolves.refl _ _

theorem State.bs2_evolves (s : State) (atticFail : Bool) (cellarFail : Bool) :
    State.Evolves [.attic, .cellar, .larder, .host, .od, .domains, .meter, .freeCtr, .ws, .bell, .pwr, .sec] s (State.bs2 s atticFail cellarFail) := by
  unfold State.bs2
  refine State.Evolves.ite ?_ ?_
  · exact State.Evolves.refl _ _
  · refine State.Evolves.ite ?_ ?_
    · refine State.Evolves.step ?_ (State.setOd_evolves ..) rfl
      exact State.Evolves.refl _ _
    · extract_lets +onlyGivenNames x0
      clear_value x0
      extract_lets +onlyGivenNames x1
      refine State.Evolves.cut (fs := [.attic, .cellar, .larder, .host, .od, .domains, .meter, .freeCtr, .ws, .bell, .pwr, .sec]) (r := s) (x := x1) ?_ fun hx1 => ?_
      · unfold x1
        refine State.Evolves.step ?_ (State.trainMemories_evolves ..) rfl
        exact State.Evolves.refl _ _
      clear_value x1
      extract_lets +onlyGivenNames x2
      refine State.Evolves.cut (fs := [.attic, .cellar, .larder, .host, .od, .domains, .meter, .freeCtr, .ws, .bell, .pwr, .sec]) (r := s) (x := x2) ?_ fun hx2 => ?_
      · unfold x2
        exact State.Evolves.upd' hx1 (fun h => ⟨h.1, h.2.1, rfl, h.2.2.2⟩) (State.tables_of rfl rfl rfl rfl rfl rfl rfl) id List.prefix_rfl (Nat.le_refl _) fun f hf => by cases f <;> first | rfl | simp at hf
      clear_value x2
      extract_lets +onlyGivenNames x3
      refine State.Evolves.cut (fs := [.attic, .cellar, .larder, .host, .od, .domains, .meter, .freeCtr, .ws, .bell, .pwr, .sec]) (r := s) (x := x3) ?_ fun hx3 => ?_
      · unfold x3
        refine State.Evolves.step ?_ (State.setOd_evolves ..) rfl
        refine State.Evolves.step ?_ (State.setOd_evolves ..) rfl
        exact hx2
      clear_value x3
      extract_lets +onlyGivenNames x4
      refine State.Evolves.cut (fs := [.attic, .cellar, .larder, .host, .od, .domains, .meter, .freeCtr, .ws, .bell, .pwr, .sec]) (r := s) (x := x4) ?_ fun hx4 => ?_
      · unfold x4
        refine State.Evolves.step ?_ (State.startPll_evolves ..) rfl
        refine State.Evolves.step ?_ (State.startPll_evolves ..) rfl
        refine State.Evolves.step ?_ (State.startPll_evolves ..) rfl
        exact hx3
      clear_value x4
      extract_lets +onlyGivenNames x5
      refine State.Evolves.cut (fs := [.attic, .cellar, .larder, .host, .od, .domains, .meter, .freeCtr, .ws, .bell, .pwr, .sec]) (r := s) (x := x5) ?_ fun hx5 => ?_
      · unfold x5
        refine State.Evolves.step ?_ (State.setEnables_evolves ..) rfl
        refine State.Evolves.step ?_ (State.emptyGuest_evolves ..) rfl
        refine State.Evolves.step ?_ (State.startPools_evolves ..) rfl
        refine State.Evolves.step ?_ (State.loadLibrary_evolves ..) rfl
        exact hx4
      clear_value x5
      refine State.Evolves.step ?_ (State.raise_evolves ..) rfl
      refine State.Evolves.step ?_ (State.setOd_evolves ..) rfl
      refine State.Evolves.step ?_ (State.setOd_evolves ..) rfl
      exact hx5

end Sys2Proof.Machine
end

