-- ==== Sys2Proof/Laws/EvolvesCmds.lean ====
section
/-! SUPPORT. How the state may develop, operation by operation: the effects behind the commands. -/

namespace Sys2Proof.Machine

theorem State.onWay_evolves {fs : List Fld} {r s : State} {w : Way} {f : State → State} (h : State.Evolves fs r s)
    (hf : State.Evolves fs r (f s)) : State.Evolves fs r (s.onWay w f) := by
  unfold State.onWay
  split <;> exact State.Evolves.ite hf h

theorem State.inbound_evolves {fs : List Fld} {r s : State} {p : Nat} {f : State → State} (h : State.Evolves fs r s)
    (hf : State.Evolves fs r (f s)) : State.Evolves fs r (s.inbound p f) := State.Evolves.ite hf h

theorem State.inboundEx_evolves {fs : List Fld} {r s : State} {p : Nat} {f : State → State} (h : State.Evolves fs r s)
    (hf : State.Evolves fs r (f s)) : State.Evolves fs r (s.inboundEx p f) := State.Evolves.ite hf h

theorem State.dispatching_evolves {fs : List Fld} {r s : State} {f : State → State} (h : State.Evolves fs r s)
    (hf : State.Evolves fs r (f (s.demand [4]))) : State.Evolves fs r (s.dispatching f) := State.Evolves.ite hf h

theorem State.mbox_evolves {fs : List Fld} {r s : State} {p : List Byte} {run : Bool → List Byte → State → State} (h : State.Evolves fs r s)
    (hf : ∀ b q, State.Evolves fs r (run b q s)) : State.Evolves fs r (s.mbox p run) := State.Evolves.ite h (hf _ _)

theorem State.addDrain_evolves (s : State) (o : Op) (isS : Bool) (bs : List Burst) (last : Bool) :
    State.Evolves [.porch] s (State.addDrain s o isS bs last) := by
  unfold State.addDrain
  split
  · exact State.Evolves.refl _ _
  · split
    · exact State.Evolves.refl _ _
    · refine State.Evolves.ite ?_ ?_
      · exact State.Evolves.refl _ _
      · extract_lets +onlyGivenNames x19
        clear_value x19
        extract_lets +onlyGivenNames x20
        clear_value x20
        split
        · extract_lets +onlyGivenNames x31
          clear_value x31
          refine State.Evolves.step ?_ (State.setContender_evolves ..) rfl
          exact State.Evolves.refl _ _
        · extract_lets +onlyGivenNames x41
          clear_value x41
          refine State.Evolves.upd (s := s) ?_ (State.tables_of rfl rfl rfl rfl rfl rfl rfl) rfl rfl rfl rfl rfl rfl rfl fun f hf => by cases f <;> first | rfl | simp at hf
          exact State.Evolves.refl _ _

theorem State.arrivalEcc_evolves (s : State) (b : Burst) (n : Nat) (ecc : Nat) :
    State.Evolves [.attic, .cellar, .larder, .host, .od, .meter, .bell] s (State.arrivalEcc s b n ecc) := by
  unfold State.arrivalEcc
  extract_lets +onlyGivenNames x0
  clear_value x0
  refine State.Evolves.ite ?_ ?_
  · refine State.Evolves.step ?_ (State.count_evolves ..) rfl
    exact State.Evolves.refl _ _
  · refine State.Evolves.ite ?_ ?_
    · refine State.Evolves.step ?_ (State.memRecord_evolves ..) rfl
      refine State.Evolves.step ?_ (State.count_evolves ..) rfl
      exact State.Evolves.refl _ _
    · refine State.Evolves.ite ?_ ?_
      · refine State.Evolves.step ?_ (State.memUe_evolves ..) rfl
        exact State.Evolves.refl _ _
      · refine State.Evolves.ite ?_ ?_
        · split
          · refine State.Evolves.step ?_ (State.count_evolves ..) rfl
            exact State.Evolves.refl _ _
          · refine State.Evolves.step ?_ (State.count_evolves ..) rfl
            exact State.Evolves.refl _ _
          · refine State.Evolves.step ?_ (State.count_evolves ..) rfl
            exact State.Evolves.refl _ _
          · exact State.Evolves.refl _ _
        · exact State.Evolves.refl _ _

theorem State.grantOne_evolves (s : State) (port : Nat) :
    State.Evolves [.meter, .porch, .cxl] s (State.grantOne s port) := by
  unfold State.grantOne
  split
  · exact State.Evolves.refl _ _
  · split
    · exact State.Evolves.refl _ _
    · split
      · rename_i v16 v17 e18 v19 v20 e21 v22 v23 v24 e25
        refine State.Evolves.cut (fs := [.meter, .porch, .cxl]) (r := s) (x := v24) (State.Evolves.eqv ?_ (congrArg (fun y => y.2) e25)) fun hv24 => ?_
        · refine State.Evolves.step ?_ (State.snoopFor_evolves ..) rfl
          exact State.Evolves.refl _ _
        refine State.Evolves.ite ?_ ?_
        · refine State.Evolves.step ?_ (State.grant_evolves ..) rfl
          exact hv24
        · exact hv24

theorem State.portGrant_evolves (s : State) (port : Nat) :
    State.Evolves [.meter, .sent, .porch, .ex, .cxl] s (State.portGrant s port) := by
  unfold State.portGrant
  refine State.Evolves.ite ?_ ?_
  · refine State.Evolves.step ?_ (State.grantOne_evolves ..) rfl
    exact State.Evolves.refl _ _
  · refine State.Evolves.ite ?_ ?_
    · extract_lets +onlyGivenNames x0
      refine State.Evolves.cut (fs := [.meter, .sent, .porch, .ex, .cxl]) (r := s) (x := x0) ?_ fun hx0 => ?_
      · unfold x0
        refine State.Evolves.step ?_ (State.exportNext_evolves ..) rfl
        exact State.Evolves.refl _ _
      clear_value x0
      refine State.Evolves.upd (s := x0) ?_ (State.tables_of rfl rfl rfl rfl rfl rfl rfl) rfl rfl rfl rfl rfl rfl rfl fun f hf => by cases f <;> first | rfl | simp at hf
      exact hx0
    · refine State.Evolves.step ?_ (State.grantOne_evolves ..) rfl
      refine State.Evolves.upd (s := s) ?_ (State.tables_of rfl rfl rfl rfl rfl rfl rfl) rfl rfl rfl rfl rfl rfl rfl fun f hf => by cases f <;> first | rfl | simp at hf
      exact State.Evolves.refl _ _

theorem State.stageBurst_evolves (s : State) (b : Burst) (xs : List BufSector) :
    State.Evolves [.attic, .cellar, .larder, .host, .meter] s (State.stageBurst s b xs) := by
  unfold State.stageBurst
  split
  · exact State.Evolves.refl _ _
  · refine State.Evolves.foldl ?_ ?_
    · exact State.Evolves.refl _ _
    · intro t5 x6 ht5
      split
      · extract_lets +onlyGivenNames x13
        refine State.Evolves.cut (fs := [.attic, .cellar, .larder, .host, .meter]) (r := s) (x := x13) ?_ fun hx13 => ?_
        · unfold x13
          refine State.Evolves.step ?_ (State.wr_evolves ..) rfl
          exact ht5
        clear_value x13
        refine State.Evolves.ite ?_ ?_
        · refine State.Evolves.step ?_ (State.poison_evolves ..) rfl
          exact hx13
        · exact hx13

theorem State.burstArrival_evolves (s : State) (thread : Nat) (taken : Nat) (ecc : Nat) (sec : Nat) :
    State.Evolves [.attic, .cellar, .larder, .host, .od, .meter, .lb, .porch, .bell] s (State.burstArrival s thread taken ecc sec) := by
  unfold State.burstArrival
  split
  · exact State.Evolves.refl _ _
  · split
    · extract_lets +onlyGivenNames x15
      clear_value x15
      extract_lets +onlyGivenNames x16
      refine State.Evolves.cut (fs := [.attic, .cellar, .larder, .host, .od, .meter, .lb, .porch, .bell]) (r := s) (x := x16) ?_ fun hx16 => ?_
      · unfold x16
        refine State.Evolves.step ?_ (State.setContender_evolves ..) rfl
        exact State.Evolves.refl _ _
      clear_value x16
      extract_lets +onlyGivenNames x17
      refine State.Evolves.cut (fs := [.attic, .cellar, .larder, .host, .od, .meter, .lb, .porch, .bell]) (r := s) (x := x17) ?_ fun hx17 => ?_
      · unfold x17
        refine State.Evolves.step ?_ (State.arrivalEcc_evolves ..) rfl
        exact hx16
      clear_value x17
      extract_lets +onlyGivenNames x18
      clear_value x18
      extract_lets +onlyGivenNames x19
      clear_value x19
      refine State.Evolves.step ?_ (State.setOp_evolves ..) rfl
      refine State.Evolves.step ?_ (State.stageBurst_evolves ..) rfl
      exact hx17
    · exact State.Evolves.refl _ _

theorem State.drainTile_evolves (s : State) (before : Option (Op × List TileEl)) :
    State.Evolves [.porch] s (State.drainTile s before) := by
  unfold State.drainTile
  split
  · exact State.Evolves.refl _ _
  · split
    · refine State.Evolves.ite ?_ ?_
      · extract_lets +onlyGivenNames x10
        clear_value x10
        extract_lets +onlyGivenNames x11
        clear_value x11
        extract_lets +onlyGivenNames x12
        clear_value x12
        refine State.Evolves.step ?_ (State.addDrain_evolves ..) rfl
        refine State.Evolves.step ?_ (State.addDrain_evolves ..) rfl
        exact State.Evolves.refl _ _
      · exact State.Evolves.refl _ _
    · exact State.Evolves.refl _ _

theorem State.tileConversionEnd_evolves (s : State) (path : Nat) (ecc : Nat) :
    State.Evolves [.attic, .cellar, .larder, .host, .od, .meter, .freeCtr, .sent, .lb, .rooms, .porch, .bell, .pel, .mtr, .pwr] s (State.tileConversionEnd s path ecc) := by
  unfold State.tileConversionEnd
  extract_lets +onlyGivenNames x0
  clear_value x0
  refine State.Evolves.step ?_ (State.frontSettle_evolves ..) rfl
  refine State.Evolves.step ?_ (State.repairedSends_evolves ..) rfl
  refine State.Evolves.step ?_ (State.drainTile_evolves ..) rfl
  refine State.Evolves.step ?_ (State.convertTile_evolves ..) rfl
  exact State.Evolves.refl _ _

theorem State.debugUnlock_evolves (s : State) (w : Way) (token : List Byte) :
    State.Evolves [.od, .domains, .meter, .sent, .dict, .sec] s (State.debugUnlock s w token) := by
  unfold State.debugUnlock
  extract_lets +onlyGivenNames x0
  clear_value x0
  extract_lets +onlyGivenNames x1
  clear_value x1
  refine State.Evolves.ite ?_ ?_
  · refine State.Evolves.step ?_ (State.respond_evolves ..) rfl
    exact State.Evolves.refl _ _
  · refine State.Evolves.ite ?_ ?_
    · refine State.Evolves.step ?_ (State.respond_evolves ..) rfl
      exact State.Evolves.refl _ _
    · refine State.Evolves.step ?_ (State.respond_evolves ..) rfl
      refine State.Evolves.step ?_ (State.domainEffect_evolves ..) rfl
      exact State.Evolves.refl _ _

theorem State.housekeepingReq_evolves (s : State) (w : Way) :
    State.Evolves [.attic, .cellar, .larder, .host, .od, .stoker, .domains, .meter, .sent, .lb, .ws, .bell, .gz, .ex, .pel, .dict, .mtr, .pwr, .sec] s (State.housekeepingReq s w) := by
  unfold State.housekeepingReq
  refine State.Evolves.ite ?_ ?_
  · refine State.Evolves.step ?_ (State.respond_evolves ..) rfl
    refine State.Evolves.step ?_ (State.pilotWake_evolves ..) rfl
    exact State.Evolves.refl _ _
  · refine State.Evolves.step ?_ (State.odWriteObj_evolves ..) rfl
    exact State.Evolves.refl _ _

theorem State.pageDoorbell_evolves (s : State) (hi : Nat) :
    State.Evolves [.attic, .cellar, .larder, .host, .od, .meter, .sent, .bell, .cxl] s (State.pageDoorbell s hi) := by
  unfold State.pageDoorbell
  refine State.Evolves.ite ?_ ?_
  · refine State.Evolves.step ?_ (State.pageHi_evolves ..) rfl
    refine State.Evolves.step ?_ (State.demand_evolves ..) rfl
    exact State.Evolves.refl _ _
  · refine State.Evolves.step ?_ (State.unsupported_evolves ..) rfl
    exact State.Evolves.refl _ _

theorem State.withFetchWord_evolves (s : State) (nbits : Nat) (w : Nat) :
    State.Evolves [.pending] s (State.withFetchWord s nbits w) := by
  unfold State.withFetchWord
  split
  · exact State.Evolves.refl _ _
  · refine State.Evolves.upd (s := s) ?_ (State.tables_of rfl rfl rfl rfl rfl rfl rfl) rfl rfl rfl rfl rfl rfl rfl fun f hf => by cases f <;> first | rfl | simp at hf
    exact State.Evolves.refl _ _

end Sys2Proof.Machine
end

