-- ==== Sys2Proof/Laws/EvolvesExec.lean ====
section
/-! SUPPORT. How the state may develop, operation by operation: every command: it completes, and how the state may have developed. -/

namespace Sys2Proof.Machine

theorem execEnable_evolves (q : Nat) (s : State) :
    ∃ t, execEnable q s = .next t ∧ State.Evolves [.attic, .cellar, .larder, .host, .od, .meter, .lb, .bell] s t := by
  unfold execEnable
  refine ⟨_, rfl, ?_⟩
  refine State.Evolves.ite ?_ ?_
  · refine State.Evolves.step ?_ (State.enableQueue_evolves ..) rfl
    refine State.Evolves.step ?_ (State.demand_evolves ..) rfl
    exact State.Evolves.refl _ _
  · exact State.Evolves.refl _ _

theorem execResume_evolves (q : Nat) (s : State) :
    ∃ t, execResume q s = .next t ∧ State.Evolves [.attic, .cellar, .larder, .host, .od, .meter, .lb] s t := by
  unfold execResume
  refine ⟨_, rfl, ?_⟩
  refine State.Evolves.ite ?_ ?_
  · refine State.Evolves.step ?_ (State.resumeQueue_evolves ..) rfl
    refine State.Evolves.step ?_ (State.demand_evolves ..) rfl
    exact State.Evolves.refl _ _
  · exact State.Evolves.refl _ _

theorem execLetterboxNotifyAck_evolves (w : Option Way) (n : Nat) (s : State) :
    ∃ t, execLetterboxNotifyAck w n s = .next t ∧ State.Evolves [.attic, .cellar, .larder, .host, .od, .stoker, .domains, .meter, .sent, .lb, .ws, .bell, .gz, .ex, .pel, .dict, .mtr, .pwr, .sec] s t := by
  unfold execLetterboxNotifyAck
  refine ⟨_, rfl, ?_⟩
  split
  · refine State.onWay_evolves ?_ ?_
    · exact State.Evolves.refl _ _
    · refine State.Evolves.step ?_ (State.odWriteObj_evolves ..) rfl
      exact State.Evolves.refl _ _
  · refine State.Evolves.ite ?_ ?_
    · refine State.Evolves.step ?_ (State.notifyAck_evolves ..) rfl
      refine State.Evolves.step ?_ (State.demand_evolves ..) rfl
      exact State.Evolves.refl _ _
    · refine State.Evolves.step ?_ (State.unsupported_evolves ..) rfl
      exact State.Evolves.refl _ _

theorem execBackProduct_evolves (q : Nat) (s : State) :
    ∃ t, execBackProduct q s = .next t ∧ State.Evolves [.attic, .cellar, .larder, .host, .od, .meter, .lb, .porch, .bell, .gz, .ex] s t := by
  unfold execBackProduct
  refine ⟨_, rfl, ?_⟩
  refine State.dispatching_evolves ?_ ?_
  · exact State.Evolves.refl _ _
  · refine State.Evolves.step ?_ (State.dispatchLetter_evolves ..) rfl
    refine State.Evolves.step ?_ (State.demand_evolves ..) rfl
    exact State.Evolves.refl _ _

theorem execFlushHoldRelease_evolves (back : Bool) (cycles : Nat) (s : State) :
    ∃ t, execFlushHoldRelease back cycles s = .next t ∧ State.Evolves [.attic, .cellar, .larder, .host, .od, .meter, .freeCtr, .lb, .rooms, .bell] s t := by
  unfold execFlushHoldRelease
  refine ⟨_, rfl, ?_⟩
  refine State.Evolves.step ?_ (State.holdRelease_evolves ..) rfl
  exact State.Evolves.refl _ _

theorem execTileConversionEnd_evolves (path : Nat) (ecc : Nat) (s : State) :
    ∃ t, execTileConversionEnd ⟨path, ecc⟩ s = .next t ∧ State.Evolves [.attic, .cellar, .larder, .host, .od, .meter, .freeCtr, .sent, .lb, .rooms, .porch, .bell, .pel, .mtr, .pwr] s t := by
  unfold execTileConversionEnd
  refine ⟨_, rfl, ?_⟩
  refine State.Evolves.step ?_ (State.tileConversionEnd_evolves ..) rfl
  exact State.Evolves.refl _ _

theorem execHeader_evolves (q : Nat) (s : State) :
    ∃ t, execHeader q s = .next t ∧ State.Evolves [.attic, .cellar, .larder, .host, .od, .meter, .lb, .bell, .gz, .ex] s t := by
  unfold execHeader
  refine ⟨_, rfl, ?_⟩
  refine State.dispatching_evolves ?_ ?_
  · exact State.Evolves.refl _ _
  · refine State.Evolves.step ?_ (State.dispatchHeader_evolves ..) rfl
    refine State.Evolves.step ?_ (State.demand_evolves ..) rfl
    exact State.Evolves.refl _ _

theorem execFlush_evolves (q : Nat) (s : State) :
    ∃ t, execFlush q s = .next t ∧ State.Evolves [.attic, .cellar, .larder, .host, .od, .meter, .lb, .bell, .gz, .ex] s t := by
  unfold execFlush
  refine ⟨_, rfl, ?_⟩
  refine State.Evolves.ite ?_ ?_
  · refine State.Evolves.step ?_ (State.flushQueue_evolves ..) rfl
    refine State.Evolves.step ?_ (State.demand_evolves ..) rfl
    exact State.Evolves.refl _ _
  · exact State.Evolves.refl _ _

theorem execTileDone_evolves (back : Bool) (cycles : Nat) (starve : Nat) (ecc : Nat) (s : State) :
    ∃ t, execTileDone ⟨back, ecc⟩ cycles starve s = .next t ∧ State.Evolves [.attic, .cellar, .larder, .host, .od, .meter, .freeCtr, .lb, .rooms, .porch, .bell, .pwr] s t := by
  unfold execTileDone
  refine ⟨_, rfl, ?_⟩
  refine State.Evolves.step ?_ (State.frontSettle_evolves ..) rfl
  refine State.Evolves.step ?_ (State.tileDone_evolves ..) rfl
  exact State.Evolves.refl _ _

theorem execCopyConvert_evolves (q : Nat) (s : State) :
    ∃ t, execCopyConvert q s = .next t ∧ State.Evolves [.attic, .cellar, .larder, .host, .od, .meter, .lb, .porch, .bell, .gz, .ex] s t := by
  unfold execCopyConvert
  refine ⟨_, rfl, ?_⟩
  refine State.dispatching_evolves ?_ ?_
  · exact State.Evolves.refl _ _
  · refine State.Evolves.step ?_ (State.dispatchLetter_evolves ..) rfl
    refine State.Evolves.step ?_ (State.demand_evolves ..) rfl
    exact State.Evolves.refl _ _

theorem execLetterStart_evolves (station : Nat) (fill : Nat) (s : State) :
    ∃ t, execLetterStart station fill s = .next t ∧ State.Evolves [.attic, .cellar, .larder, .host, .od, .meter, .freeCtr, .lb, .rooms, .porch, .bell] s t := by
  unfold execLetterStart
  refine ⟨_, rfl, ?_⟩
  refine State.Evolves.step ?_ (State.letterStart_evolves ..) rfl
  exact State.Evolves.refl _ _

theorem execLetterboxDoorbell_evolves (data : Nat) (s : State) :
    ∃ t, execLetterboxDoorbell data s = .next t ∧ State.Evolves [.attic, .cellar, .larder, .host, .od, .meter, .lb, .bell] s t := by
  unfold execLetterboxDoorbell
  refine ⟨_, rfl, ?_⟩
  refine State.Evolves.ite ?_ ?_
  · refine State.Evolves.step ?_ (State.doorbell_evolves ..) rfl
    refine State.Evolves.step ?_ (State.demand_evolves ..) rfl
    exact State.Evolves.refl _ _
  · exact State.Evolves.refl _ _

theorem execFrontProduct_evolves (q : Nat) (s : State) :
    ∃ t, execFrontProduct q s = .next t ∧ State.Evolves [.attic, .cellar, .larder, .host, .od, .meter, .lb, .porch, .bell, .gz, .ex] s t := by
  unfold execFrontProduct
  refine ⟨_, rfl, ?_⟩
  refine State.dispatching_evolves ?_ ?_
  · exact State.Evolves.refl _ _
  · refine State.Evolves.step ?_ (State.dispatchLetter_evolves ..) rfl
    refine State.Evolves.step ?_ (State.demand_evolves ..) rfl
    exact State.Evolves.refl _ _

theorem execKvWaitTimeout_evolves (path : Nat) (s : State) :
    ∃ t, execKvWaitTimeout path s = .next t ∧ State.Evolves [.meter, .tick, .freeCtr, .lb, .rooms, .porch, .bell, .mtr] s t := by
  unfold execKvWaitTimeout
  refine ⟨_, rfl, ?_⟩
  refine State.Evolves.step ?_ (State.kvWaitTimeout_evolves ..) rfl
  exact State.Evolves.refl _ _

theorem execPassDone_evolves (back : Bool) (ecc : Nat) (s : State) :
    ∃ t, execPassDone ⟨back, ecc⟩ s = .next t ∧ State.Evolves [.attic, .cellar, .larder, .host, .od, .meter, .freeCtr, .lb, .rooms, .bell] s t := by
  unfold execPassDone
  refine ⟨_, rfl, ?_⟩
  refine State.Evolves.step ?_ (State.passDone_evolves ..) rfl
  exact State.Evolves.refl _ _

theorem execSegmentEnd_evolves (back : Bool) (row : Nat) (col : Nat) (ecc : Nat) (s : State) :
    ∃ t, execSegmentEnd back row col ecc s = .next t ∧ State.Evolves [.attic, .cellar, .larder, .host, .od, .meter, .freeCtr, .lb, .rooms, .porch, .bell] s t := by
  unfold execSegmentEnd
  refine ⟨_, rfl, ?_⟩
  refine State.Evolves.step ?_ (State.segmentEnd_evolves ..) rfl
  exact State.Evolves.refl _ _

theorem execDisable_evolves (q : Nat) (s : State) :
    ∃ t, execDisable q s = .next t ∧ State.Evolves [.attic, .cellar, .larder, .host, .od, .meter, .lb] s t := by
  unfold execDisable
  refine ⟨_, rfl, ?_⟩
  refine State.Evolves.ite ?_ ?_
  · refine State.Evolves.step ?_ (State.disableQueue_evolves ..) rfl
    refine State.Evolves.step ?_ (State.demand_evolves ..) rfl
    exact State.Evolves.refl _ _
  · exact State.Evolves.refl _ _

theorem execLetterCompletion_evolves (q : Nat) (seq : Nat) (s : State) :
    ∃ t, execLetterCompletion q seq s = .next t ∧ State.Evolves [.attic, .cellar, .larder, .host, .od, .meter, .sent, .lb, .porch, .bell, .gz, .ex, .pel, .mtr, .pwr] s t := by
  unfold execLetterCompletion
  refine ⟨_, rfl, ?_⟩
  refine State.Evolves.step ?_ (State.frontSettle_evolves ..) rfl
  refine State.Evolves.step ?_ (State.completeLetter_evolves ..) rfl
  exact State.Evolves.refl _ _

theorem execReservedRoute_evolves (q : Nat) (s : State) :
    ∃ t, execReservedRoute q s = .next t ∧ State.Evolves [.attic, .cellar, .larder, .host, .od, .meter, .lb, .bell, .gz, .ex] s t := by
  unfold execReservedRoute
  refine ⟨_, rfl, ?_⟩
  refine State.dispatching_evolves ?_ ?_
  · exact State.Evolves.refl _ _
  · refine State.Evolves.step ?_ (State.dispatchReserved_evolves ..) rfl
    refine State.Evolves.step ?_ (State.demand_evolves ..) rfl
    exact State.Evolves.refl _ _

theorem execCopyTranspose_evolves (q : Nat) (s : State) :
    ∃ t, execCopyTranspose q s = .next t ∧ State.Evolves [.attic, .cellar, .larder, .host, .od, .meter, .lb, .porch, .bell, .gz, .ex] s t := by
  unfold execCopyTranspose
  refine ⟨_, rfl, ?_⟩
  refine State.dispatching_evolves ?_ ?_
  · exact State.Evolves.refl _ _
  · refine State.Evolves.step ?_ (State.dispatchLetter_evolves ..) rfl
    refine State.Evolves.step ?_ (State.demand_evolves ..) rfl
    exact State.Evolves.refl _ _

theorem execMarker_evolves (q : Nat) (s : State) :
    ∃ t, execMarker q s = .next t ∧ State.Evolves [.attic, .cellar, .larder, .host, .od, .meter, .lb, .bell, .gz, .ex] s t := by
  unfold execMarker
  refine ⟨_, rfl, ?_⟩
  refine State.dispatching_evolves ?_ ?_
  · exact State.Evolves.refl _ _
  · refine State.Evolves.step ?_ (State.dispatchMarker_evolves ..) rfl
    refine State.Evolves.step ?_ (State.demand_evolves ..) rfl
    exact State.Evolves.refl _ _

theorem execDecodeGatherTimeout_evolves (s : State) :
    ∃ t, execDecodeGatherTimeout s = .next t ∧ State.Evolves [.attic, .cellar, .larder, .host, .od, .meter, .tick, .lb, .porch, .bell, .gz, .ex, .mtr] s t := by
  unfold execDecodeGatherTimeout
  refine ⟨_, rfl, ?_⟩
  refine State.Evolves.step ?_ (State.endGather_evolves ..) rfl
  exact State.Evolves.refl _ _

theorem execMemoryPortGrant_evolves (port : Nat) (s : State) :
    ∃ t, execMemoryPortGrant port s = .next t ∧ State.Evolves [.meter, .sent, .porch, .ex, .cxl] s t := by
  unfold execMemoryPortGrant
  refine ⟨_, rfl, ?_⟩
  refine State.Evolves.step ?_ (State.portGrant_evolves ..) rfl
  exact State.Evolves.refl _ _

theorem execBurstArrival_evolves (thread : Nat) (taken : Nat) (ecc : Nat) (sec : Nat) (s : State) :
    ∃ t, execBurstArrival thread taken ecc sec s = .next t ∧ State.Evolves [.attic, .cellar, .larder, .host, .od, .meter, .lb, .porch, .bell] s t := by
  unfold execBurstArrival
  refine ⟨_, rfl, ?_⟩
  refine State.Evolves.step ?_ (State.burstArrival_evolves ..) rfl
  exact State.Evolves.refl _ _

theorem execLibrarySpecificProgram_evolves (q : Nat) (s : State) :
    ∃ t, execLibrarySpecificProgram q s = .next t ∧ State.Evolves [.attic, .cellar, .larder, .host, .od, .meter, .lb, .porch, .bell, .gz, .ex] s t := by
  unfold execLibrarySpecificProgram
  refine ⟨_, rfl, ?_⟩
  refine State.dispatching_evolves ?_ ?_
  · exact State.Evolves.refl _ _
  · refine State.Evolves.step ?_ (State.dispatchLetter_evolves ..) rfl
    refine State.Evolves.step ?_ (State.demand_evolves ..) rfl
    exact State.Evolves.refl _ _

theorem execRmsnormBwd_evolves (q : Nat) (s : State) :
    ∃ t, execRmsnormBwd q s = .next t ∧ State.Evolves [.attic, .cellar, .larder, .host, .od, .meter, .lb, .porch, .bell, .gz, .ex] s t := by
  unfold execRmsnormBwd
  refine ⟨_, rfl, ?_⟩
  refine State.dispatching_evolves ?_ ?_
  · exact State.Evolves.refl _ _
  · refine State.Evolves.step ?_ (State.dispatchLetter_evolves ..) rfl
    refine State.Evolves.step ?_ (State.demand_evolves ..) rfl
    exact State.Evolves.refl _ _

theorem execBenchWatchdog_evolves (bench : Nat) (cycles : Nat) (s : State) :
    ∃ t, execBenchWatchdog ⟨bench, cycles⟩ s = .next t ∧ State.Evolves [.od, .meter, .freeCtr, .lb, .rooms, .porch, .ws, .bell] s t := by
  unfold execBenchWatchdog
  refine ⟨_, rfl, ?_⟩
  refine State.Evolves.step ?_ (State.benchFault_evolves ..) rfl
  exact State.Evolves.refl _ _

theorem execBenchTrap_evolves (bench : Nat) (s : State) :
    ∃ t, execBenchTrap bench s = .next t ∧ State.Evolves [.od, .meter, .freeCtr, .lb, .rooms, .porch, .ws, .bell] s t := by
  unfold execBenchTrap
  refine ⟨_, rfl, ?_⟩
  refine State.Evolves.step ?_ (State.benchFault_evolves ..) rfl
  exact State.Evolves.refl _ _

theorem execGatedSiluBwd_evolves (q : Nat) (s : State) :
    ∃ t, execGatedSiluBwd q s = .next t ∧ State.Evolves [.attic, .cellar, .larder, .host, .od, .meter, .lb, .porch, .bell, .gz, .ex] s t := by
  unfold execGatedSiluBwd
  refine ⟨_, rfl, ?_⟩
  refine State.dispatching_evolves ?_ ?_
  · exact State.Evolves.refl _ _
  · refine State.Evolves.step ?_ (State.dispatchLetter_evolves ..) rfl
    refine State.Evolves.step ?_ (State.demand_evolves ..) rfl
    exact State.Evolves.refl _ _

theorem execSoftmaxBwd_evolves (q : Nat) (s : State) :
    ∃ t, execSoftmaxBwd q s = .next t ∧ State.Evolves [.attic, .cellar, .larder, .host, .od, .meter, .lb, .porch, .bell, .gz, .ex] s t := by
  unfold execSoftmaxBwd
  refine ⟨_, rfl, ?_⟩
  refine State.dispatching_evolves ?_ ?_
  · exact State.Evolves.refl _ _
  · refine State.Evolves.step ?_ (State.dispatchLetter_evolves ..) rfl
    refine State.Evolves.step ?_ (State.demand_evolves ..) rfl
    exact State.Evolves.refl _ _

theorem execEwAxpby_evolves (q : Nat) (s : State) :
    ∃ t, execEwAxpby q s = .next t ∧ State.Evolves [.attic, .cellar, .larder, .host, .od, .meter, .lb, .porch, .bell, .gz, .ex] s t := by
  unfold execEwAxpby
  refine ⟨_, rfl, ?_⟩
  refine State.dispatching_evolves ?_ ?_
  · exact State.Evolves.refl _ _
  · refine State.Evolves.step ?_ (State.dispatchLetter_evolves ..) rfl
    refine State.Evolves.step ?_ (State.demand_evolves ..) rfl
    exact State.Evolves.refl _ _

theorem execToppSelect_evolves (q : Nat) (s : State) :
    ∃ t, execToppSelect q s = .next t ∧ State.Evolves [.attic, .cellar, .larder, .host, .od, .meter, .lb, .porch, .bell, .gz, .ex] s t := by
  unfold execToppSelect
  refine ⟨_, rfl, ?_⟩
  refine State.dispatching_evolves ?_ ?_
  · exact State.Evolves.refl _ _
  · refine State.Evolves.step ?_ (State.dispatchLetter_evolves ..) rfl
    refine State.Evolves.step ?_ (State.demand_evolves ..) rfl
    exact State.Evolves.refl _ _

theorem execLayernorm_evolves (q : Nat) (s : State) :
    ∃ t, execLayernorm q s = .next t ∧ State.Evolves [.attic, .cellar, .larder, .host, .od, .meter, .lb, .porch, .bell, .gz, .ex] s t := by
  unfold execLayernorm
  refine ⟨_, rfl, ?_⟩
  refine State.dispatching_evolves ?_ ?_
  · exact State.Evolves.refl _ _
  · refine State.Evolves.step ?_ (State.dispatchLetter_evolves ..) rfl
    refine State.Evolves.step ?_ (State.demand_evolves ..) rfl
    exact State.Evolves.refl _ _

theorem execGatedSilu_evolves (q : Nat) (s : State) :
    ∃ t, execGatedSilu q s = .next t ∧ State.Evolves [.attic, .cellar, .larder, .host, .od, .meter, .lb, .porch, .bell, .gz, .ex] s t := by
  unfold execGatedSilu
  refine ⟨_, rfl, ?_⟩
  refine State.dispatching_evolves ?_ ?_
  · exact State.Evolves.refl _ _
  · refine State.Evolves.step ?_ (State.dispatchLetter_evolves ..) rfl
    refine State.Evolves.step ?_ (State.demand_evolves ..) rfl
    exact State.Evolves.refl _ _

theorem execLibInstallDone_evolves (s : State) :
    ∃ t, execLibInstallDone s = .next t ∧ State.Evolves [.od, .ws, .sec] s t := by
  unfold execLibInstallDone
  refine ⟨_, rfl, ?_⟩
  refine State.Evolves.step ?_ (State.libDone_evolves ..) rfl
  exact State.Evolves.refl _ _

theorem execOutlierProductsDone_evolves (back : Bool) (wait : Nat) (s : State) :
    ∃ t, execOutlierProductsDone back wait s = .next t ∧ State.Evolves [.meter, .lb] s t := by
  unfold execOutlierProductsDone
  refine ⟨_, rfl, ?_⟩
  refine State.Evolves.step ?_ (State.outlierDone_evolves ..) rfl
  exact State.Evolves.refl _ _

theorem execWsLibLoad_evolves (w : Way) (data : List Byte) (s : State) :
    ∃ t, execWsLibLoad w data s = .next t ∧ State.Evolves [.attic, .cellar, .larder, .host, .od, .stoker, .domains, .meter, .sent, .lb, .ws, .bell, .gz, .ex, .pel, .dict, .mtr, .pwr, .sec] s t := by
  unfold execWsLibLoad
  refine ⟨_, rfl, ?_⟩
  refine State.onWay_evolves ?_ ?_
  · exact State.Evolves.refl _ _
  · refine State.Evolves.step ?_ (State.odWriteObj_evolves ..) rfl
    exact State.Evolves.refl _ _

theorem execSoftmaxFinish_evolves (q : Nat) (s : State) :
    ∃ t, execSoftmaxFinish q s = .next t ∧ State.Evolves [.attic, .cellar, .larder, .host, .od, .meter, .lb, .porch, .bell, .gz, .ex] s t := by
  unfold execSoftmaxFinish
  refine ⟨_, rfl, ?_⟩
  refine State.dispatching_evolves ?_ ?_
  · exact State.Evolves.refl _ _
  · refine State.Evolves.step ?_ (State.dispatchLetter_evolves ..) rfl
    refine State.Evolves.step ?_ (State.demand_evolves ..) rfl
    exact State.Evolves.refl _ _

theorem execAttnCombine_evolves (q : Nat) (s : State) :
    ∃ t, execAttnCombine q s = .next t ∧ State.Evolves [.attic, .cellar, .larder, .host, .od, .meter, .lb, .porch, .bell, .gz, .ex] s t := by
  unfold execAttnCombine
  refine ⟨_, rfl, ?_⟩
  refine State.dispatching_evolves ?_ ?_
  · exact State.Evolves.refl _ _
  · refine State.Evolves.step ?_ (State.dispatchLetter_evolves ..) rfl
    refine State.Evolves.step ?_ (State.demand_evolves ..) rfl
    exact State.Evolves.refl _ _

theorem execOutlierReservationApply_evolves (s : State) :
    ∃ t, execOutlierReservationApply s = .next t ∧ State.Evolves [.ws] s t := by
  unfold execOutlierReservationApply
  refine ⟨_, rfl, ?_⟩
  refine State.Evolves.step ?_ (State.applyReservation_evolves ..) rfl
  exact State.Evolves.refl _ _

theorem execSoftmaxBlock_evolves (q : Nat) (s : State) :
    ∃ t, execSoftmaxBlock q s = .next t ∧ State.Evolves [.attic, .cellar, .larder, .host, .od, .meter, .lb, .porch, .bell, .gz, .ex] s t := by
  unfold execSoftmaxBlock
  refine ⟨_, rfl, ?_⟩
  refine State.dispatching_evolves ?_ ?_
  · exact State.Evolves.refl _ _
  · refine State.Evolves.step ?_ (State.dispatchLetter_evolves ..) rfl
    refine State.Evolves.step ?_ (State.demand_evolves ..) rfl
    exact State.Evolves.refl _ _

theorem execRmsnorm_evolves (q : Nat) (s : State) :
    ∃ t, execRmsnorm q s = .next t ∧ State.Evolves [.attic, .cellar, .larder, .host, .od, .meter, .lb, .porch, .bell, .gz, .ex] s t := by
  unfold execRmsnorm
  refine ⟨_, rfl, ?_⟩
  refine State.dispatching_evolves ?_ ?_
  · exact State.Evolves.refl _ _
  · refine State.Evolves.step ?_ (State.dispatchLetter_evolves ..) rfl
    refine State.Evolves.step ?_ (State.demand_evolves ..) rfl
    exact State.Evolves.refl _ _

theorem execWorkshopTileDone_evolves (slot : Nat) (ecc : Nat) (s : State) :
    ∃ t, execWorkshopTileDone slot ecc s = .next t ∧ State.Evolves [.attic, .cellar, .larder, .host, .od, .meter, .freeCtr, .lb, .rooms, .porch, .ws, .bell] s t := by
  unfold execWorkshopTileDone
  refine ⟨_, rfl, ?_⟩
  refine State.Evolves.step ?_ (State.wsTileDone_evolves ..) rfl
  exact State.Evolves.refl _ _

theorem execQuant_evolves (q : Nat) (s : State) :
    ∃ t, execQuant q s = .next t ∧ State.Evolves [.attic, .cellar, .larder, .host, .od, .meter, .freeCtr, .lb, .bell, .gz, .ex] s t := by
  unfold execQuant
  refine ⟨_, rfl, ?_⟩
  refine State.dispatching_evolves ?_ ?_
  · exact State.Evolves.refl _ _
  · refine State.Evolves.step ?_ (State.quantLetter_evolves ..) rfl
    refine State.Evolves.step ?_ (State.demand_evolves ..) rfl
    exact State.Evolves.refl _ _

theorem execCvtsr_evolves (core : Nat) (s : State) :
    ∃ t, execCvtsr core s = .next t ∧ State.Evolves [.gz] s t := by
  unfold execCvtsr
  refine ⟨_, rfl, ?_⟩
  refine State.Evolves.step ?_ (State.gzExec_evolves ..) rfl
  exact State.Evolves.refl _ _

theorem execGzUnknownProg_evolves (q : Nat) (s : State) :
    ∃ t, execGzUnknownProg q s = .next t ∧ State.Evolves [.attic, .cellar, .larder, .host, .od, .meter, .lb, .bell, .gz, .ex] s t := by
  unfold execGzUnknownProg
  refine ⟨_, rfl, ?_⟩
  refine State.dispatching_evolves ?_ ?_
  · exact State.Evolves.refl _ _
  · refine State.Evolves.step ?_ (State.gzUnknown_evolves ..) rfl
    refine State.Evolves.step ?_ (State.demand_evolves ..) rfl
    exact State.Evolves.refl _ _

theorem execGlaziaRuleLoad_evolves (w : Way) (data : List Byte) (s : State) :
    ∃ t, execGlaziaRuleLoad w data s = .next t ∧ State.Evolves [.attic, .cellar, .larder, .host, .od, .stoker, .domains, .meter, .sent, .lb, .ws, .bell, .gz, .ex, .pel, .dict, .mtr, .pwr, .sec] s t := by
  unfold execGlaziaRuleLoad
  refine ⟨_, rfl, ?_⟩
  refine State.onWay_evolves ?_ ?_
  · exact State.Evolves.refl _ _
  · refine State.Evolves.step ?_ (State.odWriteObj_evolves ..) rfl
    exact State.Evolves.refl _ _

theorem execSqrt_evolves (core : Nat) (s : State) :
    ∃ t, execSqrt core s = .next t ∧ State.Evolves [.gz] s t := by
  unfold execSqrt
  refine ⟨_, rfl, ?_⟩
  refine State.Evolves.step ?_ (State.gzExec_evolves ..) rfl
  exact State.Evolves.refl _ _

theorem execGrainDone_evolves (core : Nat) (cycles : Nat) (mem : Nat) (s : State) :
    ∃ t, execGrainDone core cycles mem s = .next t ∧ State.Evolves [.attic, .cellar, .larder, .host, .od, .meter, .freeCtr, .lb, .bell, .gz, .ex] s t := by
  unfold execGrainDone
  refine ⟨_, rfl, ?_⟩
  refine State.Evolves.step ?_ (State.grainDone_evolves ..) rfl
  exact State.Evolves.refl _ _

theorem execOpenUpdate_evolves (q : Nat) (s : State) :
    ∃ t, execOpenUpdate q s = .next t ∧ State.Evolves [.attic, .cellar, .larder, .host, .od, .captain, .stoker, .domains, .meter, .freeCtr, .lb, .rooms, .porch, .bell, .gz, .ex] s t := by
  unfold execOpenUpdate
  refine ⟨_, rfl, ?_⟩
  refine State.dispatching_evolves ?_ ?_
  · exact State.Evolves.refl _ _
  · refine State.Evolves.step ?_ (State.openLetter_evolves ..) rfl
    refine State.Evolves.step ?_ (State.demand_evolves ..) rfl
    exact State.Evolves.refl _ _

theorem execSt_evolves (core : Nat) (s : State) :
    ∃ t, execSt core s = .next t ∧ State.Evolves [.gz] s t := by
  unfold execSt
  refine ⟨_, rfl, ?_⟩
  refine State.Evolves.step ?_ (State.gzExec_evolves ..) rfl
  exact State.Evolves.refl _ _

theorem execLerp_evolves (core : Nat) (s : State) :
    ∃ t, execLerp core s = .next t ∧ State.Evolves [.gz] s t := by
  unfold execLerp
  refine ⟨_, rfl, ?_⟩
  refine State.Evolves.step ?_ (State.gzExec_evolves ..) rfl
  exact State.Evolves.refl _ _

theorem execCommit_evolves (core : Nat) (s : State) :
    ∃ t, execCommit core s = .next t ∧ State.Evolves [.attic, .cellar, .larder, .host, .meter, .bell, .gz] s t := by
  unfold execCommit
  refine ⟨_, rfl, ?_⟩
  refine State.Evolves.step ?_ (State.gzCommit_evolves ..) rfl
  exact State.Evolves.refl _ _

theorem execAbs_evolves (core : Nat) (s : State) :
    ∃ t, execAbs core s = .next t ∧ State.Evolves [.gz] s t := by
  unfold execAbs
  refine ⟨_, rfl, ?_⟩
  refine State.Evolves.step ?_ (State.gzExec_evolves ..) rfl
  exact State.Evolves.refl _ _

theorem execMin_evolves (core : Nat) (s : State) :
    ∃ t, execMin core s = .next t ∧ State.Evolves [.gz] s t := by
  unfold execMin
  refine ⟨_, rfl, ?_⟩
  refine State.Evolves.step ?_ (State.gzExec_evolves ..) rfl
  exact State.Evolves.refl _ _

theorem execSel_evolves (core : Nat) (s : State) :
    ∃ t, execSel core s = .next t ∧ State.Evolves [.gz] s t := by
  unfold execSel
  refine ⟨_, rfl, ?_⟩
  refine State.Evolves.step ?_ (State.gzExec_evolves ..) rfl
  exact State.Evolves.refl _ _

theorem execClose_evolves (q : Nat) (s : State) :
    ∃ t, execClose q s = .next t ∧ State.Evolves [.attic, .cellar, .larder, .host, .od, .meter, .lb, .bell, .gz, .ex] s t := by
  unfold execClose
  refine ⟨_, rfl, ?_⟩
  refine State.dispatching_evolves ?_ ?_
  · exact State.Evolves.refl _ _
  · refine State.Evolves.step ?_ (State.closeLetter_evolves ..) rfl
    refine State.Evolves.step ?_ (State.demand_evolves ..) rfl
    exact State.Evolves.refl _ _

theorem execSub_evolves (core : Nat) (s : State) :
    ∃ t, execSub core s = .next t ∧ State.Evolves [.gz] s t := by
  unfold execSub
  refine ⟨_, rfl, ?_⟩
  refine State.Evolves.step ?_ (State.gzExec_evolves ..) rfl
  exact State.Evolves.refl _ _

theorem execMax_evolves (core : Nat) (s : State) :
    ∃ t, execMax core s = .next t ∧ State.Evolves [.gz] s t := by
  unfold execMax
  refine ⟨_, rfl, ?_⟩
  refine State.Evolves.step ?_ (State.gzExec_evolves ..) rfl
  exact State.Evolves.refl _ _

theorem execLd_evolves (core : Nat) (ecc : Nat) (sec : Nat) (s : State) :
    ∃ t, execLd ⟨core, ecc, sec⟩ s = .next t ∧ State.Evolves [.od, .meter, .freeCtr, .bell, .gz] s t := by
  unfold execLd
  refine ⟨_, rfl, ?_⟩
  refine State.Evolves.step ?_ (State.gzLd_evolves ..) rfl
  exact State.Evolves.refl _ _

theorem execBody_evolves (core : Nat) (s : State) :
    ∃ t, execBody core s = .next t ∧ State.Evolves [.gz] s t := by
  unfold execBody
  refine ⟨_, rfl, ?_⟩
  refine State.Evolves.step ?_ (State.gzBody_evolves ..) rfl
  exact State.Evolves.refl _ _

theorem execMul_evolves (core : Nat) (s : State) :
    ∃ t, execMul core s = .next t ∧ State.Evolves [.gz] s t := by
  unfold execMul
  refine ⟨_, rfl, ?_⟩
  refine State.Evolves.step ?_ (State.gzExec_evolves ..) rfl
  exact State.Evolves.refl _ _

theorem execSpowi_evolves (core : Nat) (s : State) :
    ∃ t, execSpowi core s = .next t ∧ State.Evolves [.gz] s t := by
  unfold execSpowi
  refine ⟨_, rfl, ?_⟩
  refine State.Evolves.step ?_ (State.gzExec_evolves ..) rfl
  exact State.Evolves.refl _ _

theorem execPiece_evolves (q : Nat) (s : State) :
    ∃ t, execPiece q s = .next t ∧ State.Evolves [.attic, .cellar, .larder, .host, .od, .meter, .lb, .porch, .bell, .gz, .ex] s t := by
  unfold execPiece
  refine ⟨_, rfl, ?_⟩
  refine State.dispatching_evolves ?_ ?_
  · exact State.Evolves.refl _ _
  · refine State.Evolves.step ?_ (State.pieceLetter_evolves ..) rfl
    refine State.Evolves.step ?_ (State.demand_evolves ..) rfl
    exact State.Evolves.refl _ _

theorem execFma_evolves (core : Nat) (s : State) :
    ∃ t, execFma core s = .next t ∧ State.Evolves [.gz] s t := by
  unfold execFma
  refine ⟨_, rfl, ?_⟩
  refine State.Evolves.step ?_ (State.gzExec_evolves ..) rfl
  exact State.Evolves.refl _ _

theorem execDiv_evolves (core : Nat) (s : State) :
    ∃ t, execDiv core s = .next t ∧ State.Evolves [.gz] s t := by
  unfold execDiv
  refine ⟨_, rfl, ?_⟩
  refine State.Evolves.step ?_ (State.gzExec_evolves ..) rfl
  exact State.Evolves.refl _ _

theorem execAdd_evolves (core : Nat) (s : State) :
    ∃ t, execAdd core s = .next t ∧ State.Evolves [.gz] s t := by
  unfold execAdd
  refine ⟨_, rfl, ?_⟩
  refine State.Evolves.step ?_ (State.gzExec_evolves ..) rfl
  exact State.Evolves.refl _ _

theorem execCvtbf_evolves (core : Nat) (s : State) :
    ∃ t, execCvtbf core s = .next t ∧ State.Evolves [.gz] s t := by
  unfold execCvtbf
  refine ⟨_, rfl, ?_⟩
  refine State.Evolves.step ?_ (State.gzExec_evolves ..) rfl
  exact State.Evolves.refl _ _

theorem execReduceScatter_evolves (q : Nat) (s : State) :
    ∃ t, execReduceScatter q s = .next t ∧ State.Evolves [.attic, .cellar, .larder, .host, .od, .meter, .sent, .lb, .porch, .bell, .gz, .ex, .pel] s t := by
  unfold execReduceScatter
  refine ⟨_, rfl, ?_⟩
  refine State.dispatching_evolves ?_ ?_
  · exact State.Evolves.refl _ _
  · refine State.Evolves.step ?_ (State.dispatchCollective_evolves ..) rfl
    refine State.Evolves.step ?_ (State.demand_evolves ..) rfl
    exact State.Evolves.refl _ _

theorem execNotice_evolves (port : Nat) (head : Nat) (s : State) :
    ∃ t, execNotice port head s = .next t ∧ State.Evolves [.attic, .cellar, .larder, .host, .meter, .sent, .lb, .porch, .bell, .pel] s t := by
  unfold execNotice
  refine ⟨_, rfl, ?_⟩
  refine State.inbound_evolves ?_ ?_
  · exact State.Evolves.refl _ _
  · refine State.Evolves.step ?_ (State.noticeArrival_evolves ..) rfl
    exact State.Evolves.refl _ _

theorem execBroadcast_evolves (q : Nat) (s : State) :
    ∃ t, execBroadcast q s = .next t ∧ State.Evolves [.attic, .cellar, .larder, .host, .od, .meter, .sent, .lb, .porch, .bell, .gz, .ex, .pel] s t := by
  unfold execBroadcast
  refine ⟨_, rfl, ?_⟩
  refine State.dispatching_evolves ?_ ?_
  · exact State.Evolves.refl _ _
  · refine State.Evolves.step ?_ (State.dispatchCollective_evolves ..) rfl
    refine State.Evolves.step ?_ (State.demand_evolves ..) rfl
    exact State.Evolves.refl _ _

theorem execRejoin_evolves (w : Way) (g : Nat) (m : Nat) (s : State) :
    ∃ t, execRejoin w g m s = .next t ∧ State.Evolves [.attic, .cellar, .larder, .host, .od, .stoker, .domains, .meter, .sent, .lb, .ws, .bell, .gz, .ex, .pel, .dict, .mtr, .pwr, .sec] s t := by
  unfold execRejoin
  refine ⟨_, rfl, ?_⟩
  refine State.onWay_evolves ?_ ?_
  · exact State.Evolves.refl _ _
  · refine State.Evolves.step ?_ (State.odWriteObj_evolves ..) rfl
    exact State.Evolves.refl _ _

theorem execUioCompletionError_evolves (g : Nat) (m : Nat) (s : State) :
    ∃ t, execUioCompletionError g m s = .next t ∧ State.Evolves [.attic, .cellar, .larder, .host, .od, .captain, .stoker, .domains, .meter, .freeCtr, .sent, .lb, .rooms, .porch, .bell, .gz, .ex, .pel] s t := by
  unfold execUioCompletionError
  refine ⟨_, rfl, ?_⟩
  refine State.Evolves.step ?_ (State.uioFailed_evolves ..) rfl
  exact State.Evolves.refl _ _

theorem execContrib_evolves (port : Nat) (head : Nat) (payload : List Byte) (poison : Bool) (s : State) :
    ∃ t, execContrib port head payload poison s = .next t ∧ State.Evolves [.attic, .cellar, .larder, .host, .od, .meter, .sent, .lb, .porch, .pel] s t := by
  unfold execContrib
  refine ⟨_, rfl, ?_⟩
  refine State.inbound_evolves ?_ ?_
  · exact State.Evolves.refl _ _
  · refine State.Evolves.step ?_ (State.contribFrame_evolves ..) rfl
    exact State.Evolves.refl _ _

theorem execExportAck_evolves (port : Nat) (head : Nat) (s : State) :
    ∃ t, execExportAck port head s = .next t ∧ State.Evolves [.attic, .cellar, .larder, .host, .od, .captain, .stoker, .domains, .meter, .freeCtr, .lb, .rooms, .porch, .bell, .gz, .ex] s t := by
  unfold execExportAck
  refine ⟨_, rfl, ?_⟩
  refine State.inboundEx_evolves ?_ ?_
  · exact State.Evolves.refl _ _
  · refine State.Evolves.step ?_ (State.exportAck_evolves ..) rfl
    exact State.Evolves.refl _ _

theorem execUioTimeout_evolves (g : Nat) (m : Nat) (s : State) :
    ∃ t, execUioTimeout g m s = .next t ∧ State.Evolves [.attic, .cellar, .larder, .host, .od, .captain, .stoker, .domains, .meter, .freeCtr, .sent, .lb, .rooms, .porch, .bell, .gz, .ex, .pel] s t := by
  unfold execUioTimeout
  refine ⟨_, rfl, ?_⟩
  refine State.Evolves.step ?_ (State.uioTimeout_evolves ..) rfl
  exact State.Evolves.refl _ _

theorem execLateFrame_evolves (port : Nat) (head : Nat) (payload : List Byte) (poison : Bool) (s : State) :
    ∃ t, execLateFrame port head payload poison s = .next t ∧ State.Evolves [.attic, .cellar, .larder, .host, .od, .meter, .pel] s t := by
  unfold execLateFrame
  refine ⟨_, rfl, ?_⟩
  refine State.inbound_evolves ?_ ?_
  · exact State.Evolves.refl _ _
  · refine State.Evolves.step ?_ (State.lateArrival_evolves ..) rfl
    exact State.Evolves.refl _ _

theorem execGuestSend_evolves (q : Nat) (s : State) :
    ∃ t, execGuestSend q s = .next t ∧ State.Evolves [.attic, .cellar, .larder, .host, .od, .meter, .freeCtr, .lb, .rooms, .porch, .bell, .gz, .ex] s t := by
  unfold execGuestSend
  refine ⟨_, rfl, ?_⟩
  refine State.dispatching_evolves ?_ ?_
  · exact State.Evolves.refl _ _
  · refine State.Evolves.step ?_ (State.guestSend_evolves ..) rfl
    refine State.Evolves.step ?_ (State.demand_evolves ..) rfl
    exact State.Evolves.refl _ _

theorem execRingRoundStart_evolves (slot : Nat) (s : State) :
    ∃ t, execRingRoundStart slot s = .next t ∧ State.Evolves [.attic, .cellar, .larder, .host, .meter, .sent, .lb, .porch, .pel] s t := by
  unfold execRingRoundStart
  refine ⟨_, rfl, ?_⟩
  refine State.Evolves.step ?_ (State.roundStart_evolves ..) rfl
  exact State.Evolves.refl _ _

theorem execClearMisses_evolves (w : Way) (g : Nat) (m : Nat) (s : State) :
    ∃ t, execClearMisses w g m s = .next t ∧ State.Evolves [.attic, .cellar, .larder, .host, .od, .stoker, .domains, .meter, .sent, .lb, .ws, .bell, .gz, .ex, .pel, .dict, .mtr, .pwr, .sec] s t := by
  unfold execClearMisses
  refine ⟨_, rfl, ?_⟩
  refine State.onWay_evolves ?_ ?_
  · exact State.Evolves.refl _ _
  · refine State.Evolves.step ?_ (State.odWriteObj_evolves ..) rfl
    exact State.Evolves.refl _ _

theorem execCredit_evolves (port : Nat) (head : Nat) (s : State) :
    ∃ t, execCredit port head s = .next t ∧ State.Evolves [.meter, .sent, .lb, .porch, .pel] s t := by
  unfold execCredit
  refine ⟨_, rfl, ?_⟩
  refine State.inbound_evolves ?_ ?_
  · exact State.Evolves.refl _ _
  · refine State.Evolves.step ?_ (State.creditArrival_evolves ..) rfl
    exact State.Evolves.refl _ _

theorem execRestoreStream_evolves (port : Nat) (head : Nat) (payload : List Byte) (poison : List Nat) (s : State) :
    ∃ t, execRestoreStream port head payload poison s = .next t ∧ State.Evolves [.attic, .cellar, .larder, .host, .od, .meter, .sent, .bell, .ex] s t := by
  unfold execRestoreStream
  refine ⟨_, rfl, ?_⟩
  refine State.inboundEx_evolves ?_ ?_
  · exact State.Evolves.refl _ _
  · refine State.Evolves.step ?_ (State.streamFrame_evolves ..) rfl
    exact State.Evolves.refl _ _

theorem execChunkDeadline_evolves (slot : Nat) (owner : Nat) (chunk : Nat) (level : Nat) (s : State) :
    ∃ t, execChunkDeadline slot owner chunk level s = .next t ∧ State.Evolves [.attic, .cellar, .larder, .host, .meter, .tick, .sent, .lb, .porch, .bell, .pel, .mtr] s t := by
  unfold execChunkDeadline
  refine ⟨_, rfl, ?_⟩
  refine State.Evolves.step ?_ (State.chunkDeadline_evolves ..) rfl
  exact State.Evolves.refl _ _

theorem execTagDiscard_evolves (slot : Nat) (s : State) :
    ∃ t, execTagDiscard slot s = .next t ∧ State.Evolves [.meter, .tick, .sent, .bell, .pel, .mtr] s t := by
  unfold execTagDiscard
  refine ⟨_, rfl, ?_⟩
  refine State.Evolves.step ?_ (State.tagDiscard_evolves ..) rfl
  exact State.Evolves.refl _ _

theorem execAllToAll_evolves (q : Nat) (s : State) :
    ∃ t, execAllToAll q s = .next t ∧ State.Evolves [.attic, .cellar, .larder, .host, .od, .meter, .sent, .lb, .porch, .bell, .gz, .ex, .pel] s t := by
  unfold execAllToAll
  refine ⟨_, rfl, ?_⟩
  refine State.dispatching_evolves ?_ ?_
  · exact State.Evolves.refl _ _
  · refine State.Evolves.step ?_ (State.dispatchCollective_evolves ..) rfl
    refine State.Evolves.step ?_ (State.demand_evolves ..) rfl
    exact State.Evolves.refl _ _

theorem execExportAutoStart_evolves (guest : Nat) (s : State) :
    ∃ t, execExportAutoStart guest s = .next t ∧ State.Evolves [.attic, .cellar, .larder, .host, .od, .meter, .tick, .bell, .ex, .mtr] s t := by
  unfold execExportAutoStart
  refine ⟨_, rfl, ?_⟩
  refine State.Evolves.ite ?_ ?_
  · refine State.Evolves.step ?_ (State.exportAuto_evolves ..) rfl
    exact State.Evolves.refl _ _
  · exact State.Evolves.refl _ _

theorem execExportBank_evolves (q : Nat) (guest : Nat) (s : State) :
    ∃ t, execExportBank q guest s = .next t ∧ State.Evolves [.attic, .cellar, .larder, .host, .od, .meter, .freeCtr, .lb, .rooms, .porch, .bell, .gz, .ex] s t := by
  unfold execExportBank
  refine ⟨_, rfl, ?_⟩
  refine State.dispatching_evolves ?_ ?_
  · exact State.Evolves.refl _ _
  · refine State.Evolves.step ?_ (State.exportLetter_evolves ..) rfl
    refine State.Evolves.step ?_ (State.demand_evolves ..) rfl
    exact State.Evolves.refl _ _

theorem execPart_evolves (port : Nat) (head : Nat) (payload : List Byte) (poison : Bool) (s : State) :
    ∃ t, execPart port head payload poison s = .next t ∧ State.Evolves [.attic, .cellar, .larder, .host, .od, .meter, .sent, .lb, .porch, .pel] s t := by
  unfold execPart
  refine ⟨_, rfl, ?_⟩
  refine State.inbound_evolves ?_ ?_
  · exact State.Evolves.refl _ _
  · refine State.Evolves.step ?_ (State.partFrame_evolves ..) rfl
    exact State.Evolves.refl _ _

theorem execAllGather_evolves (q : Nat) (s : State) :
    ∃ t, execAllGather q s = .next t ∧ State.Evolves [.attic, .cellar, .larder, .host, .od, .meter, .sent, .lb, .porch, .bell, .gz, .ex, .pel] s t := by
  unfold execAllGather
  refine ⟨_, rfl, ?_⟩
  refine State.dispatching_evolves ?_ ?_
  · exact State.Evolves.refl _ _
  · refine State.Evolves.step ?_ (State.dispatchCollective_evolves ..) rfl
    refine State.Evolves.step ?_ (State.demand_evolves ..) rfl
    exact State.Evolves.refl _ _

theorem execExportFrame_evolves (port : Nat) (head : Nat) (payload : List Byte) (poison : List Nat) (s : State) :
    ∃ t, execExportFrame port head payload poison s = .next t ∧ State.Evolves [.attic, .cellar, .larder, .host, .od, .meter, .sent, .bell, .ex] s t := by
  unfold execExportFrame
  refine ⟨_, rfl, ?_⟩
  refine State.inboundEx_evolves ?_ ?_
  · exact State.Evolves.refl _ _
  · refine State.Evolves.step ?_ (State.streamFrame_evolves ..) rfl
    exact State.Evolves.refl _ _

theorem execFree_evolves (w : Option Way) (lo : Nat) (hi : Nat) (s : State) :
    ∃ t, execFree w lo hi s = .next t ∧ State.Evolves [.attic, .cellar, .larder, .host, .od, .stoker, .domains, .meter, .sent, .lb, .ws, .bell, .gz, .ex, .pel, .dict, .mtr, .pwr, .cxl, .sec] s t := by
  unfold execFree
  refine ⟨_, rfl, ?_⟩
  split
  · refine State.Evolves.ite ?_ ?_
    · exact State.Evolves.refl _ _
    · refine State.onWay_evolves ?_ ?_
      · exact State.Evolves.refl _ _
      · refine State.Evolves.step ?_ (State.odWriteObj_evolves ..) rfl
        exact State.Evolves.refl _ _
  · refine State.Evolves.ite ?_ ?_
    · exact State.Evolves.refl _ _
    · refine State.Evolves.step ?_ (State.pageDoorbell_evolves ..) rfl
      exact State.Evolves.refl _ _

theorem execPageCmdLo_evolves (lo : Nat) (s : State) :
    ∃ t, execPageCmdLo lo s = .next t ∧ State.Evolves [.od, .meter, .sent, .cxl] s t := by
  unfold execPageCmdLo
  refine ⟨_, rfl, ?_⟩
  refine State.Evolves.ite ?_ ?_
  · refine State.Evolves.step ?_ (State.pageLo_evolves ..) rfl
    refine State.Evolves.step ?_ (State.demand_evolves ..) rfl
    exact State.Evolves.refl _ _
  · refine State.Evolves.step ?_ (State.unsupported_evolves ..) rfl
    exact State.Evolves.refl _ _

theorem execShare_evolves (w : Option Way) (lo : Nat) (hi : Nat) (s : State) :
    ∃ t, execShare w lo hi s = .next t ∧ State.Evolves [.attic, .cellar, .larder, .host, .od, .stoker, .domains, .meter, .sent, .lb, .ws, .bell, .gz, .ex, .pel, .dict, .mtr, .pwr, .cxl, .sec] s t := by
  unfold execShare
  refine ⟨_, rfl, ?_⟩
  split
  · refine State.Evolves.ite ?_ ?_
    · exact State.Evolves.refl _ _
    · refine State.onWay_evolves ?_ ?_
      · exact State.Evolves.refl _ _
      · refine State.Evolves.step ?_ (State.odWriteObj_evolves ..) rfl
        exact State.Evolves.refl _ _
  · refine State.Evolves.ite ?_ ?_
    · exact State.Evolves.refl _ _
    · refine State.Evolves.step ?_ (State.pageDoorbell_evolves ..) rfl
      exact State.Evolves.refl _ _

theorem execAuthStart_evolves (peer : Nat) (msg : List Byte) (s : State) :
    ∃ t, execAuthStart peer msg s = .next t ∧ State.Evolves [.meter, .freeCtr, .sent, .dict] s t := by
  unfold execAuthStart
  refine ⟨_, rfl, ?_⟩
  refine State.xMessage_evolves ?_ rfl ?_
  · exact State.Evolves.refl _ _
  · intro y0 y1 y2 y3
    refine State.Evolves.step ?_ (State.bodyAuth_evolves ..) rfl
    exact y3

theorem execSessionIdleTimeout_evolves (sid : Nat) (s : State) :
    ∃ t, execSessionIdleTimeout sid s = .next t ∧ State.Evolves [.dict] s t := by
  unfold execSessionIdleTimeout
  refine ⟨_, rfl, ?_⟩
  refine State.Evolves.step ?_ (State.sessionIdle_evolves ..) rfl
  exact State.Evolves.refl _ _

theorem execAuthLockoutEnd_evolves (peer : Nat) (s : State) :
    ∃ t, execAuthLockoutEnd peer s = .next t ∧ State.Evolves [.dict] s t := by
  unfold execAuthLockoutEnd
  refine ⟨_, rfl, ?_⟩
  refine State.Evolves.step ?_ (State.authLockoutEnd_evolves ..) rfl
  exact State.Evolves.refl _ _

theorem execCalUsrCommit_evolves (w : Way) (data : List Byte) (s : State) :
    ∃ t, execCalUsrCommit w data s = .next t ∧ State.Evolves [.attic, .cellar, .larder, .host, .od, .stoker, .domains, .meter, .sent, .lb, .ws, .bell, .gz, .ex, .pel, .dict, .mtr, .pwr, .sec] s t := by
  unfold execCalUsrCommit
  refine ⟨_, rfl, ?_⟩
  refine State.onWay_evolves ?_ ?_
  · exact State.Evolves.refl _ _
  · refine State.Evolves.step ?_ (State.odWriteObj_evolves ..) rfl
    exact State.Evolves.refl _ _

theorem execObjectWrite_evolves (w : Way) (idx : Nat) (subIdx : Nat) (data : List Byte) (s : State) :
    ∃ t, execObjectWrite w idx subIdx data s = .next t ∧ State.Evolves [.attic, .cellar, .larder, .host, .od, .stoker, .domains, .meter, .sent, .lb, .ws, .bell, .gz, .ex, .pel, .dict, .mtr, .pwr, .sec] s t := by
  unfold execObjectWrite
  refine ⟨_, rfl, ?_⟩
  refine State.onWay_evolves ?_ ?_
  · exact State.Evolves.refl _ _
  · refine State.Evolves.step ?_ (State.odWriteObj_evolves ..) rfl
    exact State.Evolves.refl _ _

theorem execAuthStartTimeout_evolves (sid : Nat) (s : State) :
    ∃ t, execAuthStartTimeout sid s = .next t ∧ State.Evolves [.dict] s t := by
  unfold execAuthStartTimeout
  refine ⟨_, rfl, ?_⟩
  refine State.Evolves.step ?_ (State.authStartTimeout_evolves ..) rfl
  exact State.Evolves.refl _ _

theorem execCalCommitEnd_evolves (s : State) :
    ∃ t, execCalCommitEnd s = .next t ∧ State.Evolves [.attic, .cellar, .larder, .host, .od, .stoker, .domains, .meter, .sent, .lb, .ws, .bell, .gz, .ex, .pel, .dict, .mtr, .pwr, .sec] s t := by
  unfold execCalCommitEnd
  refine ⟨_, rfl, ?_⟩
  refine State.Evolves.step ?_ (State.calCommitEnd_evolves ..) rfl
  exact State.Evolves.refl _ _

theorem execRecipeRingTail_evolves (w : Way) (data : List Byte) (s : State) :
    ∃ t, execRecipeRingTail w data s = .next t ∧ State.Evolves [.attic, .cellar, .larder, .host, .od, .stoker, .domains, .meter, .sent, .lb, .ws, .bell, .gz, .ex, .pel, .dict, .mtr, .pwr, .sec] s t := by
  unfold execRecipeRingTail
  refine ⟨_, rfl, ?_⟩
  refine State.onWay_evolves ?_ ?_
  · exact State.Evolves.refl _ _
  · refine State.Evolves.step ?_ (State.odWriteObj_evolves ..) rfl
    exact State.Evolves.refl _ _

theorem execPlcaFallback_evolves (s : State) :
    ∃ t, execPlcaFallback s = .next t ∧ State.Evolves [.od] s t := by
  unfold execPlcaFallback
  refine ⟨_, rfl, ?_⟩
  refine State.Evolves.step ?_ (State.plcaFallback_evolves ..) rfl
  exact State.Evolves.refl _ _

theorem execNeighbourSolicitation_evolves (peer : Nat) (target : Nat) (s : State) :
    ∃ t, execNeighbourSolicitation peer target s = .next t ∧ State.Evolves [.sent] s t := by
  unfold execNeighbourSolicitation
  refine ⟨_, rfl, ?_⟩
  refine State.Evolves.step ?_ (State.neighbour_evolves ..) rfl
  exact State.Evolves.refl _ _

theorem execRead_evolves (peer : Nat) (msg : List Byte) (s : State) :
    ∃ t, execRead peer msg s = .next t ∧ State.Evolves [.od, .meter, .sent, .dict] s t := by
  unfold execRead
  refine ⟨_, rfl, ?_⟩
  refine State.xMessage_evolves ?_ rfl ?_
  · exact State.Evolves.refl _ _
  · intro y0 y1 y2 y3
    refine State.Evolves.step ?_ (State.bodyRead_evolves ..) rfl
    exact y3

theorem execOdRead_evolves (payload : List Byte) (s : State) :
    ∃ t, execOdRead payload s = .next t ∧ State.Evolves [.od, .meter, .sent, .dict] s t := by
  unfold execOdRead
  refine ⟨_, rfl, ?_⟩
  refine State.mbox_evolves ?_ ?_
  · exact State.Evolves.refl _ _
  · intro y0 y1
    refine State.Evolves.step ?_ (State.bodyRead_evolves ..) rfl
    exact State.Evolves.refl _ _

theorem execAuthEnd_evolves (peer : Nat) (msg : List Byte) (s : State) :
    ∃ t, execAuthEnd peer msg s = .next t ∧ State.Evolves [.meter, .freeCtr, .sent, .dict] s t := by
  unfold execAuthEnd
  refine ⟨_, rfl, ?_⟩
  refine State.xMessage_evolves ?_ rfl ?_
  · exact State.Evolves.refl _ _
  · intro y0 y1 y2 y3
    refine State.Evolves.step ?_ (State.bodyAuth_evolves ..) rfl
    exact y3

theorem execTandemSwap_evolves (w : Way) (data : List Byte) (s : State) :
    ∃ t, execTandemSwap w data s = .next t ∧ State.Evolves [.attic, .cellar, .larder, .host, .od, .stoker, .domains, .meter, .sent, .lb, .ws, .bell, .gz, .ex, .pel, .dict, .mtr, .pwr, .sec] s t := by
  unfold execTandemSwap
  refine ⟨_, rfl, ?_⟩
  refine State.onWay_evolves ?_ ?_
  · exact State.Evolves.refl _ _
  · refine State.Evolves.step ?_ (State.odWriteObj_evolves ..) rfl
    exact State.Evolves.refl _ _

theorem execSnapshot_evolves (peer : Nat) (msg : List Byte) (s : State) :
    ∃ t, execSnapshot peer msg s = .next t ∧ State.Evolves [.meter, .sent, .dict, .mtr] s t := by
  unfold execSnapshot
  refine ⟨_, rfl, ?_⟩
  refine State.xMessage_evolves ?_ rfl ?_
  · exact State.Evolves.refl _ _
  · intro y0 y1 y2 y3
    refine State.Evolves.ite ?_ ?_
    · refine State.Evolves.step ?_ (State.snapshotReq_evolves ..) rfl
      exact y3
    · refine State.Evolves.step ?_ (State.respond_evolves ..) rfl
      exact y3

theorem execBlockTimeout_evolves (idx : Nat) (subIdx : Nat) (s : State) :
    ∃ t, execBlockTimeout idx subIdx s = .next t ∧ State.Evolves [.dict] s t := by
  unfold execBlockTimeout
  refine ⟨_, rfl, ?_⟩
  refine State.Evolves.step ?_ (State.blockTimeout_evolves ..) rfl
  exact State.Evolves.refl _ _

theorem execOdAuth_evolves (payload : List Byte) (s : State) :
    ∃ t, execOdAuth payload s = .next t ∧ State.Evolves [.meter, .freeCtr, .sent, .dict] s t := by
  unfold execOdAuth
  refine ⟨_, rfl, ?_⟩
  refine State.mbox_evolves ?_ ?_
  · exact State.Evolves.refl _ _
  · intro y0 y1
    refine State.Evolves.step ?_ (State.mboxAuth_evolves ..) rfl
    exact State.Evolves.refl _ _

theorem execOdWrite_evolves (payload : List Byte) (s : State) :
    ∃ t, execOdWrite payload s = .next t ∧ State.Evolves [.attic, .cellar, .larder, .host, .od, .stoker, .domains, .meter, .sent, .lb, .ws, .bell, .gz, .ex, .pel, .dict, .mtr, .pwr, .sec] s t := by
  unfold execOdWrite
  refine ⟨_, rfl, ?_⟩
  refine State.mbox_evolves ?_ ?_
  · exact State.Evolves.refl _ _
  · intro y0 y1
    refine State.Evolves.step ?_ (State.bodyWrite_evolves ..) rfl
    exact State.Evolves.refl _ _

theorem execHello_evolves (peer : Nat) (msg : List Byte) (s : State) :
    ∃ t, execHello peer msg s = .next t ∧ State.Evolves [.meter, .sent, .dict] s t := by
  unfold execHello
  refine ⟨_, rfl, ?_⟩
  refine State.Evolves.step ?_ (State.hello_evolves ..) rfl
  exact State.Evolves.refl _ _

theorem execNotify_evolves (n : Nat) (s : State) :
    ∃ t, execNotify n s = .next t ∧ State.Evolves [.meter, .freeCtr, .sent, .bell, .dict] s t := by
  unfold execNotify
  refine ⟨_, rfl, ?_⟩
  refine State.Evolves.step ?_ (State.notify_evolves ..) rfl
  exact State.Evolves.refl _ _

theorem execGradQuarTail_evolves (w : Way) (data : List Byte) (s : State) :
    ∃ t, execGradQuarTail w data s = .next t ∧ State.Evolves [.attic, .cellar, .larder, .host, .od, .stoker, .domains, .meter, .sent, .lb, .ws, .bell, .gz, .ex, .pel, .dict, .mtr, .pwr, .sec] s t := by
  unfold execGradQuarTail
  refine ⟨_, rfl, ?_⟩
  refine State.onWay_evolves ?_ ?_
  · exact State.Evolves.refl _ _
  · refine State.Evolves.step ?_ (State.odWriteObj_evolves ..) rfl
    exact State.Evolves.refl _ _

theorem execCellarBankCurrent_evolves (w : Way) (data : List Byte) (s : State) :
    ∃ t, execCellarBankCurrent w data s = .next t ∧ State.Evolves [.attic, .cellar, .larder, .host, .od, .stoker, .domains, .meter, .sent, .lb, .ws, .bell, .gz, .ex, .pel, .dict, .mtr, .pwr, .sec] s t := by
  unfold execCellarBankCurrent
  refine ⟨_, rfl, ?_⟩
  refine State.onWay_evolves ?_ ?_
  · exact State.Evolves.refl _ _
  · refine State.Evolves.step ?_ (State.odWriteObj_evolves ..) rfl
    exact State.Evolves.refl _ _

theorem execWrite_evolves (peer : Nat) (msg : List Byte) (s : State) :
    ∃ t, execWrite peer msg s = .next t ∧ State.Evolves [.attic, .cellar, .larder, .host, .od, .stoker, .domains, .meter, .sent, .lb, .ws, .bell, .gz, .ex, .pel, .dict, .mtr, .pwr, .sec] s t := by
  unfold execWrite
  refine ⟨_, rfl, ?_⟩
  refine State.xMessage_evolves ?_ rfl ?_
  · exact State.Evolves.refl _ _
  · intro y0 y1 y2 y3
    refine State.Evolves.step ?_ (State.xWriteBody_evolves ..) rfl
    exact y3

theorem execBlockWriteBegin_evolves (peer : Nat) (msg : List Byte) (s : State) :
    ∃ t, execBlockWriteBegin peer msg s = .next t ∧ State.Evolves [.od, .domains, .meter, .sent, .dict, .sec] s t := by
  unfold execBlockWriteBegin
  refine ⟨_, rfl, ?_⟩
  refine State.xMessage_evolves ?_ rfl ?_
  · exact State.Evolves.refl _ _
  · intro y0 y1 y2 y3
    refine State.Evolves.step ?_ (State.bodyBlockPhase_evolves ..) rfl
    exact y3

theorem execBlockWriteEnd_evolves (peer : Nat) (msg : List Byte) (s : State) :
    ∃ t, execBlockWriteEnd peer msg s = .next t ∧ State.Evolves [.od, .domains, .meter, .sent, .dict, .sec] s t := by
  unfold execBlockWriteEnd
  refine ⟨_, rfl, ?_⟩
  refine State.xMessage_evolves ?_ rfl ?_
  · exact State.Evolves.refl _ _
  · intro y0 y1 y2 y3
    refine State.Evolves.step ?_ (State.bodyBlockPhase_evolves ..) rfl
    exact y3

theorem execBlockRead_evolves (peer : Nat) (msg : List Byte) (s : State) :
    ∃ t, execBlockRead peer msg s = .next t ∧ State.Evolves [.od, .meter, .sent, .dict] s t := by
  unfold execBlockRead
  refine ⟨_, rfl, ?_⟩
  refine State.xMessage_evolves ?_ rfl ?_
  · exact State.Evolves.refl _ _
  · intro y0 y1 y2 y3
    refine State.Evolves.step ?_ (State.bodyBlockRead_evolves ..) rfl
    exact y3

theorem execNotifyRepeat_evolves (n : Nat) (s : State) :
    ∃ t, execNotifyRepeat n s = .next t ∧ State.Evolves [.meter, .freeCtr, .sent, .bell, .dict] s t := by
  unfold execNotifyRepeat
  refine ⟨_, rfl, ?_⟩
  refine State.Evolves.step ?_ (State.notifyRepeat_evolves ..) rfl
  exact State.Evolves.refl _ _

theorem execOdBlockWrite_evolves (payload : List Byte) (s : State) :
    ∃ t, execOdBlockWrite payload s = .next t ∧ State.Evolves [.od, .domains, .meter, .sent, .dict, .sec] s t := by
  unfold execOdBlockWrite
  refine ⟨_, rfl, ?_⟩
  refine State.mbox_evolves ?_ ?_
  · exact State.Evolves.refl _ _
  · intro y0 y1
    refine State.Evolves.step ?_ (State.bodyBlockWrite_evolves ..) rfl
    exact State.Evolves.refl _ _

theorem execCalUsrRetrain_evolves (w : Way) (data : List Byte) (s : State) :
    ∃ t, execCalUsrRetrain w data s = .next t ∧ State.Evolves [.attic, .cellar, .larder, .host, .od, .stoker, .domains, .meter, .sent, .lb, .ws, .bell, .gz, .ex, .pel, .dict, .mtr, .pwr, .sec] s t := by
  unfold execCalUsrRetrain
  refine ⟨_, rfl, ?_⟩
  refine State.onWay_evolves ?_ ?_
  · exact State.Evolves.refl _ _
  · refine State.Evolves.step ?_ (State.odWriteObj_evolves ..) rfl
    exact State.Evolves.refl _ _

theorem execAuthProof_evolves (peer : Nat) (msg : List Byte) (s : State) :
    ∃ t, execAuthProof peer msg s = .next t ∧ State.Evolves [.meter, .freeCtr, .sent, .dict] s t := by
  unfold execAuthProof
  refine ⟨_, rfl, ?_⟩
  refine State.xMessage_evolves ?_ rfl ?_
  · exact State.Evolves.refl _ _
  · intro y0 y1 y2 y3
    refine State.Evolves.step ?_ (State.bodyAuth_evolves ..) rfl
    exact y3

theorem execSwapPoint_evolves (s : State) :
    ∃ t, execSwapPoint s = .next t ∧ State.Evolves [.attic, .cellar, .larder, .host, .od, .captain, .stoker, .domains, .meter, .sent, .lb, .ws, .bell, .gz, .ex, .pel, .dict, .mtr, .pwr, .sec] s t := by
  unfold execSwapPoint
  refine ⟨_, rfl, ?_⟩
  refine State.Evolves.step ?_ (State.swapPoint_evolves ..) rfl
  exact State.Evolves.refl _ _

theorem execBlockWriteSegment_evolves (peer : Nat) (msg : List Byte) (s : State) :
    ∃ t, execBlockWriteSegment peer msg s = .next t ∧ State.Evolves [.od, .domains, .meter, .sent, .dict, .sec] s t := by
  unfold execBlockWriteSegment
  refine ⟨_, rfl, ?_⟩
  refine State.xMessage_evolves ?_ rfl ?_
  · exact State.Evolves.refl _ _
  · intro y0 y1 y2 y3
    refine State.Evolves.step ?_ (State.bodyBlockPhase_evolves ..) rfl
    exact y3

theorem execOdSnapshot_evolves (payload : List Byte) (s : State) :
    ∃ t, execOdSnapshot payload s = .next t ∧ State.Evolves [.meter, .sent, .dict, .mtr] s t := by
  unfold execOdSnapshot
  refine ⟨_, rfl, ?_⟩
  refine State.mbox_evolves ?_ ?_
  · exact State.Evolves.refl _ _
  · intro y0 y1
    refine State.Evolves.ite ?_ ?_
    · refine State.Evolves.step ?_ (State.snapshotReq_evolves ..) rfl
      exact State.Evolves.refl _ _
    · refine State.Evolves.step ?_ (State.respond_evolves ..) rfl
      exact State.Evolves.refl _ _

theorem execTandemCopy_evolves (w : Way) (data : List Byte) (s : State) :
    ∃ t, execTandemCopy w data s = .next t ∧ State.Evolves [.attic, .cellar, .larder, .host, .od, .stoker, .domains, .meter, .sent, .lb, .ws, .bell, .gz, .ex, .pel, .dict, .mtr, .pwr, .sec] s t := by
  unfold execTandemCopy
  refine ⟨_, rfl, ?_⟩
  refine State.onWay_evolves ?_ ?_
  · exact State.Evolves.refl _ _
  · refine State.Evolves.step ?_ (State.odWriteObj_evolves ..) rfl
    exact State.Evolves.refl _ _

theorem execBlockReadCopyExpiry_evolves (idx : Nat) (subIdx : Nat) (peer : Option Nat) (s : State) :
    ∃ t, execBlockReadCopyExpiry idx subIdx peer s = .next t ∧ State.Evolves [.dict] s t := by
  unfold execBlockReadCopyExpiry
  refine ⟨_, rfl, ?_⟩
  refine State.Evolves.step ?_ (State.copyExpiry_evolves ..) rfl
  exact State.Evolves.refl _ _

theorem execOdBlockRead_evolves (payload : List Byte) (s : State) :
    ∃ t, execOdBlockRead payload s = .next t ∧ State.Evolves [.od, .meter, .sent, .dict] s t := by
  unfold execOdBlockRead
  refine ⟨_, rfl, ?_⟩
  refine State.mbox_evolves ?_ ?_
  · exact State.Evolves.refl _ _
  · intro y0 y1
    refine State.Evolves.step ?_ (State.bodyBlockRead_evolves ..) rfl
    exact State.Evolves.refl _ _

theorem execClkIdleTimeout_evolves (station : Nat) (s : State) :
    ∃ t, execClkIdleTimeout station s = .next t ∧ State.Evolves [.od, .meter] s t := by
  unfold execClkIdleTimeout
  refine ⟨_, rfl, ?_⟩
  refine State.Evolves.step ?_ (State.clkIdleTimeout_evolves ..) rfl
  exact State.Evolves.refl _ _

theorem execPllLocked_evolves (pll : Nat) (s : State) :
    ∃ t, execPllLocked pll s = .next t ∧ State.Evolves [.attic, .cellar, .larder, .host, .od, .stoker, .domains, .meter, .sent, .lb, .ws, .bell, .gz, .ex, .pel, .dict, .mtr, .pwr, .sec] s t := by
  unfold execPllLocked
  refine ⟨_, rfl, ?_⟩
  refine State.Evolves.step ?_ (State.pllLockedServe_evolves ..) rfl
  exact State.Evolves.refl _ _

theorem execRefclkGate_evolves (clock : Nat) (count : Nat) (s : State) :
    ∃ t, execRefclkGate clock count s = .next t ∧ State.Evolves [.attic, .cellar, .larder, .host, .od, .meter, .sent, .lb, .porch, .bell, .pel, .pwr] s t := by
  unfold execRefclkGate
  refine ⟨_, rfl, ?_⟩
  refine State.Evolves.step ?_ (State.refclkPort_evolves ..) rfl
  exact State.Evolves.refl _ _

theorem execClkFailoverSwitch_evolves (pll : Nat) (s : State) :
    ∃ t, execClkFailoverSwitch pll s = .next t ∧ State.Evolves [.od, .meter] s t := by
  unfold execClkFailoverSwitch
  refine ⟨_, rfl, ?_⟩
  refine State.Evolves.step ?_ (State.failoverSwitch_evolves ..) rfl
  exact State.Evolves.refl _ _

theorem execClkEnable_evolves (w : Way) (data : List Byte) (s : State) :
    ∃ t, execClkEnable w data s = .next t ∧ State.Evolves [.attic, .cellar, .larder, .host, .od, .stoker, .domains, .meter, .sent, .lb, .ws, .bell, .gz, .ex, .pel, .dict, .mtr, .pwr, .sec] s t := by
  unfold execClkEnable
  refine ⟨_, rfl, ?_⟩
  refine State.onWay_evolves ?_ ?_
  · exact State.Evolves.refl _ _
  · refine State.Evolves.step ?_ (State.odWriteObj_evolves ..) rfl
    exact State.Evolves.refl _ _

theorem execXtalEdgeMissing_evolves (s : State) :
    ∃ t, execXtalEdgeMissing s = .next t ∧ State.Evolves [.od, .pwr] s t := by
  unfold execXtalEdgeMissing
  refine ⟨_, rfl, ?_⟩
  refine State.Evolves.step ?_ (State.xtalMissing_evolves ..) rfl
  exact State.Evolves.refl _ _

theorem execThermalSample_evolves (raw : List ℤ) (s : State) :
    ∃ t, execThermalSample raw s = .next t ∧ State.Evolves [.od, .meter, .bell, .pwr] s t := by
  unfold execThermalSample
  refine ⟨_, rfl, ?_⟩
  refine State.Evolves.step ?_ (State.thermalSample_evolves ..) rfl
  exact State.Evolves.refl _ _

theorem execXtalMonitorGate_evolves (count : Nat) (s : State) :
    ∃ t, execXtalMonitorGate count s = .next t ∧ State.Evolves [.od, .meter, .bell, .pwr] s t := by
  unfold execXtalMonitorGate
  refine ⟨_, rfl, ?_⟩
  refine State.Evolves.step ?_ (State.xtalMonitor_evolves ..) rfl
  exact State.Evolves.refl _ _

theorem execPowerMeterSample_evolves (raw : List Nat) (input : Nat) (s : State) :
    ∃ t, execPowerMeterSample raw input s = .next t ∧ State.Evolves [.od] s t := by
  unfold execPowerMeterSample
  refine ⟨_, rfl, ?_⟩
  refine State.Evolves.step ?_ (State.powerSample_evolves ..) rfl
  exact State.Evolves.refl _ _

theorem execFreewheel_evolves (pll : Nat) (s : State) :
    ∃ t, execFreewheel pll s = .next t ∧ State.Evolves [.od, .meter, .bell, .pwr] s t := by
  unfold execFreewheel
  refine ⟨_, rfl, ?_⟩
  refine State.Evolves.step ?_ (State.freewheel_evolves ..) rfl
  exact State.Evolves.refl _ _

theorem execClkPllSrc_evolves (w : Way) (pll : Nat) (data : List Byte) (s : State) :
    ∃ t, execClkPllSrc w pll data s = .next t ∧ State.Evolves [.attic, .cellar, .larder, .host, .od, .stoker, .domains, .meter, .sent, .lb, .ws, .bell, .gz, .ex, .pel, .dict, .mtr, .pwr, .sec] s t := by
  unfold execClkPllSrc
  refine ⟨_, rfl, ?_⟩
  refine State.onWay_evolves ?_ ?_
  · exact State.Evolves.refl _ _
  · refine State.Evolves.step ?_ (State.odWriteObj_evolves ..) rfl
    exact State.Evolves.refl _ _

theorem execXtalJudgeTimeout_evolves (s : State) :
    ∃ t, execXtalJudgeTimeout s = .next t ∧ State.Evolves [.od] s t := by
  unfold execXtalJudgeTimeout
  refine ⟨_, rfl, ?_⟩
  refine State.Evolves.step ?_ (State.xtalJudgeTimeout_evolves ..) rfl
  exact State.Evolves.refl _ _

theorem execXtalGate_evolves (count : Nat) (s : State) :
    ∃ t, execXtalGate count s = .next t ∧ State.Evolves [.od, .pwr] s t := by
  unfold execXtalGate
  refine ⟨_, rfl, ?_⟩
  refine State.Evolves.step ?_ (State.xtalGate_evolves ..) rfl
  exact State.Evolves.refl _ _

theorem execWakeToService_evolves (stations : List Nat) (s : State) :
    ∃ t, execWakeToService stations s = .next t ∧ State.Evolves [.od, .meter] s t := by
  unfold execWakeToService
  refine ⟨_, rfl, ?_⟩
  refine State.Evolves.step ?_ (State.wakeToService_evolves ..) rfl
  exact State.Evolves.refl _ _

theorem execKeepHouseResetBegin_evolves (s : State) :
    ∃ t, execKeepHouseResetBegin s = .next t ∧ State.Evolves [.attic, .cellar, .larder, .od, .captain, .stoker, .domains, .meter, .lb, .rooms, .porch, .ws, .bell, .gz, .ex, .pel, .dict, .mtr, .pwr, .cxl, .sec] s t := by
  unfold execKeepHouseResetBegin
  refine ⟨_, rfl, ?_⟩
  refine State.Evolves.step ?_ (State.keepHouseBegin_evolves ..) rfl
  exact State.Evolves.refl _ _

theorem execMainInputFault_evolves (s : State) :
    ∃ t, execMainInputFault s = .next t ∧ State.Evolves [.attic, .cellar, .larder, .od, .captain, .stoker, .domains, .meter, .lb, .rooms, .porch, .ws, .bell, .gz, .ex, .pel, .dict, .mtr, .pwr, .cxl, .sec] s t := by
  unfold execMainInputFault
  refine ⟨_, rfl, ?_⟩
  refine State.Evolves.step ?_ (State.mainFault_evolves ..) rfl
  exact State.Evolves.refl _ _

theorem execBs3Entry_evolves (frontBad : Bool) (backBad : Bool) (port1Bad : Bool) (s : State) :
    ∃ t, execBs3Entry frontBad backBad port1Bad s = .next t ∧ State.Evolves [.od, .lb, .rooms, .bell, .pwr] s t := by
  unfold execBs3Entry
  refine ⟨_, rfl, ?_⟩
  refine State.Evolves.step ?_ (State.bs3_evolves ..) rfl
  exact State.Evolves.refl _ _

theorem execService_evolves (w : Way) (s : State) :
    ∃ t, execService w s = .next t ∧ State.Evolves [.attic, .cellar, .larder, .host, .od, .stoker, .domains, .meter, .sent, .lb, .ws, .bell, .gz, .ex, .pel, .dict, .mtr, .pwr, .sec] s t := by
  unfold execService
  refine ⟨_, rfl, ?_⟩
  refine State.onWay_evolves ?_ ?_
  · exact State.Evolves.refl _ _
  · refine State.Evolves.step ?_ (State.odWriteObj_evolves ..) rfl
    exact State.Evolves.refl _ _

theorem execKeepHousePin_evolves (s : State) :
    ∃ t, execKeepHousePin s = .next t ∧ State.Evolves [.pwr] s t := by
  unfold execKeepHousePin
  refine ⟨_, rfl, ?_⟩
  refine State.Evolves.step ?_ (State.keepHousePin_evolves ..) rfl
  exact State.Evolves.refl _ _

theorem execRegulatorStart_evolves (s : State) :
    ∃ t, execRegulatorStart s = .next t ∧ State.Evolves [.attic, .cellar, .larder, .od, .captain, .stoker, .domains, .meter, .lb, .rooms, .porch, .ws, .bell, .gz, .ex, .pel, .dict, .mtr, .pwr, .cxl, .sec] s t := by
  unfold execRegulatorStart
  refine ⟨_, rfl, ?_⟩
  refine State.Evolves.step ?_ (State.regulatorStart_evolves ..) rfl
  exact State.Evolves.refl _ _

theorem execBs0Entry_evolves (s : State) :
    ∃ t, execBs0Entry s = .next t ∧ State.Evolves [.od, .freeCtr, .pwr] s t := by
  unfold execBs0Entry
  refine ⟨_, rfl, ?_⟩
  refine State.Evolves.step ?_ (State.bs0_evolves ..) rfl
  exact State.Evolves.refl _ _

theorem execAuxInputFault_evolves (s : State) :
    ∃ t, execAuxInputFault s = .next t ∧ State.Evolves [.attic, .cellar, .larder, .od, .captain, .stoker, .domains, .meter, .lb, .rooms, .porch, .ws, .bell, .gz, .ex, .pel, .dict, .mtr, .pwr, .cxl, .sec] s t := by
  unfold execAuxInputFault
  refine ⟨_, rfl, ?_⟩
  refine State.Evolves.step ?_ (State.auxFault_evolves ..) rfl
  exact State.Evolves.refl _ _

theorem execAuxPowerOn_evolves (plca : Nat) (s : State) :
    ∃ t, execAuxPowerOn plca s = .next t ∧ State.Evolves [.od, .tick, .bell, .pwr] s t := by
  unfold execAuxPowerOn
  refine ⟨_, rfl, ?_⟩
  refine State.Evolves.step ?_ (State.auxOnEvent_evolves ..) rfl
  exact State.Evolves.refl _ _

theorem execPilotWake_evolves (cause : Nat) (s : State) :
    ∃ t, execPilotWake cause s = .next t ∧ State.Evolves [.od, .meter] s t := by
  unfold execPilotWake
  refine ⟨_, rfl, ?_⟩
  refine State.Evolves.step ?_ (State.pilotWake_evolves ..) rfl
  exact State.Evolves.refl _ _

theorem execBs2Entry_evolves (atticFail : Bool) (cellarFail : Bool) (s : State) :
    ∃ t, execBs2Entry atticFail cellarFail s = .next t ∧ State.Evolves [.attic, .cellar, .larder, .host, .od, .domains, .meter, .freeCtr, .ws, .bell, .pwr, .sec] s t := by
  unfold execBs2Entry
  refine ⟨_, rfl, ?_⟩
  refine State.Evolves.step ?_ (State.bs2_evolves ..) rfl
  exact State.Evolves.refl _ _

theorem execColdStartBegin_evolves (s : State) :
    ∃ t, execColdStartBegin s = .next t ∧ State.Evolves [.attic, .cellar, .larder, .od, .captain, .stoker, .domains, .meter, .lb, .rooms, .porch, .ws, .bell, .gz, .ex, .pel, .dict, .mtr, .pwr, .cxl, .sec] s t := by
  unfold execColdStartBegin
  refine ⟨_, rfl, ?_⟩
  refine State.Evolves.step ?_ (State.coldBegin_evolves ..) rfl
  exact State.Evolves.refl _ _

theorem execBs1Entry_evolves (s : State) :
    ∃ t, execBs1Entry s = .next t ∧ State.Evolves [.od, .bell] s t := by
  unfold execBs1Entry
  refine ⟨_, rfl, ?_⟩
  refine State.Evolves.step ?_ (State.bs1_evolves ..) rfl
  exact State.Evolves.refl _ _

theorem execThermtrip_evolves (s : State) :
    ∃ t, execThermtrip s = .next t ∧ State.Evolves [.attic, .cellar, .larder, .od, .captain, .stoker, .domains, .meter, .lb, .rooms, .porch, .ws, .bell, .gz, .ex, .pel, .dict, .mtr, .pwr, .cxl, .sec] s t := by
  unfold execThermtrip
  refine ⟨_, rfl, ?_⟩
  refine State.Evolves.step ?_ (State.thermTrip_evolves ..) rfl
  exact State.Evolves.refl _ _

theorem execKeepHouseRise_evolves (s : State) :
    ∃ t, execKeepHouseRise s = .next t ∧ State.Evolves [.pwr] s t := by
  unfold execKeepHouseRise
  refine ⟨_, rfl, ?_⟩
  refine State.Evolves.step ?_ (State.keepHouseRise_evolves ..) rfl
  exact State.Evolves.refl _ _

theorem execHartWatchdog_evolves (hart : Nat) (s : State) :
    ∃ t, execHartWatchdog hart s = .next t ∧ State.Evolves [.pwr] s t := by
  unfold execHartWatchdog
  refine ⟨_, rfl, ?_⟩
  refine State.Evolves.ite ?_ ?_
  · refine State.Evolves.step ?_ (State.askReset_evolves ..) rfl
    exact State.Evolves.refl _ _
  · exact State.Evolves.refl _ _

theorem execBringupGo_evolves (w : Way) (data : List Byte) (s : State) :
    ∃ t, execBringupGo w data s = .next t ∧ State.Evolves [.attic, .cellar, .larder, .host, .od, .stoker, .domains, .meter, .sent, .lb, .ws, .bell, .gz, .ex, .pel, .dict, .mtr, .pwr, .sec] s t := by
  unfold execBringupGo
  refine ⟨_, rfl, ?_⟩
  refine State.onWay_evolves ?_ ?_
  · exact State.Evolves.refl _ _
  · refine State.Evolves.step ?_ (State.odWriteObj_evolves ..) rfl
    exact State.Evolves.refl _ _

theorem execFull_evolves (w : Way) (s : State) :
    ∃ t, execFull w s = .next t ∧ State.Evolves [.attic, .cellar, .larder, .host, .od, .stoker, .domains, .meter, .sent, .lb, .ws, .bell, .gz, .ex, .pel, .dict, .mtr, .pwr, .sec] s t := by
  unfold execFull
  refine ⟨_, rfl, ?_⟩
  refine State.onWay_evolves ?_ ?_
  · exact State.Evolves.refl _ _
  · refine State.Evolves.step ?_ (State.odWriteObj_evolves ..) rfl
    exact State.Evolves.refl _ _

theorem execPilot_evolves (w : Way) (s : State) :
    ∃ t, execPilot w s = .next t ∧ State.Evolves [.attic, .cellar, .larder, .host, .od, .stoker, .domains, .meter, .sent, .lb, .ws, .bell, .gz, .ex, .pel, .dict, .mtr, .pwr, .sec] s t := by
  unfold execPilot
  refine ⟨_, rfl, ?_⟩
  refine State.onWay_evolves ?_ ?_
  · exact State.Evolves.refl _ _
  · refine State.Evolves.step ?_ (State.odWriteObj_evolves ..) rfl
    exact State.Evolves.refl _ _

theorem execHousekeeping_evolves (w : Way) (s : State) :
    ∃ t, execHousekeeping w s = .next t ∧ State.Evolves [.attic, .cellar, .larder, .host, .od, .stoker, .domains, .meter, .sent, .lb, .ws, .bell, .gz, .ex, .pel, .dict, .mtr, .pwr, .sec] s t := by
  unfold execHousekeeping
  refine ⟨_, rfl, ?_⟩
  refine State.onWay_evolves ?_ ?_
  · exact State.Evolves.refl _ _
  · refine State.Evolves.step ?_ (State.housekeepingReq_evolves ..) rfl
    exact State.Evolves.refl _ _

theorem execKeepHouse_evolves (w : Way) (s : State) :
    ∃ t, execKeepHouse w s = .next t ∧ State.Evolves [.attic, .cellar, .larder, .host, .od, .stoker, .domains, .meter, .sent, .lb, .ws, .bell, .gz, .ex, .pel, .dict, .mtr, .pwr, .sec] s t := by
  unfold execKeepHouse
  refine ⟨_, rfl, ?_⟩
  refine State.onWay_evolves ?_ ?_
  · exact State.Evolves.refl _ _
  · refine State.Evolves.step ?_ (State.odWriteObj_evolves ..) rfl
    exact State.Evolves.refl _ _

theorem execPwrHkIdle_evolves (s : State) :
    ∃ t, execPwrHkIdle s = .next t ∧ State.Evolves [.od, .meter] s t := by
  unfold execPwrHkIdle
  refine ⟨_, rfl, ?_⟩
  refine State.Evolves.step ?_ (State.hkIdle_evolves ..) rfl
  exact State.Evolves.refl _ _

theorem execPwrEnFall_evolves (s : State) :
    ∃ t, execPwrEnFall s = .next t ∧ State.Evolves [.attic, .cellar, .larder, .od, .captain, .stoker, .domains, .meter, .lb, .rooms, .porch, .ws, .bell, .gz, .ex, .pel, .dict, .mtr, .pwr, .cxl, .sec] s t := by
  unfold execPwrEnFall
  refine ⟨_, rfl, ?_⟩
  refine State.Evolves.step ?_ (State.pwrEnFall_evolves ..) rfl
  exact State.Evolves.refl _ _

theorem execBellGlobalEn_evolves (w : Way) (data : List Byte) (s : State) :
    ∃ t, execBellGlobalEn w data s = .next t ∧ State.Evolves [.attic, .cellar, .larder, .host, .od, .stoker, .domains, .meter, .sent, .lb, .ws, .bell, .gz, .ex, .pel, .dict, .mtr, .pwr, .sec] s t := by
  unfold execBellGlobalEn
  refine ⟨_, rfl, ?_⟩
  refine State.onWay_evolves ?_ ?_
  · exact State.Evolves.refl _ _
  · refine State.Evolves.step ?_ (State.odWriteObj_evolves ..) rfl
    exact State.Evolves.refl _ _

theorem execBellAck_evolves (w : Option Way) (v : Nat) (s : State) :
    ∃ t, execBellAck w v s = .next t ∧ State.Evolves [.attic, .cellar, .larder, .host, .od, .stoker, .domains, .meter, .sent, .lb, .ws, .bell, .gz, .ex, .pel, .dict, .mtr, .pwr, .sec] s t := by
  unfold execBellAck
  refine ⟨_, rfl, ?_⟩
  split
  · refine State.onWay_evolves ?_ ?_
    · exact State.Evolves.refl _ _
    · refine State.Evolves.step ?_ (State.odWriteObj_evolves ..) rfl
      exact State.Evolves.refl _ _
  · refine State.Evolves.ite ?_ ?_
    · refine State.Evolves.step ?_ (State.bellAck_evolves ..) rfl
      exact State.Evolves.refl _ _
    · exact State.Evolves.refl _ _

theorem execBellDeliver_evolves (target : Nat) (s : State) :
    ∃ t, execBellDeliver target s = .next t ∧ State.Evolves [.meter, .sent, .bell] s t := by
  unfold execBellDeliver
  refine ⟨_, rfl, ?_⟩
  refine State.Evolves.ite ?_ ?_
  · refine State.Evolves.step ?_ (State.bellDeliver_evolves ..) rfl
    exact State.Evolves.refl _ _
  · exact State.Evolves.refl _ _

theorem execMeterSnap_evolves (w : Way) (data : List Byte) (s : State) :
    ∃ t, execMeterSnap w data s = .next t ∧ State.Evolves [.attic, .cellar, .larder, .host, .od, .stoker, .domains, .meter, .sent, .lb, .ws, .bell, .gz, .ex, .pel, .dict, .mtr, .pwr, .sec] s t := by
  unfold execMeterSnap
  refine ⟨_, rfl, ?_⟩
  refine State.onWay_evolves ?_ ?_
  · exact State.Evolves.refl _ _
  · refine State.Evolves.step ?_ (State.odWriteObj_evolves ..) rfl
    exact State.Evolves.refl _ _

theorem execSnapshotEdge_evolves (s : State) :
    ∃ t, execSnapshotEdge s = .next t ∧ State.Evolves [.od, .meter, .tick, .sent, .bell, .dict, .mtr] s t := by
  unfold execSnapshotEdge
  refine ⟨_, rfl, ?_⟩
  refine State.Evolves.step ?_ (State.snapshotEdge_evolves ..) rfl
  exact State.Evolves.refl _ _

theorem execBellClear_evolves (w : Way) (data : List Byte) (s : State) :
    ∃ t, execBellClear w data s = .next t ∧ State.Evolves [.attic, .cellar, .larder, .host, .od, .stoker, .domains, .meter, .sent, .lb, .ws, .bell, .gz, .ex, .pel, .dict, .mtr, .pwr, .sec] s t := by
  unfold execBellClear
  refine ⟨_, rfl, ?_⟩
  refine State.onWay_evolves ?_ ?_
  · exact State.Evolves.refl _ _
  · refine State.Evolves.step ?_ (State.odWriteObj_evolves ..) rfl
    exact State.Evolves.refl _ _

theorem execMsixUnmask_evolves (v : Nat) (s : State) :
    ∃ t, execMsixUnmask v s = .next t ∧ State.Evolves [.sent, .bell] s t := by
  unfold execMsixUnmask
  refine ⟨_, rfl, ?_⟩
  refine State.Evolves.step ?_ (State.msixUnmask_evolves ..) rfl
  exact State.Evolves.refl _ _

theorem execBellVector_evolves (w : Way) (v : Nat) (data : List Byte) (s : State) :
    ∃ t, execBellVector w v data s = .next t ∧ State.Evolves [.attic, .cellar, .larder, .host, .od, .stoker, .domains, .meter, .sent, .lb, .ws, .bell, .gz, .ex, .pel, .dict, .mtr, .pwr, .sec] s t := by
  unfold execBellVector
  refine ⟨_, rfl, ?_⟩
  refine State.onWay_evolves ?_ ?_
  · exact State.Evolves.refl _ _
  · refine State.Evolves.step ?_ (State.odWriteObj_evolves ..) rfl
    exact State.Evolves.refl _ _

theorem execBellRoute_evolves (w : Way) (n : Nat) (data : List Byte) (s : State) :
    ∃ t, execBellRoute w n data s = .next t ∧ State.Evolves [.attic, .cellar, .larder, .host, .od, .stoker, .domains, .meter, .sent, .lb, .ws, .bell, .gz, .ex, .pel, .dict, .mtr, .pwr, .sec] s t := by
  unfold execBellRoute
  refine ⟨_, rfl, ?_⟩
  refine State.onWay_evolves ?_ ?_
  · exact State.Evolves.refl _ _
  · refine State.Evolves.step ?_ (State.odWriteObj_evolves ..) rfl
    exact State.Evolves.refl _ _

theorem execPerstAssert_evolves (port : Nat) (s : State) :
    ∃ t, execPerstAssert port s = .next t ∧ State.Evolves [.attic, .cellar, .larder, .host, .od, .meter, .sent, .lb, .porch, .bell, .pel, .dict, .pwr] s t := by
  unfold execPerstAssert
  refine ⟨_, rfl, ?_⟩
  refine State.Evolves.step ?_ (State.perstAssert_evolves ..) rfl
  exact State.Evolves.refl _ _

theorem execSpdmRequest_evolves (path : Nat) (req : List Byte) (keyed : Bool) (s : State) :
    ∃ t, execSpdmRequest path req keyed s = .next t ∧ State.Evolves [.od, .domains, .sent, .sec] s t := by
  unfold execSpdmRequest
  refine ⟨_, rfl, ?_⟩
  refine State.Evolves.step ?_ (State.spdmEvent_evolves ..) rfl
  exact State.Evolves.refl _ _

theorem execBisnpResponse_evolves (line : Nat) (s : State) :
    ∃ t, execBisnpResponse line s = .next t ∧ State.Evolves [.cxl] s t := by
  unfold execBisnpResponse
  refine ⟨_, rfl, ?_⟩
  refine State.Evolves.step ?_ (State.bisnpResponse_evolves ..) rfl
  exact State.Evolves.refl _ _

theorem execSecSvnCommit_evolves (w : Way) (data : List Byte) (s : State) :
    ∃ t, execSecSvnCommit w data s = .next t ∧ State.Evolves [.attic, .cellar, .larder, .host, .od, .stoker, .domains, .meter, .sent, .lb, .ws, .bell, .gz, .ex, .pel, .dict, .mtr, .pwr, .sec] s t := by
  unfold execSecSvnCommit
  refine ⟨_, rfl, ?_⟩
  refine State.onWay_evolves ?_ ?_
  · exact State.Evolves.refl _ _
  · refine State.Evolves.step ?_ (State.odWriteObj_evolves ..) rfl
    exact State.Evolves.refl _ _

theorem execSecDebugUnlock_evolves (w : Way) (token : List Byte) (s : State) :
    ∃ t, execSecDebugUnlock w token s = .next t ∧ State.Evolves [.od, .domains, .meter, .sent, .dict, .sec] s t := by
  unfold execSecDebugUnlock
  refine ⟨_, rfl, ?_⟩
  refine State.onWay_evolves ?_ ?_
  · exact State.Evolves.refl _ _
  · refine State.Evolves.step ?_ (State.debugUnlock_evolves ..) rfl
    exact State.Evolves.refl _ _

theorem execSecFwCommit_evolves (w : Way) (data : List Byte) (s : State) :
    ∃ t, execSecFwCommit w data s = .next t ∧ State.Evolves [.attic, .cellar, .larder, .host, .od, .stoker, .domains, .meter, .sent, .lb, .ws, .bell, .gz, .ex, .pel, .dict, .mtr, .pwr, .sec] s t := by
  unfold execSecFwCommit
  refine ⟨_, rfl, ?_⟩
  refine State.onWay_evolves ?_ ?_
  · exact State.Evolves.refl _ _
  · refine State.Evolves.step ?_ (State.odWriteObj_evolves ..) rfl
    exact State.Evolves.refl _ _

theorem execTapReset_evolves (s : State) :
    ∃ t, execTapReset s = .next t ∧ State.Evolves [.tap] s t := by
  unfold execTapReset
  refine ⟨_, rfl, ?_⟩
  refine State.Evolves.step ?_ (State.tapReset_evolves ..) rfl
  exact State.Evolves.refl _ _

theorem execIdeIntegrityFail_evolves (port : Nat) (s : State) :
    ∃ t, execIdeIntegrityFail port s = .next t ∧ State.Evolves [.od, .meter, .bell] s t := by
  unfold execIdeIntegrityFail
  refine ⟨_, rfl, ?_⟩
  refine State.Evolves.step ?_ (State.ideFail_evolves ..) rfl
  exact State.Evolves.refl _ _

theorem execPatrolScrub_evolves (ceAttic : Nat) (ceCellar : Nat) (ueAttic : List Nat) (ueCellar : List Nat) (s : State) :
    ∃ t, execPatrolScrub ceAttic ceCellar ueAttic ueCellar s = .next t ∧ State.Evolves [.attic, .cellar, .larder, .host, .od, .meter, .bell] s t := by
  unfold execPatrolScrub
  refine ⟨_, rfl, ?_⟩
  refine State.Evolves.step ?_ (State.patrolScrub_evolves ..) rfl
  exact State.Evolves.refl _ _

theorem execLinkDown_evolves (port : Nat) (s : State) :
    ∃ t, execLinkDown port s = .next t ∧ State.Evolves [.attic, .cellar, .larder, .host, .od, .meter, .sent, .lb, .porch, .bell, .pel] s t := by
  unfold execLinkDown
  refine ⟨_, rfl, ?_⟩
  refine State.Evolves.step ?_ (State.linkDown_evolves ..) rfl
  exact State.Evolves.refl _ _

theorem execLinkTrained_evolves (port : Nat) (width : Nat) (rate : Nat) (s : State) :
    ∃ t, execLinkTrained port width rate s = .next t ∧ State.Evolves [.od, .meter, .bell] s t := by
  unfold execLinkTrained
  refine ⟨_, rfl, ?_⟩
  refine State.Evolves.step ?_ (State.linkTrained_evolves ..) rfl
  exact State.Evolves.refl _ _

theorem execLinkRetry_evolves (port : Nat) (s : State) :
    ∃ t, execLinkRetry port s = .next t ∧ State.Evolves [.od, .bell] s t := by
  unfold execLinkRetry
  refine ⟨_, rfl, ?_⟩
  refine State.Evolves.step ?_ (State.linkRetry_evolves ..) rfl
  exact State.Evolves.refl _ _

theorem execPerstDeassert_evolves (port : Nat) (s : State) :
    ∃ t, execPerstDeassert port s = .next t ∧ State.Evolves [.od, .meter, .bell, .pwr] s t := by
  unfold execPerstDeassert
  refine ⟨_, rfl, ?_⟩
  refine State.Evolves.step ?_ (State.perstDeassert_evolves ..) rfl
  exact State.Evolves.refl _ _

theorem execInboundWrite_evolves (port : Nat) (path : Nat) (addr : Nat) (data : List Byte) (poison : Bool) (s : State) :
    ∃ t, execInboundWrite port path addr data poison s = .next t ∧ State.Evolves [.attic, .cellar, .larder, .host, .od, .meter, .sent, .lb, .bell, .gz, .ex, .cxl] s t := by
  unfold execInboundWrite
  refine ⟨_, rfl, ?_⟩
  refine State.Evolves.step ?_ (State.inboundWrite_evolves ..) rfl
  exact State.Evolves.refl _ _

theorem execInboundRead_evolves (port : Nat) (path : Nat) (addr : Nat) (len : Nat) (s : State) :
    ∃ t, execInboundRead port path addr len s = .next t ∧ State.Evolves [.od, .meter, .sent, .cxl] s t := by
  unfold execInboundRead
  refine ⟨_, rfl, ?_⟩
  refine State.Evolves.step ?_ (State.inboundRead_evolves ..) rfl
  exact State.Evolves.refl _ _

theorem execRecoveryLoad_evolves (images : List Byte) (s : State) :
    ∃ t, execRecoveryLoad images s = .next t ∧ State.Evolves [.od, .pwr, .sec, .tap] s t := by
  unfold execRecoveryLoad
  refine ⟨_, rfl, ?_⟩
  refine State.Evolves.step ?_ (State.recoveryLoad_evolves ..) rfl
  exact State.Evolves.refl _ _

theorem execSecOwnerKeyNext_evolves (w : Way) (data : List Byte) (s : State) :
    ∃ t, execSecOwnerKeyNext w data s = .next t ∧ State.Evolves [.attic, .cellar, .larder, .host, .od, .stoker, .domains, .meter, .sent, .lb, .ws, .bell, .gz, .ex, .pel, .dict, .mtr, .pwr, .sec] s t := by
  unfold execSecOwnerKeyNext
  refine ⟨_, rfl, ?_⟩
  refine State.onWay_evolves ?_ ?_
  · exact State.Evolves.refl _ _
  · refine State.Evolves.step ?_ (State.odWriteObj_evolves ..) rfl
    exact State.Evolves.refl _ _

theorem execExtest_evolves (which : Nat) (pins : Nat) (s : State) :
    ∃ t, execExtest which pins s = .next t ∧ State.Evolves [.tap] s t := by
  unfold execExtest
  refine ⟨_, rfl, ?_⟩
  refine State.Evolves.step ?_ (State.extest_evolves ..) rfl
  exact State.Evolves.refl _ _

theorem execFwWriteDone_evolves (s : State) :
    ∃ t, execFwWriteDone s = .next t ∧ State.Evolves [.od, .sec] s t := by
  unfold execFwWriteDone
  refine ⟨_, rfl, ?_⟩
  refine State.Evolves.step ?_ (State.fwWriteDone_evolves ..) rfl
  exact State.Evolves.refl _ _

end Sys2Proof.Machine
end

