-- ==== Sys2Proof/Laws/Exec.lean ====
section
/-! SUPPORT. What one command, and one step, may do at all. -/

namespace Sys2Proof.Machine

/-- The parts of State that commands may write: all but the queue they wait in. -/
def Fld.cmd : List Fld :=
  [.attic, .cellar, .larder, .host, .od, .captain, .stoker, .domains, .meter, .tick, .freeCtr, .sent, .lb, .rooms, .porch, .ws, .bell,
   .gz, .ex, .pel, .dict, .mtr, .pwr, .cxl, .sec, .tap]

/-- Every command completes, and develops the state only as a command may. -/
theorem exec_evolves (c : Instr) (s : State) : ∃ t, exec c s = .next t ∧ s.Evolves Fld.cmd t := by
  cases c with
  | letterboxDoorbell data => obtain ⟨t, e, h⟩ := execLetterboxDoorbell_evolves data s; exact ⟨t, e, h.mono rfl⟩
  | enable q => obtain ⟨t, e, h⟩ := execEnable_evolves q s; exact ⟨t, e, h.mono rfl⟩
  | disable q => obtain ⟨t, e, h⟩ := execDisable_evolves q s; exact ⟨t, e, h.mono rfl⟩
  | resume q => obtain ⟨t, e, h⟩ := execResume_evolves q s; exact ⟨t, e, h.mono rfl⟩
  | flush q => obtain ⟨t, e, h⟩ := execFlush_evolves q s; exact ⟨t, e, h.mono rfl⟩
  | header q => obtain ⟨t, e, h⟩ := execHeader_evolves q s; exact ⟨t, e, h.mono rfl⟩
  | frontProduct q => obtain ⟨t, e, h⟩ := execFrontProduct_evolves q s; exact ⟨t, e, h.mono rfl⟩
  | backProduct q => obtain ⟨t, e, h⟩ := execBackProduct_evolves q s; exact ⟨t, e, h.mono rfl⟩
  | copyConvert q => obtain ⟨t, e, h⟩ := execCopyConvert_evolves q s; exact ⟨t, e, h.mono rfl⟩
  | copyTranspose q => obtain ⟨t, e, h⟩ := execCopyTranspose_evolves q s; exact ⟨t, e, h.mono rfl⟩
  | marker q => obtain ⟨t, e, h⟩ := execMarker_evolves q s; exact ⟨t, e, h.mono rfl⟩
  | decodeGatherTimeout => obtain ⟨t, e, h⟩ := execDecodeGatherTimeout_evolves s; exact ⟨t, e, h.mono rfl⟩
  | letterStart station fill => obtain ⟨t, e, h⟩ := execLetterStart_evolves station fill s; exact ⟨t, e, h.mono rfl⟩
  | segmentEnd back row col ecc => obtain ⟨t, e, h⟩ := execSegmentEnd_evolves back row col ecc s; exact ⟨t, e, h.mono rfl⟩
  | flushHoldRelease back cycles => obtain ⟨t, e, h⟩ := execFlushHoldRelease_evolves back cycles s; exact ⟨t, e, h.mono rfl⟩
  | tileDone drain cycles starve => obtain ⟨t, e, h⟩ := execTileDone_evolves drain.back cycles starve drain.ecc s; exact ⟨t, e, h.mono rfl⟩
  | passDone drain => obtain ⟨t, e, h⟩ := execPassDone_evolves drain.back drain.ecc s; exact ⟨t, e, h.mono rfl⟩
  | tileConversionEnd conv => obtain ⟨t, e, h⟩ := execTileConversionEnd_evolves conv.path conv.ecc s; exact ⟨t, e, h.mono rfl⟩
  | kvWaitTimeout path => obtain ⟨t, e, h⟩ := execKvWaitTimeout_evolves path s; exact ⟨t, e, h.mono rfl⟩
  | letterCompletion q seq => obtain ⟨t, e, h⟩ := execLetterCompletion_evolves q seq s; exact ⟨t, e, h.mono rfl⟩
  | letterboxNotifyAck w n => obtain ⟨t, e, h⟩ := execLetterboxNotifyAck_evolves w n s; exact ⟨t, e, h.mono rfl⟩
  | reservedRoute q => obtain ⟨t, e, h⟩ := execReservedRoute_evolves q s; exact ⟨t, e, h.mono rfl⟩
  | memoryPortGrant port => obtain ⟨t, e, h⟩ := execMemoryPortGrant_evolves port s; exact ⟨t, e, h.mono rfl⟩
  | burstArrival thread taken ecc sec => obtain ⟨t, e, h⟩ := execBurstArrival_evolves thread taken ecc sec s; exact ⟨t, e, h.mono rfl⟩
  | softmaxBlock q => obtain ⟨t, e, h⟩ := execSoftmaxBlock_evolves q s; exact ⟨t, e, h.mono rfl⟩
  | softmaxFinish q => obtain ⟨t, e, h⟩ := execSoftmaxFinish_evolves q s; exact ⟨t, e, h.mono rfl⟩
  | attnCombine q => obtain ⟨t, e, h⟩ := execAttnCombine_evolves q s; exact ⟨t, e, h.mono rfl⟩
  | softmaxBwd q => obtain ⟨t, e, h⟩ := execSoftmaxBwd_evolves q s; exact ⟨t, e, h.mono rfl⟩
  | rmsnorm q => obtain ⟨t, e, h⟩ := execRmsnorm_evolves q s; exact ⟨t, e, h.mono rfl⟩
  | rmsnormBwd q => obtain ⟨t, e, h⟩ := execRmsnormBwd_evolves q s; exact ⟨t, e, h.mono rfl⟩
  | layernorm q => obtain ⟨t, e, h⟩ := execLayernorm_evolves q s; exact ⟨t, e, h.mono rfl⟩
  | gatedSilu q => obtain ⟨t, e, h⟩ := execGatedSilu_evolves q s; exact ⟨t, e, h.mono rfl⟩
  | gatedSiluBwd q => obtain ⟨t, e, h⟩ := execGatedSiluBwd_evolves q s; exact ⟨t, e, h.mono rfl⟩
  | ewAxpby q => obtain ⟨t, e, h⟩ := execEwAxpby_evolves q s; exact ⟨t, e, h.mono rfl⟩
  | toppSelect q => obtain ⟨t, e, h⟩ := execToppSelect_evolves q s; exact ⟨t, e, h.mono rfl⟩
  | librarySpecificProgram q => obtain ⟨t, e, h⟩ := execLibrarySpecificProgram_evolves q s; exact ⟨t, e, h.mono rfl⟩
  | workshopTileDone slot ecc => obtain ⟨t, e, h⟩ := execWorkshopTileDone_evolves slot ecc s; exact ⟨t, e, h.mono rfl⟩
  | outlierProductsDone back wait => obtain ⟨t, e, h⟩ := execOutlierProductsDone_evolves back wait s; exact ⟨t, e, h.mono rfl⟩
  | benchWatchdog row => obtain ⟨t, e, h⟩ := execBenchWatchdog_evolves row.bench row.cycles s; exact ⟨t, e, h.mono rfl⟩
  | benchTrap bench => obtain ⟨t, e, h⟩ := execBenchTrap_evolves bench s; exact ⟨t, e, h.mono rfl⟩
  | wsLibLoad w data => obtain ⟨t, e, h⟩ := execWsLibLoad_evolves w data s; exact ⟨t, e, h.mono rfl⟩
  | libInstallDone => obtain ⟨t, e, h⟩ := execLibInstallDone_evolves s; exact ⟨t, e, h.mono rfl⟩
  | outlierReservationApply => obtain ⟨t, e, h⟩ := execOutlierReservationApply_evolves s; exact ⟨t, e, h.mono rfl⟩
  | openUpdate q => obtain ⟨t, e, h⟩ := execOpenUpdate_evolves q s; exact ⟨t, e, h.mono rfl⟩
  | piece q => obtain ⟨t, e, h⟩ := execPiece_evolves q s; exact ⟨t, e, h.mono rfl⟩
  | close q => obtain ⟨t, e, h⟩ := execClose_evolves q s; exact ⟨t, e, h.mono rfl⟩
  | quant q => obtain ⟨t, e, h⟩ := execQuant_evolves q s; exact ⟨t, e, h.mono rfl⟩
  | gzUnknownProg q => obtain ⟨t, e, h⟩ := execGzUnknownProg_evolves q s; exact ⟨t, e, h.mono rfl⟩
  | grainDone core cycles mem => obtain ⟨t, e, h⟩ := execGrainDone_evolves core cycles mem s; exact ⟨t, e, h.mono rfl⟩
  | add core => obtain ⟨t, e, h⟩ := execAdd_evolves core s; exact ⟨t, e, h.mono rfl⟩
  | sub core => obtain ⟨t, e, h⟩ := execSub_evolves core s; exact ⟨t, e, h.mono rfl⟩
  | mul core => obtain ⟨t, e, h⟩ := execMul_evolves core s; exact ⟨t, e, h.mono rfl⟩
  | fma core => obtain ⟨t, e, h⟩ := execFma_evolves core s; exact ⟨t, e, h.mono rfl⟩
  | lerp core => obtain ⟨t, e, h⟩ := execLerp_evolves core s; exact ⟨t, e, h.mono rfl⟩
  | min core => obtain ⟨t, e, h⟩ := execMin_evolves core s; exact ⟨t, e, h.mono rfl⟩
  | max core => obtain ⟨t, e, h⟩ := execMax_evolves core s; exact ⟨t, e, h.mono rfl⟩
  | abs core => obtain ⟨t, e, h⟩ := execAbs_evolves core s; exact ⟨t, e, h.mono rfl⟩
  | div core => obtain ⟨t, e, h⟩ := execDiv_evolves core s; exact ⟨t, e, h.mono rfl⟩
  | sqrt core => obtain ⟨t, e, h⟩ := execSqrt_evolves core s; exact ⟨t, e, h.mono rfl⟩
  | sel core => obtain ⟨t, e, h⟩ := execSel_evolves core s; exact ⟨t, e, h.mono rfl⟩
  | ld load => obtain ⟨t, e, h⟩ := execLd_evolves load.core load.ecc load.sec s; exact ⟨t, e, h.mono rfl⟩
  | st core => obtain ⟨t, e, h⟩ := execSt_evolves core s; exact ⟨t, e, h.mono rfl⟩
  | cvtsr core => obtain ⟨t, e, h⟩ := execCvtsr_evolves core s; exact ⟨t, e, h.mono rfl⟩
  | cvtbf core => obtain ⟨t, e, h⟩ := execCvtbf_evolves core s; exact ⟨t, e, h.mono rfl⟩
  | spowi core => obtain ⟨t, e, h⟩ := execSpowi_evolves core s; exact ⟨t, e, h.mono rfl⟩
  | body core => obtain ⟨t, e, h⟩ := execBody_evolves core s; exact ⟨t, e, h.mono rfl⟩
  | commit core => obtain ⟨t, e, h⟩ := execCommit_evolves core s; exact ⟨t, e, h.mono rfl⟩
  | glaziaRuleLoad w data => obtain ⟨t, e, h⟩ := execGlaziaRuleLoad_evolves w data s; exact ⟨t, e, h.mono rfl⟩
  | reduceScatter q => obtain ⟨t, e, h⟩ := execReduceScatter_evolves q s; exact ⟨t, e, h.mono rfl⟩
  | allGather q => obtain ⟨t, e, h⟩ := execAllGather_evolves q s; exact ⟨t, e, h.mono rfl⟩
  | broadcast q => obtain ⟨t, e, h⟩ := execBroadcast_evolves q s; exact ⟨t, e, h.mono rfl⟩
  | allToAll q => obtain ⟨t, e, h⟩ := execAllToAll_evolves q s; exact ⟨t, e, h.mono rfl⟩
  | ringRoundStart slot => obtain ⟨t, e, h⟩ := execRingRoundStart_evolves slot s; exact ⟨t, e, h.mono rfl⟩
  | contrib port head payload poison => obtain ⟨t, e, h⟩ := execContrib_evolves port head payload poison s; exact ⟨t, e, h.mono rfl⟩
  | part port head payload poison => obtain ⟨t, e, h⟩ := execPart_evolves port head payload poison s; exact ⟨t, e, h.mono rfl⟩
  | lateFrame port head payload poison => obtain ⟨t, e, h⟩ := execLateFrame_evolves port head payload poison s; exact ⟨t, e, h.mono rfl⟩
  | credit port head => obtain ⟨t, e, h⟩ := execCredit_evolves port head s; exact ⟨t, e, h.mono rfl⟩
  | notice port head => obtain ⟨t, e, h⟩ := execNotice_evolves port head s; exact ⟨t, e, h.mono rfl⟩
  | chunkDeadline slot owner chunk level => obtain ⟨t, e, h⟩ := execChunkDeadline_evolves slot owner chunk level s; exact ⟨t, e, h.mono rfl⟩
  | tagDiscard slot => obtain ⟨t, e, h⟩ := execTagDiscard_evolves slot s; exact ⟨t, e, h.mono rfl⟩
  | uioTimeout g m => obtain ⟨t, e, h⟩ := execUioTimeout_evolves g m s; exact ⟨t, e, h.mono rfl⟩
  | uioCompletionError g m => obtain ⟨t, e, h⟩ := execUioCompletionError_evolves g m s; exact ⟨t, e, h.mono rfl⟩
  | rejoin w g m => obtain ⟨t, e, h⟩ := execRejoin_evolves w g m s; exact ⟨t, e, h.mono rfl⟩
  | clearMisses w g m => obtain ⟨t, e, h⟩ := execClearMisses_evolves w g m s; exact ⟨t, e, h.mono rfl⟩
  | exportAutoStart guest => obtain ⟨t, e, h⟩ := execExportAutoStart_evolves guest s; exact ⟨t, e, h.mono rfl⟩
  | exportBank q guest => obtain ⟨t, e, h⟩ := execExportBank_evolves q guest s; exact ⟨t, e, h.mono rfl⟩
  | guestSend q => obtain ⟨t, e, h⟩ := execGuestSend_evolves q s; exact ⟨t, e, h.mono rfl⟩
  | exportFrame port head payload poison => obtain ⟨t, e, h⟩ := execExportFrame_evolves port head payload poison s; exact ⟨t, e, h.mono rfl⟩
  | restoreStream port head payload poison => obtain ⟨t, e, h⟩ := execRestoreStream_evolves port head payload poison s; exact ⟨t, e, h.mono rfl⟩
  | exportAck port head => obtain ⟨t, e, h⟩ := execExportAck_evolves port head s; exact ⟨t, e, h.mono rfl⟩
  | share w lo hi => obtain ⟨t, e, h⟩ := execShare_evolves w lo hi s; exact ⟨t, e, h.mono rfl⟩
  | free w lo hi => obtain ⟨t, e, h⟩ := execFree_evolves w lo hi s; exact ⟨t, e, h.mono rfl⟩
  | pageCmdLo lo => obtain ⟨t, e, h⟩ := execPageCmdLo_evolves lo s; exact ⟨t, e, h.mono rfl⟩
  | hello peer msg => obtain ⟨t, e, h⟩ := execHello_evolves peer msg s; exact ⟨t, e, h.mono rfl⟩
  | authStart peer msg => obtain ⟨t, e, h⟩ := execAuthStart_evolves peer msg s; exact ⟨t, e, h.mono rfl⟩
  | authProof peer msg => obtain ⟨t, e, h⟩ := execAuthProof_evolves peer msg s; exact ⟨t, e, h.mono rfl⟩
  | authEnd peer msg => obtain ⟨t, e, h⟩ := execAuthEnd_evolves peer msg s; exact ⟨t, e, h.mono rfl⟩
  | read peer msg => obtain ⟨t, e, h⟩ := execRead_evolves peer msg s; exact ⟨t, e, h.mono rfl⟩
  | write peer msg => obtain ⟨t, e, h⟩ := execWrite_evolves peer msg s; exact ⟨t, e, h.mono rfl⟩
  | blockRead peer msg => obtain ⟨t, e, h⟩ := execBlockRead_evolves peer msg s; exact ⟨t, e, h.mono rfl⟩
  | blockWriteBegin peer msg => obtain ⟨t, e, h⟩ := execBlockWriteBegin_evolves peer msg s; exact ⟨t, e, h.mono rfl⟩
  | blockWriteSegment peer msg => obtain ⟨t, e, h⟩ := execBlockWriteSegment_evolves peer msg s; exact ⟨t, e, h.mono rfl⟩
  | blockWriteEnd peer msg => obtain ⟨t, e, h⟩ := execBlockWriteEnd_evolves peer msg s; exact ⟨t, e, h.mono rfl⟩
  | snapshot peer msg => obtain ⟨t, e, h⟩ := execSnapshot_evolves peer msg s; exact ⟨t, e, h.mono rfl⟩
  | notify n => obtain ⟨t, e, h⟩ := execNotify_evolves n s; exact ⟨t, e, h.mono rfl⟩
  | notifyRepeat n => obtain ⟨t, e, h⟩ := execNotifyRepeat_evolves n s; exact ⟨t, e, h.mono rfl⟩
  | authStartTimeout sid => obtain ⟨t, e, h⟩ := execAuthStartTimeout_evolves sid s; exact ⟨t, e, h.mono rfl⟩
  | authLockoutEnd peer => obtain ⟨t, e, h⟩ := execAuthLockoutEnd_evolves peer s; exact ⟨t, e, h.mono rfl⟩
  | sessionIdleTimeout sid => obtain ⟨t, e, h⟩ := execSessionIdleTimeout_evolves sid s; exact ⟨t, e, h.mono rfl⟩
  | blockTimeout idx subIdx => obtain ⟨t, e, h⟩ := execBlockTimeout_evolves idx subIdx s; exact ⟨t, e, h.mono rfl⟩
  | blockReadCopyExpiry idx subIdx peer => obtain ⟨t, e, h⟩ := execBlockReadCopyExpiry_evolves idx subIdx peer s; exact ⟨t, e, h.mono rfl⟩
  | plcaFallback => obtain ⟨t, e, h⟩ := execPlcaFallback_evolves s; exact ⟨t, e, h.mono rfl⟩
  | neighbourSolicitation peer target => obtain ⟨t, e, h⟩ := execNeighbourSolicitation_evolves peer target s; exact ⟨t, e, h.mono rfl⟩
  | odRead payload => obtain ⟨t, e, h⟩ := execOdRead_evolves payload s; exact ⟨t, e, h.mono rfl⟩
  | odWrite payload => obtain ⟨t, e, h⟩ := execOdWrite_evolves payload s; exact ⟨t, e, h.mono rfl⟩
  | odBlockRead payload => obtain ⟨t, e, h⟩ := execOdBlockRead_evolves payload s; exact ⟨t, e, h.mono rfl⟩
  | odBlockWrite payload => obtain ⟨t, e, h⟩ := execOdBlockWrite_evolves payload s; exact ⟨t, e, h.mono rfl⟩
  | odSnapshot payload => obtain ⟨t, e, h⟩ := execOdSnapshot_evolves payload s; exact ⟨t, e, h.mono rfl⟩
  | odAuth payload => obtain ⟨t, e, h⟩ := execOdAuth_evolves payload s; exact ⟨t, e, h.mono rfl⟩
  | tandemSwap w data => obtain ⟨t, e, h⟩ := execTandemSwap_evolves w data s; exact ⟨t, e, h.mono rfl⟩
  | swapPoint => obtain ⟨t, e, h⟩ := execSwapPoint_evolves s; exact ⟨t, e, h.mono rfl⟩
  | tandemCopy w data => obtain ⟨t, e, h⟩ := execTandemCopy_evolves w data s; exact ⟨t, e, h.mono rfl⟩
  | calUsrCommit w data => obtain ⟨t, e, h⟩ := execCalUsrCommit_evolves w data s; exact ⟨t, e, h.mono rfl⟩
  | calCommitEnd => obtain ⟨t, e, h⟩ := execCalCommitEnd_evolves s; exact ⟨t, e, h.mono rfl⟩
  | calUsrRetrain w data => obtain ⟨t, e, h⟩ := execCalUsrRetrain_evolves w data s; exact ⟨t, e, h.mono rfl⟩
  | recipeRingTail w data => obtain ⟨t, e, h⟩ := execRecipeRingTail_evolves w data s; exact ⟨t, e, h.mono rfl⟩
  | gradQuarTail w data => obtain ⟨t, e, h⟩ := execGradQuarTail_evolves w data s; exact ⟨t, e, h.mono rfl⟩
  | cellarBankCurrent w data => obtain ⟨t, e, h⟩ := execCellarBankCurrent_evolves w data s; exact ⟨t, e, h.mono rfl⟩
  | objectWrite w idx subIdx data => obtain ⟨t, e, h⟩ := execObjectWrite_evolves w idx subIdx data s; exact ⟨t, e, h.mono rfl⟩
  | clkPllSrc w pll data => obtain ⟨t, e, h⟩ := execClkPllSrc_evolves w pll data s; exact ⟨t, e, h.mono rfl⟩
  | clkEnable w data => obtain ⟨t, e, h⟩ := execClkEnable_evolves w data s; exact ⟨t, e, h.mono rfl⟩
  | xtalGate count => obtain ⟨t, e, h⟩ := execXtalGate_evolves count s; exact ⟨t, e, h.mono rfl⟩
  | refclkGate clock count => obtain ⟨t, e, h⟩ := execRefclkGate_evolves clock count s; exact ⟨t, e, h.mono rfl⟩
  | xtalMonitorGate count => obtain ⟨t, e, h⟩ := execXtalMonitorGate_evolves count s; exact ⟨t, e, h.mono rfl⟩
  | xtalEdgeMissing => obtain ⟨t, e, h⟩ := execXtalEdgeMissing_evolves s; exact ⟨t, e, h.mono rfl⟩
  | xtalJudgeTimeout => obtain ⟨t, e, h⟩ := execXtalJudgeTimeout_evolves s; exact ⟨t, e, h.mono rfl⟩
  | freewheel pll => obtain ⟨t, e, h⟩ := execFreewheel_evolves pll s; exact ⟨t, e, h.mono rfl⟩
  | clkFailoverSwitch pll => obtain ⟨t, e, h⟩ := execClkFailoverSwitch_evolves pll s; exact ⟨t, e, h.mono rfl⟩
  | pllLocked pll => obtain ⟨t, e, h⟩ := execPllLocked_evolves pll s; exact ⟨t, e, h.mono rfl⟩
  | clkIdleTimeout station => obtain ⟨t, e, h⟩ := execClkIdleTimeout_evolves station s; exact ⟨t, e, h.mono rfl⟩
  | thermalSample raw => obtain ⟨t, e, h⟩ := execThermalSample_evolves raw s; exact ⟨t, e, h.mono rfl⟩
  | powerMeterSample raw input => obtain ⟨t, e, h⟩ := execPowerMeterSample_evolves raw input s; exact ⟨t, e, h.mono rfl⟩
  | thermtrip => obtain ⟨t, e, h⟩ := execThermtrip_evolves s; exact ⟨t, e, h.mono rfl⟩
  | pwrHkIdle => obtain ⟨t, e, h⟩ := execPwrHkIdle_evolves s; exact ⟨t, e, h.mono rfl⟩
  | pilot w => obtain ⟨t, e, h⟩ := execPilot_evolves w s; exact ⟨t, e, h.mono rfl⟩
  | housekeeping w => obtain ⟨t, e, h⟩ := execHousekeeping_evolves w s; exact ⟨t, e, h.mono rfl⟩
  | service w => obtain ⟨t, e, h⟩ := execService_evolves w s; exact ⟨t, e, h.mono rfl⟩
  | wakeToService stations => obtain ⟨t, e, h⟩ := execWakeToService_evolves stations s; exact ⟨t, e, h.mono rfl⟩
  | pilotWake cause => obtain ⟨t, e, h⟩ := execPilotWake_evolves cause s; exact ⟨t, e, h.mono rfl⟩
  | regulatorStart => obtain ⟨t, e, h⟩ := execRegulatorStart_evolves s; exact ⟨t, e, h.mono rfl⟩
  | bs0Entry => obtain ⟨t, e, h⟩ := execBs0Entry_evolves s; exact ⟨t, e, h.mono rfl⟩
  | bs1Entry => obtain ⟨t, e, h⟩ := execBs1Entry_evolves s; exact ⟨t, e, h.mono rfl⟩
  | bringupGo w data => obtain ⟨t, e, h⟩ := execBringupGo_evolves w data s; exact ⟨t, e, h.mono rfl⟩
  | bs2Entry atticFail cellarFail => obtain ⟨t, e, h⟩ := execBs2Entry_evolves atticFail cellarFail s; exact ⟨t, e, h.mono rfl⟩
  | bs3Entry frontBad backBad port1Bad => obtain ⟨t, e, h⟩ := execBs3Entry_evolves frontBad backBad port1Bad s; exact ⟨t, e, h.mono rfl⟩
  | full w => obtain ⟨t, e, h⟩ := execFull_evolves w s; exact ⟨t, e, h.mono rfl⟩
  | keepHouse w => obtain ⟨t, e, h⟩ := execKeepHouse_evolves w s; exact ⟨t, e, h.mono rfl⟩
  | keepHousePin => obtain ⟨t, e, h⟩ := execKeepHousePin_evolves s; exact ⟨t, e, h.mono rfl⟩
  | keepHouseResetBegin => obtain ⟨t, e, h⟩ := execKeepHouseResetBegin_evolves s; exact ⟨t, e, h.mono rfl⟩
  | keepHouseRise => obtain ⟨t, e, h⟩ := execKeepHouseRise_evolves s; exact ⟨t, e, h.mono rfl⟩
  | coldStartBegin => obtain ⟨t, e, h⟩ := execColdStartBegin_evolves s; exact ⟨t, e, h.mono rfl⟩
  | hartWatchdog hart => obtain ⟨t, e, h⟩ := execHartWatchdog_evolves hart s; exact ⟨t, e, h.mono rfl⟩
  | mainInputFault => obtain ⟨t, e, h⟩ := execMainInputFault_evolves s; exact ⟨t, e, h.mono rfl⟩
  | pwrEnFall => obtain ⟨t, e, h⟩ := execPwrEnFall_evolves s; exact ⟨t, e, h.mono rfl⟩
  | auxInputFault => obtain ⟨t, e, h⟩ := execAuxInputFault_evolves s; exact ⟨t, e, h.mono rfl⟩
  | auxPowerOn plca => obtain ⟨t, e, h⟩ := execAuxPowerOn_evolves plca s; exact ⟨t, e, h.mono rfl⟩
  | bellClear w data => obtain ⟨t, e, h⟩ := execBellClear_evolves w data s; exact ⟨t, e, h.mono rfl⟩
  | bellAck w v => obtain ⟨t, e, h⟩ := execBellAck_evolves w v s; exact ⟨t, e, h.mono rfl⟩
  | bellRoute w n data => obtain ⟨t, e, h⟩ := execBellRoute_evolves w n data s; exact ⟨t, e, h.mono rfl⟩
  | bellVector w v data => obtain ⟨t, e, h⟩ := execBellVector_evolves w v data s; exact ⟨t, e, h.mono rfl⟩
  | bellGlobalEn w data => obtain ⟨t, e, h⟩ := execBellGlobalEn_evolves w data s; exact ⟨t, e, h.mono rfl⟩
  | bellDeliver target => obtain ⟨t, e, h⟩ := execBellDeliver_evolves target s; exact ⟨t, e, h.mono rfl⟩
  | msixUnmask v => obtain ⟨t, e, h⟩ := execMsixUnmask_evolves v s; exact ⟨t, e, h.mono rfl⟩
  | meterSnap w data => obtain ⟨t, e, h⟩ := execMeterSnap_evolves w data s; exact ⟨t, e, h.mono rfl⟩
  | snapshotEdge => obtain ⟨t, e, h⟩ := execSnapshotEdge_evolves s; exact ⟨t, e, h.mono rfl⟩
  | linkTrained port width rate => obtain ⟨t, e, h⟩ := execLinkTrained_evolves port width rate s; exact ⟨t, e, h.mono rfl⟩
  | linkRetry port => obtain ⟨t, e, h⟩ := execLinkRetry_evolves port s; exact ⟨t, e, h.mono rfl⟩
  | linkDown port => obtain ⟨t, e, h⟩ := execLinkDown_evolves port s; exact ⟨t, e, h.mono rfl⟩
  | perstAssert port => obtain ⟨t, e, h⟩ := execPerstAssert_evolves port s; exact ⟨t, e, h.mono rfl⟩
  | perstDeassert port => obtain ⟨t, e, h⟩ := execPerstDeassert_evolves port s; exact ⟨t, e, h.mono rfl⟩
  | ideIntegrityFail port => obtain ⟨t, e, h⟩ := execIdeIntegrityFail_evolves port s; exact ⟨t, e, h.mono rfl⟩
  | inboundWrite port path addr data poison => obtain ⟨t, e, h⟩ := execInboundWrite_evolves port path addr data poison s; exact ⟨t, e, h.mono rfl⟩
  | inboundRead port path addr len => obtain ⟨t, e, h⟩ := execInboundRead_evolves port path addr len s; exact ⟨t, e, h.mono rfl⟩
  | bisnpResponse line => obtain ⟨t, e, h⟩ := execBisnpResponse_evolves line s; exact ⟨t, e, h.mono rfl⟩
  | spdmRequest path req keyed => obtain ⟨t, e, h⟩ := execSpdmRequest_evolves path req keyed s; exact ⟨t, e, h.mono rfl⟩
  | secSvnCommit w data => obtain ⟨t, e, h⟩ := execSecSvnCommit_evolves w data s; exact ⟨t, e, h.mono rfl⟩
  | secFwCommit w data => obtain ⟨t, e, h⟩ := execSecFwCommit_evolves w data s; exact ⟨t, e, h.mono rfl⟩
  | fwWriteDone => obtain ⟨t, e, h⟩ := execFwWriteDone_evolves s; exact ⟨t, e, h.mono rfl⟩
  | secOwnerKeyNext w data => obtain ⟨t, e, h⟩ := execSecOwnerKeyNext_evolves w data s; exact ⟨t, e, h.mono rfl⟩
  | secDebugUnlock w token => obtain ⟨t, e, h⟩ := execSecDebugUnlock_evolves w token s; exact ⟨t, e, h.mono rfl⟩
  | recoveryLoad images => obtain ⟨t, e, h⟩ := execRecoveryLoad_evolves images s; exact ⟨t, e, h.mono rfl⟩
  | extest which pins => obtain ⟨t, e, h⟩ := execExtest_evolves which pins s; exact ⟨t, e, h.mono rfl⟩
  | tapReset => obtain ⟨t, e, h⟩ := execTapReset_evolves s; exact ⟨t, e, h.mono rfl⟩
  | patrolScrub ceAttic ceCellar ueAttic ueCellar => obtain ⟨t, e, h⟩ := execPatrolScrub_evolves ceAttic ceCellar ueAttic ueCellar s; exact ⟨t, e, h.mono rfl⟩

/-- A command leaves the queue of waiting commands alone. -/
theorem exec_pending {c : Instr} {s t : State} (h : exec c s = .next t) : t.pending = s.pending := by
  obtain ⟨u, e, g⟩ := exec_evolves c s
  rw [e] at h; cases h
  exact g.frame .pending (by decide)

end Sys2Proof.Machine
end

