-- ==== Sys2Proof/Laws/PerInstr.lean ====
section
/-! SUPPORT. One statement for every command: no word of the table spells it, since the table gives its rows no bits. -/

namespace Sys2Proof.Laws.NoWord

/-- No word is decoded to the command. -/
def Statement (i : Instr) : Prop := ∀ nbits w, decodeTableWord nbits w ≠ some i

theorem letterboxDoorbell (data : Nat) : Statement (.letterboxDoorbell data) := fun _ _ h => nomatch h
theorem enable (q : Nat) : Statement (.enable q) := fun _ _ h => nomatch h
theorem disable (q : Nat) : Statement (.disable q) := fun _ _ h => nomatch h
theorem resume (q : Nat) : Statement (.resume q) := fun _ _ h => nomatch h
theorem flush (q : Nat) : Statement (.flush q) := fun _ _ h => nomatch h
theorem header (q : Nat) : Statement (.header q) := fun _ _ h => nomatch h
theorem frontProduct (q : Nat) : Statement (.frontProduct q) := fun _ _ h => nomatch h
theorem backProduct (q : Nat) : Statement (.backProduct q) := fun _ _ h => nomatch h
theorem copyConvert (q : Nat) : Statement (.copyConvert q) := fun _ _ h => nomatch h
theorem copyTranspose (q : Nat) : Statement (.copyTranspose q) := fun _ _ h => nomatch h
theorem marker (q : Nat) : Statement (.marker q) := fun _ _ h => nomatch h
theorem decodeGatherTimeout : Statement (.decodeGatherTimeout) := fun _ _ h => nomatch h
theorem letterStart (station : Nat) (fill : Nat) : Statement (.letterStart station fill) := fun _ _ h => nomatch h
theorem segmentEnd (back : Bool) (row : Nat) (col : Nat) (ecc : Nat) : Statement (.segmentEnd back row col ecc) := fun _ _ h => nomatch h
theorem flushHoldRelease (back : Bool) (cycles : Nat) : Statement (.flushHoldRelease back cycles) := fun _ _ h => nomatch h
theorem tileDone (read : DrainRead) (cycles : Nat) (starve : Nat) : Statement (.tileDone read cycles starve) := fun _ _ h => nomatch h
theorem passDone (read : DrainRead) : Statement (.passDone read) := fun _ _ h => nomatch h
theorem tileConversionEnd (read : PathRead) : Statement (.tileConversionEnd read) := fun _ _ h => nomatch h
theorem kvWaitTimeout (path : Nat) : Statement (.kvWaitTimeout path) := fun _ _ h => nomatch h
theorem letterCompletion (q : Nat) (seq : Nat) : Statement (.letterCompletion q seq) := fun _ _ h => nomatch h
theorem letterboxNotifyAck (w : Option Machine.Way) (n : Nat) : Statement (.letterboxNotifyAck w n) := fun _ _ h => nomatch h
theorem reservedRoute (q : Nat) : Statement (.reservedRoute q) := fun _ _ h => nomatch h
theorem memoryPortGrant (port : Nat) : Statement (.memoryPortGrant port) := fun _ _ h => nomatch h
theorem burstArrival (thread : Nat) (taken : Nat) (ecc : Nat) (sec : Nat) : Statement (.burstArrival thread taken ecc sec) := fun _ _ h => nomatch h
theorem softmaxBlock (q : Nat) : Statement (.softmaxBlock q) := fun _ _ h => nomatch h
theorem softmaxFinish (q : Nat) : Statement (.softmaxFinish q) := fun _ _ h => nomatch h
theorem attnCombine (q : Nat) : Statement (.attnCombine q) := fun _ _ h => nomatch h
theorem softmaxBwd (q : Nat) : Statement (.softmaxBwd q) := fun _ _ h => nomatch h
theorem rmsnorm (q : Nat) : Statement (.rmsnorm q) := fun _ _ h => nomatch h
theorem rmsnormBwd (q : Nat) : Statement (.rmsnormBwd q) := fun _ _ h => nomatch h
theorem layernorm (q : Nat) : Statement (.layernorm q) := fun _ _ h => nomatch h
theorem gatedSilu (q : Nat) : Statement (.gatedSilu q) := fun _ _ h => nomatch h
theorem gatedSiluBwd (q : Nat) : Statement (.gatedSiluBwd q) := fun _ _ h => nomatch h
theorem ewAxpby (q : Nat) : Statement (.ewAxpby q) := fun _ _ h => nomatch h
theorem toppSelect (q : Nat) : Statement (.toppSelect q) := fun _ _ h => nomatch h
theorem librarySpecificProgram (q : Nat) : Statement (.librarySpecificProgram q) := fun _ _ h => nomatch h
theorem workshopTileDone (slot : Nat) (ecc : Nat) : Statement (.workshopTileDone slot ecc) := fun _ _ h => nomatch h
theorem outlierProductsDone (back : Bool) (wait : Nat) : Statement (.outlierProductsDone back wait) := fun _ _ h => nomatch h
theorem benchWatchdog (row : BenchRow) : Statement (.benchWatchdog row) := fun _ _ h => nomatch h
theorem benchTrap (bench : Nat) : Statement (.benchTrap bench) := fun _ _ h => nomatch h
theorem wsLibLoad (w : Machine.Way) (data : List Byte) : Statement (.wsLibLoad w data) := fun _ _ h => nomatch h
theorem libInstallDone : Statement (.libInstallDone) := fun _ _ h => nomatch h
theorem outlierReservationApply : Statement (.outlierReservationApply) := fun _ _ h => nomatch h
theorem openUpdate (q : Nat) : Statement (.openUpdate q) := fun _ _ h => nomatch h
theorem piece (q : Nat) : Statement (.piece q) := fun _ _ h => nomatch h
theorem close (q : Nat) : Statement (.close q) := fun _ _ h => nomatch h
theorem quant (q : Nat) : Statement (.quant q) := fun _ _ h => nomatch h
theorem gzUnknownProg (q : Nat) : Statement (.gzUnknownProg q) := fun _ _ h => nomatch h
theorem grainDone (core : Nat) (cycles : Nat) (mem : Nat) : Statement (.grainDone core cycles mem) := fun _ _ h => nomatch h
theorem add (core : Nat) : Statement (.add core) := fun _ _ h => nomatch h
theorem sub (core : Nat) : Statement (.sub core) := fun _ _ h => nomatch h
theorem mul (core : Nat) : Statement (.mul core) := fun _ _ h => nomatch h
theorem fma (core : Nat) : Statement (.fma core) := fun _ _ h => nomatch h
theorem lerp (core : Nat) : Statement (.lerp core) := fun _ _ h => nomatch h
theorem min (core : Nat) : Statement (.min core) := fun _ _ h => nomatch h
theorem max (core : Nat) : Statement (.max core) := fun _ _ h => nomatch h
theorem abs (core : Nat) : Statement (.abs core) := fun _ _ h => nomatch h
theorem div (core : Nat) : Statement (.div core) := fun _ _ h => nomatch h
theorem sqrt (core : Nat) : Statement (.sqrt core) := fun _ _ h => nomatch h
theorem sel (core : Nat) : Statement (.sel core) := fun _ _ h => nomatch h
theorem ld (read : GrainRead) : Statement (.ld read) := fun _ _ h => nomatch h
theorem st (core : Nat) : Statement (.st core) := fun _ _ h => nomatch h
theorem cvtsr (core : Nat) : Statement (.cvtsr core) := fun _ _ h => nomatch h
theorem cvtbf (core : Nat) : Statement (.cvtbf core) := fun _ _ h => nomatch h
theorem spowi (core : Nat) : Statement (.spowi core) := fun _ _ h => nomatch h
theorem body (core : Nat) : Statement (.body core) := fun _ _ h => nomatch h
theorem commit (core : Nat) : Statement (.commit core) := fun _ _ h => nomatch h
theorem glaziaRuleLoad (w : Machine.Way) (data : List Byte) : Statement (.glaziaRuleLoad w data) := fun _ _ h => nomatch h
theorem reduceScatter (q : Nat) : Statement (.reduceScatter q) := fun _ _ h => nomatch h
theorem allGather (q : Nat) : Statement (.allGather q) := fun _ _ h => nomatch h
theorem broadcast (q : Nat) : Statement (.broadcast q) := fun _ _ h => nomatch h
theorem allToAll (q : Nat) : Statement (.allToAll q) := fun _ _ h => nomatch h
theorem ringRoundStart (slot : Nat) : Statement (.ringRoundStart slot) := fun _ _ h => nomatch h
theorem contrib (port : Nat) (head : Nat) (payload : List Byte) (poison : Bool) : Statement (.contrib port head payload poison) := fun _ _ h => nomatch h
theorem part (port : Nat) (head : Nat) (payload : List Byte) (poison : Bool) : Statement (.part port head payload poison) := fun _ _ h => nomatch h
theorem lateFrame (port : Nat) (head : Nat) (payload : List Byte) (poison : Bool) : Statement (.lateFrame port head payload poison) := fun _ _ h => nomatch h
theorem credit (port : Nat) (head : Nat) : Statement (.credit port head) := fun _ _ h => nomatch h
theorem notice (port : Nat) (head : Nat) : Statement (.notice port head) := fun _ _ h => nomatch h
theorem chunkDeadline (slot : Nat) (owner : Nat) (chunk : Nat) (level : Nat) : Statement (.chunkDeadline slot owner chunk level) := fun _ _ h => nomatch h
theorem tagDiscard (slot : Nat) : Statement (.tagDiscard slot) := fun _ _ h => nomatch h
theorem uioTimeout (g : Nat) (m : Nat) : Statement (.uioTimeout g m) := fun _ _ h => nomatch h
theorem uioCompletionError (g : Nat) (m : Nat) : Statement (.uioCompletionError g m) := fun _ _ h => nomatch h
theorem rejoin (w : Machine.Way) (g : Nat) (m : Nat) : Statement (.rejoin w g m) := fun _ _ h => nomatch h
theorem clearMisses (w : Machine.Way) (g : Nat) (m : Nat) : Statement (.clearMisses w g m) := fun _ _ h => nomatch h
theorem exportAutoStart (guest : Nat) : Statement (.exportAutoStart guest) := fun _ _ h => nomatch h
theorem exportBank (q : Nat) (guest : Nat) : Statement (.exportBank q guest) := fun _ _ h => nomatch h
theorem guestSend (q : Nat) : Statement (.guestSend q) := fun _ _ h => nomatch h
theorem exportFrame (port : Nat) (head : Nat) (payload : List Byte) (poison : List Nat) : Statement (.exportFrame port head payload poison) := fun _ _ h => nomatch h
theorem restoreStream (port : Nat) (head : Nat) (payload : List Byte) (poison : List Nat) : Statement (.restoreStream port head payload poison) := fun _ _ h => nomatch h
theorem exportAck (port : Nat) (head : Nat) : Statement (.exportAck port head) := fun _ _ h => nomatch h
theorem share (w : Option Machine.Way) (lo : Nat) (hi : Nat) : Statement (.share w lo hi) := fun _ _ h => nomatch h
theorem free (w : Option Machine.Way) (lo : Nat) (hi : Nat) : Statement (.free w lo hi) := fun _ _ h => nomatch h
theorem pageCmdLo (lo : Nat) : Statement (.pageCmdLo lo) := fun _ _ h => nomatch h
theorem hello (peer : Nat) (msg : List Byte) : Statement (.hello peer msg) := fun _ _ h => nomatch h
theorem authStart (peer : Nat) (msg : List Byte) : Statement (.authStart peer msg) := fun _ _ h => nomatch h
theorem authProof (peer : Nat) (msg : List Byte) : Statement (.authProof peer msg) := fun _ _ h => nomatch h
theorem authEnd (peer : Nat) (msg : List Byte) : Statement (.authEnd peer msg) := fun _ _ h => nomatch h
theorem read (peer : Nat) (msg : List Byte) : Statement (.read peer msg) := fun _ _ h => nomatch h
theorem write (peer : Nat) (msg : List Byte) : Statement (.write peer msg) := fun _ _ h => nomatch h
theorem blockRead (peer : Nat) (msg : List Byte) : Statement (.blockRead peer msg) := fun _ _ h => nomatch h
theorem blockWriteBegin (peer : Nat) (msg : List Byte) : Statement (.blockWriteBegin peer msg) := fun _ _ h => nomatch h
theorem blockWriteSegment (peer : Nat) (msg : List Byte) : Statement (.blockWriteSegment peer msg) := fun _ _ h => nomatch h
theorem blockWriteEnd (peer : Nat) (msg : List Byte) : Statement (.blockWriteEnd peer msg) := fun _ _ h => nomatch h
theorem snapshot (peer : Nat) (msg : List Byte) : Statement (.snapshot peer msg) := fun _ _ h => nomatch h
theorem notify (n : Nat) : Statement (.notify n) := fun _ _ h => nomatch h
theorem notifyRepeat (n : Nat) : Statement (.notifyRepeat n) := fun _ _ h => nomatch h
theorem authStartTimeout (sid : Nat) : Statement (.authStartTimeout sid) := fun _ _ h => nomatch h
theorem authLockoutEnd (peer : Nat) : Statement (.authLockoutEnd peer) := fun _ _ h => nomatch h
theorem sessionIdleTimeout (sid : Nat) : Statement (.sessionIdleTimeout sid) := fun _ _ h => nomatch h
theorem blockTimeout (idx : Nat) (subIdx : Nat) : Statement (.blockTimeout idx subIdx) := fun _ _ h => nomatch h
theorem blockReadCopyExpiry (idx : Nat) (subIdx : Nat) (peer : Option Nat) : Statement (.blockReadCopyExpiry idx subIdx peer) := fun _ _ h => nomatch h
theorem plcaFallback : Statement (.plcaFallback) := fun _ _ h => nomatch h
theorem neighbourSolicitation (peer : Nat) (target : Nat) : Statement (.neighbourSolicitation peer target) := fun _ _ h => nomatch h
theorem odRead (payload : List Byte) : Statement (.odRead payload) := fun _ _ h => nomatch h
theorem odWrite (payload : List Byte) : Statement (.odWrite payload) := fun _ _ h => nomatch h
theorem odBlockRead (payload : List Byte) : Statement (.odBlockRead payload) := fun _ _ h => nomatch h
theorem odBlockWrite (payload : List Byte) : Statement (.odBlockWrite payload) := fun _ _ h => nomatch h
theorem odSnapshot (payload : List Byte) : Statement (.odSnapshot payload) := fun _ _ h => nomatch h
theorem odAuth (payload : List Byte) : Statement (.odAuth payload) := fun _ _ h => nomatch h
theorem tandemSwap (w : Machine.Way) (data : List Byte) : Statement (.tandemSwap w data) := fun _ _ h => nomatch h
theorem swapPoint : Statement (.swapPoint) := fun _ _ h => nomatch h
theorem tandemCopy (w : Machine.Way) (data : List Byte) : Statement (.tandemCopy w data) := fun _ _ h => nomatch h
theorem calUsrCommit (w : Machine.Way) (data : List Byte) : Statement (.calUsrCommit w data) := fun _ _ h => nomatch h
theorem calCommitEnd : Statement (.calCommitEnd) := fun _ _ h => nomatch h
theorem calUsrRetrain (w : Machine.Way) (data : List Byte) : Statement (.calUsrRetrain w data) := fun _ _ h => nomatch h
theorem recipeRingTail (w : Machine.Way) (data : List Byte) : Statement (.recipeRingTail w data) := fun _ _ h => nomatch h
theorem gradQuarTail (w : Machine.Way) (data : List Byte) : Statement (.gradQuarTail w data) := fun _ _ h => nomatch h
theorem cellarBankCurrent (w : Machine.Way) (data : List Byte) : Statement (.cellarBankCurrent w data) := fun _ _ h => nomatch h
theorem objectWrite (w : Machine.Way) (idx : Nat) (subIdx : Nat) (data : List Byte) : Statement (.objectWrite w idx subIdx data) := fun _ _ h => nomatch h
theorem clkPllSrc (w : Machine.Way) (pll : Nat) (data : List Byte) : Statement (.clkPllSrc w pll data) := fun _ _ h => nomatch h
theorem clkEnable (w : Machine.Way) (data : List Byte) : Statement (.clkEnable w data) := fun _ _ h => nomatch h
theorem xtalGate (count : Nat) : Statement (.xtalGate count) := fun _ _ h => nomatch h
theorem refclkGate (clock : Nat) (count : Nat) : Statement (.refclkGate clock count) := fun _ _ h => nomatch h
theorem xtalMonitorGate (count : Nat) : Statement (.xtalMonitorGate count) := fun _ _ h => nomatch h
theorem xtalEdgeMissing : Statement (.xtalEdgeMissing) := fun _ _ h => nomatch h
theorem xtalJudgeTimeout : Statement (.xtalJudgeTimeout) := fun _ _ h => nomatch h
theorem freewheel (pll : Nat) : Statement (.freewheel pll) := fun _ _ h => nomatch h
theorem clkFailoverSwitch (pll : Nat) : Statement (.clkFailoverSwitch pll) := fun _ _ h => nomatch h
theorem pllLocked (pll : Nat) : Statement (.pllLocked pll) := fun _ _ h => nomatch h
theorem clkIdleTimeout (station : Nat) : Statement (.clkIdleTimeout station) := fun _ _ h => nomatch h
theorem thermalSample (raw : List Int) : Statement (.thermalSample raw) := fun _ _ h => nomatch h
theorem powerMeterSample (raw : List Nat) (input : Nat) : Statement (.powerMeterSample raw input) := fun _ _ h => nomatch h
theorem thermtrip : Statement (.thermtrip) := fun _ _ h => nomatch h
theorem pwrHkIdle : Statement (.pwrHkIdle) := fun _ _ h => nomatch h
theorem pilot (w : Machine.Way) : Statement (.pilot w) := fun _ _ h => nomatch h
theorem housekeeping (w : Machine.Way) : Statement (.housekeeping w) := fun _ _ h => nomatch h
theorem service (w : Machine.Way) : Statement (.service w) := fun _ _ h => nomatch h
theorem wakeToService (stations : List Nat) : Statement (.wakeToService stations) := fun _ _ h => nomatch h
theorem pilotWake (cause : Nat) : Statement (.pilotWake cause) := fun _ _ h => nomatch h
theorem regulatorStart : Statement (.regulatorStart) := fun _ _ h => nomatch h
theorem bs0Entry : Statement (.bs0Entry) := fun _ _ h => nomatch h
theorem bs1Entry : Statement (.bs1Entry) := fun _ _ h => nomatch h
theorem bringupGo (w : Machine.Way) (data : List Byte) : Statement (.bringupGo w data) := fun _ _ h => nomatch h
theorem bs2Entry (atticFail : Bool) (cellarFail : Bool) : Statement (.bs2Entry atticFail cellarFail) := fun _ _ h => nomatch h
theorem bs3Entry (frontBad : Bool) (backBad : Bool) (port1Bad : Bool) : Statement (.bs3Entry frontBad backBad port1Bad) := fun _ _ h => nomatch h
theorem full (w : Machine.Way) : Statement (.full w) := fun _ _ h => nomatch h
theorem keepHouse (w : Machine.Way) : Statement (.keepHouse w) := fun _ _ h => nomatch h
theorem keepHousePin : Statement (.keepHousePin) := fun _ _ h => nomatch h
theorem keepHouseResetBegin : Statement (.keepHouseResetBegin) := fun _ _ h => nomatch h
theorem keepHouseRise : Statement (.keepHouseRise) := fun _ _ h => nomatch h
theorem coldStartBegin : Statement (.coldStartBegin) := fun _ _ h => nomatch h
theorem hartWatchdog (hart : Nat) : Statement (.hartWatchdog hart) := fun _ _ h => nomatch h
theorem mainInputFault : Statement (.mainInputFault) := fun _ _ h => nomatch h
theorem pwrEnFall : Statement (.pwrEnFall) := fun _ _ h => nomatch h
theorem auxInputFault : Statement (.auxInputFault) := fun _ _ h => nomatch h
theorem auxPowerOn (plca : Nat) : Statement (.auxPowerOn plca) := fun _ _ h => nomatch h
theorem bellClear (w : Machine.Way) (data : List Byte) : Statement (.bellClear w data) := fun _ _ h => nomatch h
theorem bellAck (w : Option Machine.Way) (v : Nat) : Statement (.bellAck w v) := fun _ _ h => nomatch h
theorem bellRoute (w : Machine.Way) (n : Nat) (data : List Byte) : Statement (.bellRoute w n data) := fun _ _ h => nomatch h
theorem bellVector (w : Machine.Way) (v : Nat) (data : List Byte) : Statement (.bellVector w v data) := fun _ _ h => nomatch h
theorem bellGlobalEn (w : Machine.Way) (data : List Byte) : Statement (.bellGlobalEn w data) := fun _ _ h => nomatch h
theorem bellDeliver (target : Nat) : Statement (.bellDeliver target) := fun _ _ h => nomatch h
theorem msixUnmask (v : Nat) : Statement (.msixUnmask v) := fun _ _ h => nomatch h
theorem meterSnap (w : Machine.Way) (data : List Byte) : Statement (.meterSnap w data) := fun _ _ h => nomatch h
theorem snapshotEdge : Statement (.snapshotEdge) := fun _ _ h => nomatch h
theorem linkTrained (port : Nat) (width : Nat) (rate : Nat) : Statement (.linkTrained port width rate) := fun _ _ h => nomatch h
theorem linkRetry (port : Nat) : Statement (.linkRetry port) := fun _ _ h => nomatch h
theorem linkDown (port : Nat) : Statement (.linkDown port) := fun _ _ h => nomatch h
theorem perstAssert (port : Nat) : Statement (.perstAssert port) := fun _ _ h => nomatch h
theorem perstDeassert (port : Nat) : Statement (.perstDeassert port) := fun _ _ h => nomatch h
theorem ideIntegrityFail (port : Nat) : Statement (.ideIntegrityFail port) := fun _ _ h => nomatch h
theorem inboundWrite (port : Nat) (path : Nat) (addr : Nat) (data : List Byte) (poison : Bool) : Statement (.inboundWrite port path addr data poison) := fun _ _ h => nomatch h
theorem inboundRead (port : Nat) (path : Nat) (addr : Nat) (len : Nat) : Statement (.inboundRead port path addr len) := fun _ _ h => nomatch h
theorem bisnpResponse (line : Nat) : Statement (.bisnpResponse line) := fun _ _ h => nomatch h
theorem spdmRequest (path : Nat) (req : List Byte) (keyed : Bool) : Statement (.spdmRequest path req keyed) := fun _ _ h => nomatch h
theorem secSvnCommit (w : Machine.Way) (data : List Byte) : Statement (.secSvnCommit w data) := fun _ _ h => nomatch h
theorem secFwCommit (w : Machine.Way) (data : List Byte) : Statement (.secFwCommit w data) := fun _ _ h => nomatch h
theorem fwWriteDone : Statement (.fwWriteDone) := fun _ _ h => nomatch h
theorem secOwnerKeyNext (w : Machine.Way) (data : List Byte) : Statement (.secOwnerKeyNext w data) := fun _ _ h => nomatch h
theorem secDebugUnlock (w : Machine.Way) (token : List Byte) : Statement (.secDebugUnlock w token) := fun _ _ h => nomatch h
theorem recoveryLoad (images : List Byte) : Statement (.recoveryLoad images) := fun _ _ h => nomatch h
theorem extest (which : Nat) (pins : Nat) : Statement (.extest which pins) := fun _ _ h => nomatch h
theorem tapReset : Statement (.tapReset) := fun _ _ h => nomatch h
theorem patrolScrub (ceAttic : Nat) (ceCellar : Nat) (ueAttic : List Nat) (ueCellar : List Nat) : Statement (.patrolScrub ceAttic ceCellar ueAttic ueCellar) := fun _ _ h => nomatch h

end Sys2Proof.Laws.NoWord
end

