-- ==== Sys2Proof/Laws/State.lean ====
section
/-! SUPPORT. One lemma per field per basic update of State, so that no later proof unfolds a record update, and what each
update does to the readings that the rules speak of. -/

namespace Sys2Proof.Machine.State

/-! ### count -/

@[simp] theorem count_pending (s : State) (u n : Nat) : (s.count u n).pending = s.pending := rfl
@[simp] theorem count_attic (s : State) (u n : Nat) : (s.count u n).attic = s.attic := rfl
@[simp] theorem count_cellar (s : State) (u n : Nat) : (s.count u n).cellar = s.cellar := rfl
@[simp] theorem count_larder (s : State) (u n : Nat) : (s.count u n).larder = s.larder := rfl
@[simp] theorem count_host (s : State) (u n : Nat) : (s.count u n).host = s.host := rfl
@[simp] theorem count_od (s : State) (u n : Nat) : (s.count u n).od = s.od := rfl
@[simp] theorem count_captain (s : State) (u n : Nat) : (s.count u n).captain = s.captain := rfl
@[simp] theorem count_stoker (s : State) (u n : Nat) : (s.count u n).stoker = s.stoker := rfl
@[simp] theorem count_domains (s : State) (u n : Nat) : (s.count u n).domains = s.domains := rfl
@[simp] theorem count_tick (s : State) (u n : Nat) : (s.count u n).tick = s.tick := rfl
@[simp] theorem count_freeCtr (s : State) (u n : Nat) : (s.count u n).freeCtr = s.freeCtr := rfl
@[simp] theorem count_sent (s : State) (u n : Nat) : (s.count u n).sent = s.sent := rfl
@[simp] theorem count_lb (s : State) (u n : Nat) : (s.count u n).lb = s.lb := rfl
@[simp] theorem count_rooms (s : State) (u n : Nat) : (s.count u n).rooms = s.rooms := rfl
@[simp] theorem count_porch (s : State) (u n : Nat) : (s.count u n).porch = s.porch := rfl
@[simp] theorem count_ws (s : State) (u n : Nat) : (s.count u n).ws = s.ws := rfl
@[simp] theorem count_bell (s : State) (u n : Nat) : (s.count u n).bell = s.bell := rfl
@[simp] theorem count_gz (s : State) (u n : Nat) : (s.count u n).gz = s.gz := rfl
@[simp] theorem count_ex (s : State) (u n : Nat) : (s.count u n).ex = s.ex := rfl
@[simp] theorem count_pel (s : State) (u n : Nat) : (s.count u n).pel = s.pel := rfl
@[simp] theorem count_dict (s : State) (u n : Nat) : (s.count u n).dict = s.dict := rfl
@[simp] theorem count_mtr (s : State) (u n : Nat) : (s.count u n).mtr = s.mtr := rfl
@[simp] theorem count_pwr (s : State) (u n : Nat) : (s.count u n).pwr = s.pwr := rfl
@[simp] theorem count_cxl (s : State) (u n : Nat) : (s.count u n).cxl = s.cxl := rfl
@[simp] theorem count_sec (s : State) (u n : Nat) : (s.count u n).sec = s.sec := rfl
@[simp] theorem count_tap (s : State) (u n : Nat) : (s.count u n).tap = s.tap := rfl
@[simp] theorem count_odv (s : State) (u n : Nat) (j : Nat) : (s.count u n).odv j = s.odv j := rfl
@[simp] theorem count_cap (s : State) (u n : Nat) (j : Nat) : (s.count u n).cap j = s.cap j := rfl
@[simp] theorem count_queue (s : State) (u n : Nat) (j : Nat) : (s.count u n).queue? j = s.queue? j := rfl
@[simp] theorem count_mem (s : State) (u n : Nat) (sp : Space) : (s.count u n).mem sp = s.mem sp := by cases sp <;> rfl

/-! ### setOd -/

@[simp] theorem setOd_pending (s : State) (k v : Nat) : (s.setOd k v).pending = s.pending := rfl
@[simp] theorem setOd_attic (s : State) (k v : Nat) : (s.setOd k v).attic = s.attic := rfl
@[simp] theorem setOd_cellar (s : State) (k v : Nat) : (s.setOd k v).cellar = s.cellar := rfl
@[simp] theorem setOd_larder (s : State) (k v : Nat) : (s.setOd k v).larder = s.larder := rfl
@[simp] theorem setOd_host (s : State) (k v : Nat) : (s.setOd k v).host = s.host := rfl
@[simp] theorem setOd_captain (s : State) (k v : Nat) : (s.setOd k v).captain = s.captain := rfl
@[simp] theorem setOd_stoker (s : State) (k v : Nat) : (s.setOd k v).stoker = s.stoker := rfl
@[simp] theorem setOd_domains (s : State) (k v : Nat) : (s.setOd k v).domains = s.domains := rfl
@[simp] theorem setOd_meter (s : State) (k v : Nat) : (s.setOd k v).meter = s.meter := rfl
@[simp] theorem setOd_tick (s : State) (k v : Nat) : (s.setOd k v).tick = s.tick := rfl
@[simp] theorem setOd_freeCtr (s : State) (k v : Nat) : (s.setOd k v).freeCtr = s.freeCtr := rfl
@[simp] theorem setOd_sent (s : State) (k v : Nat) : (s.setOd k v).sent = s.sent := rfl
@[simp] theorem setOd_lb (s : State) (k v : Nat) : (s.setOd k v).lb = s.lb := rfl
@[simp] theorem setOd_rooms (s : State) (k v : Nat) : (s.setOd k v).rooms = s.rooms := rfl
@[simp] theorem setOd_porch (s : State) (k v : Nat) : (s.setOd k v).porch = s.porch := rfl
@[simp] theorem setOd_ws (s : State) (k v : Nat) : (s.setOd k v).ws = s.ws := rfl
@[simp] theorem setOd_bell (s : State) (k v : Nat) : (s.setOd k v).bell = s.bell := rfl
@[simp] theorem setOd_gz (s : State) (k v : Nat) : (s.setOd k v).gz = s.gz := rfl
@[simp] theorem setOd_ex (s : State) (k v : Nat) : (s.setOd k v).ex = s.ex := rfl
@[simp] theorem setOd_pel (s : State) (k v : Nat) : (s.setOd k v).pel = s.pel := rfl
@[simp] theorem setOd_dict (s : State) (k v : Nat) : (s.setOd k v).dict = s.dict := rfl
@[simp] theorem setOd_mtr (s : State) (k v : Nat) : (s.setOd k v).mtr = s.mtr := rfl
@[simp] theorem setOd_pwr (s : State) (k v : Nat) : (s.setOd k v).pwr = s.pwr := rfl
@[simp] theorem setOd_cxl (s : State) (k v : Nat) : (s.setOd k v).cxl = s.cxl := rfl
@[simp] theorem setOd_sec (s : State) (k v : Nat) : (s.setOd k v).sec = s.sec := rfl
@[simp] theorem setOd_tap (s : State) (k v : Nat) : (s.setOd k v).tap = s.tap := rfl
@[simp] theorem setOd_cap (s : State) (k v : Nat) (j : Nat) : (s.setOd k v).cap j = s.cap j := rfl
@[simp] theorem setOd_ctr (s : State) (k v : Nat) (j : Nat) : (s.setOd k v).ctr j = s.ctr j := rfl
@[simp] theorem setOd_queue (s : State) (k v : Nat) (j : Nat) : (s.setOd k v).queue? j = s.queue? j := rfl
@[simp] theorem setOd_mem (s : State) (k v : Nat) (sp : Space) : (s.setOd k v).mem sp = s.mem sp := by cases sp <;> rfl

/-! ### setCap -/

@[simp] theorem setCap_pending (s : State) (k v : Nat) : (s.setCap k v).pending = s.pending := rfl
@[simp] theorem setCap_attic (s : State) (k v : Nat) : (s.setCap k v).attic = s.attic := rfl
@[simp] theorem setCap_cellar (s : State) (k v : Nat) : (s.setCap k v).cellar = s.cellar := rfl
@[simp] theorem setCap_larder (s : State) (k v : Nat) : (s.setCap k v).larder = s.larder := rfl
@[simp] theorem setCap_host (s : State) (k v : Nat) : (s.setCap k v).host = s.host := rfl
@[simp] theorem setCap_od (s : State) (k v : Nat) : (s.setCap k v).od = s.od := rfl
@[simp] theorem setCap_stoker (s : State) (k v : Nat) : (s.setCap k v).stoker = s.stoker := rfl
@[simp] theorem setCap_domains (s : State) (k v : Nat) : (s.setCap k v).domains = s.domains := rfl
@[simp] theorem setCap_meter (s : State) (k v : Nat) : (s.setCap k v).meter = s.meter := rfl
@[simp] theorem setCap_tick (s : State) (k v : Nat) : (s.setCap k v).tick = s.tick := rfl
@[simp] theorem setCap_freeCtr (s : State) (k v : Nat) : (s.setCap k v).freeCtr = s.freeCtr := rfl
@[simp] theorem setCap_sent (s : State) (k v : Nat) : (s.setCap k v).sent = s.sent := rfl
@[simp] theorem setCap_lb (s : State) (k v : Nat) : (s.setCap k v).lb = s.lb := rfl
@[simp] theorem setCap_rooms (s : State) (k v : Nat) : (s.setCap k v).rooms = s.rooms := rfl
@[simp] theorem setCap_porch (s : State) (k v : Nat) : (s.setCap k v).porch = s.porch := rfl
@[simp] theorem setCap_ws (s : State) (k v : Nat) : (s.setCap k v).ws = s.ws := rfl
@[simp] theorem setCap_bell (s : State) (k v : Nat) : (s.setCap k v).bell = s.bell := rfl
@[simp] theorem setCap_gz (s : State) (k v : Nat) : (s.setCap k v).gz = s.gz := rfl
@[simp] theorem setCap_ex (s : State) (k v : Nat) : (s.setCap k v).ex = s.ex := rfl
@[simp] theorem setCap_pel (s : State) (k v : Nat) : (s.setCap k v).pel = s.pel := rfl
@[simp] theorem setCap_dict (s : State) (k v : Nat) : (s.setCap k v).dict = s.dict := rfl
@[simp] theorem setCap_mtr (s : State) (k v : Nat) : (s.setCap k v).mtr = s.mtr := rfl
@[simp] theorem setCap_pwr (s : State) (k v : Nat) : (s.setCap k v).pwr = s.pwr := rfl
@[simp] theorem setCap_cxl (s : State) (k v : Nat) : (s.setCap k v).cxl = s.cxl := rfl
@[simp] theorem setCap_sec (s : State) (k v : Nat) : (s.setCap k v).sec = s.sec := rfl
@[simp] theorem setCap_tap (s : State) (k v : Nat) : (s.setCap k v).tap = s.tap := rfl
@[simp] theorem setCap_odv (s : State) (k v : Nat) (j : Nat) : (s.setCap k v).odv j = s.odv j := rfl
@[simp] theorem setCap_ctr (s : State) (k v : Nat) (j : Nat) : (s.setCap k v).ctr j = s.ctr j := rfl
@[simp] theorem setCap_queue (s : State) (k v : Nat) (j : Nat) : (s.setCap k v).queue? j = s.queue? j := rfl
@[simp] theorem setCap_mem (s : State) (k v : Nat) (sp : Space) : (s.setCap k v).mem sp = s.mem sp := by cases sp <;> rfl

/-! ### setStk -/

@[simp] theorem setStk_pending (s : State) (k v : Nat) : (s.setStk k v).pending = s.pending := rfl
@[simp] theorem setStk_attic (s : State) (k v : Nat) : (s.setStk k v).attic = s.attic := rfl
@[simp] theorem setStk_cellar (s : State) (k v : Nat) : (s.setStk k v).cellar = s.cellar := rfl
@[simp] theorem setStk_larder (s : State) (k v : Nat) : (s.setStk k v).larder = s.larder := rfl
@[simp] theorem setStk_host (s : State) (k v : Nat) : (s.setStk k v).host = s.host := rfl
@[simp] theorem setStk_od (s : State) (k v : Nat) : (s.setStk k v).od = s.od := rfl
@[simp] theorem setStk_captain (s : State) (k v : Nat) : (s.setStk k v).captain = s.captain := rfl
@[simp] theorem setStk_domains (s : State) (k v : Nat) : (s.setStk k v).domains = s.domains := rfl
@[simp] theorem setStk_meter (s : State) (k v : Nat) : (s.setStk k v).meter = s.meter := rfl
@[simp] theorem setStk_tick (s : State) (k v : Nat) : (s.setStk k v).tick = s.tick := rfl
@[simp] theorem setStk_freeCtr (s : State) (k v : Nat) : (s.setStk k v).freeCtr = s.freeCtr := rfl
@[simp] theorem setStk_sent (s : State) (k v : Nat) : (s.setStk k v).sent = s.sent := rfl
@[simp] theorem setStk_lb (s : State) (k v : Nat) : (s.setStk k v).lb = s.lb := rfl
@[simp] theorem setStk_rooms (s : State) (k v : Nat) : (s.setStk k v).rooms = s.rooms := rfl
@[simp] theorem setStk_porch (s : State) (k v : Nat) : (s.setStk k v).porch = s.porch := rfl
@[simp] theorem setStk_ws (s : State) (k v : Nat) : (s.setStk k v).ws = s.ws := rfl
@[simp] theorem setStk_bell (s : State) (k v : Nat) : (s.setStk k v).bell = s.bell := rfl
@[simp] theorem setStk_gz (s : State) (k v : Nat) : (s.setStk k v).gz = s.gz := rfl
@[simp] theorem setStk_ex (s : State) (k v : Nat) : (s.setStk k v).ex = s.ex := rfl
@[simp] theorem setStk_pel (s : State) (k v : Nat) : (s.setStk k v).pel = s.pel := rfl
@[simp] theorem setStk_dict (s : State) (k v : Nat) : (s.setStk k v).dict = s.dict := rfl
@[simp] theorem setStk_mtr (s : State) (k v : Nat) : (s.setStk k v).mtr = s.mtr := rfl
@[simp] theorem setStk_pwr (s : State) (k v : Nat) : (s.setStk k v).pwr = s.pwr := rfl
@[simp] theorem setStk_cxl (s : State) (k v : Nat) : (s.setStk k v).cxl = s.cxl := rfl
@[simp] theorem setStk_sec (s : State) (k v : Nat) : (s.setStk k v).sec = s.sec := rfl
@[simp] theorem setStk_tap (s : State) (k v : Nat) : (s.setStk k v).tap = s.tap := rfl
@[simp] theorem setStk_odv (s : State) (k v : Nat) (j : Nat) : (s.setStk k v).odv j = s.odv j := rfl
@[simp] theorem setStk_cap (s : State) (k v : Nat) (j : Nat) : (s.setStk k v).cap j = s.cap j := rfl
@[simp] theorem setStk_ctr (s : State) (k v : Nat) (j : Nat) : (s.setStk k v).ctr j = s.ctr j := rfl
@[simp] theorem setStk_queue (s : State) (k v : Nat) (j : Nat) : (s.setStk k v).queue? j = s.queue? j := rfl
@[simp] theorem setStk_mem (s : State) (k v : Nat) (sp : Space) : (s.setStk k v).mem sp = s.mem sp := by cases sp <;> rfl

/-! ### setDomain -/

@[simp] theorem setDomain_pending (s : State) (k : Nat) (b : List Byte) : (s.setDomain k b).pending = s.pending := rfl
@[simp] theorem setDomain_attic (s : State) (k : Nat) (b : List Byte) : (s.setDomain k b).attic = s.attic := rfl
@[simp] theorem setDomain_cellar (s : State) (k : Nat) (b : List Byte) : (s.setDomain k b).cellar = s.cellar := rfl
@[simp] theorem setDomain_larder (s : State) (k : Nat) (b : List Byte) : (s.setDomain k b).larder = s.larder := rfl
@[simp] theorem setDomain_host (s : State) (k : Nat) (b : List Byte) : (s.setDomain k b).host = s.host := rfl
@[simp] theorem setDomain_od (s : State) (k : Nat) (b : List Byte) : (s.setDomain k b).od = s.od := rfl
@[simp] theorem setDomain_captain (s : State) (k : Nat) (b : List Byte) : (s.setDomain k b).captain = s.captain := rfl
@[simp] theorem setDomain_stoker (s : State) (k : Nat) (b : List Byte) : (s.setDomain k b).stoker = s.stoker := rfl
@[simp] theorem setDomain_meter (s : State) (k : Nat) (b : List Byte) : (s.setDomain k b).meter = s.meter := rfl
@[simp] theorem setDomain_tick (s : State) (k : Nat) (b : List Byte) : (s.setDomain k b).tick = s.tick := rfl
@[simp] theorem setDomain_freeCtr (s : State) (k : Nat) (b : List Byte) : (s.setDomain k b).freeCtr = s.freeCtr := rfl
@[simp] theorem setDomain_sent (s : State) (k : Nat) (b : List Byte) : (s.setDomain k b).sent = s.sent := rfl
@[simp] theorem setDomain_lb (s : State) (k : Nat) (b : List Byte) : (s.setDomain k b).lb = s.lb := rfl
@[simp] theorem setDomain_rooms (s : State) (k : Nat) (b : List Byte) : (s.setDomain k b).rooms = s.rooms := rfl
@[simp] theorem setDomain_porch (s : State) (k : Nat) (b : List Byte) : (s.setDomain k b).porch = s.porch := rfl
@[simp] theorem setDomain_ws (s : State) (k : Nat) (b : List Byte) : (s.setDomain k b).ws = s.ws := rfl
@[simp] theorem setDomain_bell (s : State) (k : Nat) (b : List Byte) : (s.setDomain k b).bell = s.bell := rfl
@[simp] theorem setDomain_gz (s : State) (k : Nat) (b : List Byte) : (s.setDomain k b).gz = s.gz := rfl
@[simp] theorem setDomain_ex (s : State) (k : Nat) (b : List Byte) : (s.setDomain k b).ex = s.ex := rfl
@[simp] theorem setDomain_pel (s : State) (k : Nat) (b : List Byte) : (s.setDomain k b).pel = s.pel := rfl
@[simp] theorem setDomain_dict (s : State) (k : Nat) (b : List Byte) : (s.setDomain k b).dict = s.dict := rfl
@[simp] theorem setDomain_mtr (s : State) (k : Nat) (b : List Byte) : (s.setDomain k b).mtr = s.mtr := rfl
@[simp] theorem setDomain_pwr (s : State) (k : Nat) (b : List Byte) : (s.setDomain k b).pwr = s.pwr := rfl
@[simp] theorem setDomain_cxl (s : State) (k : Nat) (b : List Byte) : (s.setDomain k b).cxl = s.cxl := rfl
@[simp] theorem setDomain_sec (s : State) (k : Nat) (b : List Byte) : (s.setDomain k b).sec = s.sec := rfl
@[simp] theorem setDomain_tap (s : State) (k : Nat) (b : List Byte) : (s.setDomain k b).tap = s.tap := rfl
@[simp] theorem setDomain_odv (s : State) (k : Nat) (b : List Byte) (j : Nat) : (s.setDomain k b).odv j = s.odv j := rfl
@[simp] theorem setDomain_cap (s : State) (k : Nat) (b : List Byte) (j : Nat) : (s.setDomain k b).cap j = s.cap j := rfl
@[simp] theorem setDomain_ctr (s : State) (k : Nat) (b : List Byte) (j : Nat) : (s.setDomain k b).ctr j = s.ctr j := rfl
@[simp] theorem setDomain_queue (s : State) (k : Nat) (b : List Byte) (j : Nat) : (s.setDomain k b).queue? j = s.queue? j := rfl
@[simp] theorem setDomain_mem (s : State) (k : Nat) (b : List Byte) (sp : Space) : (s.setDomain k b).mem sp = s.mem sp := by cases sp <;> rfl

/-! ### send -/

@[simp] theorem send_pending (s : State) (m : Sent) : (s.send m).pending = s.pending := rfl
@[simp] theorem send_attic (s : State) (m : Sent) : (s.send m).attic = s.attic := rfl
@[simp] theorem send_cellar (s : State) (m : Sent) : (s.send m).cellar = s.cellar := rfl
@[simp] theorem send_larder (s : State) (m : Sent) : (s.send m).larder = s.larder := rfl
@[simp] theorem send_host (s : State) (m : Sent) : (s.send m).host = s.host := rfl
@[simp] theorem send_od (s : State) (m : Sent) : (s.send m).od = s.od := rfl
@[simp] theorem send_captain (s : State) (m : Sent) : (s.send m).captain = s.captain := rfl
@[simp] theorem send_stoker (s : State) (m : Sent) : (s.send m).stoker = s.stoker := rfl
@[simp] theorem send_domains (s : State) (m : Sent) : (s.send m).domains = s.domains := rfl
@[simp] theorem send_meter (s : State) (m : Sent) : (s.send m).meter = s.meter := rfl
@[simp] theorem send_tick (s : State) (m : Sent) : (s.send m).tick = s.tick := rfl
@[simp] theorem send_freeCtr (s : State) (m : Sent) : (s.send m).freeCtr = s.freeCtr := rfl
@[simp] theorem send_lb (s : State) (m : Sent) : (s.send m).lb = s.lb := rfl
@[simp] theorem send_rooms (s : State) (m : Sent) : (s.send m).rooms = s.rooms := rfl
@[simp] theorem send_porch (s : State) (m : Sent) : (s.send m).porch = s.porch := rfl
@[simp] theorem send_ws (s : State) (m : Sent) : (s.send m).ws = s.ws := rfl
@[simp] theorem send_bell (s : State) (m : Sent) : (s.send m).bell = s.bell := rfl
@[simp] theorem send_gz (s : State) (m : Sent) : (s.send m).gz = s.gz := rfl
@[simp] theorem send_ex (s : State) (m : Sent) : (s.send m).ex = s.ex := rfl
@[simp] theorem send_pel (s : State) (m : Sent) : (s.send m).pel = s.pel := rfl
@[simp] theorem send_dict (s : State) (m : Sent) : (s.send m).dict = s.dict := rfl
@[simp] theorem send_mtr (s : State) (m : Sent) : (s.send m).mtr = s.mtr := rfl
@[simp] theorem send_pwr (s : State) (m : Sent) : (s.send m).pwr = s.pwr := rfl
@[simp] theorem send_cxl (s : State) (m : Sent) : (s.send m).cxl = s.cxl := rfl
@[simp] theorem send_sec (s : State) (m : Sent) : (s.send m).sec = s.sec := rfl
@[simp] theorem send_tap (s : State) (m : Sent) : (s.send m).tap = s.tap := rfl
@[simp] theorem send_odv (s : State) (m : Sent) (j : Nat) : (s.send m).odv j = s.odv j := rfl
@[simp] theorem send_cap (s : State) (m : Sent) (j : Nat) : (s.send m).cap j = s.cap j := rfl
@[simp] theorem send_ctr (s : State) (m : Sent) (j : Nat) : (s.send m).ctr j = s.ctr j := rfl
@[simp] theorem send_queue (s : State) (m : Sent) (j : Nat) : (s.send m).queue? j = s.queue? j := rfl
@[simp] theorem send_mem (s : State) (m : Sent) (sp : Space) : (s.send m).mem sp = s.mem sp := by cases sp <;> rfl

/-! ### lower -/

@[simp] theorem lower_pending (s : State) (n : Nat) : (s.lower n).pending = s.pending := rfl
@[simp] theorem lower_attic (s : State) (n : Nat) : (s.lower n).attic = s.attic := rfl
@[simp] theorem lower_cellar (s : State) (n : Nat) : (s.lower n).cellar = s.cellar := rfl
@[simp] theorem lower_larder (s : State) (n : Nat) : (s.lower n).larder = s.larder := rfl
@[simp] theorem lower_host (s : State) (n : Nat) : (s.lower n).host = s.host := rfl
@[simp] theorem lower_od (s : State) (n : Nat) : (s.lower n).od = s.od := rfl
@[simp] theorem lower_captain (s : State) (n : Nat) : (s.lower n).captain = s.captain := rfl
@[simp] theorem lower_stoker (s : State) (n : Nat) : (s.lower n).stoker = s.stoker := rfl
@[simp] theorem lower_domains (s : State) (n : Nat) : (s.lower n).domains = s.domains := rfl
@[simp] theorem lower_meter (s : State) (n : Nat) : (s.lower n).meter = s.meter := rfl
@[simp] theorem lower_tick (s : State) (n : Nat) : (s.lower n).tick = s.tick := rfl
@[simp] theorem lower_freeCtr (s : State) (n : Nat) : (s.lower n).freeCtr = s.freeCtr := rfl
@[simp] theorem lower_sent (s : State) (n : Nat) : (s.lower n).sent = s.sent := rfl
@[simp] theorem lower_lb (s : State) (n : Nat) : (s.lower n).lb = s.lb := rfl
@[simp] theorem lower_rooms (s : State) (n : Nat) : (s.lower n).rooms = s.rooms := rfl
@[simp] theorem lower_porch (s : State) (n : Nat) : (s.lower n).porch = s.porch := rfl
@[simp] theorem lower_ws (s : State) (n : Nat) : (s.lower n).ws = s.ws := rfl
@[simp] theorem lower_gz (s : State) (n : Nat) : (s.lower n).gz = s.gz := rfl
@[simp] theorem lower_ex (s : State) (n : Nat) : (s.lower n).ex = s.ex := rfl
@[simp] theorem lower_pel (s : State) (n : Nat) : (s.lower n).pel = s.pel := rfl
@[simp] theorem lower_dict (s : State) (n : Nat) : (s.lower n).dict = s.dict := rfl
@[simp] theorem lower_mtr (s : State) (n : Nat) : (s.lower n).mtr = s.mtr := rfl
@[simp] theorem lower_pwr (s : State) (n : Nat) : (s.lower n).pwr = s.pwr := rfl
@[simp] theorem lower_cxl (s : State) (n : Nat) : (s.lower n).cxl = s.cxl := rfl
@[simp] theorem lower_sec (s : State) (n : Nat) : (s.lower n).sec = s.sec := rfl
@[simp] theorem lower_tap (s : State) (n : Nat) : (s.lower n).tap = s.tap := rfl
@[simp] theorem lower_odv (s : State) (n : Nat) (j : Nat) : (s.lower n).odv j = s.odv j := rfl
@[simp] theorem lower_cap (s : State) (n : Nat) (j : Nat) : (s.lower n).cap j = s.cap j := rfl
@[simp] theorem lower_ctr (s : State) (n : Nat) (j : Nat) : (s.lower n).ctr j = s.ctr j := rfl
@[simp] theorem lower_queue (s : State) (n : Nat) (j : Nat) : (s.lower n).queue? j = s.queue? j := rfl
@[simp] theorem lower_mem (s : State) (n : Nat) (sp : Space) : (s.lower n).mem sp = s.mem sp := by cases sp <;> rfl

/-! ### noteEvent -/

@[simp] theorem noteEvent_pending (s : State) (n : Nat) : (s.noteEvent n).pending = s.pending := rfl
@[simp] theorem noteEvent_attic (s : State) (n : Nat) : (s.noteEvent n).attic = s.attic := rfl
@[simp] theorem noteEvent_cellar (s : State) (n : Nat) : (s.noteEvent n).cellar = s.cellar := rfl
@[simp] theorem noteEvent_larder (s : State) (n : Nat) : (s.noteEvent n).larder = s.larder := rfl
@[simp] theorem noteEvent_host (s : State) (n : Nat) : (s.noteEvent n).host = s.host := rfl
@[simp] theorem noteEvent_od (s : State) (n : Nat) : (s.noteEvent n).od = s.od := rfl
@[simp] theorem noteEvent_captain (s : State) (n : Nat) : (s.noteEvent n).captain = s.captain := rfl
@[simp] theorem noteEvent_stoker (s : State) (n : Nat) : (s.noteEvent n).stoker = s.stoker := rfl
@[simp] theorem noteEvent_domains (s : State) (n : Nat) : (s.noteEvent n).domains = s.domains := rfl
@[simp] theorem noteEvent_meter (s : State) (n : Nat) : (s.noteEvent n).meter = s.meter := rfl
@[simp] theorem noteEvent_tick (s : State) (n : Nat) : (s.noteEvent n).tick = s.tick := rfl
@[simp] theorem noteEvent_freeCtr (s : State) (n : Nat) : (s.noteEvent n).freeCtr = s.freeCtr := rfl
@[simp] theorem noteEvent_sent (s : State) (n : Nat) : (s.noteEvent n).sent = s.sent := rfl
@[simp] theorem noteEvent_lb (s : State) (n : Nat) : (s.noteEvent n).lb = s.lb := rfl
@[simp] theorem noteEvent_rooms (s : State) (n : Nat) : (s.noteEvent n).rooms = s.rooms := rfl
@[simp] theorem noteEvent_porch (s : State) (n : Nat) : (s.noteEvent n).porch = s.porch := rfl
@[simp] theorem noteEvent_ws (s : State) (n : Nat) : (s.noteEvent n).ws = s.ws := rfl
@[simp] theorem noteEvent_gz (s : State) (n : Nat) : (s.noteEvent n).gz = s.gz := rfl
@[simp] theorem noteEvent_ex (s : State) (n : Nat) : (s.noteEvent n).ex = s.ex := rfl
@[simp] theorem noteEvent_pel (s : State) (n : Nat) : (s.noteEvent n).pel = s.pel := rfl
@[simp] theorem noteEvent_dict (s : State) (n : Nat) : (s.noteEvent n).dict = s.dict := rfl
@[simp] theorem noteEvent_mtr (s : State) (n : Nat) : (s.noteEvent n).mtr = s.mtr := rfl
@[simp] theorem noteEvent_pwr (s : State) (n : Nat) : (s.noteEvent n).pwr = s.pwr := rfl
@[simp] theorem noteEvent_cxl (s : State) (n : Nat) : (s.noteEvent n).cxl = s.cxl := rfl
@[simp] theorem noteEvent_sec (s : State) (n : Nat) : (s.noteEvent n).sec = s.sec := rfl
@[simp] theorem noteEvent_tap (s : State) (n : Nat) : (s.noteEvent n).tap = s.tap := rfl
@[simp] theorem noteEvent_odv (s : State) (n : Nat) (j : Nat) : (s.noteEvent n).odv j = s.odv j := rfl
@[simp] theorem noteEvent_cap (s : State) (n : Nat) (j : Nat) : (s.noteEvent n).cap j = s.cap j := rfl
@[simp] theorem noteEvent_ctr (s : State) (n : Nat) (j : Nat) : (s.noteEvent n).ctr j = s.ctr j := rfl
@[simp] theorem noteEvent_queue (s : State) (n : Nat) (j : Nat) : (s.noteEvent n).queue? j = s.queue? j := rfl
@[simp] theorem noteEvent_mem (s : State) (n : Nat) (sp : Space) : (s.noteEvent n).mem sp = s.mem sp := by cases sp <;> rfl

/-! ### setBellTarget -/

@[simp] theorem setBellTarget_pending (s : State) (x : Nat) (b : BellTarget) : (s.setBellTarget x b).pending = s.pending := rfl
@[simp] theorem setBellTarget_attic (s : State) (x : Nat) (b : BellTarget) : (s.setBellTarget x b).attic = s.attic := rfl
@[simp] theorem setBellTarget_cellar (s : State) (x : Nat) (b : BellTarget) : (s.setBellTarget x b).cellar = s.cellar := rfl
@[simp] theorem setBellTarget_larder (s : State) (x : Nat) (b : BellTarget) : (s.setBellTarget x b).larder = s.larder := rfl
@[simp] theorem setBellTarget_host (s : State) (x : Nat) (b : BellTarget) : (s.setBellTarget x b).host = s.host := rfl
@[simp] theorem setBellTarget_od (s : State) (x : Nat) (b : BellTarget) : (s.setBellTarget x b).od = s.od := rfl
@[simp] theorem setBellTarget_captain (s : State) (x : Nat) (b : BellTarget) : (s.setBellTarget x b).captain = s.captain := rfl
@[simp] theorem setBellTarget_stoker (s : State) (x : Nat) (b : BellTarget) : (s.setBellTarget x b).stoker = s.stoker := rfl
@[simp] theorem setBellTarget_domains (s : State) (x : Nat) (b : BellTarget) : (s.setBellTarget x b).domains = s.domains := rfl
@[simp] theorem setBellTarget_meter (s : State) (x : Nat) (b : BellTarget) : (s.setBellTarget x b).meter = s.meter := rfl
@[simp] theorem setBellTarget_tick (s : State) (x : Nat) (b : BellTarget) : (s.setBellTarget x b).tick = s.tick := rfl
@[simp] theorem setBellTarget_freeCtr (s : State) (x : Nat) (b : BellTarget) : (s.setBellTarget x b).freeCtr = s.freeCtr := rfl
@[simp] theorem setBellTarget_sent (s : State) (x : Nat) (b : BellTarget) : (s.setBellTarget x b).sent = s.sent := rfl
@[simp] theorem setBellTarget_lb (s : State) (x : Nat) (b : BellTarget) : (s.setBellTarget x b).lb = s.lb := rfl
@[simp] theorem setBellTarget_rooms (s : State) (x : Nat) (b : BellTarget) : (s.setBellTarget x b).rooms = s.rooms := rfl
@[simp] theorem setBellTarget_porch (s : State) (x : Nat) (b : BellTarget) : (s.setBellTarget x b).porch = s.porch := rfl
@[simp] theorem setBellTarget_ws (s : State) (x : Nat) (b : BellTarget) : (s.setBellTarget x b).ws = s.ws := rfl
@[simp] theorem setBellTarget_gz (s : State) (x : Nat) (b : BellTarget) : (s.setBellTarget x b).gz = s.gz := rfl
@[simp] theorem setBellTarget_ex (s : State) (x : Nat) (b : BellTarget) : (s.setBellTarget x b).ex = s.ex := rfl
@[simp] theorem setBellTarget_pel (s : State) (x : Nat) (b : BellTarget) : (s.setBellTarget x b).pel = s.pel := rfl
@[simp] theorem setBellTarget_dict (s : State) (x : Nat) (b : BellTarget) : (s.setBellTarget x b).dict = s.dict := rfl
@[simp] theorem setBellTarget_mtr (s : State) (x : Nat) (b : BellTarget) : (s.setBellTarget x b).mtr = s.mtr := rfl
@[simp] theorem setBellTarget_pwr (s : State) (x : Nat) (b : BellTarget) : (s.setBellTarget x b).pwr = s.pwr := rfl
@[simp] theorem setBellTarget_cxl (s : State) (x : Nat) (b : BellTarget) : (s.setBellTarget x b).cxl = s.cxl := rfl
@[simp] theorem setBellTarget_sec (s : State) (x : Nat) (b : BellTarget) : (s.setBellTarget x b).sec = s.sec := rfl
@[simp] theorem setBellTarget_tap (s : State) (x : Nat) (b : BellTarget) : (s.setBellTarget x b).tap = s.tap := rfl
@[simp] theorem setBellTarget_odv (s : State) (x : Nat) (b : BellTarget) (j : Nat) : (s.setBellTarget x b).odv j = s.odv j := rfl
@[simp] theorem setBellTarget_cap (s : State) (x : Nat) (b : BellTarget) (j : Nat) : (s.setBellTarget x b).cap j = s.cap j := rfl
@[simp] theorem setBellTarget_ctr (s : State) (x : Nat) (b : BellTarget) (j : Nat) : (s.setBellTarget x b).ctr j = s.ctr j := rfl
@[simp] theorem setBellTarget_queue (s : State) (x : Nat) (b : BellTarget) (j : Nat) : (s.setBellTarget x b).queue? j = s.queue? j := rfl
@[simp] theorem setBellTarget_mem (s : State) (x : Nat) (b : BellTarget) (sp : Space) : (s.setBellTarget x b).mem sp = s.mem sp := by cases sp <;> rfl

/-! ### entryStat -/

@[simp] theorem entryStat_pending (s : State) (e f n : Nat) : (s.entryStat e f n).pending = s.pending := rfl
@[simp] theorem entryStat_attic (s : State) (e f n : Nat) : (s.entryStat e f n).attic = s.attic := rfl
@[simp] theorem entryStat_cellar (s : State) (e f n : Nat) : (s.entryStat e f n).cellar = s.cellar := rfl
@[simp] theorem entryStat_larder (s : State) (e f n : Nat) : (s.entryStat e f n).larder = s.larder := rfl
@[simp] theorem entryStat_host (s : State) (e f n : Nat) : (s.entryStat e f n).host = s.host := rfl
@[simp] theorem entryStat_od (s : State) (e f n : Nat) : (s.entryStat e f n).od = s.od := rfl
@[simp] theorem entryStat_captain (s : State) (e f n : Nat) : (s.entryStat e f n).captain = s.captain := rfl
@[simp] theorem entryStat_stoker (s : State) (e f n : Nat) : (s.entryStat e f n).stoker = s.stoker := rfl
@[simp] theorem entryStat_domains (s : State) (e f n : Nat) : (s.entryStat e f n).domains = s.domains := rfl
@[simp] theorem entryStat_meter (s : State) (e f n : Nat) : (s.entryStat e f n).meter = s.meter := rfl
@[simp] theorem entryStat_tick (s : State) (e f n : Nat) : (s.entryStat e f n).tick = s.tick := rfl
@[simp] theorem entryStat_freeCtr (s : State) (e f n : Nat) : (s.entryStat e f n).freeCtr = s.freeCtr := rfl
@[simp] theorem entryStat_sent (s : State) (e f n : Nat) : (s.entryStat e f n).sent = s.sent := rfl
@[simp] theorem entryStat_lb (s : State) (e f n : Nat) : (s.entryStat e f n).lb = s.lb := rfl
@[simp] theorem entryStat_rooms (s : State) (e f n : Nat) : (s.entryStat e f n).rooms = s.rooms := rfl
@[simp] theorem entryStat_porch (s : State) (e f n : Nat) : (s.entryStat e f n).porch = s.porch := rfl
@[simp] theorem entryStat_ws (s : State) (e f n : Nat) : (s.entryStat e f n).ws = s.ws := rfl
@[simp] theorem entryStat_bell (s : State) (e f n : Nat) : (s.entryStat e f n).bell = s.bell := rfl
@[simp] theorem entryStat_gz (s : State) (e f n : Nat) : (s.entryStat e f n).gz = s.gz := rfl
@[simp] theorem entryStat_ex (s : State) (e f n : Nat) : (s.entryStat e f n).ex = s.ex := rfl
@[simp] theorem entryStat_pel (s : State) (e f n : Nat) : (s.entryStat e f n).pel = s.pel := rfl
@[simp] theorem entryStat_dict (s : State) (e f n : Nat) : (s.entryStat e f n).dict = s.dict := rfl
@[simp] theorem entryStat_pwr (s : State) (e f n : Nat) : (s.entryStat e f n).pwr = s.pwr := rfl
@[simp] theorem entryStat_cxl (s : State) (e f n : Nat) : (s.entryStat e f n).cxl = s.cxl := rfl
@[simp] theorem entryStat_sec (s : State) (e f n : Nat) : (s.entryStat e f n).sec = s.sec := rfl
@[simp] theorem entryStat_tap (s : State) (e f n : Nat) : (s.entryStat e f n).tap = s.tap := rfl
@[simp] theorem entryStat_odv (s : State) (e f n : Nat) (j : Nat) : (s.entryStat e f n).odv j = s.odv j := rfl
@[simp] theorem entryStat_cap (s : State) (e f n : Nat) (j : Nat) : (s.entryStat e f n).cap j = s.cap j := rfl
@[simp] theorem entryStat_ctr (s : State) (e f n : Nat) (j : Nat) : (s.entryStat e f n).ctr j = s.ctr j := rfl
@[simp] theorem entryStat_queue (s : State) (e f n : Nat) (j : Nat) : (s.entryStat e f n).queue? j = s.queue? j := rfl
@[simp] theorem entryStat_mem (s : State) (e f n : Nat) (sp : Space) : (s.entryStat e f n).mem sp = s.mem sp := by cases sp <;> rfl

/-! ### setQueue -/

@[simp] theorem setQueue_pending (s : State) (c : QCtx) : (s.setQueue c).pending = s.pending := rfl
@[simp] theorem setQueue_attic (s : State) (c : QCtx) : (s.setQueue c).attic = s.attic := rfl
@[simp] theorem setQueue_cellar (s : State) (c : QCtx) : (s.setQueue c).cellar = s.cellar := rfl
@[simp] theorem setQueue_larder (s : State) (c : QCtx) : (s.setQueue c).larder = s.larder := rfl
@[simp] theorem setQueue_host (s : State) (c : QCtx) : (s.setQueue c).host = s.host := rfl
@[simp] theorem setQueue_od (s : State) (c : QCtx) : (s.setQueue c).od = s.od := rfl
@[simp] theorem setQueue_captain (s : State) (c : QCtx) : (s.setQueue c).captain = s.captain := rfl
@[simp] theorem setQueue_stoker (s : State) (c : QCtx) : (s.setQueue c).stoker = s.stoker := rfl
@[simp] theorem setQueue_domains (s : State) (c : QCtx) : (s.setQueue c).domains = s.domains := rfl
@[simp] theorem setQueue_meter (s : State) (c : QCtx) : (s.setQueue c).meter = s.meter := rfl
@[simp] theorem setQueue_tick (s : State) (c : QCtx) : (s.setQueue c).tick = s.tick := rfl
@[simp] theorem setQueue_freeCtr (s : State) (c : QCtx) : (s.setQueue c).freeCtr = s.freeCtr := rfl
@[simp] theorem setQueue_sent (s : State) (c : QCtx) : (s.setQueue c).sent = s.sent := rfl
@[simp] theorem setQueue_rooms (s : State) (c : QCtx) : (s.setQueue c).rooms = s.rooms := rfl
@[simp] theorem setQueue_porch (s : State) (c : QCtx) : (s.setQueue c).porch = s.porch := rfl
@[simp] theorem setQueue_ws (s : State) (c : QCtx) : (s.setQueue c).ws = s.ws := rfl
@[simp] theorem setQueue_bell (s : State) (c : QCtx) : (s.setQueue c).bell = s.bell := rfl
@[simp] theorem setQueue_gz (s : State) (c : QCtx) : (s.setQueue c).gz = s.gz := rfl
@[simp] theorem setQueue_ex (s : State) (c : QCtx) : (s.setQueue c).ex = s.ex := rfl
@[simp] theorem setQueue_pel (s : State) (c : QCtx) : (s.setQueue c).pel = s.pel := rfl
@[simp] theorem setQueue_dict (s : State) (c : QCtx) : (s.setQueue c).dict = s.dict := rfl
@[simp] theorem setQueue_mtr (s : State) (c : QCtx) : (s.setQueue c).mtr = s.mtr := rfl
@[simp] theorem setQueue_pwr (s : State) (c : QCtx) : (s.setQueue c).pwr = s.pwr := rfl
@[simp] theorem setQueue_cxl (s : State) (c : QCtx) : (s.setQueue c).cxl = s.cxl := rfl
@[simp] theorem setQueue_sec (s : State) (c : QCtx) : (s.setQueue c).sec = s.sec := rfl
@[simp] theorem setQueue_tap (s : State) (c : QCtx) : (s.setQueue c).tap = s.tap := rfl
@[simp] theorem setQueue_odv (s : State) (c : QCtx) (j : Nat) : (s.setQueue c).odv j = s.odv j := rfl
@[simp] theorem setQueue_cap (s : State) (c : QCtx) (j : Nat) : (s.setQueue c).cap j = s.cap j := rfl
@[simp] theorem setQueue_ctr (s : State) (c : QCtx) (j : Nat) : (s.setQueue c).ctr j = s.ctr j := rfl
@[simp] theorem setQueue_mem (s : State) (c : QCtx) (sp : Space) : (s.setQueue c).mem sp = s.mem sp := by cases sp <;> rfl

/-! ### evict -/

@[simp] theorem evict_pending (s : State) (q : Nat) : (s.evict q).pending = s.pending := rfl
@[simp] theorem evict_attic (s : State) (q : Nat) : (s.evict q).attic = s.attic := rfl
@[simp] theorem evict_cellar (s : State) (q : Nat) : (s.evict q).cellar = s.cellar := rfl
@[simp] theorem evict_larder (s : State) (q : Nat) : (s.evict q).larder = s.larder := rfl
@[simp] theorem evict_host (s : State) (q : Nat) : (s.evict q).host = s.host := rfl
@[simp] theorem evict_od (s : State) (q : Nat) : (s.evict q).od = s.od := rfl
@[simp] theorem evict_captain (s : State) (q : Nat) : (s.evict q).captain = s.captain := rfl
@[simp] theorem evict_stoker (s : State) (q : Nat) : (s.evict q).stoker = s.stoker := rfl
@[simp] theorem evict_domains (s : State) (q : Nat) : (s.evict q).domains = s.domains := rfl
@[simp] theorem evict_meter (s : State) (q : Nat) : (s.evict q).meter = s.meter := rfl
@[simp] theorem evict_tick (s : State) (q : Nat) : (s.evict q).tick = s.tick := rfl
@[simp] theorem evict_freeCtr (s : State) (q : Nat) : (s.evict q).freeCtr = s.freeCtr := rfl
@[simp] theorem evict_sent (s : State) (q : Nat) : (s.evict q).sent = s.sent := rfl
@[simp] theorem evict_rooms (s : State) (q : Nat) : (s.evict q).rooms = s.rooms := rfl
@[simp] theorem evict_porch (s : State) (q : Nat) : (s.evict q).porch = s.porch := rfl
@[simp] theorem evict_ws (s : State) (q : Nat) : (s.evict q).ws = s.ws := rfl
@[simp] theorem evict_bell (s : State) (q : Nat) : (s.evict q).bell = s.bell := rfl
@[simp] theorem evict_gz (s : State) (q : Nat) : (s.evict q).gz = s.gz := rfl
@[simp] theorem evict_ex (s : State) (q : Nat) : (s.evict q).ex = s.ex := rfl
@[simp] theorem evict_pel (s : State) (q : Nat) : (s.evict q).pel = s.pel := rfl
@[simp] theorem evict_dict (s : State) (q : Nat) : (s.evict q).dict = s.dict := rfl
@[simp] theorem evict_mtr (s : State) (q : Nat) : (s.evict q).mtr = s.mtr := rfl
@[simp] theorem evict_pwr (s : State) (q : Nat) : (s.evict q).pwr = s.pwr := rfl
@[simp] theorem evict_cxl (s : State) (q : Nat) : (s.evict q).cxl = s.cxl := rfl
@[simp] theorem evict_sec (s : State) (q : Nat) : (s.evict q).sec = s.sec := rfl
@[simp] theorem evict_tap (s : State) (q : Nat) : (s.evict q).tap = s.tap := rfl
@[simp] theorem evict_odv (s : State) (q : Nat) (j : Nat) : (s.evict q).odv j = s.odv j := rfl
@[simp] theorem evict_cap (s : State) (q : Nat) (j : Nat) : (s.evict q).cap j = s.cap j := rfl
@[simp] theorem evict_ctr (s : State) (q : Nat) (j : Nat) : (s.evict q).ctr j = s.ctr j := rfl
@[simp] theorem evict_mem (s : State) (q : Nat) (sp : Space) : (s.evict q).mem sp = s.mem sp := by cases sp <;> rfl

/-! ### setGather -/

@[simp] theorem setGather_pending (s : State) (g : Gather) : (s.setGather g).pending = s.pending := rfl
@[simp] theorem setGather_attic (s : State) (g : Gather) : (s.setGather g).attic = s.attic := rfl
@[simp] theorem setGather_cellar (s : State) (g : Gather) : (s.setGather g).cellar = s.cellar := rfl
@[simp] theorem setGather_larder (s : State) (g : Gather) : (s.setGather g).larder = s.larder := rfl
@[simp] theorem setGather_host (s : State) (g : Gather) : (s.setGather g).host = s.host := rfl
@[simp] theorem setGather_od (s : State) (g : Gather) : (s.setGather g).od = s.od := rfl
@[simp] theorem setGather_captain (s : State) (g : Gather) : (s.setGather g).captain = s.captain := rfl
@[simp] theorem setGather_stoker (s : State) (g : Gather) : (s.setGather g).stoker = s.stoker := rfl
@[simp] theorem setGather_domains (s : State) (g : Gather) : (s.setGather g).domains = s.domains := rfl
@[simp] theorem setGather_meter (s : State) (g : Gather) : (s.setGather g).meter = s.meter := rfl
@[simp] theorem setGather_tick (s : State) (g : Gather) : (s.setGather g).tick = s.tick := rfl
@[simp] theorem setGather_freeCtr (s : State) (g : Gather) : (s.setGather g).freeCtr = s.freeCtr := rfl
@[simp] theorem setGather_sent (s : State) (g : Gather) : (s.setGather g).sent = s.sent := rfl
@[simp] theorem setGather_rooms (s : State) (g : Gather) : (s.setGather g).rooms = s.rooms := rfl
@[simp] theorem setGather_porch (s : State) (g : Gather) : (s.setGather g).porch = s.porch := rfl
@[simp] theorem setGather_ws (s : State) (g : Gather) : (s.setGather g).ws = s.ws := rfl
@[simp] theorem setGather_bell (s : State) (g : Gather) : (s.setGather g).bell = s.bell := rfl
@[simp] theorem setGather_gz (s : State) (g : Gather) : (s.setGather g).gz = s.gz := rfl
@[simp] theorem setGather_ex (s : State) (g : Gather) : (s.setGather g).ex = s.ex := rfl
@[simp] theorem setGather_pel (s : State) (g : Gather) : (s.setGather g).pel = s.pel := rfl
@[simp] theorem setGather_dict (s : State) (g : Gather) : (s.setGather g).dict = s.dict := rfl
@[simp] theorem setGather_mtr (s : State) (g : Gather) : (s.setGather g).mtr = s.mtr := rfl
@[simp] theorem setGather_pwr (s : State) (g : Gather) : (s.setGather g).pwr = s.pwr := rfl
@[simp] theorem setGather_cxl (s : State) (g : Gather) : (s.setGather g).cxl = s.cxl := rfl
@[simp] theorem setGather_sec (s : State) (g : Gather) : (s.setGather g).sec = s.sec := rfl
@[simp] theorem setGather_tap (s : State) (g : Gather) : (s.setGather g).tap = s.tap := rfl
@[simp] theorem setGather_odv (s : State) (g : Gather) (j : Nat) : (s.setGather g).odv j = s.odv j := rfl
@[simp] theorem setGather_cap (s : State) (g : Gather) (j : Nat) : (s.setGather g).cap j = s.cap j := rfl
@[simp] theorem setGather_ctr (s : State) (g : Gather) (j : Nat) : (s.setGather g).ctr j = s.ctr j := rfl
@[simp] theorem setGather_mem (s : State) (g : Gather) (sp : Space) : (s.setGather g).mem sp = s.mem sp := by cases sp <;> rfl

/-! ### addGather -/

@[simp] theorem addGather_pending (s : State) (g : Gather) : (s.addGather g).pending = s.pending := rfl
@[simp] theorem addGather_attic (s : State) (g : Gather) : (s.addGather g).attic = s.attic := rfl
@[simp] theorem addGather_cellar (s : State) (g : Gather) : (s.addGather g).cellar = s.cellar := rfl
@[simp] theorem addGather_larder (s : State) (g : Gather) : (s.addGather g).larder = s.larder := rfl
@[simp] theorem addGather_host (s : State) (g : Gather) : (s.addGather g).host = s.host := rfl
@[simp] theorem addGather_od (s : State) (g : Gather) : (s.addGather g).od = s.od := rfl
@[simp] theorem addGather_captain (s : State) (g : Gather) : (s.addGather g).captain = s.captain := rfl
@[simp] theorem addGather_stoker (s : State) (g : Gather) : (s.addGather g).stoker = s.stoker := rfl
@[simp] theorem addGather_domains (s : State) (g : Gather) : (s.addGather g).domains = s.domains := rfl
@[simp] theorem addGather_meter (s : State) (g : Gather) : (s.addGather g).meter = s.meter := rfl
@[simp] theorem addGather_tick (s : State) (g : Gather) : (s.addGather g).tick = s.tick := rfl
@[simp] theorem addGather_freeCtr (s : State) (g : Gather) : (s.addGather g).freeCtr = s.freeCtr := rfl
@[simp] theorem addGather_sent (s : State) (g : Gather) : (s.addGather g).sent = s.sent := rfl
@[simp] theorem addGather_rooms (s : State) (g : Gather) : (s.addGather g).rooms = s.rooms := rfl
@[simp] theorem addGather_porch (s : State) (g : Gather) : (s.addGather g).porch = s.porch := rfl
@[simp] theorem addGather_ws (s : State) (g : Gather) : (s.addGather g).ws = s.ws := rfl
@[simp] theorem addGather_bell (s : State) (g : Gather) : (s.addGather g).bell = s.bell := rfl
@[simp] theorem addGather_gz (s : State) (g : Gather) : (s.addGather g).gz = s.gz := rfl
@[simp] theorem addGather_ex (s : State) (g : Gather) : (s.addGather g).ex = s.ex := rfl
@[simp] theorem addGather_pel (s : State) (g : Gather) : (s.addGather g).pel = s.pel := rfl
@[simp] theorem addGather_dict (s : State) (g : Gather) : (s.addGather g).dict = s.dict := rfl
@[simp] theorem addGather_mtr (s : State) (g : Gather) : (s.addGather g).mtr = s.mtr := rfl
@[simp] theorem addGather_pwr (s : State) (g : Gather) : (s.addGather g).pwr = s.pwr := rfl
@[simp] theorem addGather_cxl (s : State) (g : Gather) : (s.addGather g).cxl = s.cxl := rfl
@[simp] theorem addGather_sec (s : State) (g : Gather) : (s.addGather g).sec = s.sec := rfl
@[simp] theorem addGather_tap (s : State) (g : Gather) : (s.addGather g).tap = s.tap := rfl
@[simp] theorem addGather_odv (s : State) (g : Gather) (j : Nat) : (s.addGather g).odv j = s.odv j := rfl
@[simp] theorem addGather_cap (s : State) (g : Gather) (j : Nat) : (s.addGather g).cap j = s.cap j := rfl
@[simp] theorem addGather_ctr (s : State) (g : Gather) (j : Nat) : (s.addGather g).ctr j = s.ctr j := rfl
@[simp] theorem addGather_mem (s : State) (g : Gather) (sp : Space) : (s.addGather g).mem sp = s.mem sp := by cases sp <;> rfl

/-! ### dropGather -/

@[simp] theorem dropGather_pending (s : State) (g : Gather) : (s.dropGather g).pending = s.pending := rfl
@[simp] theorem dropGather_attic (s : State) (g : Gather) : (s.dropGather g).attic = s.attic := rfl
@[simp] theorem dropGather_cellar (s : State) (g : Gather) : (s.dropGather g).cellar = s.cellar := rfl
@[simp] theorem dropGather_larder (s : State) (g : Gather) : (s.dropGather g).larder = s.larder := rfl
@[simp] theorem dropGather_host (s : State) (g : Gather) : (s.dropGather g).host = s.host := rfl
@[simp] theorem dropGather_od (s : State) (g : Gather) : (s.dropGather g).od = s.od := rfl
@[simp] theorem dropGather_captain (s : State) (g : Gather) : (s.dropGather g).captain = s.captain := rfl
@[simp] theorem dropGather_stoker (s : State) (g : Gather) : (s.dropGather g).stoker = s.stoker := rfl
@[simp] theorem dropGather_domains (s : State) (g : Gather) : (s.dropGather g).domains = s.domains := rfl
@[simp] theorem dropGather_meter (s : State) (g : Gather) : (s.dropGather g).meter = s.meter := rfl
@[simp] theorem dropGather_tick (s : State) (g : Gather) : (s.dropGather g).tick = s.tick := rfl
@[simp] theorem dropGather_freeCtr (s : State) (g : Gather) : (s.dropGather g).freeCtr = s.freeCtr := rfl
@[simp] theorem dropGather_sent (s : State) (g : Gather) : (s.dropGather g).sent = s.sent := rfl
@[simp] theorem dropGather_rooms (s : State) (g : Gather) : (s.dropGather g).rooms = s.rooms := rfl
@[simp] theorem dropGather_porch (s : State) (g : Gather) : (s.dropGather g).porch = s.porch := rfl
@[simp] theorem dropGather_ws (s : State) (g : Gather) : (s.dropGather g).ws = s.ws := rfl
@[simp] theorem dropGather_bell (s : State) (g : Gather) : (s.dropGather g).bell = s.bell := rfl
@[simp] theorem dropGather_gz (s : State) (g : Gather) : (s.dropGather g).gz = s.gz := rfl
@[simp] theorem dropGather_ex (s : State) (g : Gather) : (s.dropGather g).ex = s.ex := rfl
@[simp] theorem dropGather_pel (s : State) (g : Gather) : (s.dropGather g).pel = s.pel := rfl
@[simp] theorem dropGather_dict (s : State) (g : Gather) : (s.dropGather g).dict = s.dict := rfl
@[simp] theorem dropGather_mtr (s : State) (g : Gather) : (s.dropGather g).mtr = s.mtr := rfl
@[simp] theorem dropGather_pwr (s : State) (g : Gather) : (s.dropGather g).pwr = s.pwr := rfl
@[simp] theorem dropGather_cxl (s : State) (g : Gather) : (s.dropGather g).cxl = s.cxl := rfl
@[simp] theorem dropGather_sec (s : State) (g : Gather) : (s.dropGather g).sec = s.sec := rfl
@[simp] theorem dropGather_tap (s : State) (g : Gather) : (s.dropGather g).tap = s.tap := rfl
@[simp] theorem dropGather_odv (s : State) (g : Gather) (j : Nat) : (s.dropGather g).odv j = s.odv j := rfl
@[simp] theorem dropGather_cap (s : State) (g : Gather) (j : Nat) : (s.dropGather g).cap j = s.cap j := rfl
@[simp] theorem dropGather_ctr (s : State) (g : Gather) (j : Nat) : (s.dropGather g).ctr j = s.ctr j := rfl
@[simp] theorem dropGather_mem (s : State) (g : Gather) (sp : Space) : (s.dropGather g).mem sp = s.mem sp := by cases sp <;> rfl

/-! ### settle -/

@[simp] theorem settle_pending (s : State) : (s.settle).pending = s.pending := rfl
@[simp] theorem settle_attic (s : State) : (s.settle).attic = s.attic := rfl
@[simp] theorem settle_cellar (s : State) : (s.settle).cellar = s.cellar := rfl
@[simp] theorem settle_larder (s : State) : (s.settle).larder = s.larder := rfl
@[simp] theorem settle_host (s : State) : (s.settle).host = s.host := rfl
@[simp] theorem settle_od (s : State) : (s.settle).od = s.od := rfl
@[simp] theorem settle_captain (s : State) : (s.settle).captain = s.captain := rfl
@[simp] theorem settle_stoker (s : State) : (s.settle).stoker = s.stoker := rfl
@[simp] theorem settle_domains (s : State) : (s.settle).domains = s.domains := rfl
@[simp] theorem settle_meter (s : State) : (s.settle).meter = s.meter := rfl
@[simp] theorem settle_tick (s : State) : (s.settle).tick = s.tick := rfl
@[simp] theorem settle_freeCtr (s : State) : (s.settle).freeCtr = s.freeCtr := rfl
@[simp] theorem settle_sent (s : State) : (s.settle).sent = s.sent := rfl
@[simp] theorem settle_rooms (s : State) : (s.settle).rooms = s.rooms := rfl
@[simp] theorem settle_porch (s : State) : (s.settle).porch = s.porch := rfl
@[simp] theorem settle_ws (s : State) : (s.settle).ws = s.ws := rfl
@[simp] theorem settle_bell (s : State) : (s.settle).bell = s.bell := rfl
@[simp] theorem settle_gz (s : State) : (s.settle).gz = s.gz := rfl
@[simp] theorem settle_ex (s : State) : (s.settle).ex = s.ex := rfl
@[simp] theorem settle_pel (s : State) : (s.settle).pel = s.pel := rfl
@[simp] theorem settle_dict (s : State) : (s.settle).dict = s.dict := rfl
@[simp] theorem settle_mtr (s : State) : (s.settle).mtr = s.mtr := rfl
@[simp] theorem settle_pwr (s : State) : (s.settle).pwr = s.pwr := rfl
@[simp] theorem settle_cxl (s : State) : (s.settle).cxl = s.cxl := rfl
@[simp] theorem settle_sec (s : State) : (s.settle).sec = s.sec := rfl
@[simp] theorem settle_tap (s : State) : (s.settle).tap = s.tap := rfl
@[simp] theorem settle_odv (s : State) (j : Nat) : (s.settle).odv j = s.odv j := rfl
@[simp] theorem settle_cap (s : State) (j : Nat) : (s.settle).cap j = s.cap j := rfl
@[simp] theorem settle_ctr (s : State) (j : Nat) : (s.settle).ctr j = s.ctr j := rfl
@[simp] theorem settle_mem (s : State) (sp : Space) : (s.settle).mem sp = s.mem sp := by cases sp <;> rfl

/-! ### setOp -/

@[simp] theorem setOp_pending (s : State) (o : Op) : (s.setOp o).pending = s.pending := rfl
@[simp] theorem setOp_attic (s : State) (o : Op) : (s.setOp o).attic = s.attic := rfl
@[simp] theorem setOp_cellar (s : State) (o : Op) : (s.setOp o).cellar = s.cellar := rfl
@[simp] theorem setOp_larder (s : State) (o : Op) : (s.setOp o).larder = s.larder := rfl
@[simp] theorem setOp_host (s : State) (o : Op) : (s.setOp o).host = s.host := rfl
@[simp] theorem setOp_od (s : State) (o : Op) : (s.setOp o).od = s.od := rfl
@[simp] theorem setOp_captain (s : State) (o : Op) : (s.setOp o).captain = s.captain := rfl
@[simp] theorem setOp_stoker (s : State) (o : Op) : (s.setOp o).stoker = s.stoker := rfl
@[simp] theorem setOp_domains (s : State) (o : Op) : (s.setOp o).domains = s.domains := rfl
@[simp] theorem setOp_meter (s : State) (o : Op) : (s.setOp o).meter = s.meter := rfl
@[simp] theorem setOp_tick (s : State) (o : Op) : (s.setOp o).tick = s.tick := rfl
@[simp] theorem setOp_freeCtr (s : State) (o : Op) : (s.setOp o).freeCtr = s.freeCtr := rfl
@[simp] theorem setOp_sent (s : State) (o : Op) : (s.setOp o).sent = s.sent := rfl
@[simp] theorem setOp_rooms (s : State) (o : Op) : (s.setOp o).rooms = s.rooms := rfl
@[simp] theorem setOp_porch (s : State) (o : Op) : (s.setOp o).porch = s.porch := rfl
@[simp] theorem setOp_ws (s : State) (o : Op) : (s.setOp o).ws = s.ws := rfl
@[simp] theorem setOp_bell (s : State) (o : Op) : (s.setOp o).bell = s.bell := rfl
@[simp] theorem setOp_gz (s : State) (o : Op) : (s.setOp o).gz = s.gz := rfl
@[simp] theorem setOp_ex (s : State) (o : Op) : (s.setOp o).ex = s.ex := rfl
@[simp] theorem setOp_pel (s : State) (o : Op) : (s.setOp o).pel = s.pel := rfl
@[simp] theorem setOp_dict (s : State) (o : Op) : (s.setOp o).dict = s.dict := rfl
@[simp] theorem setOp_mtr (s : State) (o : Op) : (s.setOp o).mtr = s.mtr := rfl
@[simp] theorem setOp_pwr (s : State) (o : Op) : (s.setOp o).pwr = s.pwr := rfl
@[simp] theorem setOp_cxl (s : State) (o : Op) : (s.setOp o).cxl = s.cxl := rfl
@[simp] theorem setOp_sec (s : State) (o : Op) : (s.setOp o).sec = s.sec := rfl
@[simp] theorem setOp_tap (s : State) (o : Op) : (s.setOp o).tap = s.tap := rfl
@[simp] theorem setOp_odv (s : State) (o : Op) (j : Nat) : (s.setOp o).odv j = s.odv j := rfl
@[simp] theorem setOp_cap (s : State) (o : Op) (j : Nat) : (s.setOp o).cap j = s.cap j := rfl
@[simp] theorem setOp_ctr (s : State) (o : Op) (j : Nat) : (s.setOp o).ctr j = s.ctr j := rfl
@[simp] theorem setOp_mem (s : State) (o : Op) (sp : Space) : (s.setOp o).mem sp = s.mem sp := by cases sp <;> rfl

/-! ### hold -/

@[simp] theorem hold_pending (s : State) (h : HeldAccess) : (s.hold h).pending = s.pending := rfl
@[simp] theorem hold_attic (s : State) (h : HeldAccess) : (s.hold h).attic = s.attic := rfl
@[simp] theorem hold_cellar (s : State) (h : HeldAccess) : (s.hold h).cellar = s.cellar := rfl
@[simp] theorem hold_larder (s : State) (h : HeldAccess) : (s.hold h).larder = s.larder := rfl
@[simp] theorem hold_host (s : State) (h : HeldAccess) : (s.hold h).host = s.host := rfl
@[simp] theorem hold_od (s : State) (h : HeldAccess) : (s.hold h).od = s.od := rfl
@[simp] theorem hold_captain (s : State) (h : HeldAccess) : (s.hold h).captain = s.captain := rfl
@[simp] theorem hold_stoker (s : State) (h : HeldAccess) : (s.hold h).stoker = s.stoker := rfl
@[simp] theorem hold_domains (s : State) (h : HeldAccess) : (s.hold h).domains = s.domains := rfl
@[simp] theorem hold_meter (s : State) (h : HeldAccess) : (s.hold h).meter = s.meter := rfl
@[simp] theorem hold_tick (s : State) (h : HeldAccess) : (s.hold h).tick = s.tick := rfl
@[simp] theorem hold_freeCtr (s : State) (h : HeldAccess) : (s.hold h).freeCtr = s.freeCtr := rfl
@[simp] theorem hold_sent (s : State) (h : HeldAccess) : (s.hold h).sent = s.sent := rfl
@[simp] theorem hold_lb (s : State) (h : HeldAccess) : (s.hold h).lb = s.lb := rfl
@[simp] theorem hold_rooms (s : State) (h : HeldAccess) : (s.hold h).rooms = s.rooms := rfl
@[simp] theorem hold_porch (s : State) (h : HeldAccess) : (s.hold h).porch = s.porch := rfl
@[simp] theorem hold_ws (s : State) (h : HeldAccess) : (s.hold h).ws = s.ws := rfl
@[simp] theorem hold_bell (s : State) (h : HeldAccess) : (s.hold h).bell = s.bell := rfl
@[simp] theorem hold_gz (s : State) (h : HeldAccess) : (s.hold h).gz = s.gz := rfl
@[simp] theorem hold_ex (s : State) (h : HeldAccess) : (s.hold h).ex = s.ex := rfl
@[simp] theorem hold_pel (s : State) (h : HeldAccess) : (s.hold h).pel = s.pel := rfl
@[simp] theorem hold_mtr (s : State) (h : HeldAccess) : (s.hold h).mtr = s.mtr := rfl
@[simp] theorem hold_pwr (s : State) (h : HeldAccess) : (s.hold h).pwr = s.pwr := rfl
@[simp] theorem hold_cxl (s : State) (h : HeldAccess) : (s.hold h).cxl = s.cxl := rfl
@[simp] theorem hold_sec (s : State) (h : HeldAccess) : (s.hold h).sec = s.sec := rfl
@[simp] theorem hold_tap (s : State) (h : HeldAccess) : (s.hold h).tap = s.tap := rfl
@[simp] theorem hold_odv (s : State) (h : HeldAccess) (j : Nat) : (s.hold h).odv j = s.odv j := rfl
@[simp] theorem hold_cap (s : State) (h : HeldAccess) (j : Nat) : (s.hold h).cap j = s.cap j := rfl
@[simp] theorem hold_ctr (s : State) (h : HeldAccess) (j : Nat) : (s.hold h).ctr j = s.ctr j := rfl
@[simp] theorem hold_queue (s : State) (h : HeldAccess) (j : Nat) : (s.hold h).queue? j = s.queue? j := rfl
@[simp] theorem hold_mem (s : State) (h : HeldAccess) (sp : Space) : (s.hold h).mem sp = s.mem sp := by cases sp <;> rfl

/-! ### setPeer -/

@[simp] theorem setPeer_pending (s : State) (x : XPeer) : (s.setPeer x).pending = s.pending := rfl
@[simp] theorem setPeer_attic (s : State) (x : XPeer) : (s.setPeer x).attic = s.attic := rfl
@[simp] theorem setPeer_cellar (s : State) (x : XPeer) : (s.setPeer x).cellar = s.cellar := rfl
@[simp] theorem setPeer_larder (s : State) (x : XPeer) : (s.setPeer x).larder = s.larder := rfl
@[simp] theorem setPeer_host (s : State) (x : XPeer) : (s.setPeer x).host = s.host := rfl
@[simp] theorem setPeer_od (s : State) (x : XPeer) : (s.setPeer x).od = s.od := rfl
@[simp] theorem setPeer_captain (s : State) (x : XPeer) : (s.setPeer x).captain = s.captain := rfl
@[simp] theorem setPeer_stoker (s : State) (x : XPeer) : (s.setPeer x).stoker = s.stoker := rfl
@[simp] theorem setPeer_domains (s : State) (x : XPeer) : (s.setPeer x).domains = s.domains := rfl
@[simp] theorem setPeer_meter (s : State) (x : XPeer) : (s.setPeer x).meter = s.meter := rfl
@[simp] theorem setPeer_tick (s : State) (x : XPeer) : (s.setPeer x).tick = s.tick := rfl
@[simp] theorem setPeer_freeCtr (s : State) (x : XPeer) : (s.setPeer x).freeCtr = s.freeCtr := rfl
@[simp] theorem setPeer_sent (s : State) (x : XPeer) : (s.setPeer x).sent = s.sent := rfl
@[simp] theorem setPeer_lb (s : State) (x : XPeer) : (s.setPeer x).lb = s.lb := rfl
@[simp] theorem setPeer_rooms (s : State) (x : XPeer) : (s.setPeer x).rooms = s.rooms := rfl
@[simp] theorem setPeer_porch (s : State) (x : XPeer) : (s.setPeer x).porch = s.porch := rfl
@[simp] theorem setPeer_ws (s : State) (x : XPeer) : (s.setPeer x).ws = s.ws := rfl
@[simp] theorem setPeer_bell (s : State) (x : XPeer) : (s.setPeer x).bell = s.bell := rfl
@[simp] theorem setPeer_gz (s : State) (x : XPeer) : (s.setPeer x).gz = s.gz := rfl
@[simp] theorem setPeer_ex (s : State) (x : XPeer) : (s.setPeer x).ex = s.ex := rfl
@[simp] theorem setPeer_pel (s : State) (x : XPeer) : (s.setPeer x).pel = s.pel := rfl
@[simp] theorem setPeer_mtr (s : State) (x : XPeer) : (s.setPeer x).mtr = s.mtr := rfl
@[simp] theorem setPeer_pwr (s : State) (x : XPeer) : (s.setPeer x).pwr = s.pwr := rfl
@[simp] theorem setPeer_cxl (s : State) (x : XPeer) : (s.setPeer x).cxl = s.cxl := rfl
@[simp] theorem setPeer_sec (s : State) (x : XPeer) : (s.setPeer x).sec = s.sec := rfl
@[simp] theorem setPeer_tap (s : State) (x : XPeer) : (s.setPeer x).tap = s.tap := rfl
@[simp] theorem setPeer_odv (s : State) (x : XPeer) (j : Nat) : (s.setPeer x).odv j = s.odv j := rfl
@[simp] theorem setPeer_cap (s : State) (x : XPeer) (j : Nat) : (s.setPeer x).cap j = s.cap j := rfl
@[simp] theorem setPeer_ctr (s : State) (x : XPeer) (j : Nat) : (s.setPeer x).ctr j = s.ctr j := rfl
@[simp] theorem setPeer_queue (s : State) (x : XPeer) (j : Nat) : (s.setPeer x).queue? j = s.queue? j := rfl
@[simp] theorem setPeer_mem (s : State) (x : XPeer) (sp : Space) : (s.setPeer x).mem sp = s.mem sp := by cases sp <;> rfl

/-! ### raise -/

@[simp] theorem raise_pending (s : State) (n : Nat) : (s.raise n).pending = s.pending := (raise_evolves s n).frame .pending (by decide)
@[simp] theorem raise_attic (s : State) (n : Nat) : (s.raise n).attic = s.attic := (raise_evolves s n).frame .attic (by decide)
@[simp] theorem raise_cellar (s : State) (n : Nat) : (s.raise n).cellar = s.cellar := (raise_evolves s n).frame .cellar (by decide)
@[simp] theorem raise_larder (s : State) (n : Nat) : (s.raise n).larder = s.larder := (raise_evolves s n).frame .larder (by decide)
@[simp] theorem raise_host (s : State) (n : Nat) : (s.raise n).host = s.host := (raise_evolves s n).frame .host (by decide)
@[simp] theorem raise_od (s : State) (n : Nat) : (s.raise n).od = s.od := (raise_evolves s n).frame .od (by decide)
@[simp] theorem raise_captain (s : State) (n : Nat) : (s.raise n).captain = s.captain := (raise_evolves s n).frame .captain (by decide)
@[simp] theorem raise_stoker (s : State) (n : Nat) : (s.raise n).stoker = s.stoker := (raise_evolves s n).frame .stoker (by decide)
@[simp] theorem raise_domains (s : State) (n : Nat) : (s.raise n).domains = s.domains := (raise_evolves s n).frame .domains (by decide)
@[simp] theorem raise_meter (s : State) (n : Nat) : (s.raise n).meter = s.meter := (raise_evolves s n).frame .meter (by decide)
@[simp] theorem raise_tick (s : State) (n : Nat) : (s.raise n).tick = s.tick := (raise_evolves s n).frame .tick (by decide)
@[simp] theorem raise_freeCtr (s : State) (n : Nat) : (s.raise n).freeCtr = s.freeCtr := (raise_evolves s n).frame .freeCtr (by decide)
@[simp] theorem raise_sent (s : State) (n : Nat) : (s.raise n).sent = s.sent := (raise_evolves s n).frame .sent (by decide)
@[simp] theorem raise_lb (s : State) (n : Nat) : (s.raise n).lb = s.lb := (raise_evolves s n).frame .lb (by decide)
@[simp] theorem raise_rooms (s : State) (n : Nat) : (s.raise n).rooms = s.rooms := (raise_evolves s n).frame .rooms (by decide)
@[simp] theorem raise_porch (s : State) (n : Nat) : (s.raise n).porch = s.porch := (raise_evolves s n).frame .porch (by decide)
@[simp] theorem raise_ws (s : State) (n : Nat) : (s.raise n).ws = s.ws := (raise_evolves s n).frame .ws (by decide)
@[simp] theorem raise_gz (s : State) (n : Nat) : (s.raise n).gz = s.gz := (raise_evolves s n).frame .gz (by decide)
@[simp] theorem raise_ex (s : State) (n : Nat) : (s.raise n).ex = s.ex := (raise_evolves s n).frame .ex (by decide)
@[simp] theorem raise_pel (s : State) (n : Nat) : (s.raise n).pel = s.pel := (raise_evolves s n).frame .pel (by decide)
@[simp] theorem raise_dict (s : State) (n : Nat) : (s.raise n).dict = s.dict := (raise_evolves s n).frame .dict (by decide)
@[simp] theorem raise_mtr (s : State) (n : Nat) : (s.raise n).mtr = s.mtr := (raise_evolves s n).frame .mtr (by decide)
@[simp] theorem raise_pwr (s : State) (n : Nat) : (s.raise n).pwr = s.pwr := (raise_evolves s n).frame .pwr (by decide)
@[simp] theorem raise_cxl (s : State) (n : Nat) : (s.raise n).cxl = s.cxl := (raise_evolves s n).frame .cxl (by decide)
@[simp] theorem raise_sec (s : State) (n : Nat) : (s.raise n).sec = s.sec := (raise_evolves s n).frame .sec (by decide)
@[simp] theorem raise_tap (s : State) (n : Nat) : (s.raise n).tap = s.tap := (raise_evolves s n).frame .tap (by decide)
@[simp] theorem raise_odv (s : State) (n : Nat) (j : Nat) : (s.raise n).odv j = s.odv j := by simp [State.odv]
@[simp] theorem raise_cap (s : State) (n : Nat) (j : Nat) : (s.raise n).cap j = s.cap j := by simp [State.cap]
@[simp] theorem raise_ctr (s : State) (n : Nat) (j : Nat) : (s.raise n).ctr j = s.ctr j := by simp [State.ctr]
@[simp] theorem raise_queue (s : State) (n : Nat) (j : Nat) : (s.raise n).queue? j = s.queue? j := by simp [State.queue?]
@[simp] theorem raise_mem (s : State) (n : Nat) (sp : Space) : (s.raise n).mem sp = s.mem sp := by cases sp <;> simp [State.mem]

/-! ### Readings -/

theorem tablesWf_count {s : State} (h : s.tablesWf) (u n : Nat) : (s.count u n).tablesWf := (count_evolves s u n).tables h
theorem tablesWf_setOd {s : State} (h : s.tablesWf) (k v : Nat) : (s.setOd k v).tablesWf := (setOd_evolves s k v).tables h
theorem tablesWf_raise {s : State} (h : s.tablesWf) (n : Nat) : (s.raise n).tablesWf := (raise_evolves s n).tables h

theorem odv_setOd (s : State) (k v j : Nat) : (s.setOd k v).odv j = if j = k then v else s.odv j := by
  split
  · next e => subst e; exact aget_aset_self
  · next e => exact aget_aset_other (d := odDefault k) e

@[simp] theorem odv_setOd_self (s : State) (k v : Nat) : (s.setOd k v).odv k = v := aget_aset_self

theorem odv_setOd_other (s : State) {k j : Nat} (v : Nat) (h : j ≠ k) : (s.setOd k v).odv j = s.odv j :=
  aget_aset_other (d := odDefault k) h

theorem ctr_count (s : State) (u n j : Nat) :
    (s.count u n).ctr j = if j = u then (s.ctr u + n) % 2 ^ 64 else s.ctr j := by
  split
  · next e => subst e; exact aget_aset_self
  · next e => exact aget_aset_other e

/-- One unit counted. -/
theorem counted_one (s : State) (u n : Nat) : s.counted [(u, n)] (s.count u n) := by
  intro j
  rw [ctr_count]
  by_cases e : j = u
  · subst e; simp
  · have : (u == j) = false := by simp; exact fun e' => e e'.symm
    simp [e, this]

theorem bellRise_level (s : State) (x : Nat) : (s.bellRise x).bell.level = s.bell.level := rfl

theorem bellRise_foldl_level (l : List Nat) (s : State) : (l.foldl bellRise s).bell.level = s.bell.level := by
  induction l generalizing s with
  | nil => rfl
  | cons x t ih => rw [List.foldl_cons, ih, bellRise_level]

theorem mem_level_raise (s : State) (n m : Nat) : m ∈ (s.raise n).bell.level ↔ m = n ∨ m ∈ s.bell.level := by
  unfold raise
  dsimp only
  split
  · next e =>
    have h : n ∈ s.bell.level := by simpa [noteEvent] using e
    show m ∈ s.bell.level ↔ _
    exact ⟨.inr, fun x => x.elim (fun e => e ▸ h) id⟩
  · rw [bellRise_foldl_level]
    show m ∈ sadd s.bell.level n ↔ _
    exact mem_sadd

theorem mem_level_lower (s : State) (n m : Nat) : m ∈ (s.lower n).bell.level ↔ m ≠ n ∧ m ∈ s.bell.level :=
  mem_sdel

/-- A demand on stations that run already, in Service, changes nothing (R486). -/
theorem demand_awake {s : State} {l m : List Nat} (h : s.awake l) (hm : ∀ b ∈ m, b ∈ l) : s.demand m = s := by
  unfold demand
  have hw : s.wake = s := by unfold wake; simp [h.2.1]
  have hf : ∀ k : List Nat, (∀ b ∈ k, b ∈ l) → k.foldl startStation s = s := by
    intro k hk
    induction k with
    | nil => rfl
    | cons b t ih =>
      have hb : s.startStation b = s := by unfold startStation; simp [(h.2.2 b (hk b List.mem_cons_self)).2]
      rw [List.foldl_cons, hb]; exact ih fun x hx => hk x (List.mem_cons_of_mem _ hx)
  dsimp only
  rw [hw]
  split
  · rfl
  · exact hf _ fun b hb => hm b (List.mem_of_mem_filter hb)

/-! ### Queues -/

theorem queue_q {s : State} {q : Nat} {c : QCtx} (h : s.queue? q = some c) : c.q = q := by
  simpa using List.find?_some h

/-- A change of queues that keeps their numbers is seen through the search for one. -/
theorem find_map_q (l : List QCtx) (f : QCtx → QCtx) (hf : ∀ c, (f c).q = c.q) (j : Nat) :
    (l.map f).find? (fun c => c.q == j) = (l.find? fun c => c.q == j).map f := by
  induction l with
  | nil => rfl
  | cons x t ih =>
    simp only [List.map_cons, List.find?_cons, hf]
    split
    · rfl
    · exact ih

theorem queue_setQueue {s : State} {q : Nat} {c d : QCtx} (h : s.queue? q = some c) (hd : d.q = q) (j : Nat) :
    (s.setQueue d).queue? j = if j = q then some d else s.queue? j := by
  have hc := queue_q h
  have hm := find_map_q s.lb.queues (fun x => if x.q == d.q then d else x)
    (fun x => by split <;> simp_all) j
  simp only [queue?, setQueue] at h ⊢
  rw [hm]
  split
  · next e => subst e; rw [h]; simp [hc, hd]
  · next e =>
    cases hf : s.lb.queues.find? (fun c => c.q == j) with
    | none => rfl
    | some x =>
      have hx : x.q = j := by simpa using List.find?_some hf
      have : ¬x.q = d.q := by rw [hx, hd]; exact e
      simp [this]

theorem queueCore_settle (s : State) (j : Nat) : s.settle.queueCore j = s.queueCore j := by
  simp only [queueCore, queue?, settle]
  generalize hu : (fun c : QCtx => if s.headReady c then (if c.readyTick.isSome then c else { c with readyTick := some s.tick }) else { c with readyTick := none }) = u
  have hq : ∀ c, (u c).q = c.q := by intro c; subst hu; dsimp only; split <;> [split; skip] <;> rfl
  have hc : ∀ c, (u c).core = c.core := by intro c; subst hu; dsimp only; split <;> [split; skip] <;> rfl
  rw [find_map_q _ _ hq]
  cases s.lb.queues.find? fun c => c.q == j <;> simp [hc]

end Sys2Proof.Machine.State
end

