-- ==== Sys2Proof/Laws/Writes.lean ====
section
/-! SUPPORT. Writes of objects: what an accepted write comes down to, and how it is answered. -/

namespace Sys2Proof.Machine.State

/-- On a way that is open, a command acts on the state. -/
theorem onWay_reach {s : State} {w : Way} (h : s.reachable w = true) (f : State → State) : s.onWay w f = f s := by
  cases w <;> simp_all [onWay, reachable]

/-- A write that passes its checks and waits for nothing has its effect and is answered. -/
theorem odWriteObj_ok {s : State} {w : Way} {idx sub : Nat} {data : List Byte} (h : s.WriteOk w idx sub data) :
    s.odWriteObj w idx sub data = s.odCommit w [] idx sub (ofBytes data) data := by
  unfold odWriteObj odWrite
  have ht : (isRws idx sub && s.odv K.tandemState == 1) = false := by
    by_cases e : isRws idx sub = true
    · simp [e, h.tandem e]
    · simp [e]
  have hc : (s.dict.trimBusy && calValue idx sub) = false := by
    by_cases e : s.dict.trimBusy = true
    · simp [e, h.trims e]
    · simp [e]
  simp [h.form, h.clock, ht, hc]

theorem demand_ok {s : State} {w : Way} {idx sub : Nat} {data : List Byte} (h : s.WriteOk w idx sub data) :
    s.demand (stationsHolding idx sub) = s := by
  rcases h.running with e | e
  · rw [e]; rfl
  · exact demand_awake e fun _ hb => hb

/-- An access answered with success and no request to echo: one count, one message. -/
theorem respond_done (s : State) (w : Way) :
    ∃ b, s.respond w [] 0 [] = (s.count Ctr.odAccesses 1).send (.response (w.peer.elim 0 (· + 1)) 0 b) := by
  cases w with
  | mailbox => exact ⟨_, rfl⟩
  | xaxia p sid => exact ⟨[], rfl⟩

/-- A refusal with no request to echo: two counts, one message. -/
theorem respond_refused (s : State) (w : Way) {code : Nat} (hc : code ≠ 0) :
    ∃ b, s.respond w [] code [] =
      ((s.count Ctr.odAccesses 1).count Ctr.odAborts 1).send (.response (w.peer.elim 0 (· + 1)) code b) := by
  have e : (code == 0) = false := by simpa using hc
  cases w with
  | mailbox => exact ⟨leBytes 4 code ++ [], by simp [respond, e, answer, Way.peer]⟩
  | xaxia p sid => exact ⟨[], by simp [respond, e, answer, Way.peer]⟩

/-- What the answer to an accepted write leaves. -/
theorem served_respond {s t : State} {w : Way} (hs : t.sent = s.sent) (hm : t.meter = s.meter) :
    s.served w (t.respond w [] 0 []) := by
  obtain ⟨b, e⟩ := respond_done t w
  rw [e]
  have hc : ∀ u, t.ctr u = s.ctr u := fun u => by simp [ctr, hm]
  refine ⟨fun u => ?_, b, by simp [send, count, hs]⟩
  have h : ((t.count Ctr.odAccesses 1).send (.response (w.peer.elim 0 (· + 1)) 0 b)).ctr u = (s.count Ctr.odAccesses 1).ctr u := by
    simp [ctr, send, count, hm]
  rw [h]; exact counted_one _ _ _ u

/-- An accepted write whose effect is its object's own: the effect, then the answer. -/
theorem write_effect {s : State} {w : Way} {idx sub : Nat} {data : List Byte} (h : s.WriteOk w idx sub data)
    (hi : idx ≠ 0x01010 ∧ idx ≠ 0x01033 ∧ idx ≠ 0x03000 ∧ idx ≠ 0x0A000) :
    s.onWay w (fun t => t.odWriteObj w idx sub data) = (s.odEffect idx sub (ofBytes data)).respond w [] 0 [] := by
  rw [onWay_reach h.reach, odWriteObj_ok h]
  unfold odCommit
  simp [h.value, hi]

end Sys2Proof.Machine.State
end

