-- ==== Sys2Proof/WellFormed.lean ====
section
/-! DEFINITION. Which commands are well formed: every operand within the range its rule gives it. A command that is not
is still given a meaning (the numbers it names belong to nothing, or are taken modulo their field). -/

namespace Sys2Proof

/-- Is every operand of a command in range? -/
def Instr.wf : Instr → Bool
  | .letterboxDoorbell data => decide (data < 2 ^ 64)
  | .enable q => decide (q < 2 ^ 20)
  | .disable q => decide (q < 2 ^ 20)
  | .resume q => decide (q < 2 ^ 20)
  | .flush q => decide (q < 2 ^ 20)
  | .header q => decide (q < 2 ^ 20)
  | .frontProduct q => decide (q < 2 ^ 20)
  | .backProduct q => decide (q < 2 ^ 20)
  | .copyConvert q => decide (q < 2 ^ 20)
  | .copyTranspose q => decide (q < 2 ^ 20)
  | .marker q => decide (q < 2 ^ 20)
  | .decodeGatherTimeout => true
  | .letterStart station _ => decide (station < 16)
  | .segmentEnd _ row col ecc => decide (row < 2048) && decide (col < 3072) && decide (ecc < 3)
  | .flushHoldRelease _ _ => true
  | .tileDone drain _ _ => decide (drain.ecc < 3)
  | .passDone drain => decide (drain.ecc < 3)
  | .tileConversionEnd conv => decide (conv.path < 6) && decide (conv.ecc < 3)
  | .kvWaitTimeout path => decide (path < 6)
  | .letterCompletion q seq => decide (q < 2 ^ 20) && decide (seq < 2 ^ 32)
  | .letterboxNotifyAck _ n => decide (n < 256)
  | .reservedRoute q => decide (q < 2 ^ 20)
  | .memoryPortGrant port => decide (port < 34)
  | .burstArrival thread _ ecc _ => decide (thread < 512) && decide (ecc < 5)
  | .softmaxBlock q => decide (q < 2 ^ 20)
  | .softmaxFinish q => decide (q < 2 ^ 20)
  | .attnCombine q => decide (q < 2 ^ 20)
  | .softmaxBwd q => decide (q < 2 ^ 20)
  | .rmsnorm q => decide (q < 2 ^ 20)
  | .rmsnormBwd q => decide (q < 2 ^ 20)
  | .layernorm q => decide (q < 2 ^ 20)
  | .gatedSilu q => decide (q < 2 ^ 20)
  | .gatedSiluBwd q => decide (q < 2 ^ 20)
  | .ewAxpby q => decide (q < 2 ^ 20)
  | .toppSelect q => decide (q < 2 ^ 20)
  | .librarySpecificProgram q => decide (q < 2 ^ 20)
  | .workshopTileDone slot ecc => decide (slot < 2) && decide (ecc < 3)
  | .outlierProductsDone _ _ => true
  | .benchWatchdog row => decide (row.bench < 384)
  | .benchTrap bench => decide (bench < 384)
  | .wsLibLoad _ _ => true
  | .libInstallDone => true
  | .outlierReservationApply => true
  | .openUpdate q => decide (q < 2 ^ 20)
  | .piece q => decide (q < 2 ^ 20)
  | .close q => decide (q < 2 ^ 20)
  | .quant q => decide (q < 2 ^ 20)
  | .gzUnknownProg q => decide (q < 2 ^ 20)
  | .grainDone core _ mem => decide (core < 8) && decide (mem < 4)
  | .add core => decide (core < 8)
  | .sub core => decide (core < 8)
  | .mul core => decide (core < 8)
  | .fma core => decide (core < 8)
  | .lerp core => decide (core < 8)
  | .min core => decide (core < 8)
  | .max core => decide (core < 8)
  | .abs core => decide (core < 8)
  | .div core => decide (core < 8)
  | .sqrt core => decide (core < 8)
  | .sel core => decide (core < 8)
  | .ld load => decide (load.core < 8) && decide (load.ecc < 3)
  | .st core => decide (core < 8)
  | .cvtsr core => decide (core < 8)
  | .cvtbf core => decide (core < 8)
  | .spowi core => decide (core < 8)
  | .body core => decide (core < 8)
  | .commit core => decide (core < 8)
  | .glaziaRuleLoad _ _ => true
  | .reduceScatter q => decide (q < 2 ^ 20)
  | .allGather q => decide (q < 2 ^ 20)
  | .broadcast q => decide (q < 2 ^ 20)
  | .allToAll q => decide (q < 2 ^ 20)
  | .ringRoundStart slot => decide (slot < 8)
  | .contrib port _ _ _ => decide (port < 2)
  | .part port _ _ _ => decide (port < 2)
  | .lateFrame port _ _ _ => decide (port < 2)
  | .credit port _ => decide (port < 2)
  | .notice port _ => decide (port < 2)
  | .chunkDeadline slot _ _ _ => decide (slot < 8)
  | .tagDiscard _ => true
  | .uioTimeout g m => decide (g < 16) && decide (m < 65536)
  | .uioCompletionError g m => decide (g < 16) && decide (m < 65536)
  | .rejoin _ g m => decide (g < 16) && decide (m < 65536)
  | .clearMisses _ g m => decide (g < 16) && decide (m < 65536)
  | .exportAutoStart _ => true
  | .exportBank q _ => decide (q < 2 ^ 20)
  | .guestSend q => decide (q < 2 ^ 20)
  | .exportFrame port _ _ _ => decide (port < 2)
  | .restoreStream port _ _ _ => decide (port < 2)
  | .exportAck port _ => decide (port < 2)
  | .share _ lo hi => decide (lo < 2 ^ 64) && decide (hi < 2 ^ 64)
  | .free _ lo hi => decide (lo < 2 ^ 64) && decide (hi < 2 ^ 64)
  | .pageCmdLo lo => decide (lo < 2 ^ 64)
  | .hello _ _ => true
  | .authStart _ _ => true
  | .authProof _ _ => true
  | .authEnd _ _ => true
  | .read _ _ => true
  | .write _ _ => true
  | .blockRead _ _ => true
  | .blockWriteBegin _ _ => true
  | .blockWriteSegment _ _ => true
  | .blockWriteEnd _ _ => true
  | .snapshot _ _ => true
  | .notify n => decide (n < 1024)
  | .notifyRepeat n => decide (n < 1024)
  | .authStartTimeout sid => decide (sid < 2 ^ 32)
  | .authLockoutEnd _ => true
  | .sessionIdleTimeout sid => decide (sid < 2 ^ 32)
  | .blockTimeout idx subIdx => decide (idx < 2 ^ 20) && decide (subIdx < 256)
  | .blockReadCopyExpiry idx subIdx _ => decide (idx < 2 ^ 20) && decide (subIdx < 256)
  | .plcaFallback => true
  | .neighbourSolicitation _ target => decide (target < 2 ^ 128)
  | .odRead _ => true
  | .odWrite _ => true
  | .odBlockRead _ => true
  | .odBlockWrite _ => true
  | .odSnapshot _ => true
  | .odAuth _ => true
  | .tandemSwap _ _ => true
  | .swapPoint => true
  | .tandemCopy _ _ => true
  | .calUsrCommit _ _ => true
  | .calCommitEnd => true
  | .calUsrRetrain _ _ => true
  | .recipeRingTail _ _ => true
  | .gradQuarTail _ _ => true
  | .cellarBankCurrent _ _ => true
  | .objectWrite _ idx subIdx _ => decide (idx < 2 ^ 20) && decide (subIdx < 256)
  | .clkPllSrc _ pll _ => decide (pll < 4)
  | .clkEnable _ _ => true
  | .xtalGate _ => true
  | .refclkGate clock _ => decide (clock < 2)
  | .xtalMonitorGate _ => true
  | .xtalEdgeMissing => true
  | .xtalJudgeTimeout => true
  | .freewheel pll => decide (pll < 4)
  | .clkFailoverSwitch pll => decide (pll < 4)
  | .pllLocked pll => decide (pll < 4)
  | .clkIdleTimeout station => decide (station < 14)
  | .thermalSample raw => decide (raw.length = 64)
  | .powerMeterSample raw _ => decide (raw.length = 8)
  | .thermtrip => true
  | .pwrHkIdle => true
  | .pilot _ => true
  | .housekeeping _ => true
  | .service _ => true
  | .wakeToService stations => stations.all fun b => decide (b < 14)
  | .pilotWake cause => decide (1 ≤ cause) && decide (cause ≤ 4)
  | .regulatorStart => true
  | .bs0Entry => true
  | .bs1Entry => true
  | .bringupGo _ _ => true
  | .bs2Entry _ _ => true
  | .bs3Entry _ _ _ => true
  | .full _ => true
  | .keepHouse _ => true
  | .keepHousePin => true
  | .keepHouseResetBegin => true
  | .keepHouseRise => true
  | .coldStartBegin => true
  | .hartWatchdog hart => decide (hart < 4)
  | .mainInputFault => true
  | .pwrEnFall => true
  | .auxInputFault => true
  | .auxPowerOn plca => decide (plca < 32)
  | .bellClear _ _ => true
  | .bellAck _ v => decide (v < 65536)
  | .bellRoute _ n _ => decide (n < 1024)
  | .bellVector _ v _ => decide (v < 2048)
  | .bellGlobalEn _ _ => true
  | .bellDeliver target => decide (target < 2052)
  | .msixUnmask v => decide (v ≤ 2048)
  | .meterSnap _ _ => true
  | .snapshotEdge => true
  | .linkTrained port _ _ => decide (port < 2)
  | .linkRetry port => decide (port < 2)
  | .linkDown port => decide (port < 2)
  | .perstAssert port => decide (port < 2)
  | .perstDeassert port => decide (port < 2)
  | .ideIntegrityFail port => decide (port < 2)
  | .inboundWrite port path _ _ _ => decide (port < 2) && decide (path < 5)
  | .inboundRead port path _ _ => decide (port < 2) && decide (path < 4)
  | .bisnpResponse _ => true
  | .spdmRequest path _ _ => decide (path < 3)
  | .secSvnCommit _ _ => true
  | .secFwCommit _ _ => true
  | .fwWriteDone => true
  | .secOwnerKeyNext _ _ => true
  | .secDebugUnlock _ token => decide (token.length ≤ 4096)
  | .recoveryLoad _ => true
  | .extest which _ => decide (which < 3)
  | .tapReset => true
  | .patrolScrub _ _ _ _ => true

end Sys2Proof
end

