-- ==== Sys2Proof/Tests/Slice0.lean ====
section
/-! SUPPORT. The model's own tests: ill-formed commands are refused by Instr.wf, each obligation's premises can be met
(theorems wit_…, at the ends of the ranges where a clause has one), and single steps against values worked out by hand
from the rules named. -/

namespace Sys2Proof.Tests

set_option Elab.async false
open Sys2Proof Sys2Proof.Machine

/-- A number from its fields: first bit, value. -/
def word (l : List (Nat × Nat)) : Nat := l.foldl (fun n x => n + x.2 * 2 ^ x.1) 0

/-- The module in Service after bring-up, every station clocked, both ports UP. -/
def live : State :=
  { State.reset with
    od := [(K.bringupStage, 3), (K.clkEnable, 0x3FFF), (K.clkRunning, 0x3FFF), (K.pwrState, 2), (K.frontMode, 3), (K.backMode, 3),
      (K.portState 0, 2), (K.portState 1, 2)]
    pwr := { State.reset.pwr with starting := 0 } }

/-- A cached queue 0 of the given kind with one letter at sequence number 0, its ring at 0x1000 of the Larder. -/
def qctx (kind : Nat) : QCtx :=
  { q := 0, ringBase := 0x1000, ringSpace := .larder, ringLog2 := 4, kind := kind, prio := 0, st := .ready, head := 0, tail := 1,
    done := 0, crBase := 0x20000, crSpace := .attic, notifySrc := 7, defDeadline := 0, cntBase := 0, cntSpace := .attic,
    isa := 0x43, lastError := 0, errSeq := 0, late := 0, user := 0, ctxError := false, disabling := false, readyTick := none, raw := 0, haltedOn := [] }

/-- The non-zero bytes of an n-byte number at an address. -/
def cells (a n v : Nat) : List Host.Cell := (((leBytes n v).mapIdx fun i b => (a + i, b)).filter fun x => x.2 != 0)

/-- A letter at the head of queue 0 of a kind. -/
def posted (s : State) (kind : Nat) (l : List (Nat × Nat)) : State :=
  { s with larder := ⟨cells 0x1000 128 (word l), []⟩, lb := { s.lb with queues := [qctx kind] } }

/-- A descriptor of format f and dimensions (stride, extent). -/
def desc (at' base f : Nat) (dims : List (Nat × Nat)) : List Host.Cell :=
  cells at' 64 (word ([(0, base), (50, f), (56, dims.length - 1)] ++ dims.mapIdx fun d x => (64 * d + 128, x.1 + (x.2 - 1) * 2 ^ 40)))

/-- A descriptor slot of a letter, at bit lo, that names the descriptor at 0x1000 of a space. -/
def slot (lo space : Nat) : Nat × Nat := (lo, 0x40 + space * 2 ^ 42 + 2 ^ 44)

/-- The state after some commands, each from the state the one before it left. -/
def go (l : List Instr) (s : State) : State := (runCmds l s).getD s

/-- A one-element product: both operands the FP8 element at 0x4000, the FP32 result at 0x6000, K = 1. -/
def productLetter (route : Nat) : List (Nat × Nat) :=
  [(0, route), (12, 1), (64, 1), (136, 0xFFFF), (152, 0xFFFF), (171, 1), (174, 7), (180, 7), (183, 1), (189, 1), slot 256 0, slot 320 0, slot 384 1]

/-- The state with the descriptors of one-element tensors: FP8 at 0x4000 and FP32 at 0x6000 of the Attic. -/
def tensors (s : State) : State :=
  { s with attic := ⟨desc 0x1000 0x4000 4 [(1, 1), (1, 1)], []⟩, cellar := ⟨desc 0x1000 0x6000 1 [(1, 1), (1, 1)], []⟩ }

/-- A product at the head of queue 0. -/
def product (route : Nat) : State := posted (tensors live) 0 (productLetter route)

/-- A two-dimensional tensor of the Attic, n contiguous columns in one row. -/
def tensor (base f n : Nat) : TDesc :=
  { base := base, space := .attic, format := f, rank := 2, blkCode := 0, mx := false, blkDim := 0, sideList := false, paged := false,
    scaleSet := 0, tensorId := 0, dims := [⟨1, 1, 0, 1, 0, 1⟩, ⟨1, n, 0, 1, 0, 1⟩], ts := none, bs := none, wa := none }

/-- A destination of one element as a running letter holds it. -/
def dest (base f : Nat) : DestRun :=
  { desc := tensor base f 1, present := true, isS := false, hist := 0xFFFF, history := false, sat := true, accum := false,
    tsBits := 0x3F800000, eLatched := 0, stale := false, amax := 0, counts := ⟨0, 0, 0, 0, 0, 0, 0, 0, 0, 0, 0⟩, carry := [],
    overflowed := false, listStart := 0, causes := [], wMin := 0, wMax := 0 }

/-- The constituent of a running letter of queue 0. -/
def part (l : Letter) : Part :=
  { queue := 0, seq := 0, letter := l, y3 := false, a := some (tensor 0x4000 4 1), b := some (tensor 0x4000 4 1),
    d := some (dest 0x6000 1), s := none, rows := 1, replays := 0, deadline := none, late := false, recipe := false, oprange := false,
    poisonBit := false, nonfinite := false, saturated := false, histStale := false, window := false, outReplayed := false, nf := 0,
    nfTiles := [], kv := none, pb := 0, tileRows := 1, pins := [] }

/-- A one-element room run at its first tile. -/
def room : RoomRun :=
  { mode := .split, m := 128, w := 384, cols := 1, i0 := 0, groups := 1, larder := false, bf16 := false, passLen := 1, footprint := 1,
    lanes := [], passesDone := 0, tilesDone := 0, poisonTile := false }

/-- A running one-element product of the Front Room. -/
def productOp : Op :=
  { target := .front, slot := 0, parts := [part (parseLetter (word (productLetter 1)))], started := true, merged := false,
    dispatchTick := 0, kop := 0, replays := 0, captain := [], replayWaiting := false, discarding := false, keepMode := 0,
    room := some room, tilesConv := 0, wsNext := 0, wsRows := [], kvFrames := [], kvWaiting := none, outDone := 0, outFaults := [],
    buf := [], finished := false, error := 0 }

/-- The module with letters that run, and queue 0 with its one letter dispatched. -/
def running (ops : List Op) : State := { live with lb := { live.lb with ops := ops, queues := [{ qctx 0 with head := 1 }] } }

/-! ### Bool forms of the premises, so that each is one evaluation -/

def awakeB (s : State) (l : List Nat) : Bool :=
  s.powered && s.odv K.pwrState == 2 && l.all fun b => bit (s.odv K.clkEnable) b && bit (s.odv K.clkRunning) b

theorem awake_of {s : State} {l : List Nat} (h : awakeB s l = true) : s.awake l := by
  simp only [awakeB, Bool.and_eq_true, List.all_eq_true, beq_iff_eq] at h
  exact ⟨h.1.1, h.1.2, fun b hb => h.2 b hb⟩

def headB (s : State) (q : Nat) (c : QCtx) (l : Letter) : Bool :=
  awakeB s [4] && decide (s.queue? q = some c) && s.headReady c && !s.letterPoisoned c c.head && decide (s.letterAt c c.head = l)
    && (s.lb.fin.all fun f => f.queue != q) && (s.lb.cached.contains q || decide (s.lb.cached.length < 4096)) && s.gz.closing.isNone

theorem head_of {s : State} {q : Nat} {c : QCtx} {l : Letter} (h : headB s q c l = true) : s.HeadIs q c l := by
  simp only [headB, Bool.and_eq_true, Bool.or_eq_true, List.all_eq_true, bne_iff_ne, decide_eq_true_eq, Bool.not_eq_true',
    List.contains_iff_mem, Option.isNone_iff_eq_none] at h
  obtain ⟨⟨⟨⟨⟨⟨⟨h1, h2⟩, h3⟩, h4⟩, h5⟩, h6⟩, h7⟩, h8⟩ := h
  exact ⟨awake_of h1, h2, h3, h4, h5, fun f hf => h6 f hf, h7, fun x b hx => by simp [h8] at hx⟩

theorem room_of {s : State} {q : Nat} (h : s.lb.cached.length < 4096) : s.cacheRoom q := .inr h

theorem noClose_of {s : State} {q : Nat} (h : s.gz.closing.isNone = true) : s.noClose q := by
  intro x b hx
  simp [hx] at h

def writeOkB (s : State) (w : Way) (idx sub : Nat) (data : List Byte) : Bool :=
  s.reachable w && s.writeForm w idx sub ((objInfo idx sub).elim 0 (·.ty)) data == 0 && !s.relocking idx sub
    && (!isRws idx sub || s.odv K.tandemState != 1) && (!s.dict.trimBusy || !calValue idx sub)
    && s.writeValue idx sub (ofBytes data) == 0 && ((stationsHolding idx sub).isEmpty || awakeB s (stationsHolding idx sub))

theorem writeOk_of {s : State} {w : Way} {idx sub : Nat} {data : List Byte} (h : writeOkB s w idx sub data = true) :
    s.WriteOk w idx sub data := by
  simp only [writeOkB, Bool.and_eq_true, Bool.or_eq_true, Bool.not_eq_true', beq_iff_eq, bne_iff_ne, List.isEmpty_iff] at h
  obtain ⟨⟨⟨⟨⟨⟨h1, h2⟩, h3⟩, h4⟩, h5⟩, h6⟩, h7⟩ := h
  exact ⟨h1, h2, h3, fun h => h4.resolve_left (by simp [h]), fun h => h5.resolve_left (by simp [h]), h6, h7.imp id awake_of⟩

def contentB (s : State) (w : Way) (idx sub : Nat) (data : List Byte) : Bool :=
  s.reachable w && s.writeForm w idx sub ((objInfo idx sub).elim 0 (·.ty)) data == 0 && !s.relocking idx sub
    && ((objInfo idx sub).elim true fun o => s.rangeAbort idx sub o (ofBytes data) == 0)
    && s.stateAbort idx sub (ofBytes data) == 0 && awakeB s (stationsHolding idx sub)

theorem content_of {s : State} {w : Way} {idx sub : Nat} {data : List Byte} (h : contentB s w idx sub data = true) :
    s.WriteToContent w idx sub data := by
  simp only [contentB, Bool.and_eq_true, Bool.not_eq_true', beq_iff_eq] at h
  obtain ⟨⟨⟨⟨⟨h1, h2⟩, h3⟩, h4⟩, h5⟩, h6⟩ := h
  exact ⟨h1, h2, h3, fun o ho => by rw [Option.mem_def.mp ho] at h4; simpa using h4, h5, .inr (awake_of h6)⟩

/-! ### Well-formed commands -/

/-- One command per check of Instr.wf, at the first value the check refuses. -/
def illFormed : List Instr :=
  [.letterboxDoorbell (2 ^ 64), .enable (2 ^ 20), .frontProduct (2 ^ 20), .letterStart 16 0, .segmentEnd false 2048 0 0, .segmentEnd false 0 3072 0,
   .segmentEnd false 0 0 3, .tileDone ⟨true, 3⟩ 0 0, .passDone ⟨true, 3⟩, .tileConversionEnd ⟨6, 0⟩, .tileConversionEnd ⟨0, 3⟩, .kvWaitTimeout 6, .letterCompletion 0 (2 ^ 32), .letterboxNotifyAck none 256,
   .memoryPortGrant 34, .burstArrival 512 0 0 0, .burstArrival 0 0 5 0, .workshopTileDone 2 0, .workshopTileDone 0 3, .benchWatchdog ⟨384, 0⟩,
   .benchTrap 384, .openUpdate (2 ^ 20), .grainDone 8 0 0, .grainDone 0 0 4, .add 8, .ld ⟨8, 0, 0⟩, .ld ⟨0, 3, 0⟩, .commit 8, .reduceScatter (2 ^ 20), .ringRoundStart 8,
   .contrib 2 0 [] false, .credit 2 0, .chunkDeadline 8 0 0 0, .uioTimeout 16 0, .uioTimeout 0 65536, .rejoin .mailbox 16 0,
   .clearMisses .mailbox 0 65536, .exportFrame 2 0 [] [], .exportAck 2 0, .share none (2 ^ 64) 0, .free none 0 (2 ^ 64), .pageCmdLo (2 ^ 64),
   .notify 1024, .authStartTimeout (2 ^ 32), .blockTimeout (2 ^ 20) 0, .blockTimeout 0 256, .blockReadCopyExpiry 0 256 none,
   .neighbourSolicitation 0 (2 ^ 128), .objectWrite .mailbox (2 ^ 20) 0 [], .clkPllSrc .mailbox 4 [], .refclkGate 2 0, .freewheel 4,
   .clkIdleTimeout 14, .thermalSample [], .powerMeterSample [0] 0, .wakeToService [14], .pilotWake 0, .pilotWake 5, .hartWatchdog 4,
   .auxPowerOn 32, .bellAck none 65536, .bellRoute .mailbox 1024 [], .bellVector .mailbox 2048 [], .bellDeliver 2052, .msixUnmask 2049,
   .linkTrained 2 0 0, .perstAssert 2, .inboundWrite 0 5 0 [] false, .inboundRead 0 4 0 0, .spdmRequest 3 [] false,
   .secDebugUnlock .mailbox (List.replicate 4097 0), .extest 3 0]

theorem test_wf_refuses : illFormed.all (fun i => !i.wf) = true := by decide +kernel

/-- The same commands at the last value that is in range. -/
theorem test_wf_accepts : ([.letterboxDoorbell (2 ^ 64 - 1), .enable (2 ^ 20 - 1), .segmentEnd true 2047 3071 2, .letterCompletion (2 ^ 20 - 1) (2 ^ 32 - 1),
    .burstArrival 511 0 4 0, .bellDeliver 2051, .msixUnmask 2048, .pilotWake 4, .thermalSample (List.replicate 64 0), .inboundWrite 1 4 0 [] true] :
    List Instr).all Instr.wf = true := by decide +kernel

/-- No row of the table gives bits: no word spells a command, and placing one changes nothing. -/
theorem test_no_words : decodeTableWord 32 0xFFFFFFFF = none ∧ State.reset.withFetchWord 32 7 = State.reset := ⟨rfl, rfl⟩

/-! ### The premises of the obligations can be met -/

theorem wit_StepOnEmptyQueueTicks :
    live.pending = [] ∧ live.pwr.auxOn = true ∧ live.pwr.pwrGood = true ∧ live.odv K.thermLevel < 8 ∧
    { live with pwr := { live.pwr with auxOn := false } }.pwr.auxOn = false := by decide +kernel

theorem wit_StepKeepsMemories : State.reset.memsWf := ⟨rfl, rfl, rfl, rfl⟩

/-- The module with two commands waiting. -/
def waiting : State := { live with pending := [.msixUnmask 2048, .marker 0] }

theorem wit_StepKeepsTables : (∃ t, step waiting = .next t) ∧ waiting.tablesWf ∧ waiting.meterWf :=
  ⟨⟨_, rfl⟩, by unfold State.tablesWf; decide +kernel, by unfold State.meterWf; decide +kernel⟩

theorem wit_StepKeepsRecord : waiting.pending = .msixUnmask 2048 :: [.marker 0] ∧ ∃ t, step waiting = .next t := ⟨rfl, _, rfl⟩

theorem wit_DoorbellPublishes : live.awake [4] ∧ live.cacheRoom (2 ^ 20 - 1) := ⟨awake_of (by decide +kernel), room_of (by decide +kernel)⟩
theorem wit_EnableLoadsContext : (running []).awake [4] ∧ (running []).cacheRoom (2 ^ 20 - 1) ∧ (running []).queue? (2 ^ 20 - 1) = none ∧
    (∃ c, (running []).queue? 0 = some c) := ⟨awake_of (by decide +kernel), room_of (by decide +kernel), by decide +kernel, _, rfl⟩

/-- Queue 0 as given, its letters not run. -/
def queued (c : QCtx) : State := { live with lb := { live.lb with queues := [c] } }

theorem wit_DisableAndResume : ∀ x ∈ [(qctx 0, true), ({ qctx 0 with head := 1 }, false), ({ qctx 0 with st := .halted, ctxError := true }, true),
      ({ qctx 0 with st := .flushing, head := 1 }, false), ({ qctx 0 with st := .halted, haltedOn := [0] }, true)],
    (queued x.1).awake [4] ∧ (queued x.1).cacheRoom 0 ∧ (queued x.1).queue? 0 = some x.1 ∧ decide (x.1.done = x.1.head) = x.2 := by
  intro x hx
  exact ⟨awake_of (by simp only [List.mem_cons, List.not_mem_nil, or_false] at hx; rcases hx with h | h | h | h | h <;> subst h <;> decide +kernel),
    room_of (Nat.zero_lt_succ _), (by simp only [List.mem_cons, List.not_mem_nil, or_false] at hx; rcases hx with h | h | h | h | h <;> subst h <;> decide +kernel)⟩

/-- A queue whose next letters wrap past 2^32. -/
def wrapping : QCtx := { qctx 0 with head := 2 ^ 32 - 1, done := 2 ^ 32 - 1, tail := 3, st := .halted }

theorem wit_FlushAborts : let s : State := { live with lb := { live.lb with queues := [wrapping] } }
    s.awake [4] ∧ s.queue? 0 = some wrapping ∧ wrapping.ctxError = false ∧ wrapping.st ≠ .flushing ∧ wrapping.disabling = false ∧
    wrapping.done = wrapping.head ∧ wrapping.head < 2 ^ 32 ∧ wrapping.tail < 2 ^ 32 ∧ (∀ f ∈ s.lb.fin, f.queue ≠ 0) ∧ s.cacheRoom 0 ∧ s.noClose 0 :=
  ⟨awake_of (by decide +kernel), by decide +kernel, by decide +kernel, by decide +kernel, by decide +kernel, by decide +kernel,
    by decide +kernel, by decide +kernel, by decide +kernel, room_of (by decide +kernel), noClose_of rfl⟩

theorem wit_NotifyAckClears : 255 < 256 ∧ live.awake [4] ∧ live.mboxOn = true ∧
    live.writeForm .mailbox 0x04032 0 ((objInfo 0x04032 0).elim 0 (·.ty)) (leBytes 1 255) = 0 ∧
    live.relocking 0x04032 0 = false ∧ live.writeValue 0x04032 0 255 = 0 := ⟨by decide, awake_of (by decide +kernel), by decide +kernel⟩

/-- A letter as it stands in memory. -/
def letterOf (l : List (Nat × Nat)) : Letter := parseLetter (word l)

theorem wit_LettersAreDispatched_room :
    (product 2).HeadIs 0 (qctx 0) (letterOf (productLetter 2)) ∧ (letterOf (productLetter 2)).route = 2 ∧
    targetOf (letterOf (productLetter 2)) = some .back ∧ (∀ g ∈ (product 2).lb.gathers, g.joins (qctx 0) (letterOf (productLetter 2)) = false) ∧ (product 2).chosen 0 .back = true ∧
    (product 2).dispatchHeld .back (letterOf (productLetter 2)) = false ∧ (product 2).freeSlot .back = some 0 ∧
    (validate (product 2) (qctx 0) (letterOf (productLetter 2))).err = none :=
  ⟨head_of (by decide +kernel), by decide +kernel⟩

/-- A one-element copy at the head of a queue of its kind. -/
def copyLetter (route : Nat) : List (Nat × Nat) :=
  [(0, route), (136, 0xFFFF), (152, 0xFFFF), (171, 7), (174, 7), (177, 7), (180, 7), (183, 7), (189, 1), slot 256 0, slot 384 1]
def copy (route : Nat) : State := posted (tensors live) 1 (copyLetter route)

theorem wit_LettersAreDispatched_copy :
    (copy 8).HeadIs 0 (qctx 1) (letterOf (copyLetter 8)) ∧ (letterOf (copyLetter 8)).route = 8 ∧
    targetOf (letterOf (copyLetter 8)) = some .copy ∧ (∀ g ∈ (copy 8).lb.gathers, g.joins (qctx 1) (letterOf (copyLetter 8)) = false) ∧ (copy 8).chosen 0 .copy = true ∧
    (copy 8).dispatchHeld .copy (letterOf (copyLetter 8)) = false ∧ (copy 8).freeSlot .copy = some 0 ∧
    (validate (copy 8) (qctx 1) (letterOf (copyLetter 8))).err = none :=
  ⟨head_of (by decide +kernel), by decide +kernel⟩

/-- A Workshop letter of one row at the head of queue 0, its parameter block at 0x2000, the library holding its program. -/
def workLetter (prog : Nat) : List (Nat × Nat) :=
  [(0, 4), (136, 0xFFFF), (152, 0xFFFF), (171, 1), (174, 7), (177, 7), (180, 7), (183, 7), (189, 1), (224, prog), slot 256 0,
   slot 384 1, (640, 0x2000)]
def work (prog kind : Nat) (more : List (Nat × Nat)) : State :=
  let s := posted (tensors live) kind (workLetter prog ++ more)
  { s with ws := { s.ws with progs := [⟨prog, true, true, true, true, true, 1, 1024, false, 4, 4⟩] }, od := aset 0 s.od K.libState 1,
           attic := ⟨s.attic.cells ++ cells 0x2000 2 prog, []⟩ }

theorem wit_LettersAreDispatched_workshop : let l := letterOf (workLetter 0x30)
    (work 0x30 0 []).HeadIs 0 (qctx 0) l ∧ (l.route = 4 ∧ l.prog % 4096 = 0x30) ∧ targetOf l = some .workshop ∧
    (∀ g ∈ (work 0x30 0 []).lb.gathers, g.joins (qctx 0) l = false) ∧ (work 0x30 0 []).chosen 0 .workshop = true ∧
    (work 0x30 0 []).dispatchHeld .workshop l = false ∧ (work 0x30 0 []).freeSlot .workshop = some 0 ∧
    (validate (work 0x30 0 []) (qctx 0) l).err = none :=
  ⟨head_of (by decide +kernel), by decide +kernel⟩

theorem wit_LettersAreDispatched_decode : let l := letterOf (workLetter 0x30 ++ [(800, 5)])
    let s := work 0x30 4 [(800, 5)]
    s.HeadIs 0 (qctx 4) l ∧ l.batchKey ≠ 0 ∧ targetOf l = some .workshop ∧ (∀ g ∈ s.lb.gathers, g.joins (qctx 4) l = false) ∧ s.chosen 0 .workshop = true ∧
    s.dispatchHeld .workshop l = false ∧ s.freeSlot .workshop = some 0 ∧ (validate s (qctx 4) l).err = none :=
  ⟨head_of (by decide +kernel), by decide +kernel⟩

/-- The module with one gather for the Front Room, of one letter or of as many as one may hold. -/
def gathering (n : Nat) : State :=
  { tensors live with lb := { live.lb with gathers := [⟨0, 10, .front, 0, List.replicate n (part (letterOf (productLetter 1)))⟩] } }

theorem wit_LettersAreDispatched_gather : ∀ n ∈ [1, 4096], let g : Gather := ⟨0, 10, .front, 0, List.replicate n (part (letterOf (productLetter 1)))⟩
    (gathering n).gatherEnding = some g ∧ g.parts ≠ [] ∧ (gathering n).targetHeld g.target (g.parts.any (·.hasList)) = false ∧
    ∀ p ∈ g.parts, (if g.parts.length < 4096 then (gathering n).atLeast (g.startTick + g.limit) else gathering n).gatherErr p = none := by
  intro n hn
  have h : ∀ p ∈ List.replicate n (part (letterOf (productLetter 1))), p = part (letterOf (productLetter 1)) := fun p hp => List.eq_of_mem_replicate hp
  have e : (gathering n).gatherEnding = some ⟨0, 10, .front, 0, List.replicate n (part (letterOf (productLetter 1)))⟩ := by
    simp only [State.gatherEnding, gathering, List.find?, List.foldl]
    split <;> rename_i x hx <;> split at hx <;> simp_all
  simp only [List.mem_cons, List.not_mem_nil, or_false] at hn
  rcases hn with rfl | rfl
  · exact ⟨e, by decide +kernel, by decide +kernel, fun p hp => by rw [h p hp]; decide +kernel⟩
  · exact ⟨e, fun c => absurd ((List.length_replicate ..).symm.trans (congrArg List.length c)) (by decide), by decide +kernel,
      fun p hp => by rw [h p hp]; decide +kernel⟩

theorem wit_RefusedLettersHaltTheirQueue_check : let l := letterOf (workLetter 1)
    let s : State := { work 0x30 0 [] with larder := ⟨cells 0x1000 128 (word (workLetter 1)), []⟩ }
    s.HeadIs 0 (qctx 0) l ∧ (l.route = 4 ∧ l.prog % 4096 = 1) ∧ targetOf l = some .workshop ∧ (∀ g ∈ s.lb.gathers, g.joins (qctx 0) l = false) ∧
    s.chosen 0 .workshop = true ∧ s.dispatchHeld .workshop l = false ∧ (s.freeSlot .workshop).isSome = true ∧
    (validate s (qctx 0) l).err = some Err.wsProgram :=
  ⟨head_of (by decide +kernel), by decide +kernel⟩

theorem wit_RefusedLettersHaltTheirQueue_room : let l := letterOf [(0, 1), (64, 1)]
    let s := posted live 0 [(0, 1), (64, 1)]
    s.HeadIs 0 (qctx 0) l ∧ l.route = 1 ∧ targetOf l = some .front ∧ (∀ g ∈ s.lb.gathers, g.joins (qctx 0) l = false) ∧ s.chosen 0 .front = true ∧
    s.dispatchHeld .front l = false ∧ (s.freeSlot .front).isSome = true ∧ (validate s (qctx 0) l).err = some Err.slot :=
  ⟨head_of (by decide +kernel), by decide +kernel⟩

theorem wit_RefusedLettersHaltTheirQueue_route : (posted live 0 [(0, 0xFF)]).HeadIs 0 (qctx 0) (letterOf [(0, 0xFF)]) ∧
    routeAssigned (letterOf [(0, 0xFF)]).route = false := ⟨head_of (by decide +kernel), by decide +kernel⟩

theorem wit_RefusedLettersHaltTheirQueue_poison :
    let s : State := { posted live 0 [] with larder := ⟨[], [0x83]⟩ }
    s.awake [4] ∧ s.queue? 0 = some (qctx 0) ∧ s.headReady (qctx 0) = true ∧ s.letterPoisoned (qctx 0) 0 = true ∧
    (∀ f ∈ s.lb.fin, f.queue ≠ 0) ∧ s.cacheRoom 0 ∧ s.noClose 0 :=
  ⟨awake_of (by decide +kernel), by decide +kernel, by decide +kernel, by decide +kernel, by decide +kernel, room_of (by decide +kernel),
    noClose_of rfl⟩

theorem wit_HeadersAndMarkersComplete :
    ((posted live 0 [(640, 0x43)]).HeadIs 0 (qctx 0) (letterOf [(640, 0x43)]) ∧ (letterOf [(640, 0x43)]).route = 0 ∧
      bits (letterOf [(640, 0x43)]).param0 0 8 ∈ [0x32, 0x33, 0x34, 0x35, 0x40, 0x41, 0x42, 0x43] ∧
      slotBad false (letterOf [(640, 0x43)]) = false ∧ (letterOf [(640, 0x43)]).batchKey = 0) ∧
    ((posted live 0 [(640, 0x44)]).HeadIs 0 (qctx 0) (letterOf [(640, 0x44)]) ∧ (letterOf [(640, 0x44)]).route = 0 ∧
      ¬bits (letterOf [(640, 0x44)]).param0 0 8 ∈ [0x32, 0x33, 0x34, 0x35, 0x40, 0x41, 0x42, 0x43]) ∧
    ((posted live 0 [(0, 0x30)]).HeadIs 0 (qctx 0) (letterOf [(0, 0x30)]) ∧ (letterOf [(0, 0x30)]).route = 0x30 ∧
      firstErr (checks123 (qctx 0) (letterOf [(0, 0x30)])) = none) :=
  ⟨⟨head_of (by decide +kernel), by decide +kernel⟩, ⟨head_of (by decide +kernel), by decide +kernel⟩,
    head_of (by decide +kernel), by decide +kernel⟩

theorem wit_RecordHoldsItsFields :
    let f := immediate (qctx 0) (2 ^ 32 - 1) 0x70 (letterOf [(832, 2 ^ 64 - 1)]) true 0
    f.seq < 2 ^ 32 ∧ f.queue < 2 ^ 20 ∧ f.error < 256 ∧ f.userTag < 2 ^ 64 ∧ 2 ^ 64 - 1 < 2 ^ 64 := by decide +kernel

theorem wit_LetterStartsAtItsStation_replay :
    let o := { productOp with started := false, kop := 1 }
    (running [o]).lb.ops.find? (fun x => x.station == 0 && !x.started && x.error == 0 && !x.replayWaiting) = some o ∧ o.parts ≠ [] ∧
    (running [o]).awake o.clocks ∧ o.kop ≠ 0 := ⟨by decide +kernel, by decide +kernel, awake_of (by decide +kernel), by decide +kernel⟩

/-- A constituent whose operand A names a tensor scale that reads +0. -/
def badPart : Part := { part (letterOf []) with seq := 1, a := some { tensor 0x4000 4 1 with ts := some ⟨.attic, 0x9000⟩ } }

theorem wit_LetterStartsAtItsStation_bad :
    let o := { productOp with started := false, parts := [badPart] }
    (running [o]).lb.ops.find? (fun x => x.station == 0 && !x.started && x.error == 0 && !x.replayWaiting) = some o ∧ o.parts ≠ [] ∧
    (running [o]).awake o.clocks ∧ o.kop = 0 ∧ (∀ p ∈ o.parts, scalesBad (running [o]) p = true) ∧ (running [o]).noReplays o.target :=
  ⟨by decide +kernel, by decide +kernel, awake_of (by decide +kernel), by decide +kernel, by decide +kernel,
    by unfold State.noReplays; decide +kernel⟩

theorem wit_LetterStartsAtItsStation_mixed :
    let o := { productOp with started := false, parts := productOp.parts ++ [badPart] }
    (running [o]).lb.ops.find? (fun x => x.station == 0 && !x.started && x.error == 0 && !x.replayWaiting) = some o ∧ o.parts ≠ [] ∧
    (running [o]).awake o.clocks ∧ o.kop = 0 ∧ (∃ p ∈ o.parts, scalesBad (running [o]) p = false) ∧
    (o.parts.map fun p => (p.queue, p.seq)).Nodup ∧ ∃ p ∈ o.parts, scalesBad (running [o]) p = true :=
  ⟨by decide +kernel, by decide +kernel, awake_of (by decide +kernel), by decide +kernel, by decide +kernel, by decide +kernel,
    by decide +kernel⟩

theorem wit_LetterStartsAtItsStation_history :
    let p := { part (letterOf [(0, 1)]) with d := some { dest 0x6000 1 with hist := 5, history := true } }
    let o := { productOp with started := false, parts := [p] }
    (running [o]).lb.ops.find? (fun x => x.station == 0 && !x.started && x.error == 0 && !x.replayWaiting) = some o ∧ o.parts ≠ [] ∧
    (running [o]).awake o.clocks ∧ o.kop = 0 ∧ (∃ p ∈ o.parts, scalesBad (running [o]) p = false) ∧ o.parts = [p] ∧
    (∃ d ∈ p.d, d.hist ≠ 0xFFFF ∧ d.history = true) ∧ p.s = none ∧ p.emptyOut = false :=
  ⟨by decide +kernel, by decide +kernel, awake_of (by decide +kernel), by decide +kernel, by decide +kernel, by decide +kernel,
    ⟨_, rfl, by decide +kernel⟩, by decide +kernel⟩

/-- A burst of whole sectors of the Attic for operand A's first visit. -/
def burst (at' len : Nat) : Burst :=
  { space := .attic, addr := at', len := len, isB := false, tile := 0, src := (List.range (len / 32)).map fun i => (.attic, at' / 32 + i),
    copyTo := none }

/-- A read thread or drain stream of the Front Room with bursts to issue and bursts on their way. -/
def thread (num : Nat) (queue outstanding : List Burst) : Contender :=
  { num := num, station := 0, queue := queue, outstanding := outstanding, buffered := 0, backlog := 0, cap := 32768, clock := 0, rateNum := 1,
    rateDen := 1, lastBytes := false }
def porch (cs : List Contender) (snoop : List Nat) : State :=
  { running [productOp] with
    porch := ⟨[⟨0, 0, 0, .attic, [0], 0, 1, 1⟩], cs, [], 0⟩, cxl := { live.cxl with snoop := snoop } }

theorem wit_SegmentsFlushOnce : let s := running [productOp]
    s.meterWf ∧ s.opAt 0 = some productOp ∧ productOp.room = some room ∧ productOp.parts ≠ [] ∧
    productOp.started = true ∧ s.held false = none ∧ 0 < productOp.rows ∧ 0 < productOp.colsAt 0 ∧
    room.tilesDone ≤ productOp.tileOf room 0 0 ∧ productOp.discarding = false ∧ (room.lane 0 0).1 < segsOf (productOp.kAt 0) ∧
    laneReady productOp room 0 0 0 = true ∧ s.segWaits productOp room 0 0 0 = false ∧ (segment s productOp 0 0 0).badWidth = false ∧
    (passOf (productOp.kAt 0) room 0).2 % (passShape productOp.y3 (productOp.kAt 0) room 0).per = 0 ∧
    s.flushHeld productOp room 0 0 0 0 0 = false ∧ (porch [thread 0 [] [burst 0x4000 2048]] []).segWaits productOp room 0 0 0 = true ∧
    (running [{ productOp with room := some { room with larder := true } }]).opAt 0 =
      some { productOp with room := some { room with larder := true } } ∧
    (running [{ productOp with room := some { room with larder := true, bf16 := true } }]).opAt 0 =
      some { productOp with room := some { room with larder := true, bf16 := true } } :=
  ⟨by unfold State.meterWf; decide +kernel, by decide +kernel⟩

/-- A letter of queue 1 whose one tile is done and waits for the Landing. -/
def earlier : Op :=
  { productOp with parts := [{ part (letterOf [(0, 1)]) with queue := 1 }], room := some { room with tilesDone := 1, lanes := [(0, (1, false))] } }

theorem wit_SegmentsFlushOnce_held : let s := running [earlier, productOp]
    s.meterWf ∧ s.opAt 0 = some productOp ∧ s.held false = none ∧ room.tilesDone ≤ productOp.tileOf room 0 0 ∧
    laneReady productOp room 0 0 0 = true ∧ (passOf (productOp.kAt 0) room 0).2 % (passShape productOp.y3 (productOp.kAt 0) room 0).per = 0 ∧
    s.flushHeld productOp room 0 0 0 0 0 = true :=
  ⟨by unfold State.meterWf; decide +kernel, by decide +kernel⟩

theorem wit_SegmentsFlushOnce_release : let s := { running [productOp] with rooms := ⟨[], [], some (0, 0), none⟩ }
    s.meterWf ∧ s.opAt 0 = some productOp ∧ s.held false = some (0, 0) ∧ s.flushHeld productOp room 0 0 0 0 0 = false :=
  ⟨by unfold State.meterWf; decide +kernel, by decide +kernel⟩

/-- The product with K elements in passes of 256, some segments of its lane flushed and some passes done. -/
def passes (k segs done : Nat) : Op :=
  { productOp with
    parts := [{ part { letterOf (productLetter 1) with k := k } with a := some (tensor 0x4000 4 k), b := some { tensor 0x4000 4 k with dims := (tensor 0x4000 4 k).dims.reverse } }],
    room := some { room with passLen := 256, lanes := [(0, (segs, false))], passesDone := done } }

theorem wit_TilesAndPassesEnd_pass : ∀ x ∈ [(512, 1, 0), (768, 2, 1)],
    let o := passes x.1 x.2.1 x.2.2
    let r := { room with passLen := 256, lanes := [(0, (x.2.1, false))], passesDone := x.2.2 }
    (running [o]).opAt 0 = some o ∧ o.room = some r ∧ o.parts ≠ [] ∧ o.started = true ∧ r.passesDone + 1 < passCount (o.tileK r 0) r ∧
    tileFlushed o r 0 r.passesDone = true ∧ r.larder = false ∧ 0 < r.m ∧ o.tileElems r 0 = [(0, 0)] ∧ r.passLen < o.kAt 0 ∧
    r.passesDone < passCount (o.kAt 0) r := by
  decide +kernel

theorem wit_TilesAndPassesEnd_tile : ∀ discard ∈ [false, true],
    let r := { room with lanes := [(0, (1, true))] }
    let o := { productOp with room := some r, discarding := discard }
    (running [o]).opAt 0 = some o ∧ o.room = some r ∧ o.parts ≠ [] ∧ o.started = true ∧ r.passesDone + 1 = passCount (o.tileK r 0) r ∧
    tileFlushed o r 0 0 = true ∧ (running [o]).noReplays o.target ∧ ∃ x ∈ o.tileElems r 0, (r.lane x.1 x.2).2 = true := by
  unfold State.noReplays; decide +kernel

/-- The product whose one tile, of value 1, is done and waits for the Landing. -/
def handedOver (p : Part) : Op := { productOp with parts := [p], room := some { room with tilesDone := 1, lanes := [(0, (1, false))] } }
def landing (p : Part) : State := { running [handedOver p] with rooms := ⟨[(0, 0x3F800000 * 2)], [], none, none⟩ }

theorem wit_ConvertedElementsAreStored_width :
    let p := { part (letterOf (copyLetter 8)) with a := some { tensor 0x4000 15 1 with blkCode := 1, blkDim := 1, wa := some ⟨.cellar, 0x8000⟩ } }
    let o := { productOp with target := .copy, room := none, parts := [p] }
    let s := { running [o] with cellar := ⟨[(0x8000, 9)], []⟩ }
    o.parts ≠ [] ∧ s.convertible 4 = some o ∧ s.pel.voided = [] ∧ s.noReplays o.target ∧ s.visitAwaited o 0 = false ∧ widthFault s o 0 = true := by
  unfold State.noReplays; decide +kernel

theorem wit_ConvertedElementsAreStored_tile : ∀ ecc ∈ [0, 1],
    let p := part (letterOf (productLetter 1))
    let s := landing p
    let r := { room with tilesDone := 1, lanes := [(0, (1, false))] }
    let v := s.landingEcc (handedOver p) r 0 (if r.passLen < (handedOver p).tileK r 0 then pairAt r else 0) ecc
    s.convertible 0 = some (handedOver p) ∧ (handedOver p).room = some r ∧ widthFault s (handedOver p) 0 = false ∧
    (p.d.all fun d => !d.desc.paged && d.present && !d.accum && !d.desc.sideList && d.desc.blkCode == 0 && d.desc.format == 1
      && decide (d.desc.space ≠ .host) && !d.history) = true ∧
    v.rangeTrigger (handedOver p) 0 (tileEls v (handedOver p) 0) = none ∧ p.s = none ∧ s.pel.voided = [] ∧
    ((tileEls v (handedOver p) 0).map fun e => (e.part, e.row, e.col, e.val.toNat, e.poison)) = [(0, 0, 0, 0x3F800000, false)] := by
  decide +kernel

theorem wit_ConvertedElementsAreStored_wait :
    let o := { productOp with kvWaiting := some 0 }
    o.parts ≠ [] ∧ (running [o]).lb.ops.find? (fun x => x.station == 0 && x.kvWaiting.isSome && x.error == 0) = some o ∧
    (running [o]).noReplays o.target := by unfold State.noReplays; decide +kernel

theorem wit_LettersComplete : ∀ o ∈ [{ productOp with error := Err.formatWidth }, { handedOver (part (letterOf (productLetter 1))) with tilesConv := 1 }],
    let s := running [o]
    s.lb.ops.find? (fun x => x.parts.any fun y => y.queue == 0 && y.seq == 0) = some o ∧
    o.parts = [part (letterOf (productLetter 1))] ∧ o.target ≠ .peloton ∧ s.queue? 0 = some { qctx 0 with head := 1 } ∧
    (qctx 0).disabling = false ∧ (qctx 0).st ≠ .flushing ∧ (∀ f ∈ s.lb.fin, f.queue ≠ 0) ∧ s.lb.cached.length < 4096 ∧ s.gz.closing.isNone = true ∧
    (part (letterOf (productLetter 1))).pins = [] ∧ (qctx 0).crSpace ≠ .host ∧
    (o.error ≠ 0 ∨ (o.error = 0 ∧ o.workDone = true)) := by decide +kernel

theorem wit_PortsGrantAndBurstsArrive_grant : let b := burst 0x4000 2048
    (porch [thread 1 [b] [], thread 0 [b] []] []).arbiter 8 = some (thread 0 [b] []) ∧
    (porch [thread 1 [b] [], thread 0 [b] []] []).heldLines .attic 0x4000 2048 = [] ∧
    (porch [thread 0 [b] []] [lineOf false 0x4000]).arbiter 8 = some (thread 0 [b] []) ∧
    (∃ l ∈ (porch [thread 0 [b] []] [lineOf false 0x4000]).heldLines .attic 0x4000 2048,
      l ∉ (porch [thread 0 [b] []] [lineOf false 0x4000]).cxl.answered) ∧
    (porch [{ thread 512 [b] [] with buffered := 4096, backlog := 1 }] []).arbiter 8 =
      some { thread 512 [b] [] with buffered := 4096, backlog := 1 } := by
  decide +kernel

theorem wit_PortsGrantAndBurstsArrive_link : let b := { burst 0x4000 2048 with space := .cellar }
    let s := { porch [thread 0 [b] []] [] with porch := ⟨[], [thread 0 [b] []], [], 7⟩ }
    let t := { live with ex := { live.ex with job := some ⟨none, 0, 0, 0, 1, 0, 0, 128, [([], [])]⟩ } }
    s.arbiter 32 = some (thread 0 [b] []) ∧ s.porch.owed ≠ 0 ∧ t.porch.owed = 0 ∧ t.exportWaits = true := by decide +kernel

theorem wit_PortsGrantAndBurstsArrive_burst : let b := { burst 0x4000 2048 with copyTo := some 0x2000 }
    let s := porch [thread 0 [burst 0x4800 2048] [b]] []
    s.porch.contenders.find? (fun d => d.num == 0 && decide (0 < 512)) = some (thread 0 [burst 0x4800 2048] [b]) ∧
    (thread 0 [burst 0x4800 2048] [b]).outstanding = [b] ∧ s.opAt 0 = some productOp ∧ productOp.parts ≠ [] ∧ b.space ≠ .host ∧
    b.addr % 32 = 0 := by decide +kernel

/-- A Workshop letter of one row that runs on die 0. -/
def rowOp (prog : Nat) : Op :=
  { productOp with target := .workshop, room := none, parts := [{ part (letterOf (workLetter prog)) with b := none }] }
def benches (o : Op) : State := { running [o] with attic := ⟨[(0x2000, BitVec.ofNat 8 0x30)], []⟩ }

theorem wit_WorkshopTilesEnd_tile : let o := rowOp 0x30
    let s := benches o
    let p := { part (letterOf (workLetter 0x30)) with b := none }
    s.opAt 2 = some o ∧ wsTileAt o.parts 0 o.wsNext = some (0, 0, 1) ∧ o.parts[0]? = some p ∧ o.started = true ∧
    o.tilesWaiting < 2 ∧ s.visitAwaited o 0 = false ∧ (∀ e ∈ wsDelivered s p 0 1, e.badWidth = false) ∧
    rowCycles s p ≤ capIn o.captain K.rowBudget ∧ p.rowArr 0 = none ∧ p.rowArr 1 = none ∧ p.letter.route ≠ 5 := by decide +kernel

/-- The product with a side list on operand A. -/
def listed : Op :=
  { productOp with parts := [{ part (letterOf (productLetter 1)) with a := some { tensor 0x4000 15 1 with blkCode := 1, blkDim := 1, sideList := true } }] }

theorem wit_WorkshopTilesEnd_lists :
    (running [listed]).lb.ops.find? (fun x => x.station == 0 && x.hasLists && x.started && x.error == 0 && !x.replayWaiting
      && decide (x.outDone < x.tiles)) = some listed ∧ listed.room = some room ∧ listed.parts ≠ [] := by decide +kernel

theorem wit_BenchesFaultAndLoad :
    let s := benches (rowOp 0x30)
    let t := { running [listed] with ws := { live.ws with reserved0 := 64 } }
    (191 < 384 ∧ s.benchResetting 191 = false ∧ 191 % 192 < s.slotBenches 0 ∧ s.opAt (2 + 0) = some (rowOp 0x30) ∧ (rowOp 0x30).room = none ∧
      (rowOp 0x30).started = true ∧ s.noReplays .workshop ∧ wsTileAt (rowOp 0x30).parts 0 0 = some (0, 0, 1) ∧
      (rowOp 0x30).parts[0]? = some { part (letterOf (workLetter 0x30)) with b := none } ∧
      capIn (rowOp 0x30).captain K.rowBudget < 2 ^ 64) ∧
    (128 < 384 ∧ t.benchResetting 128 = false ∧ t.slotBenches 0 ≤ 128 % 192 ∧ (∃ p, listed.parts = p :: []) ∧
      t.lb.ops.find? (fun x => x.station == 0 && x.hasLists && x.started && x.error == 0 && decide (x.outDone < x.tiles)
        && decide (capIn x.captain K.rowBudget < 2 ^ 64)) = some listed ∧
      t.lb.ops.find? (fun x => x.station == 0 && x.hasLists && x.started && x.error == 0 && decide (x.outDone < x.tiles) && true) = some listed) ∧
    ({ live with ws := { live.ws with loading := some [] } }.ws.loading = some [] ∧ live.wsRunning = false) ∧ live.lb.ops = [] ∧
    live.odv K.libState = 0 ∧ (live.setOd K.libState 1).odv K.libState ≠ 0 :=
  ⟨by unfold State.noReplays; decide +kernel, ⟨by decide, by decide +kernel, by decide +kernel, ⟨_, rfl⟩, by decide +kernel⟩, by decide +kernel⟩

theorem wit_BenchesFaultAndLoad_write : live.WriteToContent .mailbox 0x04062 0 [1] := content_of (by decide +kernel)

/-! Glazia -/

/-- A module with objects and captain values of its own. -/
def tuned (s : State) (od cap : List (Nat × Nat)) : State :=
  cap.foldl (fun s x => s.setCap x.1 x.2) (od.foldl (fun s x => s.setOd x.1 x.2) s)

def gzLetter (prog n first count : Nat) : List (Nat × Nat) := [(0, 0x18), (224, prog), (640, n), (672, first), (704, count)]

/-- Glazia with one group of two elements and one FP32 slot, an update of step 0 in this state, a letter at the head. -/
def glazia (st : Nat) (covered : List Nat) (l : List (Nat × Nat)) : State :=
  let s := posted (tuned live [(K.gzState, st), (K.bankBytes, 0x10000)] []) 0 l
  { s with
    attic := ⟨[(0x5000, 1)], []⟩
    cellar := ⟨[(8, 1)], []⟩
    gz := { s.gz with
      groups := [word [(128, 2), (168, 10), (192, 0x4000), (256, 0x5000), (384, 0xA000), (512, 0x2000), (552, 1)]], covered := covered, cores := List.replicate 8 ⟨none, 0, 0, [], [], 0, 0⟩ } }

def gzReady (s : State) (l : List (Nat × Nat)) : Prop :=
  s.HeadIs 0 (qctx 0) (letterOf l) ∧ s.awake [4, 12] ∧ (letterOf l).route = 0x18 ∧ s.chosen 0 .glazia = true ∧ s.freeSlot .glazia = some 0

theorem gzReady_of {s : State} {l : List (Nat × Nat)} (h : headB s 0 (qctx 0) (letterOf l) = true ∧ awakeB s [4, 12] = true ∧
    (letterOf l).route = 0x18 ∧ s.chosen 0 .glazia = true ∧ s.freeSlot .glazia = some 0) : gzReady s l :=
  ⟨head_of h.1, awake_of h.2.1, h.2.2⟩

def openErrOf (s : State) (l : Letter) : Option Nat :=
  firstErr (gzChecks s (qctx 0) l ++ [(s.odv K.gzState == 1, Err.gzState), (s.gzBankBad l.step, Err.gzBank), (s.gzTableBad, Err.gzGroup)])

theorem wit_GlaziaLettersRun_open : let l := gzLetter 1 0 0 0
    let s := glazia 0 [] l
    let held := { s with ex := { s.ex with pending := some 1 } }
    let skip := { s.setCap K.exOverrun 1 with ex := { s.ex with job := some ⟨none, 1, 0, 0, 1, 0, 0, 65536, [([], [])]⟩ } }
    let odd := { s with cellar := ⟨[], []⟩ }
    (gzReady s l ∧ openErrOf s (letterOf l) = none ∧ s.exportHolds (s.openTarget 0) = false) ∧
    (gzReady held l ∧ openErrOf held (letterOf l) = none ∧ held.exportHolds (held.openTarget 0) = true ∧ held.cap K.exOverrun = 0) ∧
    (gzReady skip l ∧ openErrOf skip (letterOf l) = none ∧ skip.exportHolds (skip.openTarget 0) = true ∧ skip.cap K.exOverrun ≠ 0 ∧
      ∃ j, skip.ex.job = some j ∧ j.kind ≠ 2 ∧ j.bank = skip.openTarget 0 ∧ j.begun = true) ∧
    (gzReady (glazia 1 [] l) l ∧ openErrOf (glazia 1 [] l) (letterOf l) = some Err.gzState) ∧
    (gzReady odd l ∧ openErrOf odd (letterOf l) = some Err.gzBank) :=
  ⟨⟨gzReady_of (by decide +kernel), by decide +kernel⟩, ⟨gzReady_of (by decide +kernel), by decide +kernel⟩,
    ⟨gzReady_of (by decide +kernel), by decide +kernel, by decide +kernel, by decide +kernel, _, rfl, by decide +kernel⟩,
    ⟨gzReady_of (by decide +kernel), by decide +kernel⟩, gzReady_of (by decide +kernel), by decide +kernel⟩

theorem wit_GlaziaLettersRun_piece : let l := gzLetter 2 0 0 1
    let s := glazia 1 [] l
    let lost := { s with gz := { s.gz with badGroups := [0] } }
    (gzReady s l ∧ (letterOf l).prog % 4096 = 2 ∧ firstErr (gzChecks s (qctx 0) (letterOf l)) = none ∧ s.gzPieceErr (letterOf l) = none ∧
      0 ∉ s.gz.badGroups ∧ s.gz.cores.length = 8 ∧ (s.gzCore 0).grain = none) ∧
    (gzReady lost l ∧ firstErr (gzChecks lost (qctx 0) (letterOf l)) = none ∧ lost.gzPieceErr (letterOf l) = none ∧ 0 ∈ lost.gz.badGroups) ∧
    (gzReady (glazia 1 [gzKey 0 0] l) l ∧ (glazia 1 [gzKey 0 0] l).gzPieceErr (letterOf l) = some Err.gzOverlap) :=
  ⟨⟨gzReady_of (by decide +kernel), by decide +kernel⟩, ⟨gzReady_of (by decide +kernel), by decide +kernel⟩,
    gzReady_of (by decide +kernel), by decide +kernel⟩

/-- A CLOSE that is the second letter of its queue, the first of which still runs. -/
def behind : QCtx := { qctx 0 with head := 1, tail := 2 }
def closing : State :=
  let s := glazia 1 [gzKey 0 0] []
  { s with larder := ⟨cells 0x1080 128 (word (gzLetter 3 0 0 0)), []⟩, lb := { s.lb with queues := [behind] } }

theorem wit_GlaziaLettersRun_close : let l := gzLetter 3 0 0 0
    let s := glazia 1 [gzKey 0 0] l
    let lost := { s with gz := { s.gz with badGroups := [0] } }
    (gzReady s l ∧ (letterOf l).prog % 4096 = 3 ∧
      firstErr (gzChecks s (qctx 0) (letterOf l)) = none ∧ s.odv K.gzState ≠ 0 ∧
      s.gz.badGroups = [] ∧ s.gzIncomplete = false ∧ (qctx 0).done = (qctx 0).head ∧ (qctx 0).crSpace ≠ .cellar) ∧
    (gzReady lost l ∧ firstErr (gzChecks lost (qctx 0) (letterOf l)) = none ∧ lost.gz.badGroups ≠ []) ∧
    (headB closing 0 behind (letterOf l) = true ∧ awakeB closing [4, 12] = true ∧ closing.chosen 0 .glazia = true ∧
      closing.freeSlot .glazia = some 0 ∧ firstErr (gzChecks closing behind (letterOf l)) = none ∧ closing.gz.badGroups = [] ∧
      closing.gzIncomplete = false ∧ behind.done ≠ behind.head) ∧
    (gzReady (glazia 1 [] l) l ∧ (glazia 1 [] l).gzIncomplete = true) :=
  ⟨⟨gzReady_of (by decide +kernel), by decide +kernel⟩, ⟨gzReady_of (by decide +kernel), by decide +kernel⟩, by decide +kernel,
    gzReady_of (by decide +kernel), by decide +kernel⟩

/-- QUANT of the group into an FP8 tensor of two elements whose scale set is entry 1. -/
def quantLetter : List (Nat × Nat) := gzLetter 4 0 0 0 ++ [slot 256 0, slot 384 1]
def quant : State :=
  let s := tuned (glazia 1 [gzKey 0 0] quantLetter) [] [(K.scaleBase, 0x3000), (K.scaleCount, 2)]
  { s with attic := ⟨desc 0x1000 0x4000 1 [(1, 2)] ++ cells 0x3020 32 0x7000, []⟩
           cellar := ⟨(8, 1) :: cells 0x1000 64 (word [(0, 0x6000), (50, 4), (88, 1), (128, 1 + 2 ^ 40)]), []⟩ }

theorem wit_GlaziaLettersRun_quant : gzReady quant quantLetter ∧ (letterOf quantLetter).prog % 4096 = 4 ∧
    quant.quantErr (qctx 0) (letterOf quantLetter) (readSlot quant (letterOf quantLetter).slotA) (readSlot quant (letterOf quantLetter).slotD) = none ∧
    0 ∉ quant.gz.badGroups ∧ (quant.quantGroup 0).isSome = true ∧
    (let s := { quant with gz := { quant.gz with covered := [] } }
     gzReady s quantLetter ∧ (s.quantErr (qctx 0) (letterOf quantLetter) (readSlot s (letterOf quantLetter).slotA)
      (readSlot s (letterOf quantLetter).slotD)).isSome = true) :=
  ⟨gzReady_of (by decide +kernel), by decide +kernel, by decide +kernel, by decide +kernel, by decide +kernel, gzReady_of (by decide +kernel),
    by decide +kernel⟩

theorem wit_GlaziaLettersRun_unknown : let l := gzLetter 5 0 0 0
    let m := gzLetter 0 0 0 0 ++ [slot 320 0]
    (gzReady (glazia 0 [] l) l ∧ ¬(1 ≤ (letterOf l).prog % 4096 ∧ (letterOf l).prog % 4096 ≤ 4) ∧
      firstErr (gzChecks (glazia 0 [] l) (qctx 0) (letterOf l)) = none) ∧
    (gzReady (glazia 0 [] m) m ∧ ¬(1 ≤ (letterOf m).prog % 4096 ∧ (letterOf m).prog % 4096 ≤ 4) ∧
      firstErr (gzChecks (glazia 0 [] m) (qctx 0) (letterOf m)) = some Err.slot) :=
  ⟨⟨gzReady_of (by decide +kernel), by decide +kernel⟩, gzReady_of (by decide +kernel), by decide +kernel⟩

/-- Core 7 at a word of the rule for the group's one grain, after some vectors. -/
def mill (w vec : Nat) : State :=
  let s := glazia 1 [] []
  { s with gz := { s.gz with image := [(0, 0), (40, w)], busy := [gzKey 0 0],
                             cores := List.replicate 7 ⟨none, 0, 0, [], [], 0, 0⟩ ++ [⟨some (0, 0), vec, 40, [], [(1, [(0x3F800000, false), (0, true)])], 0, 0⟩] } }

theorem wit_GlaziaWordsCompute :
    (∀ op ∈ [1, 2, 3, 4, 5, 6, 7, 8, 9, 0x0A, 0x0B, 0x13], ((mill (op + 7 * 2 ^ 28) 0).gzNext 7).any (fun x => x.2.2.2.op == op && x.2.2.2.isScalar) = true) ∧
    (∀ op ∈ [1, 2, 3, 4, 5, 6, 7, 8, 9, 0x0A, 0x0B, 0x12, 0x13, 0x10, 0x11, 0x20, 0x1E],
      ((mill op 0).gzNext 7).any (fun x => x.2.2.2.op == op && !x.2.2.2.isScalar || op == 0x1E) = true) ∧
    ((mill 0x10 0).gzLoaded 7 0 ((mill 0x10 0).gzGroupAt 0) 0).inputs ≠ [] := by decide +kernel

theorem wit_VectorsCommitAndGrainsEnd_commit :
    ((mill 0x1F 0).gzNext 7).any (fun x => x.2.2.2.op == 0x1F && x.2.1.slots.length == 1 && gzElems x.2.1 x.2.2.1 0 == [0, 1]) = true ∧
    ∀ x ∈ [(mill 0x1F 0, 0), ({ mill 0x1F 0 with attic := ⟨[], []⟩ }, 2)],
      (x.1.gzLoaded 7 0 (x.1.gzGroupAt 0) 0).inputs.map (fun i => (i.kept, i.slots.length)) = [(x.2, 1), (x.2, 1)] := by
  decide +kernel

theorem wit_VectorsCommitAndGrainsEnd_grain : let s := mill 0 1
    7 < 8 ∧ (s.gzCore 7).grain = some (0, 0) ∧ s.gzFrozen 0 = false ∧ gzVectors (s.gzGroupAt 0) 0 ≤ (s.gzCore 7).vec ∧ s.gz.todo = [] := by
  decide +kernel

theorem wit_VectorsCommitAndGrainsEnd_rules :
    live.WriteToContent .mailbox 0x06021 0 [1] ∧ gzImageBad (live.domain K.gzImage) = false ∧ gzImageBad (leBytes 4 0x10000) = true :=
  ⟨content_of (by decide +kernel), by decide +kernel⟩

/-! Peloton -/

/-- A BROADCAST from member 0 of group 0 (two members, this one is 0), chunks of 2^10. -/
def castLetter : List (Nat × Nat) := [(0, 0x10), (224, 3), (136, 0xFFFF), (152, 0xFFFF), (644, 10), (672, 9), slot 256 0, slot 384 1]
def cast (members : Nat) : State :=
  tuned { posted (tensors live) 2 castLetter with cellar := ⟨desc 0x1000 0x6000 4 [(1, 1), (1, 1)], []⟩ } [] [(K.plGroup 0 1, members)]

/-- The same with a scale set for A whose tensor scale reads +0. -/
def castScaled : State :=
  let s := cast 2
  { tuned s [] [(K.scaleBase, 0x3000), (K.scaleCount, 2)] with
    attic := ⟨cells 0x1000 64 (word [(0, 0x4000), (50, 4), (56, 1), (88, 1), (128, 1), (192, 1)]) ++ cells 0x3020 32 0x7000, []⟩ }

theorem wit_CollectivesBeginAndAdvance_dispatch : ∀ x ∈ [(cast 2, none, false), (cast 1, some Err.plGroup, false), (castScaled, none, true)],
    let s := x.1
    let l := letterOf castLetter
    let a := readSlot s l.slotA
    let d := readSlot s l.slotD
    let st := readSlot s l.slotS
    let r := mkRun s (qctx 2) l a d st 0
    headB s 0 (qctx 2) l = true ∧ awakeB s [4, 11] = true ∧ l.route = 0x10 ∧ l.prog % 16 = 3 ∧ s.chosen 0 .peloton = true ∧
    s.freeSlot .peloton = some 0 ∧
    firstErr (checks123 (qctx 2) l ++ checks4to8 s (qctx 2) l a (noSlot s) d st ++ [(globalBad a (noSlot s) d st, Err.globalSize)]
      ++ checks11to12 s l a (noSlot s) d st ++ collectiveChecks s l r) = x.2.1 ∧ plScaleBad s r = x.2.2 ∧
    r.reservation ≤ s.inboxFree ∧ s.pel.runs = [] ∧ s.lb.ops = [] := by decide +kernel

/-- A REDUCE_SCATTER of group 0 that runs in slot 0, member 0 of 3, with TAG 9 and member 2 not live. -/
def run : PlRun :=
  { queue := 0, seq := 0, slot := 0, op := 1, tree := false, group := 0, tag := 9, me := 0, members := 3, fan := 0, proto := 0, ports := [0],
    chunk := 1024, step := 0, a := some (tensor 0x4000 2 1), d := some (tensor 0x6000 2 1), s := none, cnt := ⟨.attic, 0x9000⟩, root := 0,
    captain := [], table := 0, live := [0, 1], gone := [], round := 1, rounds := 2,
    units := [⟨0, 0, 0, [1], some 5, some ([0], 1), false⟩], inputs := [], grants := [(1, 4)], missed := [], bad := [], reserve := 4,
    tally := ⟨0, 0, 0, none, 0, 0, 0, 0, 0, 0⟩, startTick := 0, stopped := false }
def collecting (r : PlRun) : State := { live with pel := { live.pel with runs := [r] } }

theorem wit_CollectivesBeginAndAdvance_round : ((collecting run).plRun 0 = some run ∧ run.round < run.rounds ∧ run.op = 1 ∧ run.tree = false ∧
      run.isLive ((run.me + run.round + 1) % max 1 run.members) = false) ∧
    ∀ place k d es, run.partPlaces true place k = some (d, es) → (partDelivery ((collecting run).plView run) d es).2 = false :=
  ⟨by decide +kernel, fun _ _ _ _ h => by simp [PlRun.partPlaces, run] at h⟩

/-- A run of parts that waits for one of source 1. -/
def parting : PlRun := { run with op := 4, units := [⟨1, 0, 3, [1], some 5, none, false⟩] }

theorem wit_CollectivesBeginAndAdvance_deadline : ∀ x ∈ [(run, 0, 0), (parting, 1, 3)], ∃ u, (collecting x.1).plRun 0 = some x.1 ∧
    x.1.unit? x.2.1 0 x.2.2 = some u ∧ u.start = some 5 ∧ u.done = false ∧ (x.2.2 = 3 ∨ u.own ≠ none) ∧ (x.2.2 = 3 → x.1.op ≠ 1) ∧
    ∀ m ∈ u.sources, (x.1.input? x.2.1 0 x.2.2 m = none ∧ m ∉ x.1.gone ∧ (x.2.2 = 3 ∨ aget 0 x.1.grants m ≠ 0)) ∧
      max 5 (aget 0 x.1.grants m - 1) + usTicks (capIn x.1.captain K.plDeadlineUs) < 2 ^ 64 := by
  intro x hx
  simp only [List.mem_cons, List.not_mem_nil, or_false] at hx
  rcases hx with h | h <;> subst h <;> exact ⟨_, rfl, rfl, rfl, rfl, by decide +kernel⟩

theorem wit_CollectivesBeginAndAdvance_discard :
    let s : State := { live with pel := { live.pel with frames := [⟨3, 0, 0, 0, 0⟩], early := [⟨0, [], false, 0, 0⟩] } }
    s.pel.frames.find? (fun x => x.slot == 3) = some ⟨3, 0, 0, 0, 0⟩ ∧ s.pel.frames.find? (fun x => x.slot == s.inboxSlots) = none ∧
    s.pel.early[s.inboxSlots - s.inboxSlots]? = some ⟨0, [], false, 0, 0⟩ := by decide +kernel

/-- A frame header: last frame, count, group 0, TAG 9, chunk, source. -/
def header (count chunk src : Nat) : Nat := word [(12, 1), (16, count), (64, 9), (96, chunk), (128, src)]

theorem wit_PelotonFramesArrive_contrib : let s := tuned live [(K.plInboxBytes, 65664)] []
    let r := { s with pel := { s.pel with runs := [{ run with grants := [] }] } }
    let h := header 1 0 1
    s.awake [11] ∧ s.portUp 1 = true ∧ s.insecure 1 = false ∧ s.freeInbox = some 0 ∧ s.pel.voided = [] ∧ s.runOf (fhGroup h) (fhTag h) = none ∧ s.pel.hist = [] ∧
    (tuned live [(K.plInboxBytes, 32831)] []).freeInbox = none ∧ r.runOf 0 9 = some { run with grants := [] } ∧ ({ run with grants := [] }).locate false 0 1 0 = (0, 0, 0) ∧
    (run.unit? 0 0 0).isSome = true ∧ r.pastDeadline { run with grants := [] } ⟨0, 0, 0, [1], some 5, some ([0], 1), false⟩ 1 = false :=
  ⟨awake_of (by decide +kernel), by decide +kernel⟩

theorem wit_PelotonFramesArrive_part :
    let r := { run with op := 4, units := [⟨1, 0, 3, [1], none, none, false⟩] }
    let s : State := { live with pel := { live.pel with ended := [(0, 9)] } }
    (collecting r).runOf 0 9 = some r ∧ (collecting r).plRun 0 = some r ∧ r.locate true 0 1 0 = (1, 0, 3) ∧
    r.unit? 1 0 3 = some ⟨1, 0, 3, [1], none, none, false⟩ ∧ 1 ∉ r.gone ∧
    live.runOf 0 9 = none ∧ (0, 9) ∉ live.pel.ended ∧ s.runOf 0 9 = none ∧ (0, 9) ∈ s.pel.ended := by decide +kernel

theorem wit_PelotonFramesArrive_late :
    let r := { run with s := some (tensor 0x7000 2 4), captain := [(K.plLatePolicy, 1)], members := 2 }
    let s : State := { live with pel := { live.pel with hist := [r] } }
    fhLast (header 1 0 1) = true ∧ fhFrame (header 1 0 1) = 0 ∧ s.pel.lates = [] ∧
    s.pel.hist.find? (fun r => r.group == 0 && r.tag == 9) = some r ∧ r.s = some (tensor 0x7000 2 4) ∧ r.proto ≠ 0x30 ∧
    capIn r.captain K.plLatePolicy ≠ 0 ∧ 0 < r.chunks r.me ∧ s.carryN r 0 + 1 + r.members ≤ 65535 ∧ fhCount (header 1 0 1) ≠ 0 ∧
    (tensor 0x7000 2 4).space ≠ .host ∧ capIn ({ r with captain := [] }).captain K.plLatePolicy = 0 := by decide +kernel

theorem wit_PelotonFramesArrive_credit :
    let it : PlItem := ⟨0, 0, 9, [0], 1, 1, 0, 0, some [(0, [])]⟩
    let s : State := { live with pel := { live.pel with outq := [it] } }
    live.pel.outq = [] ∧ s.pel.outq = [it] ∧ it.frames = some [(0, [])] ∧ it.group = fhGroup (header 0 0 1) ∧ it.dst = fhSrc (header 0 0 1) ∧
    (∀ j, aget 0 s.pel.credits j = 0) ∧ s.plPort it.ports it.chunk = some 0 ∧ s.insecure 0 = false :=
  ⟨rfl, rfl, rfl, by decide +kernel, by decide +kernel, fun _ => rfl, by decide +kernel⟩

theorem wit_PelotonFramesArrive_notice : fhChunk (header 0 0 1) = live.cap (K.plGroup 0 2) ∧ fhChunk (header 0 1 1) ≠ live.cap (K.plGroup 0 2) ∧
    live.pel.runs = [] := by decide +kernel

theorem wit_PelotonFramesArrive_dead : let s := tuned live [] [(K.plGroup 15 1, 65535)]
    65534 ≠ s.cap (K.plGroup 15 2) ∧ 65534 < s.cap (K.plGroup 15 1) ∧ memberDead (s.member (s.groupTable 15) 65534) = false ∧ s.pel.runs = [] ∧
    s.ex.job = none := by decide +kernel

theorem wit_PelotonFramesArrive_write : live.WriteOk .mailbox 0x0C020 0 (leBytes 8 (1 + 15 * 16 + 65535 * 256)) ∧
    live.WriteOk .mailbox 0x0C020 0 (leBytes 8 (2 + 0 * 16 + 65535 * 256)) := ⟨writeOk_of (by decide +kernel), writeOk_of (by decide +kernel)⟩

/-! Exports and page commands -/

def exportLetter (prog member : Nat) : List (Nat × Nat) := [(0, 0x20), (224, prog), (640, member)]

theorem wit_ExportsAndGuests_auto :
    let s := { tuned live [] [(K.exMode, 1)] with ex := { live.ex with pending := some 2 } }
    s.awake [4, 13] ∧ s.ex.pending = some 2 ∧ s.cap K.exMode = 1 ∧ s.ex.job = none ∧ s.restoring = false ∧ s.pel.runs = [] ∧
    s.portUp (s.cap K.exPort) = true := ⟨awake_of (by decide +kernel), by decide +kernel⟩

theorem wit_ExportsAndGuests_letters : ∀ prog ∈ [1, 2],
    let l := exportLetter prog 1
    let s := { tuned (posted live 3 l) [(K.guestBytes, 0x1000)] [] with cellar := ⟨[(8, 1), (12, 1)], []⟩ }
    headB s 0 (qctx 3) (letterOf l) = true ∧ awakeB s [4, 13] = true ∧ (letterOf l).route = 0x20 ∧ s.chosen 0 .exporter = true ∧
    s.freeSlot .exporter = some 0 ∧ firstErr (exChecks s (qctx 3) (letterOf l)) = none ∧ (letterOf l).prog % 4096 = prog ∧
    s.bankStatus (s.odv K.bankCurrent) = 1 ∧ bit (letterOf l).param0 0 = true ∧ s.portUp (s.cap K.exPort) = true ∧
    s.odv K.guestBytes ≠ 0 ∧ ghStatus s.guestHeader ≠ 0xFF ∧ ghSource s.guestHeader = bits (letterOf l).param0 0 16 := by decide +kernel

/-- A whole stream of 128 bytes: header, no body, the check value of its last 64 bytes. -/
def streamHead (kind : Nat) : List Byte := leBytes 64 (word [(0, 0x10), (8, kind), (320, 128)])
def streamTail (kind : Nat) : List Byte := leBytes 4 0 ++ leBytes 4 (crc32c (streamHead kind)) ++ leBytes 56 0

theorem wit_ExportsAndGuests_streams :
    let rx (k : Nat) : ExRx := ⟨0, 1, k == 2, false, streamHead k, []⟩
    let s : State := { live with ex := { live.ex with rx := [rx 0, rx 2] } }
    live.portUp 0 = true ∧ live.insecure 0 = false ∧ fhChunk (header 0 0 1) = 0 ∧
    (shKind (ofBytes ((streamHead 0).take 64)) ≠ 2 ∧ live.guestRefuses (ofBytes ((streamHead 0).take 64)) = true) ∧
    (shKind (ofBytes ((streamHead 2).take 64)) = 2 ∧ live.restoreRefuses (ofBytes ((streamHead 2).take 64)) ≠ 0) ∧
    fhChunk (header 0 1 1) ≠ 0 ∧ fhLast (header 0 1 1) = true ∧ fhLast (header 0 1 1 - 2 ^ 12) = false ∧
    ∀ k ∈ [0, 2], s.ex.rx.find? (fun x => x.isOf (header 0 1 1) && x.image == (k == 2)) = some (rx k) ∧ (rx k).refused = false ∧
      crcOk ((rx k).bytes ++ streamTail k) (shBytes (ofBytes (((rx k).bytes ++ streamTail k).take 64))) = true := by decide +kernel

theorem wit_ExportsAndGuests_ack :
    let j : ExJob := ⟨none, 0, 0, 0, 1, 0, 0, 128, []⟩
    let s : State := { live with ex := { live.ex with job := some j } }
    s.portUp 0 = true ∧ s.insecure 0 = false ∧ s.ex.job = some j ∧ fhGroup (header 1 0 1) = j.group ∧ fhSrc (header 1 0 1) = j.member ∧ s.gz.waiting = none ∧
    fhCount (header 1 0 1) ≠ 0 ∧ fhCount (header 0 0 1) = 0 ∧ j.kind ≠ 2 := by decide +kernel

/-- KV context 0: its page list at 0x1000 of the Attic names frame 0 of pool 0 with two references. -/
def paged (refs : Nat) : State :=
  { tuned live [(K.kvCtxBase, 0x2000), (K.kvCtxCount, 2), (K.kvPool 0 1, 0x8000), (K.kvPool 0 3, 0x1000)] [] with
    attic := ⟨cells 0x1000 4 (2 ^ 31) ++ cells 0x2000 64 0x1000 ++ [(0x800C, BitVec.ofNat 8 refs)], []⟩ }

theorem wit_PageCommandsShareAndFree : live.awake [4] ∧ ∀ op ∈ [1, 2],
    let c := parsePageCmd (op + 2 ^ 64 * word [(32, 1)])
    c.op = op ∧ (paged 2).pageCmdBad c = false ∧ live.pageCmdBad c = true ∧ c.cnt = 1 ∧ op < 2 ^ 64 ∧ word [(32, 1)] < 2 ^ 64 ∧
    writeOkB (paged 2) .mailbox 0x08010 0 (leBytes 8 op ++ leBytes 8 (word [(32, 1)])) = true ∧
    ((paged 2).kvEntry ((paged 2).kvCtx 0) 0).2.1 = true := ⟨awake_of (by decide +kernel), by decide +kernel⟩

theorem wit_PageCommandsShareAndFree_frames : ∀ refs ∈ [1, 2],
    let cx := (paged refs).kvCtx 0
    apart (.attic, cx.listAddr, 4) ((paged refs).poolSpace 0, (paged refs).frameAddr 0 0, 64) ∧
    apart (.attic, cx.listAddr, 4) (.attic, (paged refs).kvCtxAddr 0, 64) ∧
    apart ((paged refs).poolSpace 0, (paged refs).frameAddr 0 0, 64) (.attic, (paged refs).kvCtxAddr 0, 64) ∧
    ((paged refs).hdr 0 0).refcount = refs ∧ ((paged refs).hdr 0 0).pins = 0 := by unfold apart; decide +kernel

/-! The dictionary and its paths -/

theorem wit_WriteStoresValue :
    (live.WriteOk .mailbox 0x0502B 0 (leBytes 4 0) ∧ plainObj 0x0502B 0 = true) ∧ live.WriteOk .mailbox 0x0502B 0 (leBytes 4 0) ∧
    live.WriteOk .mailbox 0x07001 0 [0] ∧ (live.WriteOk .mailbox 0x0C010 0 (leBytes 4 10000000) ∧ isRws 0x0C010 0 = true) :=
  ⟨⟨writeOk_of (by decide +kernel), by decide +kernel⟩, writeOk_of (by decide +kernel), writeOk_of (by decide +kernel),
    writeOk_of (by decide +kernel), by decide +kernel⟩

theorem wit_RefusedWriteChangesNothing : live.reachable .mailbox = true ∧
    live.writeForm .mailbox 0xFFFFF 0 ((objInfo 0xFFFFF 0).elim 0 (·.ty)) [] ≠ 0 ∧
    (live.writeForm .mailbox 0x0C010 0 ((objInfo 0x0C010 0).elim 0 (·.ty)) (leBytes 4 10000001) = 0 ∧ live.relocking 0x0C010 0 = false ∧
      live.odv K.tandemState ≠ 1 ∧ live.dict.trimBusy = false ∧ live.writeValue 0x0C010 0 (ofBytes (leBytes 4 10000001)) ≠ 0 ∧ (0x0C010 : Nat) ≠ 0x04062) := by
  decide +kernel

theorem wit_TandemSwapExchanges : live.WriteOk .mailbox 0x03000 0 [1] ∧ live.WriteOk .mailbox 0x03001 0 [1] ∧
    (tuned live [(K.tandemState, 1)] []).odv K.tandemState = 1 ∧ live.dict.held = [] :=
  ⟨writeOk_of (by decide +kernel), writeOk_of (by decide +kernel), by decide +kernel⟩

theorem wit_TrimsCommitAndRetrain : live.WriteOk .mailbox 0x021FF 0 [1] ∧ live.WriteOk .mailbox 0x02160 0 [1] ∧
    { live with dict := { live.dict with trimBusy := true } }.dict.trimBusy = true ∧ live.dict.held = [] :=
  ⟨writeOk_of (by decide +kernel), writeOk_of (by decide +kernel), by decide +kernel⟩

theorem wit_RecipeTailFreesSlots : live.WriteOk .mailbox 0x0501B 0 (leBytes 4 0) := writeOk_of (by decide +kernel)

/-- A mailbox payload, or the body of a message, that names an object. -/
def obj (idx : Nat) : List Byte := leBytes 4 idx

theorem wit_MailboxAccesses :
    let read := leBytes 4 0 ++ obj 0x01000
    let write := leBytes 4 0 ++ obj 0x0502B ++ [4, 0] ++ leBytes 2 4 ++ leBytes 4 0
    let begin' := leBytes 4 0 ++ obj 0x0B010 ++ [1] ++ leBytes 8 100
    let part := leBytes 4 0 ++ obj 0x0B010 ++ leBytes 8 0 ++ leBytes 2 4000
    live.mboxOn = true ∧
    (4 ≤ read.length ∧ read.length ≤ 4096 ∧ (read.drop 4).length = 4 ∧ objOf (read.drop 4) = (0x01000, 0) ∧
      live.readForm .mailbox 0x01000 0 false = 0 ∧ live.relocking 0x01000 0 = false ∧ awakeB live (stationsHolding 0x01000 0) = true) ∧
    (write.length ≤ 4096 ∧ 8 ≤ (write.drop 4).length ∧ ofBytes (((write.drop 4).drop 6).take 2) = ((write.drop 4).drop 8).length ∧
      objOf (write.drop 4) = (0x0502B, 0) ∧ plainObj 0x0502B 0 = true ∧ ((write.drop 4).getD 4 0).toNat = (objInfo 0x0502B 0).elim 0 (·.ty) ∧
      writeOkB live .mailbox 0x0502B 0 ((write.drop 4).drop 8) = true) ∧
    ((begin'.drop 4).length = 13 ∧ objOf (begin'.drop 4) = (0x0B010, 0) ∧ ((begin'.drop 4).getD 4 0).toNat = 1 ∧
      live.blockForm .mailbox 0x0B010 0 true = 0 ∧ ofBytes ((begin'.drop 4).drop 5) ≤ (objInfo 0x0B010 0).elim 0 (·.size) ∧
      live.dict.transfers = []) ∧
    ((part.drop 4).length = 14 ∧ live.blockForm .mailbox 0x0B010 0 false = 0 ∧ ofBytes (((part.drop 4).drop 4).take 8) = 0 ∧
      0 < ofBytes ((part.drop 4).drop 12) ∧ ofBytes ((part.drop 4).drop 12) ≤ 4000) := by decide +kernel

/-- A message of version 2.1 without a session, naming a session number. -/
def message (ty sid : Nat) (body : List Byte) : List Byte :=
  leBytes 32 (word [(0, 0xA5C3), (16, 1), (20, 2), (24, ty), (48, body.length), (64, sid), (96, 1)]) ++ body

/-- Peer 5 has negotiated version 2.1; an owner key is fused; peer 5 has an unfinished exchange, number 7. -/
def spoken : State :=
  { live with
    dict := { live.dict with peers := [⟨5, some (2, 1), [], [], false⟩], sessions := [⟨7, some 5, false, [], [], [], 0⟩],
                             transfers := [⟨okey 0x0B010 0, some 5, 4, [1, 2]⟩, ⟨okey 0x06020 0, some 5, 2, [1, 2]⟩] },
    sec := { live.sec with ownerKeys := [leBytes 64 1] } }

theorem heard_of {s : State} {ty p : Nat} {d : List Byte} (h : s.xaxiaOn = true ∧ s.keptAnswer p d = none ∧ s.xErr ty p d = 0) :
    s.Heard ty p d := h

theorem wit_XaxiaReadAndWrite :
    let read := message 3 0 (obj 0x01000)
    let write := message 4 0 (obj 0x0502B ++ [4, 0] ++ leBytes 2 4 ++ leBytes 4 0)
    let s := { spoken with sec := live.sec }
    (s.Heard 3 5 read ∧ xBody read = obj 0x01000 ∧ (s.noteSeq (ofBytes (read.take 32))).readForm (wayOf 5 read) 0x01000 0 (stokerFlag read) = 0 ∧
      s.relocking 0x01000 0 = false ∧ awakeB s (stationsHolding 0x01000 0) = true) ∧
    (s.Heard 4 5 write ∧ 8 ≤ (xBody write).length ∧ ofBytes (((xBody write).drop 6).take 2) = ((xBody write).drop 8).length ∧
      objOf (xBody write) = (0x0502B, 0) ∧ plainObj 0x0502B 0 = true ∧ ((xBody write).getD 4 0).toNat = (objInfo 0x0502B 0).elim 0 (·.ty) ∧
      writeOkB (s.noteSeq (ofBytes (write.take 32))) (wayOf 5 write) 0x0502B 0 ((xBody write).drop 8) = true ∧ s.odv K.pwrState ≠ 0) ∧
    ({ s with dict := { s.dict with peers := [⟨5, some (2, 1), [(read, [7])], [], false⟩] } }.keptAnswer 5 read = some [7] ∧ s.xaxiaOn = true) :=
  ⟨⟨heard_of (by decide +kernel), by decide +kernel⟩, ⟨heard_of (by decide +kernel), by decide +kernel⟩, by decide +kernel⟩

theorem wit_BlockTransfers :
    let read := message 5 0 (obj 0x0B010 ++ leBytes 8 0 ++ leBytes 2 1024)
    let begin' := message 6 0 (obj 0x0B010 ++ [1] ++ leBytes 8 33554432)
    let seg := message 6 0 (obj 0x0B010 ++ [2] ++ leBytes 8 2 ++ leBytes 2 2 ++ [3, 4])
    let fin := message 6 0 (obj 0x06020 ++ [3] ++ leBytes 4 (crc32c [1, 2]))
    let s := { spoken with sec := live.sec }
    let t := { s with dict := { s.dict with transfers := [] } }
    (s.Heard 5 5 read ∧ (xBody read).length = 14 ∧ (s.noteSeq (ofBytes (read.take 32))).blockForm (wayOf 5 read) 0x0B010 0 false = 0 ∧
      awakeB s (stationsHolding 0x0B010 0) = true ∧ ofBytes (((xBody read).drop 4).take 8) = 0 ∧ ofBytes (((xBody read).drop 12).take 2) = 1024) ∧
    (t.Heard 6 5 begin' ∧ (xBody begin').length = 13 ∧ ((xBody begin').getD 4 0).toNat = 1 ∧
      (t.noteSeq (ofBytes (begin'.take 32))).blockForm (wayOf 5 begin') 0x0B010 0 true = 0 ∧
      ofBytes ((xBody begin').drop 5) ≤ (objInfo 0x0B010 0).elim 0 (·.size) ∧ t.dict.transfers = []) ∧
    (s.Heard 6 5 seg ∧ 15 < (xBody seg).length ∧ ((xBody seg).getD 4 0).toNat = 2 ∧
      (s.noteSeq (ofBytes (seg.take 32))).blockForm (wayOf 5 seg) 0x0B010 0 true = 0 ∧
      s.dict.transfers.find? (fun t => t.key == okey 0x0B010 0 && decide (t.peer = some 5)) = some ⟨okey 0x0B010 0, some 5, 4, [1, 2]⟩ ∧
      ofBytes (((xBody seg).drop 5).take 8) = 2 ∧ ofBytes (((xBody seg).drop 13).take 2) = ((xBody seg).drop 15).length ∧
      2 + ((xBody seg).drop 15).length ≤ 4) ∧
    (s.Heard 6 5 fin ∧ (xBody fin).length = 9 ∧ ((xBody fin).getD 4 0).toNat = 3 ∧
      (s.noteSeq (ofBytes (fin.take 32))).blockForm (wayOf 5 fin) 0x06020 0 true = 0 ∧ awakeB s (stationsHolding 0x06020 0) = true ∧
      s.dict.transfers.find? (fun t => t.key == okey 0x06020 0 && decide (t.peer = some 5)) = some ⟨okey 0x06020 0, some 5, 2, [1, 2]⟩ ∧
      crc32c [1, 2] = ofBytes ((xBody fin).drop 5)) ∧
    (s.dict.transfers.find? (fun t => t.key == okey 0x0B010 0)).isSome = true :=
  ⟨⟨heard_of (by decide +kernel), by decide +kernel⟩, ⟨heard_of (by decide +kernel), by decide +kernel⟩,
    ⟨heard_of (by decide +kernel), by decide +kernel⟩, ⟨heard_of (by decide +kernel), by decide +kernel⟩, by decide +kernel⟩

theorem wit_HelloNegotiates : ∀ x ∈ [(leBytes 2 6 ++ [0, 3, 1], false), (leBytes 2 6 ++ [0, 3, 1] ++ List.replicate 13 0, true)],
    let d := message 1 0 x.1
    live.xaxiaOn = true ∧ live.keptAnswer 5 d = none ∧ headerBad d = false ∧ xhType (ofBytes (d.take 32)) = 1 ∧
    bit (ofBytes ((xBody d).take 2)) 2 = true ∧ decide ((xBody d).length = 18) = x.2 := by decide +kernel

/-- Peer 5 as spoken says, locked out or not, with so many sessions open. -/
def knocking (locked : Bool) (n : Nat) : State :=
  { spoken with dict := { spoken.dict with
      peers := [⟨5, some (2, 1), [], [], locked⟩],
      sessions := spoken.dict.sessions ++ (List.range n).map fun i => ⟨100 + i, none, true, [], [], [], 0⟩ } }

theorem wit_AuthOpensAndClosesSessions : ∀ x ∈ [(false, 3), (false, 4), (true, 0)],
    let start := message 2 0 ([1, 1] ++ List.replicate 32 9)
    let proof := message 2 7 (2 :: List.replicate 1024 9)
    let pay := leBytes 4 0 ++ [1, 1] ++ List.replicate 32 9
    let s := knocking x.1 x.2
    (s.Heard 2 5 start ∧ s.odv K.bringupStage ≠ 0 ∧ s.odv K.pwrState ≠ 0 ∧ (xBody start).length = 34 ∧
      ((xBody start).getD 0 0).toNat = 1 ∧ ((xBody start).getD 1 0).toNat = 1 ∧ s.openSessions = x.2 ∧
      s.ownerHash.isSome = true ∧ (s.peer 5).locked = x.1) ∧
    (s.Heard 2 5 proof ∧ xhSession (ofBytes (proof.take 32)) = false ∧ (xBody proof).length = 1025 ∧ ((xBody proof).getD 0 0).toNat = 2 ∧
      s.dict.sessions.find? (fun y => !y.isOpen && y.id == xhSid (ofBytes (proof.take 32)) && decide (y.peer = some 5)) =
        some ⟨7, some 5, false, [], [], [], 0⟩ ∧ (7 : Nat) = xhSid (ofBytes (proof.take 32))) ∧
    (s.mboxOn = true ∧ pay.length = 38 ∧ ((pay.drop 4).getD 0 0).toNat = 1 ∧ ((pay.drop 4).getD 1 0).toNat = 1) := by
  intro x hx
  simp only [List.mem_cons, List.not_mem_nil, or_false] at hx
  rcases hx with h | h | h <;> subst h <;>
    exact ⟨⟨heard_of (by decide +kernel), by decide +kernel⟩, ⟨heard_of (by decide +kernel), by decide +kernel⟩, by decide +kernel⟩

theorem wit_NotifyAndSegment :
    let s : State := { tuned live [(okey 0x0B110 0, 1), (okey 0x0B112 0, 4), (okey 0x0B113 0, 1), (K.plcaId, 1)] [] with bell := { live.bell with level := [2] } }
    let t : State := { s with bell := { s.bell with notified := [2] } }
    s.notifyOn 2 = true ∧ 2 ∉ s.bell.notified ∧ 2 ∈ t.bell.notified ∧ t.notifyOn 2 = true ∧
    t.odv (okey 0x0B113 0) ≠ 0 ∧ s.xaxiaOn = true ∧ s.odv K.plcaId ≠ 0 := by decide +kernel

/-- Peer 5 in an open session, number 7. -/
def inSession : State := { live with dict := { live.dict with peers := [⟨5, some (2, 1), [], [], false⟩], sessions := [⟨7, some 5, true, [], [], [1], 0⟩] } }
def endHead : List Byte := leBytes 32 (word [(0, 0xA5C3), (16, 1), (20, 2), (24, 2), (34, 1), (48, 1), (64, 7), (96, 1)]) ++ [3]

theorem wit_AuthOpensAndClosesSessions_end : ∃ d, inSession.Heard 2 5 d ∧ xhSession (ofBytes (d.take 32)) = true ∧ xhSid (ofBytes (d.take 32)) ≠ 0 ∧ ((xBody d).getD 0 0).toNat = 3 ∧
    (inSession.peer 5).locked = false := by
  have hm : (macOf [1] endHead).length = 16 := by simp [macOf]
  have he : endHead.length = 33 := by decide +kernel
  have ht : (endHead ++ macOf [1] endHead).take 32 = endHead.take 32 := by rw [List.take_append_of_le_length (by omega)]
  have hb : xBody (endHead ++ macOf [1] endHead) = [3] := by
    unfold xBody
    rw [ht, List.drop_append_of_le_length (by omega), List.take_append_of_le_length (by decide +kernel)]
    decide +kernel
  refine ⟨endHead ++ macOf [1] endHead, ⟨by decide +kernel, by unfold State.keptAnswer; decide +kernel, ?_⟩, ?_, ?_, ?_, by decide +kernel⟩
  · have hl : (endHead ++ macOf [1] endHead).length = 49 := by rw [List.length_append, he, hm]
    have hbad : headerBad (endHead ++ macOf [1] endHead) = false := by
      simp only [headerBad, ht, hl]
      decide +kernel
    have hs : (inSession.xSession (ofBytes (endHead.take 32))) = some ⟨7, some 5, true, [], [], [1], 0⟩ := by decide +kernel
    have hd : (endHead ++ macOf [1] endHead).drop 33 = macOf [1] endHead := by rw [← he, List.drop_left]
    have htk : (endHead ++ macOf [1] endHead).take 33 = endHead := by rw [← he, List.take_left]
    simp only [State.xErr, ht, hl, hbad, hs, hd, htk, show 49 - 16 = 33 from rfl, Option.elim_some, ne_eq, not_true_eq_false, decide_false, Bool.and_false]
    decide +kernel
  · rw [ht]; decide +kernel
  · rw [ht]; decide +kernel
  · rw [hb]; decide

/-! Clocks, power and bring-up -/

theorem wit_ReferenceClockPresence : 1 < 2 ∧ live.pwr.auxOn = true ∧ [4035, 4157, 4035, 4157, 4035, 4157, 4035, 4157].length = 8 ∧
    (∀ n ∈ [4035, 4157], 4035 ≤ n ∧ n ≤ 4157) ∧ ¬(4035 ≤ 4034 ∧ 4034 ≤ 4157) ∧ ¬(4035 ≤ 4158 ∧ 4158 ≤ 4157) := by decide +kernel



/-- A watch that holds runs of good and bad gates of both reference clocks. -/
def refWatch (good bad : Nat) : SrcWatch := ⟨0, false, 0, 0, 0, false, good, bad, good, bad⟩

theorem wit_ReferenceClockPresence_port : ∀ r ∈ [0, 1],
    let lost : State := { tuned live [(K.srcReady, 13), (K.portState r, 0)] [] with pwr := { live.pwr with watch := refWatch 0 1 } }
    let back : State := { tuned live [(K.srcReady, 1), (K.portState r, 0)] [] with pwr := { live.pwr with watch := refWatch 7 0 } }
    lost.srcIsReady (2 + r) = true ∧ (if r = 0 then lost.pwr.watch.refBad0 else lost.pwr.watch.refBad1) ≠ 0 ∧ lost.odv (K.portState r) = 0 ∧
    back.srcIsReady (2 + r) = false ∧ (if r = 0 then back.pwr.watch.refGood0 else back.pwr.watch.refGood1) = 7 ∧ back.portAllowed r = true ∧
    back.odv (K.portState r) = 0 ∧ (if r = 0 then back.pwr.perstLow0 else back.pwr.perstLow1) = false := by decide +kernel

/-- The crystal's watch at a place, with the ready bits and objects given. -/
def watching (w : SrcWatch) (od : List (Nat × Nat)) : State :=
  { tuned live od [] with pwr := { live.pwr with watch := w, starting := 1 } }

theorem wit_CrystalIsJudgedAndLost :
    let s := watching ⟨7, false, 4, 0, 0, false, 0, 0, 0, 0⟩ [(K.srcReady, 1)]
    let t := watching ⟨0, false, 0, 1, 7, true, 0, 0, 0, 0⟩ [(K.srcReady, 3)]
    let u := watching ⟨0, true, 0, 0, 0, false, 0, 0, 0, 0⟩ [(K.srcReady, 5), (K.bringupStage, 0)]
    s.pwr.auxOn = true ∧ s.srcIsReady 1 = false ∧ s.pwr.watch.goodGates = 7 ∧ (2048 ≤ 2052 + 4 ∧ 2052 ≤ 2048 + 4) ∧
    t.srcIsReady 1 = true ∧ t.pwr.watch.monBad = 1 ∧ t.pwr.watch.missing = true ∧ t.pwr.watch.monGood = 7 ∧
    u.pwr.pwrGood = true ∧ u.pwr.starting ≠ 0 ∧ u.odv K.bringupStage = 0 ∧ u.srcIsReady 1 = false ∧ u.srcIsReady 2 = true ∧
    bit (u.odv K.bringupFaults) 0 = false := by decide +kernel

/-- PLL 3 in a state, on the oscillator, with sources ready. -/
def pll (st ready failover : Nat) : State :=
  tuned live [(K.pllSt 3, st), (K.pllSrc 3, 0), (K.srcReady, ready), (K.failover, failover)] []

theorem wit_PllsSwitchFreewheelAndLock : 3 < 4 ∧
    (pll 0 3 0).WriteOk .mailbox 0x01103 1 [1] ∧ (pll 0 3 0).WriteOk .mailbox 0x01103 1 [0] ∧ (pll 0 3 0).odv (K.pllSrc 3) = 0 ∧
    ((pll 0 3 0).writeForm .mailbox 0x01103 1 ((objInfo 0x01103 1).elim 0 (·.ty)) [2] = 0 ∧ (pll 0 3 0).relocking 0x01103 1 = false ∧
      (pll 0 3 0).odv (K.pllSrc 3) ≠ ofBytes [2] ∧ (pll 0 3 0).srcIsReady 2 = false) ∧
    (pll 2 3 0).pllState 3 = 2 ∧ (pll 1 3 0).pllState 3 = 1 ∧ (pll 1 3 0).dict.held = [] ∧
    ((pll 3 3 1).pllState 3 = 3 ∧ (pll 3 3 1).odv K.failover = 1 ∧
      ([1, 2, 3, 0].find? fun n => (pll 3 3 1).srcIsReady n && n != aget 4 (pll 3 3 1).pwr.lostSrc 3) = some 1) ∧ (pll 3 3 0).odv K.failover = 0 :=
  ⟨by decide, writeOk_of (by decide +kernel), writeOk_of (by decide +kernel), by decide +kernel⟩

theorem wit_StationClocksStopAndStart : live.WriteOk .mailbox 0x01020 0 (leBytes 4 0) ∧
    (∀ b ∈ [4, 13], live.stationBusy b = false ∧ live.enabled b = true ∧ (tuned live [] [(okey 0x01030 0, 1)]).cap (okey 0x01030 0) ≠ 0) ∧
    (∀ b ∈ [4, 13], (tuned live [(K.clkRunning, 15)] []).powered = true ∧ (tuned live [(K.clkRunning, 15)] []).odv K.pwrState = 2 ∧
      bit ((tuned live [(K.clkRunning, 15)] []).odv K.clkEnable) b = true ∧ bit ((tuned live [(K.clkRunning, 15)] []).odv K.clkRunning) b = false) :=
  ⟨writeOk_of (by decide +kernel), by decide +kernel⟩

theorem wit_SamplesAreRead : live.pwr.pwrGood = true ∧ live.odv K.bringupStage ≠ 0 ∧ live.odv K.pwrState ≠ 0 := by decide +kernel

theorem wit_SupplyEvents :
    let s : State := { live with pwr := { live.pwr with pwrGood := false } }
    live.pwr.pwrGood = true ∧ { live with pwr := { live.pwr with auxOn := false } }.pwr.auxOn = false ∧
    s.pwr.auxOn = true ∧ s.pwr.pwrGood = false ∧ s.pwr.thermtrip = false ∧ { s with pwr := { s.pwr with thermtrip := true } }.pwr.thermtrip = true := by
  decide +kernel

/-- A start at a stage. -/
def starting (stage mgmt : Nat) : State :=
  { tuned live [(K.bringupStage, stage), (K.pllSt 2, mgmt)] [] with pwr := { live.pwr with starting := 1 } }

theorem wit_BringUpStages :
    ((starting 0 0).powered = true ∧ (starting 0 0).pwr.starting ≠ 0 ∧ (starting 0 0).odv K.bringupStage = 0 ∧ (starting 0 0).pllState 2 = 0) ∧
    ((starting 0 2).odv K.bringupStage = 0 ∧ (starting 0 2).pllState 2 ≠ 0 ∧ (starting 0 2).pwr.noFirmware = false ∧
      ((starting 0 2).setOd K.srcReady 3).srcIsReady 1 = true ∧ bit (((starting 0 2).setOd K.bringupFaults 1).odv K.bringupFaults) 0 = true) ∧
    (starting 1 2).WriteOk .mailbox 0x01014 0 [1] ∧
    ((starting 1 2).odv K.bringupStage = 1 ∧ (starting 1 2).odv K.bringupHold = 0) ∧
    ((starting 2 2).odv K.bringupStage = 2 ∧ (starting 2 2).lb.ops = []) :=
  ⟨by decide +kernel, by decide +kernel, writeOk_of (by decide +kernel), by decide +kernel⟩

theorem wit_ResetsKeepAndLose :
    let asked (r : List Nat) (trained : Bool) : State := { live with pwr := { live.pwr with resets := r, trained := trained } }
    live.WriteOk .mailbox 0x01010 0 [2] ∧ live.WriteOk .mailbox 0x01010 0 [1] ∧ live.powered = true ∧ 3 < 4 ∧
    (live.pwr.pwrGood = true ∧ live.pwr.thermtrip = false) ∧
    ((asked [4, 3] true).pwr.resets.find? (fun c => c != 4) = some 3 ∧ (asked [4, 3] true).pwr.trained = true ∧ (asked [4, 3] true).pwr.retrain = false) ∧
    4 ∈ (asked [4, 3] true).pwr.resets ∧
    ((asked [5] false).pwr.resets.find? (fun c => c != 4) = some 5 ∧ (asked [5] false).pwr.trained = false) :=
  ⟨writeOk_of (by decide +kernel), writeOk_of (by decide +kernel), by decide +kernel⟩

/-- The module in a power state, both PERST# low or high. -/
def resting (st : Nat) (perst : Bool) : State :=
  { tuned live [(K.pwrState, st)] [(okey 0x01031 0, 1)] with pwr := { live.pwr with perstLow0 := perst, perstLow1 := perst } }

theorem wit_PowerStatesMove :
    (live.powered = true ∧ (resting 2 false).odv K.pwrState = 2 ∧ (resting 2 false).idle = true ∧ (resting 2 false).cap (okey 0x01031 0) ≠ 0) ∧
    (resting 2 false).WriteOk .mailbox 0x01033 0 [BitVec.ofNat 8 2] ∧ (resting 1 true).WriteOk (.xaxia 5 0) 0x01033 0 [BitVec.ofNat 8 1] ∧
    (resting 1 false).WriteOk .mailbox 0x01033 0 [BitVec.ofNat 8 3] ∧
    ((resting 1 false).powered = true ∧ (resting 1 false).odv K.pwrState = 1 ∧ 2 ≤ (resting 1 false).odv K.bringupStage) ∧
    ((resting 0 false).powered = true ∧ (resting 0 false).odv K.pwrState = 0 ∧ (resting 0 false).odv K.bringupStage ≠ 0 ∧
      (resting 0 false).pwr.perstLow0 = false ∧ (resting 0 false).pwr.perstLow1 = false ∧ (resting 0 false).xaxiaOn = true) ∧
    { resting 0 true with bell := { live.bell with level := [Bell.cxlLink], routes := [(Bell.cxlLink, 0x800)] } }.anyEnabledHigh = true :=
  ⟨by decide +kernel, writeOk_of (by decide +kernel), writeOk_of (by decide +kernel), writeOk_of (by decide +kernel), by decide +kernel⟩

/-! The Bellboard, the Meter, CXL and security -/

theorem wit_RouteTakesEffectNextTick :
    let s : State := { live with bell := { live.bell with newRoutes := [(1023, 4095)], level := [1023] } }
    live.WriteOk .mailbox 0x097FF 0 (leBytes 4 0x800) ∧ 0x09400 + 1023 = 0x097FF ∧
    s.pending = [] ∧ s.pwr.auxOn = true ∧ s.bell.newRoutes = [(1023, 4095)] ∧ 4095 < 4096 :=
  ⟨writeOk_of (by decide +kernel), by decide +kernel⟩

theorem wit_SourcesClearAndVectorsAcknowledge :
    let s : State := { tuned live [(okey (0x09400 + Bell.cxlLink) 0, 0x800 + 2047)] [] with bell := { live.bell with
      level := [Bell.cxlLink], routes := [(Bell.cxlLink, 0x800 + 2047)], targets := [(2047, ⟨0, 0, false, true⟩)] } }
    live.WriteOk .mailbox 0x09002 0 (leBytes 2 Bell.cxlLink) ∧ bellLatched Bell.cxlLink = true ∧
    (live.writeForm .mailbox 0x09002 0 ((objInfo 0x09002 0).elim 0 (·.ty)) (leBytes 2 1023) = 0 ∧ live.relocking 0x09002 0 = false ∧
      bellLatched 1023 = false) ∧ 2047 < 2048 ∧
    ((s.bellTarget 2047).inService = true ∧ s.bellAnyHigh 2047 = true ∧ (s.bellTarget 2047).waiting = false) ∧
    (live.bellTarget 2047).inService = false ∧ live.WriteOk .mailbox 0x09003 0 (leBytes 2 2047) :=
  ⟨writeOk_of (by decide +kernel), by decide +kernel, by decide +kernel, by decide +kernel, by decide +kernel, by decide +kernel,
    writeOk_of (by decide +kernel)⟩

/-- A target that waits, delivery enabled. -/
def pended (x : Nat) : State :=
  { tuned live [(okey 0x09000 0, 1)] [] with bell := { live.bell with targets := [(x, ⟨1, 0, true, false⟩)] } }

theorem wit_TargetsDeliver :
    (∀ x ∈ [0, 2047, 2048, 2051], x < 2052 ∧ (pended x).pwr.auxOn = true ∧ (pended x).bellMet x = true ∧ ((pended x).bellTarget x).inService = false ∧
      (pended x).bellGlobal = true) ∧
    { (pended 5) with bell := { (pended 5).bell with unmasked := [5] } }.bell.unmasked.contains 5 = true ∧ (pended 5).bell.functionMask = false ∧
    live.bellMet 5 = false ∧ live.WriteOk .mailbox (0x09800 + 2047) 0 (leBytes 8 (2 ^ 40 - 1)) ∧ (live.bellTarget 2047).waiting = false ∧
    live.WriteOk .mailbox 0x09000 0 [0] ∧ live.WriteOk .mailbox 0x09000 0 [1] :=
  ⟨by decide +kernel, by decide +kernel, by decide +kernel, by decide +kernel, writeOk_of (by decide +kernel), by decide +kernel,
    writeOk_of (by decide +kernel), writeOk_of (by decide +kernel)⟩

theorem wit_SnapshotsCopyTheMeter :
    let s := { spoken with sec := live.sec }
    live.WriteOk .mailbox 0x0A000 0 [1] ∧
    (s.Heard 7 5 (message 7 0 []) ∧ xBody (message 7 0 []) = [] ∧ s.odv K.bringupStage ≠ 0 ∧ s.odv K.pwrState ≠ 0 ∧
      (s.noteSeq (ofBytes ((message 7 0 []).take 32))).sessionBad (wayOf 5 (message 7 0 [])) = false ∧ s.odv (okey 0x0B104 0) ≠ 1) ∧
    (live.mboxOn = true ∧ (leBytes 4 0).length = 4) ∧ { live with mtr := { live.mtr with edge := some 9 } }.mtr.edge = some 9 ∧ live.tick + 2 < 9 ∧
    { live with mtr := { live.mtr with edge := some 2, cut := some ([], []) } }.mtr.cut = some ([], []) ∧ 2 ≤ live.tick + 2 :=
  ⟨writeOk_of (by decide +kernel), ⟨heard_of (by decide +kernel), by decide +kernel⟩, by decide +kernel⟩

theorem wit_PortsTrainAndFall : ∀ p ∈ [0, 1],
    let s (st : Nat) := tuned live [(K.portState p, st)] []
    p < 2 ∧ (s 1).odv (K.portState p) = 1 ∧ (s 1).portAllowed p = true ∧ (s 0).odv (K.portState p) = 0 ∧ (s 0).portAllowed p = true ∧
    (s 0).pwr.perstLow0 = false ∧ (s 0).pwr.perstLow1 = false ∧ (s 2).odv (K.portState p) ≠ 0 ∧ live.pel.runs = [] ∧
    4 ≤ 4 ∧ 32 ≤ min 32 ((s 1).odv (K.portMaxRate p)) := by decide +kernel

/-- The decoders open on 64 bytes of the Attic and of the Guest room, two lines asked for. -/
def windows : State :=
  { tuned live [(okey 0x0B221 0, 64), (okey 0x0B222 0, 1), (K.guestBytes, 64)] [] with cxl := { live.cxl with asked := [(3, true), (4, false)] } }

theorem wit_InboundAccessesLand : 1 < 2 ∧ windows.insecure 1 = false ∧ (windows.setOd (K.portIde 1) 2).insecure 1 = true ∧ windows.odv (K.portState 1) = 2 ∧ 2 ≤ windows.odv K.bringupStage ∧ windows.odv K.pwrState = 2 ∧
    windows.window 1 (0xC000000000 - 4) 4 true = some (.attic, 0xC000000000 - 4) ∧ windows.window 1 (0xC018000000 - 4) 4 true = some (.larder, 0x18000000 - 4) ∧
    windows.window 2 60 4 true = some (.attic, 60) ∧ windows.window 3 60 4 true = some (.cellar, 60) ∧ windows.window 2 61 4 true = none ∧
    windows.window 1 (0xC000000000 - 2) 4 true = none ∧ windows.window 1 (0x10000000000 + 60) 4 false = some (.cellar, 60) ∧
    windows.window 3 0 64 false = some (.cellar, 0) ∧ windows.cxl.snoop.length + ((0 + 64 + 63) / 64 - 0 / 64) ≤ 1048576 ∧
    windows.cxl.asked.find? (fun x => x.1 == 3) = some (3, true) ∧ windows.cxl.asked.find? (fun x => x.1 == 4) = some (4, false) := by
  decide +kernel

/-- The owner's open session over the mailbox. -/
def owned : State := { live with dict := { live.dict with sessions := [⟨9, none, true, [], [], [], 0⟩] } }

theorem wit_FirmwareKeysAndAttestation :
    live.WriteOk .mailbox 0x0B003 0 [1] ∧ live.WriteToContent .mailbox 0x0B011 0 [1] ∧
    { live with sec := { live.sec with writing := some [] } }.sec.writing = some [] ∧
    owned.WriteToContent .mailbox 0x0B020 0 (leBytes 64 1) ∧
    (live.reachable .mailbox = true ∧ live.blockForm .mailbox 0x0B031 0 true = 0 ∧ (List.replicate 4096 (0 : Byte)).length ≤ (objInfo 0x0B031 0).elim 0 (·.size)) ∧
    ((starting 0 2).pwr.pwrGood = true ∧ (starting 0 2).odv K.bringupStage = 0) ∧ live.odv (K.portState 1) = 2 :=
  ⟨writeOk_of (by decide +kernel), content_of (by decide +kernel), by decide +kernel, content_of (by decide +kernel), by decide +kernel⟩

theorem wit_ScrubAndTestPort : live.meterWf ∧ live.powered = true ∧ live.odv K.pwrState ≠ 0 ∧ 2 ≤ live.odv K.bringupStage ∧
    (∀ n ∈ [0, 0xC000000000 / 32 - 1], 32 * n < 0xC000000000) ∧ (∀ n ∈ [0xC800000000 / 32 - 1], 32 * n < 0xC800000000) ∧
    live.pwr.auxOn = true ∧ 2 < 3 ∧ (starting 0 2).odv K.bringupStage = 0 ∧ (live.odv K.bringupStage ≠ 0 ∧ live.odv K.pwrState ≠ 0) :=
  ⟨by unfold State.meterWf; decide +kernel, by decide +kernel⟩

/-! ### Single steps, the expected values worked out by hand from the rules named -/

/-- R43, R44: 2^24 + 1 and 1 + 2^-8 lie half-way and go to the even neighbour. -/
theorem test_ties_to_even : f32rnd (Num.ofInt (2 ^ 24 + 1)) = 0x4B800000 ∧ bf16.rnd (.fin false 257 256) = 0x3F80 ∧ bf16.rnd (.fin false 259 256) = 0x3F82 := by
  decide +kernel

/-- R45, R46: E4M3 has its largest value 448 at 0x7E and its least 2^-9 at 0x01; 464 is half-way to the next exponent step
and saturates, or becomes NaN without saturation. -/
theorem test_e4m3 : e4m3.decode 0x7E = Num.ofInt 448 ∧ f32rnd (e4m3.decode 0x01) = 0x3B000000 ∧ (convertElem 4 true .nearest (Num.ofInt 500)).1 = 0x7E ∧
    (convertElem 4 false .nearest (Num.ofInt 500)).1 % 128 = 0x7F := by decide +kernel

/-- R48: 200 saturates to 127, −3/2 goes to −2. -/
theorem test_int8 : convertElem 6 true .nearest (Num.ofInt 200) = (127, .saturated) ∧ convertElem 6 true .nearest (.fin true 3 2) = (0xFE, .ordinary) := by
  decide +kernel

/-- R346: 1/3 and the square root of 2 to the nearest FP32 number; 1/0 is infinite. -/
theorem test_div_sqrt : f32div 0x3F800000 0x40400000 = 0x3EAAAAAB ∧ sqrtF32 (Num.ofInt 2) = 0x3FB504F3 ∧ f32div 0x3F800000 0 = 0x7F800000 := by
  decide +kernel

/-- R91, R112: the first segment of a product 1.0 × 1.0 (E4M3 0x38) is flushed as 1.0 into the Pantry. -/
theorem test_segment : let s := { running [productOp] with attic := ⟨[(0x4000, 0x38)], []⟩ }
    (go [.segmentEnd false 0 0 0] s).entry productOp room 0 0 0 0 = (0x3F800000, false) := by decide +kernel

/-- R103, R88: the tile of the product then is done, and counted. -/
theorem test_tile_done : let o := { productOp with room := some { room with lanes := [(0, (1, false))] } }
    (go [.tileDone ⟨false, 0⟩ 40 3] (running [o])).ctr Ctr.roomTilesDone = 1 ∧ (go [.tileDone ⟨false, 0⟩ 40 3] (running [o])).ctr Ctr.roomBusy = 40 := by
  decide +kernel

/-- R144: the converted tile stores 1.0 in D as FP32, little-endian. -/
theorem test_conversion : (go [.tileConversionEnd ⟨0, 0⟩] (landing (part (letterOf (productLetter 1))))).rd .attic 0x6000 4 = 0x3F800000 := by decide +kernel

/-- R221, R189: the record of the finished letter has sequence number 0, queue 0, no error and phase 0; DONE becomes 1. -/
theorem test_completion : let s := go [.letterCompletion 0 0] (running [{ handedOver (part (letterOf (productLetter 1))) with tilesConv := 1 }])
    s.lb.ops = [] ∧ (s.queue? 0).map (·.done) = some 1 ∧ bits (s.rd .attic 0x20000 32) 0 64 = 0 := by decide +kernel

/-- R213: TAIL advances within the ring; past its 16 letters the doorbell is refused and counted. -/
theorem test_doorbell : ((go [.letterboxDoorbell (15 * 2 ^ 20)] (running [])).queue? 0).map (·.tail) = some 15 ∧
    ((go [.letterboxDoorbell (18 * 2 ^ 20)] (running [])).queue? 0).map (·.tail) = some 1 ∧
    (go [.letterboxDoorbell (18 * 2 ^ 20)] (running [])).ctr Ctr.lbDoorbellBad = 1 := by decide +kernel

/-- R346, R361: ADD of two scalars, 1.0 + 1.0, into register 2, and the core moves on. -/
theorem test_glazia_add : let s := mill (word [(0, 1), (8, 2), (13, 3), (18, 3), (28, 3)]) 0
    let r := { s with gz := { s.gz with regs := [⟨7, 0, [(3, 0x3F800000)], []⟩] } }
    ((go [.add 7] r).gzRegs 7 0).s 2 = 0x40000000 ∧ ((go [.add 7] r).gzCore 7).pc = 41 := by decide +kernel

/-- R436, R441: an RWS write reaches the stoker value only; the swap point exchanges the sets. -/
theorem test_tandem : let s := go [.objectWrite .mailbox 0x0C010 0 (leBytes 4 77)] live
    s.cap K.plDeadlineUs = 10000 ∧ s.stk K.plDeadlineUs = 77 ∧ (go [.swapPoint] (s.setOd K.tandemState 1)).cap K.plDeadlineUs = 77 := by decide +kernel

/-- R483: CLK_ENABLE keeps bits 3 to 0 set; idle stations whose bit clears stop at once. -/
theorem test_clk_enable : let s := go [.clkEnable .mailbox (leBytes 4 0x20)] live
    s.odv K.clkEnable = 0x2F ∧ s.odv K.clkRunning = 0x2F := by decide +kernel

/-- R535: twelve lanes give width 8, a rate of 100 gives 64. -/
theorem test_link_trained : let s := go [.linkTrained 1 12 100] (live.setOd (K.portState 1) 1)
    s.odv (K.portState 1) = 2 ∧ s.odv (K.portWidth 1) = 8 ∧ s.odv (K.portRate 1) = 64 := by decide +kernel

/-- R539, R544: bytes written through BAR2 are read back through it. -/
theorem test_inbound : let s := go [.inboundWrite 0 1 0x100 [1, 2] false, .inboundRead 0 1 0x100 2] live
    s.sent.getLast? = some (.frame 0x30 0 0 [1, 2] []) := by decide +kernel

/-- R515, R519: a met vector is delivered; while its mask is set the message is held as a pending bit, and leaves when the
mask is cleared. -/
theorem test_deliver : (go [.bellDeliver 5] (pended 5)).bell.pendingBits = [5] ∧ (go [.bellDeliver 5, .msixUnmask 5] (pended 5)).sent = [.msix 5] := by
  decide +kernel

/-- R334: FREE of a page with two references leaves one. -/
theorem test_free : let s := go [.pageCmdLo 2, .free none 0 (2 ^ 32)] (paged 2)
    s.odv K.kvCmdDone = 1 ∧ (s.hdr 0 0).refcount = 1 ∧ (s.kvEntry (s.kvCtx 0) 0).2.1 = false := by decide +kernel

/-- The check value of CRC-32C for the digits 1 to 9. -/
theorem test_crc32c : crc32c [0x31, 0x32, 0x33, 0x34, 0x35, 0x36, 0x37, 0x38, 0x39] = 0xE3069283 := by decide +kernel

end Sys2Proof.Tests
end

/-! SUPPORT. What one step can do, said once for both branches of step, and the invariant of the memories. -/

namespace Sys2Proof.Machine

/-- One step takes the front command, if any, from the queue, and the state develops from there as commands let it. -/
theorem step_evolves (s : State) :
    ∃ t, step s = .next t ∧ State.Evolves Fld.cmd { s with pending := s.pending.tail } t := by
  cases hq : s.pending with
  | nil =>
    have hs : ({ s with pending := [] } : State) = s := by rw [← hq]
    refine ⟨s.pilotTick, by simp only [step, hq], ?_⟩
    rw [List.tail_nil, hs]
    exact (State.pilotTick_evolves s).mono rfl
  | cons c rest =>
    obtain ⟨t, he, hev⟩ := exec_evolves c { s with pending := rest }
    exact ⟨t, by simp only [step, hq, he], hev⟩

/-- The memories' canonical form does not depend on the queue of commands. -/
theorem State.memsWf_setPending (s : State) (cs : List Instr) : ({ s with pending := cs } : State).memsWf ↔ s.memsWf := Iff.rfl

end Sys2Proof.Machine

namespace Sys2Proof.Proofs

open Sys2Proof Sys2Proof.Machine

/-- Settles O3: a step on an empty queue is a tick and any other is the front command, and both develop the state from
one that differs from s in the queue at most, by operations that keep the memories canonical. -/
theorem stepKeepsMemories : Obligations.StepKeepsMemories := by
  intro s
  obtain ⟨t, hstep, hev⟩ := step_evolves s
  exact ⟨t, hstep, fun hwf => hev.mems ((s.memsWf_setPending _).2 hwf)⟩

end Sys2Proof.Proofs

/-! SUPPORT. Frames over the parts of the state, the objects, the Meter units and the memories, chained from update to update. -/

namespace Sys2Proof.Machine

/-- The part of the state that holds a space. -/
def spaceFld : Space → Fld
  | .attic => .attic
  | .cellar => .cellar
  | .larder => .larder
  | .host => .host

namespace State

/-- Two updates one after the other change what either changes. -/
theorem sameBut.step {fs gs : List Fld} {s t u : State} (h : s.sameBut fs t) (g : t.sameBut gs u) (hs : Fld.sub gs fs = true) :
    s.sameBut fs u :=
  fun f hf => agree_trans (h f hf) (g f fun hg => hf (Fld.sub_mem hs hg))

/-- Fewer parts named leave more as it was. -/
theorem sameBut.mono {fs gs : List Fld} {s t : State} (g : s.sameBut gs t) (hs : Fld.sub gs fs = true) : s.sameBut fs t :=
  fun f hf => g f fun hg => hf (Fld.sub_mem hs hg)

theorem sameBut.refl (fs : List Fld) (s : State) : s.sameBut fs s := fun f _ => agree_refl s f

theorem sameBut.foldl {α : Type} {fs : List Fld} {g : State → α → State} (hg : ∀ (t : State) (x : α), t.sameBut fs (g t x)) (l : List α) (s : State) :
    s.sameBut fs (l.foldl g s) := by
  induction l generalizing s with
  | nil => exact .refl fs s
  | cons x l ih => exact fun f hf => agree_trans (hg s x f hf) (ih _ f hf)

theorem sameBut.odv {fs : List Fld} {s t : State} (h : s.sameBut fs t) (hf : Fld.od ∉ fs) (k : Nat) : t.odv k = s.odv k := by
  have e : t.od = s.od := h .od hf
  simp only [State.odv, e]

theorem sameBut.cap {fs : List Fld} {s t : State} (h : s.sameBut fs t) (hf : Fld.captain ∉ fs) (k : Nat) : t.cap k = s.cap k := by
  have e : t.captain = s.captain := h .captain hf
  simp only [State.cap, e]

theorem sameBut.portUp {fs : List Fld} {s t : State} (h : s.sameBut fs t) (hf : Fld.od ∉ fs) (p : Nat) : t.portUp p = s.portUp p := by
  simp only [State.portUp, h.odv hf]

theorem sameBut.awake {fs : List Fld} {s t : State} (h : s.sameBut fs t) (hod : Fld.od ∉ fs) (hpwr : Fld.pwr ∉ fs) {l : List Nat}
    (ha : s.awake l) : t.awake l := by
  have e : t.pwr = s.pwr := h .pwr hpwr
  simpa only [State.awake, powered, h.odv hod, e] using ha

/-- Every Meter unit outside the named ones is as it was. -/
def ctrSame (s : State) (us : List Nat) (t : State) : Prop := ∀ u, u ∉ us → t.ctr u = s.ctr u

theorem ctrSame.refl (us : List Nat) (s : State) : s.ctrSame us s := fun _ _ => rfl

theorem ctrSame.trans {us : List Nat} {s t u : State} (h : s.ctrSame us t) (g : t.ctrSame us u) : s.ctrSame us u :=
  fun x hx => (g x hx).trans (h x hx)

theorem ctrSame.mono {us vs : List Nat} {s t : State} (g : s.ctrSame vs t) (h : vs ⊆ us) : s.ctrSame us t :=
  fun x hx => g x fun hv => hx (h hv)

theorem ctrSame.of_meter {us : List Nat} {s t : State} (h : t.meter = s.meter) : s.ctrSame us t := fun u _ => by simp only [ctr, h]

theorem ctrSame_count (s : State) (u n : Nat) : s.ctrSame [u] (s.count u n) :=
  fun x hx => by rw [ctr_count, if_neg (by simpa using hx)]

theorem ctrSame.foldl {α : Type} {us : List Nat} {g : State → α → State} (hg : ∀ (t : State) (x : α), t.ctrSame us (g t x)) (l : List α) (s : State) :
    s.ctrSame us (l.foldl g s) := by
  induction l generalizing s with
  | nil => exact .refl us s
  | cons x l ih => exact (hg s x).trans (ih _)

/-! ### Memories -/

theorem setMem_sameBut (s : State) (sp : Space) (m : Mem) : s.sameBut [spaceFld sp] (s.setMem sp m) := by
  intro f hf
  cases sp <;> cases f <;> simp_all [agree, setMem, spaceFld]

theorem setMem_meter (s : State) (sp : Space) (m : Mem) : (s.setMem sp m).meter = s.meter := by cases sp <;> rfl

theorem put_cellar_sameBut (s : State) (f : Mem → Mem) : s.sameBut [.cellar] (s.put .cellar f) := setMem_sameBut s .cellar _

theorem wr_cellar_sameBut (s : State) (a n v : Nat) : s.sameBut [.cellar] (s.wr .cellar a n v) := put_cellar_sameBut s _

theorem put_host_sameBut (s : State) (f : Mem → Mem) : s.sameBut [.host, .meter] (s.put .host f) := by
  unfold put
  split
  · exact sameBut.mono (count_evolves s _ _).frame rfl
  · exact sameBut.mono (setMem_sameBut s .host _) rfl

theorem put_host_ctrSame (s : State) (f : Mem → Mem) : s.ctrSame [Ctr.hostWriteDrops] (s.put .host f) := by
  unfold put
  split
  · exact ctrSame_count s _ _
  · exact .of_meter (setMem_meter s .host _)

/-! ### Runs of object writes -/

/-- A run of object writes leaves an object alone that none of them names. -/
theorem odv_foldl_setOd_other (key val : Nat → Nat) (l : List Nat) (s : State) {j : Nat} (h : ∀ i ∈ l, j ≠ key i) :
    (l.foldl (fun t i => t.setOd (key i) (val i)) s).odv j = s.odv j := by
  induction l generalizing s with
  | nil => rfl
  | cons i l ih =>
    rw [List.foldl_cons, ih _ fun x hx => h x (List.mem_cons_of_mem _ hx), odv_setOd_other _ _ (h i List.mem_cons_self)]

/-- A run of writes of different objects leaves each with its value. -/
theorem odv_foldl_setOd_mem (key val : Nat → Nat) (hkey : Function.Injective key) (n : Nat) (s : State) {i : Nat} (hi : i < n) :
    ((List.range n).foldl (fun t i => t.setOd (key i) (val i)) s).odv (key i) = val i := by
  induction n with
  | zero => omega
  | succ n ih =>
    rw [List.range_succ, List.foldl_append, List.foldl_cons, List.foldl_nil, odv_setOd]
    split
    · next e => rw [hkey e]
    · next e => exact ih (by have : i ≠ n := fun e' => e (congrArg key e'); omega)

/-- Values that the run's own writes do not touch may be taken before it begins. -/
theorem foldl_setOd_before (key : Nat → Nat) (val : State → Nat → Nat) (n : Nat) (s : State)
    (h : ∀ (t : State) (i v j : Nat), i < n → j < n → val (t.setOd (key i) v) j = val t j) :
    (List.range n).foldl (fun t i => t.setOd (key i) (val t i)) s = (List.range n).foldl (fun t i => t.setOd (key i) (val s i)) s := by
  have key' : ∀ (l : List Nat) (t : State), (∀ i ∈ l, i < n) → (∀ j < n, val t j = val s j) →
      l.foldl (fun t i => t.setOd (key i) (val t i)) t = l.foldl (fun t i => t.setOd (key i) (val s i)) t := by
    intro l
    induction l with
    | nil => intros; rfl
    | cons i l ih =>
      intro t hl ht
      have hi := hl i List.mem_cons_self
      rw [List.foldl_cons, List.foldl_cons, ht i hi]
      exact ih _ (fun x hx => hl x (List.mem_cons_of_mem _ hx)) fun j hj => by rw [h _ _ _ _ hi hj, ht j hj]
  exact key' _ s (fun i hi => List.mem_range.1 hi) fun _ _ => rfl

/-! ### PLLs -/

/-- The object of a key is none of a PLL's (R476 to R480). -/
def noPllKey (k : Nat) : Prop := ∀ p < 4, k / 256 ≠ 0x01100 + p

theorem noPllKey_of_lt {k : Nat} (h : k < okey 0x01100 0) : noPllKey k := by
  intro p _; simp only [okey] at h; omega

theorem noPllKey_of_ge {k : Nat} (h : okey 0x01104 0 ≤ k) : noPllKey k := by
  intro p _; simp only [okey] at h; omega

theorem odv_setPll_other (s : State) {p k : Nat} (st mhz : Nat) (hp : p < 4) (hk : noPllKey k) : (s.setPll p st mhz).odv k = s.odv k := by
  have hd := hk p hp
  have h3 : k ≠ okey (0x01100 + p) 3 := by rintro rfl; simp only [okey] at hd; omega
  have h4 : k ≠ okey (0x01100 + p) 4 := by rintro rfl; simp only [okey] at hd; omega
  rw [setPll, odv_setOd_other _ _ h3, odv_setOd_other _ _ h4]

theorem odv_retunePlls_other (s : State) {k : Nat} (hk : noPllKey k) : s.retunePlls.odv k = s.odv k := by
  have one : ∀ (l : List Nat) (t : State), (∀ p ∈ l, p < 4) →
      (l.foldl (fun s p => if s.pllState p == 2 || s.pllState p == 3 then s.setPll p (s.pllState p) (s.pllTarget p) else s) t).odv k = t.odv k := by
    intro l
    induction l with
    | nil => intros; rfl
    | cons p l ih =>
      intro t hl
      rw [List.foldl_cons, ih _ fun x hx => hl x (List.mem_cons_of_mem _ hx)]
      split
      · exact odv_setPll_other t _ _ (hl p List.mem_cons_self) hk
      · rfl
  exact one _ s (by decide)

/-! ### Station clocks -/

theorem stopStation_ctrSame (s : State) (b : Nat) : s.ctrSame [Ctr.clkGates] (s.stopStation b) := by
  have hpll : ∀ (t : State) (c : Bool) (p : Nat), (if c then t.setPll p 0 0 else t).meter = t.meter := by
    intro t c p; cases c <;> rfl
  unfold stopStation
  dsimp only
  split
  · exact .refl _ s
  · exact (ctrSame_count (s.setOd K.clkRunning _) _ _).trans (.of_meter (by rw [hpll, hpll]))

theorem stopDisabled_ctrSame (s : State) : s.ctrSame [Ctr.clkGates] s.stopDisabled :=
  .foldl (fun t b => by split <;> [exact stopStation_ctrSame t b; exact .refl _ t]) _ s

theorem odv_stopStation_other (s : State) (b : Nat) {k : Nat} (hr : k ≠ K.clkRunning) (hp : noPllKey k) : (s.stopStation b).odv k = s.odv k := by
  unfold stopStation
  dsimp only
  split
  · rfl
  · split <;> split <;> simp only [odv_setPll_other _ _ _ (by decide : 0 < 4) hp, odv_setPll_other _ _ _ (by decide : 3 < 4) hp, count_odv,
      odv_setOd_other _ _ hr]

theorem odv_stopDisabled_other (s : State) {k : Nat} (hr : k ≠ K.clkRunning) (hp : noPllKey k) : s.stopDisabled.odv k = s.odv k := by
  unfold stopDisabled
  generalize ([4, 5, 6, 7, 8, 9, 10, 11, 12, 13] : List Nat) = l
  induction l generalizing s with
  | nil => rfl
  | cons b l ih =>
    rw [List.foldl_cons, ih]
    split <;> [exact odv_stopStation_other s b hr hp; rfl]

/-- A module that runs with its stations clocked does so still where neither the objects nor the supplies have changed. -/
theorem awake.congr {s t : State} {l : List Nat} (h : s.awake l) (hod : t.od = s.od) (hpwr : t.pwr = s.pwr) : t.awake l := by
  simpa only [awake, powered, odv, hod, hpwr] using h

theorem awake.mono {s : State} {l m : List Nat} (h : s.awake l) (hm : m ⊆ l) : s.awake m := ⟨h.1, h.2.1, fun b hb => h.2.2 b (hm hb)⟩

theorem awake.enabled {s : State} {l : List Nat} (h : s.awake l) {b : Nat} (hb : b ∈ l) : s.enabled b = true := (h.2.2 b hb).1

/-- The Letterbox dispatches while it is clocked and the module runs. -/
theorem dispatching_awake {s : State} (h : s.awake [4]) (f : State → State) : s.dispatching f = f s := by
  have hon : s.lbOn = true := h.enabled (b := 4) (by simp)
  rw [dispatching, hon, h.1, demand_awake h (by simp)]
  rfl

/-- A frame arrives for the Exporter at a port that is UP and secure. -/
theorem inboundEx_open {s : State} (h : s.awake [13]) {port : Nat} (hup : s.portUp port = true) (hsec : s.insecure port = false)
    (f : State → State) : s.inboundEx port f = f s := by
  have hstate : (s.odv (K.portState port) == 2) = true := hup
  simp [inboundEx, hstate, hsec, h.enabled (b := 13) (by simp)]

/-! ### Time -/

theorem runTicks_tick (s : State) (n : Nat) : (s.runTicks n).tick = if n = 0 then s.tick else (s.tick + n) % 2 ^ 64 := by
  unfold runTicks
  by_cases h : n = 0
  · simp [h]
  · have hb : ({ s with tick := (s.tick + n) % 2 ^ 64 }.bellTicks n).tick = (s.tick + n) % 2 ^ 64 :=
      (bellTicks_evolves { s with tick := (s.tick + n) % 2 ^ 64 } n).frame .tick (by decide)
    simp only [beq_iff_eq, h, if_false]
    split <;> simp only [count_tick, hb]

/-- Ticks add up, whether or not a snapshot's instant falls among them. -/
theorem ticks_tick (s : State) (n : Nat) : (s.ticks n).tick = if n = 0 then s.tick else (s.tick + n) % 2 ^ 64 := by
  unfold ticks
  split
  · exact runTicks_tick s n
  · next e _ =>
    split
    · next hc =>
      simp only [Bool.and_eq_true, decide_eq_true_eq] at hc
      have hcut : (s.runTicks (e - 2 - s.tick)).meterCut.tick = (s.runTicks (e - 2 - s.tick)).tick := rfl
      rw [runTicks_tick, hcut, runTicks_tick, if_neg (by omega : e - 2 - s.tick ≠ 0), if_neg (by omega : n ≠ 0)]
      split <;> omega
    · exact runTicks_tick s n

theorem atLeast_tick (s : State) (n : Nat) : (s.atLeast n).tick = if s.tick < n then n % 2 ^ 64 else s.tick := by
  rw [atLeast, ticks_tick]
  split <;> split <;> omega

end State

end Sys2Proof.Machine

/-! SUPPORT. The thermal sample (R489) and the power sample (R448, R531). -/

namespace Sys2Proof.Machine.State

/-! ### The throttle level -/

theorem odv_setLevel (s : State) (l k : Nat) (hk : noPllKey k) : (s.setLevel l).odv k = if k = K.thermLevel then l else s.odv k := by
  unfold setLevel
  dsimp only
  split <;> simp [odv_retunePlls_other _ hk, odv_setOd]

/-- Leaving level 0 and returning to it raise THERMAL_THROTTLE and count. -/
theorem setLevel_crossing {s : State} {l : Nat} (h : (s.odv K.thermLevel = 0) ≠ (l = 0)) :
    Bell.thermalThrottle ∈ (s.setLevel l).bell.level ∧
      s.counted [(if s.odv K.thermLevel = 0 then Ctr.thermEntries else Ctr.thermExits, 1)] (s.setLevel l) := by
  have e : ((s.odv K.thermLevel == 0) != (l == 0)) = true := by
    by_cases h1 : s.odv K.thermLevel = 0 <;> by_cases h2 : l = 0 <;> simp_all
  have hm : (((s.setOd K.thermLevel l).retunePlls).raise Bell.thermalThrottle).meter = s.meter := by
    rw [raise_meter, (retunePlls_evolves _).frame .meter (by decide), setOd_meter]
  unfold setLevel
  simp only [e, if_true]
  refine ⟨by rw [count_bell, mem_level_raise]; exact .inl rfl, fun u => ?_⟩
  have hc := counted_one (((s.setOd K.thermLevel l).retunePlls).raise Bell.thermalThrottle)
    (if s.odv K.thermLevel = 0 then Ctr.thermEntries else Ctr.thermExits) 1 u
  simpa only [ctr, hm, beq_iff_eq] using hc

/-! ### The thermal sample -/

/-- Outside BS0 and the Pilot state, with PWR_GOOD high: the samples are taken. -/
structure sampling (s : State) : Prop where
  good : s.pwr.pwrGood = true
  stage : s.odv K.bringupStage ≠ 0
  power : s.odv K.pwrState ≠ 0

/-- What sensor i reads: its raw reading plus its effective offset, within an I16. -/
def sensorTemp (s : State) (raw : List Int) (i : Nat) : Int :=
  max (-32768) (min 32767 (raw.getD i (-32768) + s.calEff calThermal (i + 1)))

/-- The greatest reading of the 64 sensors. -/
def topTemp (s : State) (raw : List Int) : Int := ((List.range 64).map (s.sensorTemp raw)).foldl max (-32768)

/-- The readings in their objects, THERM_MAX first. -/
def storeTemps (s : State) (raw : List Int) : State :=
  (List.range 64).foldl (fun t i => t.setOd (K.thermSensor i) (twos 2 (s.sensorTemp raw i))) (s.setOd K.thermMax (twos 2 (s.topTemp raw)))

/-- The number of cool samples in a row. -/
def setCool (s : State) (n : Nat) : State := { s with pwr := { s.pwr with coolSamples := n } }

@[simp] theorem setCool_odv (s : State) (n k : Nat) : (s.setCool n).odv k = s.odv k := rfl
@[simp] theorem setCool_coolSamples (s : State) (n : Nat) : (s.setCool n).pwr.coolSamples = n := rfl
@[simp] theorem setCool_bell (s : State) (n : Nat) : (s.setCool n).bell = s.bell := rfl
@[simp] theorem setCool_meter (s : State) (n : Nat) : (s.setCool n).meter = s.meter := rfl

theorem foldl_max_ge (l : List Int) (a : Int) : a ≤ l.foldl max a ∧ ∀ x ∈ l, x ≤ l.foldl max a := by
  induction l generalizing a with
  | nil => simp
  | cons y l ih =>
    obtain ⟨h1, h2⟩ := ih (max a y)
    refine ⟨le_trans (le_max_left _ _) h1, fun x hx => ?_⟩
    rcases List.mem_cons.1 hx with rfl | hx
    · exact le_trans (le_max_right _ _) h1
    · exact h2 x hx

theorem foldl_max_mem (l : List Int) (a : Int) : l.foldl max a = a ∨ l.foldl max a ∈ l := by
  induction l generalizing a with
  | nil => simp
  | cons y l ih =>
    rcases ih (max a y) with h | h
    · rw [List.foldl_cons, h]
      rcases max_choice a y with e | e <;> simp [e]
    · exact .inr (List.mem_cons_of_mem _ h)

theorem sensorTemp_le_topTemp (s : State) (raw : List Int) {i : Nat} (hi : i < 64) : s.sensorTemp raw i ≤ s.topTemp raw :=
  (foldl_max_ge _ _).2 _ (List.mem_map_of_mem (List.mem_range.2 hi))

theorem topTemp_mem (s : State) (raw : List Int) : ∃ i, i < 64 ∧ s.topTemp raw = s.sensorTemp raw i := by
  rcases foldl_max_mem ((List.range 64).map (s.sensorTemp raw)) (-32768) with h | h
  · refine ⟨0, by decide, le_antisymm ?_ (sensorTemp_le_topTemp s raw (by decide))⟩
    rw [topTemp, h]
    exact le_max_left _ _
  · obtain ⟨i, hi, e⟩ := List.mem_map.1 h
    exact ⟨i, List.mem_range.1 hi, e.symm⟩

theorem noPllKey_thermSensor {i : Nat} (hi : i < 64) : noPllKey (K.thermSensor i) :=
  noPllKey_of_lt (by simp only [K.thermSensor, okey]; omega)

theorem thermSensor_ne_thermLevel (i : Nat) : K.thermSensor i ≠ K.thermLevel := by
  simp only [K.thermSensor, K.thermLevel, okey]; omega

theorem odv_storeTemps_max (s : State) (raw : List Int) : (s.storeTemps raw).odv K.thermMax = twos 2 (s.topTemp raw) := by
  unfold storeTemps
  rw [odv_foldl_setOd_other K.thermSensor, odv_setOd_self]
  intro i _; simp only [K.thermSensor, K.thermMax, okey]; omega

theorem odv_storeTemps_level (s : State) (raw : List Int) : (s.storeTemps raw).odv K.thermLevel = s.odv K.thermLevel := by
  unfold storeTemps
  rw [odv_foldl_setOd_other K.thermSensor, odv_setOd_other _ _ (by decide)]
  intro i _; simp only [K.thermSensor, K.thermLevel, okey]; omega

theorem odv_storeTemps_sensor (s : State) (raw : List Int) {i : Nat} (hi : i < 64) :
    (s.storeTemps raw).odv (K.thermSensor i) = twos 2 (s.sensorTemp raw i) := by
  unfold storeTemps
  exact odv_foldl_setOd_mem K.thermSensor _ (fun a b e => by simp only [K.thermSensor, okey] at e; omega) 64 _ hi

theorem storeTemps_evolves (s : State) (raw : List Int) : s.Evolves [.od] (s.storeTemps raw) :=
  .foldl (setOd_evolves ..) fun _ _ ht => ht.step (setOd_evolves ..) rfl

@[simp] theorem storeTemps_bell (s : State) (raw : List Int) : (s.storeTemps raw).bell = s.bell :=
  (storeTemps_evolves s raw).frame .bell (by decide)
@[simp] theorem storeTemps_meter (s : State) (raw : List Int) : (s.storeTemps raw).meter = s.meter :=
  (storeTemps_evolves s raw).frame .meter (by decide)
@[simp] theorem storeTemps_pwr (s : State) (raw : List Int) : (s.storeTemps raw).pwr = s.pwr :=
  (storeTemps_evolves s raw).frame .pwr (by decide)

/-- A sample, by the greatest reading: hot, the tenth cool one in a row, or neither. -/
theorem thermalSample_eq {s : State} (h : s.sampling) (raw : List Int) : s.thermalSample raw =
    if 1600 ≤ s.topTemp raw then ((s.storeTemps raw).setCool 0).setLevel (min 7 (s.odv K.thermLevel + 1))
    else if s.topTemp raw < 1552 ∧ s.pwr.coolSamples = 9 then ((s.storeTemps raw).setCool 0).setLevel (s.odv K.thermLevel - 1)
    else (s.storeTemps raw).setCool (if s.topTemp raw < 1552 then s.pwr.coolSamples + 1 else 0) := by
  have hgate : (!s.pwr.pwrGood || s.odv K.bringupStage == 0 || s.odv K.pwrState == 0) = false := by
    simp [h.good, h.stage, h.power]
  have hstore : (List.range 64).foldl (fun t i => t.setOd (K.thermSensor i)
      (twos 2 (((List.range 64).map (s.sensorTemp raw)).getD i 0))) (s.setOd K.thermMax (twos 2 (s.topTemp raw))) = s.storeTemps raw := by
    unfold storeTemps
    refine List.foldl_ext _ _ _ fun t i hi => ?_
    simp [List.getD_eq_getElem?_getD, List.mem_range.1 hi]
  unfold thermalSample
  rw [hgate, if_neg Bool.false_ne_true]
  extract_lets eff top u cool level
  have hu : u = s.storeTemps raw := hstore
  have htop : top = s.topTemp raw := rfl
  have hlevel : level = s.odv K.thermLevel := by rw [← odv_storeTemps_level s raw, ← hu]
  have hcool : cool = if s.topTemp raw < 1552 then s.pwr.coolSamples + 1 else 0 := by simp only [cool, htop, hu, storeTemps_pwr, decide_eq_true_eq]
  clear_value eff top u cool level
  subst hu htop hlevel
  have hten : cool = 10 ↔ s.topTemp raw < 1552 ∧ s.pwr.coolSamples = 9 := by rw [hcool]; split <;> omega
  change (if decide (1600 ≤ s.topTemp raw) = true then ((s.storeTemps raw).setCool 0).setLevel (min 7 (s.odv K.thermLevel + 1))
    else if (cool == 10) = true then ((s.storeTemps raw).setCool 0).setLevel (s.odv K.thermLevel - 1) else (s.storeTemps raw).setCool cool) = _
  simp only [decide_eq_true_eq, beq_iff_eq, hten]
  rw [hcool]

/-- What every sample leaves, whatever it does to the throttle level: the readings, and the parts it does not reach. -/
theorem thermalSample_reads {s : State} (h : s.sampling) (raw : List Int) :
    (s.thermalSample raw).odv K.thermMax = twos 2 (s.topTemp raw) ∧
      ∀ i < 64, (s.thermalSample raw).odv (K.thermSensor i) = twos 2 (s.sensorTemp raw i) := by
  have key : ∀ k, noPllKey k → k ≠ K.thermLevel → (s.thermalSample raw).odv k = (s.storeTemps raw).odv k := by
    intro k hp hl
    rw [thermalSample_eq h]
    split
    · rw [odv_setLevel _ _ _ hp, if_neg hl, setCool_odv]
    · split
      · rw [odv_setLevel _ _ _ hp, if_neg hl, setCool_odv]
      · rw [setCool_odv]
  constructor
  · rw [key _ (noPllKey_of_lt (by decide)) (by decide), odv_storeTemps_max]
  · intro i hi
    rw [key _ (noPllKey_thermSensor hi) (thermSensor_ne_thermLevel i), odv_storeTemps_sensor _ _ hi]

/-- A hot sample. -/
theorem thermalSample_hot {s : State} (h : s.sampling) {raw : List Int} (ht : 1600 ≤ s.topTemp raw) :
    s.thermalSample raw = ((s.storeTemps raw).setCool 0).setLevel (min 7 (s.odv K.thermLevel + 1)) := by
  rw [thermalSample_eq h, if_pos ht]

/-- The tenth cool sample in a row. -/
theorem thermalSample_tenth {s : State} (h : s.sampling) {raw : List Int} (ht : s.topTemp raw < 1552) (hc : s.pwr.coolSamples = 9) :
    s.thermalSample raw = ((s.storeTemps raw).setCool 0).setLevel (s.odv K.thermLevel - 1) := by
  rw [thermalSample_eq h, if_neg (by omega), if_pos ⟨ht, hc⟩]

/-- Any other sample. -/
theorem thermalSample_keeps {s : State} (h : s.sampling) {raw : List Int} (ht : s.topTemp raw < 1600)
    (hc : s.topTemp raw < 1552 → s.pwr.coolSamples ≠ 9) :
    s.thermalSample raw = (s.storeTemps raw).setCool (if s.topTemp raw < 1552 then s.pwr.coolSamples + 1 else 0) := by
  rw [thermalSample_eq h, if_neg (by omega), if_neg fun e => hc e.1 e.2]

/-- Where a sample moves the throttle level: the level, and no cool samples in a row. -/
theorem setLevel_after_sample (s : State) (raw : List Int) (l : Nat) :
    (((s.storeTemps raw).setCool 0).setLevel l).odv K.thermLevel = l ∧ (((s.storeTemps raw).setCool 0).setLevel l).pwr.coolSamples = 0 := by
  refine ⟨by rw [odv_setLevel _ _ _ (noPllKey_of_lt (by decide)), if_pos rfl], ?_⟩
  rw [(setLevel_evolves _ _).frame .pwr (by decide), setCool_coolSamples]

/-- The throttle level after a sample. -/
theorem thermalSample_level {s : State} (h : s.sampling) (raw : List Int) : (s.thermalSample raw).odv K.thermLevel =
    if s.topTemp raw < 1552 ∧ s.pwr.coolSamples = 9 then s.odv K.thermLevel - 1
    else if 1600 ≤ s.topTemp raw then min 7 (s.odv K.thermLevel + 1) else s.odv K.thermLevel := by
  rw [thermalSample_eq h]
  by_cases hot : 1600 ≤ s.topTemp raw
  · rw [if_pos hot, (setLevel_after_sample ..).1, if_neg (by omega), if_pos hot]
  · rw [if_neg hot]
    split
    · rw [(setLevel_after_sample ..).1]
    · rw [setCool_odv, odv_storeTemps_level]

/-- Where a sample takes the throttle level from 0 or back to it, THERMAL_THROTTLE is raised and that is counted. -/
theorem setLevel_after_sample_crossing {s : State} {l : Nat} (raw : List Int) (h : (s.odv K.thermLevel = 0) ≠ (l = 0)) :
    Bell.thermalThrottle ∈ (((s.storeTemps raw).setCool 0).setLevel l).bell.level ∧
      s.counted [(if s.odv K.thermLevel = 0 then Ctr.thermEntries else Ctr.thermExits, 1)] (((s.storeTemps raw).setCool 0).setLevel l) := by
  have hl : ((s.storeTemps raw).setCool 0).odv K.thermLevel = s.odv K.thermLevel := by
    rw [setCool_odv, odv_storeTemps_level]
  have hm : ((s.storeTemps raw).setCool 0).meter = s.meter := by
    rw [setCool_meter, storeTemps_meter]
  obtain ⟨hb, hc⟩ := setLevel_crossing (s := (s.storeTemps raw).setCool 0) (by rwa [hl])
  refine ⟨hb, fun u => ?_⟩
  rw [hl] at hc
  simpa only [ctr, hm] using hc u

/-! ### The power sample -/

/-- A rail's power: its raw reading times its effective gain in units of 2^-15. -/
def railPower (s : State) (raw : List Nat) (i : Nat) : Nat := raw.getD i 0 * (s.calEff calPower (i + 1)).toNat / 2 ^ 15 % 2 ^ 32

theorem calEff_setOd (s : State) (c : CalItem) (sub : Nat) {k : Nat} (v : Nat) (h : okey c.trim sub ≠ k) :
    (s.setOd k v).calEff c sub = s.calEff c sub := by
  simp only [calEff, State.trim, odv_setOd_other _ _ h]

theorem powerSample_eq {s : State} (h : s.sampling) (raw : List Nat) (input : Nat) : s.powerSample raw input =
    ((List.range 8).foldl (fun t i => t.setOd (okey 0x0A030 (i + 1)) (s.railPower raw i)) s).setOd (okey 0x0A030 9) (input % 2 ^ 32) := by
  have hgate : (!s.pwr.pwrGood || s.odv K.bringupStage == 0 || s.odv K.pwrState == 0) = false := by
    simp [h.good, h.stage, h.power]
  have hgain := foldl_setOd_before (fun i => okey 0x0A030 (i + 1)) (fun t i => t.railPower raw i) 8 s fun t i v j hi hj => by
    simp only [railPower]
    rw [calEff_setOd]
    simp only [calPower, okey]; omega
  unfold powerSample
  rw [hgate, if_neg Bool.false_ne_true, ← hgain]
  rfl

end Sys2Proof.Machine.State

namespace Sys2Proof.Proofs

open Sys2Proof Sys2Proof.Machine

/-- Settles O48: a thermal sample is one of three (thermalSample_eq), each of which leaves the readings in their objects
and moves the throttle level or keeps it; a power sample is a run of writes of nine objects, none of them a gain's. -/
theorem samplesAreRead : Obligations.SamplesAreRead := by
  intro s hgood hstage hpower
  have h : s.sampling := ⟨hgood, hstage, hpower⟩
  refine ⟨fun raw => ⟨s.thermalSample raw, rfl, s.topTemp raw, fun i hi => s.sensorTemp_le_topTemp raw hi, s.topTemp_mem raw,
    (State.thermalSample_reads h raw).1, (State.thermalSample_reads h raw).2, ?_, ?_, ?_, ?_, ?_, ?_, ?_, ?_⟩,
    fun raw input => ⟨s.powerSample raw input, rfl, ?_, ?_, ?_, (State.powerSample_evolves s raw input).frame⟩⟩
  · intro ht
    rw [State.thermalSample_hot h ht]
    exact State.setLevel_after_sample ..
  · intro hw ht
    rw [State.thermalSample_keeps h ht (by omega), if_neg (by omega)]
    exact ⟨by simp [s.odv_storeTemps_level], by simp, by simp⟩
  · intro ht hc
    rw [State.thermalSample_keeps h (by omega) fun _ => hc, if_pos ht]
    exact ⟨by simp [s.odv_storeTemps_level], by simp, by simp⟩
  · intro ht hc
    rw [State.thermalSample_tenth h ht hc]
    exact State.setLevel_after_sample ..
  · rintro (⟨hl, ht⟩ | ⟨hl, hzero⟩)
    · rw [State.thermalSample_hot h ht]
      exact (State.setLevel_after_sample_crossing raw (by simp [hl])).1
    · by_cases ht : s.topTemp raw < 1552 ∧ s.pwr.coolSamples = 9
      · rw [State.thermalSample_tenth h ht.1 ht.2]
        exact (State.setLevel_after_sample_crossing raw (by simp [hl])).1
      · have := State.thermalSample_level h raw
        rw [hzero, if_neg ht] at this
        split at this <;> omega
  · intro hl ht
    rw [State.thermalSample_hot h ht]
    simpa only [hl, if_true] using (State.setLevel_after_sample_crossing raw (s := s) (by simp [hl])).2
  · intro hl ht hc
    rw [State.thermalSample_tenth h ht hc]
    simpa [hl] using (State.setLevel_after_sample_crossing raw (s := s) (l := s.odv K.thermLevel - 1) (by simp [hl])).2
  · intro f hf
    exact (State.thermalSample_evolves s raw).frame f (by simp_all)
  · intro i hi
    rw [State.powerSample_eq h, State.odv_setOd_other _ _ (by simp only [okey]; omega)]
    exact State.odv_foldl_setOd_mem (fun i => okey 0x0A030 (i + 1)) (s.railPower raw) (fun a b e => by simp only [okey] at e; omega) 8 s hi
  · rw [State.powerSample_eq h, State.odv_setOd_self]
  · intro k hk
    rw [State.powerSample_eq h, State.odv_setOd_other _ _ (by rintro rfl; exact hk rfl),
      State.odv_foldl_setOd_other (fun i => okey 0x0A030 (i + 1)) (s.railPower raw)]
    rintro i hi rfl
    have := List.mem_range.1 hi
    simp only [okey] at hk; omega

end Sys2Proof.Proofs

/-! SUPPORT. Idle stop of a clock that does not run (R486), and a Meter unit that has outgrown its 64 bits. -/

namespace Sys2Proof.Machine.State

/-- No clock stops, and nothing is counted, where the station's clock does not run. -/
theorem clkIdleTimeout_of_stopped {s : State} {b : Nat} (h : bit (s.odv K.clkRunning) b = false) : s.clkIdleTimeout b = s := by
  unfold clkIdleTimeout stopStation
  simp [h]

end Sys2Proof.Machine.State

namespace Sys2Proof.Proofs

open Sys2Proof Sys2Proof.Machine

/-- The part after a reset, with 2^64 in the unit that counts stopped clocks: a number that no 64-bit unit holds (R523). -/
def overgrownMeter : State := { State.reset with meter := [(Ctr.clkGates, 2 ^ 64)] }

/-- Refutes O47: it quantifies over every state, also those whose Meter units are no 64-bit numbers (State.meterWf is not a
premise), and says of an idle stop that stops nothing that the unit becomes itself plus 0 modulo 2^64. In overgrownMeter the
Letterbox's clock (bit 4) does not run and the station is idle and disabled: the command leaves 2^64 in the unit, where the
statement wants 0. -/
theorem not_stationClocksStopAndStart : ¬ Obligations.StationClocksStopAndStart := by
  intro h
  obtain ⟨-, hidle, -⟩ := h overgrownMeter
  obtain ⟨t, hexec, -, -, -, -, hcounted, -⟩ := hidle 4 (by decide) (by decide) (by decide) (by decide)
  have hstopped : bit (overgrownMeter.odv K.clkRunning) 4 = false := by decide
  have ht : overgrownMeter = t := by
    rw [← State.clkIdleTimeout_of_stopped hstopped]
    exact Host.Outcome.next.inj hexec
  have hunit := hcounted Ctr.clkGates
  rw [← ht, hstopped] at hunit
  exact absurd hunit (by decide)

end Sys2Proof.Proofs

/-! SUPPORT. Dispatch of a letter without paged operands: what the Letterbox's queues, counters and running operations are
afterwards (R205, R218, R225, R226). -/

namespace Sys2Proof.Machine

/-- A queue whose head letter has left it. -/
def QCtx.advanced (c : QCtx) : QCtx := { c with head := (c.head + 1) % 2 ^ 32, readyTick := none }

/-- A queue whose letter left it late (R218). -/
def QCtx.notedLate (c : QCtx) : QCtx := { c with late := min (c.late + 1) (2 ^ 32 - 1) }

namespace State

/-- The ready head letter that HeadIs speaks of is the one the commands find. -/
theorem HeadIs.headOf {s : State} {q : Nat} {c : QCtx} {l : Letter} (h : s.HeadIs q c l) : s.headOf q = some (c, l) := by
  have hon : s.lbOn = true := h.running.enabled (b := 4) (by simp)
  simp [State.headOf, h.queue, hon, h.ready, h.clean, h.letter]

theorem setLb_sameBut (s : State) (l : LbState) : s.sameBut [.lb] { s with lb := l } :=
  fun f hf => by cases f <;> simp_all [agree]

/-- With room in the cache a look-up counts at most a miss, and leaves every queue as it is. -/
theorem touchCtx_of_cacheRoom {s : State} {q : Nat} (h : s.cacheRoom q) :
    s.sameBut [.meter, .lb] (s.touchCtx q) ∧ s.ctrSame [Ctr.lbCtxMiss] (s.touchCtx q) ∧ s.lbSame (s.touchCtx q) := by
  have cache : ∀ t : State, t.cacheRoom q → ∃ l, t.cacheCtx q = { t with lb := { t.lb with cached := l } } := by
    intro t ht
    by_cases hc : q ∈ t.lb.cached
    · exact ⟨_, by rw [cacheCtx, if_pos (by simpa using hc)]⟩
    · have hlen : t.lb.cached.length < 4096 := ht.resolve_left hc
      have hnone : (q :: t.lb.cached)[4096]? = none := List.getElem?_eq_none (by simp; omega)
      exact ⟨_, by rw [cacheCtx, if_neg (by simpa using hc)]; simp only [hnone]; rfl⟩
  unfold touchCtx
  split
  · obtain ⟨l, e⟩ := cache s h
    rw [e]
    exact ⟨(setLb_sameBut s _).mono rfl, .of_meter rfl, rfl⟩
  · dsimp only
    have hc := sameBut.mono (fs := [.meter, .lb]) (count_evolves s Ctr.lbCtxMiss 1).frame rfl
    split
    · obtain ⟨l, e⟩ := cache (s.count Ctr.lbCtxMiss 1) h
      rw [e]
      exact ⟨hc.step (setLb_sameBut _ _) rfl, ctrSame_count s _ _, rfl⟩
    · exact ⟨hc, ctrSame_count s _ _, rfl⟩

/-- The head letter leaves its queue; nothing else of the Letterbox changes but its cache. -/
theorem advanceHead_spec {s : State} {q : Nat} {c : QCtx} (hq : s.queue? q = some c) (hroom : s.cacheRoom q) :
    (∀ j, (s.advanceHead c).queue? j = if j = q then some c.advanced else s.queue? j) ∧ (s.advanceHead c).lb.ops = s.lb.ops ∧
      s.sameBut [.meter, .lb] (s.advanceHead c) ∧ s.ctrSame [Ctr.lbCtxMiss] (s.advanceHead c) := by
  have hcq := queue_q hq
  have e : s.advanceHead c = (s.setQueue c.advanced).touchCtx q := by rw [← hcq]; rfl
  obtain ⟨hf, hc, hl⟩ := touchCtx_of_cacheRoom (s := s.setQueue c.advanced) hroom
  rw [e]
  refine ⟨fun j => ?_, by rw [hl]; rfl, sameBut.step (sameBut.mono (setQueue_evolves s _).frame rfl) hf rfl,
    (ctrSame.of_meter (setQueue_meter ..)).trans hc⟩
  rw [← queue_setQueue hq (show c.advanced.q = q from hcq), queue?, hl]; rfl

theorem noteLate_spec {s : State} {q : Nat} {c : QCtx} (hq : s.queue? q = some c) :
    (∀ j, (s.noteLate q).queue? j = if j = q then some c.notedLate else s.queue? j) ∧
      (s.noteLate q).lb.ops = s.lb.ops ∧ s.ctrSame [Ctr.lbLate] (s.noteLate q) := by
  have e : s.noteLate q = (s.count Ctr.lbLate 1).setQueue c.notedLate := by
    simp [noteLate, hq, QCtx.notedLate]
  rw [e]
  exact ⟨queue_setQueue (s := s.count Ctr.lbLate 1) (c := c) (d := c.notedLate) hq (queue_q (s := s) (c := c) hq), rfl, ctrSame_count s _ _⟩

/-- A letter without paged operands pins nothing. -/
theorem pinReads_unpaged (s : State) {p : Part} (ha : p.a = none) (hb : p.b = none) :
    s.pinReads [p] = (s, [{ p with kv := none, pins := [] }]) := by
  simp [pinReads, pagedRun, ha, hb]

theorem countStreams_ctrSame (s : State) (o : Op) : s.ctrSame [Ctr.porchThreadCap, Ctr.porchSector] (s.countStreams o) := by
  unfold countStreams
  dsimp only
  have hcap : s.ctrSame [Ctr.porchThreadCap, Ctr.porchSector] (if (dealThreads s o).2 then s.count Ctr.porchThreadCap o.parts.length else s) := by
    split
    · exact (ctrSame_count s _ _).mono (by decide)
    · exact .refl _ s
  split
  · exact hcap
  · exact hcap.trans ((ctrSame_count _ _ _).mono (by decide))

/-- One letter without paged operands is launched: it runs from now on as an operation of its own, and is counted. -/
theorem launch_unpaged (s : State) (tg : Target) (slot : Nat) {p : Part} (ha : p.a = none) (hb : p.b = none) :
    let u := if s.isLate p.deadline then s.noteLate p.queue else s
    let t := s.launch tg slot [p]
    (∀ j, t.queueCore j = u.queueCore j) ∧ t.ctr Ctr.lbDispatched = (u.ctr Ctr.lbDispatched + 1) % 2 ^ 64 ∧
      (∃ o, t.lb.ops = u.lb.ops ++ [o] ∧ o.target = tg ∧ o.slot = slot ∧ o.started = false ∧ o.error = 0 ∧ o.captain = s.captain ∧
        o.dispatchTick = s.tick ∧ o.parts.map (fun x => (x.queue, x.seq, x.letter)) = [(p.queue, p.seq, p.letter)]) ∧
      s.sameBut [.meter, .lb, .porch] t := by
  intro u t
  have hu : s.sameBut [.meter, .lb] u := by
    unfold u
    split
    · exact (noteLate_evolves s _).frame
    · exact .refl _ s
  let o := mkOp u tg slot [{ p with late := s.isLate p.deadline, kv := none, pins := [] }] false
  let v := ((u.count Ctr.lbDispatched 1).count Ctr.lbMerges 0).countStreams o
  let w := v.setupStreams o
  have ht : t = ({ w.1 with lb := { w.1.lb with ops := w.1.lb.ops ++ [w.2] } } : State).settle := by
    unfold t launch
    simp only [List.map_cons, List.map_nil, List.foldl_cons, List.foldl_nil]
    rw [pinReads_unpaged (p := { p with late := s.isLate p.deadline }) _ ha hb]
    rfl
  have hv : u.sameBut [.meter] v :=
    (((sameBut.refl _ u).step (count_evolves u _ _).frame rfl).step (count_evolves _ _ _).frame rfl).step (countStreams_evolves _ _).frame rfl
  have hw : v.sameBut [.porch] w.1 := (setupStreams_evolves v o).frame
  have hlb : w.1.lb = u.lb := (hw .lb (by decide)).trans (hv .lb (by decide))
  rw [ht]
  refine ⟨fun j => ?_, ?_, ⟨w.2, by rw [← hlb]; rfl, rfl, rfl, rfl, rfl, hu .captain (by decide), hu .tick (by decide), rfl⟩, ?_⟩
  · rw [queueCore_settle]
    simp only [queueCore, queue?, hlb]
  · have hc : v.ctr Ctr.lbDispatched = (u.ctr Ctr.lbDispatched + 1) % 2 ^ 64 := by
      rw [countStreams_ctrSame _ o _ (by decide), ctr_count, if_neg (by decide), ctr_count, if_pos rfl]
    rw [settle_ctr, ← hc]
    exact congrArg (fun m => aget 0 m Ctr.lbDispatched) (hw .meter (by decide))
  · exact ((((hu.mono rfl).step hv rfl).step hw rfl).step (setLb_sameBut w.1 _) rfl).step (settle_evolves _).frame rfl

/-- What `launched` says rests on the Letterbox's state and one unit. -/
theorem launched.congr {s t u : State} {q : Nat} {c : QCtx} {l : Letter} {tg : Target} {slot : Nat} (h : s.launched q c l tg slot t)
    (hlb : u.lb = t.lb) (hctr : u.ctr Ctr.lbDispatched = t.ctr Ctr.lbDispatched) : s.launched q c l tg slot u := by
  simpa only [launched, queueCore, queue?, hlb, hctr] using h

/-- The head letter leaves its queue, and its lateness is noted (R218). -/
theorem advanceHead_late_spec {s : State} {q : Nat} {c : QCtx} (hq : s.queue? q = some c) (hroom : s.cacheRoom q) (late : Bool) :
    let u := if late then (s.advanceHead c).noteLate q else s.advanceHead c
    u.queueCore q = some (c.sent late) ∧ (∀ j, j ≠ q → u.queueCore j = s.queueCore j) ∧ u.lb.ops = s.lb.ops ∧
      s.ctrSame [Ctr.lbCtxMiss, Ctr.lbLate] u := by
  obtain ⟨hadv, hops, -, hctr⟩ := advanceHead_spec hq hroom
  cases late with
  | false =>
    refine ⟨?_, fun j hj => ?_, hops, hctr.mono (by decide)⟩
    · exact (congrArg (Option.map QCtx.core) (hadv q)).trans (by rw [if_pos rfl]; rfl)
    · exact congrArg (Option.map QCtx.core) ((hadv j).trans (if_neg hj))
  | true =>
    obtain ⟨hnote, hops', hctr'⟩ := noteLate_spec ((hadv q).trans (if_pos rfl))
    refine ⟨?_, fun j hj => ?_, hops'.trans hops, (hctr.mono (by decide)).trans (hctr'.mono (by decide))⟩
    · exact (congrArg (Option.map QCtx.core) (hnote q)).trans (by rw [if_pos rfl]; rfl)
    · exact congrArg (Option.map QCtx.core) ((hnote j).trans ((if_neg hj).trans ((hadv j).trans (if_neg hj))))

/-- The head letter of a queue, without paged operands, is launched as an operation of its own. -/
theorem launch_head {s : State} {q : Nat} {c : QCtx} {l : Letter} (h : s.HeadIs q c l) (tg : Target) (slot : Nat) {p : Part}
    (hq : p.queue = q) (hseq : p.seq = c.head) (hl : p.letter = l) (hdl : p.deadline = s.deadlineOf c) (ha : p.a = none) (hb : p.b = none) :
    s.launched q c l tg slot ((s.advanceHead c).launch tg slot [p]) ∧
      s.sameBut [.meter, .lb, .porch] ((s.advanceHead c).launch tg slot [p]) := by
  obtain ⟨-, -, hadv, -⟩ := advanceHead_spec h.queue h.cached
  obtain ⟨hself, hother, hops, hctr⟩ := advanceHead_late_spec h.queue h.cached (s.isLate (s.deadlineOf c))
  obtain ⟨lq, lctr, ⟨o, lops, ltg, lslot, lst, lerr, lcap, ltick, lparts⟩, lf⟩ := launch_unpaged (s.advanceHead c) tg slot ha hb
  have hlate : (s.advanceHead c).isLate p.deadline = s.isLate (s.deadlineOf c) := by
    have htick : (s.advanceHead c).tick = s.tick := hadv .tick (by decide)
    simp only [isLate, htick, hdl]
  rw [hlate, hq] at lq lctr lops
  refine ⟨⟨(lq q).trans hself, fun j hj => (lq j).trans (hother j hj), by rw [lctr, hctr _ (by decide)],
    o, lops.trans (by rw [hops]), ltg, lslot, lst, lerr, ?_, ?_, ?_⟩, (hadv.mono rfl).step lf rfl⟩
  · exact lcap.trans (hadv .captain (by decide))
  · exact ltick.trans (hadv .tick (by decide))
  · rw [lparts, hq, hseq, hl]

/-- A letter for the buddy that its checks let pass runs from now on, with nothing changed but the Letterbox and its threads. -/
theorem exLaunch_launched {s : State} {q : Nat} {c : QCtx} {l : Letter} (h : s.HeadIs q c l) :
    s.launched q c l .exporter 0 (s.exLaunch c l) ∧ s.sameBut [.meter, .lb, .porch] (s.exLaunch c l) := by
  unfold exLaunch
  exact launch_head h .exporter 0 (queue_q h.queue) rfl rfl rfl rfl rfl

end State

end Sys2Proof.Machine

/-! SUPPORT. The Exporter (R383 to R390, R418, R419): the frames of a stream, the start of a stream to the buddy, and what an arriving
frame and an acknowledgement do. -/

namespace Sys2Proof.Machine

/-! ### Frames -/

theorem ofBytes_leBytes_mod (n v : Nat) : ofBytes (leBytes n v) = v % 256 ^ n := by
  induction n generalizing v with
  | zero => simp [leBytes, ofBytes, Nat.mod_one]
  | succ n ih =>
    rw [leBytes, ofBytes, ih, BitVec.toNat_ofNat, show 256 ^ (n + 1) = 256 * 256 ^ n from pow_succ' .., Nat.mod_mul]

/-- The operation stands in a frame's header whatever the header's later fields hold. -/
theorem fhOp_frameWord {proto op : Nat} (hp : proto < 256) (ho : op < 16) (last : Bool) (count group pfmt tag chunk src dst frame len step : Nat) :
    fhOp (frameWord proto op last count group pfmt tag chunk src dst frame len step) = op := by
  simp only [fhOp, bits, frameWord]
  split <;> omega

/-- The operation of a header read back from a frame's bytes. -/
theorem fhOp_leBytes (h : Nat) (b : List Byte) : fhOp (ofBytes ((leBytes 32 h ++ b).take 32)) = fhOp h := by
  have e : (leBytes 32 h ++ b).take 32 = leBytes 32 h := List.take_left' (leBytes_length 32 h)
  rw [e, ofBytes_leBytes_mod]
  simp only [fhOp, bits]
  omega

theorem pieces_ne_nil (n f : Nat) (b : List Byte) : pieces n (f + 1) b ≠ [] := by
  unfold pieces
  split <;> simp

theorem streamFrames_ne_nil (g me dst step : Nat) (d : StreamData) : streamFrames g me dst step d ≠ [] := by
  have h := pieces_ne_nil 32768 (d.bytes.length / 32768) d.bytes
  simp [streamFrames, List.zip_eq_nil_iff, h]

/-- Every frame of a stream is of the exporting protocol (R402). -/
theorem streamFrames_op (g me dst step : Nat) (d : StreamData) :
    ∀ f ∈ streamFrames g me dst step d, fhOp (ofBytes (f.1.take 32)) = 6 := by
  intro f hf
  obtain ⟨⟨b, i⟩, -, rfl⟩ := List.mem_map.1 hf
  rw [fhOp_leBytes, fhOp_frameWord (by decide) (by decide)]

namespace State

/-! ### Starting a stream to the buddy -/

/-- An EXPORT about to run: its letter, bank, step, member and kind are given, and its stream is formed as frames that are
all still to leave. -/
structure ExportFormed (j : ExJob) : Prop where
  frames : j.rest ≠ []
  op : ∀ f ∈ j.rest, fhOp (ofBytes (f.1.take 32)) = 6

theorem deltaOk_congr {s t : State} (hod : t.od = s.od) (hc : t.cellar = s.cellar) (hf : t.ex.forceFull = s.ex.forceFull)
    (b group me guest : Nat) : t.deltaOk b group me guest = s.deltaOk b group me guest := by
  simp only [deltaOk, bankHeader, bankAddr, rd, mem, odv, hod, hc, hf]

theorem bankNextStep_congr {s t : State} (hod : t.od = s.od) (hc : t.cellar = s.cellar) (b : Nat) :
    t.bankNextStep b = s.bankNextStep b := by
  simp only [bankNextStep, bankAddr, rd, mem, odv, hod, hc]

/-- EX_STATE of a running job: an OPEN waits for it, or not. -/
def exBusy (s : State) : Nat := if s.gz.waiting.isSome then 2 else 1

/-- The Exporter with a job that runs. -/
def setJob (s : State) (j : ExJob) : State := { s with ex := { s.ex with job := some j } }

theorem setEx_sameBut (s : State) (x : ExState) : s.sameBut [.ex] { s with ex := x } :=
  fun f hf => by cases f <;> simp_all [agree]

theorem setJob_sameBut (s : State) (j : ExJob) : s.sameBut [.ex] (s.setJob j) := setEx_sameBut s _

theorem demand_setJob {s : State} (h : s.awake [13]) (j : ExJob) : (s.setJob j).demand [13] = s.setJob j :=
  demand_awake (h.congr rfl rfl) fun _ hb => hb

/-- With the Exporter clocked a stream to the buddy begins by becoming the running one. -/
theorem startExport_eq {s : State} (h : s.awake [13]) (letter : Option (Nat × Nat)) (b : Nat) (force : Bool) (guest : Nat) :
    ∃ j, s.startExport letter b force guest = (s.setJob j).setOd K.exState s.exBusy ∧
      ExportFormed j ∧ j.letter = letter ∧ j.bank = b ∧ j.member = s.cap K.exBuddy ∧ j.step = (s.bankNextStep b + 2 ^ 64 - 1) % 2 ^ 64 ∧
      j.kind = if (!force && s.deltaOk b (s.cap K.exGroup) (s.cap (K.plGroup (s.cap K.exGroup) 2)) guest) then 1 else 0 := by
  have formed : s.startExport letter b force guest = ((s.setJob _).demand [13]).setOd K.exState s.exBusy := rfl
  refine ⟨_, formed.trans (by rw [demand_setJob h]), ⟨streamFrames_ne_nil _ _ _ _ _, streamFrames_op _ _ _ _ _⟩, ?_⟩
  dsimp only
  exact ⟨rfl, rfl, rfl, rfl, rfl⟩

/-- What an EXPORT reads of the state it starts in, where little has changed since the state of its command. -/
theorem startExport_of_frame {s u : State} (hf : s.sameBut [.lb, .porch, .host, .meter, .tick, .ex, .bell, .mtr] u)
    (hforce : u.ex.forceFull = s.ex.forceFull) (h : s.awake [13]) (letter : Option (Nat × Nat)) (b : Nat) (force : Bool) (guest : Nat) :
    ∃ j, u.startExport letter b force guest = (u.setJob j).setOd K.exState s.exBusy ∧ u.sent = s.sent ∧ ExportFormed j ∧
      j.letter = letter ∧ j.bank = b ∧ j.member = s.cap K.exBuddy ∧ j.step = (s.bankNextStep b + 2 ^ 64 - 1) % 2 ^ 64 ∧
      j.kind = if (!force && s.deltaOk b (s.cap K.exGroup) (s.cap (K.plGroup (s.cap K.exGroup) 2)) guest) then 1 else 0 := by
  have hod : u.od = s.od := hf .od (by decide)
  have hcellar : u.cellar = s.cellar := hf .cellar (by decide)
  have hcap : ∀ k, u.cap k = s.cap k := hf.cap (by decide)
  have hbusy : u.exBusy = s.exBusy := by rw [exBusy, exBusy, hf .gz (by decide)]
  obtain ⟨j, hstart, hj, hletter, hbank, hmember, hstep, hkind⟩ := startExport_eq (hf.awake (by decide) (by decide) h) letter b force guest
  rw [hbusy] at hstart
  rw [hcap] at hmember
  rw [bankNextStep_congr hod hcellar] at hstep
  rw [deltaOk_congr hod hcellar hforce, hcap, hcap] at hkind
  exact ⟨j, hstart, hf .sent (by decide), hj, hletter, hbank, hmember, hstep, hkind⟩

/-- A copy in host memory changes nothing else but two counters (R390). -/
theorem hostCopy_frame (s : State) (b group me : Nat) :
    s.sameBut [.host, .meter] (s.hostCopy b group me) ∧ s.ctrSame [Ctr.hostWriteDrops, Ctr.exHostSkipped] (s.hostCopy b group me) := by
  unfold hostCopy
  dsimp only
  split
  · exact ⟨.refl _ s, .refl _ s⟩
  · split
    · exact ⟨sameBut.mono (count_evolves s _ _).frame rfl, (ctrSame_count s _ _).mono (by decide)⟩
    · refine ⟨sameBut.step (put_host_sameBut s _) (.foldl (fun t p => put_host_sameBut t _) _ _) rfl, ?_⟩
      exact ((put_host_ctrSame s _).trans (.foldl (fun t p => put_host_ctrSame t _) _ _)).mono (by decide)

theorem hostCopy_if_frame (s : State) (c : Prop) [Decidable c] (b group me : Nat) :
    s.sameBut [.host, .meter] (if c then s.hostCopy b group me else s) ∧
      s.ctrSame [Ctr.hostWriteDrops, Ctr.exHostSkipped] (if c then s.hostCopy b group me else s) := by
  split
  · exact hostCopy_frame s b group me
  · exact ⟨.refl _ s, .refl _ s⟩

/-! ### AUTO exports -/

/-- The state in which an AUTO stream of bank b forms its stream: the idle time has passed, the bank no longer waits, and its
host copy is made if one is due. -/
def autoReady (s : State) (b : Nat) : State :=
  let u := s.atLeast (s.pel.idleSince + usTicks (s.cap K.exIdleUs))
  let v := ({ u with ex := { u.ex with pending := none } } : State).count Ctr.exportStarts 1
  if v.hostDue b then v.hostCopy b (v.cap K.exGroup) (v.cap (K.plGroup (v.cap K.exGroup) 2)) else v

theorem exportAuto_eq {s : State} (h : s.awake [13]) (guest : Nat) {b : Nat} (hb : s.ex.pending = some b) (hmode : s.cap K.exMode = 1)
    (hjob : s.ex.job = none) (hrest : s.restoring = false) (hruns : s.pel.runs = []) (hup : s.portUp (s.cap K.exPort) = true) :
    s.exportAuto guest = (s.autoReady b).startExport none b false guest := by
  have hgo : ¬(s.cap K.exMode != 1 || s.ex.job.isSome || s.restoring || !s.pel.runs.isEmpty || !s.enabled 13 || !s.portUp (s.cap K.exPort)) = true := by
    simp [hmode, hjob, hrest, hruns, hup, h.enabled (b := 13) (by simp)]
  unfold exportAuto
  rw [hb]
  exact if_neg hgo

theorem autoReady_spec (s : State) (b : Nat) :
    s.sameBut [.host, .meter, .tick, .ex, .bell, .mtr] (s.autoReady b) ∧ (s.autoReady b).ex = { s.ex with pending := none } ∧
      (s.autoReady b).tick = (s.atLeast (s.pel.idleSince + usTicks (s.cap K.exIdleUs))).tick := by
  have hev := atLeast_evolves s (s.pel.idleSince + usTicks (s.cap K.exIdleUs))
  unfold autoReady
  generalize s.atLeast (s.pel.idleSince + usTicks (s.cap K.exIdleUs)) = u at hev ⊢
  have hex : u.ex = s.ex := hev.frame .ex (by decide)
  have hu : s.sameBut [.host, .meter, .tick, .ex, .bell, .mtr] (({ u with ex := { u.ex with pending := none } } : State).count Ctr.exportStarts 1) := by
    exact sameBut.step (sameBut.step (hev.frame.mono rfl) (setEx_sameBut u _) rfl) (count_evolves _ _ _).frame rfl
  obtain ⟨hc, -⟩ := hostCopy_if_frame (({ u with ex := { u.ex with pending := none } } : State).count Ctr.exportStarts 1)
    ((({ u with ex := { u.ex with pending := none } } : State).count Ctr.exportStarts 1).hostDue b) b
    (u.cap K.exGroup) (u.cap (K.plGroup (u.cap K.exGroup) 2))
  exact ⟨hu.step hc rfl, (hc .ex (by decide)).trans (by rw [count_ex, hex]), hc .tick (by decide)⟩

/-! ### Export letters -/

/-- The head letter that HeadIs speaks of is the Exporter's when its route and its choice say so. -/
theorem exHead_eq {s : State} {q : Nat} {c : QCtx} {l : Letter} (h : s.HeadIs q c l) (hroute : l.route = 0x20)
    (hchosen : s.chosen q .exporter = true) (hfree : s.freeSlot .exporter = some 0) (guestSend : Bool)
    (hprog : (l.prog % 4096 == 2) = guestSend) : s.exHead q guestSend = some (c, l) := by
  simp [exHead, h.headOf, hroute, hchosen, hfree, hprog]

theorem firstErr_append_none {l : List (Bool × Nat)} {m : List (Bool × Nat)} (h : firstErr l = none) : firstErr (l ++ m) = firstErr m := by
  induction l with
  | nil => rfl
  | cons x l ih =>
    obtain ⟨bad, e⟩ := x
    cases bad
    · exact ih h
    · simp [firstErr] at h

/-- An EXPORT letter to the buddy that passes its checks: it runs, makes its host copy if one is asked for or due, and its
stream starts. -/
theorem exportLetter_eq {s : State} {q : Nat} {c : QCtx} {l : Letter} (h : s.HeadIs q c l) (hroute : l.route = 0x20)
    (hchosen : s.chosen q .exporter = true) (hfree : s.freeSlot .exporter = some 0) (hchecks : firstErr (exChecks s c l) = none)
    (hprog : l.prog % 4096 = 1) (hbank : s.bankStatus (s.odv K.bankCurrent) = 1) (hbuddy : bit l.param0 0 = true)
    (hup : s.portUp (s.cap K.exPort) = true) (guest : Nat) :
    ∃ u, s.exportLetter q guest = u.startExport (some (q, c.head)) (s.odv K.bankCurrent) (bit l.param0 2) guest ∧
      s.launched q c l .exporter 0 u ∧ s.sameBut [.meter, .lb, .porch, .host] u := by
  obtain ⟨hl, hf⟩ := exLaunch_launched h
  have hcq := queue_q h.queue
  have hfirst : firstErr (exChecks s c l ++ [(l.prog % 4096 != 1 || s.bankStatus (s.odv K.bankCurrent) != 1, Err.exState)]) = none := by
    rw [firstErr_append_none hchecks, hprog, hbank]; rfl
  unfold exportLetter
  rw [exHead_eq h hroute hchosen hfree false (by rw [hprog]; rfl)]
  dsimp only
  rw [hfirst]
  dsimp only
  rw [hbuddy, hcq]
  generalize s.exLaunch c l = u at hl hf ⊢
  obtain ⟨hcopy, hctr⟩ := hostCopy_if_frame u ((bit l.param0 1 || true && u.hostDue (s.odv K.bankCurrent)) = true) (s.odv K.bankCurrent)
    (u.cap K.exGroup) (u.cap (K.plGroup (u.cap K.exGroup) 2))
  generalize (if (bit l.param0 1 || true && u.hostDue (s.odv K.bankCurrent)) = true then
    u.hostCopy (s.odv K.bankCurrent) (u.cap K.exGroup) (u.cap (K.plGroup (u.cap K.exGroup) 2)) else u) = v at hcopy hctr ⊢
  have hsv : s.sameBut [.meter, .lb, .porch, .host] v := (hf.mono rfl).step hcopy rfl
  have hport : v.portUp (v.cap K.exPort) = true := by rw [hsv.portUp (by decide), hsv.cap (by decide), hup]
  refine ⟨v, by rw [hport]; rfl, hl.congr (hcopy .lb (by decide)) (hctr _ (by decide)), hsv⟩

/-- A GUEST_SEND letter that passes its checks runs, and the Guest room's image is the running job to its member. -/
theorem guestSend_eq {s : State} {q : Nat} {c : QCtx} {l : Letter} (h : s.HeadIs q c l) (ha : s.awake [13]) (hroute : l.route = 0x20)
    (hchosen : s.chosen q .exporter = true) (hfree : s.freeSlot .exporter = some 0) (hchecks : firstErr (exChecks s c l) = none)
    (hprog : l.prog % 4096 = 2) (hbytes : s.odv K.guestBytes ≠ 0) (hstatus : ghStatus s.guestHeader ≠ 0xFF)
    (hsource : ghSource s.guestHeader = bits l.param0 0 16) (hup : s.portUp (s.cap K.exPort) = true) :
    ∃ j, s.guestSend q = ((s.exLaunch c l).setJob j).setOd K.exState s.exBusy ∧ ExportFormed j ∧ j.letter = some (q, c.head) ∧
      j.kind = 2 ∧ j.member = bits l.param0 0 16 := by
  obtain ⟨-, hf⟩ := exLaunch_launched h
  have hcq := queue_q h.queue
  have hfirst : firstErr (exChecks s c l ++ [(s.odv K.guestBytes == 0 || ghStatus s.guestHeader == 0xFF || ghSource s.guestHeader != bits l.param0 0 16,
      Err.exBuddy)]) = none := by
    rw [firstErr_append_none hchecks]
    simp [hbytes, hstatus, hsource, firstErr]
  unfold guestSend
  rw [exHead_eq h hroute hchosen hfree true (by rw [hprog]; rfl)]
  dsimp only
  rw [hfirst]
  dsimp only
  generalize s.exLaunch c l = u at hf ⊢
  have hport : u.portUp (u.cap K.exPort) = true := by rw [hf.portUp (by decide), hf.cap (by decide), hup]
  have hgz : u.exBusy = s.exBusy := by rw [exBusy, exBusy, hf .gz (by decide)]
  rw [hport, hcq, ← hgz, if_neg (by decide)]
  have hd := demand_setJob (hf.awake (by decide) (by decide) ha)
  refine ⟨_, (show _ = ((u.setJob _).demand [13]).setOd K.exState ((u.setJob _).demand [13]).exBusy from rfl).trans (by rw [hd]; rfl),
    ⟨streamFrames_ne_nil _ _ _ _ _, streamFrames_op _ _ _ _ _⟩, ?_⟩
  dsimp only
  exact ⟨rfl, rfl, rfl⟩

/-! ### Acknowledgements -/

/-- What the end of the running job leaves before its letter ends (R389, R424). -/
def exportOver (s : State) (j : ExJob) (err : Nat) : State :=
  let u : State := { s with ex := { s.ex with job := none } }
  if j.kind == 2 then u
  else if err == 0 then
    let v := ((u.setOd K.exLastStep j.step).count Ctr.exStreams 1).count Ctr.exBytes j.bytes
    let v := v.count (if j.kind == 1 then Ctr.exDelta else Ctr.exFull) 1
    { v with ex := { v.ex with forceFull := false } }
  else ({ u with ex := { u.ex with forceFull := true } } : State).raise Bell.exportFail

theorem exportOver_gz (s : State) (j : ExJob) (err : Nat) : (s.exportOver j err).gz = s.gz := by
  unfold exportOver
  dsimp only
  split
  · rfl
  · split <;> [rfl; exact raise_gz _ _]

theorem exportOver_job (s : State) (j : ExJob) (err : Nat) : (s.exportOver j err).ex.job = none := by
  unfold exportOver
  dsimp only
  split
  · rfl
  · split <;> [rfl; rw [raise_ex]]

/-- With no OPEN that waits, the end of a job ends its letter and leaves EX_STATE idle. -/
theorem endExport_eq {s : State} (hw : s.gz.waiting = none) (j : ExJob) (err : Nat) :
    s.endExport j err = (((s.exportOver j err).endExportLetter j.letter err).setOd K.exState 0).stopDisabled := by
  have hgz : ((s.exportOver j err).endExportLetter j.letter err).gz = s.gz :=
    ((endExportLetter_evolves _ _ _).frame .gz (by decide)).trans (exportOver_gz s j err)
  have e : s.endExport j err = ((((s.exportOver j err).endExportLetter j.letter err).setOd K.exState
      (if ((s.exportOver j err).endExportLetter j.letter err).gz.waiting.isSome then 2 else 0)).resumeOpen).stopDisabled := rfl
  rw [e, hgz, hw]
  congr 1
  unfold resumeOpen
  rw [setOd_gz, hgz, hw]
  rfl

/-- The end of a letter that is done counts nothing. -/
theorem endExportLetter_done_meter (s : State) (letter : Option (Nat × Nat)) : (s.endExportLetter letter 0).meter = s.meter := by
  unfold endExportLetter
  split
  · rfl
  · split <;> rfl

/-- What every acknowledgement or refusal leaves: no job runs. -/
theorem endExport_idle {s : State} (hw : s.gz.waiting = none) (j : ExJob) (err : Nat) :
    (s.endExport j err).ex = (s.exportOver j err).ex ∧ (s.endExport j err).bell = (s.exportOver j err).bell ∧
      (s.endExport j err).odv K.exState = 0 ∧ (s.endExport j err).odv K.exLastStep = (s.exportOver j err).odv K.exLastStep := by
  rw [endExport_eq hw]
  have hl := endExportLetter_evolves (s.exportOver j err) j.letter err
  have hs := stopDisabled_evolves (((s.exportOver j err).endExportLetter j.letter err).setOd K.exState 0)
  refine ⟨(hs.frame .ex (by decide)).trans (hl.frame .ex (by decide)), (hs.frame .bell (by decide)).trans (hl.frame .bell (by decide)), ?_, ?_⟩
  · rw [odv_stopDisabled_other _ (by decide) (noPllKey_of_ge (by decide)), odv_setOd_self]
  · rw [odv_stopDisabled_other _ (by decide) (noPllKey_of_ge (by decide)), odv_setOd_other _ _ (by decide), sameBut.odv hl.frame (by decide)]

/-- An acknowledged EXPORT counts its stream and its bytes, and sets EX_LAST_STEP; the next may be a DELTA. -/
theorem endExport_acknowledged {s : State} (hw : s.gz.waiting = none) {j : ExJob} (hk : j.kind ≠ 2) :
    (s.endExport j 0).odv K.exLastStep = j.step ∧ (s.endExport j 0).ex.forceFull = false ∧
      (s.endExport j 0).ctr Ctr.exStreams = (s.ctr Ctr.exStreams + 1) % 2 ^ 64 ∧
      (s.endExport j 0).ctr Ctr.exBytes = (s.ctr Ctr.exBytes + j.bytes) % 2 ^ 64 := by
  obtain ⟨hex, -, -, hstep⟩ := endExport_idle hw j 0
  let u := (({ s with ex := { s.ex with job := none } } : State).setOd K.exLastStep j.step).count Ctr.exStreams 1
  let v := (u.count Ctr.exBytes j.bytes).count (if j.kind == 1 then Ctr.exDelta else Ctr.exFull) 1
  have hover : s.exportOver j 0 = { v with ex := { v.ex with forceFull := false } } := by
    unfold exportOver
    dsimp only
    rw [if_neg (by simpa using hk)]
    rfl
  have hv : (u.count Ctr.exBytes j.bytes).ctrSame [Ctr.exDelta, Ctr.exFull] v := (ctrSame_count _ _ _).mono (by split <;> decide)
  have hctr : ∀ x, x ≠ Ctr.clkGates → (s.endExport j 0).ctr x = v.ctr x := fun x hx => by
    rw [endExport_eq hw, stopDisabled_ctrSame _ x (by simpa using hx), setOd_ctr, ctr, endExportLetter_done_meter, hover]; rfl
  refine ⟨by rw [hstep, hover]; exact odv_setOd_self .., by rw [hex, hover], ?_, ?_⟩
  · rw [hctr _ (by decide), hv _ (by decide), ctr_count, if_neg (by decide), ctr_count, if_pos rfl]; rfl
  · rw [hctr _ (by decide), hv _ (by decide), ctr_count, if_pos rfl, ctr_count, if_neg (by decide)]; rfl

/-- A refused EXPORT makes the next one FULL and raises EXPORT_FAIL; EX_LAST_STEP stays. -/
theorem endExport_refused {s : State} (hw : s.gz.waiting = none) {j : ExJob} (hk : j.kind ≠ 2) {err : Nat} (he : err ≠ 0) :
    (s.endExport j err).ex.forceFull = true ∧ Bell.exportFail ∈ (s.endExport j err).bell.level ∧
      (s.endExport j err).odv K.exLastStep = s.odv K.exLastStep := by
  obtain ⟨hex, hbell, -, hstep⟩ := endExport_idle hw j err
  have hover : s.exportOver j err = ({ s with ex := { s.ex with job := none, forceFull := true } } : State).raise Bell.exportFail := by
    unfold exportOver
    dsimp only
    rw [if_neg (by simpa using hk), if_neg (by simpa using he)]
  rw [hex, hbell, hstep, hover]
  exact ⟨by rw [raise_ex], (mem_level_raise _ _ _).2 (.inl rfl), by rw [raise_odv]; rfl⟩

/-! ### Replies -/

/-- A frame outside a letter goes by one of the two ports, which is UP when either is. -/
theorem memberPorts_eq (s : State) (g m : Nat) :
    ∃ p < 2, s.memberPorts g m = [p] ∧ (s.portUp 0 = true ∨ s.portUp 1 = true → s.portUp p = true) := by
  unfold memberPorts
  split <;> split
  · next h => exact ⟨1, by decide, rfl, fun _ => h⟩
  · next h => exact ⟨0, by decide, rfl, fun e => e.resolve_right h⟩
  · next h => exact ⟨0, by decide, rfl, fun _ => h⟩
  · next h => exact ⟨1, by decide, rfl, fun e => e.resolve_left h⟩

/-- A reply leaves when a port is UP and none is insecure; it counts no unit but PELOTON_BYTES. -/
theorem exReply_spec (s : State) (h err : Nat) :
    (s.portUp 0 = true ∨ s.portUp 1 = true → (∀ p, s.insecure p = false) → ∃ f, (s.exReply h err).sent = s.sent ++ [f]) ∧
      s.ctrSame [Ctr.plSent, Ctr.plSent + 1] (s.exReply h err) := by
  obtain ⟨p, hp, hports, hup⟩ := memberPorts_eq s (fhGroup h) (fhSrc h)
  have hport : s.plPort [p] 0 = if s.portUp p then some p else none := by
    unfold plPort
    by_cases e : s.portUp p = true <;> simp [e]
  unfold exReply plSend
  dsimp only
  rw [hports, hport]
  constructor
  · intro hany hsec
    rw [if_pos (hup hany)]
    dsimp only
    rw [hsec p]
    exact ⟨_, rfl⟩
  · by_cases e : s.portUp p = true
    · rw [if_pos e]
      dsimp only
      split
      · exact .refl _ s
      · exact (ctrSame.of_meter (us := []) rfl).mono (List.nil_subset _) |>.trans ((ctrSame_count _ _ _).mono (by interval_cases p <;> decide))
    · rw [if_neg e]
      exact .refl _ s

/-! ### Streams that arrive -/

/-- The record of a stream that was refused on its first frame. -/
def refusedRx (h : Nat) (image : Bool) : ExRx :=
  { group := fhGroup h, src := fhSrc h, image := image, refused := true, bytes := [], poison := [] }

/-- A stream's record is found once it is set. -/
theorem find_setRx (s : State) {r : ExRx} {h : Nat} (hr : r.isOf h = true) :
    ((s.setRx r true).ex.rx.find? fun x => x.isOf h && x.image == r.image) = some r := by
  have hnone : (s.ex.rx.filter fun x => !(x.group == r.group && x.src == r.src && x.image == r.image)).find?
      (fun x => x.isOf h && x.image == r.image) = none := by
    simp only [ExRx.isOf, Bool.and_eq_true, beq_iff_eq] at hr
    simp only [List.find?_eq_none, List.mem_filter, ExRx.isOf, hr.1, hr.2]
    rintro x ⟨-, hx⟩
    simp only [Bool.not_eq_true', Bool.and_eq_false_iff, beq_eq_false_iff_ne] at hx
    simp only [Bool.and_eq_true, beq_iff_eq]
    tauto
  simp only [setRx, List.find?_append, hnone]
  simp [hr]

theorem setRx_sameBut (s : State) (r : ExRx) (keep : Bool) : s.sameBut [.ex] (s.setRx r keep) := (setRx_evolves s r keep).frame

theorem demand_exporter {s : State} (h : s.awake [13]) : s.demand [13] = s := demand_awake h fun _ hb => hb

/-- A first frame whose header does not fit: the stream is refused, which is answered, and counted of a FULL or DELTA. -/
theorem streamFrame_refused {s : State} (ha : s.awake [13]) {image : Bool} {h : Nat} {b : List Byte} (hfirst : fhChunk h = 0)
    (hkind : (shKind (ofBytes (b.take 64)) == 2) = image)
    {err : Nat} (herr : (if image then s.restoreRefuses (ofBytes (b.take 64)) else if s.guestRefuses (ofBytes (b.take 64)) then Err.exBuddy else 0) = err)
    (hne : err ≠ 0) (port : Nat) (poison : List Nat) :
    let u := s.setRx (refusedRx h image) true
    s.streamFrame image port h b poison =
      ((if image then u else u.count Ctr.guestRefused 1).exReply h err).setRx (refusedRx h image) (!fhLast h) := by
  intro u
  have hne' : (err != 0) = true := by simpa using hne
  have hex : ((if image then u else u.count Ctr.guestRefused 1).exReply h err).ex = u.ex := by
    rw [(exReply_evolves _ _ _).frame .ex (by decide)]
    split <;> rfl
  have hfind : (u.ex.rx.find? fun x => x.isOf h && x.image == image) = some (refusedRx h image) :=
    find_setRx s (r := refusedRx h image) (h := h) (by simp [ExRx.isOf, refusedRx])
  unfold streamFrame
  dsimp only
  rw [demand_exporter ha, hfirst, hkind, herr, hne']
  simp only [beq_self_eq_true, bne_self_eq_false, Bool.and_false, Bool.not_true, if_true, if_false, Bool.false_eq_true]
  rw [show s.setRx { group := fhGroup h, src := fhSrc h, image := image, refused := true, bytes := [], poison := [] } true = u from rfl, hex, hfind]
  rfl

/-- What a stream brings goes into the Cellar and nowhere else. -/
theorem applySegs_sameBut (s : State) (segs : List (Nat × Nat × Nat)) (b : List Byte) (old : Nat) (poison : List Nat) :
    s.sameBut [.cellar] (s.applySegs segs b old poison) := by
  unfold applySegs
  refine .foldl (fun t ⟨o, a, n⟩ => ?_) _ s
  dsimp only
  split
  · exact .refl _ t
  · exact sameBut.step (put_cellar_sameBut t _) (.foldl (fun t p => put_cellar_sameBut t _) _ _) rfl

/-- A later frame of a stream that was not refused: its bytes go where the stream's do, and it is added to the record of the
stream, or ends it. -/
theorem streamFrame_later {s : State} (ha : s.awake [13]) {image : Bool} {h : Nat} (hfirst : fhChunk h ≠ 0) {r : ExRx}
    (hfind : (s.ex.rx.find? fun x => x.isOf h && x.image == image) = some r) (hopen : r.refused = false) (port : Nat) (b : List Byte)
    (poison : List Nat) :
    ∃ u marks, s.sameBut [.cellar] u ∧ s.streamFrame image port h b poison =
      if fhLast h = false then u.setRx { r with bytes := r.bytes ++ b, poison := marks } true
      else if crcOk (r.bytes ++ b) (shBytes (ofBytes ((r.bytes ++ b).take 64))) = true then
        (if image then (u.setRx r false).restoreComplete (ofBytes ((r.bytes ++ b).take 64))
         else (u.setRx r false).guestComplete (ofBytes ((r.bytes ++ b).take 64))).exReply h 0
      else (if image then u.setRx r false else (u.setRx r false).count Ctr.guestRefused 1).exReply h Err.exBuddy := by
  have hf : (fhChunk h == 0) = false := by simpa using hfirst
  unfold streamFrame
  dsimp only
  rw [demand_exporter ha, hf]
  simp only [Bool.false_and, Bool.false_eq_true, if_false, Bool.not_false, if_true]
  rw [hfind]
  simp only [hopen, Bool.false_eq_true, if_false, Bool.not_eq_true']
  generalize hu : s.applySegs _ _ _ _ = u
  generalize r.poison ++ _ = marks
  refine ⟨u, marks, hu ▸ applySegs_sameBut s _ _ _ _, ?_⟩
  by_cases hlast : fhLast h = false
  · rw [if_pos hlast, if_pos hlast]
  · rw [if_neg hlast, if_neg hlast]
    by_cases hcrc : crcOk (r.bytes ++ b) (shBytes (ofBytes ((r.bytes ++ b).take 64))) = true
    · rw [if_pos hcrc, if_neg (by simp [hcrc])]
    · rw [if_neg hcrc, if_pos (by simpa using hcrc)]

/-- A reply after changes that touch neither what has left nor the ports. -/
theorem exReply_sends {s u : State} (hsent : u.sent = s.sent) (hport : ∀ p, u.odv (K.portState p) = s.odv (K.portState p))
    (hide : ∀ p, u.odv (K.portIde p) = s.odv (K.portIde p)) (h err : Nat) (hany : s.portUp 0 = true ∨ s.portUp 1 = true)
    (hsec : ∀ p, s.insecure p = false) : ∃ f, (u.exReply h err).sent = s.sent ++ [f] := by
  rw [← hsent]
  refine (exReply_spec u h err).1 ?_ fun p => ?_
  · simpa only [portUp, hport] using hany
  · simpa only [insecure, hide] using hsec p

/-- What a refusal leaves: an answer that says so, and of a FULL or DELTA a count. -/
theorem streamFrame_refused_spec {s : State} (ha : s.awake [13]) {image : Bool} {h : Nat} {b : List Byte} (hfirst : fhChunk h = 0)
    (hkind : (shKind (ofBytes (b.take 64)) == 2) = image)
    {err : Nat} (herr : (if image then s.restoreRefuses (ofBytes (b.take 64)) else if s.guestRefuses (ofBytes (b.take 64)) then Err.exBuddy else 0) = err)
    (hne : err ≠ 0) (port : Nat) (poison : List Nat) :
    (s.portUp 0 = true ∨ s.portUp 1 = true → (∀ p, s.insecure p = false) → ∃ f, (s.streamFrame image port h b poison).sent = s.sent ++ [f]) ∧
      s.sameBut [.meter, .sent, .ex] (s.streamFrame image port h b poison) ∧
      (image = false → (s.streamFrame image port h b poison).ctr Ctr.guestRefused = (s.ctr Ctr.guestRefused + 1) % 2 ^ 64) := by
  let u := if image then s.setRx (refusedRx h image) true else (s.setRx (refusedRx h image) true).count Ctr.guestRefused 1
  have hu : s.sameBut [.meter, .ex] u := by
    unfold u
    split
    · exact (setRx_sameBut s _ _).mono rfl
    · exact ((setRx_sameBut s _ _).mono rfl).step (count_evolves _ _ _).frame rfl
  rw [streamFrame_refused ha hfirst hkind herr hne port poison]
  refine ⟨fun hany hsec => ?_, ?_, fun hi => ?_⟩
  · exact exReply_sends (hu .sent (by decide)) (fun p => hu.odv (by decide) _) (fun p => hu.odv (by decide) _) h err hany hsec
  · exact ((hu.mono rfl).step (exReply_evolves u h err).frame rfl).step (setRx_sameBut _ _ _) rfl
  · have hcount : u = (s.setRx (refusedRx h image) true).count Ctr.guestRefused 1 := by unfold u; rw [hi]; rfl
    have hctr : (u.exReply h err).ctr Ctr.guestRefused = (s.ctr Ctr.guestRefused + 1) % 2 ^ 64 := by
      rw [(exReply_spec u h err).2 _ (by decide), hcount, ctr_count, if_pos rfl]; rfl
    exact hctr

/-- The end of a stream to the Guest room: its header is valid, and that is counted. -/
theorem guestComplete_spec (s : State) (h : Nat) :
    s.sameBut [.cellar, .meter] (s.guestComplete h) ∧ (s.guestComplete h).ctr Ctr.guestApplied = (s.ctr Ctr.guestApplied + 1) % 2 ^ 64 ∧
      (s.guestComplete h).rd .cellar (s.odv K.guestBase + 8) 1 = 1 := by
  unfold guestComplete
  dsimp only
  generalize hu : (((s.wr .cellar _ 8 _).wr .cellar _ 3 _).wr .cellar _ 4 _).wr .cellar _ 1 _ = u
  have hsu : s.sameBut [.cellar] u := hu ▸ (((wr_cellar_sameBut s _ _ _).step (wr_cellar_sameBut _ _ _ _) rfl).step
    (wr_cellar_sameBut _ _ _ _) rfl).step (wr_cellar_sameBut _ _ _ _) rfl
  have hw : s.sameBut [.cellar] (u.wr .cellar (s.odv K.guestBase + 8) 1 1) := hsu.step (wr_cellar_sameBut u _ _ _) rfl
  have hm : (u.wr .cellar (s.odv K.guestBase + 8) 1 1).meter = s.meter := hw .meter (by decide)
  refine ⟨sameBut.step (hw.mono rfl) (count_evolves _ _ _).frame rfl, by rw [ctr_count, if_pos rfl, ctr, hm]; rfl, ?_⟩
  exact Mem.nat_writeNat_self _ _ _ _ (by decide)

theorem odv_advanceBank (s : State) (b k : Nat) : (s.advanceBank b).odv k = if k = K.bankCurrent then b else s.odv k := by
  rw [← odv_setOd]
  unfold advanceBank
  dsimp only
  split <;> rfl

/-- The end of an image: the restored bank is current, the module is armed no longer, and GUEST_RESTORED is raised. -/
theorem restoreComplete_spec (s : State) (h : Nat) :
    (∀ k, (s.restoreComplete h).odv k = if k = K.guestRestore then 0 else
      if k = K.bankCurrent then s.odv K.guestStep % max 1 (s.odv K.bankCount) else s.odv k) ∧
      Bell.guestRestored ∈ (s.restoreComplete h).bell.level := by
  unfold restoreComplete
  dsimp only
  generalize hu : s.wr .cellar _ 64 _ = u
  have hod : u.od = s.od := by rw [← hu]; exact wr_cellar_sameBut s _ _ _ .od (by decide)
  have hodv : ∀ (x : ExState) (k : Nat), ({ u with ex := x } : State).odv k = s.odv k := fun x k => by simp only [odv, hod]
  refine ⟨fun k => ?_, (mem_level_raise _ _ _).2 (.inl rfl)⟩
  rw [raise_odv, odv_setOd, odv_advanceBank, hodv]

/-- A whole stream to the Guest room, and its acknowledgement. -/
theorem guestComplete_replied {s v : State} (hv : s.sameBut [.cellar, .ex] v) (hd h : Nat) :
    let t := (v.guestComplete hd).exReply h 0
    (s.portUp 0 = true ∨ s.portUp 1 = true → (∀ p, s.insecure p = false) → ∃ f, t.sent = s.sent ++ [f]) ∧
      t.ctr Ctr.guestApplied = (s.ctr Ctr.guestApplied + 1) % 2 ^ 64 ∧ t.rd .cellar (s.odv K.guestBase + 8) 1 = 1 := by
  obtain ⟨hg, hctr, hrd⟩ := guestComplete_spec v hd
  have hsg : s.sameBut [.cellar, .ex, .meter] (v.guestComplete hd) := (hv.mono rfl).step hg rfl
  have hcellar : ((v.guestComplete hd).exReply h 0).cellar = (v.guestComplete hd).cellar := (exReply_evolves _ h 0).frame .cellar (by decide)
  refine ⟨exReply_sends (hsg .sent (by decide)) (fun p => hsg.odv (by decide) _) (fun p => hsg.odv (by decide) _) h 0, ?_, ?_⟩
  · rw [(exReply_spec _ h 0).2 _ (by decide), hctr, ctr, hv .meter (by decide)]; rfl
  · rw [hv.odv (by decide)] at hrd
    exact (congrArg (fun m => m.nat (s.odv K.guestBase + 8) 1) hcellar).trans hrd

/-- A whole image, and its acknowledgement. -/
theorem restoreComplete_replied {s v : State} (hv : s.sameBut [.cellar, .ex] v) (hd h : Nat) :
    let t := (v.restoreComplete hd).exReply h 0
    (s.portUp 0 = true ∨ s.portUp 1 = true → (∀ p, s.insecure p = false) → ∃ f, t.sent = s.sent ++ [f]) ∧
      t.odv K.bankCurrent = s.odv K.guestStep % max 1 (s.odv K.bankCount) ∧ t.odv K.guestRestore = 0 ∧
      Bell.guestRestored ∈ t.bell.level := by
  obtain ⟨hodv, hbell⟩ := restoreComplete_spec v hd
  have hr := (exReply_evolves (v.restoreComplete hd) h 0).frame
  have hsent : (v.restoreComplete hd).sent = s.sent := ((restoreComplete_evolves v hd).frame .sent (by decide)).trans (hv .sent (by decide))
  have hother : ∀ k, k ≠ K.guestRestore → k ≠ K.bankCurrent → (v.restoreComplete hd).odv k = s.odv k := fun k hg hb => by
    rw [hodv, if_neg hg, if_neg hb, hv.odv (by decide)]
  have hkeys : ∀ p i, 0x0B200 ≤ p → okey p i ≠ K.guestRestore ∧ okey p i ≠ K.bankCurrent := fun p i hp => by
    simp only [okey, K.guestRestore, K.bankCurrent]; omega
  refine ⟨exReply_sends hsent (fun p => hother _ (hkeys _ 1 (by omega)).1 (hkeys _ 1 (by omega)).2)
    (fun p => hother _ (hkeys _ 5 (by omega)).1 (hkeys _ 5 (by omega)).2) h 0, ?_, ?_, ?_⟩
  · rw [hr.odv (by decide), hodv, if_neg (by decide), if_pos rfl, hv.odv (by decide), hv.odv (by decide)]
  · rw [hr.odv (by decide), hodv, if_pos rfl]
  · rw [hr .bell (by decide)]; exact hbell

/-! ### The clauses on arriving frames -/

/-- A frame of a stream, to the Guest room or of an image, at a port that is UP and secure. -/
theorem exec_streamFrame {s : State} (ha : s.awake [13]) {port : Nat} (hup : s.portUp port = true) (hsec : s.insecure port = false)
    (image : Bool) (h : Nat) (b : List Byte) (poison : List Nat) :
    exec (if image then .restoreStream port h b poison else .exportFrame port h b poison) s = .next (s.streamFrame image port h b poison) := by
  cases image
  · exact congrArg _ (inboundEx_open ha hup hsec _)
  · exact congrArg _ (inboundEx_open ha hup hsec _)

/-- A later frame that is not the last is added to the record of its stream. -/
theorem streamFrame_adds {s : State} (ha : s.awake [13]) {image : Bool} {h : Nat} (hfirst : fhChunk h ≠ 0) {r : ExRx}
    (hfind : (s.ex.rx.find? fun x => x.isOf h && x.image == image) = some r) (hopen : r.refused = false) (hlast : fhLast h = false)
    (port : Nat) (b : List Byte) (poison : List Nat) :
    ∃ x ∈ (s.streamFrame image port h b poison).ex.rx, x.image = image ∧ x.group = r.group ∧ x.src = r.src ∧ x.bytes = r.bytes ++ b ∧
      x.refused = false := by
  obtain ⟨u, marks, -, heq⟩ := streamFrame_later ha hfirst hfind hopen port b poison
  have hmatch : (r.isOf h && r.image == image) = true := List.find?_some (p := fun x : ExRx => x.isOf h && x.image == image) hfind
  have himage : r.image = image := beq_iff_eq.1 (Bool.and_eq_true_iff.1 hmatch).2
  rw [heq, if_pos hlast]
  exact ⟨_, List.mem_append_right _ List.mem_cons_self, himage, rfl, rfl, rfl, hopen⟩

/-- The last frame of a stream whose CRC is right completes it, and is answered. -/
theorem streamFrame_completes {s : State} (ha : s.awake [13]) {image : Bool} {h : Nat} (hfirst : fhChunk h ≠ 0) {r : ExRx}
    (hfind : (s.ex.rx.find? fun x => x.isOf h && x.image == image) = some r) (hopen : r.refused = false) (hlast : fhLast h = true)
    {b : List Byte} (hcrc : crcOk (r.bytes ++ b) (shBytes (ofBytes ((r.bytes ++ b).take 64))) = true) (port : Nat) (poison : List Nat) :
    ∃ v, s.sameBut [.cellar, .ex] v ∧ s.streamFrame image port h b poison =
      (if image then v.restoreComplete (ofBytes ((r.bytes ++ b).take 64)) else v.guestComplete (ofBytes ((r.bytes ++ b).take 64))).exReply h 0 := by
  obtain ⟨u, marks, hf, heq⟩ := streamFrame_later ha hfirst hfind hopen port b poison
  refine ⟨u.setRx r false, (hf.mono rfl).step (setRx_sameBut u r false) rfl, ?_⟩
  rw [heq, if_neg (by simp [hlast]), if_pos hcrc]

/-- The answer to the running job's stream ends the job, with an error when it is a refusal (R389, R424). -/
theorem exportAck_eq {s : State} {j : ExJob} (hj : s.ex.job = some j) {h : Nat} (hgroup : fhGroup h = j.group) (hsrc : fhSrc h = j.member) :
    s.exportAck h = s.endExport j (if fhCount h ≠ 0 then 0 else if j.kind == 2 then fhChunk h % 256 else Err.exBuddy) := by
  unfold exportAck
  rw [hj]
  dsimp only
  rw [if_neg (by simp [hgroup, hsrc])]
  by_cases hc : fhCount h = 0 <;> simp [hc]

end State

end Sys2Proof.Machine

namespace Sys2Proof.Proofs

open Sys2Proof Sys2Proof.Machine

/-- Settles O31, clause by clause. An AUTO stream and an EXPORT letter's start from a state that differs from the command's
in few parts (autoReady_spec, exportLetter_eq), of which startExport_of_frame says what the stream reads; GUEST_SEND forms its
own. A frame that arrives is refused, added or the last of its stream (streamFrame_refused_spec, streamFrame_adds,
streamFrame_completes), and an answer ends the running job (exportAck_eq). -/
theorem exportsAndGuests : Obligations.ExportsAndGuests := by
  intro s ha
  have h4 : s.awake [4] := ha.mono (by simp)
  have h13 : s.awake [13] := ha.mono (by simp)
  intro me busy ready due
  refine ⟨?auto, ?letters, ?streams, ?acks⟩
  case auto =>
    intro guest b hb hmode hjob hrest hruns hup
    obtain ⟨hf, hex, htick⟩ := s.autoReady_spec b
    obtain ⟨j, hstart, hsent, hj, hletter, hbank, hmember, hstep, hkind⟩ :=
      State.startExport_of_frame (hf.mono rfl) (by rw [hex]) h13 none b false guest
    refine ⟨s.exportAuto guest, congrArg _ (if_pos (h13.enabled (b := 13) (by simp))), ?_⟩
    rw [State.exportAuto_eq h13 guest hb hmode hjob hrest hruns hup, hstart]
    exact ⟨htick.trans (s.atLeast_tick due), congrArg ExState.pending hex, State.odv_setOd_self ..,
      ⟨j, ⟨rfl, hsent, hj.frames, hj.op⟩, hbank, hletter, hkind, hmember, hstep⟩,
      ((hf.mono rfl).step (State.setJob_sameBut _ j) rfl).step (State.setOd_evolves _ _ _).frame rfl⟩
  case letters =>
    intro q c l guest h hroute hchosen hfree hchecks
    refine ⟨fun hprog hbank hbuddy hup => ?_, fun hprog hbytes hstatus hsource hup => ?_⟩
    · obtain ⟨u, hu, hl, hf⟩ := State.exportLetter_eq h hroute hchosen hfree hchecks hprog hbank hbuddy hup guest
      obtain ⟨j, hstart, hsent, hj, hletter, hjbank, -, -, hkind⟩ := State.startExport_of_frame (hf.mono rfl)
        (by rw [hf .ex (by decide)]) h13 (some (q, c.head)) (s.odv K.bankCurrent) (bit l.param0 2) guest
      refine ⟨s.exportLetter q guest, congrArg _ (State.dispatching_awake h4 _), ?_⟩
      rw [hu, hstart]
      refine ⟨hl.congr rfl rfl, State.odv_setOd_self .., j, ⟨rfl, hsent, hj.frames, hj.op⟩, hletter, hjbank, ?_⟩
      simpa only [Bool.and_eq_true, Bool.not_eq_true'] using hkind
    · obtain ⟨hl, hf⟩ := State.exLaunch_launched h
      obtain ⟨j, hsend, hj, hletter, hkind, hmember⟩ :=
        State.guestSend_eq h h13 hroute hchosen hfree hchecks hprog hbytes hstatus hsource hup
      refine ⟨s.guestSend q, congrArg _ (State.dispatching_awake h4 _), ?_⟩
      rw [hsend]
      exact ⟨hl.congr rfl rfl, State.odv_setOd_self .., j, ⟨rfl, hf .sent (by decide), hj.frames, hj.op⟩, hletter, hkind, hmember⟩
  case streams =>
    intro port h b po hup hsec hd replies
    refine ⟨fun hfirst hkind hrefuse => ?_, fun hfirst hkind hrefuse => ?_, fun r image hlater hfind hr =>
      ⟨fun hlast => ⟨_, State.exec_streamFrame h13 hup hsec image h b po, ?_⟩,
        fun hlast hcrc => ⟨_, State.exec_streamFrame h13 hup hsec image h b po, ?_⟩⟩⟩
    · obtain ⟨hsent, hf, hctr⟩ := State.streamFrame_refused_spec h13 (image := false) hfirst (by simpa using hkind) (err := Err.exBuddy)
        (by rw [if_pos hrefuse]; rfl) (by decide) port po
      exact ⟨_, State.exec_streamFrame h13 hup hsec false h b po, hctr rfl, hsent, hf⟩
    · obtain ⟨hsent, hf, -⟩ := State.streamFrame_refused_spec h13 (image := true) hfirst (by simpa using hkind) rfl hrefuse port po
      exact ⟨_, State.exec_streamFrame h13 hup hsec true h b po, hsent, hf⟩
    · exact State.streamFrame_adds h13 hlater hfind hr hlast port b po
    · obtain ⟨v, hv, heq⟩ := State.streamFrame_completes h13 hlater hfind hr hlast hcrc port po
      rw [heq]
      cases image with
      | false =>
        obtain ⟨hsent, hctr, hrd⟩ := State.guestComplete_replied hv (ofBytes ((r.bytes ++ b).take 64)) h
        exact ⟨hsent, fun _ => ⟨hctr, hrd⟩, nofun⟩
      | true =>
        obtain ⟨hsent, hbank, hrestore, hbell⟩ := State.restoreComplete_replied hv (ofBytes ((r.bytes ++ b).take 64)) h
        exact ⟨hsent, nofun, fun _ => ⟨hbank, hrestore, hbell⟩⟩
  case acks =>
    intro port h j hup hsec hj hgroup hsrc hw
    refine ⟨s.exportAck h, congrArg _ (State.inboundEx_open h13 hup hsec _), ?_⟩
    rw [State.exportAck_eq hj hgroup hsrc]
    obtain ⟨hex, -, hstate, -⟩ := State.endExport_idle hw j (if fhCount h ≠ 0 then 0 else if j.kind == 2 then fhChunk h % 256 else Err.exBuddy)
    refine ⟨by rw [hex, State.exportOver_job], hstate, fun hc hk => ?_, fun hc hk => ?_⟩
    · rw [if_pos hc]
      exact State.endExport_acknowledged hw hk
    · rw [if_neg (by simpa using hc), if_neg (by simpa using hk)]
      exact State.endExport_refused hw hk (by decide)

end Sys2Proof.Proofs

/-! SUPPORT. Rounding to the nearest integer (R43), and the conversion of a finite value into INT8 (R48). -/

namespace Sys2Proof.Machine

/-- Of q + r/den the nearest integer is no further than a half from it, and is even where it is a half from it. -/
theorem Num.rne_nearest {q r den : Nat} (hr : r < den) :
    2 * (Num.rne q r den * den) ≤ 2 * (q * den + r) + den ∧ 2 * (q * den + r) ≤ 2 * (Num.rne q r den * den) + den ∧
      (2 * (Num.rne q r den * den) = 2 * (q * den + r) + den ∨ 2 * (q * den + r) = 2 * (Num.rne q r den * den) + den →
        Num.rne q r den % 2 = 0) := by
  have hup : (q + 1) * den = q * den + den := Nat.succ_mul q den
  unfold Num.rne
  split
  · omega
  · split
    · rw [hup]; omega
    · simp only [beq_iff_eq]
      split
      · omega
      · rw [hup]; omega

/-- The nearest integer of n/d, ties to even (R43). -/
theorem Num.roundNat_nearest (n : Nat) {d : Nat} (hd : 0 < d) :
    2 * Num.roundNat n d * d ≤ 2 * n + d ∧ 2 * n ≤ 2 * Num.roundNat n d * d + d ∧
      (2 * Num.roundNat n d * d = 2 * n + d ∨ 2 * n = 2 * Num.roundNat n d * d + d → Num.roundNat n d % 2 = 0) := by
  have h := Num.rne_nearest (q := n / d) (Nat.mod_lt n hd)
  rw [Nat.div_add_mod' n d] at h
  rwa [Nat.mul_assoc]

/-- A finite value in INT8, by its nearest integer: clamped, gone to 0, or as it is. -/
theorem toInt8_fin (neg : Bool) (n d : Nat) : toInt8 (.fin neg n d) =
    ((if neg then -((min (Num.roundNat n d) 127 : Nat) : Int) else ((min (Num.roundNat n d) 127 : Nat) : Int)),
      if 127 < Num.roundNat n d then .saturated else if Num.roundNat n d = 0 ∧ n ≠ 0 then .underflow else .ordinary) := by
  simp only [toInt8, Bool.and_eq_true, beq_iff_eq, bne_iff_ne]
  by_cases hclamp : 127 < Num.roundNat n d
  · simp [hclamp, Nat.min_eq_right hclamp.le]
  · have hmin : min (Num.roundNat n d) 127 = Num.roundNat n d := Nat.min_eq_left (by omega)
    by_cases hzero : Num.roundNat n d = 0 ∧ n ≠ 0
    · simp [hzero]
    · simp only [hclamp, hzero, hmin, if_false]

end Sys2Proof.Machine

namespace Sys2Proof.Proofs

open Sys2Proof Sys2Proof.Machine

/-- Settles O24: a conversion into format 6 is toInt8, which looks at neither the option nor the mode, and the nearest
integer that it clamps is within a half of n/d (Num.roundNat_nearest). -/
theorem int8ConversionSaturates : Obligations.Int8ConversionSaturates := by
  intro sat m neg sgn
  refine ⟨rfl, by cases neg <;> rfl, fun n d hd => ?_⟩
  obtain ⟨hlow, hhigh, htie⟩ := Num.roundNat_nearest n hd
  refine ⟨Num.roundNat n d, hlow, hhigh, htie, ?_⟩
  change (unsigned 8 (toInt8 (.fin neg n d)).1, (toInt8 (.fin neg n d)).2) = _
  rw [toInt8_fin]

end Sys2Proof.Proofs

/-! SUPPORT. A letter whose destination D is marked as S. An update of a destination goes by that mark (Part.setDest), so that
what the Landing latches and counts for D goes to S. The Letterbox forms no such letter (mkDest), but a State can hold one. -/

namespace Sys2Proof.Proofs

open Sys2Proof Sys2Proof.Machine

/-- A tensor of one FP32 element in the Attic, without scales, blocks or side list. -/
def oneElement (base : Nat) : TDesc :=
  { base := base, space := .attic, format := 1, rank := 1, blkCode := 0, mx := false, blkDim := 0, sideList := false,
    paged := false, scaleSet := 0, tensorId := 0, dims := [], ts := none, bs := none, wa := none }

/-- A destination without history that is marked as S, its tensor scale 2.0. -/
def misfiledDest : DestRun :=
  { desc := oneElement 0x2000, present := true, isS := true, hist := 0xFFFF, history := false, sat := false, accum := false,
    tsBits := 0x40000000, eLatched := 0, stale := false, amax := 0, counts := Counts.zero, carry := [], overflowed := false,
    listStart := 0, causes := [], wMin := 0, wMax := 0 }

/-- The one constituent of a copy of an element, its D the misfiled destination and without S. -/
def misfiledPart : Part :=
  { queue := 0, seq := 0, letter := parseLetter 5, y3 := false, a := some (oneElement 0x1000), b := none, d := some misfiledDest,
    s := none, rows := 1, replays := 0, deadline := none, late := false, recipe := false, oprange := false,
    poisonBit := false, nonfinite := false, saturated := false, histStale := false, window := false, outReplayed := false,
    nf := 0, nfTiles := [], kv := none, pb := 0, tileRows := 0, pins := [] }

/-- The copy in the engine's first slot (station and path 4), started or not. -/
def misfiledCopy (started : Bool) : Op :=
  { target := .copy, slot := 0, parts := [misfiledPart], started := started, merged := false, dispatchTick := 0, kop := 0,
    replays := 0, captain := [], replayWaiting := false, discarding := false, keepMode := 0, room := none, tilesConv := 0,
    wsNext := 0, wsRows := [], kvFrames := [], kvWaiting := none, outDone := 0, outFaults := [], buf := [],
    finished := false, error := 0 }

/-- The module in Service with every station clocked, in which the copy alone runs. -/
def misfiled (started : Bool) : State :=
  { State.reset with
    od := [(K.bringupStage, 3), (K.clkEnable, 0x3FFF), (K.clkRunning, 0x3FFF), (K.pwrState, 2), (K.portState 0, 2)]
    lb := { State.reset.lb with ops := [misfiledCopy started] } }

/-- The copy's start latches the tensor scale 1.0 for an S, and leaves D as it was. -/
theorem misfiled_letterStart : ((misfiled false).letterStart 4 0).lb.ops =
    [{ misfiledCopy true with parts := [{ misfiledPart with s := some { misfiledDest with tsBits := 0x3F800000 } }] }] := by
  decide +kernel

/-- Refutes O16: it quantifies over every state, also those in which a destination that stands as a letter's D is marked as
S (DestRun.isS), and says that a start latches D's tensor scale. In misfiled the scale read from memory, 1.0, goes to S
(misfiled_letterStart), and D keeps the 2.0 it had. -/
theorem not_letterStartsAtItsStation : ¬ Obligations.LetterStartsAtItsStation := by
  intro h
  have hawake : (misfiled false).awake (misfiledCopy false).clocks := by unfold State.awake; decide +kernel
  obtain ⟨-, -, hstart⟩ := h (misfiled false) 4 0 (misfiledCopy false) (by decide +kernel) (by decide) hawake
  obtain ⟨t, hexec, -, -, o, ho, -, -, -, -, -, -, hscale⟩ :=
    hstart (by decide) (by decide) ⟨misfiledPart, List.mem_singleton_self _, by decide +kernel⟩
  obtain ⟨p, d, hparts, hd, -, hfixed, -⟩ := hscale misfiledPart misfiledDest rfl rfl rfl (by decide +kernel)
  have ht : (misfiled false).letterStart 4 0 = t := Host.Outcome.next.inj hexec
  rw [← ht, misfiled_letterStart, List.mem_singleton] at ho
  subst ho
  cases hparts
  cases hd
  exact absurd (hfixed rfl) (by decide +kernel)

/-- The conversion of the copy's one tile, whose element is a zero, counts the element for an S and leaves D as it was. -/
theorem misfiled_tileConversionEnd : ((misfiled true).tileConversionEnd 4 0).lb.ops =
    [{ misfiledCopy true with
      tilesConv := 1, parts := [{ misfiledPart with s := some { misfiledDest with counts := Counts.ofCls .ordinary } }] }] := by
  decide +kernel

/-- Refutes O19: it quantifies over every state, also those in which a destination that stands as a letter's D is marked as
S (DestRun.isS), and says that a converted element is counted at D by its class. In misfiled the element is counted at S
(misfiled_tileConversionEnd), and D's counts stay zero. -/
theorem not_convertedElementsAreStored : ¬ Obligations.ConvertedElementsAreStored := by
  intro h
  obtain ⟨-, hconvert, -⟩ := h (misfiled true) 4 0 (misfiledCopy true) (by decide)
  obtain ⟨t, hexec, -, hstored⟩ := hconvert (by decide +kernel) (fun _ => by decide +kernel) (by decide +kernel)
    (by decide +kernel) (by decide +kernel)
  obtain ⟨-, -, o, p, d, ho, -, hparts, hd, hcounts⟩ := hstored misfiledPart misfiledDest ⟨0, 0, 0, 0, false⟩ rfl rfl rfl rfl
    (by decide +kernel) rfl rfl rfl rfl rfl rfl rfl (by decide) (.inl (by decide)) (.inl rfl)
  have ht : (misfiled true).tileConversionEnd 4 0 = t := Host.Outcome.next.inj hexec
  rw [← ht, misfiled_tileConversionEnd, List.mem_singleton] at ho
  subst ho
  cases hparts
  cases hd
  have hcount : ∀ c, misfiledDest.counts ≠ misfiledDest.counts.add (Counts.ofCls c) := by rintro ⟨⟩ <;> decide
  exact hcount _ hcounts

end Sys2Proof.Proofs

/-! SUPPORT. The flush of a segment (R91, R96, R111 to R119, R126): what an accumulation entry reads after it is written, what a
read of an entry that meets an error leaves, and what the flush counts. -/

namespace Sys2Proof.Machine

namespace Mem

/-- A number read back after it was written, cut to the bytes written. -/
theorem nat_writeNat (m : Mem) (a n v : Nat) : (m.writeNat a n v).nat a n = v % 256 ^ n := by
  have h := bytes_write_self m a (leBytes n v)
  rw [leBytes_length] at h
  rw [nat, writeNat, h, ofBytes_leBytes_mod]

theorem bytes_congr {m m' : Mem} (h : m'.cells = m.cells) (a n : Nat) : m'.bytes a n = m.bytes a n := by
  induction n generalizing a with
  | zero => rfl
  | succ n ih => rw [bytes, bytes, ih, byte, byte, h]

@[simp] theorem nat_markPoison (m : Mem) (x a n : Nat) : (m.markPoison x).nat a n = m.nat a n :=
  congrArg ofBytes (bytes_congr (m := m) (m' := m.markPoison x) rfl a n)

theorem poisonRange_one (m : Mem) (a : Nat) : m.poisonRange a 1 = m.markPoison (a / 32) := by
  have h : (a + 1 - 1) / 32 + 1 - a / 32 = 1 := by omega
  rw [poisonRange, h]
  rfl

/-- A run of bytes whose first sector is marked is poisoned. -/
theorem poisonedRange_markPoison (m : Mem) (a : Nat) {n : Nat} (hn : n ≠ 0) : (m.markPoison (a / 32)).poisonedRange a n = true := by
  simp only [poisonedRange, markPoison, Bool.and_eq_true, bne_iff_ne, List.any_eq_true, decide_eq_true_eq]
  exact ⟨hn, a / 32, mem_sadd.2 (.inl rfl), le_refl _, by omega⟩

end Mem

namespace State

theorem ctr_lt {s : State} (h : s.meterWf) (u : Nat) : s.ctr u < 2 ^ 64 := by
  have key : ∀ l : List (Nat × Nat), (∀ x ∈ l, x.2 < 2 ^ 64) → aget 0 l u < 2 ^ 64 := by
    intro l hl
    induction l with
    | nil => exact Nat.two_pow_pos 64
    | cons x l ih =>
      obtain ⟨k, v⟩ := x
      rw [aget]
      split
      · exact hl (k, v) List.mem_cons_self
      · exact ih fun y hy => hl y (List.mem_cons_of_mem _ hy)
  exact key s.meter h

@[simp] theorem put_larder (s : State) (f : Mem → Mem) : s.put .larder f = { s with larder := f s.larder } := rfl

theorem setLarder_sameBut (s : State) (m : Mem) : s.sameBut [.larder] { s with larder := m } := setMem_sameBut s .larder m

theorem free_sameBut (s : State) : s.sameBut [.freeCtr] s.free.2 := (free_evolves s).frame

/-! ### Entries -/

/-- What an entry reads rests on the Larder and the Pantries. -/
theorem entry_congr {s u : State} (hl : u.larder = s.larder) (hr : u.rooms = s.rooms) (o : Op) (r : RoomRun) (t c row col : Nat) :
    u.entry o r t c row col = s.entry o r t c row col := by
  simp only [entry, rd, poisonedAt, mem, pantry, hl, hr]
  rfl

theorem pantry_setEntry {r : RoomRun} (h : r.larder = false) (s : State) (o : Op) (t c row col : Nat) (v : F32) (p : Bool) (i : Nat) :
    aget 0 ((s.setEntry o r t c row col v p).pantry (o.target == .back)) i =
      if i = pantryKey o r t c row col then 2 * v.toNat + (if p then 1 else 0) else aget 0 (s.pantry (o.target == .back)) i := by
  simp only [setEntry, h, Bool.false_eq_true, if_false]
  cases o.target == .back <;> exact aget_aset

theorem entry_setEntry_pantry {r : RoomRun} (h : r.larder = false) (s : State) (o : Op) (t c row col : Nat) (v : F32) (p : Bool) :
    (s.setEntry o r t c row col v p).entry o r t c row col = (v, p) := by
  have hv : BitVec.ofNat 32 v.toNat = v := by simp
  simp only [entry, h, Bool.false_eq_true, if_false, pantry_setEntry h, if_true]
  cases p
  · simp [bit, hv]
  · have hhalf : (2 * v.toNat + 1) / 2 = v.toNat := by omega
    simp [bit, hv, hhalf]

theorem larder_setEntry_pantry {r : RoomRun} (h : r.larder = false) (s : State) (o : Op) (t c row col : Nat) (v : F32) (p : Bool) :
    (s.setEntry o r t c row col v p).larder = s.larder := by
  simp only [setEntry, h, Bool.false_eq_true, if_false]
  split <;> rfl

/-- An entry written in the Larder region: its bytes, and a mark on its sector if it is poisoned. -/
theorem setEntry_larder {r : RoomRun} (h : r.larder = true) (s : State) (o : Op) (t c row col : Nat) (v : F32) (p : Bool) :
    let a := larderAddr o r t c row col
    let m := if r.bf16 then s.larder.writeNat a 2 (bf16.rnd (f32val v)) else s.larder.writeNat a 4 v.toNat
    s.setEntry o r t c row col v p = { s with larder := if p then m.markPoison (a / 32) else m } := by
  simp only [setEntry, h, if_true, wr, poison, put_larder, Mem.poisonRange_one]
  cases r.bf16 <;> cases p <;> rfl

theorem entry_setEntry_larder {r : RoomRun} (h : r.larder = true) (hb : r.bf16 = false) (s : State) (o : Op) (t c row col : Nat)
    (v : F32) (p : Bool) : ((s.setEntry o r t c row col v p).entry o r t c row col).1 = v := by
  have hv : BitVec.ofNat 32 (v.toNat % 256 ^ 4) = v := by
    rw [Nat.mod_eq_of_lt (show v.toNat < 256 ^ 4 from v.isLt)]
    simp
  simp only [setEntry_larder h, entry, h, hb, if_true, Bool.false_eq_true, if_false, rd, mem]
  cases p <;> simpa [Mem.nat_writeNat] using hv

theorem rd_setEntry_larder {r : RoomRun} (h : r.larder = true) (hb : r.bf16 = true) (s : State) (o : Op) (t c row col : Nat)
    (v : F32) (p : Bool) :
    (s.setEntry o r t c row col v p).rd .larder (larderAddr o r t c row col) 2 = bf16.rnd (f32val v) % 2 ^ 16 := by
  simp only [setEntry_larder h, hb, if_true, rd, mem]
  cases p <;> simp [Mem.nat_writeNat]

theorem poisoned_setEntry_larder {r : RoomRun} (h : r.larder = true) (s : State) (o : Op) (t c row col : Nat) (v : F32) :
    ((s.setEntry o r t c row col v true).entry o r t c row col).2 = true := by
  simp only [setEntry_larder h, entry, h, if_true, poisonedAt, mem]
  cases r.bf16 <;> simp [Mem.poisonedRange_markPoison]

theorem setEntry_sameBut (s : State) (o : Op) (r : RoomRun) (t c row col : Nat) (v : F32) (p : Bool) :
    s.sameBut [.larder, .rooms] (s.setEntry o r t c row col v p) := by
  cases h : r.larder with
  | true =>
    rw [setEntry_larder h]
    exact (setLarder_sameBut s _).mono rfl
  | false =>
    simp only [setEntry, h, Bool.false_eq_true, if_false]
    intro f hf
    split <;> cases f <;> simp_all [agree]

/-! ### Reads of an entry that meet an error -/

theorem healEntry_sameBut (s : State) (o : Op) (r : RoomRun) (t c row col : Nat) : s.sameBut [.larder] (s.healEntry o r t c row col) := by
  unfold healEntry
  split
  · exact setMem_sameBut s .larder _
  · exact .refl _ s

theorem memUe_larder_sameBut (s : State) (x : Nat) : s.sameBut [.larder, .od, .meter, .bell] (s.memUe .larder x) :=
  (((setLarder_sameBut s _).mono rfl).step (count_evolves _ _ _).frame rfl).step (memRecord_evolves _ _ _).frame rfl

theorem memRecord_ctr (s : State) (k a u : Nat) : (s.memRecord k a).ctr u = s.ctr u := by
  have hm : (s.memRecord k a).meter = s.meter := (memRecord_evolves s k a).frame .meter (by decide)
  rw [ctr, hm, ctr]

theorem sramUe_ctr (s : State) (unit u : Nat) : (s.sramUe unit).ctr u = (s.count unit 1).ctr u := memRecord_ctr ..

theorem memUe_larder_ctr (s : State) (x u : Nat) : (s.memUe .larder x).ctr u = (s.count Ctr.larderUe 1).ctr u := memRecord_ctr ..

/-- The Meter's unit for an error that a read of an entry meets (R119, R564). -/
def accUnit (larder : Bool) (ecc : Nat) : Nat :=
  if ecc = 1 then (if larder then Ctr.larderCe else Ctr.pantryCe) else (if larder then Ctr.larderUe else Ctr.pantryUe)

theorem segWindowLoss_ne_accUnit (larder : Bool) (ecc : Nat) : Ctr.segWindowLoss ≠ accUnit larder ecc := by
  unfold accUnit
  split <;> split <;> decide

theorem pantryCe_eq_accUnit (larder : Bool) (ecc : Nat) : Ctr.pantryCe = accUnit larder ecc ↔ larder = false ∧ ecc = 1 := by
  unfold accUnit
  by_cases h : ecc = 1
  · cases larder <;> simp [h, Ctr.pantryCe, Ctr.larderCe]
  · cases larder <;> simp [h, Ctr.pantryCe, Ctr.pantryUe, Ctr.larderUe]

theorem pantryUe_eq_accUnit (larder : Bool) (ecc : Nat) : Ctr.pantryUe = accUnit larder ecc ↔ larder = false ∧ ecc ≠ 1 := by
  unfold accUnit
  by_cases h : ecc = 1
  · cases larder <;> simp [h, Ctr.pantryUe, Ctr.pantryCe, Ctr.larderCe]
  · cases larder <;> simp [h, Ctr.pantryUe, Ctr.larderUe]

theorem accEcc_ctr (s : State) (o : Op) (r : RoomRun) (t c row col ecc u : Nat) : (s.accEcc o r t c row col ecc).ctr u =
    if (ecc = 1 ∨ ecc = 2) ∧ u = accUnit r.larder ecc then (s.ctr u + 1) % 2 ^ 64 else s.ctr u := by
  have hcount : ∀ v, (s.count v 1).ctr u = if u = v then (s.ctr u + 1) % 2 ^ 64 else s.ctr u := by
    intro v
    rw [ctr_count]
    split
    · next e => rw [e]
    · rfl
  unfold accEcc accUnit
  by_cases h1 : ecc = 1
  · simp [h1, hcount]
  · by_cases h2 : ecc = 2
    · cases r.larder <;> simp [h2, sramUe_ctr, memUe_larder_ctr, hcount]
    · simp [h1, h2]

theorem accEcc_sameBut (s : State) (o : Op) (r : RoomRun) (t c row col ecc : Nat) :
    s.sameBut [.larder, .od, .meter, .freeCtr, .bell] (s.accEcc o r t c row col ecc) ∧
      (ecc ≠ 2 → s.sameBut [.meter] (s.accEcc o r t c row col ecc)) := by
  unfold accEcc
  by_cases h1 : ecc = 1
  · simp only [h1, BEq.rfl, if_true]
    exact ⟨(count_evolves s _ _).frame.mono rfl, fun _ => (count_evolves s _ _).frame⟩
  · by_cases h2 : ecc = 2
    · refine ⟨?_, fun h => absurd h2 h⟩
      cases r.larder
      · simpa [h2] using (sramUe_evolves s Ctr.pantryUe).frame.mono rfl
      · simpa [h2] using (memUe_larder_sameBut s _).mono rfl
    · simp [h1, h2, sameBut.refl]

theorem accEcc_larder {r : RoomRun} (h : r.larder = false) (s : State) (o : Op) (t c row col ecc : Nat) :
    (s.accEcc o r t c row col ecc).larder = s.larder := by
  unfold accEcc
  split
  · rfl
  · split
    · rw [if_neg (by simp [h])]
      exact (sramUe_evolves s Ctr.pantryUe).frame .larder (by decide)
    · rfl

/-! ### The flush of a segment -/

/-- What the flush of a segment takes as its entry's old value: what the entry reads, or a free value where the read met an
uncorrectable error (R119). -/
def accOld (s : State) (o : Op) (r : RoomRun) (t c row col ecc : Nat) (first : Bool) : F32 × State :=
  if !first && ecc == 2 then (BitVec.ofNat 32 s.free.1, s.free.2) else ((s.entry o r t c row col).1, s)

/-- The value a flush writes: the segment's own in write mode, else added to the entry's, and rounded once. -/
def accNew (s : State) (o : Op) (r : RoomRun) (t c row col ecc : Nat) (first : Bool) (x : Num) : F32 :=
  if first then accRnd r.bf16 x else accRnd r.bf16 ((f32val (s.accOld o r t c row col ecc first).1).add x)

/-- Whether a flush leaves its entry poisoned. -/
def accPoison (s : State) (o : Op) (r : RoomRun) (t c row col ecc : Nat) (first lane : Bool) : Bool :=
  lane || (!first && ((s.entry o r t c row col).2 || ecc == 2))

/-- What the read of an entry before its flush leaves: a free value drawn, a mark on the sector gone, an error counted. -/
def accRead (s : State) (o : Op) (r : RoomRun) (t c row col ecc : Nat) (first heal : Bool) : State :=
  let u := (s.accOld o r t c row col ecc first).2
  let u := if first && heal then u.healEntry o r t c row col else u
  if first then u else u.accEcc o r t c row col ecc

/-- What the delivery of a segment's operands counts, in a tile's first column and in its first row (R106, R246 to R249, R258). -/
def countSegment (s : State) (g : SegRes) (firstCol firstRow : Bool) : State :=
  let s := if g.loss then s.count Ctr.segWindowLoss 1 else s
  let s := s.count Ctr.scaleSpread ((if firstCol then g.spreadA else 0) + (if firstRow then g.spreadB else 0))
  let s := s.count Ctr.porchShiftUfl (if firstCol then g.shiftUfl else 0)
  let s := if firstCol then s.countDelivery g.delA else s
  if firstRow then s.countDelivery g.delB else s

theorem accOld_snd (s : State) (o : Op) (r : RoomRun) (t c row col ecc : Nat) (first : Bool) :
    s.sameBut [.freeCtr] (s.accOld o r t c row col ecc first).2 ∧
      (first = true ∨ ecc ≠ 2 → (s.accOld o r t c row col ecc first).2 = s) := by
  unfold accOld
  split
  · next h => exact ⟨free_sameBut s, fun hn => by simp at h; simp_all⟩
  · exact ⟨.refl _ s, fun _ => rfl⟩

theorem accOld_fst (s : State) (o : Op) (r : RoomRun) (t c row col ecc : Nat) (first : Bool) :
    (s.accOld o r t c row col ecc first).1 =
      if ecc = 2 ∧ ¬first = true then BitVec.ofNat 32 (Config.freeNat s.freeCtr) else (s.entry o r t c row col).1 := by
  cases first <;> by_cases he : ecc = 2 <;> simp [accOld, free, he]

/-- In write mode the entry is not read. -/
theorem accRead_first (s : State) (o : Op) (r : RoomRun) (t c row col ecc : Nat) (heal : Bool) :
    s.accRead o r t c row col ecc true heal = if heal then s.healEntry o r t c row col else s := by
  simp [accRead, accOld]

theorem accRead_first_sameBut (s : State) (o : Op) (r : RoomRun) (t c row col ecc : Nat) (heal : Bool) :
    s.sameBut [.larder] (s.accRead o r t c row col ecc true heal) := by
  rw [accRead_first]
  split
  · exact healEntry_sameBut s o r t c row col
  · exact .refl _ s

theorem accRead_add (s : State) (o : Op) (r : RoomRun) (t c row col ecc : Nat) (heal : Bool) :
    s.accRead o r t c row col ecc false heal = (s.accOld o r t c row col ecc false).2.accEcc o r t c row col ecc := by
  simp [accRead]

theorem accRead_sameBut (s : State) (o : Op) (r : RoomRun) (t c row col ecc : Nat) (first heal : Bool) :
    s.sameBut [.larder, .od, .meter, .freeCtr, .bell] (s.accRead o r t c row col ecc first heal) ∧
      (first = true ∨ ecc ≠ 2 → s.sameBut [.larder, .meter] (s.accRead o r t c row col ecc first heal)) := by
  cases first with
  | true =>
    have h := accRead_first_sameBut s o r t c row col ecc heal
    exact ⟨h.mono rfl, fun _ => h.mono rfl⟩
  | false =>
    obtain ⟨hfree, hsame⟩ := accOld_snd s o r t c row col ecc false
    obtain ⟨hany, hnone⟩ := accEcc_sameBut (s.accOld o r t c row col ecc false).2 o r t c row col ecc
    rw [accRead_add]
    refine ⟨(hfree.mono rfl).step hany rfl, fun h => ?_⟩
    have hecc : ecc ≠ 2 := h.resolve_left Bool.false_ne_true
    have hframe := hnone hecc
    rw [hsame h] at hframe ⊢
    exact hframe.mono rfl

theorem accRead_larder {r : RoomRun} (h : r.larder = false) (s : State) (o : Op) (t c row col ecc : Nat) (first heal : Bool) :
    (s.accRead o r t c row col ecc first heal).larder = s.larder := by
  cases first with
  | true => simp [accRead_first, healEntry, h]
  | false =>
    rw [accRead_add, accEcc_larder h]
    exact (accOld_snd s o r t c row col ecc false).1 .larder (by decide)

theorem accRead_ctr (s : State) (o : Op) (r : RoomRun) (t c row col ecc : Nat) (first heal : Bool) (u : Nat) :
    (s.accRead o r t c row col ecc first heal).ctr u =
      if first = false ∧ (ecc = 1 ∨ ecc = 2) ∧ u = accUnit r.larder ecc then (s.ctr u + 1) % 2 ^ 64 else s.ctr u := by
  cases first with
  | true =>
    have hm : (s.accRead o r t c row col ecc true heal).meter = s.meter := accRead_first_sameBut s o r t c row col ecc heal .meter (by decide)
    simp [ctr, hm]
  | false =>
    have hm : (s.accOld o r t c row col ecc false).2.ctr u = s.ctr u := by
      have : (s.accOld o r t c row col ecc false).2.meter = s.meter := (accOld_snd s o r t c row col ecc false).1 .meter (by decide)
      rw [ctr, this, ctr]
    simp [accRead_add, accEcc_ctr, hm]

theorem countDelivery_ctrSame (s : State) (d : Delivery) :
    s.ctrSame [Ctr.porchOperandNf, Ctr.porchMarkers, Ctr.porchPoison] (s.countDelivery d) :=
  (((ctrSame_count s _ _).mono (by decide)).trans ((ctrSame_count _ _ _).mono (by decide))).trans ((ctrSame_count _ _ _).mono (by decide))

theorem countSegment_ctr (s : State) (g : SegRes) (firstCol firstRow : Bool) {u : Nat}
    (hu : u ∉ [Ctr.scaleSpread, Ctr.porchShiftUfl, Ctr.porchOperandNf, Ctr.porchMarkers, Ctr.porchPoison]) :
    (s.countSegment g firstCol firstRow).ctr u = (if g.loss then s.count Ctr.segWindowLoss 1 else s).ctr u := by
  have hcol : ∀ (v : State) (b : Bool) (d : Delivery),
      v.ctrSame [Ctr.scaleSpread, Ctr.porchShiftUfl, Ctr.porchOperandNf, Ctr.porchMarkers, Ctr.porchPoison]
        (if b then v.countDelivery d else v) := by
    intro v b d
    cases b
    · exact .refl _ v
    · exact (countDelivery_ctrSame v d).mono (by decide)
  unfold countSegment
  exact (((((ctrSame_count _ _ _).mono (by decide)).trans ((ctrSame_count _ _ _).mono (by decide))).trans (hcol _ _ _)).trans (hcol _ _ _)) u hu

theorem countSegment_sameBut (s : State) (g : SegRes) (firstCol firstRow : Bool) : s.sameBut [.meter] (s.countSegment g firstCol firstRow) := by
  have hone : ∀ (v : State) (b : Bool) (d : Delivery), v.sameBut [.meter] (if b then v.countDelivery d else v) := by
    intro v b d
    cases b
    · exact .refl _ v
    · exact (countDelivery_evolves v d).frame
  have hloss : s.sameBut [.meter] (if g.loss then s.count Ctr.segWindowLoss 1 else s) := by
    split
    · exact (count_evolves s _ _).frame
    · exact .refl _ s
  unfold countSegment
  exact ((((hloss.step (count_evolves _ _ _).frame rfl).step (count_evolves _ _ _).frame rfl).step (hone _ _ _) rfl).step (hone _ _ _) rfl)

/-- A letter that takes a running one's place, under the same name. -/
theorem setOp_ops (s : State) {o o' : Op} (h : ∀ x : Op, x.isSame o' = x.isSame o) : (s.setOp o').lb.ops = s.opsWith o o' := by
  simp only [setOp, opsWith, h]

end State

theorem Op.isSame_noteSegment (x o : Op) (row : Nat) (loss : Bool) (nfA nfB : Nat) :
    x.isSame (o.noteSegment row loss nfA nfB) = x.isSame o := by
  unfold Op.noteSegment
  split
  · rfl
  · unfold Op.isSame
    cases o.parts with
    | nil => rfl
    | cons p l => cases x.parts <;> rfl

namespace State

/-! ### A lane's turn -/

end State

/-- Pass of a lane's next segment, and the segment inside it. -/
def Op.turn (o : Op) (r : RoomRun) (row col : Nat) : Nat × Nat := passOf (o.kAt row) r (r.lane row col).1

/-- Segments of a chunk in that pass. -/
def Op.turnPer (o : Op) (r : RoomRun) (row col : Nat) : Nat := (passShape o.y3 (o.kAt row) r (o.turn r row col).1).per

/-- The chunk of a lane's next segment. -/
def Op.turnChunk (o : Op) (r : RoomRun) (row col : Nat) : Nat := (o.turn r row col).2 / o.turnPer r row col

/-- Is a lane's next segment the first of its chunk, flushed in write mode? -/
def Op.turnFirst (o : Op) (r : RoomRun) (row col : Nat) : Bool := (o.turn r row col).2 % o.turnPer r row col == 0

namespace State

/-- A lane's next segment. -/
def turnSegment (s : State) (o : Op) (r : RoomRun) (row col : Nat) : SegRes := segment s o row col (r.lane row col).1

/-- Whether a lane is poisoned once its next segment is flushed. -/
def turnLane (s : State) (o : Op) (r : RoomRun) (row col : Nat) : Bool := (r.lane row col).2 || (s.turnSegment o r row col).poison

/-- What the flush of a lane's next segment writes. -/
def turnValue (s : State) (o : Op) (r : RoomRun) (row col ecc : Nat) : F32 :=
  s.accNew o r (o.tileOf r row col) (o.turnChunk r row col) row col ecc (o.turnFirst r row col) (s.turnSegment o r row col).v

def turnPoison (s : State) (o : Op) (r : RoomRun) (row col ecc : Nat) : Bool :=
  s.accPoison o r (o.tileOf r row col) (o.turnChunk r row col) row col ecc (o.turnFirst r row col) (s.turnLane o r row col)

/-- The letter once a lane has flushed its next segment. -/
def turnOp (s : State) (o : Op) (r : RoomRun) (row col : Nat) : Op :=
  ({ o with room := some { r with
      lanes := aset (0, false) r.lanes (laneKey r row col) ((r.lane row col).1 + 1, s.turnLane o r row col),
      poisonTile := r.poisonTile || s.turnLane o r row col } }).noteSegment row (s.turnSegment o r row col).loss
    (if col % r.w == 0 then (s.turnSegment o r row col).delA.nf else 0) (if row % r.m == 0 then (s.turnSegment o r row col).delB.nf else 0)

/-- A flush reads the entry, writes it, counts what its operands' delivery counts, and advances the lane. -/
theorem flush_eq (s : State) (o : Op) (r : RoomRun) (row col ecc : Nat) :
    s.flush o r row col ecc =
      (((s.accRead o r (o.tileOf r row col) (o.turnChunk r row col) row col ecc (o.turnFirst r row col)
        (!sectorPoison o r row col (r.lane row col).1)).setEntry o r (o.tileOf r row col) (o.turnChunk r row col) row col
          (s.turnValue o r row col ecc) (s.turnPoison o r row col ecc)).countSegment (s.turnSegment o r row col) (col % r.w == 0)
            (row % r.m == 0)).setOp (s.turnOp o r row col) :=
  rfl

theorem isSame_turnOp (s : State) (x o : Op) (r : RoomRun) (row col : Nat) : x.isSame (s.turnOp o r row col) = x.isSame o :=
  Op.isSame_noteSegment ..

/-- An entry written (R114, R126): in a Pantry it reads the value and the poison, and no other entry changes; in the Larder it
reads the value, as BF16 where the accumulator is that, and is poisoned where it was written so. -/
structure EntryWritten (s : State) (o : Op) (r : RoomRun) (t c row col : Nat) (v : F32) (p : Bool) (u : State) : Prop where
  pantry : r.larder = false → u.entry o r t c row col = (v, p) ∧ u.larder = s.larder ∧
    ∀ i, i ≠ pantryKey o r t c row col → aget 0 (u.pantry (o.target == .back)) i = aget 0 (s.pantry (o.target == .back)) i
  fp32 : r.larder = true → r.bf16 = false → (u.entry o r t c row col).1 = v
  bf16 : r.larder = true → r.bf16 = true → u.rd .larder (larderAddr o r t c row col) 2 = bf16.rnd (f32val v) % 2 ^ 16
  poison : r.larder = true → p = true → (u.entry o r t c row col).2 = true

theorem entryWritten_setEntry {s a : State} {r : RoomRun} (hl : r.larder = false → a.larder = s.larder) (hr : a.rooms = s.rooms) (o : Op)
    (t c row col : Nat) (v : F32) (p : Bool) : s.EntryWritten o r t c row col v p (a.setEntry o r t c row col v p) where
  pantry h := by
    refine ⟨entry_setEntry_pantry h .., (larder_setEntry_pantry h ..).trans (hl h), fun i hi => ?_⟩
    rw [pantry_setEntry h, if_neg hi, State.pantry, State.pantry, hr]
  fp32 h hb := entry_setEntry_larder h hb ..
  bf16 h hb := rd_setEntry_larder h hb ..
  poison h hp := by
    subst hp
    exact poisoned_setEntry_larder h ..

/-- An entry stays written where neither the Larder nor the Pantries change. -/
theorem EntryWritten.congr {s a u : State} {o : Op} {r : RoomRun} {t c row col : Nat} {v : F32} {p : Bool}
    (h : s.EntryWritten o r t c row col v p a) (hl : u.larder = a.larder) (hr : u.rooms = a.rooms) :
    s.EntryWritten o r t c row col v p u where
  pantry hp := by simpa only [entry_congr hl hr, State.pantry, hl, hr] using h.pantry hp
  fp32 hp hb := by simpa only [entry_congr hl hr] using h.fp32 hp hb
  bf16 hp hb := by simpa only [rd, mem, hl] using h.bf16 hp hb
  poison hp hb := by simpa only [entry_congr hl hr] using h.poison hp hb

/-- What the flush of a lane's next segment leaves (R91, R96, R111 to R119): the entry, the letter that runs, the units that
count, and every other part as it was. -/
structure Flushed (s : State) (o : Op) (r : RoomRun) (row col ecc : Nat) (u : State) : Prop where
  entry : s.EntryWritten o r (o.tileOf r row col) (o.turnChunk r row col) row col (s.turnValue o r row col ecc) (s.turnPoison o r row col ecc) u
  ops : u.lb.ops = s.opsWith o (s.turnOp o r row col)
  loss : u.ctr Ctr.segWindowLoss = (s.ctr Ctr.segWindowLoss + (if (s.turnSegment o r row col).loss then 1 else 0)) % 2 ^ 64
  ce : u.ctr Ctr.pantryCe = (s.ctr Ctr.pantryCe + (if o.turnFirst r row col = false ∧ r.larder = false ∧ ecc = 1 then 1 else 0)) % 2 ^ 64
  ue : u.ctr Ctr.pantryUe = (s.ctr Ctr.pantryUe + (if o.turnFirst r row col = false ∧ r.larder = false ∧ ecc = 2 then 1 else 0)) % 2 ^ 64
  frame : s.sameBut [.larder, .od, .meter, .freeCtr, .lb, .rooms, .bell] u
  clean : o.turnFirst r row col = true ∨ ecc ≠ 2 → s.sameBut [.larder, .meter, .lb, .rooms] u

/-- A unit of 64 bits that one event counts or none. -/
theorem ctr_ite {s : State} (h : s.meterWf) (u : Nat) (c : Prop) [Decidable c] :
    (if c then (s.ctr u + 1) % 2 ^ 64 else s.ctr u) = (s.ctr u + (if c then 1 else 0)) % 2 ^ 64 := by
  split
  · rfl
  · exact (Nat.mod_eq_of_lt (ctr_lt h u)).symm

/-- Every Meter unit but those of a delivery, after a flush. -/
theorem flush_ctr (s : State) (o : Op) (r : RoomRun) (row col ecc : Nat) {u : Nat}
    (hu : u ∉ [Ctr.scaleSpread, Ctr.porchShiftUfl, Ctr.porchOperandNf, Ctr.porchMarkers, Ctr.porchPoison]) :
    (s.flush o r row col ecc).ctr u =
      if (s.turnSegment o r row col).loss = true ∧ u = Ctr.segWindowLoss ∨
          o.turnFirst r row col = false ∧ (ecc = 1 ∨ ecc = 2) ∧ u = accUnit r.larder ecc then (s.ctr u + 1) % 2 ^ 64
      else s.ctr u := by
  have hm : ∀ (a : State) (t c : Nat) (v : F32) (p : Bool), (a.setEntry o r t c row col v p).ctr u = a.ctr u := by
    intro a t c v p
    have h : (a.setEntry o r t c row col v p).meter = a.meter := setEntry_sameBut a o r t c row col v p .meter (by decide)
    rw [ctr, h, ctr]
  rw [flush_eq, setOp_ctr, countSegment_ctr _ _ _ _ hu]
  cases (s.turnSegment o r row col).loss with
  | false => simp [hm, accRead_ctr]
  | true =>
    rw [if_pos rfl, ctr_count]
    by_cases e : u = Ctr.segWindowLoss
    · subst e
      simp [hm, accRead_ctr, segWindowLoss_ne_accUnit]
    · simp [hm, accRead_ctr, e]

theorem flush_flushed {s : State} (h : s.meterWf) (o : Op) (r : RoomRun) (row col ecc : Nat) :
    s.Flushed o r row col ecc (s.flush o r row col ecc) := by
  obtain ⟨hread, hclean⟩ := accRead_sameBut s o r (o.tileOf r row col) (o.turnChunk r row col) row col ecc (o.turnFirst r row col)
    (!sectorPoison o r row col (r.lane row col).1)
  have hset := fun a : State => setEntry_sameBut a o r (o.tileOf r row col) (o.turnChunk r row col) row col
    (s.turnValue o r row col ecc) (s.turnPoison o r row col ecc)
  have hcount := fun a : State => countSegment_sameBut a (s.turnSegment o r row col) (col % r.w == 0) (row % r.m == 0)
  have hop := fun a : State => (setOp_evolves a (s.turnOp o r row col)).frame
  exact {
    entry := by
      rw [flush_eq]
      exact (entryWritten_setEntry (fun hl => accRead_larder hl ..) (hread .rooms (by decide)) ..).congr
        (hcount _ .larder (by decide)) (hcount _ .rooms (by decide))
    ops := by
      have hlb : ∀ a : State, s.sameBut [.larder, .od, .meter, .freeCtr, .bell, .rooms] a →
          a.opsWith o (s.turnOp o r row col) = s.opsWith o (s.turnOp o r row col) := by
        intro a ha
        have e : a.lb = s.lb := ha .lb (by decide)
        rw [opsWith, e, opsWith]
      rw [flush_eq, setOp_ops _ fun x => s.isSame_turnOp x o r row col]
      exact hlb _ (((hread.mono rfl).step (hset _) rfl).step (hcount _) rfl)
    loss := by
      rw [flush_ctr s o r row col ecc (by decide), ctr_ite h]
      simp [segWindowLoss_ne_accUnit]
    ce := by
      have hne : Ctr.pantryCe ≠ Ctr.segWindowLoss := by decide
      rw [flush_ctr s o r row col ecc (by decide), ctr_ite h]
      exact congrArg (fun n => (s.ctr Ctr.pantryCe + n) % 2 ^ 64) (if_congr (by grind [pantryCe_eq_accUnit]) rfl rfl)
    ue := by
      have hne : Ctr.pantryUe ≠ Ctr.segWindowLoss := by decide
      rw [flush_ctr s o r row col ecc (by decide), ctr_ite h]
      exact congrArg (fun n => (s.ctr Ctr.pantryUe + n) % 2 ^ 64) (if_congr (by grind [pantryUe_eq_accUnit]) rfl rfl)
    frame := by
      rw [flush_eq]
      exact (((hread.mono rfl).step (hset _) rfl).step (hcount _) rfl).step (hop _) rfl
    clean := fun hn => by
      rw [flush_eq]
      exact ((((hclean hn).mono rfl).step (hset _) rfl).step (hcount _) rfl).step (hop _) rfl }

/-! ### Held flushes -/

/-- A flush that is held changes what its operands are read from as little as what it would write (R96). -/
theorem segment_setHeld (s : State) (back : Bool) (h : Option (Nat × Nat)) (o : Op) (row col j : Nat) :
    segment (s.setHeld back h) o row col j = segment s o row col j := by
  have hview : ∀ (isB : Bool) (t : Nat), (s.setHeld back h).viewOf o isB t = (s.viewOf o isB t).setHeld back h := by
    intro isB t
    unfold viewOf
    generalize List.filter _ _ = l
    induction l generalizing s with
    | nil => rfl
    | cons e l ih =>
      rw [List.foldl_cons, List.foldl_cons, ← ih]
      cases back <;> cases e.space <;> cases e.poison <;> rfl
  have ha : ∀ (u : State) (p : Part) (m k : Nat), p.aElem (u.setHeld back h) m k = p.aElem u m k := by
    intro u p m k
    cases back <;> rfl
  have hb : ∀ (u : State) (p : Part) (k n : Nat), p.bElem (u.setHeld back h) k n = p.bElem u k n := by
    intro u p k n
    cases back <;> rfl
  unfold segment
  simp only [hview, ha, hb]

theorem entry_setHeld (s : State) (back : Bool) (h : Option (Nat × Nat)) (o : Op) (r : RoomRun) (t c row col : Nat) :
    (s.setHeld back h).entry o r t c row col = s.entry o r t c row col := by
  cases back <;> rfl

theorem EntryWritten.of_setHeld {s u : State} {back : Bool} {x : Option (Nat × Nat)} {o : Op} {r : RoomRun} {t c row col : Nat} {v : F32}
    {p : Bool} (h : (s.setHeld back x).EntryWritten o r t c row col v p u) : s.EntryWritten o r t c row col v p u where
  pantry hp := by
    have hl : (s.setHeld back x).larder = s.larder := by cases back <;> rfl
    have hr : ∀ b, (s.setHeld back x).pantry b = s.pantry b := by cases back <;> exact fun _ => rfl
    simpa only [hl, hr] using h.pantry hp
  fp32 := h.fp32
  bf16 := h.bf16
  poison := h.poison

/-- Whether a room held makes no difference to what a flush leaves. -/
theorem Flushed.of_setHeld {s u : State} {back : Bool} {x : Option (Nat × Nat)} {o : Op} {r : RoomRun} {row col ecc : Nat}
    (h : (s.setHeld back x).Flushed o r row col ecc u) : s.Flushed o r row col ecc u := by
  have hg : (s.setHeld back x).turnSegment o r row col = s.turnSegment o r row col := segment_setHeld ..
  have hlane : (s.setHeld back x).turnLane o r row col = s.turnLane o r row col := by rw [turnLane, hg, turnLane]
  have hfree : (s.setHeld back x).freeCtr = s.freeCtr := by cases back <;> rfl
  have hval : (s.setHeld back x).turnValue o r row col ecc = s.turnValue o r row col ecc := by
    simp only [turnValue, accNew, accOld_fst, hg, entry_setHeld, hfree]
  have hpois : (s.setHeld back x).turnPoison o r row col ecc = s.turnPoison o r row col ecc := by
    simp only [turnPoison, accPoison, hlane, entry_setHeld]
  have hop : (s.setHeld back x).turnOp o r row col = s.turnOp o r row col := by simp only [turnOp, hg, hlane]
  have hops : ∀ o', (s.setHeld back x).opsWith o o' = s.opsWith o o' := by cases back <;> exact fun _ => rfl
  have hctr : ∀ n, (s.setHeld back x).ctr n = s.ctr n := by cases back <;> exact fun _ => rfl
  have hheld : s.sameBut [.rooms] (s.setHeld back x) := (setHeld_evolves s back x).frame
  obtain ⟨hentry, hlb, hloss, hce, hue, hframe, hclean⟩ := h
  simp only [hval, hpois, hop, hops, hctr, hg] at hentry hlb hloss hce hue
  exact ⟨hentry.of_setHeld, hlb, hloss, hce, hue, (hheld.mono rfl).step hframe rfl, fun hn => (hheld.mono rfl).step (hclean hn) rfl⟩

/-- A count of another unit after a flush. -/
theorem Flushed.count {s u : State} {o : Op} {r : RoomRun} {row col ecc : Nat} (h : s.Flushed o r row col ecc u) {unit : Nat} (n : Nat)
    (hunit : unit ∉ [Ctr.segWindowLoss, Ctr.pantryCe, Ctr.pantryUe]) : s.Flushed o r row col ecc (u.count unit n) := by
  have hctr : ∀ x ∈ [Ctr.segWindowLoss, Ctr.pantryCe, Ctr.pantryUe], (u.count unit n).ctr x = u.ctr x := by
    intro x hx
    rw [ctr_count, if_neg (by rintro rfl; exact hunit hx)]
  have hcount : u.sameBut [.meter] (u.count unit n) := (count_evolves u unit n).frame
  obtain ⟨hentry, hlb, hloss, hce, hue, hframe, hclean⟩ := h
  exact ⟨hentry.congr rfl rfl, hlb, (hctr _ (by simp)).trans hloss, (hctr _ (by simp)).trans hce, (hctr _ (by simp)).trans hue,
    hframe.step hcount rfl, fun hn => (hclean hn).step hcount rfl⟩

/-! ### The commands -/

/-- SEGMENT_END where a lane's segment waits for an operand (R243). -/
theorem segmentEnd_waits {s : State} {back : Bool} {o : Op} {r : RoomRun} {row col : Nat} (hop : s.opAt (if back then 1 else 0) = some o)
    (hroom : o.room = some r) (hw : s.segWaits o r row col (r.lane row col).1 = true) (ecc : Nat) : s.segmentEnd back row col ecc = s := by
  simp [segmentEnd, hop, hroom, hw]

/-- A lane whose next segment may end now: its letter runs and no flush is held, the element lies in an open tile, its turn has
come, and its operands are there and legal. -/
structure TurnDue (s : State) (back : Bool) (o : Op) (r : RoomRun) (row col : Nat) : Prop where
  op : s.opAt (if back then 1 else 0) = some o
  room : o.room = some r
  started : o.started = true
  unheld : s.held back = none
  inRows : row < o.rows
  inCols : col < o.colsAt row
  tile : r.tilesDone ≤ o.tileOf r row col
  discarding : o.discarding = true → o.tileOf r row col = r.tilesDone
  more : (r.lane row col).1 < segsOf (o.kAt row)
  ready : laneReady o r (o.tileOf r row col) row col = true
  there : s.segWaits o r row col (r.lane row col).1 = false
  legal : (segment s o row col (r.lane row col).1).badWidth = false

/-- SEGMENT_END where a lane's turn has come: its flush is done, or held (R96). -/
theorem segmentEnd_due {s : State} {back : Bool} {o : Op} {r : RoomRun} {row col : Nat} (h : s.TurnDue back o r row col) (ecc : Nat) :
    s.segmentEnd back row col ecc = if s.laneHeld o r row col then s.setHeld back (some (row, col)) else s.flush o r row col ecc := by
  have hopen : ¬(o.discarding = true ∧ ¬o.tileOf r row col = r.tilesDone) := fun e => e.2 (h.discarding e.1)
  have hrows := h.inRows
  have hcols := h.inCols
  have htile := h.tile
  have hmore := h.more
  unfold segmentEnd
  simp only [h.op, h.room]
  rw [if_neg, if_neg]
  · simp [h.legal]
  · simp [h.started, h.unheld, h.ready, h.there, hopen]
    omega

/-- FLUSH_HOLD_RELEASE once the Landing has finished with the held flush's entry. -/
theorem holdRelease_free {s : State} {back : Bool} {o : Op} {r : RoomRun} {row col : Nat} (hop : s.opAt (if back then 1 else 0) = some o)
    (hroom : o.room = some r) (hheld : s.held back = some (row, col)) (hfree : s.laneHeld o r row col = false) (cycles : Nat) :
    s.holdRelease back cycles =
      ((s.setHeld back none).flush o r row col 0).count (Ctr.roomDrainWait + (if back then 1 else 0)) cycles := by
  simp [holdRelease, hheld, hop, hroom, hfree]

/-- A flush holds nothing and lets nothing go. -/
theorem held_flush (s : State) (o : Op) (r : RoomRun) (row col ecc : Nat) (back : Bool) :
    (s.flush o r row col ecc).held back = s.held back := by
  have hcongr : ∀ {a b : State}, b.rooms = a.rooms → b.held back = a.held back := fun e => by rw [held, e, held]
  have hset : ∀ (a : State) (t c : Nat) (v : F32) (p : Bool), (a.setEntry o r t c row col v p).held back = a.held back := by
    intro a t c v p
    cases h : r.larder with
    | true => rw [setEntry_larder h]; rfl
    | false =>
      simp only [setEntry, h, Bool.false_eq_true, if_false]
      split <;> rfl
  rw [flush_eq]
  exact ((hcongr (countSegment_sameBut _ _ _ _ .rooms (by decide))).trans (hset ..)).trans
    (hcongr ((accRead_sameBut s o r _ _ row col ecc _ _).1 .rooms (by decide)))

theorem held_setHeld (s : State) (back : Bool) (h : Option (Nat × Nat)) : (s.setHeld back h).held back = h := by
  cases back <;> rfl

end State

end Sys2Proof.Machine

namespace Sys2Proof.Proofs

open Sys2Proof Sys2Proof.Machine

/-- Settles O17: a command either changes nothing, or holds the flush, or does it (segmentEnd_due, holdRelease_free), and what a
flush leaves (flush_flushed) does not depend on whether it was held. -/
theorem segmentsFlushOnce : Obligations.SegmentsFlushOnce := by
  intro s back row col ecc cycles o r t j k q sh c first g n key done hwf hop hroom hparts
  have hturn : o.turnFirst r row col = decide first := rfl
  have hdone : ∀ e u, s.Flushed o r row col e u → done e u := by
    intro e u ⟨⟨hpantry, hfp32, hbf16, hmark⟩, hops, hloss, hce, hue, hframe, hclean⟩
    have hvalue : s.turnValue o r row col e = if first then accRnd r.bf16 g.v else accRnd r.bf16
        ((f32val (if e = 2 ∧ ¬first then BitVec.ofNat 32 (Config.freeNat s.freeCtr) else (s.entry o r t c row col).1)).add g.v) := by
      simp only [State.turnValue, State.accNew, State.accOld_fst, hturn, decide_eq_true_eq]
      rfl
    rw [hvalue] at hpantry hfp32 hbf16
    simp only [State.turnOp, beq_iff_eq] at hops
    simp only [hturn, decide_eq_false_iff_not, decide_eq_true_eq] at hce hue hclean
    exact ⟨hpantry, hfp32, hbf16, hmark, hops, hloss, hce, hue, hframe, hclean⟩
  have hheld : s.laneHeld o r row col = (decide first && s.flushHeld o r t q c row col) := rfl
  have hgoes : ¬first ∨ s.flushHeld o r t q c row col = false → s.laneHeld o r row col = false := by
    rw [hheld]
    rintro (h | h) <;> simp [h]
  refine ⟨fun hstart hnone hrow hcol htile hdisc hmore hready hthere hlegal => ?_, fun hw => ⟨s, ?_, rfl⟩, fun hsome hfree => ?_⟩
  · have hdue : s.TurnDue back o r row col := ⟨hop, hroom, hstart, hnone, hrow, hcol, htile, hdisc, hmore, hready, hthere, hlegal⟩
    refine ⟨fun hfree => ⟨s.segmentEnd back row col ecc, rfl, hdone ecc _ ?_⟩, fun hf hh => ⟨s.segmentEnd back row col ecc, rfl, ?_⟩⟩
    · rw [State.segmentEnd_due hdue, if_neg (by simp [hgoes hfree])]
      exact State.flush_flushed hwf ..
    · rw [State.segmentEnd_due hdue, hheld, if_pos (by simp [hf, hh])]
      exact ⟨State.held_setHeld .., (State.setHeld_evolves ..).frame⟩
  · exact congrArg Host.Outcome.next (State.segmentEnd_waits hop hroom hw ecc)
  · have hrel := State.holdRelease_free hop hroom hsome (hgoes hfree) cycles
    have hunit : Ctr.roomDrainWait + n ∉ [Ctr.segWindowLoss, Ctr.pantryCe, Ctr.pantryUe] := by cases back <;> decide
    have hwf' : (s.setHeld back none).meterWf := (State.setHeld_evolves s back none).meter hwf
    have hflushed := State.flush_flushed hwf' o r row col 0
    refine ⟨s.holdRelease back cycles, rfl, hdone 0 _ ?_, ?_, ?_⟩
    · rw [hrel]
      exact hflushed.of_setHeld.count cycles hunit
    · rw [hrel]
      exact (State.held_flush ..).trans (State.held_setHeld ..)
    · rw [hrel, State.ctr_count, if_pos rfl, State.flush_ctr _ _ _ _ _ _ (by cases back <;> decide), if_neg]
      · cases back <;> rfl
      · rintro (⟨-, h⟩ | ⟨-, h, -⟩)
        · exact absurd h (by cases back <;> decide)
        · omega

end Sys2Proof.Proofs

/-! SUPPORT. Bring-up (R496 to R501): what each stage leaves of the objects, the memories and the library. -/

namespace Sys2Proof.Machine

namespace State

/-- During a start the entries of the stages have their effect. -/
theorem starting_of {s : State} (hp : s.powered = true) (hs : s.pwr.starting ≠ 0) : s.starting = true := by
  simp [starting, hp, hs]

/-- Whether an image verifies rests on the least version allowed and on the owner's key. -/
theorem imgVerifies_congr {s t : State} (hr : t.odv K.rollback = s.odv K.rollback) (hs : t.sec = s.sec) (ty : Nat) (img : List Byte) :
    t.imgVerifies ty img = s.imgVerifies ty img := by
  simp only [imgVerifies, ownerHash, hr, hs]

theorem slotVerifies_congr {s t : State} (hr : t.odv K.rollback = s.odv K.rollback) (hs : t.sec = s.sec) (b : List Byte) :
    t.slotVerifies b = s.slotVerifies b := by
  simp only [slotVerifies, imgVerifies_congr hr hs]

theorem setPll_odSame (s : State) (p st mhz : Nat) : s.odSame [okey (0x01100 + p) 4, okey (0x01100 + p) 3] (s.setPll p st mhz) := by
  intro k hk
  simp only [List.mem_cons, List.not_mem_nil, or_false, not_or] at hk
  rw [setPll, odv_setOd_other _ _ hk.2, odv_setOd_other _ _ hk.1]

/-! ### BS0 -/

/-- Clocks, power state and nonce as BS0 sets them before a slot runs (R496, R497). -/
def bs0Clocked (s : State) : State :=
  let u := (((s.setPll 2 2 1000).setOd K.clkRunning 15).setOd K.pwrState 1).setOd K.clkEnable 15
  u.free32.2.setOd K.debugNonce (ofBytes u.free32.1)

theorem bs0Clocked_frame (s : State) : s.sameBut [.od, .freeCtr] s.bs0Clocked :=
  ((((((setPll_evolves s _ _ _).frame.mono rfl).step (setOd_evolves _ _ _).frame rfl).step (setOd_evolves _ _ _).frame rfl).step
    (setOd_evolves _ _ _).frame rfl).step (free32_evolves _).frame rfl).step (setOd_evolves _ _ _).frame rfl

theorem odv_bs0Clocked (s : State) (k : Nat) : s.bs0Clocked.odv k =
    if k = K.debugNonce then ofBytes (leBytes 32 (Config.freeNat s.freeCtr)) else if k = K.clkEnable then 15
    else if k = K.pwrState then 1 else if k = K.clkRunning then 15 else (s.setPll 2 2 1000).odv k := by
  have hfree : ∀ u : State, u.free32.2.odv k = u.odv k := fun _ => rfl
  simp only [bs0Clocked, odv_setOd, hfree]
  rfl

/-- Every object that BS0 does not set before a slot runs. -/
theorem bs0Clocked_odSame (s : State) :
    s.odSame [K.debugNonce, K.clkEnable, K.pwrState, K.clkRunning, okey 0x01102 4, okey 0x01102 3] s.bs0Clocked := by
  intro k hk
  simp only [List.mem_cons, List.not_mem_nil, or_false, not_or] at hk
  obtain ⟨h1, h2, h3, h4, h5, h6⟩ := hk
  rw [odv_bs0Clocked, if_neg h1, if_neg h2, if_neg h3, if_neg h4]
  exact setPll_odSame s 2 2 1000 k (by simp [h5, h6])

/-- Neither slot's images verify: firmware does not run (R551). -/
def withoutFirmware (s : State) : State := { s with pwr := { s.pwr with noFirmware := true } }

theorem withoutFirmware_odv (s : State) (k : Nat) : s.withoutFirmware.odv k = s.odv k := by
  rw [odv, odv, show s.withoutFirmware.od = s.od from rfl]

/-- The entry to BS0: a slot is chosen once the clocks run. -/
theorem bs0_choose {s : State} (h : s.starting = true) (hstage : s.odv K.bringupStage = 0) (hpll : s.pllState 2 = 0) :
    s.bs0 = if s.bs0Clocked.slotVerifies (s.bs0Clocked.sec.slot (s.bs0Clocked.odv K.bootSlot)) then
        s.bs0Clocked.setOd K.runningSlot (s.bs0Clocked.odv K.bootSlot)
      else if s.bs0Clocked.slotVerifies (s.bs0Clocked.sec.slot (1 - s.bs0Clocked.odv K.bootSlot)) then
        (s.bs0Clocked.setOd K.runningSlot (1 - s.bs0Clocked.odv K.bootSlot)).setOd K.bringupFaults (s.bs0Clocked.odv K.bringupFaults ||| 64)
      else s.bs0Clocked.withoutFirmware := by
  unfold bs0
  rw [if_neg (by simp [h, hstage, hpll])]
  rfl

theorem bs0_eq {s : State} (h : s.starting = true) (hstage : s.odv K.bringupStage = 0) (hpll : s.pllState 2 = 0) :
    s.bs0 = if s.slotVerifies (s.sec.slot (s.odv K.bootSlot)) then s.bs0Clocked.setOd K.runningSlot (s.odv K.bootSlot)
      else if s.slotVerifies (s.sec.slot (1 - s.odv K.bootSlot)) then
        (s.bs0Clocked.setOd K.runningSlot (1 - s.odv K.bootSlot)).setOd K.bringupFaults (s.odv K.bringupFaults ||| 64)
      else s.bs0Clocked.withoutFirmware := by
  have hsec : s.bs0Clocked.sec = s.sec := s.bs0Clocked_frame .sec (by decide)
  have hslot := slotVerifies_congr (s.bs0Clocked_odSame K.rollback (by decide)) hsec
  have hboot : s.bs0Clocked.odv K.bootSlot = s.odv K.bootSlot := s.bs0Clocked_odSame _ (by decide)
  have hfaults : s.bs0Clocked.odv K.bringupFaults = s.odv K.bringupFaults := s.bs0Clocked_odSame _ (by decide)
  rw [bs0_choose h hstage hpll, hslot, hslot, hsec, hboot, hfaults]

/-- What BS0 leaves whichever slot runs. -/
theorem bs0_always {s : State} (h : s.starting = true) (hstage : s.odv K.bringupStage = 0) (hpll : s.pllState 2 = 0) :
    s.bs0.pllState 2 = 2 ∧ s.bs0.odv (K.pllMhz 2) = 1000 ∧ s.bs0.odv K.clkRunning = 15 ∧ s.bs0.odv K.clkEnable = 15 ∧
      s.bs0.odv K.pwrState = 1 ∧ s.bs0.odv K.bringupStage = 0 := by
  have hsame : s.bs0Clocked.odSame [K.runningSlot, K.bringupFaults] s.bs0 := by
    intro k hk
    simp only [List.mem_cons, List.not_mem_nil, or_false, not_or] at hk
    rw [bs0_eq h hstage hpll]
    split
    · exact odv_setOd_other _ _ hk.1
    · split
      · rw [odv_setOd_other _ _ hk.2, odv_setOd_other _ _ hk.1]
      · exact withoutFirmware_odv ..
  have hmgmt : ∀ k, k ∉ [K.debugNonce, K.clkEnable, K.pwrState, K.clkRunning] → s.bs0Clocked.odv k = (s.setPll 2 2 1000).odv k := by
    intro k hk
    simp only [List.mem_cons, List.not_mem_nil, or_false, not_or] at hk
    obtain ⟨h1, h2, h3, h4⟩ := hk
    rw [odv_bs0Clocked, if_neg h1, if_neg h2, if_neg h3, if_neg h4]
  have hst : (s.setPll 2 2 1000).odv (okey 0x01102 4) = 2 := by
    rw [setPll, odv_setOd_other _ _ (by decide)]
    exact odv_setOd_self ..
  refine ⟨((hsame _ (by decide)).trans (hmgmt _ (by decide))).trans hst,
    ((hsame _ (by decide)).trans (hmgmt _ (by decide))).trans (odv_setOd_self ..), ?_, ?_, ?_,
    ((hsame _ (by decide)).trans (s.bs0Clocked_odSame _ (by decide))).trans hstage⟩
  · rw [hsame _ (by decide), odv_bs0Clocked, if_neg (by decide), if_neg (by decide), if_neg (by decide), if_pos rfl]
  · rw [hsame _ (by decide), odv_bs0Clocked, if_neg (by decide), if_pos rfl]
  · rw [hsame _ (by decide), odv_bs0Clocked, if_neg (by decide), if_neg (by decide), if_pos rfl]

/-- Which slot BS0 leaves running: the boot slot, the other with its fault bit, or neither (R551). -/
theorem bs0_slot {s : State} (h : s.starting = true) (hstage : s.odv K.bringupStage = 0) (hpll : s.pllState 2 = 0) :
    let a := s.odv K.bootSlot
    (s.slotVerifies (s.sec.slot a) = true →
      s.bs0.odv K.runningSlot = a ∧ s.bs0.odv K.bringupFaults = s.odv K.bringupFaults ∧ s.bs0.pwr = s.pwr) ∧
    (s.slotVerifies (s.sec.slot a) = false → s.slotVerifies (s.sec.slot (1 - a)) = true →
      s.bs0.odv K.runningSlot = 1 - a ∧ s.bs0.odv K.bringupFaults = s.odv K.bringupFaults ||| 64 ∧ s.bs0.pwr = s.pwr) ∧
    (s.slotVerifies (s.sec.slot a) = false → s.slotVerifies (s.sec.slot (1 - a)) = false →
      s.bs0.odv K.runningSlot = s.odv K.runningSlot ∧ s.bs0.pwr.noFirmware = true ∧ s.bs0.alert = true) := by
  intro a
  have hpwr : s.bs0Clocked.pwr = s.pwr := s.bs0Clocked_frame .pwr (by decide)
  have hsame := s.bs0Clocked_odSame
  rw [bs0_eq h hstage hpll]
  refine ⟨fun hv => ?_, fun hv ho => ?_, fun hv ho => ?_⟩
  · rw [if_pos hv]
    exact ⟨odv_setOd_self .., (odv_setOd_other _ _ (by decide)).trans (hsame _ (by decide)), (setOd_pwr ..).trans hpwr⟩
  · rw [if_neg (by rw [hv]; decide), if_pos ho]
    exact ⟨(odv_setOd_other _ _ (by decide)).trans (odv_setOd_self ..), odv_setOd_self .., by rw [setOd_pwr, setOd_pwr, hpwr]⟩
  · rw [if_neg (by rw [hv]; decide), if_neg (by rw [ho]; decide)]
    have hfw : s.bs0Clocked.withoutFirmware.pwr.noFirmware = true := rfl
    exact ⟨(withoutFirmware_odv ..).trans (hsame _ (by decide)), hfw, by simp [alert, hfw]⟩

/-! ### BS1 -/

theorem odv_setPort (s : State) (p st width rate k : Nat) : (s.setPort p st width rate).odv k =
    if k = K.portRate p then rate else if k = K.portWidth p then width else if k = K.portState p then st else s.odv k := by
  simp only [setPort, raise_odv, odv_setOd]

/-- A port that is DOWN with its PERST# high trains; any other stays as it is (R536). -/
theorem linkTrain_eq (s : State) {p : Nat} (hp : p < 2) : s.linkTrain p =
    if (if p = 0 then s.pwr.perstLow0 else s.pwr.perstLow1) = false ∧ s.odv (K.portState p) = 0 then s.setPort p 1 0 0 else s := by
  unfold linkTrain
  have hp' : ¬2 ≤ p := by omega
  by_cases h0 : p = 0
  · cases hl : s.pwr.perstLow0 <;> by_cases hz : s.odv (K.portState p) = 0 <;> simp_all
  · cases hl : s.pwr.perstLow1 <;> by_cases hz : s.odv (K.portState p) = 0 <;> simp_all

theorem bs1_eq {s : State} (h : s.starting = true) (hstage : s.odv K.bringupStage = 0) (hpll : s.pllState 2 ≠ 0)
    (hfw : s.pwr.noFirmware = false) (hsrc : s.srcIsReady 1 = true ∨ bit (s.odv K.bringupFaults) 0 = true) :
    s.bs1 = if bit (((s.setOd K.bringupStage 1).linkTrain 0).odv K.bringupFaults) 0 then
      ((s.setOd K.bringupStage 1).linkTrain 0).raise Bell.clkSourceLost else (s.setOd K.bringupStage 1).linkTrain 0 := by
  unfold bs1
  rw [if_neg]
  rcases hsrc with e | e <;> simp [h, hstage, hpll, hfw, e]

theorem odv_linkTrain (s : State) {p : Nat} (hp : p < 2) (k : Nat) : (s.linkTrain p).odv k =
    if ((if p = 0 then s.pwr.perstLow0 else s.pwr.perstLow1) = false ∧ s.odv (K.portState p) = 0) ∧
        k ∈ [K.portState p, K.portWidth p, K.portRate p] then (if k = K.portState p then 1 else 0) else s.odv k := by
  have hw : K.portWidth p ≠ K.portState p := by simp only [K.portWidth, K.portState, okey]; omega
  have hr : K.portRate p ≠ K.portState p := by simp only [K.portRate, K.portState, okey]; omega
  rw [linkTrain_eq s hp]
  by_cases h : (if p = 0 then s.pwr.perstLow0 else s.pwr.perstLow1) = false ∧ s.odv (K.portState p) = 0
  · rw [if_pos h, odv_setPort]
    by_cases e1 : k = K.portRate p
    · simp [h, e1, hr]
    · by_cases e2 : k = K.portWidth p
      · simp [h, e2, hw]
      · by_cases e3 : k = K.portState p <;> simp [h, e1, e2, e3, hw.symm, hr.symm]
  · rw [if_neg h, if_neg fun e => h e.1]

/-- Where BS1 is entered: its stage, port 0's training, and CLK_SOURCE_LOST where it goes on without the crystal. -/
theorem bs1_spec {s : State} (h : s.starting = true) (hstage : s.odv K.bringupStage = 0) (hpll : s.pllState 2 ≠ 0)
    (hfw : s.pwr.noFirmware = false) (hsrc : s.srcIsReady 1 = true ∨ bit (s.odv K.bringupFaults) 0 = true) :
    s.bs1.odv K.bringupStage = 1 ∧
      s.bs1.odv (K.portState 0) = (if s.pwr.perstLow0 = false ∧ s.odv (K.portState 0) = 0 then 1 else s.odv (K.portState 0)) ∧
      (bit (s.odv K.bringupFaults) 0 = true → Bell.clkSourceLost ∈ s.bs1.bell.level) ∧
      s.odSame [K.bringupStage, K.portState 0, K.portWidth 0, K.portRate 0] s.bs1 := by
  have hport : (s.setOd K.bringupStage 1).odv (K.portState 0) = s.odv (K.portState 0) := odv_setOd_other _ _ (by decide)
  have hodv : ∀ k, s.bs1.odv k = ((s.setOd K.bringupStage 1).linkTrain 0).odv k := by
    intro k
    rw [bs1_eq h hstage hpll hfw hsrc]
    split
    · exact raise_odv ..
    · rfl
  have hsame : ∀ k, k ∉ [K.portState 0, K.portWidth 0, K.portRate 0] →
      ((s.setOd K.bringupStage 1).linkTrain 0).odv k = (s.setOd K.bringupStage 1).odv k := by
    intro k hk
    rw [odv_linkTrain _ (by decide), if_neg fun e => hk e.2]
  refine ⟨?_, ?_, fun hbit => ?_, fun k hk => ?_⟩
  · rw [hodv, hsame _ (by decide), odv_setOd_self]
  · rw [hodv, odv_linkTrain _ (by decide), hport]
    simp
  · have hfaults : ((s.setOd K.bringupStage 1).linkTrain 0).odv K.bringupFaults = s.odv K.bringupFaults := by
      rw [hsame _ (by decide), odv_setOd_other _ _ (by decide)]
    rw [bs1_eq h hstage hpll hfw hsrc, hfaults, if_pos hbit, mem_level_raise]
    exact .inl rfl
  · simp only [List.mem_cons, not_or] at hk
    rw [hodv, hsame k (by simpa using hk.2), odv_setOd_other _ _ hk.1]

/-! ### BRINGUP_GO -/

/-- A held start goes on (R501). -/
def release (s : State) : State := { s with pwr := { s.pwr with released := true } }

theorem release_frame (s : State) : s.sameBut [.pwr] s.release := fun f hf => by cases f <;> simp_all [agree, release]

/-- The answer to an access with no request to keep is counted and sent. -/
theorem respond_done_frame (s : State) (w : Way) : s.sameBut [.meter, .sent] (s.respond w [] 0 []) := by
  obtain ⟨b, e⟩ := respond_done s w
  rw [e]
  exact ((count_evolves s _ _).frame.mono rfl).step (send_evolves _ _).frame rfl

/-- An accepted write of BRINGUP_GO releases the start, and is answered (R501). -/
theorem bringupGo_eq {s : State} {w : Way} {data : List Byte} (h : s.WriteOk w 0x01014 0 data) :
    (s.onWay w fun t => t.odWriteObj w 0x01014 0 data) = s.release.respond w [] 0 [] := by
  obtain ⟨o, ho, hacc⟩ : ∃ o, objInfo 0x01014 0 = some o ∧ (o.acc == .rws) = false := by decide +kernel
  rw [write_effect h (by decide)]
  unfold odEffect
  rw [demand_ok h]
  simp [ho, hacc, release]

/-! ### Enable bits -/

theorem bit_add_two_pow {v c : Nat} (hc : bit v c = false) (b : Nat) : bit (v + 2 ^ c) b = (decide (b = c) || bit v b) := by
  simp only [bit] at hc ⊢
  have heven : v / 2 ^ c % 2 = 0 := by
    have := beq_eq_false_iff_ne.1 hc
    omega
  have hup : (v + 2 ^ c) / 2 ^ c = v / 2 ^ c + 1 := Nat.add_div_right v (Nat.two_pow_pos c)
  rcases lt_trichotomy b c with h | rfl | h
  · obtain ⟨d, rfl⟩ := Nat.exists_eq_add_of_lt h
    have e : v + 2 ^ (b + d + 1) = v + 2 ^ b * (2 * 2 ^ d) := by ring
    rw [e, Nat.add_mul_div_left _ _ (Nat.two_pow_pos b), Nat.add_mul_mod_self_left]
    simp [show b ≠ b + d + 1 by omega]
  · rw [hup]
    simp
    omega
  · obtain ⟨d, rfl⟩ := Nat.exists_eq_add_of_lt h
    have e : ∀ x : Nat, x / 2 ^ (c + d + 1) = x / 2 ^ c / 2 / 2 ^ d := by
      intro x
      rw [Nat.div_div_eq_div_mul, Nat.div_div_eq_div_mul]
      congr 1
      ring
    have hhalf : (v / 2 ^ c + 1) / 2 = v / 2 ^ c / 2 := by omega
    rw [e, e, hup, hhalf]
    simp [show c + d + 1 ≠ c by omega]

/-- The enable bits named are set, and no bit that was set is lost. -/
theorem bit_setEnables (s : State) (l : List Nat) {b : Nat} (h : b ∈ l ∨ bit (s.odv K.clkEnable) b = true) :
    bit ((s.setEnables l).odv K.clkEnable) b = true := by
  rw [setEnables, odv_setOd_self]
  generalize s.odv K.clkEnable = v at h
  induction l generalizing v with
  | nil => exact h.resolve_left (by simp)
  | cons c l ih =>
    rw [List.foldl_cons]
    refine ih _ ?_
    cases hc : bit v c with
    | true =>
      rcases h with h | h
      · rcases List.mem_cons.1 h with rfl | h
        · exact .inr (by simpa using hc)
        · exact .inl h
      · exact .inr (by simpa using h)
    | false =>
      rcases h with h | h
      · rcases List.mem_cons.1 h with rfl | h
        · exact .inr (by simp [bit_add_two_pow hc])
        · exact .inl h
      · exact .inr (by simp [bit_add_two_pow hc, h])

/-! ### BS2 -/

theorem startPll_pllState (s : State) (p q : Nat) :
    (s.startPll p).pllState q = if q = p ∧ s.pllState p = 0 then 2 else s.pllState q := by
  have hset : ∀ (u : State) (mhz : Nat), (u.setPll p 2 mhz).pllState q = if q = p then 2 else u.pllState q := by
    intro u mhz
    have h3 : okey (0x01100 + q) 4 ≠ okey (0x01100 + p) 3 := by simp only [okey]; omega
    have h4 : okey (0x01100 + q) 4 = okey (0x01100 + p) 4 ↔ q = p := by simp only [okey]; omega
    rw [pllState, setPll, odv_setOd_other _ _ h3, odv_setOd]
    simp only [h4, pllState]
  unfold startPll
  by_cases hz : s.pllState p = 0
  · simp only [hz, BEq.rfl, if_true, hset, and_true]
    split <;> rfl
  · simp [hz]

theorem odv_startPll_other (s : State) {p k : Nat} (hp : p < 4) (hk : noPllKey k) : (s.startPll p).odv k = s.odv k := by
  unfold startPll
  split
  · dsimp only
    rw [odv_setPll_other _ _ _ hp hk, odv_setPll_other _ _ _ hp hk]
  · rfl

/-- A pool of KV frames lies in the Attic or in the Cellar. -/
theorem wr_pool_larder (s u : State) (p a n v : Nat) : (u.wr (s.poolSpace p) a n v).larder = u.larder := by
  have h : s.poolSpace p = .attic ∨ s.poolSpace p = .cellar := by
    unfold poolSpace
    rcases Nat.mod_two_eq_zero_or_one (s.odv (K.kvPool p 2)) with e | e <;> rw [e]
    · exact .inl rfl
    · exact .inr rfl
  rcases h with e | e <;> rw [e] <;> rfl

theorem pushFree_larder (s : State) (p f : Nat) : (s.pushFree p f).larder = s.larder :=
  (wr_pool_larder ..).trans (wr_pool_larder ..)

theorem foldl_larder {α : Type} {g : State → α → State} (hg : ∀ (t : State) (x : α), (g t x).larder = t.larder) (l : List α) (s : State) :
    (l.foldl g s).larder = s.larder := by
  induction l generalizing s with
  | nil => rfl
  | cons x l ih => rw [List.foldl_cons, ih, hg]

theorem buildPool_larder (s : State) (p : Nat) : (s.buildPool p).larder = s.larder :=
  (foldl_larder (fun _ _ => pushFree_larder ..) _ _).trans (wr_pool_larder ..)

theorem unpinPool_larder (s : State) (p : Nat) : (s.unpinPool p).larder = s.larder := by
  refine foldl_larder (fun t f => ?_) _ s
  extract_lets h u v
  have hu : u.larder = t.larder := by
    unfold u
    split
    · rfl
    · exact wr_pool_larder ..
  have hv : v.larder = t.larder := by rw [count_larder, pushFree_larder, hu]
  split
  · split
    · exact hv
    · rw [count_larder, hv]
  · exact hu

theorem startPool_larder (s : State) (cold : Bool) (p : Nat) : (s.startPool cold p).larder = s.larder := by
  unfold startPool
  dsimp only
  split
  · rfl
  · split
    · exact unpinPool_larder ..
    · exact buildPool_larder ..

theorem startPools_larder (s : State) (cold : Bool) : (s.startPools cold).larder = s.larder := by
  unfold startPools
  dsimp only
  exact foldl_larder (fun _ _ => startPool_larder ..) _ s

theorem emptyGuest_larder (s : State) (cold : Bool) : (s.emptyGuest cold).larder = s.larder := by
  unfold emptyGuest
  split <;> rfl

/-! ### The library (R282, R284) -/

theorem installLib_spec (s : State) (img : List Byte) :
    (s.installLib img).odv K.libState = 1 ∧ s.odSame [K.libVersion, K.libPrograms, K.libState] (s.installLib img) := by
  obtain ⟨v, n, hodv⟩ : ∃ v n, ∀ k, (s.installLib img).odv k =
      (((s.setOd K.libVersion v).setOd K.libPrograms n).setOd K.libState 1).odv k :=
    ⟨Config.imageField 1 img % 65536, ((List.range (Config.imageField 2 img % 4096)).filterMap fun i =>
      dirProg (Config.imageField (0x100 + i) img)).length, fun k => by simp only [installLib, odv]⟩
  refine ⟨by rw [hodv, odv_setOd_self], fun k hk => ?_⟩
  simp only [List.mem_cons, List.not_mem_nil, or_false, not_or] at hk
  obtain ⟨h1, h2, h3⟩ := hk
  rw [hodv, odv_setOd_other _ _ h3, odv_setOd_other _ _ h2, odv_setOd_other _ _ h1]

/-- No bench held in reset, and nothing in the benches' stores. -/
def freshBenches (s : State) : State := { s with ws := { s.ws with benchReset := [], store := [] } }

/-- The library that is measured (R558). -/
def setLibActive (s : State) (img : List Byte) : State := { s with sec := { s.sec with libActive := img } }

theorem freshBenches_odv (s : State) (k : Nat) : s.freshBenches.odv k = s.odv k := by
  rw [odv, odv, show s.freshBenches.od = s.od from rfl]

theorem setLibActive_odv (s : State) (img : List Byte) (k : Nat) : (s.setLibActive img).odv k = s.odv k := by
  rw [odv, odv, show (s.setLibActive img).od = s.od from rfl]

theorem loadLibrary_eq (s : State) : s.loadLibrary =
    if s.imgVerifies 3 (s.runningImage 3) then (s.freshBenches.installLib (s.runningImage 3)).setLibActive (s.runningImage 3)
    else s.freshBenches.raise Bell.wsLibFail := by
  rw [← imgVerifies_congr (freshBenches_odv s K.rollback) rfl]
  rfl

/-- The library of the running slot: installed and measured where it verifies, else WS_LIB_FAIL. -/
theorem loadLibrary_spec (s : State) :
    s.odSame [K.libVersion, K.libPrograms, K.libState] s.loadLibrary ∧
      (s.imgVerifies 3 (s.runningImage 3) = true → s.loadLibrary.sec.libActive = s.runningImage 3 ∧ s.loadLibrary.odv K.libState = 1) ∧
      (s.imgVerifies 3 (s.runningImage 3) = false →
        Bell.wsLibFail ∈ s.loadLibrary.bell.level ∧ s.loadLibrary.odv K.libState = s.odv K.libState) := by
  have hfail : ∀ k, (s.freshBenches.raise Bell.wsLibFail).odv k = s.odv k := fun k => (raise_odv ..).trans (freshBenches_odv ..)
  obtain ⟨hstate, hsame⟩ := installLib_spec s.freshBenches (s.runningImage 3)
  rw [loadLibrary_eq]
  cases h : s.imgVerifies 3 (s.runningImage 3) with
  | true =>
    refine ⟨fun k hk => ?_, fun _ => ⟨rfl, ?_⟩, fun e => absurd e (by decide)⟩
    · rw [if_pos rfl, setLibActive_odv, hsame k hk, freshBenches_odv]
    · rw [if_pos rfl, setLibActive_odv, hstate]
  | false =>
    rw [if_neg Bool.false_ne_true]
    exact ⟨fun k _ => hfail k, fun e => absurd e (by decide), fun _ => ⟨(mem_level_raise ..).2 (.inl rfl), hfail _⟩⟩

/-- The state in which BS2 looks for its library: trained, the Larder empty, in Service with three PLLs running (R500, R501). -/
def bs2Running (s : State) : State :=
  let u := (s.trainMemories (s.pwr.starting == 1)).setMem .larder Mem.empty
  ((((u.setOd K.bringupStage 2).setOd K.pwrState 2).startPll 1).startPll 3).startPll 0

/-- With its library, its pools and its Guest room. -/
def bs2Loaded (s : State) : State :=
  (s.bs2Running.loadLibrary.startPools (s.pwr.starting == 1)).emptyGuest (s.pwr.starting == 1)

theorem bs2_eq {s : State} (h : s.starting = true) (hstage : s.odv K.bringupStage = 1)
    (hgo : s.odv K.bringupHold = 1 → s.pwr.released = true) (a c : Bool) : s.bs2 a c =
      if a || c then s.setOd K.bringupFaults (s.odv K.bringupFaults ||| ((if a then 2 else 0) + (if c then 4 else 0)))
      else (((s.bs2Loaded.setEnables [4, 5, 6, 7, 9, 11, 12, 13]).setOd K.frontMode 1).setOd K.backMode 0).raise Bell.bringupStage := by
  unfold bs2
  rw [if_neg]
  · rfl
  · simp only [h, hstage, Bool.not_true, bne_self_eq_false, Bool.false_or, Bool.and_eq_true, beq_iff_eq, Bool.not_eq_true']
    intro e
    exact absurd (hgo e.1) (by simp [e.2])

/-- Once trained and emptied, only objects change before the library is looked for. -/
theorem bs2Running_od (s : State) : ((s.trainMemories (s.pwr.starting == 1)).setMem .larder Mem.empty).sameBut [.od] s.bs2Running :=
  ((((setOd_evolves _ _ _).frame.step (setOd_evolves _ _ _).frame rfl).step (startPll_evolves _ _).frame rfl).step
    (startPll_evolves _ _).frame rfl).step (startPll_evolves _ _).frame rfl

theorem bs2Running_frame (s : State) : s.sameBut [.domains, .freeCtr, .pwr, .larder, .od] s.bs2Running :=
  (((trainMemories_evolves s _).frame.mono rfl).step (setMem_sameBut _ .larder _) rfl).step s.bs2Running_od rfl

theorem bs2Running_larder (s : State) : s.bs2Running.larder = Mem.empty := s.bs2Running_od .larder (by decide)

theorem odv_bs2Running (s : State) {k : Nat} (hk : noPllKey k) :
    s.bs2Running.odv k = if k = K.pwrState then 2 else if k = K.bringupStage then 2 else s.odv k := by
  have htrain : ((s.trainMemories (s.pwr.starting == 1)).setMem .larder Mem.empty).odv k = s.odv k :=
    (((trainMemories_evolves s _).frame.mono rfl).step (setMem_sameBut _ .larder _) rfl :
      s.sameBut [.domains, .freeCtr, .pwr, .larder] _).odv (by decide) k
  unfold bs2Running
  rw [odv_startPll_other _ (by decide) hk, odv_startPll_other _ (by decide) hk, odv_startPll_other _ (by decide) hk, odv_setOd, odv_setOd, htrain]

theorem bs2Running_hall (s : State) : s.bs2Running.pllState 1 ≠ 0 := by
  have hthree : ∀ u : State, (((u.startPll 1).startPll 3).startPll 0).pllState 1 ≠ 0 := by
    intro u
    rw [startPll_pllState, if_neg (by simp), startPll_pllState, if_neg (by simp), startPll_pllState]
    split
    · decide
    · next e => exact fun hz => e ⟨rfl, hz⟩
  exact hthree _

/-- What follows the library at the entry to BS2 reaches the Attic, the Cellar, the Meter and the pools' own record only. -/
theorem bs2Loaded_frame (s : State) : s.bs2Running.loadLibrary.sameBut [.attic, .cellar, .host, .meter, .pwr] s.bs2Loaded := by
  have h : s.bs2Running.loadLibrary.sameBut [.attic, .cellar, .larder, .host, .meter, .pwr] s.bs2Loaded :=
    ((startPools_evolves _ _).frame.mono rfl).step (emptyGuest_evolves _ _).frame rfl
  intro f hf
  by_cases e : f = .larder
  · subst e
    exact (emptyGuest_larder ..).trans (startPools_larder ..)
  · exact h f (by simp_all)

/-- Every object after BS2 but the rooms' states, the enable bits and the library's. -/
theorem odv_bs2 {s : State} (h : s.starting = true) (hstage : s.odv K.bringupStage = 1)
    (hgo : s.odv K.bringupHold = 1 → s.pwr.released = true) {k : Nat} (hk : k ∉ [K.backMode, K.frontMode, K.clkEnable]) :
    (s.bs2 false false).odv k = s.bs2Running.loadLibrary.odv k := by
  simp only [List.mem_cons, List.not_mem_nil, or_false, not_or] at hk
  obtain ⟨h1, h2, h3⟩ := hk
  rw [bs2_eq h hstage hgo, Bool.or_self, if_neg Bool.false_ne_true, raise_odv, odv_setOd_other _ _ h1, odv_setOd_other _ _ h2, setEnables,
    odv_setOd_other _ _ h3, s.bs2Loaded_frame.odv (by decide)]

/-- A BS2 whose memories train: Service, with the clocks and the rooms as R500 and R501 give them. -/
theorem bs2_service {s : State} (h : s.starting = true) (hstage : s.odv K.bringupStage = 1)
    (hgo : s.odv K.bringupHold = 1 → s.pwr.released = true) :
    let t := s.bs2 false false
    t.odv K.bringupStage = 2 ∧ t.odv K.pwrState = 2 ∧ t.odv K.frontMode = 1 ∧ t.odv K.backMode = 0 ∧ t.larder = Mem.empty ∧
      (∀ b ∈ [4, 5, 6, 7, 9, 11, 12, 13], bit (t.odv K.clkEnable) b = true) ∧ t.pllState 1 ≠ 0 ∧ Bell.bringupStage ∈ t.bell.level := by
  intro t
  have hlib := s.bs2Running.loadLibrary_spec.1
  have ht : t = (((s.bs2Loaded.setEnables [4, 5, 6, 7, 9, 11, 12, 13]).setOd K.frontMode 1).setOd K.backMode 0).raise Bell.bringupStage :=
    bs2_eq h hstage hgo false false
  have hlarder : t.larder = Mem.empty := by
    rw [ht, raise_larder, setOd_larder, setOd_larder]
    exact (s.bs2Loaded_frame .larder (by decide)).trans ((s.bs2Running.loadLibrary_evolves.frame .larder (by decide)).trans s.bs2Running_larder)
  refine ⟨?_, ?_, ?_, ?_, hlarder, fun b hb => ?_, ?_, ?_⟩
  · rw [odv_bs2 h hstage hgo (by decide), hlib _ (by decide), odv_bs2Running _ (noPllKey_of_lt (by decide)), if_neg (by decide), if_pos rfl]
  · rw [odv_bs2 h hstage hgo (by decide), hlib _ (by decide), odv_bs2Running _ (noPllKey_of_lt (by decide)), if_pos rfl]
  · rw [ht, raise_odv, odv_setOd_other _ _ (by decide), odv_setOd_self]
  · rw [ht, raise_odv, odv_setOd_self]
  · rw [ht, raise_odv, odv_setOd_other _ _ (by decide), odv_setOd_other _ _ (by decide)]
    exact bit_setEnables _ _ (.inl hb)
  · have hpll : t.pllState 1 = s.bs2Running.pllState 1 := (odv_bs2 h hstage hgo (by decide)).trans (hlib _ (by decide))
    rw [hpll]
    exact s.bs2Running_hall
  · rw [ht, mem_level_raise]
    exact .inl rfl

/-- The library that BS2 leaves (R284, R551). -/
theorem bs2_library {s : State} (h : s.starting = true) (hstage : s.odv K.bringupStage = 1)
    (hgo : s.odv K.bringupHold = 1 → s.pwr.released = true) :
    let t := s.bs2 false false
    (s.imgVerifies 3 (s.runningImage 3) = true → t.sec.libActive = s.runningImage 3 ∧ t.odv K.libState = 1) ∧
      (s.imgVerifies 3 (s.runningImage 3) = false → Bell.wsLibFail ∈ t.bell.level ∧ t.odv K.libState = s.odv K.libState) := by
  intro t
  have ht : t = (((s.bs2Loaded.setEnables [4, 5, 6, 7, 9, 11, 12, 13]).setOd K.frontMode 1).setOd K.backMode 0).raise Bell.bringupStage :=
    bs2_eq h hstage hgo false false
  have hodv : ∀ k, noPllKey k → k ≠ K.pwrState → k ≠ K.bringupStage → s.bs2Running.odv k = s.odv k := by
    intro k hk h1 h2
    rw [odv_bs2Running _ hk, if_neg h1, if_neg h2]
  have hsec : s.bs2Running.sec = s.sec := s.bs2Running_frame .sec (by decide)
  have himg : s.bs2Running.runningImage 3 = s.runningImage 3 := by
    rw [runningImage, runningImage, hsec, hodv _ (noPllKey_of_ge (by decide)) (by decide) (by decide)]
  have hver : s.bs2Running.imgVerifies 3 (s.bs2Running.runningImage 3) = s.imgVerifies 3 (s.runningImage 3) := by
    rw [himg, imgVerifies_congr (hodv _ (noPllKey_of_ge (by decide)) (by decide) (by decide)) hsec]
  have hstate : t.odv K.libState = s.bs2Running.loadLibrary.odv K.libState := odv_bs2 h hstage hgo (by decide)
  have htsec : t.sec = s.bs2Running.loadLibrary.sec := by
    rw [ht, raise_sec, setOd_sec, setOd_sec]
    exact s.bs2Loaded_frame .sec (by decide)
  have hbell : ∀ n ∈ s.bs2Running.loadLibrary.bell.level, n ∈ t.bell.level := by
    have e : s.bs2Loaded.bell = s.bs2Running.loadLibrary.bell := s.bs2Loaded_frame .bell (by decide)
    intro n hn
    rw [ht, mem_level_raise, setOd_bell, setOd_bell, setEnables, setOd_bell, e]
    exact .inr hn
  obtain ⟨-, hyes, hno⟩ := s.bs2Running.loadLibrary_spec
  rw [hver, himg] at hyes
  rw [hver] at hno
  refine ⟨fun hv => ?_, fun hv => ?_⟩
  · rw [htsec, hstate]
    exact hyes hv
  · rw [hstate, ← hodv K.libState (noPllKey_of_ge (by decide)) (by decide) (by decide)]
    exact ⟨hbell _ (hno hv).1, (hno hv).2⟩

/-! ### BS3 -/

/-- The fault bits of BS3: the Front Room's self-test, the Back Room's, and port 1. -/
def bs3Faults (fb bb p1 : Bool) : Nat := (if fb then 8 else 0) + (if bb then 16 else 0) + (if p1 then 32 else 0)

/-- Nothing in either room's Pantry (R118). -/
def emptyPantries (s : State) : State := { s with rooms := { s.rooms with pantryF := [], pantryB := [] } }

theorem emptyPantries_frame (s : State) : s.sameBut [.rooms] s.emptyPantries := fun f hf => by cases f <;> simp_all [agree, emptyPantries]

/-- The Pantries empty, faults and stage in their objects, both rooms enabled and the PLLs at their BS3 frequencies. -/
def bs3Entered (s : State) (faults : Nat) : State :=
  let u := s.emptyPantries
  (((u.setOd K.bringupFaults (u.odv K.bringupFaults ||| faults)).setOd K.bringupStage 3).setEnables [8, 10]).retunePlls

/-- The start is over; the Front Room's new state waits until no letter runs in it (R101). -/
def endStart (s : State) (front : Nat) : State := { s with pwr := { s.pwr with starting := 0, frontNext := some front } }

theorem endStart_odv (s : State) (front k : Nat) : (s.endStart front).odv k = s.odv k := by
  rw [odv, odv, show (s.endStart front).od = s.od from rfl]

/-- The entry to BS3 but for the Front Room's new state. -/
def bs3Settling (s : State) (fb bb p1 : Bool) : State :=
  let fm := s.marginMode [1, 2]
  let bm := s.marginMode [3, 4, 5, 6]
  let u := s.bs3Entered (bs3Faults fb bb p1)
  let u := if (fm == 2 && !fb) || (bm == 2 && !bb) then u.raise Bell.roomDerated else u
  let u := (u.setOd K.backMode (if bb then 0 else bm)).endStart (if fb then 0 else fm)
  (if p1 then u else u.linkTrain 1).raise Bell.bringupStage

theorem bs3_eq {s : State} (h : s.starting = true) (hstage : s.odv K.bringupStage = 2) (fb bb p1 : Bool) :
    s.bs3 fb bb p1 = (s.bs3Settling (s.pwr.starting == 1 && fb) (s.pwr.starting == 1 && bb) p1).frontSettle := by
  unfold bs3
  rw [if_neg (by simp [h, hstage])]
  rfl

/-- No room's state waits any longer. -/
def clearFrontNext (s : State) : State := { s with pwr := { s.pwr with frontNext := none } }

theorem clearFrontNext_odv (s : State) (k : Nat) : s.clearFrontNext.odv k = s.odv k := by
  rw [odv, odv, show s.clearFrontNext.od = s.od from rfl]

/-- With no letter in the Front Room its new state is taken at once. -/
theorem frontSettle_idle {s : State} {m : Nat} (hm : s.pwr.frontNext = some m) (hops : ∀ o ∈ s.lb.ops, o.target ≠ .front) :
    s.frontSettle = (s.clearFrontNext.setOd K.frontMode m).settle := by
  unfold frontSettle
  rw [hm]
  dsimp only
  rw [if_neg (by simpa using hops)]
  rfl

theorem bs3Entered_frame (s : State) (faults : Nat) : s.sameBut [.rooms, .od] (s.bs3Entered faults) :=
  ((((s.emptyPantries_frame.mono rfl).step (setOd_evolves _ _ _).frame rfl).step (setOd_evolves _ _ _).frame rfl).step
    (setEnables_evolves _ _).frame rfl).step (retunePlls_evolves _).frame rfl

theorem odv_bs3Entered (s : State) (faults : Nat) :
    (s.bs3Entered faults).odv K.bringupStage = 3 ∧ (s.bs3Entered faults).odv K.bringupFaults = s.odv K.bringupFaults ||| faults ∧
      ∀ b ∈ [8, 10], bit ((s.bs3Entered faults).odv K.clkEnable) b = true := by
  have hpan : s.emptyPantries.odv K.bringupFaults = s.odv K.bringupFaults := s.emptyPantries_frame.odv (by decide) _
  unfold bs3Entered
  dsimp only
  refine ⟨?_, ?_, fun b hb => ?_⟩
  · rw [odv_retunePlls_other _ (noPllKey_of_lt (by decide)), setEnables, odv_setOd_other _ _ (by decide), odv_setOd_self]
  · rw [odv_retunePlls_other _ (noPllKey_of_lt (by decide)), setEnables, odv_setOd_other _ _ (by decide), odv_setOd_other _ _ (by decide),
      odv_setOd_self, hpan]
  · rw [odv_retunePlls_other _ (noPllKey_of_lt (by decide))]
    exact bit_setEnables _ _ (.inl hb)

/-- What the entry to BS3 leaves before the Front Room's new state is looked at. -/
theorem bs3Settling_spec (s : State) (fb bb p1 : Bool) :
    let u := s.bs3Settling fb bb p1
    u.odv K.backMode = (if bb then 0 else s.marginMode [3, 4, 5, 6]) ∧
      (∀ k, k ∉ [K.backMode, K.portState 1, K.portWidth 1, K.portRate 1] → u.odv k = (s.bs3Entered (bs3Faults fb bb p1)).odv k) ∧
      u.pwr.frontNext = some (if fb then 0 else s.marginMode [1, 2]) ∧ u.pwr.starting = 0 ∧ u.lb = s.lb ∧
      Bell.bringupStage ∈ u.bell.level := by
  unfold bs3Settling
  extract_lets fm bm e d v
  have hd : e.sameBut [.bell] d := by
    unfold d
    split
    · exact (raise_evolves _ _).frame
    · exact .refl _ _
  have hlink : ∀ w : State, w.sameBut [.od, .bell] (if p1 then w else w.linkTrain 1) := by
    intro w
    cases p1
    · exact (linkTrain_evolves w 1).frame
    · exact .refl _ w
  have hodv : ∀ k, k ∉ [K.portState 1, K.portWidth 1, K.portRate 1] →
      ((if p1 then v else v.linkTrain 1).raise Bell.bringupStage).odv k = (d.setOd K.backMode (if bb then 0 else bm)).odv k := by
    intro k hk
    have hv : v.odv k = (d.setOd K.backMode (if bb then 0 else bm)).odv k := endStart_odv ..
    rw [raise_odv, ← hv]
    cases p1
    · exact (odv_linkTrain v (by decide) k).trans (if_neg fun x => hk x.2)
    · rfl
  have hpwr : ((if p1 then v else v.linkTrain 1).raise Bell.bringupStage).pwr = v.pwr :=
    (raise_pwr ..).trans (hlink v .pwr (by decide))
  refine ⟨?_, fun k hk => ?_, ?_, ?_, ?_, (mem_level_raise ..).2 (.inl rfl)⟩
  · rw [hodv _ (by decide), odv_setOd_self]
  · simp only [List.mem_cons, not_or] at hk
    rw [hodv _ (by simpa using hk.2), odv_setOd_other _ _ hk.1, hd.odv (by decide)]
  · rw [hpwr]
    rfl
  · rw [hpwr]
    rfl
  · have hdlb : d.lb = s.lb := (hd .lb (by decide)).trans (s.bs3Entered_frame _ .lb (by decide))
    exact (raise_lb ..).trans ((hlink v .lb (by decide)).trans hdlb)

/-- With no letter in the Front Room, the entry to BS3 ends the start with both rooms in their states (R98, R501). -/
theorem bs3_spec {s : State} (h : s.starting = true) (hstage : s.odv K.bringupStage = 2) (hops : ∀ o ∈ s.lb.ops, o.target ≠ .front)
    (fb bb p1 : Bool) :
    let t := s.bs3 fb bb p1
    let cold := s.pwr.starting == 1
    t.odv K.bringupStage = 3 ∧ t.pwr.starting = 0 ∧ bit (t.odv K.clkEnable) 8 = true ∧ bit (t.odv K.clkEnable) 10 = true ∧
      t.odv K.frontMode = (if cold && fb then 0 else s.marginMode [1, 2]) ∧
      t.odv K.backMode = (if cold && bb then 0 else s.marginMode [3, 4, 5, 6]) ∧
      t.odv K.bringupFaults = s.odv K.bringupFaults ||| bs3Faults (cold && fb) (cold && bb) p1 ∧ Bell.bringupStage ∈ t.bell.level := by
  intro t cold
  obtain ⟨hback, hother, hnext, hstart, hlb, hbell⟩ := s.bs3Settling_spec (cold && fb) (cold && bb) p1
  obtain ⟨hst, hfaults, hen⟩ := s.odv_bs3Entered (bs3Faults (cold && fb) (cold && bb) p1)
  have ht : t = ((s.bs3Settling (cold && fb) (cold && bb) p1).clearFrontNext.setOd K.frontMode
      (if cold && fb then 0 else s.marginMode [1, 2])).settle :=
    (bs3_eq h hstage fb bb p1).trans (frontSettle_idle hnext (by rwa [hlb]))
  have hodv : ∀ k, k ≠ K.frontMode → t.odv k = (s.bs3Settling (cold && fb) (cold && bb) p1).odv k := by
    intro k hk
    rw [ht, settle_odv, odv_setOd_other _ _ hk, clearFrontNext_odv]
  refine ⟨?_, ?_, ?_, ?_, ?_, ?_, ?_, ?_⟩
  · rw [hodv _ (by decide), hother _ (by decide), hst]
  · rw [ht]
    exact hstart
  · rw [hodv _ (by decide), hother _ (by decide)]
    exact hen 8 (by decide)
  · rw [hodv _ (by decide), hother _ (by decide)]
    exact hen 10 (by decide)
  · rw [ht, settle_odv, odv_setOd_self]
  · rw [hodv _ (by decide), hback]
  · rw [hodv _ (by decide), hother _ (by decide), hfaults]
  · rw [ht]
    exact hbell

end State
end Sys2Proof.Machine

namespace Sys2Proof.Proofs

open Sys2Proof Sys2Proof.Machine

/-- Settles O50, stage by stage: each entry is one equation (bs0_eq, bs1_eq, bs2_eq, bs3_eq) once its conditions hold, and what
its updates leave of each object is read off their own lemmas. -/
theorem bringUpStages : Obligations.BringUpStages := by
  intro s hpow hst
  have h : s.starting = true := State.starting_of hpow hst
  refine ⟨fun hstage hpll => ?_, fun hstage hpll hfw hsrc => ?_, fun w data hw => ?_, fun hstage hgo => ⟨fun a c hac => ?_, ?_⟩,
    fun hstage hops fb bb p1 => ?_⟩
  · obtain ⟨h1, h2, h3, h4, h5, h6⟩ := State.bs0_always h hstage hpll
    obtain ⟨hboot, hother, hnone⟩ := State.bs0_slot h hstage hpll
    exact ⟨s.bs0, rfl, h1, h2, h3, h4, h5, h6, hboot, hother, hnone, s.bs0_evolves.frame.mono rfl⟩
  · obtain ⟨h1, h2, h3, h4⟩ := State.bs1_spec h hstage hpll hfw hsrc
    exact ⟨s.bs1, rfl, h1, h2, h3, h4, (State.bs1_evolves s).frame⟩
  · have hresp := s.release.respond_done_frame w
    exact ⟨_, congrArg Host.Outcome.next (State.bringupGo_eq hw), hresp .pwr (by decide), State.served_respond rfl rfl,
      (s.release_frame.mono rfl).step hresp rfl⟩
  · refine ⟨s.bs2 a c, rfl, ?_⟩
    rw [State.bs2_eq h hstage hgo, if_pos hac]
    exact ⟨State.odv_setOd_self .., fun k hk => State.odv_setOd_other _ _ (by simpa using hk), (State.setOd_evolves ..).frame⟩
  · obtain ⟨h1, h2, h3, h4, h5, h6, h7, h8⟩ := State.bs2_service h hstage hgo
    exact ⟨s.bs2 false false, rfl, h1, h2, h3, h4, h5, h6, h7, h8, State.bs2_library h hstage hgo⟩
  · obtain ⟨h1, h2, h3, h4, h5, h6, h7, h8⟩ := State.bs3_spec h hstage hops fb bb p1
    have hcold : ∀ b : Bool, (s.pwr.starting == 1 && b) = true ↔ b = true ∧ s.pwr.starting = 1 := fun b => by simp [and_comm]
    refine ⟨s.bs3 fb bb p1, rfl, h1, h2, h3, h4, h5.trans (if_congr (hcold fb) rfl rfl), h6.trans (if_congr (hcold bb) rfl rfl), ?_, h8⟩
    rw [h7]
    simp only [State.bs3Faults, hcold]

end Sys2Proof.Proofs

/-! SUPPORT. The recipe ring's tail (R177) and the held source RECIPE (R511). -/

namespace Sys2Proof.Machine.State

/-- RECIPE is high exactly while the tail differs from the head; no other source changes. -/
theorem mem_level_recipeLevel (s : State) (n : Nat) : n ∈ s.recipeLevel.bell.level ↔
    (n = Bell.recipe ∧ s.odv K.recipeHead ≠ s.odv K.recipeTail) ∨ (n ≠ Bell.recipe ∧ n ∈ s.bell.level) := by
  unfold recipeLevel
  by_cases hempty : s.odv K.recipeHead = s.odv K.recipeTail
  · simp [hempty, mem_level_lower]
  · simp only [beq_iff_eq, hempty, if_false, mem_level_raise]
    tauto

/-- The tail takes a value, and RECIPE follows (R177, R511). -/
def moveRecipeTail (s : State) (v : Nat) : State := (s.setOd K.recipeTail v).recipeLevel

theorem moveRecipeTail_frame (s : State) (v : Nat) : s.sameBut [.od, .bell] (s.moveRecipeTail v) :=
  ((setOd_evolves s _ _).frame.mono rfl).step (recipeLevel_evolves _).frame rfl

theorem odv_moveRecipeTail (s : State) (v k : Nat) : (s.moveRecipeTail v).odv k = if k = K.recipeTail then v else s.odv k :=
  ((recipeLevel_evolves _).frame.odv (by decide) k).trans (odv_setOd ..)

theorem mem_level_moveRecipeTail (s : State) (v n : Nat) : n ∈ (s.moveRecipeTail v).bell.level ↔
    (n = Bell.recipe ∧ s.odv K.recipeHead ≠ v) ∨ (n ≠ Bell.recipe ∧ n ∈ s.bell.level) := by
  rw [moveRecipeTail, mem_level_recipeLevel, odv_setOd_self, odv_setOd_other s v (by decide : K.recipeHead ≠ K.recipeTail), setOd_bell]

/-- An accepted write of RECIPE_RING_TAIL moves the tail, and is answered (R177). -/
theorem recipeRingTail_eq {s : State} {w : Way} {data : List Byte} (h : s.WriteOk w 0x0501B 0 data) :
    (s.onWay w fun t => t.odWriteObj w 0x0501B 0 data) = (s.moveRecipeTail (ofBytes data)).respond w [] 0 [] := by
  obtain ⟨o, ho, hacc⟩ : ∃ o, objInfo 0x0501B 0 = some o ∧ (o.acc == .rws) = false := by decide +kernel
  have hkey : okey 0x0501B 0 = K.recipeTail := rfl
  rw [write_effect h (by decide)]
  unfold odEffect
  rw [demand_ok h, hkey]
  simp [ho, hacc, show K.recipeTail ≠ K.clkEnable by decide, moveRecipeTail]

end Sys2Proof.Machine.State

namespace Sys2Proof.Proofs

open Sys2Proof Sys2Proof.Machine

/-- Settles O37: an accepted write moves the tail, which sets the source by tail and head alone (mem_level_moveRecipeTail), and
its answer touches neither objects nor sources. -/
theorem recipeTailFreesSlots : Obligations.RecipeTailFreesSlots := by
  intro w data s hw
  have hmove := s.moveRecipeTail_frame (ofBytes data)
  have hanswer := (s.moveRecipeTail (ofBytes data)).respond_done_frame w
  have hodv := fun k => (hanswer.odv (by decide) k).trans (s.odv_moveRecipeTail (ofBytes data) k)
  have hbell : ((s.moveRecipeTail (ofBytes data)).respond w [] 0 []).bell = (s.moveRecipeTail (ofBytes data)).bell :=
    hanswer .bell (by decide)
  refine ⟨_, congrArg Host.Outcome.next (State.recipeRingTail_eq hw), ?tail, ?others, fun n => ?sources,
    State.served_respond (hmove .sent (by decide)) (hmove .meter (by decide)), (hmove.mono rfl).step hanswer rfl⟩
  case tail => rw [hodv, if_pos rfl]
  case others =>
    intro k hk
    rw [hodv, if_neg (by simpa using hk)]
  case sources =>
    rw [hbell]
    exact s.mem_level_moveRecipeTail (ofBytes data) n

end Sys2Proof.Proofs

/-! SUPPORT. The notification pending bits (R223). -/

namespace Sys2Proof.Machine.State

/-- Clearing a pending bit is no more than its source going low. -/
theorem notifyAck_of_lt {n : Nat} (h : n < 256) (s : State) : s.notifyAck n = s.lower n := if_pos h

/-- An accepted write of LETTERBOX_NOTIFY_ACK lowers the source, and is answered (R223). -/
theorem notifyAckWrite_eq {s : State} {w : Way} {data : List Byte} (h : s.WriteOk w 0x04032 0 data) (hn : ofBytes data < 256) :
    (s.onWay w fun t => t.odWriteObj w 0x04032 0 data) = (s.lower (ofBytes data)).respond w [] 0 [] := by
  obtain ⟨o, ho, hacc⟩ : ∃ o, objInfo 0x04032 0 = some o ∧ (o.acc == .rws) = false := by decide +kernel
  rw [write_effect h (by decide)]
  unfold odEffect
  rw [demand_ok h]
  simp [ho, hacc, show okey 0x04032 0 ≠ K.clkEnable by decide, notifyAck_of_lt hn]

end Sys2Proof.Machine.State

namespace Sys2Proof.Proofs

open Sys2Proof Sys2Proof.Machine

/-- Settles O11: by BAR0 the source goes low at once (mem_level_lower); by the mailbox the write's effect is the same, and its
answer touches no source (notifyAckWrite_eq). -/
theorem notifyAckClears : Obligations.NotifyAckClears := by
  intro n s hn ha
  have hlower : s.sameBut [.bell] (s.lower n) := (State.lower_evolves s n).frame
  refine ⟨⟨s.lower n, ?bar, hlower, s.mem_level_lower n⟩, fun hon hform hclock hvalue => ?mailbox⟩
  case bar =>
    have hlb : s.lbOn = true := ha.enabled (b := 4) (by simp)
    simp only [exec, execLetterboxNotifyAck, hlb, if_true, Nat.mod_eq_of_lt hn, State.demand_awake ha fun _ hb => hb,
      State.notifyAck_of_lt hn]
  case mailbox =>
    have hbytes : ofBytes (leBytes 1 n) = n := ofBytes_leBytes 1 n (by simpa using hn)
    have hw : s.WriteOk .mailbox 0x04032 0 (leBytes 1 n) :=
      ⟨hon, hform, hclock, fun h => absurd h (by decide +kernel), fun _ => by decide +kernel, by rwa [hbytes], .inr ha⟩
    have hanswer := (s.lower n).respond_done_frame .mailbox
    have hserved := State.served_respond (w := .mailbox) (hlower .sent (by decide)) (hlower .meter (by decide))
    refine ⟨(s.lower n).respond .mailbox [] 0 [], ?_, (hlower.mono rfl).step hanswer rfl, fun m => ?_, hserved.1, hserved.2⟩
    · have heq := State.notifyAckWrite_eq hw (by rwa [hbytes])
      rw [hbytes] at heq
      exact congrArg Host.Outcome.next heq
    · have hbell : ((s.lower n).respond .mailbox [] 0 []).bell = (s.lower n).bell := hanswer .bell (by decide)
      rw [hbell]
      exact s.mem_level_lower n m

end Sys2Proof.Proofs

/-! SUPPORT. A word made of fields side by side, and the main part of a completion record as such a word (R221). -/

namespace Sys2Proof.Machine

/-- Fields side by side, the lowest first, by their widths and their values, each cut to its width. -/
def packed : List Nat → List Nat → Nat
  | w :: ws, v :: vs => v % 2 ^ w + 2 ^ w * packed ws vs
  | _, _ => 0

theorem packed_lt (ws vs : List Nat) : packed ws vs < 2 ^ ws.sum := by
  induction ws generalizing vs with
  | nil => exact Nat.one_pos
  | cons w ws ih =>
    cases vs with
    | nil => exact Nat.two_pow_pos _
    | cons v vs =>
      have hv := Nat.mod_lt v (Nat.two_pow_pos w)
      calc packed (w :: ws) (v :: vs) < 2 ^ w * (packed ws vs + 1) := by rw [packed, Nat.mul_succ]; omega
        _ ≤ 2 ^ w * 2 ^ ws.sum := Nat.mul_le_mul_left _ (ih vs)
        _ = 2 ^ (w :: ws).sum := by rw [List.sum_cons, pow_add]

/-- Each field reads back, at the place where the fields before it end. -/
theorem bits_packed {ws vs : List Nat} {n w v : Nat} (hw : ws[n]? = some w) (hv : vs[n]? = some v) :
    bits (packed ws vs) (ws.take n).sum w = v % 2 ^ w := by
  induction ws generalizing vs n with
  | nil => simp at hw
  | cons x ws ih =>
    cases vs with
    | nil => simp at hv
    | cons y vs =>
      cases n with
      | zero =>
        obtain rfl : x = w := by simpa using hw
        obtain rfl : y = v := by simpa using hv
        simp [bits, packed]
      | succ n =>
        have hdiv : packed (x :: ws) (y :: vs) / 2 ^ x = packed ws vs := by
          rw [packed, Nat.add_mul_div_left _ _ (Nat.two_pow_pos _), Nat.div_eq_of_lt (Nat.mod_lt _ (Nat.two_pow_pos _)), Nat.zero_add]
        rw [bits, List.take_succ_cons, List.sum_cons, pow_add, ← Nat.div_div_eq_div_mul, hdiv]
        exact ih (by simpa using hw) (by simpa using hv)

theorem bit_eq_bits (v i : Nat) : bit v i = (bits v i 1 == 1) := rfl

/-- A field of one bit reads back. -/
theorem bit_packed {ws vs : List Nat} {n : Nat} {b : Bool} (hw : ws[n]? = some 1) (hv : vs[n]? = some b.toNat) :
    bit (packed ws vs) (ws.take n).sum = b := by
  rw [bit_eq_bits, bits_packed hw hv]
  cases b <;> rfl

/-- The widths of the fields of a completion record's main part (R221). -/
def recordWidths : List Nat := [32, 20, 1, 3, 8, 1, 1, 1, 1, 1, 1, 1, 1, 1, 1, 1, 21, 32, 64, 64]

/-- Their values (R221). -/
def FinRec.fields (f : FinRec) (c : QCtx) (tick : Nat) : List Nat :=
  [f.seq, f.queue, (bit f.seq c.ringLog2).toNat, f.replays, f.error, (f.replays != 0).toNat, (f.part.elim false (·.recipe)).toNat,
    (f.part.elim false (·.oprange)).toNat, f.window.toNat, f.longsum.toNat, f.late.toNat, (f.part.elim false (·.poisonBit)).toNat,
    (f.part.elim false (·.nonfinite)).toNat, (f.part.elim false (·.saturated)).toNat, (f.part.elim false (·.histStale)).toNat,
    f.merged.toNat, 0, min (tick - f.dispatchTick) (2 ^ 32 - 1), tick, f.userTag]

theorem ite_two_pow (b : Bool) (i : Nat) : (if b then 2 ^ i else 0) = b.toNat * 2 ^ i := by cases b <;> simp

theorem toNat_mod_two (b : Bool) : b.toNat % 2 = b.toNat := by cases b <;> rfl

/-- The main part of a record is its fields side by side. -/
theorem FinRec.mainWord_eq_packed (f : FinRec) (c : QCtx) (tick : Nat) (hseq : f.seq < 2 ^ 32) (hqueue : f.queue < 2 ^ 20)
    (htag : f.userTag < 2 ^ 64) : f.mainWord c tick = packed recordWidths (f.fields c tick) := by
  have hrun : min (tick - f.dispatchTick) (2 ^ 32 - 1) % 2 ^ 32 = min (tick - f.dispatchTick) (2 ^ 32 - 1) :=
    Nat.mod_eq_of_lt (by omega)
  simp only [mainWord, fields, recordWidths, packed, ite_two_pow, pow_one, toNat_mod_two, hrun, Nat.mod_eq_of_lt hseq, Nat.mod_eq_of_lt hqueue,
    Nat.mod_eq_of_lt htag]
  simp only [Nat.reducePow, Nat.zero_mod]
  ring

end Sys2Proof.Machine

namespace Sys2Proof.Proofs

open Sys2Proof Sys2Proof.Machine

/-- Settles O15: the record is its fields side by side (FinRec.mainWord_eq_packed), and each field of such a word reads back at
the place where those before it end (bits_packed). -/
theorem recordHoldsItsFields : Obligations.RecordHoldsItsFields := by
  intro f c tick hseq hqueue herror htag htick w
  have hw : w = packed recordWidths (f.fields c tick) := f.mainWord_eq_packed c tick hseq hqueue htag
  have hbits : ∀ n k v, recordWidths[n]? = some k → (f.fields c tick)[n]? = some v → bits w (recordWidths.take n).sum k = v % 2 ^ k :=
    fun n k v h h' => hw ▸ bits_packed h h'
  have hbit : ∀ n b, recordWidths[n]? = some 1 → (f.fields c tick)[n]? = some b.toNat → bit w (recordWidths.take n).sum = b :=
    fun n b h h' => hw ▸ bit_packed h h'
  have hlt : w < 2 ^ 256 := hw ▸ packed_lt recordWidths _
  clear_value w
  refine ⟨hlt, ?_, ?_, hbit 2 _ rfl rfl, hbits 3 _ _ rfl rfl, ?_, hbit 5 _ rfl rfl, hbit 6 _ rfl rfl, hbit 7 _ rfl rfl, hbit 8 _ rfl rfl,
    hbit 9 _ rfl rfl, hbit 10 _ rfl rfl, hbit 11 _ rfl rfl, hbit 12 _ rfl rfl, hbit 13 _ rfl rfl, hbit 14 _ rfl rfl, hbit 15 _ rfl rfl, hbits 16 _ _ rfl rfl, ?_, ?_, ?_⟩
  · exact (hbits 0 _ _ rfl rfl).trans (Nat.mod_eq_of_lt hseq)
  · exact (hbits 1 _ _ rfl rfl).trans (Nat.mod_eq_of_lt hqueue)
  · exact (hbits 4 _ _ rfl rfl).trans (Nat.mod_eq_of_lt herror)
  · exact (hbits 17 _ _ rfl rfl).trans (Nat.mod_eq_of_lt (by omega))
  · exact (hbits 18 _ _ rfl rfl).trans (Nat.mod_eq_of_lt htick)
  · exact (hbits 19 _ _ rfl rfl).trans (Nat.mod_eq_of_lt htag)

end Sys2Proof.Proofs

/-! SUPPORT. Look-ups of queue contexts (R209, R226), doorbells (R213) and the queue commands (R211, R212). -/

namespace Sys2Proof.Machine

namespace State

/-! ### What is counted -/

theorem counted_of_meter {s t : State} (h : t.meter = s.meter) : s.counted [] t := fun u => by simp [ctr, h]

theorem counted.congr {s t s' t' : State} {l : List (Nat × Nat)} (h : s.counted l t) (hs : s'.meter = s.meter)
    (ht : t'.meter = t.meter) : s'.counted l t' := by
  simpa only [counted, ctr, hs, ht] using h

/-- Of two lists that name different units, a unit is in one at most. -/
theorem find_unit_none {l m : List (Nat × Nat)} (hd : ∀ x ∈ l, ∀ y ∈ m, x.1 ≠ y.1) {k : Nat} {x : Nat × Nat}
    (hx : l.find? (fun x => x.1 == k) = some x) : m.find? (fun x => x.1 == k) = none := by
  have hk : x.1 = k := by simpa using List.find?_some hx
  exact List.find?_eq_none.2 fun y hy => by simpa using fun e : y.1 = k => hd x (List.mem_of_find?_eq_some hx) y hy (hk.trans e.symm)

/-- Counts of different units, one after the other. -/
theorem counted.append {s t u : State} {l m : List (Nat × Nat)} (h : s.counted l t) (g : t.counted m u)
    (hd : ∀ x ∈ l, ∀ y ∈ m, x.1 ≠ y.1) : s.counted (l ++ m) u := by
  intro k
  have hk := h k
  rw [g k, List.find?_append]
  cases hl : l.find? (fun x => x.1 == k) with
  | none =>
    rw [hl] at hk
    simp only [Option.none_or, hk]
  | some x =>
    rw [hl] at hk
    simp only [find_unit_none hd hl, Option.some_or, hk]

/-- Which of two lists of different units comes first does not matter. -/
theorem counted.comm {s t : State} {l m : List (Nat × Nat)} (h : s.counted (l ++ m) t) (hd : ∀ x ∈ l, ∀ y ∈ m, x.1 ≠ y.1) :
    s.counted (m ++ l) t := by
  intro k
  rw [h k, List.find?_append, List.find?_append]
  cases hl : l.find? (fun x => x.1 == k) with
  | none => simp only [Option.none_or, Option.or_none]
  | some x => simp only [find_unit_none hd hl, Option.none_or, Option.some_or]

theorem mem_misses {s : State} {q : Nat} {x : Nat × Nat} (h : x ∈ s.misses q) : x.1 = Ctr.lbCtxMiss := by
  unfold misses at h
  split at h <;> simp_all

/-! ### The cache -/

/-- The cache holds other contexts, of which one may have been written to the Attic. -/
def recached (s : State) (m : Mem) (l : List Nat) : State := { s with attic := m, lb := { s.lb with cached := l } }

theorem recached_frame (s : State) (m : Mem) (l : List Nat) : s.sameBut [.attic, .lb] (s.recached m l) :=
  fun f hf => by cases f <;> simp_all [agree, recached]

theorem writeBack_eq (s : State) (c : QCtx) (k : Nat) :
    s.writeBack c k = { s with attic := s.attic.writeNat (s.ctxAddr c.q) 64 (c.word k) } := rfl

/-- A context put in the cache drives out at most one other, which is written to the Attic; with room it drives out none. -/
theorem cacheCtx_eq (s : State) (q : Nat) : ∃ m l, s.cacheCtx q = s.recached m l ∧ (s.cacheRoom q → m = s.attic) := by
  by_cases hc : q ∈ s.lb.cached
  · exact ⟨s.attic, _, by rw [cacheCtx, if_pos (by simpa using hc)]; rfl, fun _ => rfl⟩
  · rw [cacheCtx, if_neg (by simpa using hc)]
    cases hlast : (q :: s.lb.cached)[4096]? with
    | none => exact ⟨s.attic, _, by simp only [hlast]; rfl, fun _ => rfl⟩
    | some v =>
      have hfull : ¬s.cacheRoom q := fun h => by
        have hlen : s.lb.cached.length < 4096 := h.resolve_left hc
        simp [List.getElem?_eq_none (show (q :: s.lb.cached).length ≤ 4096 by simp; omega)] at hlast
      cases hv : s.queue? v with
      | none => exact ⟨s.attic, _, by simp only [hlast, hv]; rfl, fun h => absurd h hfull⟩
      | some c => exact ⟨_, _, by simp only [hlast, hv, writeBack_eq]; rfl, fun h => absurd h hfull⟩

/-- A look-up leaves every queue as it is, and counts a context that was not cached (R226). -/
theorem touchCtx_spec (s : State) (q : Nat) : s.sameBut [.attic, .meter, .lb] (s.touchCtx q) ∧ s.lbSame (s.touchCtx q) ∧
    s.counted (s.misses q) (s.touchCtx q) := by
  by_cases hc : q ∈ s.lb.cached
  · obtain ⟨m, l, e, -⟩ := s.cacheCtx_eq q
    rw [touchCtx, if_pos (by simpa using hc), e, misses, if_pos hc]
    exact ⟨(s.recached_frame m l).mono rfl, rfl, counted_of_meter rfl⟩
  · rw [touchCtx, if_neg (by simpa using hc), misses, if_neg hc]
    have hcount : s.sameBut [.attic, .meter, .lb] (s.count Ctr.lbCtxMiss 1) := sameBut.mono (count_evolves s _ _).frame rfl
    dsimp only
    split
    · obtain ⟨m, l, e, -⟩ := (s.count Ctr.lbCtxMiss 1).cacheCtx_eq q
      rw [e]
      exact ⟨hcount.step (recached_frame _ m l) rfl, rfl, (counted_one s Ctr.lbCtxMiss 1).congr rfl rfl⟩
    · exact ⟨hcount, rfl, counted_one s Ctr.lbCtxMiss 1⟩

theorem lbSame.queue {s t : State} (h : s.lbSame t) (j : Nat) : t.queue? j = s.queue? j := by
  rw [queue?, h]; rfl

theorem lbSame.queueCore {s t : State} (h : s.lbSame t) (j : Nat) : t.queueCore j = s.queueCore j :=
  congrArg (Option.map QCtx.core) (h.queue j)

theorem sameBut.queue {fs : List Fld} {s t : State} (h : s.sameBut fs t) (hf : Fld.lb ∉ fs) (j : Nat) : t.queue? j = s.queue? j := by
  have e : t.lb = s.lb := h .lb hf
  rw [queue?, queue?, e]

theorem sameBut.queueCore {fs : List Fld} {s t : State} (h : s.sameBut fs t) (hf : Fld.lb ∉ fs) (j : Nat) :
    t.queueCore j = s.queueCore j := congrArg (Option.map QCtx.core) (h.queue hf j)

/-- What commands that the Letterbox takes while it is clocked come down to. -/
theorem letterbox_awake {s : State} (h : s.awake [4]) (f : State → State) : (if s.lbOn then f (s.demand [4]) else s) = f s := by
  rw [if_pos (show s.lbOn = true from h.enabled (b := 4) (by simp)), demand_awake h fun _ hb => hb]

/-- A queue changed, looked up, and the ready times noted anew. -/
def retouch (s : State) (c : QCtx) : State := (s.setQueue c).touchCtx c.q

theorem retouch_spec {s : State} {q : Nat} {c d : QCtx} (hq : s.queue? q = some c) (hd : d.q = q) :
    (∀ j, (s.retouch d).queue? j = if j = q then some d else s.queue? j) ∧ s.sameBut [.attic, .meter, .lb] (s.retouch d) ∧
      s.counted (s.misses q) (s.retouch d) ∧ (s.cacheRoom q → s.sameBut [.meter, .lb] (s.retouch d)) := by
  obtain ⟨hf, hlb, hc⟩ := (s.setQueue d).touchCtx_spec d.q
  have hset : s.sameBut [.lb] (s.setQueue d) := (setQueue_evolves s d).frame
  subst hd
  exact ⟨fun j => (hlb.queue j).trans (queue_setQueue hq rfl j), (hset.mono rfl).step hf rfl, hc.congr rfl rfl,
    fun hroom => (hset.mono rfl).step (touchCtx_of_cacheRoom (s := s.setQueue d) hroom).1 rfl⟩

/-- A queue by its core, where it was changed and elsewhere. -/
theorem queueCore_of_queue {s t : State} {q : Nat} {d : QCtx} (h : ∀ j, t.queue? j = if j = q then some d else s.queue? j) :
    t.queueCore q = some d.core ∧ ∀ j, j ≠ q → t.queueCore j = s.queueCore j :=
  ⟨by rw [queueCore, h, if_pos rfl]; rfl, fun j hj => by rw [queueCore, queueCore, h, if_neg hj]⟩

theorem settle_frame (s : State) : s.sameBut [.lb] s.settle := (settle_evolves s).frame

/-- A change of a queue that is looked up, with the ready times noted anew. -/
theorem retouch_settle_spec {s : State} {q : Nat} {c d : QCtx} (hq : s.queue? q = some c) (hd : d.q = q) :
    (s.retouch d).settle.queueCore q = some d.core ∧ (∀ j, j ≠ q → (s.retouch d).settle.queueCore j = s.queueCore j) ∧
      s.sameBut [.attic, .meter, .lb] (s.retouch d).settle ∧ s.counted (s.misses q) (s.retouch d).settle ∧
      (s.cacheRoom q → s.sameBut [.meter, .lb] (s.retouch d).settle) := by
  obtain ⟨hqueue, hf, hc, hroom⟩ := retouch_spec hq hd
  obtain ⟨hself, hother⟩ := queueCore_of_queue hqueue
  have hs := (s.retouch d).settle_frame
  exact ⟨(queueCore_settle _ q).trans hself, fun j hj => (queueCore_settle _ j).trans (hother j hj), hf.step hs rfl,
    hc.congr rfl (settle_frame _ .meter (by decide)), fun h => (hroom h).step hs rfl⟩

/-! ### Doorbells -/

/-- A doorbell that is accepted moves the tail, as any change of a queue. -/
theorem doorbell_accepted {s : State} {data q t : Nat} {c : QCtx} (hq : bits data 0 20 = q) (ht : bits data 20 32 = t)
    (hc : s.queue? q = some c) (ha : c.accepts t = true) : s.doorbell data = (s.retouch { c with tail := t }).settle := by
  subst hq ht
  have hcq : c.q = bits data 0 20 := queue_q hc
  simp only [doorbell, hc, ha, if_true, retouch, hcq]

/-- A doorbell that is not accepted is counted and raises its source; the look-up changes no queue. -/
theorem doorbell_refused {s : State} {data q t : Nat} (hq : bits data 0 20 = q) (ht : bits data 20 32 = t)
    (hbad : ∀ c, s.queue? q = some c → c.accepts t = false) :
    s.sameBut [.attic, .meter, .lb, .bell] (s.doorbell data) ∧ (s.cacheRoom q → s.sameBut [.meter, .lb, .bell] (s.doorbell data)) ∧
      s.lbSame (s.doorbell data) ∧ s.counted (s.misses q ++ [(Ctr.lbDoorbellBad, 1)]) (s.doorbell data) ∧
      ∀ n, n ∈ (s.doorbell data).bell.level ↔ n = Bell.doorbellBad ∨ n ∈ s.bell.level := by
  subst hq ht
  have hdisj : ∀ x ∈ s.misses (bits data 0 20), ∀ y ∈ [(Ctr.lbDoorbellBad, 1)], x.1 ≠ y.1 := by
    intro x hx y hy
    rw [mem_misses hx, List.mem_singleton.1 hy]
    decide
  cases hc : s.queue? (bits data 0 20) with
  | none =>
    have e : s.doorbell data = ((s.touchCtx (bits data 0 20)).count Ctr.lbDoorbellBad 1).raise Bell.doorbellBad := by
      simp only [doorbell, hc]
    obtain ⟨hf, hlb, hcount⟩ := s.touchCtx_spec (bits data 0 20)
    have hlast : (s.touchCtx (bits data 0 20)).sameBut [.meter, .bell] (s.doorbell data) := by
      rw [e]
      exact (sameBut.mono (count_evolves _ _ _).frame rfl).step (raise_evolves _ _).frame rfl
    have hlb' : (s.doorbell data).lb = (s.touchCtx (bits data 0 20)).lb := hlast .lb (by decide)
    refine ⟨(hf.mono rfl).step hlast rfl, fun hroom => ((touchCtx_of_cacheRoom hroom).1.mono rfl).step hlast rfl,
      by rw [lbSame, hlb']; exact hlb, ?_, fun n => ?_⟩
    · exact (hcount.append (counted_one _ _ _) hdisj).congr rfl (by rw [e, raise_meter])
    · have hbell : (s.touchCtx (bits data 0 20)).bell = s.bell := hf .bell (by decide)
      rw [e, mem_level_raise, count_bell, hbell]
  | some c =>
    have e : s.doorbell data = ((s.count Ctr.lbDoorbellBad 1).raise Bell.doorbellBad).touchCtx (bits data 0 20) := by
      simp only [doorbell, hc, hbad c hc, Bool.false_eq_true, if_false]
    generalize hu : (s.count Ctr.lbDoorbellBad 1).raise Bell.doorbellBad = u at e
    have hfirst : s.sameBut [.meter, .bell] u := by
      rw [← hu]
      exact (sameBut.mono (count_evolves _ _ _).frame rfl).step (raise_evolves _ _).frame rfl
    have hulb : u.lb = s.lb := hfirst .lb (by decide)
    obtain ⟨hf, hlb, hcount⟩ := u.touchCtx_spec (bits data 0 20)
    have hmiss : u.misses (bits data 0 20) = s.misses (bits data 0 20) := by rw [misses, misses, hulb]
    refine ⟨e ▸ (hfirst.mono rfl).step hf rfl, fun hroom => ?_, ?_, ?_, fun n => ?_⟩
    · have hroom' : u.cacheRoom (bits data 0 20) := by rwa [cacheRoom, hulb]
      exact e ▸ (hfirst.mono rfl).step (touchCtx_of_cacheRoom hroom').1 rfl
    · rw [lbSame, e, ← hulb]
      exact hlb
    · have hbadCount : s.counted [(Ctr.lbDoorbellBad, 1)] u := (counted_one s _ _).congr rfl (by rw [← hu, raise_meter])
      have hdisj' := fun x hx y hy => (hdisj y hy x hx).symm
      exact e ▸ (hbadCount.append (hmiss ▸ hcount) hdisj').comm hdisj'
    · have hbell : (u.touchCtx (bits data 0 20)).bell = u.bell := hf .bell (by decide)
      rw [e, hbell, ← hu, mem_level_raise, count_bell]

end State

end Sys2Proof.Machine

namespace Sys2Proof.Proofs

open Sys2Proof Sys2Proof.Machine

theorem accepts_iff (c : QCtx) (t : Nat) : c.accepts t = true ↔ c.ctxError = false ∧
    (t + 2 ^ 32 - c.tail % 2 ^ 32) % 2 ^ 32 ≤ 2 ^ c.ringLog2 ∧ (t + 2 ^ 32 - c.done % 2 ^ 32) % 2 ^ 32 ≤ 2 ^ c.ringLog2 := by
  simp only [QCtx.accepts, Bool.and_eq_true, Bool.not_eq_true', decide_eq_true_eq, and_assoc]
  rfl

/-- Settles O7: an accepted doorbell changes its queue and looks it up (doorbell_accepted, retouch_settle_spec); of any other no
queue sees more than the look-up (doorbell_refused). -/
theorem doorbellPublishes : Obligations.DoorbellPublishes := by
  intro data s ha
  refine ⟨s.doorbell (data % 2 ^ 64), congrArg Host.Outcome.next (State.letterbox_awake ha (State.doorbell · (data % 2 ^ 64))), ?_⟩
  beta_reduce
  intro q T
  have hq : bits (data % 2 ^ 64) 0 20 = q := by simp only [bits, q]; omega
  have hT : bits (data % 2 ^ 64) 20 32 = T := by simp only [bits, T]; omega
  by_cases h : ∃ c, s.queue? q = some c ∧ c.accepts T = true
  · obtain ⟨c, hc, hok⟩ := h
    obtain ⟨hself, hother, hf, hcount, hroom⟩ := State.retouch_settle_spec (d := { c with tail := T }) hc
      (show c.q = q from State.queue_q hc)
    obtain ⟨herr, htail, hdone⟩ := (accepts_iff c T).1 hok
    rw [State.doorbell_accepted hq hT hc hok]
    exact ⟨fun h => (hroom h).mono rfl, hf.mono rfl, hother, .inl ⟨c, hc, herr, htail, hdone, hself, hf .bell (by decide), hcount⟩⟩
  · have hbad : ∀ c, s.queue? q = some c → c.accepts T = false := fun c hc => by simpa using fun hok => h ⟨c, hc, hok⟩
    obtain ⟨hf, hroom, hlb, hcount, hbell⟩ := State.doorbell_refused hq hT hbad
    refine ⟨fun h => (hroom h).mono rfl, hf.mono rfl, fun j _ => hlb.queueCore j, .inr ⟨fun c hc => ?_, hlb, hcount, hbell⟩⟩
    have hnot := mt (accepts_iff c T).2 (by simp [hbad c hc])
    by_contra hgood
    simp only [not_or, Bool.not_eq_true, not_lt] at hgood
    exact hnot hgood

end Sys2Proof.Proofs

/-! SUPPORT. ENABLE (R211, R212): a context loaded from the Attic. -/

namespace Sys2Proof.Machine

theorem QCtx.faulty_iff (c : QCtx) : c.faulty = true ↔ c.ringLog2 < 4 ∨ 20 < c.ringLog2 ∨ 5 ≤ c.kind ∨ c.ringSpace = .cellar ∨
    c.crSpace = .cellar ∨ (c.cntBase ≠ 0 ∧ c.cntSpace = .cellar) ∨ c.ringBase % 128 ≠ 0 ∨ c.crBase % 32 ≠ 0 ∨ c.cntBase % 128 ≠ 0 ∨
    c.head ≠ c.done ∨ 2 ^ c.ringLog2 < (c.tail + 2 ^ 32 - c.head % 2 ^ 32) % 2 ^ 32 := by
  simp only [QCtx.faulty, Bool.or_eq_true, Bool.and_eq_true, decide_eq_true_eq, beq_iff_eq, bne_iff_ne, or_assoc]
  rfl

/-- A queue refused at its ENABLE (R212). -/
def QCtx.refused (c : QCtx) : QCtx := { c with st := .halted, lastError := Err.context, ctxError := true }

namespace State

/-- A queue comes to the loaded ones, and into the cache. -/
def loaded (s : State) (c : QCtx) : State := { s with lb := { s.lb with queues := s.lb.queues ++ [c] } }.cacheCtx c.q

theorem loaded_spec {s : State} {c : QCtx} (hc : s.queue? c.q = none) :
    (∀ j, (s.loaded c).queue? j = if j = c.q then some c else s.queue? j) ∧ s.sameBut [.attic, .lb] (s.loaded c) ∧
      (s.cacheRoom c.q → s.sameBut [.lb] (s.loaded c)) := by
  obtain ⟨m, l, e, hroom⟩ := cacheCtx_eq { s with lb := { s.lb with queues := s.lb.queues ++ [c] } } c.q
  have hadd : s.sameBut [.lb] { s with lb := { s.lb with queues := s.lb.queues ++ [c] } } := setLb_sameBut s _
  refine ⟨fun j => ?_, ?_, fun h => ?_⟩
  · have hfind : (s.loaded c).queue? j = (s.lb.queues ++ [c]).find? fun d => d.q == j := by rw [loaded, e]; rfl
    rw [hfind, List.find?_append]
    split
    · next h => rw [h, show s.lb.queues.find? (fun d => d.q == c.q) = none from hc]; simp
    · next h => simp [show (c.q == j) = false by simpa using fun e => h e.symm, queue?]
  · rw [loaded, e]
    exact (hadd.mono rfl).step (recached_frame _ m l) rfl
  · have hm := hroom h
    rw [loaded, e, hm]
    exact fun f hf => by cases f <;> simp_all [agree, recached]

/-- ENABLE of a queue that is not enabled loads it as it stands in the Attic, refused or READY (R212). -/
theorem enableQueue_eq {s : State} {q : Nat} (hq : s.queue? q = none) : s.enableQueue q =
    if (parseCtx q (s.ctxWord q) .ready).faulty || s.poisonedAt .attic (s.ctxAddr q) 64 then
      (s.loaded (parseCtx q (s.ctxWord q) .ready).refused).raise Bell.lbError
    else (s.loaded (parseCtx q (s.ctxWord q) .ready)).settle := by
  simp only [enableQueue, hq]
  rfl

end State

end Sys2Proof.Machine

namespace Sys2Proof.Proofs

open Sys2Proof Sys2Proof.Machine

/-- Settles O8: a queue that is enabled is left alone; any other is loaded (State.loaded_spec), refused where its context is faulty
(QCtx.faulty_iff) or poisoned, and READY otherwise (State.enableQueue_eq). -/
theorem enableLoadsContext : Obligations.EnableLoadsContext := by
  intro q s ha
  refine ⟨s.enableQueue q, congrArg Host.Outcome.next (State.letterbox_awake ha (State.enableQueue · q)), ?_⟩
  beta_reduce
  cases hq : s.queue? q with
  | some c =>
    have e : s.enableQueue q = s.count Ctr.lbCmdIgnored 1 := by simp only [State.enableQueue, hq]; rfl
    have hf := (State.count_evolves s Ctr.lbCmdIgnored 1).frame
    rw [e]
    exact ⟨fun _ => hf.mono rfl, hf.mono rfl, fun _ _ => rfl, fun _ _ => ⟨rfl, rfl, State.counted_one s _ _⟩, nofun⟩
  | none =>
    have heq := State.enableQueue_eq hq
    generalize hc : parseCtx q (s.ctxWord q) .ready = c at heq ⊢
    obtain rfl : c.q = q := by rw [← hc]; rfl
    have hlast := (s.loaded c.refused).raise_evolves Bell.lbError |>.frame
    have hsettle := (s.loaded c).settle_frame
    obtain ⟨hqueue, hf, hroom⟩ := State.loaded_spec (c := c) hq
    obtain ⟨hqueue', hf', hroom'⟩ := State.loaded_spec (c := c.refused) hq
    by_cases hbad : (c.faulty || s.poisonedAt .attic (s.ctxAddr c.q) 64) = true
    · rw [if_pos hbad] at heq
      rw [heq]
      obtain ⟨hself, hother⟩ := State.queueCore_of_queue hqueue'
      have hlb := hlast.queueCore (by decide)
      refine ⟨fun h => ((hroom' h).mono rfl).step hlast rfl, (hf'.mono rfl).step hlast rfl, fun j hj => (hlb j).trans (hother j hj),
        nofun, fun _ => ⟨?meter, fun _ => ⟨(hlb c.q).trans hself, fun n => ?_⟩, fun hgood => absurd ?_ hgood⟩⟩
      case meter => rw [State.raise_meter]; exact hf' .meter (by decide)
      · have hbell : (s.loaded c.refused).bell = s.bell := hf' .bell (by decide)
        rw [State.mem_level_raise, hbell]
      · rw [Bool.or_eq_true, QCtx.faulty_iff] at hbad
        simpa only [or_assoc] using hbad
    · rw [if_neg hbad] at heq
      rw [heq]
      obtain ⟨hself, hother⟩ := State.queueCore_of_queue hqueue
      have hcore := State.queueCore_settle (s.loaded c)
      refine ⟨fun h => ((hroom h).mono rfl).step hsettle rfl, (hf.mono rfl).step hsettle rfl, fun j hj => (hcore j).trans (hother j hj),
        nofun, fun _ => ⟨?_, fun hb => absurd ?_ hbad, fun _ => ⟨(hcore c.q).trans hself, ?_⟩⟩⟩
      · exact (hsettle .meter (by decide)).trans (hf .meter (by decide))
      · rw [Bool.or_eq_true, QCtx.faulty_iff]
        simpa only [or_assoc] using hb
      · exact (hsettle .bell (by decide)).trans (hf .bell (by decide))

end Sys2Proof.Proofs

/-! SUPPORT. A context written back (R210): fields put over the bits of a number, and what the Attic then holds. -/

namespace Sys2Proof.Machine

/-- A field of a number replaced. -/
def putBits (v lo w x : Nat) : Nat := v - bits v lo w * 2 ^ lo + x % 2 ^ w * 2 ^ lo

theorem putBits_eq (v lo w x : Nat) :
    putBits v lo w x = 2 ^ lo * (2 ^ w * (v / 2 ^ (lo + w)) + x % 2 ^ w) + v % 2 ^ lo := by
  have hlow := Nat.div_add_mod v (2 ^ lo)
  have hhigh := Nat.div_add_mod (v / 2 ^ lo) (2 ^ w)
  rw [Nat.div_div_eq_div_mul, ← pow_add] at hhigh
  have hv : 2 ^ lo * (2 ^ w * (v / 2 ^ (lo + w))) + 2 ^ lo * bits v lo w + v % 2 ^ lo = v := by
    rw [← Nat.mul_add, bits, hhigh, hlow]
  rw [putBits, Nat.mul_add, Nat.mul_comm (x % 2 ^ w), Nat.mul_comm (bits v lo w)]
  omega

theorem testBit_putBits (v lo w x i : Nat) :
    (putBits v lo w x).testBit i = if lo ≤ i ∧ i < lo + w then x.testBit (i - lo) else v.testBit i := by
  rw [putBits_eq, Nat.testBit_two_pow_mul_add _ (Nat.mod_lt _ (Nat.two_pow_pos lo)),
    Nat.testBit_two_pow_mul_add _ (Nat.mod_lt _ (Nat.two_pow_pos w)), Nat.testBit_mod_two_pow, Nat.testBit_mod_two_pow,
    Nat.testBit_div_two_pow]
  by_cases h1 : i < lo
  · rw [if_pos h1, if_neg (by omega)]
    simp [h1]
  · by_cases h2 : i < lo + w
    · rw [if_neg h1, if_pos (by omega), if_pos ⟨by omega, h2⟩]
      simp [show i - lo < w by omega]
    · rw [if_neg h1, if_neg (by omega), if_neg (by omega)]
      congr 1
      omega

theorem testBit_bits (v lo w i : Nat) : (bits v lo w).testBit i = (decide (i < w) && v.testBit (lo + i)) := by
  rw [bits, Nat.testBit_mod_two_pow, Nat.testBit_div_two_pow, Nat.add_comm]

/-- The field that was put reads back. -/
theorem bits_putBits_self (v lo w x : Nat) : bits (putBits v lo w x) lo w = x % 2 ^ w := by
  refine Nat.eq_of_testBit_eq fun i => ?_
  rw [testBit_bits, testBit_putBits, Nat.testBit_mod_two_pow]
  by_cases h : i < w
  · rw [if_pos (by omega), show lo + i - lo = i by omega]
  · simp [h]

/-- Any field apart from it is as it was. -/
theorem bits_putBits_other (v x : Nat) {lo w lo' w' : Nat} (h : lo' + w' ≤ lo ∨ lo + w ≤ lo') :
    bits (putBits v lo w x) lo' w' = bits v lo' w' := by
  refine Nat.eq_of_testBit_eq fun i => ?_
  rw [testBit_bits, testBit_bits, testBit_putBits]
  by_cases hi : i < w'
  · rw [if_neg (by omega)]
  · simp [hi]

/-- A field within the first n bytes of a number is not touched where the number is cut to them. -/
theorem bits_mod_bytes (v : Nat) {lo w n : Nat} (h : lo + w ≤ 8 * n) : bits (v % 256 ^ n) lo w = bits v lo w := by
  have hn : 256 ^ n = 2 ^ (8 * n) := by rw [pow_mul]; rfl
  refine Nat.eq_of_testBit_eq fun i => ?_
  rw [testBit_bits, testBit_bits, hn, Nat.testBit_mod_two_pow]
  by_cases hi : i < w
  · simp [show lo + i < 8 * n by omega]
  · simp [hi]

theorem QCtx.word_eq (c : QCtx) (k : Nat) : c.word k = putBits (putBits (putBits (putBits (putBits (putBits (putBits (putBits c.raw
    61 3 k) 64 32 c.head) 96 32 c.tail) 128 32 c.done) 320 8 c.isa) 328 8 c.lastError) 336 32 c.errSeq) 368 32 c.late := rfl

/-- What a context written back holds: the fields the part writes, and the others as they were loaded (R210). -/
theorem QCtx.bits_word (c : QCtx) (k : Nat) :
    bits (c.word k) 0 61 = bits c.raw 0 61 ∧ bits (c.word k) 61 3 = k % 2 ^ 3 ∧ bits (c.word k) 64 32 = c.head % 2 ^ 32 ∧
      bits (c.word k) 96 32 = c.tail % 2 ^ 32 ∧ bits (c.word k) 128 32 = c.done % 2 ^ 32 ∧
      bits (c.word k) 160 160 = bits c.raw 160 160 ∧ bits (c.word k) 320 8 = c.isa % 2 ^ 8 ∧
      bits (c.word k) 328 8 = c.lastError % 2 ^ 8 ∧ bits (c.word k) 336 32 = c.errSeq % 2 ^ 32 ∧
      bits (c.word k) 368 32 = c.late % 2 ^ 32 ∧ bits (c.word k) 400 112 = bits c.raw 400 112 := by
  rw [word_eq]
  refine ⟨?_, ?_, ?_, ?_, ?_, ?_, ?_, ?_, ?_, ?_, ?_⟩ <;>
    simp (disch := omega) only [bits_putBits_self, bits_putBits_other]

theorem Mem.byte_writeNat_outside (m : Mem) {a b n : Nat} (v : Nat) (h : b < a ∨ a + n ≤ b) : (m.writeNat a n v).byte b = m.byte b :=
  byte_write_outside m a b (leBytes n v) (by rwa [leBytes_length])

namespace State

theorem mem_setAttic (s : State) (m : Mem) (sp : Space) :
    ({ s with attic := m } : State).mem sp = if sp = .attic then m else s.mem sp := by
  cases sp <;> rfl

theorem mem_writeBack (s : State) (c : QCtx) (k : Nat) (sp : Space) :
    (s.writeBack c k).mem sp = if sp = .attic then s.attic.writeNat (s.ctxAddr c.q) 64 (c.word k) else s.mem sp := by
  rw [writeBack_eq]
  exact mem_setAttic s _ sp

theorem writeBack_frame (s : State) (c : QCtx) (k : Nat) : s.sameBut [.attic] (s.writeBack c k) := by
  rw [writeBack_eq]
  exact fun f hf => by cases f <;> simp_all [agree]

/-- A context written back is what the Attic holds in its place, cut to 64 bytes. -/
theorem ctxWord_writeBack (s : State) (c : QCtx) (k : Nat) : (s.writeBack c k).ctxWord c.q = c.word k % 256 ^ 64 := by
  have haddr : (s.writeBack c k).ctxAddr c.q = s.ctxAddr c.q :=
    congrArg (· + 64 * c.q) ((s.writeBack_frame c k).odv (by decide) K.ctxBase)
  rw [ctxWord, rd, haddr, mem_writeBack, if_pos rfl, Mem.nat_writeNat]

/-- Writing a context back changes no byte outside its place. -/
theorem writeBack_bytesSame (s : State) (c : QCtx) (k : Nat) : s.bytesSame .attic (s.ctxAddr c.q) 64 (s.writeBack c k) := by
  intro sp a h
  rw [byteAt, byteAt, mem_writeBack]
  split
  · next hsp =>
    subst hsp
    exact Mem.byte_writeNat_outside s.attic _ (by simp only [true_and] at h; omega)
  · rfl

theorem queue_evict (s : State) (q j : Nat) : (s.evict q).queue? j = if j = q then none else s.queue? j := by
  have h : (s.evict q).queue? j = (s.lb.queues.filter fun d => d.q != q).find? fun d => d.q == j := rfl
  rw [h, List.find?_filter]
  split
  · next e =>
    subst e
    exact List.find?_eq_none.2 fun d _ => by simp
  · next e =>
    refine congrArg (fun p => s.lb.queues.find? p) (funext fun d => ?_)
    by_cases hd : d.q = j
    · simp [hd, e]
    · simp [hd]

/-- A queue leaves the Letterbox, and the ready times are noted anew. -/
theorem evict_settle_spec (s : State) (q : Nat) : (s.evict q).settle.queue? q = none ∧
    (∀ j, j ≠ q → (s.evict q).settle.queueCore j = s.queueCore j) ∧ s.sameBut [.lb] (s.evict q).settle := by
  refine ⟨?_, fun j hj => ?_, ((evict_evolves s q).frame.mono rfl).step (settle_frame _) rfl⟩
  · have h := queueCore_settle (s.evict q) q
    rw [queueCore, queueCore, queue_evict, if_pos rfl] at h
    exact Option.map_eq_none_iff.1 h
  · rw [queueCore_settle, queueCore, queue_evict, if_neg hj]; rfl

/-- A command that is ignored is counted. -/
theorem cmdIgnored_spec (s : State) : s.counted [(Ctr.lbCmdIgnored, 1)] s.cmdIgnored ∧ s.sameBut [.meter] s.cmdIgnored :=
  ⟨counted_one s _ _, (count_evolves s _ _).frame⟩

end State

end Sys2Proof.Machine

namespace Sys2Proof.Proofs

open Sys2Proof Sys2Proof.Machine

/-- Settles O9, clause by clause: an evicted queue's context stands in the Attic as QCtx.bits_word says, no other byte changed
(State.writeBack_bytesSame); a queue that stays is changed and looked up (State.retouch_spec); and a command that is ignored is
counted (State.cmdIgnored_spec). -/
theorem disableAndResume : Obligations.DisableAndResume := by
  intro q s ha
  have hdisable : exec (.disable q) s = .next (s.disableQueue q) := congrArg _ (State.letterbox_awake ha (State.disableQueue · q))
  have hresume : exec (.resume q) s = .next (s.resumeQueue q) := congrArg _ (State.letterbox_awake ha (State.resumeQueue · q))
  refine ⟨fun c hc herr hst hdone => ⟨_, hdisable, ?written⟩, fun c hc herr hst hdone => ⟨_, hdisable, ?waits⟩,
    fun c hc herr => ⟨_, hdisable, ?dropped⟩, fun hflush => ⟨_, hdisable, ?ignored⟩, fun c hc hst herr => ⟨_, hresume, ?resumed⟩,
    fun hother => ⟨_, hresume, ?notHalted⟩⟩
  case written =>
    obtain rfl := State.queue_q hc
    have e : s.disableQueue c.q = ((s.writeBack c 0).evict c.q).settle := by
      simp [State.disableQueue, hc, herr, hst, hdone]
    obtain ⟨hnone, hother, hf⟩ := (s.writeBack c 0).evict_settle_spec c.q
    have hmem : ∀ sp, ((s.writeBack c 0).evict c.q).settle.mem sp = (s.writeBack c 0).mem sp := fun sp => by
      rw [State.settle_mem, State.evict_mem]
    have haddr : ((s.writeBack c 0).evict c.q).settle.ctxAddr c.q = (s.writeBack c 0).ctxAddr c.q :=
      congrArg (· + 64 * c.q) (hf.odv (by decide) K.ctxBase)
    have hword : ((s.writeBack c 0).evict c.q).settle.ctxWord c.q = c.word 0 % 256 ^ 64 := by
      rw [← s.ctxWord_writeBack c 0, State.ctxWord, State.ctxWord, State.rd, State.rd, hmem, haddr]
    have hback : s.sameBut [.attic] (s.writeBack c 0) := s.writeBack_frame c 0
    obtain ⟨h0, h61, h64, h96, h128, h160, h320, h328, h336, h368, h400⟩ := c.bits_word 0
    rw [e, hword]
    refine ⟨hnone, fun j hj => (hother j hj).trans (hback.queueCore (by decide) j), fun sp a h => ?_, ?_, ?_, ?_, ?_, ?_, ?_, ?_, ?_, ?_, ?_, ?_, (hback.mono rfl).step hf rfl⟩
    · rw [← s.writeBack_bytesSame c 0 sp a h]
      rw [State.byteAt, State.byteAt, hmem]
    all_goals rw [bits_mod_bytes _ (by decide)]; assumption
  case waits =>
    have e : s.disableQueue q = s.retouch { c with disabling := true, readyTick := none } := by
      simp [State.disableQueue, hc, herr, hst, hdone, State.retouch, State.queue_q hc]
    obtain ⟨hqueue, hf, hcount, hroom⟩ := State.retouch_spec (d := { c with disabling := true, readyTick := none }) hc
      (show c.q = q from State.queue_q hc)
    obtain ⟨hself, hother⟩ := State.queueCore_of_queue hqueue
    rw [e]
    exact ⟨hself, hother, hcount, hroom, hf.mono rfl⟩
  case dropped =>
    have e : s.disableQueue q = (s.evict q).settle := by simp [State.disableQueue, hc, herr]
    rw [e]
    exact s.evict_settle_spec q
  case ignored =>
    have e : s.disableQueue q = s.cmdIgnored := by
      cases hc : s.queue? q with
      | none => simp [State.disableQueue, hc]
      | some c => simp [State.disableQueue, hc, hflush c hc]
    rw [e]
    exact s.cmdIgnored_spec
  case resumed =>
    have e : s.resumeQueue q = (s.retouch { c with st := .ready, haltedOn := [] }).settle := by
      simp [State.resumeQueue, hc, herr, hst, State.retouch, State.queue_q hc]
    obtain ⟨hself, hother, hf, hcount, hroom⟩ := State.retouch_settle_spec (d := { c with st := .ready, haltedOn := [] }) hc
      (show c.q = q from State.queue_q hc)
    rw [e]
    exact ⟨hself, hother, hcount, hroom, hf.mono rfl⟩
  case notHalted =>
    have e : s.resumeQueue q = s.cmdIgnored := by
      cases hc : s.queue? q with
      | none => simp [State.resumeQueue, hc]
      | some c =>
        rcases hother c hc with hst | herr
        · simp [State.resumeQueue, hc, hst]
        · simp [State.resumeQueue, hc, herr]
    rw [e]
    exact s.cmdIgnored_spec

end Sys2Proof.Proofs

/-! SUPPORT. The end of a letter (R189, R221 to R223): the record whose turn it is, and what the queue is afterwards. -/

namespace Sys2Proof.Machine

/-- A queue whose next record has been written. -/
def QCtx.oneDone (c : QCtx) : QCtx := { c with done := (c.done + 1) % 2 ^ 32 }

namespace State

/-! ### Writes to memory -/

theorem put_frame (s : State) (sp : Space) (f : Mem → Mem) : s.sameBut [.attic, .cellar, .larder, .host, .meter] (s.put sp f) := by
  unfold put
  split
  · exact sameBut.mono (count_evolves s _ _).frame rfl
  · exact sameBut.mono (setMem_sameBut s sp _) (by cases sp <;> rfl)

theorem put_ctrSame (s : State) (sp : Space) (f : Mem → Mem) : s.ctrSame [Ctr.hostWriteDrops] (s.put sp f) := by
  unfold put
  split
  · exact ctrSame_count s _ _
  · exact .of_meter (setMem_meter s sp _)

theorem wr_frame (s : State) (sp : Space) (a n v : Nat) : s.sameBut [.attic, .cellar, .larder, .host, .meter] (s.wr sp a n v) :=
  put_frame s sp _

theorem wr_ctrSame (s : State) (sp : Space) (a n v : Nat) : s.ctrSame [Ctr.hostWriteDrops] (s.wr sp a n v) := put_ctrSame s sp _

theorem mem_setMem (s : State) (sp x : Space) (m : Mem) : (s.setMem sp m).mem x = if x = sp then m else s.mem x := by
  cases sp <;> cases x <;> rfl

/-- A space that can be written holds what was put in it, and every other is as it was. -/
theorem mem_put (s : State) {sp : Space} (h : sp ≠ .host ∨ s.hostDown = false) (f : Mem → Mem) (x : Space) :
    (s.put sp f).mem x = if x = sp then f (s.mem sp) else s.mem x := by
  have hc : (sp == .host && s.hostDown) = false := by
    rcases h with h | h
    · simp [h]
    · simp [h]
  rw [put, hc, if_neg Bool.false_ne_true, mem_setMem]

/-- Another space is as it was, whether or not the write was dropped. -/
theorem mem_put_other (s : State) {sp x : Space} (h : x ≠ sp) (f : Mem → Mem) : (s.put sp f).mem x = s.mem x := by
  unfold put
  split
  · exact count_mem ..
  · rw [mem_setMem, if_neg h]

/-- A number read back where it was written. -/
theorem rd_wr_self (s : State) {sp : Space} (h : sp ≠ .host ∨ s.hostDown = false) (a n v : Nat) :
    (s.wr sp a n v).rd sp a n = v % 256 ^ n := by
  rw [rd, wr, mem_put s h, if_pos rfl, Mem.nat_writeNat]

/-! ### The pins of a letter -/

theorem maybeFree_ctrSame (s : State) (p f : Nat) (d : Bool) :
    s.ctrSame [Ctr.hostWriteDrops, Ctr.kvFrees, Ctr.kvDeferred] (s.maybeFree p f d) := by
  have hpush : s.ctrSame [Ctr.hostWriteDrops] (s.pushFree p f) := (wr_ctrSame s _ _ _ _).trans (wr_ctrSame _ _ _ _ _)
  have hfree := (hpush.mono (us := [Ctr.hostWriteDrops, Ctr.kvFrees, Ctr.kvDeferred]) (by decide)).trans
    ((ctrSame_count _ Ctr.kvFrees 1).mono (by decide))
  unfold maybeFree
  dsimp only
  split
  · split
    · exact hfree.trans ((ctrSame_count _ Ctr.kvDeferred 1).mono (by decide))
    · exact hfree
  · exact .refl _ s

theorem unpinAll_ctrSame (s : State) (pins : List (Nat × Nat)) :
    s.ctrSame [Ctr.hostWriteDrops, Ctr.kvFrees, Ctr.kvDeferred] (s.unpinAll pins) :=
  .foldl (fun t x => ((wr_ctrSame t _ _ _ _).mono (by decide)).trans (maybeFree_ctrSame _ _ _ _)) pins s

theorem closeAdvance_ctrSame (s : State) (f : FinRec) : s.ctrSame [Ctr.bankAdvances] (s.closeAdvance f) := by
  have hadvance : ∀ (t : State) (b : Nat), t.ctrSame [Ctr.bankAdvances] (t.advanceBank b) := by
    intro t b
    unfold advanceBank
    dsimp only
    split <;> exact (ctrSame_count (t.setOd K.bankCurrent b) _ _)
  unfold closeAdvance
  split
  · exact .refl _ s
  · split
    · exact hadvance { s with gz := { s.gz with closing := none } } _
    · exact .refl _ s

theorem closeAdvance_od (s : State) (f : FinRec) {k : Nat} (hk : k ≠ K.bankCurrent) : (s.closeAdvance f).odv k = s.odv k := by
  unfold closeAdvance
  split
  · rfl
  · split
    · rw [odv_advanceBank, if_neg hk]
      rfl
    · rfl

/-- The record of a CLOSE makes its bank the current one (R25, R361). -/
theorem closeAdvance_closing {s : State} {f : FinRec} {b : Nat} (h : s.gz.closing = some ((f.queue, f.seq), b)) :
    (s.closeAdvance f).odv K.bankCurrent = b := by
  have e : s.closeAdvance f = ({ s with gz := { s.gz with closing := none } } : State).advanceBank b := by
    simp only [closeAdvance, h, beq_self_eq_true, if_true]
  rw [e, odv_advanceBank, if_pos rfl]

/-- Nothing but the record of a CLOSE that waits for it advances a bank (R25, R361). -/
theorem closeAdvance_noClose {s : State} {f : FinRec} (h : s.noClose f.queue) : s.closeAdvance f = s := by
  unfold closeAdvance
  cases hc : s.gz.closing with
  | none => rfl
  | some x =>
    obtain ⟨x, b⟩ := x
    have hne : (x == (f.queue, f.seq)) = false := by
      simpa using fun e : x = (f.queue, f.seq) => h x b hc (congrArg Prod.fst e)
    simp only [hne, Bool.false_eq_true, if_false]

/-! ### The record whose turn it is -/

/-- A finished letter in line for its record. -/
def inLine (s : State) (f : FinRec) : State := { s with lb := { s.lb with fin := s.lb.fin ++ [f] } }

/-- A finished letter out of the line. -/
def outOfLine (s : State) (f : FinRec) : State :=
  { s with lb := { s.lb with fin := s.lb.fin.filter fun g => !(g.queue == f.queue && g.seq == f.seq) } }

/-- Count part and main part go to their places (R222). -/
def storeRecord (s : State) (c : QCtx) (f : FinRec) : State :=
  let s := if c.cntBase != 0 && f.hasCounts then
      s.wr c.cntSpace (c.cntBase + 128 * (f.seq % c.size)) 128 f.countWord else s
  s.wr c.crSpace (c.crBase + 32 * (f.seq % c.size)) 32 (f.mainWord c s.tick)

/-- What the record of a finished letter changes before its pins are released and a bank advances: the parts stored, the error
counted, DONE, and the notification (R221 to R223). -/
def recorded (s : State) (c : QCtx) (f : FinRec) : State :=
  let s := s.storeRecord c f
  let s := if f.error != 0 then s.count Ctr.lbErrors 1 else s
  let s := s.retouch c.oneDone
  (if f.notify then s.raise c.notifySrc else s).outOfLine f

theorem writeRecord_eq (s : State) (c : QCtx) (f : FinRec) :
    s.writeRecord c f = ((s.recorded c f).unpinAll f.pins).closeAdvance f := rfl

theorem storeRecord_frame (s : State) (c : QCtx) (f : FinRec) :
    s.sameBut [.attic, .cellar, .larder, .host, .meter] (s.storeRecord c f) ∧ s.ctrSame [Ctr.hostWriteDrops] (s.storeRecord c f) := by
  unfold storeRecord
  dsimp only
  split
  · exact ⟨(wr_frame s _ _ _ _).step (wr_frame _ _ _ _ _) rfl, (wr_ctrSame s _ _ _ _).trans (wr_ctrSame _ _ _ _ _)⟩
  · exact ⟨wr_frame s _ _ _ _, wr_ctrSame s _ _ _ _⟩

/-- The main part stands in its place whatever was stored of the count part. -/
theorem storeRecord_record {s : State} {c : QCtx} (h : s.crReach c) (f : FinRec) :
    (s.storeRecord c f).record c f.seq = f.mainWord c s.tick % 2 ^ 256 := by
  have hpow : (2 : Nat) ^ 256 = 256 ^ 32 := by norm_num
  unfold storeRecord
  dsimp only
  split
  · have hw := wr_frame s c.cntSpace (c.cntBase + 128 * (f.seq % c.size)) 128 f.countWord
    have htick := hw .tick (by decide)
    have hdown : ∀ t, s.sameBut [.attic, .cellar, .larder, .host, .meter] t → t.hostDown = s.hostDown := fun t ht => by
      rw [hostDown, hostDown, ht.odv (by decide)]
    rw [record, QCtx.size, rd_wr_self _ (by rw [hdown _ (wr_frame s _ _ _ _)]; exact h), hpow]
    rw [show (s.wr c.cntSpace (c.cntBase + 128 * (f.seq % 2 ^ c.ringLog2)) 128 f.countWord).tick = s.tick from
      wr_frame s _ _ _ _ .tick (by decide)]
  · rw [record, QCtx.size, rd_wr_self s h, hpow]

/-- Where count parts and main parts of a queue's records do not lie, nothing is stored. -/
theorem storeRecord_mem_other (s : State) {c : QCtx} {f : FinRec} {x : Space} (hcnt : f.hasCounts = false) (hx : x ≠ c.crSpace) :
    (s.storeRecord c f).mem x = s.mem x := by
  rw [storeRecord, hcnt, Bool.and_false, if_neg Bool.false_ne_true]
  exact mem_put_other s hx _

theorem retouch_lb (s : State) (d : QCtx) : (s.retouch d).lb.ops = s.lb.ops ∧ (s.retouch d).lb.gathers = s.lb.gathers ∧
    (s.retouch d).lb.fin = s.lb.fin := by
  have h := ((s.setQueue d).touchCtx_spec d.q).2.1
  rw [lbSame] at h
  rw [retouch, h]
  exact ⟨rfl, rfl, rfl⟩

theorem mem_level_raise_of {s : State} {n m : Nat} (h : m ∈ s.bell.level) : m ∈ (s.raise n).bell.level :=
  (mem_level_raise s n m).2 (.inr h)

theorem counted_misses_ctrSame {s t u : State} {q : Nat} (h : t.counted (s.misses q) u) : t.ctrSame [Ctr.lbCtxMiss] u := by
  intro k hk
  have hnone : (s.misses q).find? (fun x => x.1 == k) = none := List.find?_eq_none.2 fun x hx => by
    rw [mem_misses hx]
    simpa using fun e : Ctr.lbCtxMiss = k => hk (by simp [e])
  rw [h k, hnone]

/-- What one record leaves of the Letterbox, the Meter, the Bellboard and the memories. -/
theorem recorded_spec {s : State} {q : Nat} {c : QCtx} (hq : s.queue? q = some c) (hroom : s.cacheRoom q) (f : FinRec) :
    (∀ j, (s.recorded c f).queue? j = if j = q then some c.oneDone else s.queue? j) ∧
      (s.recorded c f).lb.ops = s.lb.ops ∧ (s.recorded c f).lb.gathers = s.lb.gathers ∧
      (s.recorded c f).lb.fin = s.lb.fin.filter (fun g => !(g.queue == f.queue && g.seq == f.seq)) ∧
      s.ctrSame [Ctr.lbErrors, Ctr.lbCtxMiss, Ctr.hostWriteDrops] (s.recorded c f) ∧
      (s.recorded c f).ctr Ctr.lbErrors = (if f.error ≠ 0 then (s.ctr Ctr.lbErrors + 1) % 2 ^ 64 else s.ctr Ctr.lbErrors) ∧
      (∀ n ∈ s.bell.level, n ∈ (s.recorded c f).bell.level) ∧ (f.notify = true → c.notifySrc ∈ (s.recorded c f).bell.level) ∧
      (s.storeRecord c f).sameBut [.meter, .lb, .bell] (s.recorded c f) := by
  obtain ⟨hstore, hstoreCtr⟩ := s.storeRecord_frame c f
  generalize hu : s.storeRecord c f = u at hstore hstoreCtr
  let v := if f.error != 0 then u.count Ctr.lbErrors 1 else u
  have hv : u.sameBut [.meter] v := by
    unfold v
    split <;> [exact (count_evolves u _ _).frame; exact .refl _ u]
  have hvlb : v.lb = s.lb := (hv .lb (by decide)).trans (hstore .lb (by decide))
  have hvq : v.queue? q = some c := by rw [queue?, hvlb]; exact hq
  have hcq := queue_q hq
  obtain ⟨hqueue, hf, hcount, hfroom⟩ := retouch_spec (d := c.oneDone) hvq hcq
  obtain ⟨hops, hgathers, hfin⟩ := v.retouch_lb c.oneDone
  let w := v.retouch c.oneDone
  let x := if f.notify then w.raise c.notifySrc else w
  have hx : w.sameBut [.bell] x := by
    unfold x
    split <;> [exact (raise_evolves w _).frame; exact .refl _ w]
  have e : s.recorded c f = x.outOfLine f := by unfold recorded; rw [hu]
  have hxlb : x.lb = w.lb := hx .lb (by decide)
  have hvctr : u.ctrSame [Ctr.lbErrors] v := by
    unfold v
    split <;> [exact ctrSame_count u _ _; exact .refl _ u]
  have hxctr : s.ctrSame [Ctr.lbErrors, Ctr.lbCtxMiss, Ctr.hostWriteDrops] x :=
    (((hstoreCtr.mono (by decide)).trans (hvctr.mono (by decide))).trans ((counted_misses_ctrSame hcount).mono (by decide))).trans
      (.of_meter (hx .meter (by decide)))
  have hbell : w.bell = s.bell := (hf .bell (by decide)).trans ((hv .bell (by decide)).trans (hstore .bell (by decide)))
  rw [e]
  refine ⟨fun j => ?queue, ?ops, ?gathers, ?fin, hxctr, ?errors, fun n hn => ?level, fun hn => ?notify, ?frame⟩
  case queue =>
    have hvj : v.queue? j = s.queue? j := by rw [queue?, queue?, hvlb]
    rw [← hvj, ← hqueue j]
    exact hx.queue (by decide) j
  case ops => exact (congrArg LbState.ops hxlb).trans (hops.trans (congrArg LbState.ops hvlb))
  case gathers => exact (congrArg LbState.gathers hxlb).trans (hgathers.trans (congrArg LbState.gathers hvlb))
  case fin =>
    have hxfin : x.lb.fin = s.lb.fin := (congrArg LbState.fin hxlb).trans (hfin.trans (congrArg LbState.fin hvlb))
    exact congrArg (List.filter _) hxfin
  case errors =>
    have hw : (x.outOfLine f).ctr Ctr.lbErrors = v.ctr Ctr.lbErrors :=
      (ctrSame.of_meter (us := []) (hx .meter (by decide)) _ (by simp)).trans (counted_misses_ctrSame hcount _ (by decide))
    have hs : u.ctr Ctr.lbErrors = s.ctr Ctr.lbErrors := hstoreCtr _ (by decide)
    rw [hw, ← hs]
    unfold v
    by_cases herr : f.error = 0
    · simp [herr]
    · simp [herr, ctr_count]
  case level =>
    rw [← hbell] at hn
    unfold x
    split
    · exact mem_level_raise_of hn
    · exact hn
  case notify =>
    unfold x
    rw [if_pos hn]
    exact (mem_level_raise w _ _).2 (.inl rfl)
  case frame =>
    have hvroom : v.cacheRoom q := by rwa [cacheRoom, hvlb]
    exact (((hv.mono rfl).step (hfroom hvroom) rfl).step hx rfl).step (setLb_sameBut x _) rfl

/-! ### A finished letter (R189) -/

/-- Nothing of queue q, context c, stands between a finished letter and its record: no DISABLE or FLUSH waits for one, no other
letter of the queue does, and its context can be looked up without driving out another. -/
structure RecordsFreely (s : State) (q : Nat) (c : QCtx) : Prop where
  queue : s.queue? q = some c
  notDisabling : c.disabling = false
  notFlushing : c.st ≠ .flushing
  alone : ∀ g ∈ s.lb.fin, g.queue ≠ q
  cached : s.cacheRoom q

/-- What a record written for queue q, context c, leaves: it is stored and counted, DONE has moved, the letter is out of the line,
and its notification is raised. -/
structure RecordWritten (s : State) (q : Nat) (c : QCtx) (f : FinRec) (t : State) : Prop where
  queue : ∀ j, t.queue? j = if j = q then some c.oneDone else s.queue? j
  ops : t.lb.ops = s.lb.ops
  gathers : t.lb.gathers = s.lb.gathers
  fin : t.lb.fin = s.lb.fin.filter fun g => !(g.queue == f.queue && g.seq == f.seq)
  units : s.ctrSame [Ctr.lbErrors, Ctr.lbCtxMiss, Ctr.hostWriteDrops, Ctr.kvFrees, Ctr.kvDeferred, Ctr.bankAdvances] t
  errors : t.ctr Ctr.lbErrors = if f.error ≠ 0 then (s.ctr Ctr.lbErrors + 1) % 2 ^ 64 else s.ctr Ctr.lbErrors
  level : ∀ n ∈ s.bell.level, n ∈ t.bell.level
  notified : f.notify = true → c.notifySrc ∈ t.bell.level
  stored : f.pins = [] → s.crReach c → t.record c f.seq = f.mainWord c s.tick % 2 ^ 256
  other : f.pins = [] → f.hasCounts = false → ∀ x, x ≠ c.crSpace → t.mem x = s.mem x
  frame : s.sameBut [.attic, .cellar, .larder, .host, .od, .meter, .lb, .bell, .gz, .ex] t
  frameNoClose : s.noClose f.queue → s.sameBut [.attic, .cellar, .larder, .host, .meter, .lb, .bell] t
  od : ∀ k, k ≠ K.bankCurrent → t.odv k = s.odv k
  closing : ∀ b, s.gz.closing = some ((f.queue, f.seq), b) → t.odv K.bankCurrent = b

/-- A record in a memory is as it was where neither that memory nor the Letterbox's context of it changed. -/
theorem record_congr {s t : State} (h : ∀ x, t.mem x = s.mem x) (c : QCtx) (n : Nat) : t.record c n = s.record c n := by
  rw [record, record, rd, rd, h]

theorem sameBut.mem {fs : List Fld} {s t : State} (h : s.sameBut fs t) (ha : Fld.attic ∉ fs) (hc : Fld.cellar ∉ fs) (hl : Fld.larder ∉ fs)
    (hh : Fld.host ∉ fs) (x : Space) : t.mem x = s.mem x := by
  cases x with
  | attic => exact h .attic ha
  | cellar => exact h .cellar hc
  | larder => exact h .larder hl
  | host => exact h .host hh

theorem writeRecord_spec {s : State} {q : Nat} {c : QCtx} (hq : s.queue? q = some c) (hroom : s.cacheRoom q) (f : FinRec) :
    s.RecordWritten q c f (s.writeRecord c f) := by
  obtain ⟨hqueue, hops, hgathers, hfin, hunits, herrors, hlevel, hnotify, hframe⟩ := recorded_spec hq hroom f
  have hstore := (s.storeRecord_frame c f).1
  have hpins := (unpinAll_evolves (s.recorded c f) f.pins).frame
  have hclose := (closeAdvance_evolves ((s.recorded c f).unpinAll f.pins) f).frame
  have hlast : (s.recorded c f).sameBut [.attic, .cellar, .larder, .host, .od, .meter, .gz, .ex] (s.writeRecord c f) := by
    rw [writeRecord_eq]
    exact (hpins.mono rfl).step hclose rfl
  have hlb : (s.writeRecord c f).lb = (s.recorded c f).lb := hlast .lb (by decide)
  have hbell : (s.writeRecord c f).bell = (s.recorded c f).bell := hlast .bell (by decide)
  have hunits' : (s.recorded c f).ctrSame [Ctr.hostWriteDrops, Ctr.kvFrees, Ctr.kvDeferred, Ctr.bankAdvances] (s.writeRecord c f) := by
    rw [writeRecord_eq]
    exact ((unpinAll_ctrSame _ _).mono (by decide)).trans ((closeAdvance_ctrSame _ _).mono (by decide))
  have hmem : f.pins = [] → ∀ x, (s.writeRecord c f).mem x = (s.storeRecord c f).mem x := fun hp x => by
    have e : (s.recorded c f).unpinAll f.pins = s.recorded c f := by rw [hp]; rfl
    have hc := hclose.mem (by decide) (by decide) (by decide) (by decide) x
    rw [e] at hc
    rw [writeRecord_eq, e, hc]
    exact hframe.mem (by decide) (by decide) (by decide) (by decide) x
  have hall : s.sameBut [.attic, .cellar, .larder, .host, .meter, .lb, .bell] (s.recorded c f) := (hstore.mono rfl).step hframe rfl
  have hbefore : s.sameBut [.attic, .cellar, .larder, .host, .meter, .lb, .bell] ((s.recorded c f).unpinAll f.pins) := hall.step hpins rfl
  exact {
    queue := fun j => (hlast.queue (by decide) j).trans (hqueue j)
    ops := (congrArg LbState.ops hlb).trans hops
    gathers := (congrArg LbState.gathers hlb).trans hgathers
    fin := (congrArg LbState.fin hlb).trans hfin
    units := (hunits.mono (by decide)).trans (hunits'.mono (by decide))
    errors := (hunits' _ (by decide)).trans herrors
    level := fun n hn => hbell ▸ hlevel n hn
    notified := fun hn => hbell ▸ hnotify hn
    stored := fun hp hr => (record_congr (hmem hp) c f.seq).trans (storeRecord_record hr f)
    other := fun hp hc x hx => (hmem hp x).trans (storeRecord_mem_other s hc hx)
    frame := (hall.mono rfl).step hlast rfl
    frameNoClose := fun hno => by
      have hgz : ((s.recorded c f).unpinAll f.pins).gz = s.gz := hbefore .gz (by decide)
      have hno' : ((s.recorded c f).unpinAll f.pins).noClose f.queue := by rwa [noClose, hgz]
      rw [writeRecord_eq, closeAdvance_noClose hno']
      exact hbefore
    od := fun k hk => by
      rw [writeRecord_eq, closeAdvance_od _ _ hk, hbefore.odv (by decide)]
    closing := fun b hb => by
      have hgz : ((s.recorded c f).unpinAll f.pins).gz = s.gz := hbefore .gz (by decide)
      rw [writeRecord_eq, closeAdvance_closing (hgz ▸ hb)] }

/-- With the queue neither flushing nor waiting for a DISABLE, nothing follows a record. -/
theorem afterRecord_free {s : State} {q : Nat} {c : QCtx} (hq : s.queue? q = some c) (hd : c.disabling = false) (hf : c.st ≠ .flushing) :
    s.afterRecord q = s := by
  have hst : (c.st == QState.flushing) = false := by simpa using hf
  simp only [afterRecord, hq, hd, hst, Bool.false_and, Bool.false_eq_true, if_false]

/-- No record of the queue is next while no finished letter of it waits. -/
theorem nextFin_alone {s : State} {q : Nat} (h : ∀ g ∈ s.lb.fin, g.queue ≠ q) : s.nextFin q = none := by
  unfold nextFin
  cases s.queue? q with
  | none => rfl
  | some c =>
    have hnone : s.lb.fin.find? (fun g => g.queue == q && g.seq == c.done) = none := List.find?_eq_none.2 fun g hg => by simp [h g hg]
    simp only [hnone, Option.map_none]

/-- A finished letter alone in line is next when its turn has come. -/
theorem nextFin_inLine {s : State} {q : Nat} {c : QCtx} {f : FinRec} (h : s.RecordsFreely q c) (hfq : f.queue = q) :
    (s.inLine f).nextFin q = if f.seq = c.done then some (c, f) else none := by
  have hline : (s.inLine f).queue? q = some c := h.queue
  have hfind : (s.inLine f).lb.fin.find? (fun g => g.queue == q && g.seq == c.done) = if f.seq = c.done then some f else none := by
    have e : (s.inLine f).lb.fin = s.lb.fin ++ [f] := rfl
    rw [e, List.find?_append, List.find?_eq_none.2 fun g hg => by simp [h.alone g hg]]
    by_cases e : f.seq = c.done <;> simp [hfq, e]
  rw [nextFin, hline]
  dsimp only
  rw [hfind]
  split <;> rfl

/-- The line holds no letter of the queue once its one letter is out of it. -/
theorem fin_outOfLine {s : State} {q : Nat} {f : FinRec} (h : ∀ g ∈ s.lb.fin, g.queue ≠ q) (hfq : f.queue = q) :
    (s.inLine f).lb.fin.filter (fun g => !(g.queue == f.queue && g.seq == f.seq)) = s.lb.fin := by
  have e : (s.inLine f).lb.fin = s.lb.fin ++ [f] := rfl
  rw [e, List.filter_append, List.filter_eq_self.2 fun g hg => by simp [hfq, h g hg]]
  simp

/-- A finished letter whose turn has come has its record written; any other waits in line. -/
theorem finish_eq {s : State} {q : Nat} {c : QCtx} {f : FinRec} (h : s.RecordsFreely q c) (hfq : f.queue = q) :
    s.finish f = if f.seq = c.done then (s.inLine f).writeRecord c f else s.inLine f := by
  have hdrain : s.finish f = (s.inLine f).drain q ((s.inLine f).lb.fin.length + 1) := by rw [← hfq]; rfl
  have hnext := nextFin_inLine h hfq
  rw [hdrain, drain, hnext]
  by_cases e : f.seq = c.done
  · have hw := writeRecord_spec (s := s.inLine f) h.queue h.cached f
    have halone : ∀ g ∈ ((s.inLine f).writeRecord c f).lb.fin, g.queue ≠ q := by
      rw [hw.fin, fin_outOfLine h.alone hfq]
      exact h.alone
    have hafter := afterRecord_free ((hw.queue q).trans (if_pos rfl)) (show c.oneDone.disabling = false from h.notDisabling) h.notFlushing
    have hlen : (s.inLine f).lb.fin.length = s.lb.fin.length + 1 := by simp [inLine]
    simp only [if_pos e]
    rw [hafter, hlen, drain, nextFin_alone halone]
  · simp only [if_neg e]

/-- A queue after a letter of its has finished: DONE has moved past the letter when its turn had come. -/
def QCtx.finished (c : QCtx) (n : Nat) : QCtx := if c.done = n then c.oneDone else c

theorem QCtx.core_finished (c : QCtx) (n : Nat) :
    (QCtx.finished c n).core = { c.core with done := if c.done = n then (c.done + 1) % 2 ^ 32 else c.done } := by
  unfold finished
  split <;> rfl

/-- What a finished letter of queue q, context c, leaves. -/
structure Finished (s : State) (q : Nat) (c : QCtx) (f : FinRec) (t : State) : Prop where
  queue : ∀ j, t.queue? j = if j = q then some (QCtx.finished c f.seq) else s.queue? j
  ops : t.lb.ops = s.lb.ops
  gathers : t.lb.gathers = s.lb.gathers
  fin : f.seq = c.done → t.lb.fin = s.lb.fin
  units : s.ctrSame [Ctr.lbErrors, Ctr.lbCtxMiss, Ctr.hostWriteDrops, Ctr.kvFrees, Ctr.kvDeferred, Ctr.bankAdvances] t
  errors : f.seq = c.done → t.ctr Ctr.lbErrors = if f.error ≠ 0 then (s.ctr Ctr.lbErrors + 1) % 2 ^ 64 else s.ctr Ctr.lbErrors
  level : ∀ n ∈ s.bell.level, n ∈ t.bell.level
  notified : f.seq = c.done → f.notify = true → c.notifySrc ∈ t.bell.level
  stored : f.seq = c.done → f.pins = [] → s.crReach c → t.record c f.seq = f.mainWord c s.tick % 2 ^ 256
  other : f.pins = [] → f.hasCounts = false → ∀ x, x ≠ c.crSpace → t.mem x = s.mem x
  frame : s.sameBut [.attic, .cellar, .larder, .host, .od, .meter, .lb, .bell, .gz, .ex] t
  frameNoClose : s.noClose q → s.sameBut [.attic, .cellar, .larder, .host, .meter, .lb, .bell] t
  od : ∀ k, k ≠ K.bankCurrent → t.odv k = s.odv k
  closing : f.seq = c.done → ∀ b, s.gz.closing = some ((q, f.seq), b) → t.odv K.bankCurrent = b
  waiting : f.seq ≠ c.done → s.sameBut [.lb] t

theorem finish_spec {s : State} {q : Nat} {c : QCtx} {f : FinRec} (h : s.RecordsFreely q c) (hfq : f.queue = q) :
    s.Finished q c f (s.finish f) := by
  have hline : s.sameBut [.lb] (s.inLine f) := setLb_sameBut s _
  rw [finish_eq h hfq]
  by_cases e : f.seq = c.done
  · have hw := writeRecord_spec (s := s.inLine f) h.queue h.cached f
    rw [if_pos e]
    exact {
      queue := fun j => by rw [hw.queue, QCtx.finished, if_pos e.symm]; rfl
      ops := hw.ops
      gathers := hw.gathers
      fin := fun _ => hw.fin.trans (fin_outOfLine h.alone hfq)
      units := hw.units
      errors := fun _ => hw.errors
      level := hw.level
      notified := fun _ => hw.notified
      stored := fun _ => hw.stored
      other := hw.other
      frame := (hline.mono rfl).step hw.frame rfl
      frameNoClose := fun hno => (hline.mono rfl).step (hw.frameNoClose (hfq ▸ hno)) rfl
      od := hw.od
      closing := fun _ b hb => hw.closing b (hfq ▸ hb)
      waiting := fun h => absurd e h }
  · rw [if_neg e]
    exact {
      queue := fun j => by
        rw [QCtx.finished, if_neg (Ne.symm e)]
        split
        · next hj => rw [hj]; exact h.queue
        · rfl
      ops := rfl
      gathers := rfl
      fin := fun h => absurd h e
      units := .refl _ s
      errors := fun h => absurd h e
      level := fun _ hn => hn
      notified := fun h => absurd h e
      stored := fun h => absurd h e
      other := fun _ _ _ _ => rfl
      frame := hline.mono rfl
      frameNoClose := fun _ => hline.mono rfl
      od := fun _ _ => rfl
      closing := fun h => absurd h e
      waiting := fun _ => hline }

end State

end Sys2Proof.Machine

/-! SUPPORT. Letters that end at their dispatch (R181 to R185, R205, R207, R208): the queue as the head letter leaves it, and the end
of a letter that completes or fails there. -/

namespace Sys2Proof.Machine

/-- A queue that its head letter has left with the ISA version given, its lateness noted (R181, R218). -/
def QCtx.left (c : QCtx) (late : Bool) (isa : Nat) : QCtx :=
  { c with head := (c.head + 1) % 2 ^ 32, readyTick := none, isa := isa, late := if late then min (c.late + 1) (2 ^ 32 - 1) else c.late }

/-- A queue halted by its letter n with error e (R208). -/
def QCtx.haltedAt (c : QCtx) (n e : Nat) : QCtx :=
  { c with st := .halted, errSeq := n, lastError := e, haltedOn := c.haltedOn ++ [n] }

namespace State

/-! ### One queue changed -/

/-- Queue q has become d; nothing else of the Letterbox has changed but which contexts its cache holds. -/
structure Took (s : State) (q : Nat) (d : QCtx) (u : State) : Prop where
  queue : ∀ j, u.queue? j = if j = q then some d else s.queue? j
  ops : u.lb.ops = s.lb.ops
  gathers : u.lb.gathers = s.lb.gathers
  fin : u.lb.fin = s.lb.fin
  cached : u.cacheRoom q

theorem Took.self {s u : State} {q : Nat} {d : QCtx} (h : s.Took q d u) : u.queue? q = some d := (h.queue q).trans (if_pos rfl)

theorem Took.others {s u : State} {q : Nat} {d : QCtx} (h : s.Took q d u) {j : Nat} (hj : j ≠ q) : u.queueCore j = s.queueCore j := by
  rw [queueCore, queueCore, h.queue, if_neg hj]

theorem Took.trans {s u v : State} {q : Nat} {d e : QCtx} (h : s.Took q d u) (g : u.Took q e v) : s.Took q e v where
  queue j := by
    rw [g.queue, h.queue]
    split <;> rfl
  ops := g.ops.trans h.ops
  gathers := g.gathers.trans h.gathers
  fin := g.fin.trans h.fin
  cached := g.cached

/-- What leaves the Letterbox alone does not matter. -/
theorem Took.congr {s u v : State} {q : Nat} {d : QCtx} (h : s.Took q d u) (hlb : v.lb = u.lb) : s.Took q d v where
  queue j := by rw [← h.queue j, queue?, queue?, hlb]
  ops := by rw [hlb, h.ops]
  gathers := by rw [hlb, h.gathers]
  fin := by rw [hlb, h.fin]
  cached := by have := h.cached; rwa [cacheRoom, hlb]

theorem setQueue_took {s : State} {q : Nat} {c d : QCtx} (hq : s.queue? q = some c) (hd : d.q = q) (hroom : s.cacheRoom q) :
    s.Took q d (s.setQueue d) := ⟨queue_setQueue hq hd, rfl, rfl, rfl, hroom⟩

/-- After a look-up that had room, the context has room. -/
theorem touchCtx_cacheRoom {s : State} {q : Nat} (h : s.cacheRoom q) : (s.touchCtx q).cacheRoom q := by
  have hmem : ∀ t : State, q ∈ (t.cacheCtx q).lb.cached := by
    intro t
    rw [cacheCtx]
    split <;> simp
  rw [touchCtx]
  split
  · exact .inl (hmem s)
  · dsimp only
    split
    · exact .inl (hmem _)
    · exact h

theorem retouch_took {s : State} {q : Nat} {c d : QCtx} (hq : s.queue? q = some c) (hd : d.q = q) (hroom : s.cacheRoom q) :
    s.Took q d (s.retouch d) ∧ s.sameBut [.meter, .lb] (s.retouch d) ∧ s.ctrSame [Ctr.lbCtxMiss] (s.retouch d) := by
  obtain ⟨hqueue, -, hcount, hf⟩ := retouch_spec hq hd
  obtain ⟨hops, hgathers, hfin⟩ := s.retouch_lb d
  refine ⟨⟨hqueue, hops, hgathers, hfin, ?_⟩, hf hroom, counted_misses_ctrSame hcount⟩
  subst hd
  exact touchCtx_cacheRoom (s := s.setQueue d) hroom

theorem noteLate_took {s : State} {q : Nat} {c : QCtx} (hq : s.queue? q = some c) (hroom : s.cacheRoom q) :
    s.Took q c.notedLate (s.noteLate q) ∧ s.sameBut [.meter, .lb] (s.noteLate q) ∧ s.ctrSame [Ctr.lbLate] (s.noteLate q) := by
  have e : s.noteLate q = (s.count Ctr.lbLate 1).setQueue c.notedLate := by simp [noteLate, hq, QCtx.notedLate]
  refine ⟨?_, (noteLate_evolves s q).frame, (noteLate_spec hq).2.2⟩
  rw [e]
  exact ⟨queue_setQueue (s := s.count Ctr.lbLate 1) (c := c) (d := c.notedLate) hq (queue_q (s := s) (c := c) hq), rfl, rfl, rfl, hroom⟩

theorem haltQueue_took {s : State} {q : Nat} {c : QCtx} (hq : s.queue? q = some c) (hst : c.st ≠ .flushing) (hroom : s.cacheRoom q)
    (n e : Nat) : s.Took q (c.haltedAt n e) (s.haltQueue q n e) := by
  have hst' : (c.st == QState.flushing) = false := by simpa using hst
  have h : s.haltQueue q n e = s.setQueue (c.haltedAt n e) := by simp [haltQueue, hq, hst', QCtx.haltedAt]
  rw [h]
  exact setQueue_took hq (queue_q (s := s) (c := c) hq) hroom

/-- The head letter leaves its queue, its lateness noted: what a header, with the version it names, and any other letter come to. -/
theorem left_took {s : State} {q : Nat} {c : QCtx} (hq : s.queue? q = some c) (hroom : s.cacheRoom q) (late : Bool) (isa : Nat) :
    let r := s.retouch (c.left false isa)
    let u := if late then r.noteLate q else r
    s.Took q (c.left late isa) u ∧ s.sameBut [.meter, .lb] u ∧ s.ctrSame [Ctr.lbCtxMiss, Ctr.lbLate] u := by
  obtain ⟨ht, hf, hc⟩ := retouch_took (d := c.left false isa) hq (show c.q = q from queue_q hq) hroom
  cases late with
  | false => exact ⟨ht, hf, hc.mono (by decide)⟩
  | true =>
    obtain ⟨ht', hf', hc'⟩ := noteLate_took ht.self ht.cached
    exact ⟨ht.trans ht', hf.step hf' rfl, (hc.mono (by decide)).trans (hc'.mono (by decide))⟩

/-! ### Ends -/

/-- What the end of a letter f of queue q leaves, d being the queue as the letter left it; the ready times are noted anew. -/
structure Ended (s : State) (q : Nat) (d : QCtx) (f : FinRec) (t : State) : Prop where
  self : t.queueCore q = some (QCtx.finished d f.seq).core
  others : ∀ j, j ≠ q → t.queueCore j = s.queueCore j
  ops : t.lb.ops = s.lb.ops
  gathers : t.lb.gathers = s.lb.gathers
  fin : f.seq = d.done → t.lb.fin = s.lb.fin
  units : s.ctrSame [Ctr.lbErrors, Ctr.lbCtxMiss, Ctr.hostWriteDrops, Ctr.kvFrees, Ctr.kvDeferred, Ctr.bankAdvances] t
  errors : f.seq = d.done → t.ctr Ctr.lbErrors = if f.error ≠ 0 then (s.ctr Ctr.lbErrors + 1) % 2 ^ 64 else s.ctr Ctr.lbErrors
  level : ∀ n ∈ s.bell.level, n ∈ t.bell.level
  notified : f.seq = d.done → f.notify = true → d.notifySrc ∈ t.bell.level
  stored : f.seq = d.done → f.pins = [] → s.crReach d → t.record d f.seq = f.mainWord d s.tick % 2 ^ 256
  other : f.pins = [] → f.hasCounts = false → ∀ x, x ≠ d.crSpace → t.mem x = s.mem x
  frame : s.sameBut [.attic, .cellar, .larder, .host, .od, .meter, .lb, .bell, .gz, .ex] t
  frameNoClose : s.noClose q → s.sameBut [.attic, .cellar, .larder, .host, .meter, .lb, .bell] t
  od : ∀ k, k ≠ K.bankCurrent → t.odv k = s.odv k
  closing : f.seq = d.done → ∀ b, s.gz.closing = some ((q, f.seq), b) → t.odv K.bankCurrent = b
  waiting : f.seq ≠ d.done → s.sameBut [.lb] t

theorem finish_settle_spec {s : State} {q : Nat} {c : QCtx} {f : FinRec} (h : s.RecordsFreely q c) (hfq : f.queue = q) :
    s.Ended q c f (s.finish f).settle := by
  have hw := finish_spec h hfq
  have hs := (s.finish f).settle_frame
  have hunit : ∀ k, (s.finish f).settle.ctr k = (s.finish f).ctr k := fun k => ctrSame.of_meter (us := []) (hs .meter (by decide)) k (by simp)
  have hbell : (s.finish f).settle.bell = (s.finish f).bell := hs .bell (by decide)
  have hmem := hs.mem (by decide) (by decide) (by decide) (by decide)
  obtain ⟨hself, hothers⟩ := queueCore_of_queue hw.queue
  exact {
    self := (queueCore_settle _ q).trans hself
    others := fun j hj => (queueCore_settle _ j).trans (hothers j hj)
    ops := hw.ops
    gathers := hw.gathers
    fin := hw.fin
    units := fun k hk => (hunit k).trans (hw.units k hk)
    errors := fun e => (hunit _).trans (hw.errors e)
    level := fun n hn => hbell ▸ hw.level n hn
    notified := fun e hn => hbell ▸ hw.notified e hn
    stored := fun e hp hr => (record_congr hmem c f.seq).trans (hw.stored e hp hr)
    other := fun hp hc x hx => (hmem x).trans (hw.other hp hc x hx)
    frame := hw.frame.step hs rfl
    frameNoClose := fun hno => (hw.frameNoClose hno).step hs rfl
    od := fun k hk => (hs.odv (by decide) k).trans (hw.od k hk)
    closing := fun e b hb => (hs.odv (by decide) _).trans (hw.closing e b hb)
    waiting := fun e => (hw.waiting e).step hs rfl }

/-- A queue the part takes letters from can have their records written. -/
theorem HeadIs.recordsFreely {s u : State} {q : Nat} {c d : QCtx} {l : Letter} (h : s.HeadIs q c l) (ht : s.Took q d u)
    (hd : d.disabling = c.disabling) (hst : d.st ≠ .flushing) : u.RecordsFreely q d where
  queue := ht.self
  notDisabling := by
    have hr := h.ready
    simp only [headReady, Bool.and_eq_true, Bool.not_eq_true'] at hr
    exact hd.trans hr.1.1.2
  notFlushing := hst
  alone := fun g hg => h.alone g (ht.fin ▸ hg)
  cached := ht.cached

theorem HeadIs.st {s : State} {q : Nat} {c : QCtx} {l : Letter} (h : s.HeadIs q c l) : c.st = .ready := by
  have hr := h.ready
  simp only [headReady, Bool.and_eq_true, beq_iff_eq] at hr
  exact hr.1.1.1

/-- The end of a head letter that completes at its dispatch. -/
theorem HeadIs.completedNow {s u : State} {q : Nat} {c : QCtx} {l : Letter} {isa : Nat} (h : s.HeadIs q c l)
    (ht : s.Took q (c.left (s.isLate (s.deadlineOf c)) isa) u) (htick : u.tick = s.tick) (hdown : u.hostDown = s.hostDown)
    (hctr : u.ctr Ctr.lbDispatched = (s.ctr Ctr.lbDispatched + 1) % 2 ^ 64) :
    let f := immediate c c.head 0 l (s.isLate (s.deadlineOf c)) s.tick
    let t := (u.finish f).settle
    s.completedNow q c l { c.sent (s.isLate (s.deadlineOf c)) with isa := isa } t ∧
      u.Ended q (c.left (s.isLate (s.deadlineOf c)) isa) f t := by
  have hfree := h.recordsFreely ht rfl (show c.st ≠ .flushing by rw [h.st]; decide)
  have he := finish_settle_spec (f := immediate c c.head 0 l (s.isLate (s.deadlineOf c)) s.tick) hfree (queue_q h.queue)
  refine ⟨⟨he.self.trans (congrArg some (QCtx.core_finished _ _)), fun j hj => (he.others j hj).trans (ht.others hj), he.ops.trans ht.ops,
    (he.units _ (by decide)).trans hctr, fun hdone hr => ?_, fun hdone hn => he.notified hdone.symm ?_⟩, he⟩
  · have hr' : u.crReach (c.left (s.isLate (s.deadlineOf c)) isa) := by rw [crReach, hdown]; exact hr
    have hst := he.stored hdone.symm rfl hr'
    rw [htick] at hst
    exact hst
  · simpa [immediate] using hn

/-- The end of a head letter that fails at its dispatch, late or not (R207, R208). -/
theorem HeadIs.failed {s u : State} {q : Nat} {c : QCtx} {l : Letter} {late : Bool} {e : Nat} (h : s.HeadIs q c l) (hne : e ≠ 0)
    (ht : s.Took q ((c.left late c.isa).haltedAt c.head e) u) (htick : u.tick = s.tick) (hdown : u.hostDown = s.hostDown)
    (hctr : u.ctr Ctr.lbErrors = s.ctr Ctr.lbErrors) :
    let f := immediate c c.head e l late s.tick
    let t := (u.finish f).settle
    t.queueCore q = some { c.sent late with
        st := .halted, errSeq := c.head, lastError := e, haltedOn := c.haltedOn ++ [c.head],
        done := if c.done = c.head then (c.done + 1) % 2 ^ 32 else c.done } ∧
      (∀ j, j ≠ q → t.queueCore j = s.queueCore j) ∧ t.lb.ops = s.lb.ops ∧ t.lb.gathers = s.lb.gathers ∧
      (c.done = c.head → t.ctr Ctr.lbErrors = (s.ctr Ctr.lbErrors + 1) % 2 ^ 64 ∧ c.notifySrc ∈ t.bell.level ∧
        (s.crReach c → t.record c c.head = f.mainWord c s.tick % 2 ^ 256)) ∧
      u.Ended q ((c.left late c.isa).haltedAt c.head e) f t := by
  have hfree := h.recordsFreely ht rfl (show QState.halted ≠ .flushing by decide)
  have he := finish_settle_spec (f := immediate c c.head e l late s.tick) hfree (queue_q h.queue)
  refine ⟨he.self.trans (congrArg some (QCtx.core_finished _ _)), fun j hj => (he.others j hj).trans (ht.others hj), he.ops.trans ht.ops, he.gathers.trans ht.gathers,
    fun hdone => ⟨?_, he.notified hdone.symm ?_, fun hr => ?_⟩, he⟩
  · rw [he.errors hdone.symm, if_pos (show (immediate c c.head e l late s.tick).error ≠ 0 from hne), hctr]
  · simp [immediate, hne]
  · have hr' : u.crReach ((c.left late c.isa).haltedAt c.head e) := by rw [crReach, hdown]; exact hr
    have hst := he.stored hdone.symm rfl hr'
    rw [htick] at hst
    exact hst

/-- A letter that fails validation (R205, R207, R208). -/
theorem HeadIs.failLetter {s : State} {q : Nat} {c : QCtx} {l : Letter} {e : Nat} (h : s.HeadIs q c l) (hne : e ≠ 0) :
    s.failedWith q c l e (s.failLetter c e l) ∧
      s.sameBut [.attic, .cellar, .larder, .host, .meter, .lb, .bell] (s.failLetter c e l) := by
  obtain rfl := queue_q h.queue
  obtain ⟨htook, hf, hctr⟩ := retouch_took (d := c.left false c.isa) h.queue rfl h.cached
  have hhalt := haltQueue_took htook.self (show c.st ≠ .flushing by rw [h.st]; decide) htook.cached c.head e
  let u := (s.advanceHead c).haltQueue c.q c.head e
  have hf' : s.sameBut [.meter, .lb] u := hf.step (haltQueue_evolves _ _ _ _).frame rfl
  have hmeter : u.meter = (s.advanceHead c).meter := (haltQueue_evolves (s.advanceHead c) c.q c.head e).frame .meter (by decide)
  have hgz : u.gz = s.gz := hf' .gz (by decide)
  have hdown : u.hostDown = s.hostDown := by rw [hostDown, hostDown, hf'.odv (by decide)]
  obtain ⟨hself, hothers, hops, hgathers, hrec, hend⟩ := h.failed hne (htook.trans hhalt) (hf' .tick (by decide)) hdown
    ((ctrSame.of_meter (us := []) hmeter _ (by simp)).trans (hctr _ (by decide)))
  have e : s.failLetter c e l = (u.finish (immediate c c.head e l false s.tick)).settle := by
    rw [← show u.tick = s.tick from hf' .tick (by decide)]; rfl
  rw [e]
  refine ⟨⟨hself, hothers, hops, hgathers, hrec⟩, ?_⟩
  exact (hf'.mono rfl).step (hend.frameNoClose (by rw [noClose]; exact fun x b hx => h.closed x b (hgz ▸ hx))) rfl

/-- A letter dispatched with the ISA version given, counted, its lateness noted. -/
def dispatched (s : State) (c : QCtx) (isa : Nat) : State :=
  let r := s.retouch (c.left false isa)
  (if s.isLate (s.deadlineOf c) then r.noteLate c.q else r).count Ctr.lbDispatched 1

theorem HeadIs.dispatched {s : State} {q : Nat} {c : QCtx} {l : Letter} (h : s.HeadIs q c l) (isa : Nat) :
    s.Took q (c.left (s.isLate (s.deadlineOf c)) isa) (s.dispatched c isa) ∧ s.sameBut [.meter, .lb] (s.dispatched c isa) ∧
      s.ctrSame [Ctr.lbCtxMiss, Ctr.lbLate, Ctr.lbDispatched] (s.dispatched c isa) ∧
      (s.dispatched c isa).ctr Ctr.lbDispatched = (s.ctr Ctr.lbDispatched + 1) % 2 ^ 64 := by
  obtain rfl := queue_q h.queue
  obtain ⟨htook, hf, hctr⟩ := left_took h.queue h.cached (s.isLate (s.deadlineOf c)) isa
  have hcount := (count_evolves (if s.isLate (s.deadlineOf c) then (s.retouch (c.left false isa)).noteLate c.q
    else s.retouch (c.left false isa)) Ctr.lbDispatched 1).frame
  refine ⟨htook.congr rfl, hf.step hcount rfl, (hctr.mono (by decide)).trans ((ctrSame_count _ _ _).mono (by decide)), ?_⟩
  rw [State.dispatched, ctr_count, if_pos rfl]
  exact congrArg (fun n => (n + 1) % 2 ^ 64) (hctr _ (by decide))

/-- A letter that is dispatched and completes with no work at all, as a header and a marker do (R181, R185). -/
theorem HeadIs.completesAtOnce {s : State} {q : Nat} {c : QCtx} {l : Letter} (h : s.HeadIs q c l) (isa : Nat) :
    let t := ((s.dispatched c isa).finish (immediate c c.head 0 l (s.isLate (s.deadlineOf c)) s.tick)).settle
    s.completedNow q c l { c.sent (s.isLate (s.deadlineOf c)) with isa := isa } t ∧
      s.sameBut [.attic, .cellar, .larder, .host, .meter, .lb, .bell] t := by
  obtain ⟨htook, hf, -, hctr⟩ := h.dispatched isa
  have hgz : (s.dispatched c isa).gz = s.gz := hf .gz (by decide)
  have hdown : (s.dispatched c isa).hostDown = s.hostDown := by rw [hostDown, hostDown, hf.odv (by decide)]
  obtain ⟨hnow, hend⟩ := h.completedNow htook (hf .tick (by decide)) hdown hctr
  exact ⟨hnow, (hf.mono rfl).step (hend.frameNoClose (by rw [noClose]; exact fun x b hx => h.closed x b (hgz ▸ hx))) rfl⟩

end State

end Sys2Proof.Machine

namespace Sys2Proof.Proofs

open Sys2Proof Sys2Proof.Machine

/-- The versions of R182, as the ranges they are. -/
theorem isaAccepted_iff (v : Nat) : v ∈ [0x32, 0x33, 0x34, 0x35, 0x40, 0x41, 0x42, 0x43] ↔
    ((0x32 ≤ v && v ≤ 0x35) || (0x40 ≤ v && v ≤ 0x43)) = true := by
  simp only [List.mem_cons, List.not_mem_nil, or_false, Bool.or_eq_true, Bool.and_eq_true, decide_eq_true_eq]
  omega

/-- Settles O14: a header whose checks pass, and a marker, are dispatched and end at once (State.HeadIs.completesAtOnce); a header of
another version fails (State.HeadIs.failLetter). -/
theorem headersAndMarkersComplete : Obligations.HeadersAndMarkersComplete := by
  intro q c l s h
  obtain rfl := State.queue_q h.queue
  have hheader : exec (.header c.q) s = .next (s.dispatchHeader c.q) := congrArg _ (State.dispatching_awake h.running (State.dispatchHeader · c.q))
  have hmarker : exec (.marker c.q) s = .next (s.dispatchMarker c.q) := congrArg _ (State.dispatching_awake h.running (State.dispatchMarker · c.q))
  refine ⟨fun hroute hok hslot hbatch => ⟨_, hheader, ?accepted⟩, fun hroute hok => ⟨_, hheader, ?refused⟩,
    fun hroute hchecks => ⟨_, hmarker, ?marker⟩⟩
  case accepted =>
    have hminor : (c.isa != 0 && l.batchKey != 0 && decide ((if c.isa / 16 == 3 then 0 else c.isa % 16) < 2)) = false := by
      rcases hbatch with h0 | h0 | ⟨h3, h2⟩
      · simp [h0]
      · simp [h0]
      · simp [h3, show ¬c.isa % 16 < 2 by omega]
    have hpass : firstErr [(!((0x32 ≤ bits l.param0 0 8 && bits l.param0 0 8 ≤ 0x35) || (0x40 ≤ bits l.param0 0 8 && bits l.param0 0 8 ≤ 0x43)),
        Err.isaVersion), (c.isa != 0 && l.batchKey != 0 && decide ((if c.isa / 16 == 3 then 0 else c.isa % 16) < 2), Err.featureLevel),
        (slotBad false l, Err.slot)] = none := by
      rw [(isaAccepted_iff _).1 hok, hminor, hslot]; rfl
    have e : s.dispatchHeader c.q =
        ((s.dispatched c (bits l.param0 0 8)).finish (immediate c c.head 0 l (s.isLate (s.deadlineOf c)) s.tick)).settle := by
      simp only [State.dispatchHeader, h.headOf, hroute, hpass, bne_self_eq_false, Bool.false_eq_true, if_false]
      rfl
    rw [e]
    exact h.completesAtOnce _
  case refused =>
    have e : s.dispatchHeader c.q = s.failLetter c Err.isaVersion l := by
      have hbad := mt (isaAccepted_iff _).2 hok
      rw [Bool.not_eq_true] at hbad
      simp only [State.dispatchHeader, h.headOf, hroute, hbad, firstErr, bne_self_eq_false, Bool.false_eq_true, if_false, Bool.not_false,
        if_true]
    rw [e]
    exact h.failLetter (by decide)
  case marker =>
    have e : s.dispatchMarker c.q = ((s.dispatched c c.isa).finish (immediate c c.head 0 l (s.isLate (s.deadlineOf c)) s.tick)).settle := by
      simp only [State.dispatchMarker, h.headOf, hroute, hchecks, bne_self_eq_false, Bool.false_eq_true, if_false]
      rfl
    rw [e]
    exact h.completesAtOnce c.isa

end Sys2Proof.Proofs

/-! SUPPORT. The end of an operation that ran (R150, R157, R171, R174, R221, R327, R328): what its destinations' histories and its
pages leave of the state and of its constituents. -/

namespace Sys2Proof.Machine

/-- What of a constituent neither its destinations nor its RECIPE events change. -/
def Part.fixed (p : Part) : Nat × Nat × Letter × Bool × List (Nat × Nat) × Nat := (p.queue, p.seq, p.letter, p.late, p.pins, p.replays)

/-- One operation is another with only destinations and RECIPE marks of its constituents changed (R175). -/
structure Op.SameRun (o o' : Op) : Prop where
  parts : o'.parts.map Part.fixed = o.parts.map Part.fixed
  rest : o' = { o with parts := o'.parts }

namespace Op

theorem SameRun.refl (o : Op) : o.SameRun o := ⟨rfl, rfl⟩

theorem SameRun.trans {o o' o'' : Op} (h : o.SameRun o') (g : o'.SameRun o'') : o.SameRun o'' where
  parts := g.parts.trans h.parts
  rest := by rw [g.rest, h.rest]

theorem sameRun_setPart {o : Op} {i : Nat} {p p' : Part} (hp : o.parts[i]? = some p) (h : p'.fixed = p.fixed) : o.SameRun (o.setPart i p') where
  parts := by
    change (o.parts.set i p').map Part.fixed = _
    obtain ⟨hlt, rfl⟩ := List.getElem?_eq_some_iff.1 hp
    rw [List.map_set, h, ← List.getElem_map Part.fixed (h := by simpa using hlt), List.set_getElem_self]
  rest := rfl

theorem SameRun.single {o o' : Op} {p : Part} (h : o.SameRun o') (hp : o.parts = [p]) : ∃ p', o'.parts = [p'] ∧ p'.fixed = p.fixed := by
  have hm := h.parts
  rw [hp, List.map_singleton, List.map_eq_singleton_iff] at hm
  exact hm

theorem SameRun.isSame {o o' : Op} (h : o.SameRun o') (x : Op) : x.isSame o' = x.isSame o := by
  have hm := h.parts
  unfold Op.isSame
  cases ho : o.parts with
  | nil =>
    rw [ho, List.map_nil, List.map_eq_nil_iff] at hm
    rw [hm]
  | cons p l =>
    rw [ho, List.map_cons, List.map_eq_cons_iff] at hm
    obtain ⟨p', l', ho', hfix, -⟩ := hm
    have hq : p'.queue = p.queue := congrArg Prod.fst hfix
    have hs : p'.seq = p.seq := congrArg (fun x => x.2.1) hfix
    rw [ho']
    cases x.parts with
    | nil => rfl
    | cons => simp only [hq, hs]

end Op

namespace State

/-- What the end of an operation does before its record leaves the port to the host as it is, and counts in the units given. -/
structure EndStep (us : List Nat) (s t : State) : Prop where
  frame : s.sameBut [.attic, .cellar, .larder, .host, .od, .meter, .bell, .mtr] t
  down : t.hostDown = s.hostDown
  units : s.ctrSame us t

theorem EndStep.refl (us : List Nat) (s : State) : EndStep us s s := ⟨.refl _ s, rfl, .refl us s⟩

theorem EndStep.trans {us : List Nat} {s t u : State} (h : EndStep us s t) (g : EndStep us t u) : EndStep us s u :=
  ⟨h.frame.step g.frame rfl, g.down.trans h.down, h.units.trans g.units⟩

theorem hostDown_of_frame {fs : List Fld} {s t : State} (h : s.sameBut fs t) (hod : Fld.od ∉ fs) : t.hostDown = s.hostDown := by
  rw [hostDown, hostDown, h.odv hod]

/-- Units that the end of an operation counts in besides its record. -/
def endUnits : List Nat := [Ctr.recipeEvents, Ctr.hostWriteDrops, Ctr.kvSketches]

theorem wr_hostDown (s : State) (sp : Space) (a n v : Nat) : (s.wr sp a n v).hostDown = s.hostDown :=
  hostDown_of_frame (wr_frame s sp a n v) (by decide)

theorem wr_endStep (s : State) (sp : Space) (a n v : Nat) : EndStep endUnits s (s.wr sp a n v) :=
  ⟨(wr_frame s sp a n v).mono rfl, wr_hostDown s sp a n v, (wr_ctrSame s sp a n v).mono (by decide)⟩

theorem setOd_hostDown (s : State) {k : Nat} (v : Nat) (h : k ≠ K.portState 0) : (s.setOd k v).hostDown = s.hostDown := by
  rw [hostDown, hostDown, odv_setOd_other s v (Ne.symm h)]

theorem recipe_endStep (s : State) (o : Op) (i : Nat) (isS : Bool) (cause a b : Nat) :
    EndStep endUnits s (s.recipe o i isS cause a b).1 ∧ o.SameRun (s.recipe o i isS cause a b).2 := by
  refine ⟨⟨(recipe_evolves s o i isS cause a b).frame, ?_, ?_⟩, ?_⟩
  · unfold recipe
    split <;> [rfl; split] <;> [rfl; skip]
    dsimp only
    split
    · rfl
    · split
      · exact (hostDown_of_frame (raise_evolves _ _).frame (by decide)).trans (setOd_hostDown _ _ (by decide))
      · exact (hostDown_of_frame (recipeLevel_evolves _).frame (by decide)).trans ((setOd_hostDown _ _ (by decide)).trans
          (by rw [wr_hostDown]; rfl))
  · unfold recipe
    split <;> [exact .refl _ s; split] <;> [exact .refl _ s; skip]
    dsimp only
    split
    · exact .refl _ s
    · have hcount : s.ctrSame endUnits ((s.count Ctr.recipeEvents 1).entryStat (‹Part›).letter.cassette 4 1) :=
        ((ctrSame_count s _ 1).trans (.of_meter rfl)).mono (by decide)
      split
      · exact hcount.trans (.of_meter (raise_meter ..))
      · exact (hcount.trans ((wr_ctrSame _ _ _ _ _).mono (by decide))).trans (.of_meter ((recipeLevel_evolves _).frame .meter (by decide)))
  · unfold recipe
    split
    · exact .refl o
    · next p hp =>
      split
      · exact .refl o
      · next d hd =>
        dsimp only
        split
        · exact .refl o
        · refine Op.sameRun_setPart hp ?_
          unfold Part.setDest
          split <;> rfl

/-- State and operation after a step at the end of a letter. -/
def EndPair (x y : State × Op) : Prop := EndStep endUnits x.1 y.1 ∧ x.2.SameRun y.2

theorem EndPair.refl (x : State × Op) : EndPair x x := ⟨.refl _ _, .refl _⟩

theorem EndPair.trans {x y z : State × Op} (h : EndPair x y) (g : EndPair y z) : EndPair x z := ⟨h.1.trans g.1, h.2.trans g.2⟩

theorem recipe_if_endPair (s : State) (o : Op) (hit : Bool) (i : Nat) (isS : Bool) (cause a b : Nat) :
    EndPair (s, o) (if hit then s.recipe o i isS cause a b else (s, o)) := by
  split
  · exact recipe_endStep s o i isS cause a b
  · exact .refl _

theorem endDest_endPair (s : State) (o : Op) (i : Nat) (isS : Bool) : EndPair (s, o) (s.endDest o i isS) := by
  unfold endDest
  split
  · exact .refl _
  · next p d _ =>
    extract_lets u h win ovf zb sb hit h' s1
    have hlist : EndStep endUnits s u := by
      unfold u
      split
      · exact .refl _ s
      · split
        · exact wr_endStep s _ _ _ _
        · exact .refl _ s
    split
    · exact ⟨hlist, .refl o⟩
    · have hhist : EndPair (s, o) (s1, o) := ⟨hlist.trans (show EndStep endUnits u s1 from wr_endStep u _ _ _ _), .refl o⟩
      exact ((hhist.trans (recipe_if_endPair _ _ _ _ _ _ _ _)).trans (recipe_if_endPair _ _ _ _ _ _ _ _)).trans (recipe_if_endPair _ _ _ _ _ _ _ _)

theorem EndPair.foldl {α : Type} {g : State × Op → α → State × Op} (hg : ∀ x a, EndPair x (g x a)) (l : List α) (x : State × Op) :
    EndPair x (l.foldl g x) := by
  induction l generalizing x with
  | nil => exact .refl x
  | cons a l ih => exact (hg x a).trans (ih _)

theorem EndStep.foldl {α : Type} {us : List Nat} {g : State → α → State} (hg : ∀ t a, EndStep us t (g t a)) (l : List α) (s : State) :
    EndStep us s (l.foldl g s) := by
  induction l generalizing s with
  | nil => exact .refl us s
  | cons a l ih => exact (hg s a).trans (ih _)

theorem count_endStep (s : State) (u n : Nat) (h : u ∈ endUnits) : EndStep endUnits s (s.count u n) :=
  ⟨(count_evolves s u n).frame.mono rfl, rfl, (ctrSame_count s u n).mono (by simpa using h)⟩

theorem put_endStep (s : State) (sp : Space) (f : Mem → Mem) : EndStep endUnits s (s.put sp f) :=
  ⟨(put_frame s sp f).mono rfl, hostDown_of_frame (put_frame s sp f) (by decide), (put_ctrSame s sp f).mono (by decide)⟩

theorem sketchPage_endStep (s : State) (c : KvCtx) (j f : Nat) : EndStep endUnits s (s.sketchPage c j f) := by
  have hheads : EndStep endUnits s ((List.range c.skHeads).foldl (fun st h =>
      let (codes, sc, nu) := st.headSketch c f (s.hdr c.pool f) h
      let st := st.wrBytes (spaceOf c.sketchSpace) (c.skMu j h) (codes.map (BitVec.ofNat 8))
      let st := st.wr (spaceOf c.sketchSpace) (c.skScale j h) 1 sc
      st.wr (spaceOf c.sketchSpace) (c.skNu j h) 4 nu.toNat) s) :=
    .foldl (fun t h => ((put_endStep t _ _).trans (wr_endStep _ _ _ _ _)).trans (wr_endStep _ _ _ _ _)) _ s
  exact (hheads.trans (wr_endStep _ _ _ _ _)).trans (count_endStep _ _ _ (by decide))

theorem endPages_endStep (s : State) (o : Op) : EndStep endUnits s (s.endPages o) := by
  refine .foldl (fun t p => ?_) o.parts s
  split
  · exact .refl _ t
  · dsimp only
    split
    · exact .refl _ t
    · split
      · exact .refl _ t
      · next d _ _ _ =>
        let c := t.kvCtx (bits p.letter.pageCtx 0 20)
        have hpages := EndStep.foldl (us := endUnits) (g := fun (a : State) (x : Nat × Nat) =>
          let h := a.hdr c.pool x.2
          let hi := (List.range (d.desc.localAt 1)).foldl (fun m l =>
            let q := d.desc.pos0 + l
            if c.entryOf q == x.1 % 2 ^ 21 then max m (q % c.page + 1) else m) 0
          let a := a.setHdr c.pool x.2 { h with tokens := max h.tokens hi }
          if c.sketchEn && h.tokens < c.page && max h.tokens hi == c.page then a.sketchPage c (x.1 % 2 ^ 21) x.2 else a)
          (fun a x => by
            dsimp only
            split
            · exact (wr_endStep _ _ _ _ _).trans (sketchPage_endStep _ _ _ _)
            · exact wr_endStep _ _ _ _ _) (o.kvFrames.filter fun x => x.1 / 2 ^ 21 == c.n) t
        split
        · exact hpages.trans (wr_endStep _ _ _ _ _)
        · exact hpages

end State

end Sys2Proof.Machine

/-! SUPPORT. LETTER_COMPLETION (R189, R207, R208, R221): the one record of an operation that is over. -/

namespace Sys2Proof.Machine

theorem Part.fixed_eq {p p' : Part} (h : p'.fixed = p.fixed) : p'.queue = p.queue ∧ p'.seq = p.seq ∧ p'.letter = p.letter ∧
    p'.late = p.late ∧ p'.pins = p.pins ∧ p'.replays = p.replays := by
  simpa only [Part.fixed, Prod.mk.injEq] using h

namespace State

/-! ### An operation that is over -/

/-- The Front Room's next state, once it can settle, leaves queues, letters, units, sources and memories as they are (R101). -/
theorem frontSettle_spec (s : State) : (∀ j, s.frontSettle.queueCore j = s.queueCore j) ∧ s.frontSettle.lb.ops = s.lb.ops ∧
    s.frontSettle.lb.fin = s.lb.fin ∧ s.sameBut [.od, .lb, .pwr] s.frontSettle := by
  refine ⟨fun j => ?_, ?_, ?_, (frontSettle_evolves s).frame⟩ <;> unfold frontSettle <;> split
  · rfl
  · split <;> [rfl; exact queueCore_settle _ j]
  · rfl
  · split <;> rfl
  · rfl
  · split <;> rfl

/-- Operation o runs no more; the Letterbox is otherwise as it was, and so are its errors, the Pilot time and the host port. -/
structure OpGone (s : State) (o : Op) (u : State) : Prop where
  lb : u.lb = { s.lb with ops := s.lb.ops.filter fun x => !x.isSame o }
  down : u.hostDown = s.hostDown
  errors : u.ctr Ctr.lbErrors = s.ctr Ctr.lbErrors
  tick : u.tick = s.tick

theorem OpGone.step {s u v : State} {o : Op} {fs : List Fld} (h : s.OpGone o u) (g : u.sameBut fs v)
    (hfs : ∀ f ∈ [Fld.lb, .od, .meter, .tick], f ∉ fs) : s.OpGone o v where
  lb := (g .lb (hfs _ (by decide))).trans h.lb
  down := (hostDown_of_frame g (hfs _ (by decide))).trans h.down
  errors := (ctrSame.of_meter (us := []) (g .meter (hfs _ (by decide))) _ (by simp)).trans h.errors
  tick := (g .tick (hfs _ (by decide))).trans h.tick

/-- With an operation its station stops, where it is disabled (R484). -/
theorem dropOp_gone {s w : State} {o o' : Op} (ho : o.SameRun o') (hlb : w.lb = s.lb) (hdown : w.hostDown = s.hostDown)
    (herr : w.ctr Ctr.lbErrors = s.ctr Ctr.lbErrors) (htick : w.tick = s.tick) : s.OpGone o (w.dropOp o') := by
  let v : State := { w with lb := { w.lb with ops := w.lb.ops.filter fun x => !x.isSame o' } }
  have hstop := (stopDisabled_evolves v).frame
  have hsame : (fun x : Op => !x.isSame o') = fun x => !x.isSame o := funext fun x => by rw [ho.isSame]
  refine ⟨(hstop .lb (by decide)).trans ?_, ?_, (stopDisabled_ctrSame v _ (by decide)).trans herr, (hstop .tick (by decide)).trans htick⟩
  · rw [← hlb, ← hsame]
  · have hport : (w.dropOp o').odv (K.portState 0) = v.odv (K.portState 0) :=
      odv_stopDisabled_other v (by decide) (noPllKey_of_ge (by decide))
    rw [hostDown, hport]
    exact hdown

theorem OpGone.queue {s u : State} {o : Op} (h : s.OpGone o u) (j : Nat) : u.queue? j = s.queue? j := by
  rw [queue?, h.lb]; rfl

theorem OpGone.ops {s u : State} {o : Op} (h : s.OpGone o u) : u.lb.ops = s.lb.ops.filter fun x => !x.isSame o := by rw [h.lb]

theorem OpGone.recordsFreely {s u : State} {o : Op} {q : Nat} {c : QCtx} (h : s.OpGone o u) (hs : s.RecordsFreely q c) : u.RecordsFreely q c where
  queue := (h.queue q).trans hs.queue
  notDisabling := hs.notDisabling
  notFlushing := hs.notFlushing
  alone := by rw [h.lb]; exact hs.alone
  cached := by rw [cacheRoom, h.lb]; exact hs.cached

/-- The letters that a Workshop operation was for are counted (R289). -/
def countWs (s : State) (o : Op) : State := if o.target == .workshop then s.count (Ctr.wsLetters + o.slot) o.parts.length else s

theorem countWs_spec (s : State) (o : Op) : s.sameBut [.meter] (s.countWs o) ∧ (s.countWs o).ctr Ctr.lbErrors = s.ctr Ctr.lbErrors := by
  unfold countWs
  split
  · refine ⟨(count_evolves s _ _).frame, ctrSame_count s _ _ _ ?_⟩
    simp only [List.mem_singleton, Ctr.lbErrors, Ctr.wsLetters]
    omega
  · exact ⟨.refl _ s, rfl⟩

/-- A stopped operation is over. -/
def stoppedGone (s : State) (o : Op) : State := (s.countWs o).dropOp o

theorem stoppedGone_spec (s : State) (o : Op) : s.OpGone o (s.stoppedGone o) := by
  obtain ⟨hf, herr⟩ := s.countWs_spec o
  exact dropOp_gone (.refl o) (hf .lb (by decide)) (hostDown_of_frame hf (by decide)) herr (hf .tick (by decide))

theorem endOp_stopped {s : State} {o : Op} {p : Part} (hp : o.parts = [p]) (he : o.error ≠ 0) :
    s.endOp o = (((s.stoppedGone o).haltQueue p.queue p.seq o.error).finish (finOf o p)).settle := by
  simp only [endOp, bne_iff_ne, ne_eq, he, not_false_eq_true, if_true, hp, List.foldl_cons, List.foldl_nil, List.map_cons, List.map_nil]
  simp only [stoppedGone, countWs, hp]

/-- What an operation does at its end when it was not stopped: histories and pages. -/
def endWork (s : State) (o : Op) : State × Op :=
  let x := (List.range o.parts.length).foldl (fun (x : State × Op) i =>
    let (s1, o1) := x.1.endDest x.2 i false
    s1.endDest o1 i true) (s, o)
  (x.1.endPages x.2, x.2)

theorem endWork_endPair (s : State) (o : Op) : EndPair (s, o) (s.endWork o) := by
  have hdests := EndPair.foldl (g := fun (x : State × Op) (i : Nat) =>
    let (s1, o1) := x.1.endDest x.2 i false
    s1.endDest o1 i true) (fun x i => (endDest_endPair x.1 x.2 i false).trans (endDest_endPair _ _ i true)) (List.range o.parts.length) (s, o)
  exact ⟨hdests.1.trans (endPages_endStep _ _), hdests.2⟩

/-- The letters that stored an output are counted for their cassette (R530). -/
def countEntries (s : State) (o : Op) : State :=
  o.parts.foldl (fun st p => if isLandingRoute p.letter.route then st.entryStat p.letter.cassette 0 1 else st) s

theorem countEntries_frame (s : State) (o : Op) : s.sameBut [.mtr] (s.countEntries o) :=
  .foldl (fun t p => by split <;> [exact (entryStat_evolves t _ _ _).frame; exact .refl _ t]) o.parts s

/-- Threads or drain streams go with their operation (R234, R240). -/
def releasePaths (s : State) (o : Op) : State := if o.room.isSome then s.releaseDrains o.station else s.dropStreams o.station

theorem releasePaths_frame (s : State) (o : Op) : s.sameBut [.porch] (s.releasePaths o) := by
  unfold releasePaths
  split <;> [exact (releaseDrains_evolves s _).frame; exact (dropStreams_evolves s _).frame]

/-- An operation whose work is done is over. -/
def doneGone (s : State) (o : Op) : State :=
  let x := s.endWork o
  (((x.1.countWs x.2).countEntries x.2).dropOp x.2).releasePaths x.2

theorem doneGone_spec (s : State) (o : Op) : s.OpGone o (s.doneGone o) := by
  obtain ⟨hend, hsame⟩ := s.endWork_endPair o
  obtain ⟨hws, hwsErr⟩ := (s.endWork o).1.countWs_spec (s.endWork o).2
  have hentries := ((s.endWork o).1.countWs (s.endWork o).2).countEntries_frame (s.endWork o).2
  have hf := (hend.frame.step hws rfl).step hentries rfl
  have hgone : s.OpGone o ((((s.endWork o).1.countWs (s.endWork o).2).countEntries (s.endWork o).2).dropOp (s.endWork o).2) := by
    refine dropOp_gone hsame (hf .lb (by decide)) ?_ ?_ (hf .tick (by decide))
    · exact (hostDown_of_frame hentries (by decide)).trans ((hostDown_of_frame hws (by decide)).trans hend.down)
    · exact (ctrSame.of_meter (us := []) (hentries .meter (by decide)) _ (by simp)).trans (hwsErr.trans (hend.units _ (by decide)))
  exact hgone.step (releasePaths_frame _ _) (by decide)

theorem endOp_done {s : State} {o : Op} (he : o.error = 0) :
    s.endOp o = ((((s.endWork o).2.parts.map (finOf (s.endWork o).2)).foldl State.finish (s.doneGone o))).settle := by
  have he' : (s.endWork o).2.error = 0 := (congrArg Op.error (s.endWork_endPair o).2.rest).trans he
  unfold endWork at he'
  dsimp only at he'
  unfold endOp doneGone endWork countWs countEntries releasePaths
  simp only [he, he', bne_self_eq_false, Bool.false_eq_true, if_false]

/-- The record of a letter that has run: it is written, and its queue and notifications are as the record leaves them. -/
theorem letter_ends {s u : State} {o : Op} {q : Nat} {c d : QCtx} {f : FinRec} (hs : s.RecordsFreely q c) (hgone : s.OpGone o u)
    {v : State} (hv : u.Took q d v) (hframe : u.sameBut [.lb] v) (hd : d.disabling = c.disabling) (hst : d.st ≠ .flushing)
    (hfq : f.queue = q) (hseq : f.seq = d.done) :
    let t := (v.finish f).settle.frontSettle
    (t.lb.ops = s.lb.ops.filter (fun x => !x.isSame o) ∧ (∀ g ∈ t.lb.fin, g.queue ≠ q) ∧ ∀ j, j ≠ q → t.queueCore j = s.queueCore j) ∧
      t.queueCore q = some { d.core with done := (f.seq + 1) % 2 ^ 32 } ∧
      t.ctr Ctr.lbErrors = (if f.error ≠ 0 then (s.ctr Ctr.lbErrors + 1) % 2 ^ 64 else s.ctr Ctr.lbErrors) ∧
      (f.notify = true → d.notifySrc ∈ t.bell.level) ∧
      (f.pins = [] → s.crReach d → t.record d f.seq = f.mainWord d s.tick % 2 ^ 256) := by
  have hu := hgone.recordsFreely hs
  have hfree : v.RecordsFreely q d := ⟨hv.self, hd.trans hs.notDisabling, hst, fun g hg => hu.alone g (hv.fin ▸ hg), hv.cached⟩
  have he := finish_settle_spec hfree hfq
  intro t
  obtain ⟨hq, hops, hfin, hf⟩ := (v.finish f).settle.frontSettle_spec
  have herr : v.ctr Ctr.lbErrors = s.ctr Ctr.lbErrors :=
    (ctrSame.of_meter (us := []) (hframe .meter (by decide)) _ (by simp)).trans hgone.errors
  have htick : v.tick = s.tick := (hframe .tick (by decide)).trans hgone.tick
  have hbell : t.bell = (v.finish f).settle.bell := hf .bell (by decide)
  refine ⟨⟨hops.trans (he.ops.trans (hv.ops.trans hgone.ops)), fun g hg => ?_, fun j hj => ?_⟩, (hq q).trans (he.self.trans ?_), ?_,
    fun hn => hbell ▸ he.notified hseq hn, fun hp hr => ?_⟩
  · rw [show t.lb.fin = _ from hfin, he.fin hseq] at hg
    exact hfree.alone g hg
  · rw [show t.queueCore j = _ from hq j, he.others j hj, hv.others hj, queueCore, hgone.queue]; rfl
  · rw [QCtx.core_finished, if_pos hseq.symm, hseq]
  · rw [← herr, ← he.errors hseq]
    exact ctrSame.of_meter (us := []) (hf .meter (by decide)) _ (by simp)
  · have hr' : v.crReach d := by rwa [crReach, hostDown_of_frame hframe (by decide), hgone.down]
    have hst := he.stored hseq hp hr'
    rw [htick] at hst
    exact (record_congr (hf.mem (by decide) (by decide) (by decide) (by decide)) d f.seq).trans hst

end State

end Sys2Proof.Machine

namespace Sys2Proof.Proofs

open Sys2Proof Sys2Proof.Machine

/-- Settles O20: the operation is gone from those that run (State.stoppedGone_spec, State.doneGone_spec), and its one letter's record
is written (State.letter_ends), after the halt of its queue where it was stopped. -/
theorem lettersComplete : Obligations.LettersComplete := by
  intro s o p c hfind hparts htarget hq hdone hdis hst halone hroom hclose ends
  have hfree : s.RecordsFreely p.queue c := ⟨hq, hdis, hst, halone, hroom⟩
  have hexec : (o.error ≠ 0 ∨ o.workDone = true) → exec (.letterCompletion p.queue p.seq) s = .next (s.endOp o).frontSettle := by
    intro h
    have hpel : (o.target == .peloton) = false := by simpa using htarget
    have hends : (o.error != 0 || o.workDone) = true := by simpa using h
    have e : s.completeLetter p.queue p.seq = s.endOp o := by
      simp only [State.completeLetter, State.letterCompletion, hfind, hpel, hends, Bool.false_eq_true, if_false, if_true]
    exact congrArg (fun t : State => Host.Outcome.next t.frontSettle) e
  refine ⟨fun he => ⟨_, hexec (.inl he), ?stopped⟩, fun he hwork => ⟨_, hexec (.inr hwork), ?done⟩⟩
  case stopped =>
    have hgone := s.stoppedGone_spec o
    have hu := hgone.recordsFreely hfree
    obtain ⟨hend, hself, herr, hnotify, hrec⟩ := State.letter_ends (f := finOf o p) hfree hgone
      (State.haltQueue_took hu.queue hst hu.cached p.seq o.error) (State.haltQueue_evolves _ _ _ _).frame rfl
      (show QState.halted ≠ .flushing by decide) rfl hdone.symm
    rw [State.endOp_stopped hparts he]
    refine ⟨hend, hself, herr.trans (if_pos he), hnotify ?_, hrec⟩
    simp [finOf, he]
  case done =>
    obtain ⟨p', hp', hfixed⟩ := (s.endWork_endPair o).2.single hparts
    have hrest := (s.endWork_endPair o).2.rest
    obtain ⟨hpq, hps, hpl, hplate, hppins, hpr⟩ := Part.fixed_eq hfixed
    let f := finOf (s.endWork o).2 p'
    have hgone := s.doneGone_spec o
    have hu := hgone.recordsFreely hfree
    have hsame : (s.doneGone o).Took p.queue c (s.doneGone o) :=
      ⟨fun j => by split <;> [(next h => rw [h]; exact hu.queue); rfl], rfl, rfl, rfl, hu.cached⟩
    have hferr : f.error = 0 := (congrArg Op.error hrest).trans he
    have hfreplays : f.replays = o.replaysOf p := congr (congrArg HAdd.hAdd (congrArg Op.replays hrest)) hpr
    have hfdispatch : f.dispatchTick = o.dispatchTick := (congrArg Op.dispatchTick hrest).trans rfl
    have hend := State.letter_ends (f := f) hfree hgone hsame (.refl _ _) rfl hst hpq (hps.trans hdone.symm)
    have e : s.endOp o = ((s.doneGone o).finish f).settle := by
      rw [State.endOp_done he, hp']
      rfl
    rw [← e, show f.seq = p.seq from hps, hferr] at hend
    obtain ⟨hends, hself, herr, hnotify, hrec⟩ := hend
    refine ⟨hends, hself, herr, fun hn => hnotify ?_, fun hpins hreach => ⟨f, hrec (hppins.trans hpins) hreach, hpq, hps, hferr, hfreplays,
      hfdispatch, hplate, congrArg Letter.userTag hpl⟩⟩
    change (p'.letter.notify || _) = true
    rw [hpl, hn]
    rfl

end Sys2Proof.Proofs

/-! SUPPORT. Dispatch of letters to a target (R216 to R219): the launch of the parts of one operation. -/

namespace Sys2Proof.Machine

/-- What names a constituent. -/
def Part.name (p : Part) : Nat × Nat × Letter := (p.queue, p.seq, p.letter)

namespace State

theorem pinReads_spec (s : State) (parts : List Part) : (s.pinReads parts).2.map Part.name = parts.map Part.name ∧
    s.ctrSame [Ctr.hostWriteDrops] (s.pinReads parts).1 := by
  have hpin : ∀ (pins : List (Nat × Nat)) (t : State), t.ctrSame [Ctr.hostWriteDrops] (pins.foldl (fun a x => a.pinFrame x.1 x.2) t) :=
    fun pins t => .foldl (fun a x => wr_ctrSame a _ _ _ _) pins t
  unfold pinReads
  suffices h : ∀ (l : List Part) (x : State × List Part),
      let y := l.foldl (fun (st : State × List Part) p =>
        let (kv, pins) := st.1.pagedRun p.letter p.a p.b
        (pins.foldl (fun a x => a.pinFrame x.1 x.2) st.1, st.2 ++ [{ p with kv := kv, pins := pins }])) x
      y.2.map Part.name = x.2.map Part.name ++ l.map Part.name ∧ x.1.ctrSame [Ctr.hostWriteDrops] y.1 from h parts (s, [])
  intro l
  induction l with
  | nil => exact fun x => ⟨by simp, .refl _ x.1⟩
  | cons p l ih =>
    intro x
    obtain ⟨hnames, hctr⟩ := ih (_, _)
    refine ⟨hnames.trans ?_, (hpin _ x.1).trans hctr⟩
    simp [Part.name]

/-- The lateness of each constituent that is late is noted (R218). -/
def noteLates (s : State) (parts : List Part) : State :=
  parts.foldl (fun st p => if s.isLate p.deadline then st.noteLate p.queue else st) s

theorem noteLate_lb (s : State) (q : Nat) : (s.noteLate q).lb.ops = s.lb.ops ∧ (s.noteLate q).lb.gathers = s.lb.gathers ∧
    s.ctrSame [Ctr.lbLate] (s.noteLate q) := by
  unfold noteLate
  dsimp only
  split
  · exact ⟨rfl, rfl, ctrSame_count s _ _⟩
  · exact ⟨rfl, rfl, ctrSame_count s _ _⟩

theorem noteLates_spec (s : State) (parts : List Part) : (s.noteLates parts).lb.ops = s.lb.ops ∧
    (s.noteLates parts).lb.gathers = s.lb.gathers ∧ s.ctrSame [Ctr.lbLate] (s.noteLates parts) ∧ s.sameBut [.meter, .lb] (s.noteLates parts) := by
  unfold noteLates
  suffices h : ∀ t : State, let u := parts.foldl (fun st p => if s.isLate p.deadline then st.noteLate p.queue else st) t
      u.lb.ops = t.lb.ops ∧ u.lb.gathers = t.lb.gathers ∧ t.ctrSame [Ctr.lbLate] u ∧ t.sameBut [.meter, .lb] u from h s
  induction parts with
  | nil => exact fun t => ⟨rfl, rfl, .refl _ t, .refl _ t⟩
  | cons p l ih =>
    intro t
    obtain ⟨hops, hgathers, hctr, hf⟩ := ih (if s.isLate p.deadline then t.noteLate p.queue else t)
    rw [List.foldl_cons]
    by_cases hlate : s.isLate p.deadline = true
    · obtain ⟨hops', hgathers', hctr'⟩ := t.noteLate_lb p.queue
      simp only [hlate, if_true] at hops hgathers hctr hf ⊢
      exact ⟨hops.trans hops', hgathers.trans hgathers', hctr'.trans hctr, (noteLate_evolves t _).frame.step hf rfl⟩
    · simp only [hlate, Bool.false_eq_true, if_false] at hops hgathers hctr hf ⊢
      exact ⟨hops, hgathers, hctr, hf⟩

/-- An operation formed now of the letters named (R225, R438). -/
structure FormedNow (s : State) (tg : Target) (slot : Nat) (names : List (Nat × Nat × Letter)) (o : Op) : Prop where
  target : o.target = tg
  slot : o.slot = slot
  started : o.started = false
  error : o.error = 0
  captain : o.captain = s.captain
  tick : o.dispatchTick = s.tick
  names : o.parts.map Part.name = names

/-- Letters are launched: they run from now on as one operation, and are counted (R205, R219). -/
theorem launch_spec (s : State) (tg : Target) (slot : Nat) (parts : List Part) :
    (∀ j, (s.launch tg slot parts).queueCore j = (s.noteLates parts).queueCore j) ∧
      (s.launch tg slot parts).lb.gathers = s.lb.gathers ∧
      (s.launch tg slot parts).ctr Ctr.lbDispatched = (s.ctr Ctr.lbDispatched + parts.length) % 2 ^ 64 ∧
      (1 < parts.length → (s.launch tg slot parts).ctr Ctr.lbMerges = (s.ctr Ctr.lbMerges + 1) % 2 ^ 64) ∧
      (∃ o, (s.launch tg slot parts).lb.ops = s.lb.ops ++ [o] ∧ s.FormedNow tg slot (parts.map Part.name) o) ∧
      s.ctrSame [Ctr.lbDispatched, Ctr.lbMerges, Ctr.lbLate, Ctr.hostWriteDrops, Ctr.porchThreadCap, Ctr.porchSector] (s.launch tg slot parts) ∧
      s.sameBut [.attic, .cellar, .larder, .host, .meter, .lb, .porch] (s.launch tg slot parts) := by
  let late := parts.map fun p => { p with late := s.isLate p.deadline }
  let u := late.foldl (fun st p => if p.late then st.noteLate p.queue else st) s
  have hu : u = s.noteLates parts := by unfold u late noteLates; rw [List.foldl_map]
  obtain ⟨huops, hugathers, huctr, huf⟩ := s.noteLates_spec parts
  rw [← hu] at huops hugathers huctr huf ⊢
  let x := u.pinReads late
  obtain ⟨hnames, hpctr⟩ : x.2.map Part.name = late.map Part.name ∧ u.ctrSame [Ctr.hostWriteDrops] x.1 := u.pinReads_spec late
  have hpf : u.sameBut [.attic, .cellar, .larder, .host, .meter] x.1 := (pinReads_evolves u late).frame
  have hlen : x.2.length = parts.length := by simpa [late] using congrArg List.length hnames
  let o := mkOp x.1 tg slot x.2 (decide (1 < parts.length))
  let y := (x.1.count Ctr.lbDispatched x.2.length).count Ctr.lbMerges (if 1 < parts.length then 1 else 0)
  let v := y.countStreams o
  let w := v.setupStreams o
  have hlaunch : s.launch tg slot parts = ({ w.1 with lb := { w.1.lb with ops := w.1.lb.ops ++ [w.2] } } : State).settle := rfl
  have hy : x.1.sameBut [.meter] y := (count_evolves x.1 _ _).frame.step (count_evolves _ _ _).frame rfl
  have hv : y.sameBut [.meter] v := (countStreams_evolves _ _).frame
  have hw : v.sameBut [.porch] w.1 := (setupStreams_evolves v o).frame
  have hf : s.sameBut [.attic, .cellar, .larder, .host, .meter, .lb, .porch] w.1 :=
    ((((huf.mono rfl).step hpf rfl).step hy rfl).step hv rfl).step hw rfl
  have hlb : w.1.lb = u.lb := (hw .lb (by decide)).trans ((hv .lb (by decide)).trans ((hy .lb (by decide)).trans (hpf .lb (by decide))))
  have hunits : ∀ k, k ≠ Ctr.porchThreadCap → k ≠ Ctr.porchSector → (s.launch tg slot parts).ctr k = y.ctr k := fun k h1 h2 => by
    rw [hlaunch, settle_ctr]
    exact (ctrSame.of_meter (us := []) (hw .meter (by decide)) k (by simp)).trans (countStreams_ctrSame y o k (by simp [h1, h2]))
  have hbase : ∀ k, k ≠ Ctr.hostWriteDrops → k ≠ Ctr.lbLate → x.1.ctr k = s.ctr k := fun k h1 h2 =>
    (hpctr k (by simp [h1])).trans (huctr k (by simp [h2]))
  refine ⟨fun j => ?_, ?_, ?_, fun hmany => ?_, ⟨w.2, ?_, rfl, rfl, rfl, rfl, ?_, ?_, ?_⟩, fun k hk => ?_, ?_⟩
  · rw [hlaunch, queueCore_settle]
    simp only [queueCore, queue?, hlb]
  · exact (congrArg LbState.gathers hlb).trans hugathers
  · rw [hunits _ (by decide) (by decide), ctr_count, if_neg (by decide), ctr_count, if_pos rfl, hbase _ (by decide) (by decide), hlen]
  · rw [hunits _ (by decide) (by decide), ctr_count, if_pos rfl, if_pos hmany, ctr_count, if_neg (by decide), hbase _ (by decide) (by decide)]
  · exact (congrArg (fun l : LbState => l.ops ++ [w.2]) hlb).trans (congrArg (· ++ [w.2]) huops)
  · exact (hpf .captain (by decide)).trans (huf .captain (by decide))
  · exact (hpf .tick (by decide)).trans (huf .tick (by decide))
  · exact hnames.trans (by simp [late, Part.name])
  · simp only [List.mem_cons, List.not_mem_nil, or_false, not_or] at hk
    obtain ⟨h1, h2, h3, h4, h5, h6⟩ := hk
    rw [hunits k h5 h6, ctr_count, if_neg h2, ctr_count, if_neg h1, hbase k h4 h3]
  · rw [hlaunch]
    exact (hf.step (setLb_sameBut w.1 _) rfl).step (settle_frame _) rfl

/-- Units that the launch of a head letter counts in. -/
def launchUnits : List Nat :=
  [Ctr.lbCtxMiss, Ctr.lbDispatched, Ctr.lbMerges, Ctr.lbLate, Ctr.hostWriteDrops, Ctr.porchThreadCap, Ctr.porchSector]

/-- The head letter of a queue is launched as an operation of its own, whatever pages it reads. -/
theorem launch_head_spec {s : State} {q : Nat} {c : QCtx} {l : Letter} (hqueue : s.queue? q = some c) (hroom : s.cacheRoom q) (tg : Target)
    (slot : Nat) {p : Part} (hname : p.name = (q, c.head, l)) (hdl : p.deadline = s.deadlineOf c) :
    s.launched q c l tg slot ((s.advanceHead c).launch tg slot [p]) ∧
      ((s.advanceHead c).launch tg slot [p]).lb.gathers = s.lb.gathers ∧ s.ctrSame launchUnits ((s.advanceHead c).launch tg slot [p]) ∧
      s.sameBut [.attic, .cellar, .larder, .host, .meter, .lb, .porch] ((s.advanceHead c).launch tg slot [p]) := by
  obtain ⟨htook, hadv, hctr⟩ := retouch_took (d := c.left false c.isa) hqueue (show c.q = q from queue_q hqueue) hroom
  obtain ⟨hself, hother, -, -⟩ := advanceHead_late_spec hqueue hroom (s.isLate (s.deadlineOf c))
  obtain ⟨lq, lgathers, lctr, -, ⟨o, lops, lo⟩, lunits, lf⟩ := (s.advanceHead c).launch_spec tg slot [p]
  have hq : p.queue = q := congrArg Prod.fst hname
  have hlate : (s.advanceHead c).noteLates [p] =
      if s.isLate (s.deadlineOf c) then (s.advanceHead c).noteLate q else s.advanceHead c := by
    have htick : (s.advanceHead c).tick = s.tick := hadv .tick (by decide)
    have e : (s.advanceHead c).isLate p.deadline = s.isLate (s.deadlineOf c) := by unfold isLate; rw [htick, hdl]
    simp only [noteLates, List.foldl_cons, List.foldl_nil, e, hq]
  rw [hlate] at lq
  refine ⟨⟨(lq q).trans hself, fun j hj => (lq j).trans (hother j hj), ?_, o, lops.trans (congrArg (· ++ [o]) htook.ops), lo.target,
    lo.slot, lo.started, lo.error, lo.captain.trans (hadv .captain (by decide)), lo.tick.trans (hadv .tick (by decide)), ?_⟩,
    lgathers.trans htook.gathers, (hctr.mono (by decide)).trans (lunits.mono (by decide)), (hadv.mono rfl).step lf rfl⟩
  · rw [lctr, show (s.advanceHead c).ctr Ctr.lbDispatched = s.ctr Ctr.lbDispatched from hctr _ (by decide)]
    rfl
  · have hnames := lo.names
    rw [List.map_singleton, hname] at hnames
    exact hnames

/-- A letter that may be dispatched to its target now: nothing holds it, no gather takes it, its queue is chosen, and a slot is free
for it (R216 to R219). -/
structure Dispatches (s : State) (q : Nat) (c : QCtx) (l : Letter) (tg : Target) (slot : Nat) : Prop where
  target : targetOf l = some tg
  joins : ∀ g ∈ s.lb.gathers, g.joins c l = false
  chosen : s.chosen q tg = true
  free : s.dispatchHeld tg l = false
  slot : s.freeSlot tg = some slot
  valid : (validate s c l).err = none

theorem dispatchLetter_eq {s : State} {q : Nat} {c : QCtx} {l : Letter} {tg : Target} {slot : Nat} {want : Letter → Bool}
    (h : s.HeadIs q c l) (hd : s.Dispatches q c l tg slot) (hw : want l = true) : s.dispatchLetter q want =
    if c.kind == 4 && l.batchKey != 0 then
      ((s.advanceHead c).addGather ⟨s.tick, s.cap K.gatherTicks, tg, slot, [mkPart s c l (validate s c l)]⟩).settle
    else (s.advanceHead c).launch tg slot [mkPart s c l (validate s c l)] := by
  have hjoin : s.lb.gathers.find? (fun g => g.joins c l) = none := List.find?_eq_none.2 fun g hg => by simp [hd.joins g hg]
  simp only [dispatchLetter, h.headOf, hd.target, hw, hd.free, hjoin, hd.chosen, hd.slot, hd.valid, Bool.not_true, Bool.false_eq_true,
    if_false]

/-- A letter of a DECODE queue with a BATCH_KEY starts a gather in the slot it would take (R219). -/
theorem HeadIs.gathers {s : State} {q : Nat} {c : QCtx} {l : Letter} (h : s.HeadIs q c l) (g : Gather) :
    ((s.advanceHead c).addGather g).settle.queueCore q = some (c.sent false) ∧
      ((s.advanceHead c).addGather g).settle.lb.ops = s.lb.ops ∧
      ((s.advanceHead c).addGather g).settle.lb.gathers = s.lb.gathers ++ [g] := by
  obtain ⟨htook, -, -⟩ := retouch_took (d := c.left false c.isa) h.queue (show c.q = q from queue_q h.queue) h.cached
  refine ⟨(queueCore_settle _ q).trans (congrArg (Option.map QCtx.core) htook.self), htook.ops, ?_⟩
  exact congrArg (· ++ [g]) htook.gathers

/-! ### Time -/

theorem bellTicks_ctrSame (s : State) (n : Nat) : s.ctrSame [Ctr.bellHeld] (s.bellTicks n) := by
  have hroutes : s.sameBut [.bell] (s.bell.newRoutes.foldl (fun (t : State) (x : Nat × Nat) => t.bellReroute x.1 x.2) s) :=
    .foldl (fun (t : State) (x : Nat × Nat) => (bellReroute_evolves t x.1 x.2).frame) _ s
  have hmeter : (s.bell.newRoutes.foldl (fun (t : State) (x : Nat × Nat) => t.bellReroute x.1 x.2) s).meter = s.meter := hroutes .meter (by decide)
  unfold bellTicks
  extract_lets u held b v
  have hv : v.meter = s.meter := hmeter
  split
  · exact .of_meter hv
  · exact (ctrSame.of_meter hv).trans (ctrSame_count v _ _)

/-- Ticks are counted at the throttle level, and while the global disable holds a target (R475, R534). -/
theorem runTicks_ctr (s : State) (n : Nat) {k : Nat} (hk : k < Ctr.thermTicks) (hb : k ≠ Ctr.bellHeld) : (s.runTicks n).ctr k = s.ctr k := by
  have hbell := bellTicks_ctrSame { s with tick := (s.tick + n) % 2 ^ 64 } n k (by simpa using hb)
  unfold runTicks
  split
  · rfl
  · extract_lets u
    split
    · rw [ctr_count, if_neg (by omega)]
      exact hbell
    · exact hbell

theorem atLeast_ctr (s : State) (n : Nat) {k : Nat} (hk : k < Ctr.thermTicks) (hb : k ≠ Ctr.bellHeld) : (s.atLeast n).ctr k = s.ctr k := by
  unfold atLeast ticks
  split
  · exact runTicks_ctr s _ hk hb
  · split
    · rw [runTicks_ctr _ _ hk hb]
      exact runTicks_ctr s _ hk hb
    · exact runTicks_ctr s _ hk hb

/-! ### The end of a gather -/

/-- A gather whose letters all still pass runs as one operation (R219). -/
theorem endGather_eq {s : State} {g : Gather} (hg : s.gatherEnding = some g) (hne : g.parts ≠ [])
    (hheld : s.targetHeld g.target (g.parts.any (·.hasList)) = false)
    (hok : ∀ p ∈ g.parts, (if g.parts.length < 4096 then s.atLeast (g.startTick + g.limit) else s).gatherErr p = none) :
    s.endGather = ((if g.parts.length < 4096 then s.atLeast (g.startTick + g.limit) else s).dropGather g).launch g.target g.slot g.parts := by
  generalize hu : (if g.parts.length < 4096 then s.atLeast (g.startTick + g.limit) else s) = u at hok ⊢
  have hgood : (g.parts.filter fun p => (u.gatherErr p).isNone) = g.parts := List.filter_eq_self.2 fun p hp => by rw [hok p hp]; rfl
  have hbad : (g.parts.filterMap fun p => (u.gatherErr p).map fun e => (p, e)) = [] :=
    List.filterMap_eq_nil_iff.2 fun p hp => by rw [hok p hp]; rfl
  have hsome : g.parts.isEmpty = false := by simpa using hne
  simp only [endGather, hg, hheld, hu, hgood, hbad, hsome, List.foldl_nil, Bool.false_eq_true, if_false]

end State

/-- The commands of the sixteen programs dispatch the head letter when it is one of theirs. -/
theorem exec_dispatches (q : Nat) (s : State) : ∀ x ∈ ([(.frontProduct q, fun l => l.route = 1), (.backProduct q, fun l => l.route = 2),
      (.copyConvert q, fun l => l.route = 8), (.copyTranspose q, fun l => l.route = 9)] : List (Instr × (Letter → Prop))) ++
      ([(.softmaxBlock q, 1), (.softmaxFinish q, 2), (.attnCombine q, 3), (.softmaxBwd q, 4), (.rmsnorm q, 0x10), (.rmsnormBwd q, 0x11),
        (.layernorm q, 0x12), (.gatedSilu q, 0x20), (.gatedSiluBwd q, 0x21), (.ewAxpby q, 0x30), (.toppSelect q, 0x40)] :
        List (Instr × Nat)).map (fun y => (y.1, fun l : Letter => (l.route = 4 ∨ l.route = 5) ∧ l.prog % 4096 = y.2)) ++
      [(.librarySpecificProgram q, fun l : Letter => (l.route = 4 ∨ l.route = 5) ∧
         l.prog % 4096 ∉ [1, 2, 3, 4, 0x10, 0x11, 0x12, 0x20, 0x21, 0x30, 0x40])],
    ∃ want : Letter → Bool, exec x.1 s = .next (s.dispatching fun t => t.dispatchLetter q want) ∧ ∀ l, x.2 l → want l = true := by
  intro x hx
  simp only [List.map_cons, List.map_nil, List.cons_append, List.nil_append, List.mem_cons, List.not_mem_nil, or_false] at hx
  rcases hx with rfl | rfl | rfl | rfl | rfl | rfl | rfl | rfl | rfl | rfl | rfl | rfl | rfl | rfl | rfl | rfl
  all_goals exact ⟨_, rfl, fun l hl => by simpa [isWsRoute, standardProgram] using hl⟩

end Sys2Proof.Machine

namespace Sys2Proof.Proofs

open Sys2Proof Sys2Proof.Machine

/-- Settles O12: each command dispatches its letter (exec_dispatches, State.dispatchLetter_eq), which is launched alone or starts a
gather; a gather that ends is launched whole (State.endGather_eq, State.launch_spec). -/
theorem lettersAreDispatched : Obligations.LettersAreDispatched := by
  intro s ws cmds
  refine ⟨fun q c l tg slot x hx hl hhead htarget hjoins hchosen hfree hslot hvalid => ?letter, fun g hg hne hheld hok => ?gather⟩
  case letter =>
    obtain ⟨want, hexec, hwant⟩ := exec_dispatches q s x hx
    rw [State.dispatching_awake hhead.running] at hexec
    have hd : s.Dispatches q c l tg slot := ⟨htarget, hjoins, hchosen, hfree, hslot, hvalid⟩
    have hname : (mkPart s c l (validate s c l)).name = (q, c.head, l) := by rw [← State.queue_q hhead.queue]; rfl
    refine ⟨_, hexec, ?_⟩
    beta_reduce
    rw [State.dispatchLetter_eq hhead hd (hwant l hl)]
    refine ⟨fun halone => ?_, fun hkind hkey => ?_⟩
    · have hsingle : (c.kind == 4 && l.batchKey != 0) = false := by
        rcases halone with h | h <;> simp [h]
      obtain ⟨hlaunched, hgathers, -⟩ := State.launch_head_spec hhead.queue hhead.cached tg slot hname rfl
      rw [hsingle, if_neg Bool.false_ne_true]
      exact ⟨hlaunched, hgathers⟩
    · have hbatch : (c.kind == 4 && l.batchKey != 0) = true := by simp [hkind, hkey]
      obtain ⟨hself, hops, hgathers⟩ := hhead.gathers ⟨s.tick, s.cap K.gatherTicks, tg, slot, [mkPart s c l (validate s c l)]⟩
      rw [hbatch, if_pos rfl]
      exact ⟨hself, hops, _, hgathers, rfl, rfl, rfl, congrArg (fun n => [n]) hname⟩
  case gather =>
    refine ⟨_, rfl, ?_⟩
    rw [State.endGather_eq hg hne hheld hok]
    generalize hu : (if g.parts.length < 4096 then s.atLeast (g.startTick + g.limit) else s) = u
    have hf : s.sameBut [.meter, .tick, .bell, .mtr] u := by
      rw [← hu]
      split <;> [exact (State.atLeast_evolves s _).frame; exact .refl _ s]
    have hctr : ∀ k, k < Ctr.thermTicks → k ≠ Ctr.bellHeld → u.ctr k = s.ctr k := by
      intro k hk hb
      rw [← hu]
      split <;> [exact State.atLeast_ctr s _ hk hb; rfl]
    have htick : u.tick = if g.parts.length < 4096 ∧ s.tick < g.startTick + g.limit then (g.startTick + g.limit) % 2 ^ 64 else s.tick := by
      rw [← hu]
      by_cases hlen : g.parts.length < 4096
      · rw [if_pos hlen, State.atLeast_tick]
        simp [hlen]
      · simp [hlen]
    have hlb : u.lb = s.lb := hf .lb (by decide)
    obtain ⟨-, hgathers, hdispatched, hmerges, ⟨o, hops, ho⟩, -, hframe⟩ := (u.dropGather g).launch_spec g.target g.slot g.parts
    refine ⟨hgathers.trans ?_, (hframe .tick (by decide)).trans htick, hdispatched.trans ?_, fun hmany => (hmerges hmany).trans ?_, o,
      hops.trans ?_, ho.target, ho.slot, ho.captain.trans (hf .captain (by decide)), ho.names⟩
    · exact congrArg (fun b : LbState => b.gathers.filter fun x => !x.isSame g) hlb
    · exact congrArg (fun n => (n + g.parts.length) % 2 ^ 64) (hctr _ (by decide) (by decide))
    · exact congrArg (fun n => (n + 1) % 2 ^ 64) (hctr _ (by decide) (by decide))
    · rw [← hlb]; rfl

end Sys2Proof.Proofs

/-! SUPPORT. Letters that Glazia or the Peloton refuses once they are dispatched (R189, R205, R355, R357): the codes their checks can
give, and the end of a letter refused. -/

namespace Sys2Proof.Machine

/-! ### Codes -/

/-- Codes of letters that their engine refuses after dispatch, and not validation (log 52). -/
def refusedAfterDispatch (e : Nat) : Prop := (0x58 ≤ e ∧ e ≤ 0x5E) ∨ (0x68 ≤ e ∧ e ≤ 0x6B) ∨ e = Err.badScale

/-- The error of a list of checks is one of their codes. -/
theorem firstErr_mem {l : List (Bool × Nat)} {e : Nat} (h : firstErr l = some e) : e ∈ l.map (·.2) := by
  induction l with
  | nil => simp [firstErr] at h
  | cons x t ih =>
    obtain ⟨bad, code⟩ := x
    unfold firstErr at h
    split at h
    · simp_all
    · exact List.mem_cons_of_mem _ (ih h)

/-- The error of checks none of whose codes is 0 is not 0. -/
theorem firstErr_ne_zero {l : List (Bool × Nat)} {e : Nat} (h : firstErr l = some e) (hl : ∀ x ∈ l.map (·.2), x ≠ 0) : e ≠ 0 :=
  hl e (firstErr_mem h)

theorem codes_checks123 (c : QCtx) (l : Letter) :
    (checks123 c l).map (·.2) = [Err.isaVersion, Err.featureLevel, Err.route, Err.kindRoute, Err.slot] := rfl

theorem codes_gzChecks (s : State) (c : QCtx) (l : Letter) : (gzChecks s c l).map (·.2) =
    [Err.isaVersion, Err.featureLevel, Err.route, Err.kindRoute, Err.slot, Err.slot, Err.stationOff] := rfl

theorem codes_checks4to8 (s : State) (c : QCtx) (l : Letter) (a b d st : SlotRead) : (checks4to8 s c l a b d st).map (·.2) =
    [Err.descAlign, Err.descPoison, Err.rank, Err.featureLevel, Err.formatCode, Err.formatMix, Err.formatBlock, Err.scaleSet,
      Err.featureLevel, Err.shard] := rfl

theorem codes_pagedChecks (s : State) (l : Letter) (a b d st : SlotRead) : (pagedChecks s l a b d st).map (·.2) = [] ∨
    (pagedChecks s l a b d st).map (·.2) = [Err.kvContext, Err.kvPaged, Err.kvRange, Err.kvFrame] := by
  unfold pagedChecks
  dsimp only
  split
  · exact .inl rfl
  · exact .inr rfl

theorem codes_checks11to12_ne_zero (s : State) (l : Letter) (a b d st : SlotRead) : ∀ x ∈ (checks11to12 s l a b d st).map (·.2), x ≠ 0 := by
  intro x hx
  rw [checks11to12, List.map_append, List.mem_append] at hx
  rcases hx with hx | hx
  · exact (by decide : ∀ x ∈ [Err.strideAlias, Err.addressRange], x ≠ 0) x hx
  · rcases codes_pagedChecks s l a b d st with h | h
    · simp [h] at hx
    · rw [h] at hx
      exact (by decide : ∀ x ∈ [Err.kvContext, Err.kvPaged, Err.kvRange, Err.kvFrame], x ≠ 0) x hx

/-- None of the checks of a QUANT letter has the code 0. -/
theorem quantErr_ne_zero {s : State} {c : QCtx} {l : Letter} {a d : SlotRead} {e : Nat} (h : s.quantErr c l a d = some e) : e ≠ 0 := by
  refine firstErr_ne_zero h fun x hx => ?_
  simp only [List.map_append, List.mem_append, codes_checks123, codes_checks4to8, or_assoc] at hx
  rcases hx with hx | hx | hx | hx | hx | hx
  · exact (by decide : ∀ x ∈ [Err.isaVersion, Err.featureLevel, Err.route, Err.kindRoute, Err.slot], x ≠ 0) x hx
  · exact (by decide : ∀ x ∈ [Err.slot], x ≠ 0) x hx
  · exact (by decide : ∀ x ∈ [Err.descAlign, Err.descPoison, Err.rank, Err.featureLevel, Err.formatCode, Err.formatMix, Err.formatBlock,
      Err.scaleSet, Err.featureLevel, Err.shard], x ≠ 0) x hx
  · exact (by decide : ∀ x ∈ [Err.globalSize], x ≠ 0) x hx
  · exact codes_checks11to12_ne_zero s l a (noSlot s) d (noSlot s) x hx
  · exact (by decide : ∀ x ∈ [Err.stationOff, Err.gzQuant, Err.gzState, Err.badScale], x ≠ 0) x hx

/-- The checks of a Glazia letter without slots are validation's (log 52). -/
theorem gzChecks_code {s : State} {c : QCtx} {l : Letter} {e : Nat} (h : firstErr (gzChecks s c l) = some e) :
    ¬refusedAfterDispatch e ∧ e ≠ 0 := by
  have hmem := firstErr_mem h
  rw [codes_gzChecks] at hmem
  have hall : ∀ x ∈ [Err.isaVersion, Err.featureLevel, Err.route, Err.kindRoute, Err.slot, Err.slot, Err.stationOff],
      ¬((0x58 ≤ x ∧ x ≤ 0x5E) ∨ (0x68 ≤ x ∧ x ≤ 0x6B) ∨ x = Err.badScale) ∧ x ≠ 0 := by decide
  exact hall e hmem

namespace State

/-! ### Letters refused -/

/-- The head letter l of queue q was dispatched and refused with error e: it left the queue, which halts, no other queue and no letter
that runs changed, and, when every earlier letter had completed, its record stands with the error (R189, R208). -/
def refusedWith (s : State) (q : Nat) (c : QCtx) (l : Letter) (e : Nat) (t : State) : Prop :=
  t.queueCore q = some { c.sent (s.isLate (s.deadlineOf c)) with
    st := .halted, errSeq := c.head, lastError := e, haltedOn := c.haltedOn ++ [c.head],
    done := if c.done = c.head then (c.done + 1) % 2 ^ 32 else c.done } ∧
  (∀ j, j ≠ q → t.queueCore j = s.queueCore j) ∧ t.lb.ops = s.lb.ops ∧
  t.ctr Ctr.lbDispatched = (s.ctr Ctr.lbDispatched + 1) % 2 ^ 64 ∧
  (c.done = c.head → t.ctr Ctr.lbErrors = (s.ctr Ctr.lbErrors + 1) % 2 ^ 64 ∧ c.notifySrc ∈ t.bell.level ∧
    (s.crReach c → t.record c c.head = (immediate c c.head e l (s.isLate (s.deadlineOf c)) s.tick).mainWord c s.tick % 2 ^ 256))

/-- A letter of a station that is clocked is taken from its queue and counted, and the clock needs no start. -/
theorem demand_advanceHead {s : State} {q : Nat} {c : QCtx} {l : Letter} (h : s.HeadIs q c l) {b : Nat} (ha : s.awake [b]) :
    (s.advanceHead c).demand [b] = s.advanceHead c := by
  obtain ⟨-, -, hf, -⟩ := advanceHead_spec h.queue h.cached
  exact demand_awake (ha.congr (hf .od (by decide)) (hf .pwr (by decide))) (by simp)

theorem refuseLetter_eq {s : State} {q : Nat} {c : QCtx} {l : Letter} {e b : Nat} (h : s.HeadIs q c l) (ha : s.awake [b])
    (he : refusedAfterDispatch e) : s.refuseLetter c b e l =
      (((s.dispatched c c.isa).haltQueue q c.head e).finish (immediate c c.head e l (s.isLate (s.deadlineOf c)) s.tick)).settle := by
  have hcode : ((decide (0x58 ≤ e) && decide (e ≤ 0x5E)) || (decide (0x68 ≤ e) && decide (e ≤ 0x6B)) || e == Err.badScale) = true := by
    simpa [refusedAfterDispatch, or_assoc] using he
  have e1 : s.refuseLetter c b e l = if ((decide (0x58 ≤ e) && decide (e ≤ 0x5E)) || (decide (0x68 ≤ e) && decide (e ≤ 0x6B)) || e == Err.badScale) then
      ((((if s.isLate (s.deadlineOf c) then ((s.advanceHead c).demand [b]).noteLate c.q else (s.advanceHead c).demand [b]).count
        Ctr.lbDispatched 1).haltQueue c.q c.head e).finish (immediate c c.head e l (s.isLate (s.deadlineOf c)) s.tick)).settle
    else s.failLetter c e l := rfl
  rw [e1, if_pos hcode, demand_advanceHead h ha, queue_q h.queue]
  rw [dispatched, queue_q h.queue]
  rfl

/-- A letter with a code of its engine is dispatched and refused. -/
theorem HeadIs.refuseLetter {s : State} {q : Nat} {c : QCtx} {l : Letter} {e b : Nat} (h : s.HeadIs q c l) (ha : s.awake [b])
    (he : refusedAfterDispatch e) : s.refusedWith q c l e (s.refuseLetter c b e l) ∧
      s.sameBut [.attic, .cellar, .larder, .host, .meter, .lb, .bell] (s.refuseLetter c b e l) := by
  have hne : e ≠ 0 := by
    rintro rfl
    exact absurd he (by unfold refusedAfterDispatch; decide)
  obtain ⟨htook, hf, hunits, hctr⟩ := h.dispatched c.isa
  have hhalt := haltQueue_took htook.self (show c.st ≠ .flushing by rw [h.st]; decide) htook.cached c.head e
  have hh := (haltQueue_evolves (s.dispatched c c.isa) q c.head e).frame
  rw [refuseLetter_eq h ha he]
  generalize (s.dispatched c c.isa).haltQueue q c.head e = u at hhalt hh
  have hu : s.sameBut [.meter, .lb] u := hf.step hh rfl
  have hunit : ∀ k, u.ctr k = (s.dispatched c c.isa).ctr k := fun k => ctrSame.of_meter (us := []) (hh .meter (by decide)) k (by simp)
  have hgz : u.gz = s.gz := hu .gz (by decide)
  obtain ⟨hself, hothers, hops, -, hrec, hend⟩ := h.failed hne (htook.trans hhalt) (hu .tick (by decide)) (hostDown_of_frame hu (by decide))
    ((hunit _).trans (hunits _ (by decide)))
  refine ⟨⟨hself, hothers, hops, (hend.units _ (by decide)).trans ((hunit _).trans hctr), hrec⟩, ?_⟩
  exact (hu.mono rfl).step (hend.frameNoClose (by rw [noClose]; exact fun x b hx => h.closed x b (hgz ▸ hx))) rfl

/-- A letter with any other code fails validation. -/
theorem refuseLetter_validation {s : State} {c : QCtx} {l : Letter} {e b : Nat} (he : ¬refusedAfterDispatch e) :
    s.refuseLetter c b e l = s.failLetter c e l := by
  have hcode : ((decide (0x58 ≤ e) && decide (e ≤ 0x5E)) || (decide (0x68 ≤ e) && decide (e ≤ 0x6B)) || e == Err.badScale) = false := by
    rw [Bool.eq_false_iff]
    simpa [refusedAfterDispatch, or_assoc] using he
  unfold State.refuseLetter
  rw [hcode, if_neg Bool.false_ne_true]

end State

end Sys2Proof.Machine

/-! SUPPORT. What the letters of Glazia do between their dispatch and their end (R354 to R361, R368 to R371): the objects, the units
and the memories each leaves. -/

namespace Sys2Proof.Machine

/-! ### Bytes of a number in memory -/

theorem ofBytes_lt (b : List Byte) : ofBytes b < 256 ^ b.length := by
  induction b with
  | nil => simp [ofBytes]
  | cons x t ih =>
    rw [ofBytes, List.length_cons, pow_succ]
    have := x.isLt
    omega

theorem Mem.length_bytes (m : Mem) (a n : Nat) : (m.bytes a n).length = n := by
  induction n generalizing a with
  | zero => rfl
  | succ n ih => rw [Mem.bytes, List.length_cons, ih]

theorem Mem.nat_lt (m : Mem) (a n : Nat) : m.nat a n < 256 ^ n := by
  simpa only [Mem.nat, Mem.length_bytes] using ofBytes_lt (m.bytes a n)

/-- A run of bytes as a number, from its low and its high part. -/
theorem Mem.nat_add (m : Mem) (a n k : Nat) : m.nat a (n + k) = m.nat a n + 256 ^ n * m.nat (a + n) k := by
  induction n generalizing a with
  | zero => simp [Mem.nat, Mem.bytes, ofBytes]
  | succ n ih =>
    have hstep : ∀ i, m.nat a (i + 1) = (m.byte a).toNat + 256 * m.nat (a + 1) i := fun i => rfl
    rw [show n + 1 + k = (n + k) + 1 by omega, hstep, hstep, ih, pow_succ, show a + 1 + n = a + (n + 1) by omega]
    ring

/-- The low bytes and the bytes after them of a number that was written. -/
theorem Mem.nat_parts {m : Mem} {a v : Nat} {n k j : Nat} (h : m.nat a (n + (k + j)) = v) :
    m.nat a n = v % 256 ^ n ∧ m.nat (a + n) k = v / 256 ^ n % 256 ^ k := by
  rw [Mem.nat_add] at h
  have hlow := m.nat_lt a n
  have hhigh := Mem.nat_add m (a + n) k j
  have hk := m.nat_lt (a + n) k
  subst h
  rw [Nat.add_mul_mod_self_left, Nat.mod_eq_of_lt hlow, Nat.add_mul_div_left _ _ (by positivity), Nat.div_eq_of_lt hlow, Nat.zero_add, hhigh,
    Nat.add_mul_mod_self_left, Nat.mod_eq_of_lt hk]
  exact ⟨rfl, rfl⟩

namespace State

/-- What holds of every step of a run, and is kept by one step after another, holds of the run. -/
theorem foldl_rel {α : Type} {R : State → State → Prop} (hrefl : ∀ s, R s s) (htrans : ∀ s t u, R s t → R t u → R s u)
    {g : State → α → State} (hg : ∀ t a, R t (g t a)) (l : List α) (s : State) : R s (l.foldl g s) := by
  induction l generalizing s with
  | nil => exact hrefl s
  | cons a l ih => exact htrans _ _ _ (hg s a) (ih _)

/-! ### OPEN -/

/-- Objects and units that the gears of an OPEN may move (R368, R369). -/
def GearStep (s t : State) : Prop :=
  (∀ k, k ≠ K.gzExcursions → t.odv k = s.odv k) ∧ s.ctrSame [Ctr.gzUwExcursions, Ctr.gzGearAtLimit, Ctr.gzGearMoves] t

theorem GearStep.refl (s : State) : GearStep s s := ⟨fun _ _ => rfl, .refl _ s⟩

theorem GearStep.trans {s t u : State} (h : GearStep s t) (g : GearStep t u) : GearStep s u :=
  ⟨fun k hk => (g.1 k hk).trans (h.1 k hk), h.2.trans g.2⟩

theorem GearStep.of_same {s t : State} (hod : t.od = s.od) (hm : t.meter = s.meter) : GearStep s t :=
  ⟨fun k _ => by rw [odv, odv, hod], .of_meter hm⟩

theorem gearStep_spec (s : State) (e : Nat) (r : Num) : GearStep s (s.gearStep e r) := by
  have hcount : ∀ (t : State) (u : Nat), u ∈ [Ctr.gzUwExcursions, Ctr.gzGearAtLimit, Ctr.gzGearMoves] → GearStep t (t.count u 1) :=
    fun t u hu => ⟨fun _ _ => rfl, (ctrSame_count t u 1).mono (by simpa using hu)⟩
  have hset : ∀ v, GearStep s (s.setOd K.gzExcursions v) := fun v => ⟨fun k hk => odv_setOd_other s v hk, .of_meter rfl⟩
  unfold gearStep
  extract_lets lo hi u up mn mx g v h
  split
  · exact .refl s
  · have hu : GearStep s u := (hset _).trans (hcount _ _ (by decide))
    split
    · exact hu
    · split
      · exact hu.trans (hcount u _ (by decide))
      · have hcap : ∀ k x, GearStep u (u.setCap k x) := fun k x => .of_same rfl rfl
        have hv : GearStep s v := (hu.trans (hcap _ _)).trans (hcount _ _ (by decide))
        split
        · exact hv
        · exact hv.trans (.of_same rfl rfl)

theorem moveGears_spec (s : State) (l : Letter) : GearStep s (s.moveGears l) ∧ ∀ n ∈ s.bell.level, n ∈ (s.moveGears l).bell.level := by
  have hsteps : ∀ (rs : List (Option Num × Nat)) (t : State),
      let u := rs.foldl (fun st (r, e) => match r with | none => st | some v => st.gearStep e v) t
      GearStep t u ∧ t.sameBut [.od, .captain, .stoker, .meter] u := by
    intro rs t
    refine ⟨foldl_rel (R := GearStep) .refl (fun _ _ _ => .trans) (fun u x => ?_) rs t, .foldl (fun u x => ?_) rs t⟩
    · obtain ⟨r, e⟩ := x
      cases r with
      | none => exact .refl u
      | some v => exact gearStep_spec u e v
    · obtain ⟨r, e⟩ := x
      cases r with
      | none => exact .refl _ u
      | some v => exact (gearStep_evolves u e v).frame
  unfold moveGears
  generalize List.range 1024 = es
  extract_lets rs s1 s2 tab s3
  have h1 : GearStep s s1 := ⟨fun k hk => odv_setOd_other s 0 hk, .of_meter rfl⟩
  obtain ⟨h2, hf⟩ : GearStep s1 s2 ∧ s1.sameBut [.od, .captain, .stoker, .meter] s2 := hsteps (rs.zip es) s1
  have h3 : GearStep s s3 := (h1.trans h2).trans (.of_same rfl rfl)
  have hbell : s3.bell = s.bell := hf .bell (by decide)
  split
  · exact ⟨h3.trans ⟨fun k _ => raise_odv _ _ k, .of_meter (raise_meter ..)⟩, fun n hn => mem_level_raise_of (hbell ▸ hn)⟩
  · exact ⟨h3, fun n hn => hbell ▸ hn⟩

/-- The group table and the parameters are latched with the captain set, and nothing is covered (R356). -/
def latchTables (w : State) : State :=
  let gs := w.gzTable
  let ps := gs.map fun v => w.rd .attic (parseGroup v).paramAddr 64
  { w with gz := { w.gz with
    latched := w.captain, groups := gs, params := ps, covered := [], todo := [], busy := [],
    cores := List.replicate 8 gzIdleCore, regs := [], partials := [], amax := [], badGrad := false, poisonSeen := false,
    lostEntries := [], badGroups := [] } }

theorem gzLatch_eq (v : State) (l : Letter) : v.gzLatch l = (v.moveGears l).latchTables := rfl

/-- What an accepted OPEN of step n leaves, v being the state it finds (R356, R369). -/
structure Opened (v : State) (n : Nat) (u : State) : Prop where
  frame : v.sameBut [.attic, .cellar, .larder, .host, .od, .captain, .stoker, .domains, .meter, .bell, .gz] u
  od : ∀ k, k ≠ K.gzExcursions → k ≠ K.gzState → k ≠ K.gzStep → u.odv k = v.odv k
  state : u.odv K.gzState = 1
  step : u.odv K.gzStep = n
  units : v.ctrSame [Ctr.gzUwExcursions, Ctr.gzGearAtLimit, Ctr.gzGearMoves, Ctr.hostWriteDrops] u
  level : ∀ n ∈ v.bell.level, n ∈ u.bell.level
  closing : u.gz.closing = v.gz.closing
  fresh : u.gz.waiting = none ∧ u.gz.covered = [] ∧ u.gz.partials = [] ∧ u.gz.badGroups = [] ∧ u.gz.latched = u.captain

theorem latchTables_opened (w : State) (n : Nat) : w.Opened n (w.latchTables.gzOpenCommit n) := by
  let u := (({ w.latchTables with gz := { w.latchTables.gz with waiting := none } } : State).setOd K.gzState 1).setOd K.gzStep n
  have hcommit : u.sameBut [.attic, .cellar, .larder, .host, .meter] (w.latchTables.gzOpenCommit n) := wr_frame u .cellar (u.gzDst + 8) 1 0
  have hunits : u.ctrSame [Ctr.hostWriteDrops] (w.latchTables.gzOpenCommit n) := wr_ctrSame u .cellar (u.gzDst + 8) 1 0
  have hu : w.sameBut [.od, .gz] u := fun f hf => by cases f <;> simp_all [agree, u, latchTables, setOd]
  have hodv : ∀ k, (w.latchTables.gzOpenCommit n).odv k = if k = K.gzStep then n else if k = K.gzState then 1 else w.odv k := fun k =>
    (hcommit.odv (by decide) k).trans ((odv_setOd _ _ _ k).trans (by rw [odv_setOd]; rfl))
  have hgz : (w.latchTables.gzOpenCommit n).gz = u.gz := hcommit .gz (by decide)
  exact {
    frame := (hu.mono rfl).step hcommit rfl
    od := fun k _ h2 h3 => by rw [hodv, if_neg h3, if_neg h2]
    state := by rw [hodv, if_neg (by decide), if_pos rfl]
    step := by rw [hodv, if_pos rfl]
    units := (ctrSame.of_meter (hu .meter (by decide))).trans (hunits.mono (by decide))
    level := fun m hm => by rwa [show (w.latchTables.gzOpenCommit n).bell = w.bell from hcommit .bell (by decide)]
    closing := by rw [hgz]; rfl
    fresh := by
      rw [hgz, show (w.latchTables.gzOpenCommit n).captain = w.captain from hcommit .captain (by decide)]
      exact ⟨rfl, rfl, rfl, rfl, rfl⟩ }

theorem opened_spec (v : State) (l : Letter) (n : Nat) : v.Opened n ((v.gzLatch l).gzOpenCommit n) := by
  obtain ⟨⟨hod, hunits⟩, hlevel⟩ := v.moveGears_spec l
  have hgears := (moveGears_evolves v l).frame
  rw [gzLatch_eq]
  generalize v.moveGears l = w at hod hunits hlevel hgears ⊢
  have h := w.latchTables_opened n
  exact {
    frame := (hgears.mono rfl).step h.frame rfl
    od := fun k h1 h2 h3 => (h.od k h1 h2 h3).trans (hod k h1)
    state := h.state
    step := h.step
    units := (hunits.mono (by decide)).trans h.units
    level := fun m hm => h.level m (hlevel m hm)
    closing := h.closing.trans (congrArg GzState.closing (hgears .gz (by decide)))
    fresh := h.fresh }

end State

end Sys2Proof.Machine

/-! SUPPORT. PIECE's grains, the closing of an update, and QUANT (R357, R359, R361, R371). -/

namespace Sys2Proof.Machine

namespace State

/-! ### PIECE -/

/-- A core as it takes a grain. -/
def gzDealt (s : State) (core key : Nat) : GzCore :=
  let n := key / 2 ^ 20
  let rule := gzRule s.gzWord (s.gzGroupAt n).rule
  let seen := s.gz.regs.any fun r => r.core == core && r.group == n
  { gzIdleCore with grain := some (n, key % 2 ^ 20), pc := if seen then rule.body + 1 else rule.first }

theorem gzCore_gzDeal (s : State) (core key j : Nat) :
    (s.gzDeal core key).gzCore j = if j = core ∧ core < s.gz.cores.length then s.gzDealt core key else s.gzCore j := by
  have e : (s.gzDeal core key).gzCore j = (s.gz.cores.set core (s.gzDealt core key)).getD j gzIdleCore := rfl
  rw [e, List.getD_eq_getElem?_getD, List.getElem?_set]
  by_cases hj : core = j
  · subst hj
    by_cases hlt : core < s.gz.cores.length
    · simp [hlt]
    · simp [hlt, gzCore]
  · rw [if_neg hj, if_neg (by simp [Ne.symm hj]), gzCore, List.getD_eq_getElem?_getD]

/-- The grains dealt leave the coverage, the list of what a PIECE still awaits and the cores that have a grain as they are. -/
theorem gzDealAll_keeps (s : State) (n : Nat) : (s.gzDealAll n).gz.busy = s.gz.busy ∧ (s.gzDealAll n).gz.covered = s.gz.covered ∧
    ∀ j, (s.gzCore j).grain.isSome = true → (s.gzDealAll n).gzCore j = s.gzCore j := by
  induction n generalizing s with
  | zero => exact ⟨rfl, rfl, fun _ _ => rfl⟩
  | succ n ih =>
    unfold gzDealAll
    split
    · next k t c htodo hfree =>
      have hnone : (s.gzCore c).grain.isNone = true := List.find?_some (p := fun c => (s.gzCore c).grain.isNone) hfree
      obtain ⟨hbusy, hcov, hcores⟩ := ih (({ s with gz := { s.gz with todo := t } } : State).gzDeal c k)
      refine ⟨hbusy, hcov, fun j hj => ?_⟩
      have hne : j ≠ c := by
        rintro rfl
        rw [Option.isNone_iff_eq_none] at hnone
        simp [hnone] at hj
      have hsame : (({ s with gz := { s.gz with todo := t } } : State).gzDeal c k).gzCore j = s.gzCore j := by
        rw [gzCore_gzDeal, if_neg (by simp [hne])]
        rfl
      rw [hcores j (by rw [hsame]; exact hj), hsame]
    · exact ⟨rfl, rfl, fun _ _ => rfl⟩

/-- Core 0, when it is free, takes the first grain (R359). -/
theorem gzDealAll_first {s : State} {k : Nat} {t : List Nat} (n : Nat) (htodo : s.gz.todo = k :: t) (hlen : s.gz.cores.length = 8)
    (hfree : (s.gzCore 0).grain = none) : ((s.gzDealAll (n + 1)).gzCore 0).grain = some (k / 2 ^ 20, k % 2 ^ 20) := by
  have hfind : ((List.range 8).find? fun c => (s.gzCore c).grain.isNone) = some 0 := by
    rw [show List.range 8 = 0 :: [1, 2, 3, 4, 5, 6, 7] from rfl, List.find?_cons, hfree]
    rfl
  have e : s.gzDealAll (n + 1) = (({ s with gz := { s.gz with todo := t } } : State).gzDeal 0 k).gzDealAll n := by
    rw [gzDealAll, htodo, hfind]
  have hcore := gzCore_gzDeal { s with gz := { s.gz with todo := t } } 0 k 0
  rw [if_pos ⟨rfl, by change 0 < s.gz.cores.length; omega⟩] at hcore
  rw [e, (gzDealAll_keeps _ n).2.2 0 (by rw [hcore]; rfl), hcore]
  rfl

/-! ### CLOSE -/

theorem put_units {us : List Nat} (s : State) (sp : Space) (f : Mem → Mem) (h : Ctr.hostWriteDrops ∈ us) : s.ctrSame us (s.put sp f) :=
  (put_ctrSame s sp f).mono (by simpa using h)

/-- Units that the copy of frozen grains counts in. -/
def closeUnits : List Nat := [Ctr.glaziaFrozen, Ctr.hostWriteDrops, Ctr.gzPoisonState]

theorem gzWrite_ctrSame (s : State) (e : Nat) (x : GzSlot) (vals : List (Nat × Bool)) : s.ctrSame closeUnits (s.gzWrite e x vals) := by
  unfold gzWrite
  dsimp only
  refine (put_units s _ _ (by decide)).trans (.foldl (fun t y => ?_) _ _)
  split
  · exact (put_units t _ _ (by decide)).trans ((ctrSame_count _ _ 1).mono (by decide))
  · exact .refl _ t

theorem gzCopyGrain_ctrSame (s : State) (n grain : Nat) : s.ctrSame closeUnits (s.gzCopyGrain n grain) := by
  unfold gzCopyGrain
  dsimp only
  refine (ctrSame.foldl (fun t y => gzWrite_ctrSame t _ _ _) _ s).trans (.foldl (fun t y => ?_) _ _)
  split
  · exact .of_meter ((gzAmax_evolves t n _ _).frame .meter (by decide))
  · exact .refl _ t

theorem gzCover_ctrSame (s : State) (n grain : Nat) (p : Nat × Nat) : s.ctrSame closeUnits (s.gzCover n grain p) := by
  unfold gzCover
  dsimp only
  split
  · exact (ctrSame.of_meter (t := { s with gz := _ }) rfl).trans (put_units _ _ _ (by decide))
  · exact .of_meter rfl

theorem gzCopyFrozen_ctrSame (s : State) (n : Nat) : s.ctrSame closeUnits (s.gzCopyFrozen n) := by
  unfold gzCopyFrozen
  dsimp only
  split
  · exact .refl _ s
  · have hcount : s.ctrSame closeUnits (if s.gzUntouched n then s.count Ctr.glaziaFrozen 1 else s) := by
      split <;> [exact (ctrSame_count s _ 1).mono (by decide); exact .refl _ s]
    exact hcount.trans (.foldl (fun t i => (gzCopyGrain_ctrSame t n i).trans (gzCover_ctrSame _ _ _ _)) _ _)

/-- The bank an update closes into. -/
def closeBank (w : State) : Nat := (w.odv K.gzStep + 1) % max 1 (w.odv K.bankCount)

/-- The header of a bank closed at its step (R353, R361). -/
def closeHeader (w : State) : Nat := w.odv K.gzStep + 1 + 2 ^ 64 + w.odv K.bankCount * 2 ^ 72 + w.gz.groups.length * 2 ^ 80

/-- What an accepted CLOSE leaves, v being the state it finds, up to its record (R361). -/
structure Closed (v : State) (q seq : Nat) (u : State) : Prop where
  frame : v.sameBut [.attic, .cellar, .larder, .host, .od, .meter, .gz, .ex] u
  od : ∀ k, k ≠ K.gzState → u.odv k = v.odv k
  state : u.odv K.gzState = 0
  units : v.ctrSame (Ctr.gzUpdates :: closeUnits) u
  updates : u.ctr Ctr.gzUpdates = (v.ctr Ctr.gzUpdates + 1) % 2 ^ 64
  closing : u.gz.closing = some ((q, seq), v.closeBank)
  header : v.odv K.gzStep + 1 < 2 ^ 64 → u.bankNextStep v.closeBank = v.odv K.gzStep + 1 ∧ u.bankStatus v.closeBank = 1

/-- NEXT_STEP and STATUS of a header of 12 bytes (R353). -/
theorem header_reads {m : Mem} {a x y z : Nat} (hx : x + 1 < 2 ^ 64) (h : m.nat a 12 = (x + 1 + 2 ^ 64 + y * 2 ^ 72 + z * 2 ^ 80) % 256 ^ 12) :
    m.nat a 8 = x + 1 ∧ m.nat (a + 8) 1 = 1 := by
  have h12 : (12 : Nat) = 8 + (1 + 3) := rfl
  rw [h12] at h
  obtain ⟨hlow, hhigh⟩ := Mem.nat_parts h
  rw [hlow, hhigh]
  norm_num
  omega

/-- A number written to the Cellar, read there. -/
theorem nat_wr_cellar {w t : State} {a n v : Nat} (hmem : t.mem .cellar = (w.wr .cellar a n v).mem .cellar) :
    (t.mem .cellar).nat a n = v % 256 ^ n := by
  rw [hmem]
  exact rd_wr_self w (.inl (by decide)) a n v

/-- The header that CLOSE writes reads back (R361). -/
theorem closeHeader_reads {w t : State} {b : Nat} (hmem : t.mem .cellar = (w.wr .cellar (w.bankAddr b) 12 w.closeHeader).mem .cellar)
    (haddr : t.bankAddr b = w.bankAddr b) (hstep : w.odv K.gzStep + 1 < 2 ^ 64) :
    t.bankNextStep b = w.odv K.gzStep + 1 ∧ t.bankStatus b = 1 := by
  have hwritten := nat_wr_cellar hmem
  rw [closeHeader] at hwritten
  obtain ⟨hnext, hstatus⟩ := header_reads hstep hwritten
  rw [bankNextStep, bankStatus, rd, rd, haddr]
  exact ⟨hnext, hstatus⟩

theorem gzClose_spec (v : State) (q seq : Nat) (l : Letter) : v.Closed q seq (v.gzClose q seq l) := by
  have hframe := (gzClose_evolves v q seq l).frame
  generalize hu : v.gzClose q seq l = u at hframe ⊢
  unfold gzClose at hu
  generalize List.range 1024 = es at hu
  extract_lets ns s1 s2 sums s3 step b hd s4 s5 g s6 last x at hu
  have f1 : v.sameBut [.attic, .cellar, .larder, .host, .meter, .gz] s1 := .foldl (fun t n => (gzCopyFrozen_evolves t n).frame) ns v
  have f2 : s1.sameBut [.attic, .cellar, .larder, .host, .meter, .gz] s2 := .foldl (fun t n => (wr_frame t _ _ _ _).mono rfl) ns s1
  have u1 : v.ctrSame closeUnits s1 := .foldl (fun t n => gzCopyFrozen_ctrSame t n) ns v
  have u2 : s1.ctrSame closeUnits s2 := .foldl (fun t n => put_units t _ _ (by decide)) ns s1
  have h3 : s2.sameBut [.attic, .cellar, .larder, .host, .meter, .gz] s3 ∧ s2.ctrSame closeUnits s3 := by
    unfold s3
    split
    · exact ⟨.refl _ s2, .refl _ s2⟩
    · exact ⟨(put_frame s2 _ _).mono rfl, put_units s2 _ _ (by decide)⟩
  have hbody : v.sameBut [.attic, .cellar, .larder, .host, .meter, .gz] s3 := (f1.step f2 rfl).step h3.1 rfl
  have hunits : v.ctrSame closeUnits s3 := (u1.trans u2).trans h3.2
  have hb : b = v.closeBank := by
    unfold b step
    rw [closeBank, hbody.odv (by decide), hbody.odv (by decide)]
  have f4 : s3.sameBut [.attic, .cellar, .larder, .host, .meter] s4 := wr_frame s3 .cellar (s3.bankAddr b) 12 hd
  have u4 : s3.ctrSame [Ctr.hostWriteDrops] s4 := wr_ctrSame s3 .cellar (s3.bankAddr b) 12 hd
  have hcellar : s4.mem .cellar = (s3.wr .cellar (s3.bankAddr b) 12 s3.closeHeader).mem .cellar := rfl
  have hodv5 : ∀ k, s5.odv k = if k = K.gzState then 0 else v.odv k := fun k => by
    rw [← hbody.odv (by decide) k, ← f4.odv (by decide) k, ← odv_setOd]
    exact count_odv ..
  have hctr5 : ∀ k, s5.ctr k = if k = Ctr.gzUpdates then (s4.ctr k + 1) % 2 ^ 64 else s4.ctr k := fun k => by
    have e := ctr_count (s4.setOd K.gzState 0) Ctr.gzUpdates 1 k
    rw [setOd_ctr, setOd_ctr] at e
    rw [show s5.ctr k = _ from e]
    split
    · next h => rw [h]
    · rfl
  have hcellar5 : s5.mem .cellar = s4.mem .cellar := by rw [show s5.mem .cellar = _ from count_mem .., setOd_mem]
  clear_value s5
  clear_value s4
  have hodv : ∀ k, u.odv k = if k = K.gzState then 0 else v.odv k := fun k => by
    have hod : u.od = s5.od := by rw [← hu]
    rw [odv, hod]
    exact hodv5 k
  have hctr : ∀ k, u.ctr k = if k = Ctr.gzUpdates then (s4.ctr k + 1) % 2 ^ 64 else s4.ctr k := fun k => by
    have hmeter : u.meter = s5.meter := by rw [← hu]
    rw [ctr, hmeter]
    exact hctr5 k
  have hy : v.ctrSame closeUnits s4 := hunits.trans (u4.mono (by decide))
  exact {
    frame := hframe
    od := fun k hk => by rw [hodv, if_neg hk]
    state := by rw [hodv, if_pos rfl]
    units := fun k hk => by
      obtain ⟨h1, h2⟩ := not_or.1 (mt List.mem_cons.2 hk)
      rw [hctr, if_neg h1, hy k h2]
    updates := by rw [hctr, if_pos rfl, hy _ (by decide)]
    closing := by rw [← hb, ← hu]
    header := fun hstep => by
      rw [← hbody.odv (by decide) K.gzStep] at hstep ⊢
      rw [← hb]
      have hmem : u.cellar = s5.cellar := by rw [← hu]
      refine closeHeader_reads (w := s3) ((show u.mem .cellar = s5.mem .cellar from hmem).trans (hcellar5.trans hcellar)) ?_ hstep
      simp only [bankAddr, hodv, hbody.odv (by decide)]
      rfl }

/-! ### QUANT -/

theorem wrMarked_ctrSame (s : State) (cells : List (Space × Host.Cell)) (marks : List (Space × Nat)) :
    s.ctrSame [Ctr.hostWriteDrops] (s.wrMarked cells marks) := by
  have one : ∀ (t : State) (sp : Space), t.ctrSame [Ctr.hostWriteDrops]
      (if ((cells.filter fun x => x.1 == sp).map (·.2)).isEmpty then t else t.wrCells sp ((cells.filter fun x => x.1 == sp).map (·.2))) := by
    intro t sp
    split <;> [exact .refl _ t; exact put_ctrSame t sp _]
  exact ((((one s .attic).trans (one _ .cellar)).trans (one _ .larder)).trans (one _ .host)).trans
    (.foldl (fun t x => put_ctrSame t _ _) marks _)

/-- QUANT counts the elements of its group (R371). -/
theorem gzQuant_spec (v : State) (l : Letter) (a d : TDesc) : v.ctrSame [Ctr.hostWriteDrops, Ctr.gzQuantNf, Ctr.gzQuantElements] (v.gzQuant l a d) ∧
    ∀ x, v.quantGroup (bits l.param0 0 12) = some x → (v.gzQuant l a d).ctr Ctr.gzQuantElements = (v.ctr Ctr.gzQuantElements + x.1.elems) % 2 ^ 64 := by
  unfold gzQuant
  split
  · next h => exact ⟨.refl _ v, by simp [h]⟩
  · next g bank h =>
    dsimp only
    generalize (if blkOf d.blkCode == 0 then _ else _ : List QuantOut) = outs
    have hts : v.ctrSame [Ctr.hostWriteDrops] (match d.ts with | none => v | some q => v.wr q.space q.addr 4 (scalePow (quantE d.format (quantAmax v a).1)).toNat) := by
      split <;> [exact .refl _ v; exact wr_ctrSame v _ _ _ _]
    have hstored := hts.trans (wrMarked_ctrSame _ (outs.map (·.cells)).flatten (outs.map (·.marks)).flatten)
    refine ⟨((hstored.mono (by decide)).trans ((ctrSame_count _ _ _).mono (by decide))).trans ((ctrSame_count _ _ _).mono (by decide)), fun x hx => ?_⟩
    rw [h, Option.some.injEq] at hx
    subst hx
    rw [ctr_count, if_pos rfl, ctr_count, if_neg (by decide)]
    exact congrArg (fun n => (n + g.elems) % 2 ^ 64) (hstored _ (by decide))

/-- The group a QUANT judges by rests on Glazia's state, the objects, the captain set and the Attic. -/
theorem quantGroup_congr {s t : State} (h : s.sameBut [.meter, .lb] t) (n : Nat) : t.quantGroup n = s.quantGroup n := by
  have hgz : t.gz = s.gz := h .gz (by decide)
  have hod : t.od = s.od := h .od (by decide)
  have hcap : t.captain = s.captain := h .captain (by decide)
  have hmem : t.mem .attic = s.mem .attic := h .attic (by decide)
  simp only [quantGroup, gzDst, bankAddr, gzGroupAt, odv, cap, rd, hgz, hod, hcap, hmem]
  rfl

end State

end Sys2Proof.Machine

/-! SUPPORT. What exports of a bank leave when its OPEN skips them (R27): their letters stop, and the bank is held no more. -/

namespace Sys2Proof.Machine

namespace State

/-- Of the Letterbox only which operations run has changed. -/
def opsOnly (s t : State) : Prop := t.lb = { s.lb with ops := t.lb.ops }

theorem opsOnly.refl (s : State) : s.opsOnly s := rfl

theorem opsOnly.trans {s t u : State} (h : s.opsOnly t) (g : t.opsOnly u) : s.opsOnly u := by
  rw [opsOnly, g, h]

theorem opsOnly.of_lb {s t : State} (h : t.lb = s.lb) : s.opsOnly t := by rw [opsOnly, h]

theorem opsOnly.queue {s t : State} (h : s.opsOnly t) (j : Nat) : t.queue? j = s.queue? j := by rw [queue?, h]; rfl

/-- Units that the stop of a letter counts in (R96, R103, R163, R486). -/
def stopUnits : List Nat := [Ctr.roomDrainWait, Ctr.roomDrainWait + 1, Ctr.roomBusy, Ctr.roomBusy + 1, Ctr.roomPacked, Ctr.roomPacked + 1,
  Ctr.lbReplayDispatch, Ctr.clkGates]

theorem count_stopUnits (s : State) {u : Nat} (n : Nat) (h : u ∈ stopUnits) : s.ctrSame stopUnits (s.count u n) :=
  (ctrSame_count s u n).mono (by simpa using h)

theorem clearHeld_ctrSame (s : State) (t : Target) : s.ctrSame stopUnits (s.clearHeld t) := by
  unfold clearHeld
  split
  · split
    · exact .refl _ s
    · exact (ctrSame.of_meter rfl).trans (count_stopUnits { s.free.2 with rooms := { s.free.2.rooms with heldF := none } } _ (by decide))
  · split
    · exact .refl _ s
    · exact (ctrSame.of_meter rfl).trans (count_stopUnits { s.free.2 with rooms := { s.free.2.rooms with heldB := none } } _ (by decide))
  · exact .refl _ s

theorem partTile_ctrSame (s : State) (o : Op) : s.ctrSame stopUnits (s.partTile o) := by
  unfold partTile
  split
  · exact .refl _ s
  · dsimp only
    split
    · exact .refl _ s
    · have hbusy : s.ctrSame stopUnits (s.free.2.count (Ctr.roomBusy + if o.target == .back then 1 else 0) s.free.1) :=
        (ctrSame.of_meter rfl).trans (count_stopUnits s.free.2 _ (by split <;> decide))
      split
      · exact hbusy.trans (count_stopUnits _ _ (by split <;> decide))
      · exact hbusy

theorem leaveStation_ctrSame (s : State) (o : Op) : s.ctrSame stopUnits (s.leaveStation o) := by
  unfold leaveStation
  split
  · exact ((ctrSame.of_meter rfl).trans (clearHeld_ctrSame (s.dropStreams o.station) o.target)).trans (partTile_ctrSame _ o)
  · exact .refl _ s

theorem dispatchReplays_spec (s : State) (t : Target) : s.opsOnly (s.dispatchReplays t) ∧ s.ctrSame stopUnits (s.dispatchReplays t) := by
  unfold dispatchReplays
  split
  · exact ⟨.refl s, .refl _ s⟩
  · next o _ =>
    split
    · exact ⟨.refl s, .refl _ s⟩
    · extract_lets o'
      have hf := (setupStreams_evolves s o').frame
      generalize s.setupStreams o' = x at hf
      have hlb : x.1.lb = s.lb := hf .lb (by decide)
      have hset : x.1.opsOnly ((x.1.setOp x.2).count Ctr.lbReplayDispatch 1) := rfl
      refine ⟨(opsOnly.of_lb hlb).trans hset, (ctrSame.of_meter (hf .meter (by decide))).trans ?_⟩
      exact (ctrSame.of_meter rfl).trans (count_stopUnits (x.1.setOp x.2) 1 (by decide))

theorem stopOp_spec (s : State) (o : Op) (e : Nat) : s.opsOnly (s.stopOp o e) ∧ s.ctrSame stopUnits (s.stopOp o e) := by
  let u := s.setOp { o with error := e }
  have hlb : (u.leaveStation o).lb = u.lb := (leaveStation_evolves u o).frame .lb (by decide)
  have hset : s.opsOnly u := rfl
  have hmeter : s.ctrSame stopUnits u := .of_meter rfl
  obtain ⟨hlast, hunits⟩ := (u.leaveStation o).dispatchReplays_spec o.target
  exact ⟨(hset.trans (.of_lb hlb)).trans hlast, (hmeter.trans (leaveStation_ctrSame u o)).trans hunits⟩

theorem endExportLetter_spec (s : State) (letter : Option (Nat × Nat)) (e : Nat) :
    s.opsOnly (s.endExportLetter letter e) ∧ s.ctrSame stopUnits (s.endExportLetter letter e) := by
  unfold endExportLetter
  split
  · exact ⟨.refl s, .refl _ s⟩
  · split
    · exact ⟨.refl s, .refl _ s⟩
    · split
      · exact ⟨rfl, .of_meter rfl⟩
      · exact stopOp_spec s _ e

/-- What waits to be exported of a bank is given up (R27). -/
def dropPending (s : State) (b : Nat) : State :=
  if s.ex.pending == some b then { s with ex := { s.ex with pending := none } } else s

theorem dropPending_spec (s : State) (b : Nat) : s.sameBut [.ex] (s.dropPending b) ∧ (s.dropPending b).ex.pending ≠ some b ∧
    (s.dropPending b).ex.job = s.ex.job := by
  unfold dropPending
  split
  · exact ⟨setEx_sameBut s _, by simp, rfl⟩
  · next h => exact ⟨.refl _ s, by simpa using h, rfl⟩

theorem abandonExport_eq (s : State) (b : Nat) : s.abandonExport b =
    match (s.dropPending b).ex.job with
    | none => s.dropPending b
    | some j =>
      if j.kind == 2 || j.bank != b then s.dropPending b
      else
        let u : State := { s.dropPending b with ex := { (s.dropPending b).ex with job := none, forceFull := (s.dropPending b).ex.forceFull || j.begun } }
        ((u.endExportLetter j.letter Err.exState).setOd K.exState 0).stopDisabled := rfl

/-- A bank whose exports are abandoned is held no more, and one of them that had begun makes the next FULL (R27). -/
theorem abandonExport_spec (s : State) (b : Nat) : s.opsOnly (s.abandonExport b) ∧ s.ctrSame stopUnits (s.abandonExport b) ∧
    (s.abandonExport b).exportHolds b = false ∧
    ∀ j, s.ex.job = some j → j.kind ≠ 2 → j.bank = b → j.begun = true → (s.abandonExport b).ex.forceFull = true := by
  obtain ⟨hf, hpending, hjob⟩ := s.dropPending_spec b
  have hlb : s.opsOnly (s.dropPending b) := .of_lb (hf .lb (by decide))
  have hunits : s.ctrSame stopUnits (s.dropPending b) := .of_meter (hf .meter (by decide))
  have hnone : ((s.dropPending b).ex.pending == some b) = false := by simpa using hpending
  rw [abandonExport_eq, hjob]
  cases hj : s.ex.job with
  | none => exact ⟨hlb, hunits, by simp [exportHolds, hnone, hjob, hj], fun j h => by cases h⟩
  | some j =>
    by_cases hother : (j.kind == 2 || j.bank != b) = true
    · simp only [hother, if_true]
      refine ⟨hlb, hunits, ?_, fun i hi hk hb => ?_⟩
      · rw [Bool.or_eq_true, beq_iff_eq, bne_iff_ne] at hother
        simp only [exportHolds, hnone, hjob, hj, Bool.false_or, Bool.and_eq_false_iff, bne_eq_false_iff_eq, beq_eq_false_iff_ne]
        exact hother
      · obtain rfl := Option.some.inj hi
        simp [hk, hb] at hother
    · simp only [hother, Bool.false_eq_true, if_false]
      generalize hu : ({ s.dropPending b with ex := { (s.dropPending b).ex with job := none, forceFull := (s.dropPending b).ex.forceFull || j.begun } } : State) = u
      have hue : u.ex = { (s.dropPending b).ex with job := none, forceFull := (s.dropPending b).ex.forceFull || j.begun } := by rw [← hu]
      have hul : (s.dropPending b).opsOnly u := by rw [← hu]; rfl
      have hum : u.meter = (s.dropPending b).meter := by rw [← hu]
      obtain ⟨hstop, hstopUnits⟩ := u.endExportLetter_spec j.letter Err.exState
      let w := (u.endExportLetter j.letter Err.exState).setOd K.exState 0
      have hw : (u.endExportLetter j.letter Err.exState).sameBut [.od] w := (setOd_evolves _ _ _).frame
      have hlast : w.sameBut [.od, .meter] w.stopDisabled := (stopDisabled_evolves w).frame
      have hex : w.stopDisabled.ex = u.ex :=
        (hlast .ex (by decide)).trans ((hw .ex (by decide)).trans ((endExportLetter_evolves u j.letter Err.exState).frame .ex (by decide)))
      refine ⟨?_, ?_, ?_, fun i hi _ _ hb => ?_⟩
      · exact ((hlb.trans hul).trans hstop).trans (.of_lb ((hlast .lb (by decide)).trans (hw .lb (by decide))))
      · exact (((hunits.trans (.of_meter hum)).trans hstopUnits).trans (.of_meter (hw .meter (by decide)))).trans
          ((stopDisabled_ctrSame w).mono (by decide))
      · have hp : u.ex.pending = (s.dropPending b).ex.pending := by rw [hue]
        have hn : u.ex.job = none := by rw [hue]
        change w.stopDisabled.exportHolds b = false
        rw [exportHolds, hex, hp, hn, hnone]
        rfl
      · obtain rfl := Option.some.inj hi
        change w.stopDisabled.ex.forceFull = true
        rw [hex, hue, hb, Bool.or_true]

end State

end Sys2Proof.Machine

/-! SUPPORT. The letters of Glazia (R354 to R361, R371): a head letter that Glazia takes, and each program's outcomes. -/

namespace Sys2Proof.Machine

namespace State

/-! ### Clocks on demand -/

/-- Units that a demand for Glazia counts in (R486, R509). -/
def demandUnits : List Nat := [Ctr.pwrWakeWaits, Ctr.clkStarts + 12]

theorem startPll_meter (s : State) (p : Nat) : (s.startPll p).meter = s.meter := by
  unfold startPll
  split <;> rfl

theorem demand_ctrSame (s : State) : s.ctrSame demandUnits (s.demand [12]) := by
  have hwake : s.ctrSame demandUnits s.wake := by
    unfold wake
    split
    · refine ((ctrSame.of_meter (t := s.setOd K.pwrState 2) rfl).trans ((ctrSame_count _ Ctr.pwrWakeWaits 1).mono (by decide))).trans ?_
      exact .of_meter (startPll_meter _ 1)
    · exact .refl _ s
  have hstart : ∀ t : State, t.ctrSame demandUnits (t.startStation 12) := fun t => by
    unfold startStation
    split
    · exact .refl _ t
    · refine (ctrSame.of_meter (t := (t.startPll (pllOf 12)).setOd K.clkRunning (t.odv K.clkRunning + 2 ^ 12)) (startPll_meter t _)).trans ?_
      exact (ctrSame_count _ (Ctr.clkStarts + 12) 1).mono (by decide)
  unfold demand
  by_cases h : bit (s.odv K.clkEnable) 12
  · simp only [h, List.filter_cons, if_true, List.filter_nil, List.isEmpty_cons, Bool.false_eq_true, if_false, List.foldl_cons, List.foldl_nil]
    exact hwake.trans (hstart _)
  · simp only [h, List.filter_cons, Bool.false_eq_true, if_false, List.filter_nil, List.isEmpty_nil, if_true]
    exact .refl _ s

/-! ### The head letter of Glazia's route -/

/-- Glazia is free and takes l, the head letter of queue q. -/
structure GlaziaTakes (s : State) (q : Nat) (c : QCtx) (l : Letter) : Prop where
  head : s.HeadIs q c l
  awake : s.awake [4, 12]
  route : l.route = 0x18
  chosen : s.chosen q .glazia = true
  free : s.freeSlot .glazia = some 0

section

variable {s : State} {q : Nat} {c : QCtx} {l : Letter}

theorem GlaziaTakes.clocked (h : s.GlaziaTakes q c l) : s.awake [12] := h.awake.mono (by decide)

theorem GlaziaTakes.gzHead (h : s.GlaziaTakes q c l) {want : Nat → Bool} (hw : want (l.prog % 4096) = true) : s.gzHead q want = some (c, l) := by
  simp only [State.gzHead, h.head.headOf, h.route, hw, h.chosen, h.free, beq_self_eq_true, Option.isSome_some, Bool.and_self, if_true]

/-- A command that dispatches runs whole while the Letterbox is clocked. -/
theorem GlaziaTakes.dispatching (h : s.GlaziaTakes q c l) (f : State → State) : s.dispatching f = f s := dispatching_awake h.head.running f

/-- A queue with its head letter taken by Glazia, the clock's start included. -/
theorem gzTake_took (hq : s.queue? q = some c) (hroom : s.cacheRoom q) :
    s.Took q (c.left (s.isLate (s.deadlineOf c)) c.isa) (s.gzTake c).1 ∧ s.sameBut [.od, .meter, .lb] (s.gzTake c).1 ∧
      s.ctrSame ([Ctr.lbCtxMiss, Ctr.lbLate, Ctr.lbDispatched] ++ demandUnits) (s.gzTake c).1 := by
  obtain rfl := queue_q hq
  obtain ⟨htook, hf, hctr⟩ := retouch_took (d := c.left false c.isa) hq rfl hroom
  let v := (s.advanceHead c).demand [12]
  have hd := (demand_evolves (s.advanceHead c) [12]).frame
  have hv : s.Took c.q (c.left false c.isa) v := htook.congr (hd .lb (by decide))
  have hvf : s.sameBut [.od, .meter, .lb] v := (hf.mono rfl).step hd rfl
  have hvu : s.ctrSame ([Ctr.lbCtxMiss, Ctr.lbLate, Ctr.lbDispatched] ++ demandUnits) v :=
    (hctr.mono (by decide)).trans ((demand_ctrSame _).mono (by decide))
  have e : (s.gzTake c).1 = (if s.isLate (s.deadlineOf c) then v.noteLate c.q else v).count Ctr.lbDispatched 1 := rfl
  have hcount : ∀ w : State, w.ctrSame ([Ctr.lbCtxMiss, Ctr.lbLate, Ctr.lbDispatched] ++ demandUnits) (w.count Ctr.lbDispatched 1) := fun w =>
    (ctrSame_count w _ 1).mono (by decide)
  rw [e]
  cases s.isLate (s.deadlineOf c) with
  | false => exact ⟨hv.congr rfl, hvf.step (count_evolves v _ 1).frame rfl, hvu.trans (hcount v)⟩
  | true =>
    obtain ⟨hl, hlf, hlu⟩ := noteLate_took hv.self hv.cached
    exact ⟨(hv.trans hl).congr rfl, (hvf.step hlf rfl).step (count_evolves _ _ 1).frame rfl, (hvu.trans (hlu.mono (by decide))).trans (hcount _)⟩

/-- With its clock running Glazia takes a letter as any is dispatched. -/
theorem GlaziaTakes.gzTake (h : s.GlaziaTakes q c l) : s.gzTake c = (s.dispatched c c.isa, s.isLate (s.deadlineOf c)) := by
  have e : s.gzTake c = ((if s.isLate (s.deadlineOf c) then ((s.advanceHead c).demand [12]).noteLate c.q else (s.advanceHead c).demand [12]).count
    Ctr.lbDispatched 1, s.isLate (s.deadlineOf c)) := rfl
  rw [e, demand_advanceHead h.head h.clocked]
  rfl

/-- What Glazia does in one go, with no effect on the Letterbox, completes the letter. -/
theorem GlaziaTakes.completes {u : State} {fs : List Fld} {us : List Nat} (h : s.GlaziaTakes q c l) (hf : (s.dispatched c c.isa).sameBut fs u)
    (hlb : Fld.lb ∉ fs) (htick : Fld.tick ∉ fs) (hdown : u.hostDown = (s.dispatched c c.isa).hostDown)
    (hctr : (s.dispatched c c.isa).ctrSame us u) (hus : Ctr.lbDispatched ∉ us) :
    let t := u.gzComplete c l (s.isLate (s.deadlineOf c)) s.tick
    s.completedNow q c l (c.sent (s.isLate (s.deadlineOf c))) t ∧
      u.Ended q (c.left (s.isLate (s.deadlineOf c)) c.isa) (immediate c c.head 0 l (s.isLate (s.deadlineOf c)) s.tick) t := by
  obtain ⟨htook, hf0, -, hcount⟩ := h.head.dispatched c.isa
  exact h.head.completedNow (isa := c.isa) (htook.congr (hf .lb hlb)) ((hf .tick htick).trans (hf0 .tick (by decide)))
    (hdown.trans (hostDown_of_frame hf0 (by decide))) ((hctr _ hus).trans hcount)

/-- Glazia refuses the letter: it was dispatched, and its queue halts. -/
theorem GlaziaTakes.refuse (h : s.GlaziaTakes q c l) {e : Nat} (he : refusedAfterDispatch e) :
    s.refusedWith q c l e (s.refuseLetter c 12 e l) := (h.head.refuseLetter h.clocked he).1

/-- Glazia refuses a letter of a group whose record was lost, and the update ends (R377). -/
theorem GlaziaTakes.refuse_ends (h : s.GlaziaTakes q c l) {e : Nat} (he : refusedAfterDispatch e) :
    let t := (s.refuseLetter c 12 e l).gzEndUpdate
    s.refusedWith q c l e t ∧ t.odv K.gzState = 0 := by
  obtain ⟨hself, hothers, hops, hctr, hrec⟩ := h.refuse he
  exact ⟨⟨hself, hothers, hops, hctr, hrec⟩, by rw [gzEndUpdate, odv_setOd, if_pos rfl]⟩

/-- A letter that runs in Glazia, formed with no destination. -/
def glaziaPart (s : State) (c : QCtx) (l : Letter) : Part :=
  { mkPart s c l ⟨none, noSlot s, noSlot s, noSlot s, noSlot s⟩ with d := none, s := none, rows := 0 }

theorem glaziaPart_launch (hq : s.queue? q = some c) (hroom : s.cacheRoom q) :
    let t := (s.advanceHead c).launch .glazia 0 [s.glaziaPart c l]
    s.launched q c l .glazia 0 t ∧ s.ctrSame launchUnits t ∧
      s.sameBut [.attic, .cellar, .larder, .host, .meter, .lb, .porch] t := by
  have hname : (s.glaziaPart c l).name = (q, c.head, l) := by rw [← queue_q hq]; rfl
  obtain ⟨hl, -, hu, hf⟩ := launch_head_spec hq hroom .glazia 0 hname rfl
  exact ⟨hl, hu, hf⟩

/-! ### OPEN -/

/-- The errors of an OPEN: of its letter, then of the state, the bank and the group table (R355). -/
def openErr (s : State) (c : QCtx) (l : Letter) : Option Nat :=
  firstErr (gzChecks s c l ++ [(s.odv K.gzState == 1, Err.gzState), (s.gzBankBad l.step, Err.gzBank), (s.gzTableBad, Err.gzGroup)])

/-- What holds the bank of an OPEN is late, counted and signalled (R27). -/
def exportOverrun (s : State) : State := (s.count Ctr.exOverruns 1).raise Bell.exportLate

theorem exportOverrun_spec (s : State) : s.sameBut [.meter, .bell] s.exportOverrun ∧ s.exportOverrun.ctr Ctr.exOverruns = (s.ctr Ctr.exOverruns + 1) % 2 ^ 64 ∧
    Bell.exportLate ∈ s.exportOverrun.bell.level ∧ s.exportOverrun.ctr Ctr.lbDispatched = s.ctr Ctr.lbDispatched := by
  refine ⟨((count_evolves s Ctr.exOverruns 1).frame.mono rfl).step (raise_evolves _ _).frame rfl, ?_, (mem_level_raise _ _ _).2 (.inl rfl), ?_⟩
  · rw [exportOverrun, ctr, raise_meter]
    exact (ctr_count ..).trans (if_pos rfl)
  · rw [exportOverrun, ctr, raise_meter]
    exact (ctr_count ..).trans (if_neg (by decide))

theorem GlaziaTakes.openLetter_accepts (h : s.GlaziaTakes q c l) (hprog : l.prog % 4096 = 1) (hok : s.openErr c l = none)
    (hfree : s.exportHolds (s.openTarget l.step) = false) : s.openLetter q =
      (((s.dispatched c c.isa).gzLatch l).gzOpenCommit l.step).gzComplete c l (s.isLate (s.deadlineOf c)) s.tick := by
  unfold openErr at hok
  simp only [openLetter, h.gzHead (want := (· == 1)) (by simp [hprog]), hok, hfree, Bool.false_and, Bool.false_eq_true, if_false, h.gzTake]

theorem GlaziaTakes.openLetter_fails (h : s.GlaziaTakes q c l) (hprog : l.prog % 4096 = 1) {e : Nat} (he : s.openErr c l = some e) :
    s.openLetter q = s.refuseLetter c 12 e l := by
  unfold openErr at he
  simp only [openLetter, h.gzHead (want := (· == 1)) (by simp [hprog]), he]

/-- An accepted OPEN of a bank that no EXPORT holds opens the update of its step and completes (R355, R356). -/
theorem GlaziaTakes.openLetter_opens (h : s.GlaziaTakes q c l) (hprog : l.prog % 4096 = 1) (hok : s.openErr c l = none)
    (hfree : s.exportHolds (s.openTarget l.step) = false) :
    let t := s.openLetter q
    s.completedNow q c l (c.sent (s.isLate (s.deadlineOf c))) t ∧ t.odv K.gzState = 1 ∧ t.odv K.gzStep = l.step ∧ t.gz.waiting = none ∧
      t.gz.covered = [] ∧ t.gz.partials = [] ∧ t.gz.badGroups = [] ∧ t.gz.latched = t.captain := by
  obtain ⟨-, hf, -, -⟩ := h.head.dispatched c.isa
  have hopen := (s.dispatched c c.isa).opened_spec l l.step
  dsimp only
  rw [h.openLetter_accepts hprog hok hfree]
  generalize ((s.dispatched c c.isa).gzLatch l).gzOpenCommit l.step = u at hopen
  obtain ⟨hnow, hend⟩ := h.completes hopen.frame (by decide) (by decide)
    (by rw [hostDown, hostDown, hopen.od _ (by decide) (by decide) (by decide)]) hopen.units (by decide)
  have hclosing : u.gz.closing = s.gz.closing := hopen.closing.trans (by rw [show (s.dispatched c c.isa).gz = s.gz from hf .gz (by decide)])
  have hframe := hend.frameNoClose (by rw [noClose, hclosing]; exact h.head.closed)
  generalize u.gzComplete c l (s.isLate (s.deadlineOf c)) s.tick = t at hnow hend hframe ⊢
  rw [show t.gz = u.gz from hframe .gz (by decide), show t.captain = u.captain from hframe .captain (by decide)]
  exact ⟨hnow, (hend.od _ (by decide)).trans hopen.state, (hend.od _ (by decide)).trans hopen.step, hopen.fresh⟩

/-- A letter launched is launched as well in a state that the count of an overrun alone has changed. -/
theorem launched_of_overrun {tg : Target} {slot : Nat} {t : State} (h : s.exportOverrun.launched q c l tg slot t) : s.launched q c l tg slot t := by
  obtain ⟨hf, -, -, hctr⟩ := s.exportOverrun_spec
  generalize s.exportOverrun = v at h hf hctr
  have hlb : v.lb = s.lb := hf .lb (by decide)
  have htick : v.tick = s.tick := hf .tick (by decide)
  have hcaptain : v.captain = s.captain := hf .captain (by decide)
  have hmem := hf.mem (by decide) (by decide) (by decide) (by decide)
  have hletter : v.letterAt c c.head = s.letterAt c c.head := by rw [letterAt, letterAt, rd, rd, hmem]
  have hdl : v.deadlineOf c = s.deadlineOf c := by rw [deadlineOf, deadlineOf, hletter, htick]
  have hlate : v.isLate (v.deadlineOf c) = s.isLate (s.deadlineOf c) := by
    rw [hdl]
    unfold isLate
    rw [htick]
  have hqueue : ∀ j, v.queueCore j = s.queueCore j := fun j => by rw [queueCore, queueCore, queue?, queue?, hlb]
  simpa only [launched, hlate, hqueue, hctr, hlb, hcaptain, htick] using h

/-- An OPEN of a bank that an EXPORT holds is dispatched and waits for it, when the policy is to wait (R27, R381). -/
theorem GlaziaTakes.openLetter_waits (h : s.GlaziaTakes q c l) (hprog : l.prog % 4096 = 1) (hok : s.openErr c l = none)
    (hholds : s.exportHolds (s.openTarget l.step) = true) (hpolicy : s.cap K.exOverrun = 0) :
    s.launched q c l .glazia 0 (s.openLetter q) ∧ (s.openLetter q).gz.waiting = some (q, c.head) ∧ (s.openLetter q).odv K.exState = 2 ∧
      (s.openLetter q).odv K.gzState = s.odv K.gzState ∧
      (s.openLetter q).ctr Ctr.exOverruns = (s.ctr Ctr.exOverruns + 1) % 2 ^ 64 ∧ Bell.exportLate ∈ (s.openLetter q).bell.level := by
  obtain ⟨hf, hover, hlevel, -⟩ := s.exportOverrun_spec
  have hcap : s.exportOverrun.cap K.exOverrun = 0 := (congrArg (capIn · K.exOverrun) (hf .captain (by decide))).trans hpolicy
  let w := ((s.exportOverrun.advanceHead c).launch .glazia 0 [s.exportOverrun.glaziaPart c l]).demand [12]
  have e : s.openLetter q = ({ w with gz := { w.gz with waiting := some (c.q, c.head) } } : State).setOd K.exState 2 := by
    unfold openErr at hok
    unfold exportOverrun at hcap
    simp only [openLetter, h.gzHead (want := (· == 1)) (by simp [hprog]), hok, hholds, hcap, beq_self_eq_true, Bool.true_and, if_true]
    rfl
  have hlb : s.exportOverrun.lb = s.lb := hf .lb (by decide)
  have hq : s.exportOverrun.queue? q = some c := by rw [queue?, hlb]; exact h.head.queue
  have hroom : s.exportOverrun.cacheRoom q := by rw [cacheRoom, hlb]; exact h.head.cached
  obtain ⟨hl, hu, hlf⟩ := glaziaPart_launch hq hroom (l := l)
  have hod := (hlf .od (by decide)).trans (hf .od (by decide))
  have hw : w = (s.exportOverrun.advanceHead c).launch .glazia 0 [s.exportOverrun.glaziaPart c l] :=
    demand_awake (h.clocked.congr hod ((hlf .pwr (by decide)).trans (hf .pwr (by decide)))) (by simp)
  rw [e]
  clear_value w
  subst hw
  refine ⟨launched_of_overrun (hl.congr rfl rfl), ?_, odv_setOd_self .., ?_, (hu _ (by decide)).trans hover, ?_⟩
  · rw [queue_q h.head.queue]; rfl
  · rw [odv_setOd_other _ _ (by decide)]
    exact (hlf.odv (by decide) _).trans (hf.odv (by decide) _)
  · exact (show _ = _ from hlf .bell (by decide)) ▸ hlevel

/-- An OPEN of a bank that an EXPORT holds goes ahead without it, when the policy is to skip (R27, R381). -/
theorem GlaziaTakes.openLetter_skips (h : s.GlaziaTakes q c l) (hprog : l.prog % 4096 = 1) (hok : s.openErr c l = none)
    (hholds : s.exportHolds (s.openTarget l.step) = true) (hpolicy : s.cap K.exOverrun ≠ 0) :
    let t := s.openLetter q
    t.odv K.gzState = 1 ∧ t.odv K.gzStep = l.step ∧ t.gz.waiting = none ∧ t.exportHolds (s.openTarget l.step) = false ∧
      t.ctr Ctr.exOverruns = (s.ctr Ctr.exOverruns + 1) % 2 ^ 64 ∧ Bell.exportLate ∈ t.bell.level ∧
      ∀ j, s.ex.job = some j → j.kind ≠ 2 → j.bank = s.openTarget l.step → j.begun = true → t.ex.forceFull = true := by
  obtain ⟨hf, hover, hlevel, -⟩ := s.exportOverrun_spec
  have hcap : (s.exportOverrun.cap K.exOverrun == 0) = false := by
    rw [show s.exportOverrun.cap K.exOverrun = s.cap K.exOverrun from congrArg (capIn · K.exOverrun) (hf .captain (by decide))]
    simpa using hpolicy
  generalize hb : s.openTarget l.step = b at hholds ⊢
  generalize hv : s.exportOverrun.abandonExport b = v
  have e : s.openLetter q = (((v.gzTake c).1.gzLatch l).gzOpenCommit l.step).gzComplete c l (v.isLate (v.deadlineOf c)) v.tick := by
    unfold openErr at hok
    unfold exportOverrun at hcap
    simp only [openLetter, h.gzHead (want := (· == 1)) (by simp [hprog]), hok, hb, hholds, hcap, Bool.and_false, Bool.false_eq_true, if_false, if_true]
    rw [← hv]
    rfl
  obtain ⟨hops, hstop, hno, hforce⟩ := s.exportOverrun.abandonExport_spec b
  have hab := (abandonExport_evolves s.exportOverrun b).frame
  rw [hv] at hops hstop hno hforce hab
  have hlb : s.exportOverrun.lb = s.lb := hf .lb (by decide)
  have hq : v.queue? q = some c := by rw [hops.queue, queue?, hlb]; exact h.head.queue
  have hroom : v.cacheRoom q := by
    rw [cacheRoom, hops, hlb]
    exact h.head.cached
  obtain ⟨htook, htf, htu⟩ := gzTake_took hq hroom
  generalize (v.gzTake c).1 = x at htook htf htu e
  have hopen := x.opened_spec l l.step
  generalize (x.gzLatch l).gzOpenCommit l.step = u at hopen e
  have hfree : u.RecordsFreely q (c.left (v.isLate (v.deadlineOf c)) c.isa) := by
    have hu := htook.congr (hopen.frame .lb (by decide))
    exact ⟨hu.self, by
      have hr := h.head.ready
      simp only [headReady, Bool.and_eq_true, Bool.not_eq_true'] at hr
      exact hr.1.1.2, show c.st ≠ .flushing by rw [h.head.st]; decide, fun g hg => by
        rw [hu.fin, hops, hlb] at hg
        exact h.head.alone g hg, hu.cached⟩
  have hend := finish_settle_spec (f := immediate c c.head 0 l (v.isLate (v.deadlineOf c)) v.tick) hfree (queue_q h.head.queue)
  have hgz : v.gz = s.gz := (hab .gz (by decide)).trans (hf .gz (by decide))
  have hclosing : u.gz.closing = s.gz.closing :=
    hopen.closing.trans (by rw [show x.gz = v.gz from htf .gz (by decide), hgz])
  have hframe := hend.frameNoClose (by rw [noClose, hclosing]; exact h.head.closed)
  rw [e]
  have hex : (((u.finish (immediate c c.head 0 l (v.isLate (v.deadlineOf c)) v.tick)).settle)).ex = v.ex :=
    (hframe .ex (by decide)).trans ((hopen.frame .ex (by decide)).trans (htf .ex (by decide)))
  change _ ∧ _
  unfold gzComplete
  generalize (u.finish (immediate c c.head 0 l (v.isLate (v.deadlineOf c)) v.tick)).settle = t at hend hframe hex ⊢
  refine ⟨(hend.od _ (by decide)).trans hopen.state, (hend.od _ (by decide)).trans hopen.step, ?_, ?_, ?_, ?_, fun j hj hk hjb hbegun => ?_⟩
  · rw [show t.gz = u.gz from hframe .gz (by decide)]
    exact hopen.fresh.1
  · rw [exportHolds, hex]
    exact hno
  · rw [hend.units _ (by decide), hopen.units _ (by decide), htu _ (by decide), hstop _ (by decide), hover]
  · refine hend.level _ (hopen.level _ ?_)
    rw [show x.bell = s.exportOverrun.bell from (htf .bell (by decide)).trans (hab .bell (by decide))]
    exact hlevel
  · rw [hex]
    exact hforce j ((congrArg ExState.job (hf .ex (by decide))).trans hj) hk hjb hbegun

end

end State

end Sys2Proof.Machine

/-! SUPPORT. PIECE, CLOSE, QUANT and the programs Glazia has not (R354, R357, R361, R371, R377), and what O26 says of them all. -/

namespace Sys2Proof.Machine

namespace State

section

variable {s : State} {q : Nat} {c : QCtx} {l : Letter}

/-! ### PIECE -/

/-- The grains a PIECE names, in order (R357). -/
def pieceKeys (l : Letter) : List Nat := (List.range (bits l.param1 0 32)).map fun i => gzKey (bits l.param0 0 12) (bits l.param0 32 32 + i)

/-- A PIECE that passes its checks names a first grain. -/
theorem pieceKeys_cons (h : s.gzPieceErr l = none) : ∃ t, pieceKeys l = gzKey (bits l.param0 0 12) (bits l.param0 32 32) :: t := by
  have hk : bits l.param1 0 32 ≠ 0 := by
    intro h0
    simp [gzPieceErr, firstErr, h0] at h
    split at h <;> simp at h
  obtain ⟨k, hk⟩ := Nat.exists_eq_succ_of_ne_zero hk
  rw [pieceKeys, hk, List.range_succ_eq_map]
  exact ⟨_, rfl⟩

/-- The launch of a PIECE, the count of a frozen group it is the first of included (R367). -/
def pieceStart (s : State) (c : QCtx) (l : Letter) : State :=
  let w := (s.advanceHead c).launch .glazia 0 [s.glaziaPart c l]
  if w.gzFrozen (bits l.param0 0 12) && w.gzUntouched (bits l.param0 0 12) then w.count Ctr.glaziaFrozen 1 else w

theorem GlaziaTakes.pieceStart (h : s.GlaziaTakes q c l) : s.launched q c l .glazia 0 (s.pieceStart c l) ∧ (s.pieceStart c l).gz = s.gz := by
  obtain ⟨hl, -, hf⟩ := glaziaPart_launch h.head.queue h.head.cached (l := l)
  have hgz : ((s.advanceHead c).launch .glazia 0 [s.glaziaPart c l]).gz = s.gz := hf .gz (by decide)
  unfold State.pieceStart
  dsimp only
  split
  · exact ⟨hl.congr rfl ((ctr_count ..).trans (if_neg (by decide))), hgz⟩
  · exact ⟨hl, hgz⟩

theorem GlaziaTakes.pieceLetter_eq (h : s.GlaziaTakes q c l) (hprog : l.prog % 4096 = 2) (hok : firstErr (gzChecks s c l) = none)
    (hpiece : s.gzPieceErr l = none) (hgood : bits l.param0 0 12 ∉ s.gz.badGroups) : s.pieceLetter q =
      ({ s.pieceStart c l with gz := { (s.pieceStart c l).gz with todo := pieceKeys l, busy := pieceKeys l } } : State).gzDealAll 8 := by
  have hbad : s.gz.badGroups.contains (bits l.param0 0 12) = false := by simpa using hgood
  obtain ⟨-, -, hf⟩ := glaziaPart_launch h.head.queue h.head.cached (l := l)
  have hw : ((s.advanceHead c).launch .glazia 0 [s.glaziaPart c l]).demand [12] = (s.advanceHead c).launch .glazia 0 [s.glaziaPart c l] :=
    demand_awake (h.clocked.congr (hf .od (by decide)) (hf .pwr (by decide))) (by simp)
  unfold glaziaPart at hw
  simp only [pieceLetter, h.gzHead (want := (· == 2)) (by simp [hprog]), hok, hpiece, hbad, Bool.false_eq_true, if_false, hw]
  rfl

/-- An accepted PIECE runs, and its grains are dealt to the cores, the first of them to core 0 when that is free (R357, R359). -/
theorem GlaziaTakes.pieceLetter_runs (h : s.GlaziaTakes q c l) (hprog : l.prog % 4096 = 2) (hok : firstErr (gzChecks s c l) = none)
    (hpiece : s.gzPieceErr l = none) (hgood : bits l.param0 0 12 ∉ s.gz.badGroups) :
    let t := s.pieceLetter q
    s.launched q c l .glazia 0 t ∧ t.gz.busy = pieceKeys l ∧ t.gz.covered = s.gz.covered ∧
      (s.gz.cores.length = 8 → (s.gzCore 0).grain = none → bits l.param0 32 32 < 2 ^ 20 →
        (t.gzCore 0).grain = some (bits l.param0 0 12, bits l.param0 32 32)) := by
  obtain ⟨hl, hgz⟩ := h.pieceStart
  dsimp only
  rw [h.pieceLetter_eq hprog hok hpiece hgood]
  generalize s.pieceStart c l = w at hl hgz
  generalize hv : ({ w with gz := { w.gz with todo := pieceKeys l, busy := pieceKeys l } } : State) = v
  have hdeal : v.sameBut [.gz] (v.gzDealAll 8) := (gzDealAll_evolves v 8).frame
  obtain ⟨hbusy, hcovered, -⟩ := v.gzDealAll_keeps 8
  have hvl : v.lb = w.lb := by rw [← hv]
  have hvm : v.meter = w.meter := by rw [← hv]
  have hvg : v.gz = { s.gz with todo := pieceKeys l, busy := pieceKeys l } := by rw [← hv, ← hgz]
  refine ⟨hl.congr ((hdeal .lb (by decide)).trans hvl) ?_, hbusy.trans (by rw [hvg]), hcovered.trans (by rw [hvg]), fun hlen hfree hf => ?_⟩
  · rw [ctr, ctr, show (v.gzDealAll 8).meter = v.meter from hdeal .meter (by decide), hvm]
  · obtain ⟨t, ht⟩ := pieceKeys_cons hpiece
    rw [gzDealAll_first (s := v) 7 (by rw [hvg]; exact ht) (by rw [hvg]; exact hlen) (by rw [gzCore, hvg]; exact hfree), gzKey]
    exact congrArg some (Prod.ext (by simp only; omega) (by simp only; omega))

theorem GlaziaTakes.pieceLetter_lost (h : s.GlaziaTakes q c l) (hprog : l.prog % 4096 = 2) (hok : firstErr (gzChecks s c l) = none)
    (hpiece : s.gzPieceErr l = none) (hbad : bits l.param0 0 12 ∈ s.gz.badGroups) :
    s.pieceLetter q = (s.refuseLetter c 12 Err.gzGroup l).gzEndUpdate := by
  have hbad' : s.gz.badGroups.contains (bits l.param0 0 12) = true := by simpa using hbad
  simp only [pieceLetter, h.gzHead (want := (· == 2)) (by simp [hprog]), hok, hpiece, hbad', if_true]

theorem GlaziaTakes.pieceLetter_fails (h : s.GlaziaTakes q c l) (hprog : l.prog % 4096 = 2) (hok : firstErr (gzChecks s c l) = none) {e : Nat}
    (hpiece : s.gzPieceErr l = some e) : s.pieceLetter q = s.refuseLetter c 12 e l := by
  simp only [pieceLetter, h.gzHead (want := (· == 2)) (by simp [hprog]), hok, hpiece]

/-- The errors of a PIECE are Glazia's. -/
theorem gzPieceErr_refused {e : Nat} (h : s.gzPieceErr l = some e) : refusedAfterDispatch e := by
  have hmem : e ∈ [Err.gzState, Err.gzPiece, Err.gzOverlap] := firstErr_mem h
  exact (by unfold refusedAfterDispatch; decide : ∀ e ∈ [Err.gzState, Err.gzPiece, Err.gzOverlap], refusedAfterDispatch e) e hmem

/-! ### CLOSE -/

/-- A CLOSE that finds an update open passes its checks. -/
theorem GlaziaTakes.closeLetter_eq (h : s.GlaziaTakes q c l) (hprog : l.prog % 4096 = 3) (hok : firstErr (gzChecks s c l) = none)
    (hopen : s.odv K.gzState ≠ 0) : s.closeLetter q =
      if !s.gz.badGroups.isEmpty then (s.refuseLetter c 12 Err.gzGroup l).gzEndUpdate
      else if s.gzIncomplete then s.refuseLetter c 12 Err.gzIncomplete l
      else ((s.dispatched c c.isa).gzClose c.q c.head l).gzComplete c l (s.isLate (s.deadlineOf c)) s.tick := by
  have hchecks : firstErr (gzChecks s c l ++ [(s.odv K.gzState == 0, Err.gzState)]) = none :=
    (firstErr_append_none hok).trans (by simp [firstErr, hopen])
  simp only [closeLetter, h.gzHead (want := (· == 3)) (by simp [hprog]), hchecks, h.gzTake]

/-- A CLOSE of a complete update closes it (R361). -/
theorem GlaziaTakes.closeLetter_closes (h : s.GlaziaTakes q c l) :
    let t := ((s.dispatched c c.isa).gzClose c.q c.head l).gzComplete c l (s.isLate (s.deadlineOf c)) s.tick
    let bank := (s.odv K.gzStep + 1) % max 1 (s.odv K.bankCount)
    s.completedNow q c l (c.sent (s.isLate (s.deadlineOf c))) t ∧ t.odv K.gzState = 0 ∧
      t.ctr Ctr.gzUpdates = (s.ctr Ctr.gzUpdates + 1) % 2 ^ 64 ∧
      (c.done = c.head → t.odv K.bankCurrent = bank) ∧
      (c.done ≠ c.head → t.odv K.bankCurrent = s.odv K.bankCurrent ∧ t.gz.closing = some ((q, c.head), bank)) ∧
      (c.crSpace ≠ .cellar → s.odv K.gzStep + 1 < 2 ^ 64 → t.bankNextStep bank = s.odv K.gzStep + 1 ∧ t.bankStatus bank = 1) := by
  obtain rfl := queue_q h.head.queue
  obtain ⟨-, hf, hunits, -⟩ := h.head.dispatched c.isa
  have hclose := (s.dispatched c c.isa).gzClose_spec c.q c.head l
  have hodv := hf.odv (by decide)
  have hbank : (s.dispatched c c.isa).closeBank = (s.odv K.gzStep + 1) % max 1 (s.odv K.bankCount) := by rw [closeBank, hodv, hodv]
  generalize (s.dispatched c c.isa).gzClose c.q c.head l = u at hclose
  obtain ⟨hnow, hend⟩ := h.completes hclose.frame (by decide) (by decide)
    (by rw [hostDown, hostDown, hclose.od _ (by decide)]) hclose.units (by decide)
  have hod : ∀ k, k ≠ K.gzState → u.odv k = s.odv k := fun k hk => (hclose.od k hk).trans (hodv k)
  have hclosing := hclose.closing
  rw [hbank] at hclosing
  have hheader := hclose.header
  rw [hbank, hodv] at hheader
  dsimp only
  generalize u.gzComplete c l (s.isLate (s.deadlineOf c)) s.tick = t at hnow hend ⊢
  refine ⟨hnow, (hend.od _ (by decide)).trans hclose.state, ?_, fun hdone => hend.closing hdone.symm _ hclosing, fun hdone => ?_, fun hcr hstep => ?_⟩
  · rw [hend.units _ (by decide), hclose.updates, hunits _ (by decide)]
  · have hw := hend.waiting (Ne.symm hdone)
    exact ⟨(hw.odv (by decide) _).trans (hod _ (by decide)), (congrArg GzState.closing (hw .gz (by decide))).trans hclosing⟩
  · have hcounts : (immediate c c.head 0 l (s.isLate (s.deadlineOf c)) s.tick).hasCounts = false := by
      rw [immediate, h.route]
      rfl
    have hmem : t.mem .cellar = u.mem .cellar := hend.other rfl hcounts _ (Ne.symm hcr)
    have haddr : ∀ b, t.bankAddr b = u.bankAddr b := fun b => by
      simp only [bankAddr, hend.od _ (show K.bankBase ≠ K.bankCurrent by decide), hend.od _ (show K.bankBytes ≠ K.bankCurrent by decide)]
    rw [bankNextStep, bankStatus, rd, rd, hmem, haddr]
    exact hheader hstep

/-! ### QUANT -/

theorem GlaziaTakes.quantLetter_fails (h : s.GlaziaTakes q c l) (hprog : l.prog % 4096 = 4) {e : Nat}
    (he : s.quantErr c l (readSlot s l.slotA) (readSlot s l.slotD) = some e) : s.quantLetter q = s.refuseLetter c 12 e l := by
  simp only [quantLetter, h.gzHead (want := (· == 4)) (by simp [hprog]), he]

/-- A QUANT that passes its checks counts its elements and completes (R371). -/
theorem GlaziaTakes.quantLetter_counts (h : s.GlaziaTakes q c l) (hprog : l.prog % 4096 = 4)
    (hok : s.quantErr c l (readSlot s l.slotA) (readSlot s l.slotD) = none)
    (hgood : s.odv K.gzState = 1 → bits l.param0 0 12 ∉ s.gz.badGroups) :
    s.completedNow q c l (c.sent (s.isLate (s.deadlineOf c))) (s.quantLetter q) ∧ ∀ x ∈ s.quantGroup (bits l.param0 0 12),
      (s.quantLetter q).ctr Ctr.gzQuantElements = (s.ctr Ctr.gzQuantElements + x.1.elems) % 2 ^ 64 := by
  have hlost : (s.odv K.gzState == 1 && s.gz.badGroups.contains (bits l.param0 0 12)) = false := by
    by_cases h1 : s.odv K.gzState = 1
    · simp [h1, hgood h1]
    · simp [h1]
  let a := (readSlot s l.slotA).desc
  let d := (readSlot s l.slotD).desc
  have e : s.quantLetter q = ((s.dispatched c c.isa).gzQuant l a d).gzComplete c l (s.isLate (s.deadlineOf c)) s.tick := by
    simp only [quantLetter, h.gzHead (want := (· == 4)) (by simp [hprog]), hok, hlost, Bool.false_eq_true, if_false, h.gzTake, a, d]
  obtain ⟨-, hf, hunits, -⟩ := h.head.dispatched c.isa
  obtain ⟨hquant, helems⟩ := (s.dispatched c c.isa).gzQuant_spec l a d
  have hqf := (gzQuant_evolves (s.dispatched c c.isa) l a d).frame
  obtain ⟨hnow, hend⟩ := h.completes hqf (by decide) (by decide) (hostDown_of_frame hqf (by decide)) hquant (by decide)
  rw [e]
  refine ⟨hnow, fun x hx => ?_⟩
  rw [hend.units _ (by decide), helems x ((quantGroup_congr hf _).trans hx), hunits _ (by decide)]

/-! ### Other programs -/

theorem GlaziaTakes.gzUnknown_eq (h : s.GlaziaTakes q c l) (hprog : ¬(1 ≤ l.prog % 4096 ∧ l.prog % 4096 ≤ 4)) :
    s.gzUnknown q = s.refuseLetter c 12 ((firstErr (gzChecks s c l)).getD Err.gzState) l := by
  have hw : (!(decide (1 ≤ l.prog % 4096) && decide (l.prog % 4096 ≤ 4))) = true := by
    simp only [Bool.not_eq_true', Bool.and_eq_false_iff, decide_eq_false_iff_not]
    omega
  simp only [gzUnknown, h.gzHead (want := fun p => !(1 ≤ p && p ≤ 4)) hw]

end

end State

end Sys2Proof.Machine

namespace Sys2Proof.Proofs

open Sys2Proof Sys2Proof.Machine

/-- Settles O26: each letter that Glazia takes (State.GlaziaTakes) opens, waits, is dealt, closes or quantizes as its checks say, or is
refused (State.HeadIs.refuseLetter, State.HeadIs.failLetter). -/
theorem glaziaLettersRun : Obligations.GlaziaLettersRun := by
  intro s q c l hhead hawake hroute hchosen hfree late prog b openErr n bank keys ok fails
  have h : s.GlaziaTakes q c l := ⟨hhead, hawake, hroute, hchosen, hfree⟩
  have hrefused : ∀ e, fails e = s.refusedWith q c l e := fun e => rfl
  have hopenLetter : exec (.openUpdate q) s = .next (s.openLetter q) := congrArg _ (h.dispatching (State.openLetter · q))
  have hpieceLetter : exec (.piece q) s = .next (s.pieceLetter q) := congrArg _ (h.dispatching (State.pieceLetter · q))
  have hcloseLetter : exec (.close q) s = .next (s.closeLetter q) := congrArg _ (h.dispatching (State.closeLetter · q))
  have hquantLetter : exec (.quant q) s = .next (s.quantLetter q) := congrArg _ (h.dispatching (State.quantLetter · q))
  have hunknown : exec (.gzUnknownProg q) s = .next (s.gzUnknown q) := congrArg _ (h.dispatching (State.gzUnknown · q))
  have hgroup : refusedAfterDispatch Err.gzGroup := by unfold refusedAfterDispatch; decide
  refine ⟨fun hprog hok hholds => ⟨_, hopenLetter, ?opens⟩, fun hprog hok hholds hpolicy => ⟨_, hopenLetter, h.openLetter_waits hprog hok hholds hpolicy⟩,
    fun hprog hok hholds hpolicy => ⟨_, hopenLetter, h.openLetter_skips hprog hok hholds hpolicy⟩,
    fun e hprog he hmem => ⟨_, hopenLetter, ?openFails⟩,
    fun hprog hok hpiece hgood => ⟨_, hpieceLetter, h.pieceLetter_runs hprog hok hpiece hgood⟩,
    fun hprog hok hpiece hbad => ⟨_, hpieceLetter, ?pieceLost⟩, fun e hprog hok he => ⟨_, hpieceLetter, ?pieceFails⟩,
    fun hprog hok hopen hgood hcomplete => ⟨_, hcloseLetter, ?closes⟩, fun hprog hok hopen hbad => ⟨_, hcloseLetter, ?closeLost⟩,
    fun hprog hok hopen hgood hincomplete => ⟨_, hcloseLetter, ?closeFails⟩,
    fun hprog hok hgood => ⟨_, hquantLetter, h.quantLetter_counts hprog hok hgood⟩, fun e hprog he => ⟨_, hquantLetter, ?quantFails⟩,
    fun hprog => ⟨fun hok => ⟨_, hunknown, ?unknown⟩, fun e he => ⟨_, hunknown, ?unknownFails⟩⟩⟩
  case opens => exact h.openLetter_opens hprog hok hholds
  case openFails =>
    have hcode : refusedAfterDispatch e :=
      (by unfold refusedAfterDispatch; decide : ∀ e ∈ [Err.gzState, Err.gzBank, Err.gzGroup], refusedAfterDispatch e) e hmem
    rw [hrefused, h.openLetter_fails hprog he]
    exact h.refuse hcode
  case pieceLost =>
    rw [hrefused, h.pieceLetter_lost hprog hok hpiece hbad]
    exact h.refuse_ends hgroup
  case pieceFails =>
    rw [hrefused, h.pieceLetter_fails hprog hok he]
    exact h.refuse (State.gzPieceErr_refused he)
  case closes =>
    rw [h.closeLetter_eq hprog hok hopen, hgood, hcomplete]
    exact h.closeLetter_closes
  case closeLost =>
    rw [hrefused, h.closeLetter_eq hprog hok hopen, if_pos (by simpa using hbad)]
    exact h.refuse_ends hgroup
  case closeFails =>
    rw [hrefused, h.closeLetter_eq hprog hok hopen, hgood, hincomplete]
    exact h.refuse (by unfold refusedAfterDispatch; decide)
  case quantFails =>
    rw [hrefused, h.quantLetter_fails hprog he]
    split
    · next hcode => exact h.refuse hcode
    · next hcode =>
      rw [State.refuseLetter_validation hcode]
      exact (hhead.failLetter (quantErr_ne_zero he)).1
  case unknown =>
    rw [hrefused, h.gzUnknown_eq hprog, show firstErr (gzChecks s c l) = none from hok]
    exact h.refuse (by unfold refusedAfterDispatch; decide)
  case unknownFails =>
    obtain ⟨hcode, hne⟩ := gzChecks_code he
    rw [h.gzUnknown_eq hprog, he]
    exact State.refuseLetter_validation hcode ▸ (hhead.failLetter hne).1

end Sys2Proof.Proofs

/-! SUPPORT. The runs of collective letters (R391 to R400): what a change of one run leaves of another, and what the steps of a run
keep: its letter and its group, the inputs it waits for, and the units it has formed. -/

namespace Sys2Proof.Machine

/-! ### What a run keeps -/

/-- A run without what changes as its letter goes on. -/
def PlRun.core (r : PlRun) : PlRun :=
  { r with gone := [], units := [], inputs := [], grants := [], missed := [], bad := [], tally := ⟨0, 0, 0, none, 0, 0, 0, 0, 0, 0⟩ }

/-- A later state of the same run. -/
def PlRun.Same (r r' : PlRun) : Prop := r'.core = r.core

/-- A later state of the same run, with no more chunks left unsent to dead owners. -/
def PlRun.Tallied (r r' : PlRun) : Prop := r.Same r' ∧ r'.tally.orphans = r.tally.orphans

/-- A later state of a unit that waits for the same inputs. -/
structure PlUnit.Ripens (u u' : PlUnit) : Prop where
  sources : u'.sources = u.sources
  start : u'.start = u.start
  own : u.own.isSome = true → u'.own.isSome = true
  done : u.done = true → u'.done = true

/-- A later state of the same run, in which no input has arrived. -/
structure PlRun.Ripens (r r' : PlRun) : Prop where
  same : r.Same r'
  orphans : r'.tally.orphans = r.tally.orphans
  inputs : r'.inputs = r.inputs
  gone : r'.gone = r.gone
  grants : ∀ m, aget 0 r.grants m ≠ 0 ∨ r.op ≠ 1 → aget 0 r'.grants m = aget 0 r.grants m
  unit : ∀ o c level u, r.unit? o c level = some u → ∃ u', r'.unit? o c level = some u' ∧ u.Ripens u'

theorem PlUnit.Ripens.refl (u : PlUnit) : u.Ripens u := ⟨rfl, rfl, id, id⟩

theorem PlUnit.Ripens.trans {u v w : PlUnit} (h : u.Ripens v) (g : v.Ripens w) : u.Ripens w :=
  ⟨g.sources.trans h.sources, g.start.trans h.start, g.own ∘ h.own, g.done ∘ h.done⟩

theorem PlRun.Same.slot {r r' : PlRun} (h : r.Same r') : r'.slot = r.slot :=
  have e : r'.core.slot = r.core.slot := congrArg PlRun.slot h
  e

theorem PlRun.Same.op {r r' : PlRun} (h : r.Same r') : r'.op = r.op :=
  have e : r'.core.op = r.core.op := congrArg PlRun.op h
  e

theorem PlRun.Same.queue {r r' : PlRun} (h : r.Same r') : r'.queue = r.queue :=
  have e : r'.core.queue = r.core.queue := congrArg PlRun.queue h
  e

theorem PlRun.Same.seq {r r' : PlRun} (h : r.Same r') : r'.seq = r.seq :=
  have e : r'.core.seq = r.core.seq := congrArg PlRun.seq h
  e

theorem PlRun.Same.group {r r' : PlRun} (h : r.Same r') : r'.group = r.group :=
  have e : r'.core.group = r.core.group := congrArg PlRun.group h
  e

theorem PlRun.Same.tag {r r' : PlRun} (h : r.Same r') : r'.tag = r.tag :=
  have e : r'.core.tag = r.core.tag := congrArg PlRun.tag h
  e

theorem PlRun.Same.live {r r' : PlRun} (h : r.Same r') : r'.live = r.live :=
  have e : r'.core.live = r.core.live := congrArg PlRun.live h
  e

theorem PlRun.Same.round {r r' : PlRun} (h : r.Same r') : r'.round = r.round :=
  have e : r'.core.round = r.core.round := congrArg PlRun.round h
  e

theorem PlRun.Same.reserve {r r' : PlRun} (h : r.Same r') : r'.reserve = r.reserve :=
  have e : r'.core.reserve = r.core.reserve := congrArg PlRun.reserve h
  e

theorem PlRun.Same.captain {r r' : PlRun} (h : r.Same r') : r'.captain = r.captain :=
  have e : r'.core.captain = r.core.captain := congrArg PlRun.captain h
  e

theorem PlRun.Same.stopped {r r' : PlRun} (h : r.Same r') : r'.stopped = r.stopped :=
  have e : r'.core.stopped = r.core.stopped := congrArg PlRun.stopped h
  e

theorem PlRun.Ripens.refl (r : PlRun) : r.Ripens r := ⟨rfl, rfl, rfl, rfl, fun _ _ => rfl, fun _ _ _ u h => ⟨u, h, .refl u⟩⟩

theorem PlRun.Ripens.trans {r x y : PlRun} (h : r.Ripens x) (g : x.Ripens y) : r.Ripens y where
  same := Eq.trans g.same h.same
  orphans := g.orphans.trans h.orphans
  inputs := g.inputs.trans h.inputs
  gone := g.gone.trans h.gone
  grants m hm := by
    have e := h.grants m hm
    rw [g.grants m (hm.imp (by rw [e]; exact id) (by rw [h.same.op]; exact id)), e]
  unit o c level u hu := by
    obtain ⟨v, hv, huv⟩ := h.unit o c level u hu
    obtain ⟨w, hw, hvw⟩ := g.unit o c level v hv
    exact ⟨w, hw, huv.trans hvw⟩

/-- A change of what the run has counted, missed or found bad. -/
theorem PlRun.Ripens.of_units {r r' : PlRun} (hsame : r.Same r') (horphans : r'.tally.orphans = r.tally.orphans)
    (hin : r'.inputs = r.inputs) (hgone : r'.gone = r.gone) (hgrants : r'.grants = r.grants) (hunits : r'.units = r.units) : r.Ripens r' :=
  ⟨hsame, horphans, hin, hgone, fun _ _ => by rw [hgrants], fun o c level u h => ⟨u, by rw [PlRun.unit?, hunits]; exact h, .refl u⟩⟩

theorem PlRun.unit?_setUnit {r : PlRun} {w : PlUnit} {o c level : Nat} :
    (r.setUnit w).unit? o c level = (r.unit? o c level).map fun u => if u.is w.owner w.chunk w.level then w else u := by
  have hp : ((fun u : PlUnit => u.is o c level) ∘ fun x => if x.is w.owner w.chunk w.level then w else x) = fun u : PlUnit => u.is o c level := by
    funext x
    by_cases h : x.is w.owner w.chunk w.level = true
    · have hx := h
      simp only [PlUnit.is, Bool.and_eq_true, beq_iff_eq] at hx
      obtain ⟨⟨ho, hc⟩, hl⟩ := hx
      simp only [Function.comp_apply, h, if_true]
      simp only [PlUnit.is, ho, hc, hl]
    · simp only [Function.comp_apply, h, Bool.false_eq_true, if_false]
  rw [PlRun.unit?, PlRun.setUnit, List.find?_map, hp, PlRun.unit?]

/-- A unit put in place of one that it is a later state of. -/
theorem PlRun.Ripens.setUnit {r : PlRun} {o c level : Nat} {u w : PlUnit} (hu : r.unit? o c level = some u)
    (hw : w.is o c level = true) (h : u.Ripens w) : r.Ripens (r.setUnit w) := by
  refine ⟨rfl, rfl, rfl, rfl, fun _ _ => rfl, fun o' c' level' v hv => ?_⟩
  rw [unit?_setUnit, hv]
  refine ⟨_, rfl, ?_⟩
  beta_reduce
  split
  · next his =>
    have hv' := List.find?_some hv
    simp only [PlUnit.is, Bool.and_eq_true, beq_iff_eq] at his hv' hw
    obtain ⟨⟨h1, h2⟩, h3⟩ := his
    obtain ⟨⟨h4, h5⟩, h6⟩ := hv'
    obtain ⟨⟨h7, h8⟩, h9⟩ := hw
    have : v = u := by
      have e : r.unit? o c level = r.unit? o' c' level' := by
        rw [← h4, ← h5, ← h6, h1, h2, h3, h7, h8, h9]
      rw [hu, hv] at e
      exact (Option.some.inj e).symm
    exact this ▸ h
  · exact .refl v

namespace State

/-! ### One run changed -/

/-- The runs stand at the same slots, and the one that goes on at slot n does still, as R says. -/
structure RunsKeep (R : PlRun → PlRun → Prop) (n : Nat) (s t : State) : Prop where
  slots : t.pel.runs.map (·.slot) = s.pel.runs.map (·.slot)
  run : ∀ r, s.plRun n = some r → ∃ r', t.plRun n = some r' ∧ R r r'

theorem RunsKeep.mono {R R' : PlRun → PlRun → Prop} {n : Nat} {s t : State} (h : s.RunsKeep R n t) (hR : ∀ r r', R r r' → R' r r') :
    s.RunsKeep R' n t := by
  refine ⟨h.slots, fun r hr => ?_⟩
  obtain ⟨r', hr', hrr⟩ := h.run r hr
  exact ⟨r', hr', hR r r' hrr⟩

theorem plRun_congr {s t : State} (h : t.pel.runs = s.pel.runs) (n : Nat) : t.plRun n = s.plRun n := by rw [plRun, plRun, h]

theorem plRun_slot {s : State} {n : Nat} {r : PlRun} (h : s.plRun n = some r) : r.slot = n ∧ r.stopped = false := by
  have hp := List.find?_some h
  simpa [Bool.and_eq_true] using hp

theorem plRun_mem {s : State} {n : Nat} {r : PlRun} (h : s.plRun n = some r) : r ∈ s.pel.runs := List.mem_of_find?_eq_some h

theorem slots_setRun (s : State) (x : PlRun) : (s.setRun x).pel.runs.map (·.slot) = s.pel.runs.map (·.slot) := by
  simp only [setRun, List.map_map]
  refine List.map_congr_left fun y _ => ?_
  simp only [Function.comp_apply]
  split
  · next h => exact (beq_iff_eq.1 h).symm
  · rfl

/-- A run kept at another slot is no matter. -/
theorem plRun_setRun_other {s : State} {x : PlRun} {n : Nat} (h : x.slot ≠ n) : (s.setRun x).plRun n = s.plRun n := by
  have hp : ((fun r : PlRun => r.slot == n && !r.stopped) ∘ fun y => if y.slot == x.slot then x else y) = fun r => r.slot == n && !r.stopped := by
    funext y
    by_cases hy : y.slot = x.slot
    · have hn : (x.slot == n) = false := by simpa using h
      simp [hy, hn]
    · simp [hy]
  rw [plRun, setRun, List.find?_map, hp, plRun]
  cases hf : s.pel.runs.find? fun r => r.slot == n && !r.stopped with
  | none => rfl
  | some y =>
    have hy : y.slot = n := (plRun_slot (s := s) hf).1
    simp [hy, Ne.symm h]

/-- A run that goes on, kept at its slot, is the one that goes on there. -/
theorem plRun_setRun_self {s : State} {x r : PlRun} {n : Nat} (hr : s.plRun n = some r) (h : x.slot = n) (hx : x.stopped = false) :
    (s.setRun x).plRun n = some x := by
  obtain ⟨hslot, -⟩ := plRun_slot hr
  have hp : ((fun r : PlRun => r.slot == n && !r.stopped) ∘ fun y => if y.slot == x.slot then x else y) = fun y => y.slot == n := by
    funext y
    by_cases hy : y.slot = n <;> simp [hy, h, hx]
  rw [plRun, setRun, List.find?_map, hp]
  cases hf : s.pel.runs.find? fun y => y.slot == n with
  | none => exact absurd (List.find?_eq_none.1 hf r (plRun_mem hr)) (by simp [hslot])
  | some y =>
    have hy : (y.slot == n) = true := List.find?_some (p := fun y : PlRun => y.slot == n) hf
    simp [h, beq_iff_eq.1 hy]

theorem RunsKeep.setRun {R : PlRun → PlRun → Prop} {n : Nat} {s t : State} (h : s.RunsKeep R n t) (x : PlRun)
    (hx : ∀ r r', x.slot = n → s.plRun n = some r → t.plRun n = some r' → R r r' → x.stopped = false ∧ R r x) : s.RunsKeep R n (t.setRun x) := by
  refine ⟨(slots_setRun t x).trans h.slots, fun r hr => ?_⟩
  obtain ⟨r', hr', hrr⟩ := h.run r hr
  by_cases hn : x.slot = n
  · obtain ⟨hstop, hR⟩ := hx r r' hn hr hr' hrr
    exact ⟨x, plRun_setRun_self hr' hn hstop, hR⟩
  · exact ⟨r', (plRun_setRun_other hn).trans hr', hrr⟩

theorem RunsKeep.of_runs {R : PlRun → PlRun → Prop} {n : Nat} {s t u : State} (h : s.RunsKeep R n t) (hu : u.pel.runs = t.pel.runs) :
    s.RunsKeep R n u := ⟨by rw [hu, h.slots], fun r hr => by rw [plRun_congr hu]; exact h.run r hr⟩

theorem RunsKeep.of_pel {R : PlRun → PlRun → Prop} {n : Nat} {s t u : State} {fs : List Fld} (h : s.RunsKeep R n t) (hu : t.sameBut fs u)
    (hf : Fld.pel ∉ fs) : s.RunsKeep R n u := h.of_runs (congrArg PelState.runs (hu .pel hf))

theorem RunsKeep.foldl {α : Type} {R : PlRun → PlRun → Prop} {n : Nat} {s : State} {g : State → α → State}
    (hg : ∀ t x, s.RunsKeep R n t → s.RunsKeep R n (g t x)) (l : List α) {t : State} (h : s.RunsKeep R n t) : s.RunsKeep R n (l.foldl g t) := by
  induction l generalizing t with
  | nil => exact h
  | cons x l ih => exact ih (hg t x h)

theorem RunsKeep.modRun {R : PlRun → PlRun → Prop} {n : Nat} {s t : State} (h : s.RunsKeep R n t) (slot : Nat) (f : PlRun → PlRun)
    (hf : ∀ r r', slot = n → s.plRun n = some r → t.plRun n = some r' → R r r' → r'.Same (f r') ∧ R r (f r')) (hslot : ∀ x, (f x).slot = x.slot) :
    s.RunsKeep R n (t.modRun slot f) := by
  unfold State.modRun
  split
  · exact h
  · next x hx =>
    obtain ⟨hxs, -⟩ := plRun_slot hx
    refine h.setRun _ fun r r' hn hr hr' hrr => ?_
    have hn' : slot = n := by rw [← hxs, ← hslot x, hn]
    subst hn'
    rw [hx, Option.some.injEq] at hr'
    subst hr'
    obtain ⟨hsame, hR⟩ := hf r x rfl hr hx hrr
    exact ⟨hsame.stopped.trans (plRun_slot hx).2, hR⟩

/-! ### Steps of a run that take no input -/

/-- No input has arrived at the run of slot n. -/
abbrev Ripens (s : State) (n : Nat) (t : State) : Prop := s.RunsKeep PlRun.Ripens n t

section

variable {s t : State} {n : Nat}

theorem Ripens.refl (s : State) (n : Nat) : s.Ripens n s := ⟨rfl, fun r hr => ⟨r, hr, .refl r⟩⟩

theorem Ripens.trans {u : State} (h : s.Ripens n t) (g : t.Ripens n u) : s.Ripens n u := by
  refine ⟨g.slots.trans h.slots, fun r hr => ?_⟩
  obtain ⟨x, hx, hrx⟩ := h.run r hr
  obtain ⟨y, hy, hxy⟩ := g.run x hx
  exact ⟨y, hy, hrx.trans hxy⟩

theorem Ripens.of_frame {fs : List Fld} (h : s.sameBut fs t) (hf : Fld.pel ∉ fs) : s.Ripens n t := (Ripens.refl s n).of_pel h hf

theorem Ripens.frame {u : State} {fs : List Fld} (h : s.Ripens n t) (hu : t.sameBut fs u) (hf : Fld.pel ∉ fs) : s.Ripens n u :=
  h.trans (.of_frame hu hf)

theorem modRun_ripens (s : State) (n slot : Nat) {f : PlRun → PlRun} (hf : ∀ x : PlRun, x.Ripens (f x)) : s.Ripens n (s.modRun slot f) :=
  (Ripens.refl s n).modRun slot f (fun _ r' _ _ _ h => ⟨(hf r').same, h.trans (hf r')⟩) fun x => (hf x).same.slot

theorem tally_ripens (s : State) (n slot : Nat) {f : PlTally → PlTally} (hf : ∀ x, (f x).orphans = x.orphans) : s.Ripens n (s.tally slot f) :=
  modRun_ripens s n slot fun r => .of_units rfl (hf r.tally) rfl rfl rfl rfl

theorem readOwn_runs (s : State) (r : PlRun) (o c : Nat) : (s.readOwn r o c).2.pel.runs = s.pel.runs := by
  unfold readOwn
  extract_lets es v entries void
  have hv : v.pel = s.pel := (countDelivery_evolves s (ownDelivery es)).frame .pel (by decide)
  split
  · exact congrArg PelState.runs hv
  · have hruns : v.pel.runs = s.pel.runs := congrArg PelState.runs hv
    dsimp only
    split <;> exact hruns

theorem chunkFrames_ripens (s : State) (n : Nat) (it : PlItem) (r : PlRun) : s.Ripens n (s.chunkFrames it r).2 := by
  have h : s.Ripens n (s.readOwn r it.owner it.chunk).2 := (Ripens.refl s n).of_runs (readOwn_runs ..)
  unfold chunkFrames
  generalize s.readOwn r it.owner it.chunk = x at h
  obtain ⟨v, u⟩ := x
  dsimp only
  split
  · split
    · exact h
    · exact Ripens.trans (t := u) h (tally_ripens u n r.slot (f := fun t => { t with voidSent := t.voidSent + 1 }) fun _ => rfl)
  · exact h

theorem setItem_ripens (s : State) (n : Nat) (it : PlItem) (keep : Bool) : s.Ripens n (s.setItem it keep) := (Ripens.refl s n).of_runs rfl

theorem readItem_ripens (s : State) (n : Nat) (it : PlItem) : s.Ripens n (s.readItem it) := by
  unfold readItem
  split
  · exact setItem_ripens ..
  · exact (chunkFrames_ripens ..).trans (setItem_ripens ..)

theorem plSendItem_ripens (s : State) (n : Nat) (it : PlItem) : s.Ripens n (s.plSendItem it) := by
  unfold plSendItem
  split
  · exact readItem_ripens ..
  · exact setItem_ripens ..
  · extract_lets k p v
    have hv : s.Ripens n v := (Ripens.refl s n).of_runs rfl
    exact (Ripens.frame hv (plSend_evolves v _ _ _ _).frame (by decide)).trans (setItem_ripens ..)

theorem plPump_ripens (s : State) (n : Nat) : s.Ripens n s.plPump := by
  have hgo : ∀ (k : Nat) (t : State), t.Ripens n (t.plPumpGo k) := by
    intro k
    induction k with
    | zero => exact fun t => .refl t n
    | succ k ih =>
      intro t
      unfold plPumpGo
      split
      · exact .refl t n
      · exact (plSendItem_ripens ..).trans (ih _)
  exact hgo _ s

theorem noteSources_ripens (s : State) (n slot : Nat) (part : Bool) (ms : List (Nat × SrcState)) : s.Ripens n (s.noteSources slot part ms) := by
  have hcount : ∀ (t : State) (k : Nat), t.Ripens n (t.count k 1) := fun t k => .of_frame (count_evolves t k 1).frame (by decide)
  unfold noteSources
  refine RunsKeep.foldl (fun t x h => Ripens.trans h ?_) ms (Ripens.refl s n)
  obtain ⟨m, x⟩ := x
  cases x with
  | wait | gone | torn => exact .refl t n
  | missed =>
    have h1 : t.Ripens n (t.modRun slot fun r => { r with missed := sadd r.missed m }) := modRun_ripens _ _ _ fun x => .of_units rfl rfl rfl rfl rfl rfl
    have h2 := h1.trans (tally_ripens _ n slot (f := fun t => { t with missed := t.missed + 1 }) fun _ => rfl)
    exact h2.trans (hcount _ _)
  | here i =>
    dsimp only
    split
    · have h1 : t.Ripens n (t.modRun slot fun r => { r with bad := sadd r.bad m }) := modRun_ripens _ _ _ fun x => .of_units rfl rfl rfl rfl rfl rfl
      split <;> [exact h1; exact h1.trans (hcount _ _)]
    · split <;> [exact hcount _ _; exact .refl t n]

theorem writeChunk_ripens (s : State) (n : Nat) (r : PlRun) (c : Nat) (own : List Nat × Nat) (ms : List (Nat × SrcState)) (torn : Bool) :
    s.Ripens n (s.writeChunk r c own ms torn) := by
  unfold writeChunk
  split
  · exact .refl s n
  · next d _ =>
    dsimp only
    generalize sumInputs _ own ms _ _ = x
    obtain ⟨acc, tot⟩ := x
    refine Ripens.trans ?_ (tally_ripens _ n r.slot fun _ => rfl)
    have hstored : ∀ cells k, s.Ripens n ((s.wrCells d.space cells).wr r.cnt.space (r.cnt.addr + 2 * c) 2 k) := fun cells k =>
      (Ripens.of_frame (wrCells_evolves s _ cells).frame (by decide)).frame (wr_evolves _ _ _ _ _).frame (by decide)
    have hcarry : ∀ u : State, s.Ripens n u → s.Ripens n (match r.s with
        | none => u
        | some t => if s.carryN r c == 0 then u else u.wr (carryCount t c).space (carryCount t c).addr 2 0) := fun u hu => by
      split
      · exact hu
      · split <;> [exact hu; exact hu.frame (wr_evolves u _ _ _ _).frame (by decide)]
    split
    · exact (hcarry _ (hstored _ _)).frame (count_evolves _ _ 1).frame (by decide)
    · exact hcarry _ (hstored _ _)

theorem enqueue_ripens (s : State) (n : Nat) (its : List PlItem) : s.Ripens n (s.enqueue its) := (Ripens.refl s n).of_runs rfl

end

end State

end Sys2Proof.Machine

/-! SUPPORT. What follows any event of a running collective letter (R400, R404, R406): units are formed and credits granted, and the
run ripens. -/

namespace Sys2Proof.Machine

namespace State

section

variable {s t : State} {n : Nat}

/-! ### A unit formed -/

/-- A unit of the run changed for a later state of it. -/
theorem modUnit_ripens (s : State) (n slot o c level : Nat) {f : PlUnit → PlUnit} (hf : ∀ u : PlUnit, u.Ripens (f u))
    (his : ∀ u : PlUnit, (f u).is o c level = u.is o c level) :
    s.Ripens n (s.modRun slot fun r => match r.unit? o c level with | none => r | some w => r.setUnit (f w)) := by
  refine modRun_ripens s n slot fun r => ?_
  split
  · exact .refl r
  · next w hw => exact .setUnit hw ((his w).trans (List.find?_some (p := fun u : PlUnit => u.is o c level) hw)) (hf w)

/-- A run with its unit formed. -/
def formed (s : State) (r : PlRun) (u : PlUnit) : State := s.setRun (r.setUnit { u with done := true })

theorem setUnit_done_ripens {r : PlRun} {u : PlUnit} {o c level : Nat} (hu : r.unit? o c level = some u) :
    r.Ripens (r.setUnit { u with done := true }) :=
  have his : u.is o c level = true := List.find?_some (p := fun u : PlUnit => u.is o c level) hu
  .setUnit hu his ⟨rfl, rfl, id, fun _ => rfl⟩

theorem formed_ripens {slot o c level : Nat} {r : PlRun} {u : PlUnit} (hr : s.plRun slot = some r) (hu : r.unit? o c level = some u) :
    s.Ripens n (s.formed r u) := by
  refine (Ripens.refl s n).setRun _ fun x x' hn _ hx' hxx => ?_
  obtain ⟨hslot, hstop⟩ := plRun_slot hr
  have hsn : slot = n := hslot.symm.trans hn
  subst hsn
  rw [hr, Option.some.injEq] at hx'
  subst hx'
  exact ⟨hstop, hxx.trans (setUnit_done_ripens hu)⟩

/-- The unit formed stands so in its run. -/
theorem formed_done {slot o c level : Nat} {r : PlRun} {u : PlUnit} (hr : s.plRun slot = some r) (hu : r.unit? o c level = some u) :
    ∃ r' u', (s.formed r u).plRun slot = some r' ∧ r'.unit? o c level = some u' ∧ u'.done = true := by
  obtain ⟨hslot, hstop⟩ := plRun_slot hr
  refine ⟨_, { u with done := true }, plRun_setRun_self hr hslot hstop, ?_, rfl⟩
  rw [PlRun.unit?_setUnit, hu]
  exact congrArg some (if_pos (by simp [PlUnit.is]))

theorem writePart_ripens (s : State) (n : Nat) (d : TDesc) (lss : List (List Nat)) (b : List Byte) : s.Ripens n (s.writePart d lss b) :=
  .of_frame (writePart_evolves s d lss b).frame (by decide)

theorem sendPart_ripens (s : State) (n : Nat) (r : PlRun) (o c : Nat) (dsts : List Nat) (b : Option (List Byte)) :
    s.Ripens n (s.sendPart r o c dsts b) := .of_frame (sendPart_evolves s r o c dsts b).frame (by decide)

/-- A unit that is not formed, its own contribution read, of which no source is waited for. -/
structure Formable (s : State) (r : PlRun) (u : PlUnit) : Prop where
  undone : u.done = false
  own : u.level = 3 ∨ u.own.isSome = true
  settled : ∀ m ∈ u.sources, s.srcState r u m ≠ .wait

/-- A try of a unit that cannot be formed does nothing; of one that can, it forms the unit, and the rest lets the run ripen. -/
theorem plTry_forms (s : State) (n slot o c level : Nat) :
    (s.plTry slot o c level = s ∧ ∀ r u, s.plRun slot = some r → r.unit? o c level = some u → ¬s.Formable r u) ∨
      ∃ r u, s.plRun slot = some r ∧ r.unit? o c level = some u ∧ (s.formed r u).Ripens n (s.plTry slot o c level) := by
  unfold plTry
  split
  · next hr => exact .inl ⟨rfl, fun r u h => by simp [hr] at h⟩
  next r hr =>
  split
  · next hu =>
    refine .inl ⟨rfl, fun r' u h h' => ?_⟩
    obtain rfl := Option.some.inj (hr.symm.trans h)
    simp [hu] at h'
  next u hu =>
  have his : u.is o c level = true := List.find?_some (p := fun u : PlUnit => u.is o c level) hu
  have hlevel : u.level = level := by
    simp only [PlUnit.is, Bool.and_eq_true, beq_iff_eq] at his
    exact his.2
  have hnot : ¬s.Formable r u → ∀ r' u', s.plRun slot = some r' → r'.unit? o c level = some u' → ¬s.Formable r' u' := fun h r' u' hr' hu' => by
    obtain rfl := Option.some.inj (hr.symm.trans hr')
    obtain rfl := Option.some.inj (hu.symm.trans hu')
    exact h
  split
  · next hno =>
    refine .inl ⟨rfl, hnot fun hf => ?_⟩
    have hown := hf.own
    rw [hlevel] at hown
    rcases hown with hown | hown
    · simp [hf.undone, hown] at hno
    · simp [hf.undone, Option.isNone_iff_eq_none, Option.isSome_iff_ne_none.1 hown] at hno
  extract_lets ms torn own s1 s2 k x v w fs s3 got z s4
  by_cases hwait : (ms.any fun p => p.2 == .wait) = true
  · rw [if_pos hwait]
    refine .inl ⟨rfl, hnot fun hf => ?_⟩
    obtain ⟨p, hp, hw⟩ := List.any_eq_true.1 hwait
    obtain ⟨m, hm, rfl⟩ := List.mem_map.1 hp
    exact hf.settled m hm (beq_iff_eq.1 hw)
  rw [if_neg hwait]
  refine .inr ⟨r, u, hr, hu, ?_⟩
  have h1 : (s.formed r u).Ripens n s1 := noteSources_ripens ..
  have h2 : s1.Ripens n s2 := by
    unfold s2
    split <;> [exact .refl s1 n; exact writeChunk_ripens ..]
  have h3 : s2.Ripens n s3 := by
    unfold s3
    split
    · exact .refl s2 n
    · have hw : s2.Ripens n w := by
        unfold w
        split <;> [exact .of_frame (count_evolves s2 _ 1).frame (by decide); exact .refl s2 n]
      split
      · exact hw.trans (modUnit_ripens w n slot o c 2 (f := fun u => { u with own := some v }) (fun u => ⟨rfl, rfl, fun _ => rfl, id⟩) fun _ => rfl)
      · exact hw.trans (enqueue_ripens ..)
  have h4 : s3.Ripens n s4 := by
    unfold s4
    split
    · exact .refl s3 n
    · have hz : s3.Ripens n z := by
        unfold z
        split
        · exact writePart_ripens ..
        · exact tally_ripens _ n slot fun _ => rfl
      split <;> [exact hz.trans (sendPart_ripens ..); exact hz]
  exact (((h1.trans h2).trans h3).trans h4).trans (plPump_ripens ..)

theorem plTry_ripens (s : State) (n slot o c level : Nat) : s.Ripens n (s.plTry slot o c level) := by
  rcases s.plTry_forms n slot o c level with ⟨h, -⟩ | ⟨r, u, hr, hu, h⟩
  · exact h.symm ▸ .refl s n
  · exact (formed_ripens hr hu).trans h

/-- A unit that can be formed is, when it is tried. -/
theorem plTry_done {slot o c level : Nat} {r : PlRun} {u : PlUnit} (hr : s.plRun slot = some r) (hu : r.unit? o c level = some u)
    (hf : s.Formable r u) : ∃ r' u', (s.plTry slot o c level).plRun slot = some r' ∧ r'.unit? o c level = some u' ∧ u'.done = true := by
  rcases s.plTry_forms slot slot o c level with ⟨-, hno⟩ | ⟨x, v, hx, hv, h⟩
  · exact absurd hf (hno r u hr hu)
  · obtain ⟨y, w, hy, hw, hdone⟩ := formed_done hx hv
    obtain ⟨y', hy', hyy⟩ := h.run y hy
    obtain ⟨w', hw', hww⟩ := hyy.unit o c level w hw
    exact ⟨y', w', hy', hw', hww.done hdone⟩

/-! ### A run's step -/

theorem plSettle_ripens (s : State) (n slot : Nat) : s.Ripens n (s.plSettle slot) := by
  unfold plSettle
  split
  · exact .refl s n
  · split
    · extract_lets u
      have hu : s.Ripens n u := RunsKeep.foldl (fun t it h => Ripens.trans h (readItem_ripens t n it)) _ (Ripens.refl s n)
      split
      · exact hu
      · exact (Ripens.frame hu (setOp_evolves u _).frame (by decide)).frame (releaseReads_evolves _ _).frame (by decide)
    · exact .refl s n

/-- The units of a run, as they are tried. -/
def tryOrder (r : PlRun) : List PlUnit := (r.units.filter fun u => u.level == 1) ++ r.units.filter fun u => u.level != 1

/-- Each of the units is tried in turn. -/
def tryUnits (s : State) (slot : Nat) (us : List PlUnit) : State :=
  us.foldl (fun st u => if u.done then st else st.plTry slot u.owner u.chunk u.level) s

theorem tryUnits_ripens (s : State) (n slot : Nat) (us : List PlUnit) : s.Ripens n (s.tryUnits slot us) :=
  RunsKeep.foldl (fun t u h => by split <;> [exact h; exact Ripens.trans h (plTry_ripens t n _ _ _ _)]) us (Ripens.refl s n)

theorem plTryAll_eq {slot : Nat} {r : PlRun} (hr : s.plRun slot = some r) : s.plTryAll slot = (s.tryUnits slot (tryOrder r)).plSettle slot := by
  rw [plTryAll, hr]
  rfl

theorem plTryAll_ripens (s : State) (n slot : Nat) : s.Ripens n (s.plTryAll slot) := by
  cases hr : s.plRun slot with
  | none =>
    rw [plTryAll, hr]
    exact .refl s n
  | some r =>
    rw [plTryAll_eq hr]
    exact (tryUnits_ripens ..).trans (plSettle_ripens ..)

theorem grantCredit_runs (s : State) (r : PlRun) (m : Nat) : (s.grantCredit r m).pel.runs = s.pel.runs := by
  unfold grantCredit
  extract_lets k p u
  have hu : u.pel.runs = s.pel.runs := rfl
  exact (congrArg PelState.runs ((plSend_evolves u _ _ _ _).frame .pel (by decide))).trans hu

/-- A source has two slots from now on. -/
theorem grantTwo_eq (s : State) (r : PlRun) (m : Nat) : ∃ u : State, s.grantTwo r m = u.modRun r.slot (fun x => { x with grants := aset 0 x.grants m (u.tick + 1) }) ∧
    u.pel.runs = s.pel.runs := by
  unfold grantTwo
  extract_lets k u v
  refine ⟨v, rfl, ?_⟩
  have hu : u.pel.runs = s.pel.runs := by
    unfold u
    split <;> [exact grantCredit_runs ..; rfl]
  have hv : v.pel.runs = u.pel.runs := by
    unfold v
    split <;> [exact grantCredit_runs ..; rfl]
  exact hv.trans hu

/-- Credits go to sources that had none. -/
theorem plAdvance_ripens (s : State) (n slot : Nat) : s.Ripens n (s.plAdvance slot) := by
  unfold plAdvance
  split
  · exact .refl s n
  next r hr =>
  split
  · exact .refl s n
  next hring =>
  split
  · exact .refl s n
  dsimp only
  have hop : r.op = 1 := by
    simp only [bne_iff_ne, ne_eq, Bool.or_eq_true, not_or, not_not] at hring
    exact hring.1
  obtain ⟨hslot, -⟩ := plRun_slot hr
  refine RunsKeep.foldl (fun t m h => ?_) _ (Ripens.refl s n)
  split
  · next hzero =>
    obtain ⟨v, e, hv⟩ := t.grantTwo_eq r m
    rw [e]
    refine (h.of_runs hv).modRun _ _ (fun x x' hn hxs _ hx => ⟨rfl, ?_⟩) fun _ => rfl
    rw [← hn, hslot, hr, Option.some.injEq] at hxs
    subst hxs
    refine ⟨hx.same, hx.orphans, hx.inputs, hx.gone, fun j hj => ?_, hx.unit⟩
    have hjm : j ≠ m := by
      rintro rfl
      rcases hj with hj | hj
      · exact hj (beq_iff_eq.1 hzero)
      · exact hj hop
    change aget 0 (aset 0 x'.grants m (v.tick + 1)) j = _
    exact (aget_aset_other hjm).trans (hx.grants j hj)
  · exact h

theorem plStep_ripens (s : State) (n slot : Nat) : s.Ripens n (s.plStep slot) :=
  ((plAdvance_ripens ..).trans (plTryAll_ripens ..)).trans (plAdvance_ripens ..)

end

end State

end Sys2Proof.Machine

/-! SUPPORT. A chunk's deadline (R404, R406): the clock reaches it, and a chunk none of whose inputs has begun is formed without them. -/

namespace Sys2Proof.Machine

/-- The greatest of a start and of the values of a list: it is no less than any of them, and one of them. -/
theorem foldl_max_spec (f : Nat → Nat) (l : List Nat) (b : Nat) :
    let t := l.foldl (fun t m => max t (f m)) b
    b ≤ t ∧ (∀ m ∈ l, f m ≤ t) ∧ (t = b ∨ ∃ m ∈ l, t = f m) := by
  induction l generalizing b with
  | nil => simp
  | cons a l ih =>
    obtain ⟨hb, hall, heq⟩ := ih (max b (f a))
    simp only [List.foldl_cons]
    refine ⟨(le_max_left _ _).trans hb, fun m hm => ?_, ?_⟩
    · rcases List.mem_cons.1 hm with rfl | hm
      · exact (le_max_right _ _).trans hb
      · exact hall m hm
    · rcases heq with h | ⟨m, hm, h⟩
      · rcases max_choice b (f a) with h' | h'
        · exact .inl (h.trans h')
        · exact .inr ⟨a, List.mem_cons_self, h.trans h'⟩
      · exact .inr ⟨m, List.mem_cons_of_mem _ hm, h⟩

namespace State

section

variable {s t : State} {n slot o c level : Nat} {r r' : PlRun} {u u' : PlUnit}

/-- No input of a unit has begun, and the deadline of each has passed. -/
def AllMissed (s : State) (r : PlRun) (u : PlUnit) : Prop :=
  ∀ m ∈ u.sources, r.input? u.owner u.chunk u.level m = none ∧ m ∉ r.gone ∧ s.pastDeadline r u m = true

theorem pastDeadline_iff {m t0 : Nat} (h : u.start = some t0) : s.pastDeadline r u m = true ↔
    (u.level = 3 ∨ aget 0 r.grants m ≠ 0) ∧ max t0 (aget 0 r.grants m - 1) + usTicks (capIn r.captain K.plDeadlineUs) ≤ s.tick := by
  simp [pastDeadline, h]

/-- Two units that stand for the same chunk at the same level. -/
theorem unit?_key {x : Nat × Nat × Nat} (h : r.unit? x.1 x.2.1 x.2.2 = some u) : (u.owner, u.chunk, u.level) = x := by
  have his := List.find?_some (p := fun u : PlUnit => u.is x.1 x.2.1 x.2.2) h
  simp only [PlUnit.is, Bool.and_eq_true, beq_iff_eq] at his
  obtain ⟨⟨h1, h2⟩, h3⟩ := his
  rw [h1, h2, h3]

/-- Missed inputs stay missed while the run ripens. -/
theorem AllMissed.ripens (h : s.AllMissed r u) (hr : r.Ripens r') (hu : u.Ripens u') (hkey : (u'.owner, u'.chunk, u'.level) = (u.owner, u.chunk, u.level))
    (htick : t.tick = s.tick) (hpart : u.level = 3 → r.op ≠ 1) : t.AllMissed r' u' := by
  intro m hm
  rw [hu.sources] at hm
  obtain ⟨hin, hgone, hpast⟩ := h m hm
  simp only [Prod.mk.injEq] at hkey
  obtain ⟨ho, hc, hl⟩ := hkey
  refine ⟨by rw [PlRun.input?, hr.inputs, ho, hc, hl]; exact hin, by rwa [hr.gone], ?_⟩
  cases hstart : u.start with
  | none => simp [pastDeadline, hstart] at hpast
  | some t0 =>
    rw [pastDeadline_iff hstart] at hpast
    obtain ⟨hruns, htime⟩ := hpast
    have hgrant : aget 0 r'.grants m = aget 0 r.grants m := hr.grants m (hruns.symm.imp id hpart)
    rw [pastDeadline_iff (hu.start.trans hstart), hgrant, hl, hr.same.captain, htick]
    exact ⟨hruns, htime⟩

/-- A unit whose inputs are all missed can be formed once its own contribution is read. -/
theorem AllMissed.formable (h : s.AllMissed r u) (hdone : u.done = false) (hown : u.level = 3 ∨ u.own.isSome = true) : s.Formable r u := by
  refine ⟨hdone, hown, fun m hm => ?_⟩
  obtain ⟨hin, hgone, hpast⟩ := h m hm
  simp [srcState, hin, hgone, hpast]

/-- The unit of a chunk is formed at slot n. -/
def UnitDone (s : State) (slot o c level : Nat) : Prop :=
  ∃ r u, s.plRun slot = some r ∧ r.unit? o c level = some u ∧ u.done = true

theorem UnitDone.ripens (h : s.UnitDone slot o c level) (hr : s.Ripens slot t) : t.UnitDone slot o c level := by
  obtain ⟨r, u, hrun, hu, hdone⟩ := h
  obtain ⟨r', hrun', hrr⟩ := hr.run r hrun
  obtain ⟨u', hu', huu⟩ := hrr.unit o c level u hu
  exact ⟨r', u', hrun', hu', huu.done hdone⟩

/-- A unit whose inputs are all missed is formed by a try. -/
theorem AllMissed.plTry (h : s.AllMissed r u) (hrun : s.plRun slot = some r) (hu : r.unit? o c level = some u)
    (hown : u.level = 3 ∨ u.own.isSome = true) : (s.plTry slot o c level).UnitDone slot o c level := by
  cases hdone : u.done with
  | false => exact plTry_done hrun hu (h.formable hdone hown)
  | true => exact UnitDone.ripens ⟨r, u, hrun, hu, hdone⟩ (plTry_ripens ..)

theorem tryUnits_tick (s : State) (slot : Nat) (us : List PlUnit) : (s.tryUnits slot us).tick = s.tick := by
  induction us generalizing s with
  | nil => rfl
  | cons u us ih =>
    rw [tryUnits, List.foldl_cons]
    refine (ih _).trans ?_
    split
    · rfl
    · exact (plTry_evolves s slot _ _ _).frame .tick (by decide)

/-- A unit whose inputs are all missed is formed when the units of its run are tried. -/
theorem AllMissed.tryUnits (h : s.AllMissed r u) (hrun : s.plRun slot = some r) (hu : r.unit? o c level = some u)
    (hown : u.level = 3 ∨ u.own.isSome = true) (hpart : u.level = 3 → r.op ≠ 1) {us : List PlUnit} (hmem : u ∈ us) :
    (s.tryUnits slot us).UnitDone slot o c level := by
  cases hdone : u.done with
  | true => exact UnitDone.ripens ⟨r, u, hrun, hu, hdone⟩ (tryUnits_ripens ..)
  | false =>
    obtain ⟨a, b, rfl⟩ := List.append_of_mem hmem
    have hkey : (u.owner, u.chunk, u.level) = (o, c, level) := unit?_key (x := (o, c, level)) hu
    have e : s.tryUnits slot (a ++ u :: b) = ((s.tryUnits slot a).plTry slot o c level).tryUnits slot b := by
      simp only [Prod.mk.injEq] at hkey
      obtain ⟨ho, hc, hl⟩ := hkey
      simp only [State.tryUnits, List.foldl_append, List.foldl_cons, hdone, Bool.false_eq_true, if_false, ho, hc, hl]
    obtain ⟨r', hrun', hrr⟩ := (tryUnits_ripens s slot slot a).run r hrun
    obtain ⟨u', hu', huu⟩ := hrr.unit o c level u hu
    have hkey' : (u'.owner, u'.chunk, u'.level) = (u.owner, u.chunk, u.level) := (unit?_key (x := (o, c, level)) hu').trans hkey.symm
    have hl' : u'.level = u.level := by simp only [Prod.mk.injEq] at hkey'; exact hkey'.2.2
    rw [e]
    exact ((h.ripens hrr huu hkey' (tryUnits_tick s slot a) hpart).plTry hrun' hu' (by rw [hl']; exact hown.imp id huu.own)).ripens (tryUnits_ripens ..)

/-- A unit whose inputs are all missed is formed by the step of its run. -/
theorem AllMissed.plStep (h : s.AllMissed r u) (hrun : s.plRun slot = some r) (hu : r.unit? o c level = some u)
    (hown : u.level = 3 ∨ u.own.isSome = true) (hpart : u.level = 3 → r.op ≠ 1) : (s.plStep slot).UnitDone slot o c level := by
  obtain ⟨r', hrun', hrr⟩ := (plAdvance_ripens s slot slot).run r hrun
  obtain ⟨u', hu', huu⟩ := hrr.unit o c level u hu
  have hkey : (u'.owner, u'.chunk, u'.level) = (u.owner, u.chunk, u.level) :=
    (unit?_key (x := (o, c, level)) hu').trans (unit?_key (x := (o, c, level)) hu).symm
  have hl : u'.level = u.level := by simp only [Prod.mk.injEq] at hkey; exact hkey.2.2
  have hmissed := h.ripens hrr huu hkey (t := s.plAdvance slot) ((plAdvance_evolves s slot).frame .tick (by decide)) hpart
  have hmem : u' ∈ tryOrder r' := by
    have hin : u' ∈ r'.units := List.mem_of_find?_eq_some hu'
    simp only [tryOrder, List.mem_append, List.mem_filter, hin, true_and, beq_iff_eq, bne_iff_ne]
    exact em _
  rw [State.plStep, plTryAll_eq hrun']
  refine UnitDone.ripens (hmissed.tryUnits hrun' hu' (by rw [hl]; exact hown.imp id huu.own) (by rw [hl, hrr.same.op]; exact hpart) hmem) ?_
  exact (plSettle_ripens ..).trans (plAdvance_ripens ..)

/-! ### CHUNK_DEADLINE -/

/-- A source of a unit of a run whose deadline runs and whose input has not begun. -/
def Waits (r : PlRun) (o c level m : Nat) : Prop :=
  r.input? o c level m = none ∧ m ∉ r.gone ∧ (level = 3 ∨ aget 0 r.grants m ≠ 0)

/-- When a source's deadline passes, the unit having started at t0. -/
def deadlineTime (r : PlRun) (t0 m : Nat) : Nat := max t0 (aget 0 r.grants m - 1) + usTicks (capIn r.captain K.plDeadlineUs)

/-- The sources that a unit's deadline is for. -/
def waiters (r : PlRun) (u : PlUnit) (o c level : Nat) : List Nat :=
  u.sources.filter fun m => (r.input? o c level m).isNone && !r.gone.contains m && (level == 3 || aget 0 r.grants m != 0)

theorem mem_waiters {m : Nat} : m ∈ waiters r u o c level ↔ m ∈ u.sources ∧ Waits r o c level m := by
  simp [waiters, Waits, and_assoc]

theorem chunkDeadline_eq {t0 : Nat} (hrun : s.plRun slot = some r) (hu : r.unit? o c level = some u) (hstart : u.start = some t0)
    (hdone : u.done = false) :
    s.chunkDeadline slot o c level = (s.atLeast ((waiters r u o c level).foldl (fun t m => max t (deadlineTime r t0 m)) 0)).plStep slot := by
  simp only [chunkDeadline, hrun, hu, hstart, hdone, Bool.false_eq_true, if_false]
  rfl

/-- A chunk's deadline comes no earlier than its time, and forms a chunk none of whose inputs has begun (R404, R406). -/
theorem chunkDeadline_spec {t0 : Nat} (hrun : s.plRun slot = some r) (hu : r.unit? o c level = some u) (hstart : u.start = some t0)
    (hdone : u.done = false) (hlt : ∀ m ∈ u.sources, Waits r o c level m → deadlineTime r t0 m < 2 ^ 64) :
    let t := s.chunkDeadline slot o c level
    s.tick ≤ t.tick ∧ (∀ m ∈ u.sources, Waits r o c level m → deadlineTime r t0 m ≤ t.tick) ∧
      (t.tick = s.tick ∨ ∃ m ∈ u.sources, Waits r o c level m ∧ t.tick = deadlineTime r t0 m) ∧
      ((∀ m ∈ u.sources, Waits r o c level m) → (level = 3 ∨ u.own ≠ none) → (level = 3 → r.op ≠ 1) → t.UnitDone slot o c level) := by
  dsimp only
  rw [chunkDeadline_eq hrun hu hstart hdone]
  obtain ⟨-, hall, hone⟩ := foldl_max_spec (deadlineTime r t0) (waiters r u o c level) 0
  generalize (waiters r u o c level).foldl (fun t m => max t (deadlineTime r t0 m)) 0 = T at hall hone
  have hT : T = 0 ∨ ∃ m ∈ u.sources, Waits r o c level m ∧ T = deadlineTime r t0 m := by
    refine hone.imp id ?_
    rintro ⟨m, hm, e⟩
    exact ⟨m, (mem_waiters.1 hm).1, (mem_waiters.1 hm).2, e⟩
  have hsmall : T < 2 ^ 64 := by
    rcases hT with rfl | ⟨m, hm, hw, rfl⟩
    · decide
    · exact hlt m hm hw
  have hf := (atLeast_evolves s T).frame
  have htick : (s.atLeast T).tick = if s.tick < T then T else s.tick := by rw [atLeast_tick, Nat.mod_eq_of_lt hsmall]
  have hstep : ((s.atLeast T).plStep slot).tick = (s.atLeast T).tick := (plStep_evolves (s.atLeast T) slot).frame .tick (by decide)
  have hle : T ≤ (s.atLeast T).tick ∧ s.tick ≤ (s.atLeast T).tick := by
    rw [htick]
    split <;> omega
  rw [hstep]
  refine ⟨hle.2, fun m hm hw => (hall m (mem_waiters.2 ⟨hm, hw⟩)).trans hle.1, ?_, fun hw hown hpart => ?_⟩
  · rw [htick]
    split
    · next hlate =>
      rcases hT with rfl | ⟨m, hm, hw, e⟩
      · exact absurd hlate (Nat.not_lt_zero _)
      · exact .inr ⟨m, hm, hw, e⟩
    · exact .inl rfl
  · have hkey := unit?_key (x := (o, c, level)) hu
    simp only [Prod.mk.injEq] at hkey
    obtain ⟨rfl, rfl, rfl⟩ := hkey
    have hmissed : (s.atLeast T).AllMissed r u := fun m hm => by
      obtain ⟨hin, hgone, hruns⟩ := hw m hm
      exact ⟨hin, hgone, (pastDeadline_iff hstart).2 ⟨hruns, (hall m (mem_waiters.2 ⟨hm, hw m hm⟩)).trans hle.1⟩⟩
    have hrun' : (s.atLeast T).plRun slot = some r := (plRun_congr (congrArg PelState.runs (hf .pel (by decide))) slot).trans hrun
    exact hmissed.plStep hrun' hu (hown.imp id Option.isSome_iff_ne_none.2) hpart

end

end State

end Sys2Proof.Machine

/-! SUPPORT. A ring round or tree level that begins (R398, R399, R416, R589): what the run reads from the memories as it sends, the
chunks it leaves unsent, and the run as the round leaves it. -/

namespace Sys2Proof.Machine

namespace State

/-! ### Reading elements -/

/-- The memories read alike. -/
def readsAs (s t : State) : Prop := t.mem = s.mem ∧ t.hostDown = s.hostDown

theorem readsAs.poisonedAt {s t : State} (h : s.readsAs t) : t.poisonedAt = s.poisonedAt := by
  obtain ⟨hmem, hdown⟩ := h
  funext sp a n
  rw [State.poisonedAt, State.poisonedAt, hmem, hdown]

theorem readsAs.rd {s t : State} (h : s.readsAs t) : t.rd = s.rd := by
  funext sp a n
  rw [State.rd, State.rd, h.1]

theorem readPlain_congr {s t : State} (h : s.readsAs t) (d : TDesc) (ls : List Nat) : readPlain t d ls = readPlain s d ls := by
  simp only [readPlain, readStored, codePlace, h.rd, h.poisonedAt]

theorem partDelivery_congr {s t : State} (h : s.readsAs t) (d : TDesc) (lss : List (List Nat)) : partDelivery t d lss = partDelivery s d lss := by
  have e : readPlain t d = readPlain s d := funext (readPlain_congr h d)
  rw [partDelivery, partDelivery, e]

theorem readsAs_setMem {s t : State} (h : s.readsAs t) (sp : Space) (m : Mem) : (s.setMem sp m).readsAs (t.setMem sp m) := by
  have hod : ∀ u : State, (u.setMem sp m).hostDown = u.hostDown := fun u =>
    hostDown_of_frame (setMem_sameBut u sp m) (by cases sp <;> decide)
  refine ⟨?_, by rw [hod, hod, h.2]⟩
  funext x
  have hx : t.mem x = s.mem x := congrFun h.1 x
  rw [mem_setMem, mem_setMem, hx]

theorem lostView_congr {s t : State} (h : s.readsAs t) (o : Op) : (s.lostView o).readsAs (t.lostView o) := by
  unfold lostView
  generalize o.buf.filter (·.poison) = es
  induction es generalizing s t with
  | nil => exact h
  | cons e es ih =>
    refine ih ?_
    beta_reduce
    rw [h.1]
    exact readsAs_setMem h _ _

theorem readsAs_of_frame {fs : List Fld} {s t : State} (h : s.sameBut fs t) (hf : ∀ f ∈ [Fld.attic, .cellar, .larder, .host, .od], f ∉ fs) : s.readsAs t := by
  refine ⟨funext fun x => ?_, hostDown_of_frame h (hf _ (by decide))⟩
  exact h.mem (hf _ (by decide)) (hf _ (by decide)) (hf _ (by decide)) (hf _ (by decide)) x

/-- The view a run sends from, where neither the memories nor its operation have changed. -/
theorem plView_congr {fs : List Fld} {s t : State} (h : s.sameBut fs t) (hf : ∀ f ∈ [Fld.attic, .cellar, .larder, .host, .od], f ∉ fs)
    (hlb : Fld.lb ∉ fs) {r r' : PlRun} (hslot : r'.slot = r.slot) : (s.plView r).readsAs (t.plView r') := by
  have e : t.lb = s.lb := h .lb hlb
  unfold plView
  rw [e, hslot]
  split
  · exact readsAs_of_frame h hf
  · exact lostView_congr (readsAs_of_frame h hf) _

/-! ### What a round does -/

section

variable {s t : State} {n slot : Nat} {r : PlRun}

theorem RunsKeep.and_then {R R' R'' : PlRun → PlRun → Prop} {u : State} (h : s.RunsKeep R n t) (g : t.RunsKeep R' n u)
    (hc : ∀ x y z, R x y → R' y z → R'' x z) : s.RunsKeep R'' n u := by
  refine ⟨g.slots.trans h.slots, fun r hr => ?_⟩
  obtain ⟨x, hx, hrx⟩ := h.run r hr
  obtain ⟨y, hy, hxy⟩ := g.run x hx
  exact ⟨y, hy, hc r x y hrx hxy⟩

/-- The run of slot n is the same, with no more chunks left unsent. -/
abbrev Tallies (s : State) (n : Nat) (t : State) : Prop := s.RunsKeep PlRun.Tallied n t

theorem Ripens.tallies (h : s.Ripens n t) : s.Tallies n t := h.mono fun _ _ h => ⟨h.same, h.orphans⟩

theorem Tallies.refl (s : State) (n : Nat) : s.Tallies n s := (Ripens.refl s n).tallies

theorem Tallies.trans {u : State} (h : s.Tallies n t) (g : t.Tallies n u) : s.Tallies n u :=
  RunsKeep.and_then h g fun _ _ _ a b => ⟨Eq.trans b.1 a.1, b.2.trans a.2⟩

theorem modRun_tallies (s : State) (n slot : Nat) {f : PlRun → PlRun} (hf : ∀ x : PlRun, x.Tallied (f x)) : s.Tallies n (s.modRun slot f) :=
  (Tallies.refl s n).modRun slot f (fun _ x _ _ _ h => ⟨(hf x).1, Eq.trans (hf x).1 h.1, (hf x).2.trans h.2⟩) fun x => (hf x).1.slot

/-- The own contributions read as a round begins. -/
theorem readOwnUnits_tallies (s : State) (n slot level : Nat) : s.Tallies n (s.readOwnUnits slot level) := by
  unfold readOwnUnits
  split
  · exact .refl s n
  · next r _ =>
    refine RunsKeep.foldl (fun t u h => ?_) _ (Tallies.refl s n)
    split
    · exact h
    · have hread := readOwn_runs t r u.owner u.chunk
      generalize t.readOwn r u.owner u.chunk = x at hread
      obtain ⟨v, w⟩ := x
      refine Tallies.trans (t := w) (h.of_runs hread) ?_
      refine modRun_tallies w n slot fun x => ?_
      extract_lets b y
      have hy : x.Tallied y := by
        unfold y
        split <;> exact ⟨rfl, rfl⟩
      split
      · split
        · exact hy
        · exact ⟨hy.1, hy.2⟩
      · exact hy

/-- Chunks not sent to a dead owner are counted in the run (R416). -/
theorem orphan_run (hr : s.plRun slot = some r) (k : Nat) :
    (s.orphan slot k).plRun slot = some { r with tally := { r.tally with orphans := r.tally.orphans + k } } := by
  obtain ⟨hslot, hstop⟩ := plRun_slot hr
  have e : s.orphan slot k = (s.setRun { r with tally := { r.tally with orphans := r.tally.orphans + k } }).count Ctr.plOrphans k := by
    rw [orphan, tally, modRun, hr]
  rw [e]
  exact plRun_setRun_self hr hslot hstop

theorem orphan_same (s : State) (n slot k : Nat) : s.RunsKeep PlRun.Same n (s.orphan slot k) :=
  RunsKeep.of_pel (t := s.tally slot fun t => { t with orphans := t.orphans + k })
    (((Ripens.refl s n).mono fun _ _ h => h.same).modRun slot _ (fun _ _ _ _ _ h => ⟨rfl, h⟩) fun _ => rfl)
    (count_evolves _ Ctr.plOrphans k).frame (by decide)

/-- The own part sent: no width above its format's ends the letter. -/
theorem sendOwnPart_ripens {o place : Nat} (dsts : List Nat)
    (hw : ∀ c d es, r.partPlaces true place c = some (d, es) → (partDelivery (s.plView r) d es).2 = false) :
    s.Ripens n (s.sendOwnPart r o place dsts) := by
  refine (List.foldlRecOn (motive := fun t => s.sameBut [.meter, .sent] t ∧ s.Ripens n t) _ _ ⟨.refl _ s, .refl s n⟩ fun t ht c _ => ?_).2
  obtain ⟨hf, h⟩ := ht
  split
  · exact ⟨hf, h⟩
  · next d es hplace =>
    obtain ⟨-, -, hp⟩ := Option.bind_eq_some_iff.1 hplace
    have hnarrow : (partDelivery (t.plView r) d es).2 = false := by
      rw [partDelivery_congr (plView_congr hf (by decide) (by decide) rfl)]
      exact hw c d es hp
    extract_lets v
    generalize partDelivery v d es = x at hnarrow
    obtain ⟨k, wide⟩ := x
    obtain rfl : wide = false := hnarrow
    have hcount := (countDelivery_evolves t k).frame
    have hsent := fun b => (sendPart_evolves (t.countDelivery k) r o c dsts b).frame
    simp only [Bool.false_eq_true, if_false]
    exact ⟨(hf.step hcount rfl).step (hsent _) rfl, (Ripens.frame h hcount (by decide)).frame (fs := [.meter, .sent]) (hsent _) (by decide)⟩

theorem repairedSends_runs (s : State) : s.repairedSends.pel.runs = s.pel.runs := by
  unfold repairedSends
  refine List.foldlRecOn (motive := fun t : State => t.pel.runs = s.pel.runs) _ _ rfl fun t ht v _ => ?_
  split
  · have hv : (t.sendRepaired v).pel = t.pel := (sendRepaired_evolves t v).frame .pel (by decide)
    exact (congrArg PelState.runs hv).trans ht
  · exact ht

/-- What follows the start of a round. -/
theorem afterRound_ripens (s : State) (n slot : Nat) : s.Ripens n ((s.plPump.plStep slot).repairedSends) :=
  ((plPump_ripens s n).trans (plStep_ripens _ n slot)).of_runs (repairedSends_runs _)

/-- The run, the same but for what it left unsent. -/
abbrev Continues (s : State) (n : Nat) (t : State) : Prop := s.RunsKeep PlRun.Same n t

theorem Ripens.continues (h : s.Ripens n t) : s.Continues n t := h.mono fun _ _ h => h.same

theorem Tallies.continues (h : s.Tallies n t) : s.Continues n t := h.mono fun _ _ h => h.1

theorem Continues.trans {u : State} (h : s.Continues n t) (g : t.Continues n u) : s.Continues n u :=
  RunsKeep.and_then h g fun _ _ _ a b => Eq.trans b a

/-- A round that starts is the next one, and a REDUCE_SCATTER towards a member that is not live leaves its chunks unsent
(R398, R416, R589). -/
theorem roundStart_spec (hrun : s.plRun slot = some r) (hround : r.round < r.rounds)
    (hw : ∀ place c d es, r.partPlaces true place c = some (d, es) → (partDelivery (s.plView r) d es).2 = false) :
    ∃ r', (s.roundStart slot).plRun slot = some r' ∧ ({ r with round := r.round + 1 } : PlRun).Same r' ∧
      (r.op = 1 → r.tree = false → r.isLive ((r.me + r.round + 1) % max 1 r.members) = false →
        r'.tally.orphans = r.tally.orphans + r.chunks ((r.me + r.round + 1) % max 1 r.members)) := by
  obtain ⟨hslot, hstop⟩ := plRun_slot hrun
  generalize ht : s.roundStart slot = t
  unfold roundStart at ht
  rw [hrun] at ht
  dsimp -zeta only at ht
  rw [if_neg (Nat.not_le.2 hround)] at ht
  extract_lets k s0 rk item o u v subs m at ht
  have h0 : s0.plRun slot = some rk := plRun_setRun_self hrun hslot hstop
  have hview : ∀ place c d es, rk.partPlaces true place c = some (d, es) → (partDelivery (s0.plView rk) d es).2 = false := fun place c d es h => by
    have hs0 : s.sameBut [.pel] s0 := (setRun_evolves s rk).frame
    rw [partDelivery_congr (plView_congr hs0 (by decide) (by decide) (show rk.slot = r.slot from rfl))]
    exact hw place c d es h
  have hread : ∀ level, s0.Continues slot (s0.readOwnUnits slot level) := fun level => (readOwnUnits_tallies s0 slot slot level).continues
  have hu : s0.Tallies slot u := by
    unfold u
    split <;> [exact readOwnUnits_tallies ..; exact .refl s0 slot]
  have hm : s0.Continues slot m := by
    have hrefl : s0.Continues slot s0 := (Ripens.refl s0 slot).continues
    have hsend : ∀ place dsts, s0.Continues slot (s0.sendOwnPart rk rk.me place dsts) := fun place dsts =>
      (sendOwnPart_ripens dsts fun c d es => hview place c d es).continues
    unfold m
    split
    · split
      · exact hu.continues.trans (enqueue_ripens ..).continues
      · exact hu.continues.trans (orphan_same ..)
    · split
      · refine RunsKeep.foldl (fun t o h => ?_) _ (hread 1)
        split
        · exact Continues.trans h (orphan_same ..)
        · split
          · exact h
          · split <;> [exact h; exact Continues.trans h (enqueue_ripens ..).continues]
      · split
        · split <;> [exact hrefl; exact hsend _ _]
        · split <;> [exact hrefl; exact hsend _ _]
  obtain ⟨x, hx, hsame⟩ := hm.run rk h0
  obtain ⟨r', hr', hripe⟩ := (afterRound_ripens m slot slot).run x hx
  rw [ht] at hr'
  refine ⟨r', hr', Eq.trans hripe.same hsame, fun hop htree hdead => hripe.orphans.trans ?_⟩
  have hdead' : rk.isLive o = false := hdead
  have hring : (rk.op == 1 && !rk.tree) = true := by simp [rk, hop, htree]
  have e : m = u.orphan slot (rk.chunks o) := by
    unfold m
    rw [if_pos hring, hdead', if_neg Bool.false_ne_true]
  obtain ⟨y, hy, -, horphans⟩ := hu.run rk h0
  rw [e, orphan_run hy, Option.some.injEq] at hx
  rw [← hx]
  exact congrArg (· + rk.chunks o) horphans

end

end State

end Sys2Proof.Machine

/-! SUPPORT. A frame whose TAG is not dispatched in time (R397): it is discarded and counted, and its credit goes back. -/

namespace Sys2Proof.Machine

namespace State

/-- A frame that leaves by port 0 or 1 is counted there. -/
theorem plSend_ctrSame {ports : List Nat} (hp : ∀ p ∈ ports, p < 2) (s : State) (c dst : Nat) (f : Nat × List Byte) :
    s.ctrSame [Ctr.plSent, Ctr.plSent + 1] (s.plSend ports c dst f) := by
  unfold plSend
  split
  · exact .refl _ s
  · next p h =>
    have hlt : p < 2 := by
      unfold plPort at h
      dsimp only at h
      split at h
      · rw [← Option.some.inj h, List.getD_eq_getElem?_getD]
        cases hget : ports[c % max 1 ports.length]? with
        | none => decide
        | some x => exact hp x (List.mem_of_getElem? hget)
      · exact hp p (List.mem_of_find?_eq_some h)
    split
    · exact .refl _ s
    · have hmem : Ctr.plSent + p ∈ [Ctr.plSent, Ctr.plSent + 1] := by
        rcases p with _ | _ | p
        · decide
        · decide
        · omega
      exact (ctrSame.of_meter (t := s.send _) rfl).trans ((ctrSame_count _ _ _).mono (by simpa using hmem))

theorem memberPorts_lt (s : State) (g m : Nat) : ∀ p ∈ s.memberPorts g m, p < 2 := by
  unfold memberPorts
  split <;> split <;> simp

/-- A credit that goes back (R403). -/
theorem returnCredit_spec (s : State) (h : Nat) :
    let k := creditKey (fhGroup h) (fhSrc h)
    (s.returnCredit h).pel = { s.pel with granted := aset 0 s.pel.granted k (aget 0 s.pel.granted k + 1) } ∧
    s.sameBut [.meter, .sent, .pel] (s.returnCredit h) ∧ s.ctrSame [Ctr.plSent, Ctr.plSent + 1] (s.returnCredit h) := by
  refine ⟨?_, (returnCredit_evolves s h).frame, ?_⟩
  · unfold returnCredit
    extract_lets k p u
    exact (plSend_evolves u _ _ _ _).frame .pel (by decide)
  · unfold returnCredit
    extract_lets k p u
    exact (ctrSame.of_meter (t := u) rfl).trans (plSend_ctrSame (memberPorts_lt u _ _) u _ _ _)

/-- The tick a discard comes at, 1 s after the frame's arrival or, later, now. -/
theorem discard_tick (s : State) (x : Nat) :
    (s.atLeast (x + 25000000)).tick = if s.tick < x + 25000000 then (x + 25000000) % 2 ^ 64 else s.tick := atLeast_tick ..

theorem discard_count (s : State) (x : Nat) : (s.atLeast x).ctr Ctr.plTagDiscards = s.ctr Ctr.plTagDiscards :=
  atLeast_ctr s x (by decide) (by decide)

/-- A frame in a slot is discarded (R397, R403). -/
theorem tagDiscard_frame {s : State} {slot : Nat} {f : PlFrame} (hf : s.pel.frames.find? (fun x => x.slot == slot) = some f) :
    let t := s.tagDiscard slot
    t.pel.frames = s.pel.frames.filter (fun x => x.slot != slot) ∧ t.tick = (s.atLeast (f.tick + 25000000)).tick ∧
      t.ctr Ctr.plTagDiscards = (s.ctr Ctr.plTagDiscards + 1) % 2 ^ 64 ∧
      aget 0 t.pel.granted (creditKey (fhGroup f.header) (fhSrc f.header)) =
        aget 0 s.pel.granted (creditKey (fhGroup f.header) (fhSrc f.header)) + 1 := by
  let u : State := { (s.atLeast (f.tick + 25000000)) with pel := { s.pel with frames := s.pel.frames.filter fun x => x.slot != slot } }
  have e : s.tagDiscard slot = (u.returnCredit f.header).count Ctr.plTagDiscards 1 := by
    rw [tagDiscard, hf]
  have hu : u.ctr Ctr.plTagDiscards = s.ctr Ctr.plTagDiscards := discard_count s _
  have htick : u.tick = (s.atLeast (f.tick + 25000000)).tick := rfl
  obtain ⟨hcredit, hframe, hctr⟩ := u.returnCredit_spec f.header
  have hp : (s.tagDiscard slot).pel = (u.returnCredit f.header).pel := by rw [e]; rfl
  have ht : (s.tagDiscard slot).tick = u.tick := by rw [e]; exact hframe .tick (by decide)
  have hc : (s.tagDiscard slot).ctr Ctr.plTagDiscards = (s.ctr Ctr.plTagDiscards + 1) % 2 ^ 64 := by
    rw [e, ctr_count, if_pos rfl, hctr _ (by decide), hu]
  have hframes : (s.tagDiscard slot).pel.frames = s.pel.frames.filter (fun x => x.slot != slot) :=
    congrArg PelState.frames (hp.trans hcredit)
  have hgranted : (s.tagDiscard slot).pel.granted = aset 0 s.pel.granted (creditKey (fhGroup f.header) (fhSrc f.header))
      (aget 0 s.pel.granted (creditKey (fhGroup f.header) (fhSrc f.header)) + 1) := congrArg PelState.granted (hp.trans hcredit)
  exact ⟨hframes, ht.trans htick, hc, by rw [hgranted, aget_aset_self]⟩

/-- A part frame that waits without a slot is discarded (R397). -/
theorem tagDiscard_early {s : State} {slot : Nat} {f : PlEarly} (hnone : s.pel.frames.find? (fun x => x.slot == slot) = none)
    (hslot : s.inboxSlots ≤ slot) (hf : s.pel.early[slot - s.inboxSlots]? = some f) :
    let t := s.tagDiscard slot
    t.pel.early = s.pel.early.eraseIdx (slot - s.inboxSlots) ∧ t.tick = (s.atLeast (f.tick + 25000000)).tick ∧
      t.ctr Ctr.plTagDiscards = (s.ctr Ctr.plTagDiscards + 1) % 2 ^ 64 ∧ s.sameBut [.meter, .tick, .pel, .bell, .mtr] t := by
  let u : State := { (s.atLeast (f.tick + 25000000)) with pel := { s.pel with early := s.pel.early.eraseIdx (slot - s.inboxSlots) } }
  have hdrop : ∃ l, s.pel.early.drop (slot - s.inboxSlots) = f :: l := by
    obtain ⟨hlt, rfl⟩ := List.getElem?_eq_some_iff.1 hf
    exact ⟨_, List.drop_eq_getElem_cons hlt⟩
  obtain ⟨l, hl⟩ := hdrop
  have e : s.tagDiscard slot = u.count Ctr.plTagDiscards 1 := by
    rw [tagDiscard, hnone]
    dsimp only
    rw [if_neg (Nat.not_lt.2 hslot), hl]
  have hu : u.ctr Ctr.plTagDiscards = s.ctr Ctr.plTagDiscards := discard_count s _
  have hpel : (s.atLeast (f.tick + 25000000)).sameBut [.pel] u := fun g hg => by cases g <;> simp_all [agree, u]
  have hearly : u.pel.early = s.pel.early.eraseIdx (slot - s.inboxSlots) := rfl
  have htick : u.tick = (s.atLeast (f.tick + 25000000)).tick := rfl
  have hframe : s.sameBut [.meter, .tick, .pel, .bell, .mtr] u := ((atLeast_evolves s _).frame.mono rfl).step hpel rfl
  clear_value u
  dsimp only
  rw [e]
  refine ⟨hearly, htick, ?_, hframe.step (count_evolves u _ 1).frame rfl⟩
  rw [ctr_count, if_pos rfl, hu]

end State

end Sys2Proof.Machine

/-! SUPPORT. A collective letter begins (R391 to R397, R404): what becomes of its operation and of its run while its credits go out and
the frames that waited for its TAG are taken. -/

namespace Sys2Proof.Machine

/-- The operation's first letter is the one named. -/
def Op.Names (o : Op) (nm : Nat × Nat) : Prop := ∃ p l, o.parts = p :: l ∧ (p.queue, p.seq) = nm

theorem Op.Names.of_isSame {x o : Op} {nm : Nat × Nat} (h : x.isSame o = true) (hx : x.Names nm) : o.Names nm := by
  obtain ⟨p, l, hp, hnm⟩ := hx
  unfold Op.isSame at h
  rw [hp] at h
  split at h
  · next p' l' q t hp' hq =>
    obtain rfl := (List.cons.inj hp').1
    rw [Bool.and_eq_true, beq_iff_eq, beq_iff_eq] at h
    exact ⟨q, t, hq, by rw [← h.1, ← h.2]; exact hnm⟩
  · exact absurd h (by decide)

/-- The run of a letter as it begins: what it waits for, and its reservation (R398, R399, R404). -/
def PlRun.begun (r : PlRun) (tick : Nat) : PlRun := { r with units := r.plan tick, reserve := r.reservation }

namespace State

/-! ### The operation -/

/-- The letter named runs, and every operation of that name is as G says. -/
def HoldsOp (s : State) (nm : Nat × Nat) (G : Op → Prop) : Prop := (∃ o ∈ s.lb.ops, o.Names nm) ∧ ∀ o ∈ s.lb.ops, o.Names nm → G o

/-- No more than the end of operations' work has been noted in the Letterbox. -/
structure OpsFinish (s t : State) : Prop where
  only : s.opsOnly t
  held : ∀ nm (G : Op → Prop), (∀ o, G o → G { o with finished := true }) → s.HoldsOp nm G → t.HoldsOp nm G

section

variable {s t : State} {n slot : Nat} {r : PlRun}

theorem OpsFinish.of_lb (h : t.lb = s.lb) : s.OpsFinish t := ⟨.of_lb h, fun nm G _ hs => by rwa [HoldsOp, h]⟩

theorem OpsFinish.of_frame {fs : List Fld} (h : s.sameBut fs t) (hf : Fld.lb ∉ fs) : s.OpsFinish t := .of_lb (h .lb hf)

theorem OpsFinish.trans {u : State} (h : s.OpsFinish t) (g : t.OpsFinish u) : s.OpsFinish u :=
  ⟨h.only.trans g.only, fun nm G hG hs => g.held nm G hG (h.held nm G hG hs)⟩

theorem setOp_finishes {o : Op} (ho : o ∈ s.lb.ops) : s.OpsFinish (s.setOp { o with finished := true }) := by
  refine ⟨rfl, fun nm G hG ⟨⟨y, hy, hnm⟩, hall⟩ => ⟨⟨_, List.mem_map_of_mem hy, ?_⟩, fun z hz hz' => ?_⟩⟩
  · split
    · next h => exact hnm.of_isSame h
    · exact hnm
  · obtain ⟨x, hx, rfl⟩ := List.mem_map.1 hz
    by_cases hsame : x.isSame { o with finished := true } = true
    · rw [if_pos hsame] at hz' ⊢
      exact hG o (hall o ho hz')
    · rw [if_neg hsame] at hz' ⊢
      exact hall x hx hz'

theorem plSettle_finishes (s : State) (slot : Nat) : s.OpsFinish (s.plSettle slot) := by
  unfold plSettle
  split
  · exact .of_lb rfl
  · split
    · extract_lets u
      have hu : s.OpsFinish u := .of_frame (fs := [.meter, .pel]) (sameBut.foldl (fun t it => (readItem_evolves t it).frame) _ s) (by decide)
      split
      · exact hu
      · next o ho =>
        exact (hu.trans (setOp_finishes (List.mem_of_find?_eq_some ho))).trans (.of_frame (releaseReads_evolves _ _).frame (by decide))
    · exact .of_lb rfl

theorem plStep_finishes (s : State) (slot : Nat) : s.OpsFinish (s.plStep slot) := by
  have hadv : ∀ u : State, u.OpsFinish (u.plAdvance slot) := fun u => .of_frame (plAdvance_evolves u slot).frame (by decide)
  have hall : ∀ u : State, u.OpsFinish (u.plTryAll slot) := fun u => by
    cases hr : u.plRun slot with
    | none =>
      rw [plTryAll, hr]
      exact .of_lb rfl
    | some r =>
      rw [plTryAll_eq hr]
      refine .trans (.of_frame (fs := [.attic, .cellar, .larder, .host, .meter, .sent, .pel]) (sameBut.foldl (fun t x => ?_) _ u) (by decide))
        (plSettle_finishes _ slot)
      split <;> [exact .refl _ t; exact (plTry_evolves t slot _ _ _).frame]
  exact ((hadv s).trans (hall _)).trans (hadv _)

/-! ### The run, alone at its slot -/

/-- The run of slot n goes on, and so do the operations. -/
structure Carries (s : State) (n : Nat) (t : State) : Prop where
  run : s.Continues n t
  ops : s.OpsFinish t

theorem Carries.trans {u : State} (h : s.Carries n t) (g : t.Carries n u) : s.Carries n u :=
  ⟨Continues.trans h.run g.run, h.ops.trans g.ops⟩

theorem Carries.of_same (hruns : t.pel.runs = s.pel.runs) (hlb : t.lb = s.lb) : s.Carries n t :=
  ⟨Ripens.continues ((Ripens.refl s n).of_runs hruns), .of_lb hlb⟩

theorem Carries.of_frame {fs : List Fld} (h : s.sameBut fs t) (hpel : Fld.pel ∉ fs) (hlb : Fld.lb ∉ fs) : s.Carries n t :=
  .of_same (congrArg PelState.runs (h .pel hpel)) (h .lb hlb)

theorem plStep_carries (s : State) (n slot : Nat) : s.Carries n (s.plStep slot) := ⟨(plStep_ripens s n slot).continues, plStep_finishes s slot⟩

theorem tally_carries (s : State) (n slot : Nat) {f : PlTally → PlTally} : s.Carries n (s.tally slot f) := by
  refine ⟨?_, .of_frame (tally_evolves s slot f).frame (by decide)⟩
  exact ((Ripens.refl s n).continues).modRun slot _ (fun _ _ _ _ _ h => ⟨rfl, h⟩) fun _ => rfl

theorem grantTwo_carries (s : State) (n : Nat) (r : PlRun) (m : Nat) : s.Carries n (s.grantTwo r m) := by
  refine ⟨?_, .of_frame (grantTwo_evolves s r m).frame (by decide)⟩
  obtain ⟨u, e, hu⟩ := s.grantTwo_eq r m
  rw [e]
  exact (Ripens.continues ((Ripens.refl s n).of_runs hu)).modRun r.slot _ (fun _ _ _ _ _ h => ⟨rfl, h⟩) fun _ => rfl

/-- One run only, the last, stands at slot n. -/
def Solo (s : State) (n : Nat) : Prop := ∃ l, n ∉ l ∧ s.pel.runs.map (·.slot) = l ++ [n]

theorem Solo.carries (h : s.Solo n) (g : s.Carries n t) : t.Solo n := by
  obtain ⟨l, hl, hs⟩ := h
  exact ⟨l, hl, g.run.slots.trans hs⟩

/-- A run that goes on at the slot is the one that stands there. -/
theorem Solo.plRun (h : s.Solo n) (hr : r ∈ s.pel.runs) (hslot : r.slot = n) (hstop : r.stopped = false) : s.plRun n = some r := by
  obtain ⟨l, hl, hs⟩ := h
  obtain ⟨a, b, hab, ha, hb⟩ := List.map_eq_append_iff.1 hs
  obtain ⟨z, rfl, hz⟩ := List.map_eq_singleton_iff.1 hb
  have hone : ∀ x ∈ s.pel.runs, x.slot = n → x = z := fun x hx hxn => by
    rw [hab, List.mem_append, List.mem_singleton] at hx
    rcases hx with hx | hx
    · refine absurd ?_ hl
      rw [← ha, ← hxn]
      exact List.mem_map_of_mem hx
    · exact hx
  cases hf : s.plRun n with
  | none => exact absurd (List.find?_eq_none.1 hf r hr) (by simp [hslot, hstop])
  | some y => rw [hone y (plRun_mem hf) (plRun_slot hf).1, hone r hr hslot]

/-! ### Frames taken -/

theorem lateFrame_carries (s : State) (n h c : Nat) (b : List Byte) (poison : Bool) : s.Carries n (s.lateFrame h c b poison) := by
  unfold lateFrame
  extract_lets key mine i0 i rest p w
  have hw : s.Carries n w := .of_same rfl rfl
  split
  · split
    · exact hw.trans (.of_frame (count_evolves w _ 1).frame (by decide) (by decide))
    · exact hw.trans (.of_frame (lateAct_evolves w _ _ _ _ _ _ _).frame (by decide) (by decide))
  · exact .of_same rfl rfl

theorem lateInput_carries (s : State) (n : Nat) (r : PlRun) (h o c : Nat) (b : List Byte) (poison : Bool) :
    s.Carries n (s.lateInput r h o c b poison) := by
  have hcount : ∀ k, s.Carries n (s.count k 1) := fun k => .of_frame (count_evolves s k 1).frame (by decide) (by decide)
  unfold lateInput
  split
  · exact lateFrame_carries ..
  · split
    · exact hcount _
    · split
      · exact hcount _
      · extract_lets x u
        have hu : s.Carries n u := .of_frame (plSend_evolves s _ _ _ _).frame (by decide) (by decide)
        split <;> [exact hu.trans (tally_carries u n _); exact hu]

/-- A frame of a running letter reaches its run; of a past one it is late. -/
theorem inputFrame_carries {running : Bool} (hr : running = true → r.slot = n → s.plRun n = some r) (part : Bool) (h port : Nat) (b : List Byte) (poison : Bool) :
    s.Carries n (s.inputFrame r running part h port b poison) := by
  have hcount : ∀ k, s.Carries n (s.count k 1) := fun k => .of_frame (count_evolves s k 1).frame (by decide) (by decide)
  unfold inputFrame
  extract_lets src
  generalize r.locate part (fhPfmt h) src (fhChunk h) = x
  obtain ⟨o, c, level⟩ := x
  dsimp -zeta only
  extract_lets late
  have hlate : s.Carries n late := by
    unfold late
    split
    · split <;> [exact hcount _; exact .of_same rfl rfl]
    · exact lateInput_carries ..
  split
  · exact hlate
  next hrunning =>
  split
  · exact hlate
  dsimp only
  split
  · exact hlate
  refine .trans ⟨?_, .of_frame (setRun_evolves s _).frame (by decide)⟩ (plStep_carries _ n r.slot)
  refine ((Ripens.refl s n).continues).setRun _ fun x x' hn _ hx' hxx => ?_
  have hrun := hr (by simpa using hrunning) hn
  rw [hrun, Option.some.injEq] at hx'
  subst hx'
  exact ⟨(plRun_slot hrun).2, hxx⟩

theorem consume_carries {running : Bool} (hr : running = true → r.slot = n → s.plRun n = some r) (f : PlFrame) :
    s.Carries n (s.consume f r running) := by
  unfold consume
  extract_lets b poison p w
  have hruns : (w.returnCredit f.header).pel.runs = s.pel.runs := by rw [(returnCredit_spec w f.header).1]
  have hw : s.Carries n (w.returnCredit f.header) := .of_same hruns (((returnCredit_evolves w f.header).frame .lb (by decide)))
  exact hw.trans (inputFrame_carries (fun h h' => (plRun_congr hruns n).trans (hr h h')) ..)

theorem runOf_plRun (h : s.Solo n) {g tag : Nat} (hr : s.runOf g tag = some r) (hslot : r.slot = n) : s.plRun n = some r := by
  have hp := List.find?_some hr
  simp only [Bool.and_eq_true, Bool.not_eq_true'] at hp
  exact h.plRun (List.mem_of_find?_eq_some hr) hslot hp.2

theorem takeFrame_carries (h : s.Solo n) (f : PlFrame) : s.Carries n (s.takeFrame f) := by
  unfold takeFrame
  extract_lets g tag
  split
  · next r hr => exact consume_carries (fun _ => runOf_plRun h hr) f
  · split
    · exact consume_carries (fun h => absurd h (by decide)) f
    · exact .of_same rfl rfl

theorem takeEarly_carries (h : s.Solo n) (g tag : Nat) : s.Carries n (s.takeEarly g tag) := by
  unfold takeEarly
  extract_lets mine fs p w
  have hw : s.Carries n w := .of_same rfl rfl
  refine List.foldlRecOn (motive := fun t => s.Carries n t) _ _ hw fun t ht f _ => ?_
  split
  · next r hr => exact ht.trans (inputFrame_carries (fun _ => runOf_plRun (h.carries ht) hr) ..)
  · exact ht

/-! ### The letter begins -/

/-- A letter that begins takes its place among the runs, alone at its slot, and goes on from there. -/
theorem plBegin_spec (hstop : r.stopped = false) (hfree : ∀ x ∈ s.pel.runs, x.slot ≠ r.slot) :
    ∃ u : State, u.plRun r.slot = some (r.begun s.tick) ∧ u.lb = s.lb ∧ u.Carries r.slot (s.plBegin r) := by
  generalize ht : s.plBegin r = t
  unfold plBegin at ht
  extract_lets r1 u1 keep same keep' p u dead v w x y at ht
  have hdrop : u1.pel.runs = s.pel.runs ∧ u1.lb = s.lb := by
    unfold u1
    split <;> exact ⟨rfl, rfl⟩
  have hruns : u.pel.runs = s.pel.runs ++ [r1] := congrArg (· ++ [r1]) hdrop.1
  have hsolo : u.Solo r.slot := by
    refine ⟨s.pel.runs.map (·.slot), fun h => ?_, by rw [hruns, List.map_append]; rfl⟩
    obtain ⟨x, hx, hslot⟩ := List.mem_map.1 h
    exact hfree x hx hslot
  have hrun : u.plRun r.slot = some r1 := hsolo.plRun (by rw [hruns]; simp) rfl hstop
  refine ⟨u, hrun, hdrop.2, ?_⟩
  have hv : u.Carries r.slot v := List.foldlRecOn (motive := fun t => u.Carries r.slot t) _ _ (.of_same rfl rfl) fun t h m _ =>
    h.trans (tally_carries t r.slot _)
  have hw : u.Carries r.slot w := hv.trans (.of_frame (ownPart_evolves v r1).frame (by decide) (by decide))
  have hx : u.Carries r.slot x := by
    unfold x
    split
    · exact List.foldlRecOn (motive := fun t => u.Carries r.slot t) _ _ hw fun t h m _ => h.trans (grantTwo_carries t r.slot r1 m)
    · exact hw.trans ⟨(plAdvance_ripens ..).continues, .of_frame (plAdvance_evolves w r1.slot).frame (by decide)⟩
  have hy : u.Carries r.slot y := List.foldlRecOn (motive := fun t => u.Carries r.slot t) _ _ hx fun t h f _ =>
    h.trans (takeFrame_carries (hsolo.carries h) f)
  exact ht ▸ (hy.trans (takeEarly_carries (hsolo.carries hy) ..)).trans (plStep_carries _ _ _)

end

end State

end Sys2Proof.Machine

/-! SUPPORT. The dispatch of a collective letter (R38, R205, R393, R394, R404), and what O29 says of collectives. -/

namespace Sys2Proof.Machine

namespace State

/-- The run that the head letter of a queue would make in a slot. -/
def collectiveRun (s : State) (c : QCtx) (l : Letter) (slot : Nat) : PlRun :=
  mkRun s c l (readSlot s l.slotA) (readSlot s l.slotD) (readSlot s l.slotS) slot

/-- The first error of a collective letter (R205, R394). -/
def collectiveErr (s : State) (c : QCtx) (l : Letter) (slot : Nat) : Option Nat :=
  firstErr (checks123 c l ++ checks4to8 s c l (readSlot s l.slotA) (noSlot s) (readSlot s l.slotD) (readSlot s l.slotS)
    ++ [(globalBad (readSlot s l.slotA) (noSlot s) (readSlot s l.slotD) (readSlot s l.slotS), Err.globalSize)]
    ++ checks11to12 s l (readSlot s l.slotA) (noSlot s) (readSlot s l.slotD) (readSlot s l.slotS)
    ++ collectiveChecks s l (s.collectiveRun c l slot))

section

variable {s : State} {q slot op : Nat} {c : QCtx} {l : Letter}

theorem codes_collectiveChecks (s : State) (l : Letter) (r : PlRun) : (collectiveChecks s l r).map (·.2) =
    [Err.stationOff, Err.plGroup, Err.plExpelled, Err.plGroup, Err.plShape, Err.plLink, Err.plInbox] := rfl

/-- None of the checks of a collective letter has the code 0. -/
theorem collectiveErr_ne_zero {e : Nat} (h : s.collectiveErr c l slot = some e) : e ≠ 0 := by
  refine firstErr_ne_zero h fun x hx => ?_
  simp only [List.map_append, List.mem_append, codes_checks123, codes_checks4to8, codes_collectiveChecks, or_assoc] at hx
  rcases hx with hx | hx | hx | hx | hx
  · exact (by decide : ∀ x ∈ [Err.isaVersion, Err.featureLevel, Err.route, Err.kindRoute, Err.slot], x ≠ 0) x hx
  · exact (by decide : ∀ x ∈ [Err.descAlign, Err.descPoison, Err.rank, Err.featureLevel, Err.formatCode, Err.formatMix, Err.formatBlock,
      Err.scaleSet, Err.featureLevel, Err.shard], x ≠ 0) x hx
  · exact (by decide : ∀ x ∈ [Err.globalSize], x ≠ 0) x hx
  · exact codes_checks11to12_ne_zero s l _ _ _ _ x hx
  · exact (by decide : ∀ x ∈ [Err.stationOff, Err.plGroup, Err.plExpelled, Err.plGroup, Err.plShape, Err.plLink, Err.plInbox], x ≠ 0) x hx

/-- A slot of the Peloton is free and it takes l, the head letter of queue q, as the collective op. -/
structure PelotonTakes (s : State) (q : Nat) (c : QCtx) (l : Letter) (slot op : Nat) : Prop where
  head : s.HeadIs q c l
  awake : s.awake [4, 11]
  route : l.route = 0x10
  prog : l.prog % 16 = op
  chosen : s.chosen q .peloton = true
  free : s.freeSlot .peloton = some slot

/-- A letter that runs in the Peloton, formed with no destination. -/
def pelotonPart (s : State) (c : QCtx) (l : Letter) : Part :=
  { mkPart s c l ⟨none, readSlot s l.slotA, noSlot s, readSlot s l.slotD, readSlot s l.slotS⟩ with d := none, s := none, rows := 0 }

/-- The letter as it leaves its queue for its slot. -/
def pelotonLaunch (s : State) (c : QCtx) (l : Letter) (slot : Nat) : State := (s.advanceHead c).launch .peloton slot [s.pelotonPart c l]

theorem PelotonTakes.launch (h : s.PelotonTakes q c l slot op) : s.launched q c l .peloton slot (s.pelotonLaunch c l slot) ∧
    s.sameBut [.attic, .cellar, .larder, .host, .meter, .lb, .porch] (s.pelotonLaunch c l slot) := by
  have hname : (s.pelotonPart c l).name = (q, c.head, l) := by rw [← queue_q h.head.queue]; rfl
  obtain ⟨hl, -, -, hf⟩ := launch_head_spec h.head.queue h.head.cached .peloton slot hname rfl
  exact ⟨hl, hf⟩

theorem PelotonTakes.dispatch_eq (h : s.PelotonTakes q c l slot op) (guess : Bool) : s.dispatchCollective q op guess =
    match s.collectiveErr c l slot with
    | some e => s.failLetter c e l
    | none =>
      if s.inboxFree < (s.collectiveRun c l slot).reservation then s
      else if plScaleBad s (s.collectiveRun c l slot) then s.refuseLetter c 11 Err.badScale l
      else ((s.pelotonLaunch c l slot).plBegin (s.collectiveRun c l slot)).repairedSends := by
  obtain ⟨-, hf⟩ := h.launch
  have hdemand : (s.pelotonLaunch c l slot).demand [11] = s.pelotonLaunch c l slot :=
    demand_awake (h.awake.congr (hf .od (by decide)) (hf .pwr (by decide))) (by simp)
  rw [← hdemand]
  simp only [dispatchCollective, h.head.headOf, h.route, h.prog, h.chosen, h.free, bne_self_eq_false, beq_self_eq_true, Bool.true_or,
    Bool.not_true, Bool.or_self, Bool.false_eq_true, if_false]
  rfl

theorem PelotonTakes.dispatch_fails (h : s.PelotonTakes q c l slot op) (guess : Bool) {e : Nat} (he : s.collectiveErr c l slot = some e) :
    s.failedWith q c l e (s.dispatchCollective q op guess) := by
  rw [h.dispatch_eq, he]
  exact (h.head.failLetter (collectiveErr_ne_zero he)).1

/-- A collective with a bad tensor scale is dispatched and refused, and no run begins (R38, R194). -/
theorem PelotonTakes.dispatch_refuses (h : s.PelotonTakes q c l slot op) (guess : Bool) (hok : s.collectiveErr c l slot = none)
    (hroom : (s.collectiveRun c l slot).reservation ≤ s.inboxFree) (hbad : plScaleBad s (s.collectiveRun c l slot) = true) :
    s.refusedWith q c l Err.badScale (s.dispatchCollective q op guess) ∧ (s.dispatchCollective q op guess).pel.runs = s.pel.runs := by
  have e : s.dispatchCollective q op guess = s.refuseLetter c 11 Err.badScale l := by
    rw [h.dispatch_eq, hok]
    simp only [if_neg (Nat.not_lt.2 hroom), hbad, if_true]
  obtain ⟨hrefused, hf⟩ := h.head.refuseLetter (h.awake.mono (by decide)) (e := Err.badScale) (b := 11) (.inr (.inr rfl))
  rw [e]
  exact ⟨hrefused, congrArg PelState.runs (hf .pel (by decide))⟩

/-- Operation o runs letter l of queue q, numbered n, in a slot of the Peloton, with the captain set given. -/
def RunsCollective (o : Op) (q n : Nat) (l : Letter) (slot : Nat) (captain : List (Nat × Nat)) : Prop :=
  o.target = .peloton ∧ o.slot = slot ∧ o.captain = captain ∧ o.error = 0 ∧ o.parts.map (fun p => (p.queue, p.seq, p.letter)) = [(q, n, l)]

/-- A collective accepted is dispatched to its slot and runs there (R225, R393, R404). -/
theorem PelotonTakes.dispatch_begins (h : s.PelotonTakes q c l slot op) (guess : Bool) (hok : s.collectiveErr c l slot = none)
    (hroom : (s.collectiveRun c l slot).reservation ≤ s.inboxFree) (hgood : plScaleBad s (s.collectiveRun c l slot) = false)
    (hfree : ∀ x ∈ s.pel.runs, x.slot ≠ slot) (hname : ∀ x ∈ s.lb.ops, ∀ p ∈ x.parts, ¬(p.queue = q ∧ p.seq = c.head)) :
    let t := s.dispatchCollective q op guess
    (∀ j, t.queueCore j = (s.pelotonLaunch c l slot).queueCore j) ∧
      (∃ o ∈ t.lb.ops, RunsCollective o q c.head l slot s.captain) ∧
      ∃ x ∈ t.pel.runs, ((s.collectiveRun c l slot).begun s.tick).Same x := by
  have e : s.dispatchCollective q op guess = ((s.pelotonLaunch c l slot).plBegin (s.collectiveRun c l slot)).repairedSends := by
    rw [h.dispatch_eq, hok]
    simp only [if_neg (Nat.not_lt.2 hroom), hgood, Bool.false_eq_true, if_false]
  obtain ⟨⟨-, -, -, o, hops, htarget, hslot, -, herror, hcaptain, -, hparts⟩, hf⟩ := h.launch
  have hpel : (s.pelotonLaunch c l slot).pel = s.pel := hf .pel (by decide)
  have htick : (s.pelotonLaunch c l slot).tick = s.tick := hf .tick (by decide)
  obtain ⟨u, hrun, hlb, hcarries⟩ := plBegin_spec (s := s.pelotonLaunch c l slot) (r := s.collectiveRun c l slot) rfl
    (fun x hx => hfree x (by rwa [hpel] at hx))
  have hlast : ((s.pelotonLaunch c l slot).plBegin (s.collectiveRun c l slot)).repairedSends.lb =
      ((s.pelotonLaunch c l slot).plBegin (s.collectiveRun c l slot)).lb := (repairedSends_evolves _).frame .lb (by decide)
  have hruns := repairedSends_runs ((s.pelotonLaunch c l slot).plBegin (s.collectiveRun c l slot))
  dsimp only
  rw [e]
  generalize ((s.pelotonLaunch c l slot).plBegin (s.collectiveRun c l slot)).repairedSends = t at hlast hruns
  generalize (s.pelotonLaunch c l slot).plBegin (s.collectiveRun c l slot) = w at hcarries hlast hruns
  have hfinish : (s.pelotonLaunch c l slot).OpsFinish t := (OpsFinish.of_lb hlb).trans (hcarries.ops.trans (.of_lb hlast))
  refine ⟨fun j => congrArg (Option.map QCtx.core) (hfinish.only.queue j), ?_, ?_⟩
  · have hnew : RunsCollective o q c.head l slot s.captain := ⟨htarget, hslot, hcaptain, herror, hparts⟩
    obtain ⟨p, hp, hpname⟩ := List.map_eq_singleton_iff.1 hparts
    simp only [Prod.mk.injEq] at hpname
    have honames : o.Names (q, c.head) := ⟨p, [], hp, by rw [hpname.1, hpname.2.1]⟩
    have hheld : (s.pelotonLaunch c l slot).HoldsOp (q, c.head) fun o => RunsCollective o q c.head l slot s.captain := by
      rw [HoldsOp, hops]
      refine ⟨⟨o, by simp, honames⟩, fun y hy hy' => ?_⟩
      rcases List.mem_append.1 hy with hy | hy
      · obtain ⟨p', l', hp', heq⟩ := hy'
        rw [Prod.mk.injEq] at heq
        exact absurd heq (hname y hy p' (by simp [hp']))
      · exact (List.mem_singleton.1 hy) ▸ hnew
    obtain ⟨⟨y, hy, hyname⟩, hall⟩ := hfinish.held _ _ (fun _ h => h) hheld
    exact ⟨y, hy, hall y hy hyname⟩
  · obtain ⟨x, hx, hsame⟩ := hcarries.run.run _ hrun
    rw [htick] at hsame
    exact ⟨x, hruns ▸ plRun_mem hx, hsame⟩

end

end State

end Sys2Proof.Machine

namespace Sys2Proof.Proofs

open Sys2Proof Sys2Proof.Machine

/-- The four collective commands dispatch the head letter as theirs. -/
theorem exec_collective {s : State} {q op : Nat} {cmd : Instr} (hrunning : s.awake [4])
    (h : (op, cmd) ∈ [(1, Instr.reduceScatter q), (2, .allGather q), (3, .broadcast q), (4, .allToAll q)]) :
    ∃ guess, exec cmd s = .next (s.dispatchCollective q op guess) := by
  have hd : ∀ op guess, s.dispatching (fun t => t.dispatchCollective q op guess) = s.dispatchCollective q op guess := fun op guess =>
    State.dispatching_awake hrunning _
  simp only [List.mem_cons, Prod.mk.injEq, List.not_mem_nil, or_false] at h
  rcases h with ⟨rfl, rfl⟩ | ⟨rfl, rfl⟩ | ⟨rfl, rfl⟩ | ⟨rfl, rfl⟩ <;> exact ⟨_, congrArg _ (hd _ _)⟩

/-- Settles O29: a collective letter fails, is refused or begins (State.PelotonTakes.dispatch_fails, dispatch_refuses,
dispatch_begins); a round that starts is the next (State.roundStart_spec); a deadline forms the chunk none of whose inputs has begun
(State.chunkDeadline_spec); a frame not dispatched in time is discarded (State.tagDiscard_frame, tagDiscard_early). -/
theorem collectivesBeginAndAdvance : Obligations.CollectivesBeginAndAdvance := by
  refine ⟨fun s q slot op c l cmd hcmd hhead hawake hroute hprog hchosen hfree => ?dispatch, fun s slot r hrun hround hw => ⟨_, rfl, ?round⟩,
    fun s slot owner chunk level t0 r u hrun hu hstart hdone hlt => ⟨_, rfl, ?deadline⟩,
    fun s slot => ⟨fun f hf => ⟨_, rfl, ?frame⟩, fun f hnone hslot hf => ⟨_, rfl, ?early⟩⟩⟩
  case dispatch =>
    intro a d st r v
    obtain ⟨guess, hexec⟩ := exec_collective hhead.running hcmd
    have h : s.PelotonTakes q c l slot op := ⟨hhead, hawake, hroute, hprog, hchosen, hfree⟩
    refine ⟨fun e he => ⟨_, hexec, h.dispatch_fails guess he⟩, fun hok hroom hbad => ⟨_, hexec, ?_⟩, fun hok hroom hgood hruns _ hname => ⟨_, hexec, ?_⟩⟩
    · obtain ⟨⟨hself, hothers, hops, hctr, -⟩, hpel⟩ := h.dispatch_refuses guess hok hroom hbad
      exact ⟨hself, hothers, hops, hpel, hctr⟩
    · obtain ⟨hqueues, hop, x, hx, hsame⟩ := h.dispatch_begins guess hok hroom hgood hruns hname
      obtain ⟨⟨hself, hothers, -⟩, -⟩ := h.launch
      refine ⟨(hqueues q).trans hself, fun j hj => (hqueues j).trans (hothers j hj), hop, x, hx, ?_⟩
      exact ⟨hsame.slot, hsame.queue.trans (State.queue_q hhead.queue), hsame.seq, hsame.op.trans hprog, hsame.group, hsame.tag, hsame.live,
        hsame.round, hsame.reserve⟩
  case round =>
    obtain ⟨r', hr', hsame, horphans⟩ := State.roundStart_spec hrun hround hw
    exact ⟨r', hr', hsame.round, hsame.op, hsame.live, horphans⟩
  case deadline => exact State.chunkDeadline_spec hrun hu hstart hdone hlt
  case frame =>
    obtain ⟨hframes, htick, hctr, hcredit⟩ := State.tagDiscard_frame hf
    exact ⟨hframes, htick.trans (State.discard_tick s f.tick), hctr, hcredit⟩
  case early =>
    obtain ⟨hearly, htick, hctr, hframe⟩ := State.tagDiscard_early hnone hslot hf
    exact ⟨hearly, htick.trans (State.discard_tick s f.tick), hctr, hframe⟩

end Sys2Proof.Proofs

/-! SUPPORT. A memory port's grant (R233, R240 to R242, R545): which contender the arbiter picks, and what the access does. -/

namespace Sys2Proof.Machine

/-! ### The arbiter (R241) -/

namespace Contender

/-- The contender's next access lies on the port, and it is eligible. -/
def contends (s : State) (port : Nat) (c : Contender) : Bool :=
  (c.head?.elim false fun b => portOf b.space b.addr == port) && (c.time s).isSome

theorem contends_iff {s : State} {port : Nat} {c : Contender} :
    c.contends s port = true ↔ (∃ x ∈ c.queue.head?, portOf x.space x.addr = port) ∧ (c.time s).isSome = true := by
  rw [contends, Bool.and_eq_true, head?]
  cases c.queue.head? <;> simp

/-- The order of the arbiter: the time, then the number. -/
def before (s : State) (c d : Contender) : Prop :=
  (c.time s).getD 0 < (d.time s).getD 0 ∨ ((c.time s).getD 0 = (d.time s).getD 0 ∧ c.num ≤ d.num)

theorem before.refl (s : State) (c : Contender) : c.before s c := .inr ⟨rfl, Nat.le_refl _⟩

theorem before.trans {s : State} {c d e : Contender} (h : c.before s d) (g : d.before s e) : c.before s e := by
  simp only [before] at *
  omega

/-- Of two eligible contenders, equal times are the same time. -/
theorem before.of_eligible {s : State} {c d : Contender} (h : c.before s d) (hc : (c.time s).isSome = true) (hd : (d.time s).isSome = true) :
    (c.time s).getD 0 < (d.time s).getD 0 ∨ (c.time s = d.time s ∧ c.num ≤ d.num) := by
  obtain ⟨m, hm⟩ := Option.isSome_iff_exists.1 hc
  obtain ⟨n, hn⟩ := Option.isSome_iff_exists.1 hd
  simpa only [before, hm, hn, Option.getD_some, Option.some.injEq] using h

/-- A contender whose access has gone out: a thread waits for its burst, a drain has written it and its buffer fills again (R240). -/
def issued (c : Contender) (b : Burst) (rest : List Burst) : Contender :=
  let left := c.buffered - min b.len c.buffered
  let moved := min c.backlog (262144 - left)
  if 512 ≤ c.num then { c with queue := rest, buffered := left + moved, backlog := c.backlog - moved }
  else { c with queue := rest, outstanding := c.outstanding ++ [b] }

end Contender

namespace State

/-- One contender more is looked at: the better of it and the best so far. -/
def better (s : State) (best : Option Contender) (c : Contender) : Option Contender :=
  match best with
  | none => some c
  | some b =>
    let t := (c.time s).getD 0
    let u := (b.time s).getD 0
    if t < u || (t == u && c.num < b.num) then some c else best

theorem arbiter_eq (s : State) (port : Nat) :
    s.arbiter port = (s.porch.contenders.filter (·.contends s port)).foldl s.better none := rfl

/-- The better of two is one of them and comes before both. -/
theorem better_some (s : State) (b c : Contender) :
    ∃ d, s.better (some b) c = some d ∧ (d = b ∨ d = c) ∧ d.before s b ∧ d.before s c := by
  simp only [better, Contender.before, Bool.or_eq_true, Bool.and_eq_true, decide_eq_true_eq, beq_iff_eq]
  split
  · exact ⟨c, rfl, .inr rfl, by omega, by omega⟩
  · exact ⟨b, rfl, .inl rfl, by omega, by omega⟩

theorem foldl_better_some (s : State) (l : List Contender) (b : Contender) :
    ∃ c, l.foldl s.better (some b) = some c ∧ c ∈ b :: l ∧ ∀ d ∈ b :: l, c.before s d := by
  induction l generalizing b with
  | nil => exact ⟨b, rfl, List.mem_cons_self, fun d hd => List.mem_singleton.1 hd ▸ .refl s b⟩
  | cons x l ih =>
    obtain ⟨e, he, hone, hb, hx⟩ := s.better_some b x
    obtain ⟨c, hc, hmem, hmin⟩ := ih e
    have hce : c.before s e := hmin e List.mem_cons_self
    refine ⟨c, by rw [List.foldl_cons, he, hc], ?_, fun d hd => ?_⟩
    · rcases List.mem_cons.1 hmem with rfl | hl
      · rcases hone with rfl | rfl <;> simp
      · simp [hl]
    · rcases List.mem_cons.1 hd with rfl | hd
      · exact hce.trans hb
      rcases List.mem_cons.1 hd with rfl | hd
      · exact hce.trans hx
      · exact hmin d (List.mem_cons_of_mem _ hd)

/-- The arbiter's pick contends for the port and comes before all that do. -/
theorem arbiter_spec {s : State} {port : Nat} {c : Contender} (h : s.arbiter port = some c) :
    c ∈ s.porch.contenders ∧ c.contends s port = true ∧ ∀ d ∈ s.porch.contenders, d.contends s port = true → c.before s d := by
  rw [arbiter_eq] at h
  cases hl : s.porch.contenders.filter (·.contends s port) with
  | nil => simp [hl] at h
  | cons b l =>
    obtain ⟨e, he, hmem, hmin⟩ := s.foldl_better_some l b
    rw [hl, List.foldl_cons, show s.better none b = some b from rfl, he, Option.some.injEq] at h
    subst h
    rw [← hl] at hmem hmin
    obtain ⟨hin, hcontends⟩ := List.mem_filter.1 hmem
    exact ⟨hin, hcontends, fun d hd hdc => hmin d (List.mem_filter.2 ⟨hd, hdc⟩)⟩

/-! ### Lines that the host holds (R545) -/

/-- No line of the access has to be given back. -/
def clearFor (s : State) (b : Burst) (write : Prop) : Prop := ∀ l ∈ s.heldLines b.space b.addr b.len, ¬write ∧ l ∈ s.cxl.answered

theorem needed_isEmpty {s : State} {b : Burst} {write : Bool} :
    ((s.heldLines b.space b.addr b.len).filter fun l => write || !s.cxl.answered.contains l).isEmpty = true ↔ s.clearFor b (write = true) := by
  simp [clearFor, List.isEmpty_iff, List.filter_eq_nil_iff]

theorem snoopFor_clear {s : State} {b : Burst} {write : Bool} (h : s.clearFor b (write = true)) :
    ∃ x, s.snoopFor b.space b.addr b.len write = (true, { s with cxl := x }) :=
  ⟨_, by rw [snoopFor, if_pos (needed_isEmpty.2 h)]⟩

theorem snoopFor_held {s : State} {b : Burst} {write : Bool} (h : ¬s.clearFor b (write = true)) :
    (s.snoopFor b.space b.addr b.len write).1 = false := by
  rw [snoopFor, if_neg (mt needed_isEmpty.1 h)]

/-! ### The grant -/

theorem grant_eq (s : State) (port : Nat) {c : Contender} {b : Burst} {rest : List Burst} (hq : c.queue = b :: rest) :
    s.grant port c = { s with porch := { s.porch with
      granted := aset 0 s.porch.granted port (c.num + 1)
      contenders := s.porch.contenders.map fun d => if d.num = c.num then c.issued b rest else d } } := by
  by_cases hn : c.num < 512
  · simp [grant, hq, hn, Contender.issued, setContender, Nat.not_le.2 hn]
  · simp [grant, hq, hn, Contender.issued, setContender, Nat.not_lt.1 hn]

theorem grantOne_eq {s : State} {port : Nat} {c : Contender} {b : Burst} {rest : List Burst} (h : s.arbiter port = some c)
    (hq : c.queue = b :: rest) :
    s.grantOne port = if (s.snoopFor b.space b.addr b.len (512 ≤ c.num)).1 = true then (s.snoopFor b.space b.addr b.len (512 ≤ c.num)).2.grant port c
      else (s.snoopFor b.space b.addr b.len (512 ≤ c.num)).2 := by
  have hhead : c.head? = some b := by rw [Contender.head?, hq, List.head?_cons]
  simp only [grantOne, h, hhead]

/-- An access none of whose lines the host holds goes out. -/
theorem grantOne_clear {s : State} {port : Nat} {c : Contender} {b : Burst} {rest : List Burst} (h : s.arbiter port = some c)
    (hq : c.queue = b :: rest) (hclear : s.clearFor b (512 ≤ c.num)) :
    ∃ x, s.grantOne port = ({ s with cxl := x } : State).grant port c := by
  obtain ⟨x, hx⟩ := snoopFor_clear (write := decide (512 ≤ c.num)) (by simpa using hclear)
  exact ⟨x, by rw [grantOne_eq h hq, hx, if_pos rfl]⟩

/-- An access waits until the host has given its lines back. -/
theorem grantOne_held {s : State} {port : Nat} {c : Contender} {b : Burst} {rest : List Burst} (h : s.arbiter port = some c)
    (hq : c.queue = b :: rest) (hheld : ¬s.clearFor b (512 ≤ c.num)) : s.sameBut [.meter, .cxl] (s.grantOne port) := by
  have hfalse := snoopFor_held (write := decide (512 ≤ c.num)) (by simpa using hheld)
  rw [grantOne_eq h hq, hfalse, if_neg Bool.false_ne_true]
  exact (snoopFor_evolves ..).frame

/-- At the Glazia die link an issue slot has gone by (R242). -/
def slotGone (s : State) (port : Nat) : State :=
  { s with porch := { s.porch with owed := if port = 32 then s.porch.owed - 1 else s.porch.owed } }

theorem slotGone_frame (s : State) (port : Nat) : s.sameBut [.porch] (s.slotGone port) := fun f hf => by
  cases f <;> simp_all [agree, slotGone]

theorem arbiter_slotGone (s : State) (port i : Nat) : (s.slotGone port).arbiter i = s.arbiter i := rfl

theorem clearFor_slotGone {s : State} {port : Nat} {b : Burst} {write : Prop} : (s.slotGone port).clearFor b write ↔ s.clearFor b write := Iff.rfl

/-- A slot that the Exporter does not take goes to the arbiter. -/
theorem portGrant_eq {s : State} {port : Nat} (h : port = 32 → s.porch.owed ≠ 0 ∨ s.exportWaits = false) :
    s.portGrant port = (s.slotGone port).grantOne port := by
  by_cases hport : port = 32
  · subst hport
    have hnot : (s.porch.owed == 0 && s.exportWaits) = false := by rcases h rfl with h | h <;> simp [h]
    simp [portGrant, hnot, slotGone]
  · simp [portGrant, hport, slotGone]

/-- An access that goes out by a port's grant. -/
theorem portGrant_clear {s : State} {port : Nat} {c : Contender} {b : Burst} {rest : List Burst} (h : s.arbiter port = some c)
    (hq : c.queue = b :: rest) (hslot : port = 32 → s.porch.owed ≠ 0 ∨ s.exportWaits = false) (hclear : s.clearFor b (512 ≤ c.num)) :
    ∃ x, s.portGrant port = { s with
      cxl := x
      porch := { s.porch with
        granted := aset 0 s.porch.granted port (c.num + 1)
        contenders := s.porch.contenders.map fun d => if d.num = c.num then c.issued b rest else d
        owed := if port = 32 then s.porch.owed - 1 else s.porch.owed } } := by
  obtain ⟨x, hx⟩ := grantOne_clear (s := s.slotGone port) ((arbiter_slotGone s port port).trans h) hq (clearFor_slotGone.2 hclear)
  exact ⟨x, by rw [portGrant_eq hslot, hx, grant_eq _ port hq]; rfl⟩

/-- A port whose best contender waits for lines of the host grants nothing. -/
theorem portGrant_held {s : State} {port : Nat} {c : Contender} {b : Burst} {rest : List Burst} (h : s.arbiter port = some c)
    (hq : c.queue = b :: rest) (hslot : port = 32 → s.porch.owed ≠ 0 ∨ s.exportWaits = false) (hheld : ¬s.clearFor b (512 ≤ c.num)) :
    (s.slotGone port).sameBut [.meter, .cxl] (s.portGrant port) := by
  rw [portGrant_eq hslot]
  exact grantOne_held ((arbiter_slotGone s port port).trans h) hq (mt clearFor_slotGone.1 hheld)

/-- The Exporter takes the slot (R242). -/
theorem portGrant_export {s : State} (howed : s.porch.owed = 0) (hwaits : s.exportWaits = true) :
    s.portGrant 32 = { s.exportNext with porch := { s.porch with owed := 7 } } := by
  simp [portGrant, howed, hwaits]

end State

end Sys2Proof.Machine

/-! SUPPORT. A burst's arrival (R237, R257, R560, R564, R565): the sectors that come into the stream buffer, the staged copy, and what
an error on the way leaves. -/

namespace Sys2Proof.Machine

namespace Mem

theorem bytes_eq_of_byte {m m' : Mem} {a n : Nat} (h : ∀ x, a ≤ x → x < a + n → m'.byte x = m.byte x) : m'.bytes a n = m.bytes a n := by
  induction n generalizing a with
  | zero => rfl
  | succ n ih => rw [bytes, bytes, h a (by omega) (by omega), ih fun x hlo hhi => h x (by omega) (by omega)]

/-- A run of bytes is poisoned where it was, or where the sector that is marked lies in it. -/
theorem poisonedRange_mark (m : Mem) (x a : Nat) {n : Nat} (hn : n ≠ 0) :
    (m.markPoison x).poisonedRange a n = (m.poisonedRange a n || (decide (a / 32 ≤ x) && decide (x ≤ (a + n - 1) / 32))) := by
  rw [Bool.eq_iff_iff]
  simp only [poisonedRange, markPoison, Bool.and_eq_true, Bool.or_eq_true, bne_iff_ne, List.any_eq_true, decide_eq_true_eq, mem_sadd]
  constructor
  · rintro ⟨-, p, rfl | hp, hin⟩
    · exact .inr hin
    · exact .inl ⟨hn, p, hp, hin⟩
  · rintro (⟨-, p, hp, hin⟩ | hin)
    · exact ⟨hn, p, .inr hp, hin⟩
    · exact ⟨hn, x, .inl rfl, hin⟩

theorem cells_poisonRange (m : Mem) (a n : Nat) : (m.poisonRange a n).cells = m.cells := by
  unfold poisonRange
  split
  · rfl
  · generalize List.range ((a + n - 1) / 32 + 1 - a / 32) = l
    induction l generalizing m with
    | nil => rfl
    | cons i l ih => exact ih _

theorem poisonRange_sector (m : Mem) (x : Nat) : m.poisonRange (32 * x) 32 = m.markPoison x := by
  have hone : (32 * x + 32 - 1) / 32 + 1 - 32 * x / 32 = 1 := by omega
  have hx : 32 * x / 32 + 0 = x := by omega
  rw [poisonRange, hone]
  exact congrArg m.markPoison hx

end Mem

/-- A thread whose oldest burst has arrived, of whose bytes the consumer has taken some. -/
def Contender.received (c : Contender) (b : Burst) (rest : List Burst) (taken : Nat) : Contender :=
  { c with outstanding := rest, buffered := c.buffered + b.len - min taken (c.buffered + b.len) }

/-- A letter whose stream buffer has taken in a burst's sectors, in place of what it held of them. -/
def Op.received (o : Op) (b : Burst) (xs : List BufSector) : Op :=
  { o with buf := (o.buf.filter fun e => !(e.isB == b.isB && e.tile == b.tile && b.src.contains (e.space, e.sector))) ++ xs }

namespace State

/-! ### The staged copy (R237) -/

/-- One sector put in its place in the staging window. -/
def stageSector (a : Nat) (st : State) (x : BufSector × Nat) : State :=
  let st := st.wr .larder (a + 32 * x.2) 32 x.1.data
  if x.1.poison then st.poison .larder (a + 32 * x.2) 32 else st

theorem stageBurst_none (s : State) {b : Burst} (h : b.copyTo = none) (xs : List BufSector) : s.stageBurst b xs = s := by
  rw [stageBurst, h]

theorem stageBurst_some (s : State) {b : Burst} {a : Nat} (h : b.copyTo = some a) (xs : List BufSector) :
    s.stageBurst b xs = (xs.zip (List.range xs.length)).foldl (stageSector a) s := by
  rw [stageBurst, h]
  rfl

theorem stageSector_frame (a : Nat) (s : State) (x : BufSector × Nat) : s.sameBut [.larder] (stageSector a s x) := by
  unfold stageSector
  dsimp only
  have hwr := setLarder_sameBut s (s.larder.writeNat (a + 32 * x.2) 32 x.1.data)
  split
  · exact hwr.step (setLarder_sameBut _ _) rfl
  · exact hwr

theorem stageBurst_frame (s : State) (b : Burst) (xs : List BufSector) : s.sameBut [.larder] (s.stageBurst b xs) := by
  cases h : b.copyTo with
  | none => rw [stageBurst_none s h]; exact .refl _ s
  | some a => rw [stageBurst_some s h]; exact sameBut.foldl (stageSector_frame a) _ s

/-- A space that an update does not name is as it was. -/
theorem sameBut.mem_other {fs : List Fld} {s t : State} (h : s.sameBut fs t) {sp : Space} (hf : spaceFld sp ∉ fs) : t.mem sp = s.mem sp := by
  cases sp <;> exact h _ hf

/-- A number read apart from the run of bytes that changed is as it was. -/
theorem bytesSame.rd {s t : State} {sp x : Space} {lo n a k : Nat} (h : s.bytesSame sp lo n t) (hd : a + k ≤ lo ∨ lo + n ≤ a) :
    t.rd x a k = s.rd x a k :=
  congrArg ofBytes (Mem.bytes_eq_of_byte fun i hlo hhi => h x i (by omega))

/-- A staged sector's bytes are its data, with or without its poison mark. -/
theorem cells_stageSector (a : Nat) (s : State) (x : BufSector × Nat) :
    (stageSector a s x).larder.cells = (s.larder.writeNat (a + 32 * x.2) 32 x.1.data).cells := by
  unfold stageSector
  dsimp only
  split
  · exact Mem.cells_poisonRange _ _ _
  · rfl

theorem rd_stageSector (a : Nat) (s : State) (x : BufSector × Nat) :
    (stageSector a s x).rd .larder (a + 32 * x.2) 32 = x.1.data % 256 ^ 32 := by
  rw [← Mem.nat_writeNat s.larder (a + 32 * x.2) 32 x.1.data]
  exact congrArg ofBytes (Mem.bytes_congr (cells_stageSector a s x) _ _)

theorem stageSector_bytesSame (a : Nat) (s : State) (x : BufSector × Nat) : s.bytesSame .larder (a + 32 * x.2) 32 (stageSector a s x) := by
  intro sp i hi
  by_cases hsp : sp = .larder
  · subst hsp
    have hout : i < a + 32 * x.2 ∨ a + 32 * x.2 + 32 ≤ i := by
      simp only [true_and] at hi
      omega
    rw [← show _ = s.byteAt .larder i from Mem.byte_writeNat_outside s.larder x.1.data hout]
    exact congrArg (aget 0 · i) (cells_stageSector a s x)
  · rw [byteAt, byteAt, (stageSector_frame a s x).mem_other (by cases sp <;> simp_all [spaceFld])]

/-- Staged sectors change no byte outside their places. -/
theorem byteAt_foldl_stageSector (a : Nat) (l : List (BufSector × Nat)) (s : State) (sp : Space) (i : Nat)
    (h : ∀ x ∈ l, ¬(sp = .larder ∧ a + 32 * x.2 ≤ i ∧ i < a + 32 * x.2 + 32)) : (l.foldl (stageSector a) s).byteAt sp i = s.byteAt sp i := by
  induction l generalizing s with
  | nil => rfl
  | cons x l ih =>
    rw [List.foldl_cons, ih _ fun y hy => h y (List.mem_cons_of_mem _ hy)]
    exact stageSector_bytesSame a s x sp i (h x List.mem_cons_self)

/-- Sectors staged in different places each stand in theirs. -/
theorem rd_foldl_stageSector (a : Nat) (l : List (BufSector × Nat)) (s : State) (hl : (l.map (·.2)).Nodup) {x : BufSector}
    {i : Nat} (hx : (x, i) ∈ l) : (l.foldl (stageSector a) s).rd .larder (a + 32 * i) 32 = x.data % 256 ^ 32 := by
  induction l generalizing s with
  | nil => cases hx
  | cons y l ih =>
    obtain ⟨hy, hl⟩ := List.nodup_cons.1 hl
    rw [List.foldl_cons]
    rcases List.mem_cons.1 hx with rfl | hx
    · have hlater : ∀ z ∈ l, z.2 ≠ i := fun z hz e => hy (List.mem_map.2 ⟨z, hz, e⟩)
      rw [← rd_stageSector a s (x, i)]
      refine congrArg ofBytes (Mem.bytes_eq_of_byte fun j hlo hhi => byteAt_foldl_stageSector a l _ .larder j fun z hz => ?_)
      have hne := hlater z hz
      omega
    · exact ih _ hl hx

/-- Staging a burst changes no byte outside its place in the window. -/
theorem stageBurst_bytesSame (s : State) (b : Burst) (xs : List BufSector) :
    s.bytesSame .larder (b.copyTo.getD 0) (if b.copyTo.isSome then 32 * xs.length else 0) (s.stageBurst b xs) := by
  cases h : b.copyTo with
  | none =>
    rw [stageBurst_none s h]
    exact fun _ _ _ => rfl
  | some a =>
    intro sp i hi
    rw [stageBurst_some s h]
    refine byteAt_foldl_stageSector a _ s sp i fun x hx hin => hi ⟨hin.1, ?_⟩
    have hlt : x.2 < xs.length := List.mem_range.1 (List.of_mem_zip hx).2
    simp only [Option.getD_some, Option.isSome_some, if_true]
    omega

/-- A staged burst's sectors stand in their places in the window. -/
theorem rd_stageBurst (s : State) {b : Burst} {a : Nat} (h : b.copyTo = some a) (xs : List BufSector) {i : Nat} (hi : i < xs.length) :
    (s.stageBurst b xs).rd .larder (a + 32 * i) 32 = xs[i].data % 256 ^ 32 := by
  have hplaces : (xs.zip (List.range xs.length)).map (·.2) = List.range xs.length := List.map_snd_zip (by simp)
  have hmem : (xs[i], i) ∈ xs.zip (List.range xs.length) :=
    List.mem_iff_getElem.2 ⟨i, by simpa using hi, by simp⟩
  have hdistinct : ((xs.zip (List.range xs.length)).map (·.2)).Nodup := by rw [hplaces]; exact List.nodup_range
  rw [stageBurst_some s h]
  exact rd_foldl_stageSector a _ s hdistinct hmem

/-! ### The sectors that come -/

theorem bufSectors_congr {s v : State} {b : Burst} {lost seen : Option Nat}
    (hrd : ∀ i, v.rd b.space (b.addr + 32 * i) 32 = s.rd b.space (b.addr + 32 * i) 32)
    (hpoison : ∀ i, (v.poisonedAt b.space (b.addr + 32 * i) 32 || seen == some i) = (s.poisonedAt b.space (b.addr + 32 * i) 32 || lost == some i)) :
    v.bufSectors b seen = s.bufSectors b lost := by
  simp only [bufSectors, hrd, hpoison]

theorem bufSectors_length (s : State) (b : Burst) (lost : Option Nat) : (s.bufSectors b lost).length = b.src.length := by
  simp [bufSectors]

theorem bufSectors_data (s : State) (b : Burst) (lost : Option Nat) {i : Nat} (hi : i < (s.bufSectors b lost).length) :
    ((s.bufSectors b lost)[i]).data = s.rd b.space (b.addr + 32 * i) 32 := by
  simp [bufSectors]

/-- In v every byte is as in s, and a burst comes as it would from s with the sector `lost` lost: v shows that loss as a poisoned
sector of its own memory, or the buffer as the sector it has `seen` lost. -/
structure Delivers (s : State) (b : Burst) (lost seen : Option Nat) (v : State) : Prop where
  bytes : ∀ sp a, v.byteAt sp a = s.byteAt sp a
  sectors : v.bufSectors b seen = s.bufSectors b lost

theorem readsAs.delivers {s v : State} (h : s.readsAs v) (b : Burst) (lost : Option Nat) : s.Delivers b lost lost v where
  bytes sp a := by rw [byteAt, byteAt, h.1]
  sectors := bufSectors_congr (fun i => by rw [h.rd]) fun i => by rw [h.poisonedAt]

theorem Delivers.after {s u v : State} {b : Burst} {lost seen : Option Nat} (h : u.Delivers b lost seen v) (g : s.readsAs u) :
    s.Delivers b lost seen v where
  bytes sp a := (h.bytes sp a).trans ((g.delivers b lost).bytes sp a)
  sectors := h.sectors.trans (g.delivers b lost).sectors

/-! ### Errors (R257, R560, R564, R565) -/

theorem memRecord_readsAs (s : State) (k a : Nat) : s.readsAs (s.memRecord k a) where
  left := funext fun sp => (memRecord_evolves s k a).frame.mem_other (by cases sp <;> decide)
  right := by
    rw [memRecord, hostDown_of_frame (raise_evolves _ _).frame (by decide), setOd_hostDown _ _ (by decide), setOd_hostDown _ _ (by decide),
      setOd_hostDown _ _ (by decide)]

theorem memRecord_kind (s : State) (k a : Nat) : (s.memRecord k a).odv (okey 0x0B300 1) = k := by
  rw [memRecord, (raise_evolves _ _).frame.odv (by decide), odv_setOd_other _ _ (by decide), odv_setOd_other _ _ (by decide), odv_setOd_self]

theorem memRecord_addr (s : State) (k a : Nat) : (s.memRecord k a).odv (okey 0x0B300 2) = a := by
  rw [memRecord, (raise_evolves _ _).frame.odv (by decide), odv_setOd_other _ _ (by decide), odv_setOd_self]

theorem memRecord_level (s : State) (k a : Nat) : Bell.memUe ∈ (s.memRecord k a).bell.level :=
  (mem_level_raise _ _ _).2 (.inl rfl)

/-- An uncorrectable error of a memory of the part marks its sector. -/
theorem mem_memUe (s : State) {sp : Space} (h : sp ≠ .host) (x : Nat) (y : Space) :
    (s.memUe sp x).mem y = if y = sp then (s.mem sp).markPoison x else s.mem y := by
  unfold memUe
  rw [(memRecord_readsAs _ _ _).1, count_mem, poison, mem_put s (.inl h), Mem.poisonRange_sector]

/-- The sector that met the error comes poisoned, as if the buffer had lost it. -/
theorem memUe_delivers (s : State) {b : Burst} (hsp : b.space ≠ .host) (halign : b.addr % 32 = 0) (n : Nat) :
    s.Delivers b (some n) none (s.memUe b.space (b.addr / 32 + n)) where
  bytes sp a := by
    rw [byteAt, byteAt, mem_memUe s hsp]
    split
    · next e => subst e; rfl
    · rfl
  sectors := by
    have hnothost : (b.space == Space.host) = false := by simpa using hsp
    refine bufSectors_congr (fun i => ?_) fun i => ?_
    · rw [rd, mem_memUe s hsp, if_pos rfl, Mem.nat_markPoison, rd]
    · have hsame : (decide ((b.addr + 32 * i) / 32 ≤ b.addr / 32 + n) && decide (b.addr / 32 + n ≤ (b.addr + 32 * i + 32 - 1) / 32))
          = (some n == some i) := by
        rw [Bool.eq_iff_iff]
        simp only [Bool.and_eq_true, decide_eq_true_eq, beq_iff_eq, Option.some.injEq]
        omega
      rw [poisonedAt, poisonedAt, mem_memUe s hsp, if_pos rfl, Mem.poisonedRange_mark _ _ _ (by decide), hsame, hnothost]
      simp

theorem arrivalEcc_none (s : State) (b : Burst) (n : Nat) {ecc : Nat} (h : ecc = 0 ∨ 4 < ecc) : s.arrivalEcc b n ecc = s := by
  have h1 : ecc ≠ 1 := by omega
  have h2 : ecc ≠ 2 := by omega
  have h3 : ecc ≠ 3 := by omega
  have h4 : ecc ≠ 4 := by omega
  simp [arrivalEcc, h1, h2, h3, h4]

theorem arrivalEcc_bufferCe (s : State) (b : Burst) (n : Nat) : s.arrivalEcc b n 1 = s.count Ctr.porchBufCe 1 := rfl

theorem arrivalEcc_bufferUe (s : State) (b : Burst) (n : Nat) :
    s.arrivalEcc b n 2 = (s.count Ctr.porchBufUe 1).memRecord 4 (32 * (b.addr / 32 + n)) := rfl

theorem arrivalEcc_memoryUe (s : State) {b : Burst} (h : b.space ≠ .host) (n : Nat) :
    s.arrivalEcc b n 3 = s.memUe b.space (b.addr / 32 + n) := by
  simp [arrivalEcc, h]

/-- The unit that counts corrected errors of a memory of the part. -/
def ceUnit : Space → Nat
  | .attic => Ctr.atticCe
  | .cellar => Ctr.cellarCe
  | _ => Ctr.larderCe

theorem arrivalEcc_memoryCe (s : State) {b : Burst} (h : b.space ≠ .host) (n : Nat) : s.arrivalEcc b n 4 = s.count (ceUnit b.space) 1 := by
  cases hsp : b.space with
  | host => exact absurd hsp h
  | _ => simp [arrivalEcc, hsp, ceUnit]

theorem count_readsAs (s : State) (u n : Nat) : s.readsAs (s.count u n) :=
  readsAs_of_frame (count_evolves s u n).frame (by decide)

/-! ### The arrival -/

/-- In t the oldest burst of thread c has come into the stream buffer of o, with one sector lost or none, and into its place in the
staging window if it has one. -/
def BurstCame (s : State) (c c' : Contender) (o : Op) (b : Burst) (lost : Option Nat) (t : State) : Prop :=
  t.porch.contenders = (s.porch.contenders.map fun d => if d.num = c.num then c' else d) ∧
  t.lb.ops = s.opsWith o (o.received b (s.bufSectors b lost)) ∧
  s.bytesSame .larder (b.copyTo.getD 0) (if b.copyTo.isSome then 32 * b.src.length else 0) t ∧
  ∀ a, b.copyTo = some a → ∀ i < b.src.length, t.rd .larder (a + 32 * i) 32 = s.rd b.space (b.addr + 32 * i) 32

section

variable {s : State} {thread : Nat} {c : Contender} {b : Burst} {rest : List Burst} {o : Op}

theorem burstArrival_eq (hc : s.porch.contenders.find? (fun d => d.num == thread && decide (thread < 512)) = some c)
    (hout : c.outstanding = b :: rest) (ho : s.opAt c.station = some o) (taken ecc sec : Nat) :
    let n := sec % max 1 b.src.length
    let v := (s.setContender (c.received b rest taken)).arrivalEcc b n ecc
    let xs := v.bufSectors b (if ecc == 2 then some n else none)
    s.burstArrival thread taken ecc sec = (v.stageBurst b xs).setOp (o.received b xs) := by
  rw [burstArrival, hc]
  simp only [hout, ho]
  rfl

/-- Whatever error an arrival meets, the burst comes as the state after the error delivers it, and nothing else changes after it. -/
theorem burstArrival_came (hc : s.porch.contenders.find? (fun d => d.num == thread && decide (thread < 512)) = some c)
    (hout : c.outstanding = b :: rest) (ho : s.opAt c.station = some o) (taken : Nat) {ecc sec : Nat} {lost : Option Nat} {v : State}
    (hv : (s.setContender (c.received b rest taken)).arrivalEcc b (sec % max 1 b.src.length) ecc = v)
    (hd : (s.setContender (c.received b rest taken)).Delivers b lost (if ecc == 2 then some (sec % max 1 b.src.length) else none) v) :
    s.BurstCame c (c.received b rest taken) o b lost (s.burstArrival thread taken ecc sec) ∧
      v.sameBut [.larder, .lb] (s.burstArrival thread taken ecc sec) := by
  have hframe := (arrivalEcc_evolves (s.setContender (c.received b rest taken)) b (sec % max 1 b.src.length) ecc).frame
  rw [hv] at hframe
  have hset := (setContender_evolves s (c.received b rest taken)).frame
  obtain ⟨hbytes, hsectors⟩ := hd.after (readsAs_of_frame hset (by decide))
  rw [burstArrival_eq hc hout ho, hv, hsectors]
  generalize hxs : s.bufSectors b lost = xs
  have hlen : xs.length = b.src.length := hxs ▸ s.bufSectors_length b lost
  have hstage := v.stageBurst_frame b xs
  have hporch : (v.stageBurst b xs).porch = (s.setContender (c.received b rest taken)).porch :=
    (hstage .porch (by decide)).trans (hframe .porch (by decide))
  have hlb : (v.stageBurst b xs).lb = s.lb := (hstage .lb (by decide)).trans ((hframe .lb (by decide)).trans (hset .lb (by decide)))
  refine ⟨⟨?_, ?_, ?_, ?_⟩, (hstage.mono rfl).step (setOp_evolves _ _).frame rfl⟩
  · rw [setOp_porch, hporch]
    simp [setContender, Contender.received]
  · rw [setOp_ops (o := o) (o' := o.received b xs) _ fun _ => rfl, opsWith, hlb, hxs]
    rfl
  · intro sp a ha
    rw [← hbytes sp a, ← v.stageBurst_bytesSame b xs sp a (by rwa [hlen])]
    exact congrArg (fun m : Mem => m.byte a) (setOp_mem _ _ sp)
  · intro a ha i hi
    rw [rd, setOp_mem, ← rd, rd_stageBurst v ha xs (hlen ▸ hi)]
    subst hxs
    rw [bufSectors_data]
    exact Nat.mod_eq_of_lt (Mem.nat_lt _ _ _)

end

end State

end Sys2Proof.Machine

namespace Sys2Proof.Proofs

open Sys2Proof Sys2Proof.Machine

/-- Settles O21. The arbiter's pick is the first in the order of time and number (State.arbiter_spec); its access goes out, or waits for
the host's lines (State.portGrant_clear, State.portGrant_held), and the Exporter's slot is its own (State.portGrant_export). For an
arrival, whichever error it meets leaves memory's bytes alone and changes of the burst's sectors no more than the poison of the one that
is lost (State.Delivers), and what follows the error is the same for all (State.burstArrival_came). -/
theorem portsGrantAndBurstsArrive : Obligations.PortsGrantAndBurstsArrive := by
  refine ⟨fun s port c b rest hc hq hslot => ?grant, fun s howed hwaits => ⟨_, rfl, ?link⟩,
    fun s thread taken ecc sec c b rest o hc hout ho _ => ?arrival⟩
  case grant =>
    intro mine write held left moved c'
    obtain ⟨hmem, hcontends, hmin⟩ := State.arbiter_spec hc
    have hmine : mine c := Contender.contends_iff.1 hcontends
    refine ⟨hmem, hmine, fun d hd hdmine => (hmin d hd (Contender.contends_iff.2 hdmine)).of_eligible hmine.2 hdmine.2,
      fun hclear => ⟨_, rfl, ?_⟩, fun ⟨l, hl, hlast⟩ => ⟨_, rfl, ?_⟩⟩
    · obtain ⟨x, hx⟩ := State.portGrant_clear hc hq hslot hclear
      rw [hx]
      have hgranted : aget 0 (aset 0 s.porch.granted port (c.num + 1)) port = c.num + 1 := aget_aset_self
      exact ⟨hgranted, rfl, rfl, rfl, fun f hf => by cases f <;> simp_all [State.agree]⟩
    · have hheld : ¬s.clearFor b write := fun hclear =>
        have ⟨hread, hanswered⟩ := hclear l hl
        hlast.elim hread (· hanswered)
      have hframe := State.portGrant_held hc hq hslot hheld
      exact ⟨hframe .porch (by decide), ((s.slotGone_frame port).mono rfl).step hframe rfl⟩
  case link =>
    rw [State.portGrant_export howed hwaits]
    exact ⟨rfl, ((State.exportNext_evolves s).frame.mono rfl).step (gs := [.porch]) (fun f hf => by cases f <;> simp_all [State.agree]) rfl⟩
  case arrival =>
    intro n c' old come
    have hset : s.sameBut [.porch] (s.setContender c') := (State.setContender_evolves s c').frame
    generalize hu : s.setContender c' = u at hset
    have hcame : ∀ {ecc lost v}, u.arrivalEcc b n ecc = v → u.Delivers b lost (if ecc == 2 then some n else none) v →
        come lost (s.burstArrival thread taken ecc sec) ∧ v.sameBut [.larder, .lb] (s.burstArrival thread taken ecc sec) := by
      subst hu
      exact State.burstArrival_came hc hout ho taken
    refine ⟨fun hecc => ⟨_, rfl, ?plain⟩, fun hecc => ⟨_, rfl, ?bufferCe⟩, fun hecc => ⟨_, rfl, ?bufferUe⟩,
      fun hecc hsp halign => ⟨_, rfl, ?memoryUe⟩, fun hecc hsp => ⟨_, rfl, ?memoryCe⟩⟩
    case plain =>
      have hseen : (if ecc == 2 then some n else none) = none := if_neg (by simp; omega)
      obtain ⟨hin, hafter⟩ := hcame (lost := none) (u.arrivalEcc_none b n hecc) (by rw [hseen]; exact State.readsAs.delivers ⟨rfl, rfl⟩ b none)
      exact ⟨hin, (hset.mono rfl).step hafter rfl⟩
    case bufferCe =>
      subst hecc
      obtain ⟨hin, hafter⟩ := hcame (u.arrivalEcc_bufferCe b n) ((State.count_readsAs ..).delivers b none)
      exact ⟨hin, (u.counted_one _ _).congr (hset .meter (by decide)).symm (hafter .meter (by decide)),
        ((hset.mono rfl).step (State.count_evolves ..).frame rfl).step hafter rfl⟩
    case bufferUe =>
      subst hecc
      obtain ⟨hin, hafter⟩ := hcame (u.arrivalEcc_bufferUe b n) (((State.memRecord_readsAs ..).delivers b (some n)).after (State.count_readsAs ..))
      refine ⟨hin, (u.counted_one Ctr.porchBufUe 1).congr (hset .meter (by decide)).symm ?_, ?_, ?_⟩
      · exact (hafter .meter (by decide)).trans ((State.memRecord_evolves ..).frame .meter (by decide))
      · rw [hafter .bell (by decide)]
        exact State.memRecord_level ..
      · rw [hafter.odv (by decide)]
        exact State.memRecord_kind ..
    case memoryUe =>
      subst hecc
      obtain ⟨hin, hafter⟩ := hcame (u.arrivalEcc_memoryUe hsp n) (u.memUe_delivers hsp halign n)
      refine ⟨hin, ?_, ?_, ?_⟩
      · rw [hafter .bell (by decide)]
        exact State.memRecord_level ..
      · rw [hafter.odv (by decide)]
        exact State.memRecord_kind ..
      · rw [hafter.odv (by decide)]
        exact (State.memRecord_addr ..).trans (by omega)
    case memoryCe =>
      subst hecc
      obtain ⟨hin, hafter⟩ := hcame (u.arrivalEcc_memoryCe hsp n) ((State.count_readsAs ..).delivers b none)
      exact ⟨hin, (u.counted_one (State.ceUnit b.space) 1).congr (hset .meter (by decide)).symm (hafter .meter (by decide)),
        ((hset.mono rfl).step (State.count_evolves ..).frame rfl).step hafter rfl⟩

end Sys2Proof.Proofs

/-! SUPPORT. Faults of the Workshop's benches (R286, R287): the record of a fault, the letter it stops and the tile it marks. -/

namespace Sys2Proof.Machine

namespace State

/-- The operation found at a station is listed, and belongs to that station. -/
theorem opAt_spec {s : State} {st : Nat} {o : Op} (h : s.opAt st = some o) : o ∈ s.lb.ops ∧ o.station = st := by
  have hp := List.find?_some h
  simp only [Bool.and_eq_true, beq_iff_eq] at hp
  exact ⟨List.mem_of_find?_eq_some h, hp.1.1.1⟩

/-- A letter takes a running one's place, under the same name, where the Letterbox is as it was. -/
theorem setOp_ops_of_lb {s t : State} (h : t.lb = s.lb) {o : Op} (o' : Op) (hname : ∀ x : Op, x.isSame o' = x.isSame o) :
    (t.setOp o').lb.ops = s.opsWith o o' := by
  rw [setOp_ops t hname, opsWith, h]
  rfl

/-! ### The record -/

/-- What a fault of bench b leaves (R286, R287): WS_FAULT's fields, the bench reset with an empty store, the event and its count. -/
structure BenchFaulted (s : State) (c b prog queue seq : Nat) (t : State) : Prop where
  cause : t.odv (wsFaultKey 1) = c
  bench : t.odv (wsFaultKey 2) = b
  prog : t.odv (wsFaultKey 3) = prog
  queue : t.odv (wsFaultKey 4) = queue
  seq : t.odv (wsFaultKey 5) = seq
  reset : aget (2 ^ 64) t.ws.benchReset b = s.tick
  store : aget [] t.ws.store b = []
  event : Bell.wsFault ∈ t.bell.level
  count : s.counted [(Ctr.wsFaults, 1)] t

theorem wsFaultRecord_odv (s : State) (c b prog queue seq k : Nat) : (s.wsFaultRecord c b prog queue seq).odv k =
    if k = wsFaultKey 5 then seq else if k = wsFaultKey 4 then queue else if k = wsFaultKey 3 then prog
    else if k = wsFaultKey 2 then b else if k = wsFaultKey 1 then c else s.odv k := by
  simp only [← odv_setOd]
  exact raise_odv ..

theorem wsFaultRecord_faulted (s : State) (c b prog queue seq : Nat) :
    s.BenchFaulted c b prog queue seq (s.wsFaultRecord c b prog queue seq) := by
  have hodv := s.wsFaultRecord_odv c b prog queue seq
  have hws : (s.wsFaultRecord c b prog queue seq).ws =
      { s.ws with benchReset := aset (2 ^ 64) s.ws.benchReset b s.tick, store := aset [] s.ws.store b [] } := raise_ws ..
  have hmeter : (s.wsFaultRecord c b prog queue seq).meter = (s.count Ctr.wsFaults 1).meter := raise_meter ..
  exact {
    cause := hodv (wsFaultKey 1)
    bench := hodv (wsFaultKey 2)
    prog := hodv (wsFaultKey 3)
    queue := hodv (wsFaultKey 4)
    seq := hodv (wsFaultKey 5)
    reset := by rw [hws]; exact aget_aset_self
    store := by rw [hws]; exact aget_aset_self (a := b) (v := []) (l := s.ws.store)
    event := (mem_level_raise ..).2 (.inl rfl)
    count := (s.counted_one Ctr.wsFaults 1).congr rfl hmeter }

/-- What a fault leaves is seen in the objects, the benches, the Bellboard and the Meter. -/
theorem BenchFaulted.congr {s s' t u : State} {c b prog queue seq : Nat} (h : s.BenchFaulted c b prog queue seq t) {fs gs : List Fld}
    (hs : s.sameBut fs s') (ht : t.sameBut gs u) (hfs : Fld.tick ∉ fs ∧ Fld.meter ∉ fs)
    (hgs : Fld.od ∉ gs ∧ Fld.ws ∉ gs ∧ Fld.bell ∉ gs ∧ Fld.meter ∉ gs) : s'.BenchFaulted c b prog queue seq u := by
  obtain ⟨hod, hws, hbell, hmeter⟩ := hgs
  have ews : u.ws = t.ws := ht .ws hws
  have ebell : u.bell = t.bell := ht .bell hbell
  have etick : s'.tick = s.tick := hs .tick hfs.1
  exact {
    cause := (ht.odv hod _).trans h.cause
    bench := (ht.odv hod _).trans h.bench
    prog := (ht.odv hod _).trans h.prog
    queue := (ht.odv hod _).trans h.queue
    seq := (ht.odv hod _).trans h.seq
    reset := by rw [ews, etick]; exact h.reset
    store := by rw [ews]; exact h.store
    event := by rw [ebell]; exact h.event
    count := h.count.congr (hs .meter hfs.2) (ht .meter hmeter) }

/-! ### A letter that stops without a room -/

theorem clearHeld_other (s : State) {t : Target} (hfront : t ≠ .front) (hback : t ≠ .back) : s.clearHeld t = s := by
  cases t with
  | front => exact absurd rfl hfront
  | back => exact absurd rfl hback
  | _ => rfl

/-- A letter without a room stops, and none of its target waits to run again: it gives up its threads and nothing else (R207). -/
theorem stopOp_roomless {s : State} {o : Op} (hroom : o.room = none) (hfront : o.target ≠ .front) (hback : o.target ≠ .back)
    (hno : s.noReplays o.target) (hmem : o ∈ s.lb.ops) (e : Nat) :
    s.stopOp o e = (s.setOp { o with error := e }).dropStreams o.station := by
  have hleave : ∀ u : State, u.leaveStation o = u.dropStreams o.station := fun u => by
    simp [leaveStation, Op.roomBusy, hroom, clearHeld_other _ hfront hback, partTile]
  have hnone : ((s.setOp { o with error := e }).dropStreams o.station).lb.ops.find? (fun x => x.target == o.target && x.replayWaiting) = none := by
    refine List.find?_eq_none.2 fun x hx => ?_
    obtain ⟨y, hy, rfl⟩ : ∃ y ∈ s.lb.ops, (if y.isSame { o with error := e } then { o with error := e } else y) = x := List.mem_map.1 hx
    split
    · simp [hno o hmem rfl]
    · simpa using hno y hy
  rw [stopOp, hleave, dispatchReplays, hnone]

/-! ### The two kinds of fault -/

/-- A fault in the row of a letter ends that letter with WS_FAULT. -/
theorem benchFault_inRow {s : State} {c bench cycles : Nat} {o : Op} {p : Part} {i r0 n : Nat} (hb : bench < 384)
    (hr : s.benchResetting bench = false) (hwork : bench % 192 < s.slotBenches (bench / 192)) (hop : s.opAt (2 + bench / 192) = some o)
    (hroom : o.room = none) (hstart : o.started = true) (hno : s.noReplays o.target) (htile : wsTileAt o.parts 0 o.wsNext = some (i, r0, n))
    (hpart : o.parts[i]? = some p) (hlong : c = 1 → capIn o.captain K.rowBudget < cycles) :
    let t := s.benchFault c bench cycles
    s.BenchFaulted c bench (p.letter.prog % 4096) p.queue p.seq t ∧ t.lb.ops = s.opsWith o { o with error := Err.wsFault } ∧
      s.sameBut [.od, .ws, .meter, .bell, .lb, .porch] t := by
  intro t
  obtain ⟨hmem, hst⟩ := opAt_spec hop
  have hfront : o.target ≠ .front := fun e => by simp only [Op.station, e, stationOf] at hst; omega
  have hback : o.target ≠ .back := fun e => by simp only [Op.station, e, stationOf] at hst; omega
  let u := s.wsFaultRecord c bench (p.letter.prog % 4096) p.queue p.seq
  have hrec : s.sameBut [.od, .meter, .ws, .bell] u := (wsFaultRecord_evolves ..).frame
  have hlb : u.lb = s.lb := hrec .lb (by decide)
  have ht : t = (u.setOp { o with error := Err.wsFault }).dropStreams o.station := by
    have hlate : (!(c != 1 || decide (capIn o.captain K.rowBudget < cycles))) = false := by simpa [or_iff_not_imp_left] using hlong
    rw [← stopOp_roomless hroom hfront hback (by rw [noReplays, hlb]; exact hno) (hlb ▸ hmem)]
    unfold t benchFault
    simp [Nat.not_le.2 hb, Nat.not_le.2 hwork, hr, hop, htile, hpart, hstart, hlate, u]
  have hset : u.sameBut [.lb, .porch] t := by
    rw [ht]
    exact ((setOp_evolves u _).frame.mono rfl).step (dropStreams_evolves _ _).frame rfl
  refine ⟨(wsFaultRecord_faulted ..).congr (.refl [] s) hset (by decide) (by decide), ?_, (hrec.mono rfl).step hset rfl⟩
  rw [ht]
  exact setOp_ops_of_lb hlb { o with error := Err.wsFault } fun _ => rfl

/-- A fault of a bench reserved for outlier work marks the tile, and stops no letter. -/
theorem benchFault_inList {s : State} {c bench cycles : Nat} {long : Op → Bool} {o : Op} {p : Part} {l : List Part} (hb : bench < 384)
    (hr : s.benchResetting bench = false) (hwork : s.slotBenches (bench / 192) ≤ bench % 192)
    (hlong : ∀ x : Op, long x = (c != 1 || decide (capIn x.captain K.rowBudget < cycles)))
    (hop : s.lb.ops.find? (fun x => x.station == bench / 192 && x.hasLists && x.started && x.error == 0 &&
      decide (x.outDone < x.tiles) && long x) = some o)
    (hpart : o.parts = p :: l) :
    let t := s.benchFault c bench cycles
    (∃ prog, s.BenchFaulted c bench prog 0xFFFFFFFF p.seq t) ∧ t.lb.ops = s.opsWith o { o with outFaults := sadd o.outFaults o.outDone } ∧
      s.sameBut [.od, .ws, .meter, .freeCtr, .bell, .lb] t := by
  intro t
  let u := s.free.2.wsFaultRecord c bench (s.free.1 % 65536) 0xFFFFFFFF p.seq
  have hfree := free_sameBut s
  have hrec : s.free.2.sameBut [.od, .meter, .ws, .bell] u := (wsFaultRecord_evolves ..).frame
  have hlb : u.lb = s.lb := hrec .lb (by decide)
  have ht : t = u.setOp { o with outFaults := sadd o.outFaults o.outDone } := by
    simp only [hlong] at hop
    unfold t benchFault
    simp only [hr, Nat.not_le.2 hb, hwork, hop, hpart, decide_false, Bool.or_false, Bool.false_eq_true, if_false, if_true]
    rfl
  have hset : u.sameBut [.lb] t := by
    rw [ht]
    exact (setOp_evolves u _).frame
  refine ⟨⟨_, (wsFaultRecord_faulted ..).congr (fs := [.freeCtr]) ?_ hset (by decide) (by decide)⟩, ?_,
    ((hfree.mono rfl).step hrec rfl).step hset rfl⟩
  · exact fun f hf => by cases f <;> simp_all [agree, free]
  · rw [ht]
    exact setOp_ops_of_lb hlb { o with outFaults := sadd o.outFaults o.outDone } fun _ => rfl

end State
end Sys2Proof.Machine

/-! SUPPORT. The function library's load and installation, and the reservation of outlier benches (R279, R284). -/

namespace Sys2Proof.Machine

namespace State

/-! ### Writes whose staged content is checked last (R583) -/

section

variable {s : State} {w : Way} {idx sub : Nat} {data : List Byte} {x : Obj}

/-- Once range and state let a write pass, its content decides. -/
theorem WriteToContent.writeValue (h : s.WriteToContent w idx sub data) (hx : objInfo idx sub = some x) :
    s.writeValue idx sub (ofBytes data) = s.contentAbort idx (ofBytes data) := by
  simp [State.writeValue, hx, h.range x hx, h.state]

/-- Outside the Tandem and the trims, a write whose content is accepted passes every check. -/
theorem WriteToContent.writeOk (h : s.WriteToContent w idx sub data) (hx : objInfo idx sub = some x) (hrws : isRws idx sub = false)
    (hcal : calValue idx sub = false) (hc : s.contentAbort idx (ofBytes data) = 0) : s.WriteOk w idx sub data where
  reach := h.reach
  form := h.form
  clock := h.clock
  tandem e := by simp [hrws] at e
  trims _ := hcal
  value := (h.writeValue hx).trans hc
  running := h.running

/-- Such a write comes to its commit, whatever its content. -/
theorem WriteToContent.odWriteObj (h : s.WriteToContent w idx sub data) (hrws : isRws idx sub = false) (hcal : calValue idx sub = false) :
    (s.onWay w fun t => t.odWriteObj w idx sub data) = s.odCommit w [] idx sub (ofBytes data) data := by
  rw [onWay_reach h.reach, State.odWriteObj, odWrite]
  simp [h.form, h.clock, hrws, hcal]

/-- A refusal is answered with its code, and nothing else but the Meter changes. -/
theorem respond_refused_spec (s : State) (w : Way) {code : Nat} (hc : code ≠ 0) :
    s.answers w code (s.respond w [] code []) ∧ s.sameBut [.meter, .sent] (s.respond w [] code []) := by
  obtain ⟨b, e⟩ := s.respond_refused w hc
  rw [e]
  exact ⟨⟨b, rfl⟩, (((count_evolves s _ _).frame.mono rfl).step (count_evolves _ _ _).frame rfl).step (send_evolves _ _).frame rfl⟩

end

/-! ### WS_LIB_LOAD -/

/-- WS_LIB_LOAD's content is the staged image's signature. -/
theorem contentAbort_libLoad (s : State) (v : Nat) :
    s.contentAbort 0x04062 v = if s.imgVerifies 3 (s.domain K.libImage) then 0 else Abort.signature := by
  cases h : s.imgVerifies 3 (s.domain K.libImage) <;> simp [contentAbort, firstAbort, firstErr, h]

theorem libLoad_object : ∃ x, objInfo 0x04062 0 = some x ∧ (x.acc == .rws) = false := by decide +kernel

theorem libLoad_plain : isRws 0x04062 0 = false ∧ calValue 0x04062 0 = false := by decide +kernel

/-- An image that verifies begins to load. -/
theorem wsLibLoad_verified {s : State} {w : Way} {data : List Byte} (h : s.WriteToContent w 0x04062 0 data)
    (hv : s.imgVerifies 3 (s.domain K.libImage) = true) :
    (s.onWay w fun t => t.odWriteObj w 0x04062 0 data) = s.libLoad.respond w [] 0 [] := by
  obtain ⟨x, hx, hacc⟩ := libLoad_object
  have hok : s.WriteOk w 0x04062 0 data := h.writeOk hx libLoad_plain.1 libLoad_plain.2 (by rw [contentAbort_libLoad, hv]; rfl)
  rw [write_effect hok (by decide)]
  have hkey : okey 0x04062 0 ≠ K.clkEnable := by decide
  unfold odEffect
  rw [demand_ok hok]
  simp [hx, hacc, hkey]

/-- An image that does not verify is refused; with no library active that is an event (R284). -/
theorem wsLibLoad_refused {s : State} {w : Way} {data : List Byte} (h : s.WriteToContent w 0x04062 0 data)
    (hv : s.imgVerifies 3 (s.domain K.libImage) = false) : (s.onWay w fun t => t.odWriteObj w 0x04062 0 data) =
      (if s.odv K.libState = 0 then s.raise Bell.wsLibFail else s).respond w [] Abort.signature [] := by
  obtain ⟨x, hx, -⟩ := libLoad_object
  have ha : s.writeValue 0x04062 0 (ofBytes data) = Abort.signature := by rw [h.writeValue hx, contentAbort_libLoad, hv]; rfl
  rw [h.odWriteObj libLoad_plain.1 libLoad_plain.2, odCommit, ha]
  by_cases e : s.odv K.libState = 0 <;> simp [e, Abort.signature]

theorem libLoad_frame (s : State) : s.sameBut [.od, .ws] s.libLoad := (libLoad_evolves s).frame

/-! ### The installation -/

theorem libDone_eq {s : State} {img : List Byte} (hload : s.ws.loading = some img) (hidle : s.wsRunning = false) :
    s.libDone = (s.installLib img).setLibActive img := by
  simp [libDone, libInstallDone, hload, hidle, installLib, setLibActive]

theorem installLib_odv (s : State) (img : List Byte) (k : Nat) : (s.installLib img).odv k =
    if k = K.libState then 1 else if k = K.libPrograms then (s.installLib img).ws.progs.length
    else if k = K.libVersion then Config.imageField 1 img % 65536 else s.odv k := by
  simp only [← odv_setOd]
  rfl

theorem setLibActive_frame (s : State) (img : List Byte) : s.sameBut [.sec] (s.setLibActive img) :=
  fun f hf => by cases f <;> simp_all [agree, setLibActive]

theorem setWs_frame (s : State) (x : WsState) : s.sameBut [.ws] { s with ws := x } :=
  fun f hf => by cases f <;> simp_all [agree]

/-- With no letter that runs in the Workshop, a new reservation is in force (R279). -/
theorem applyReservation_idle {s : State} (h : ∀ o ∈ s.lb.ops, o.target = .workshop → o.roomBusy = true → o.error ≠ 0) :
    s.applyReservation = { s with ws := { s.ws with reserved0 := s.cap K.outlierBenches, reserved1 := s.cap K.outlierBenches } } := by
  unfold applyReservation
  rw [if_neg]
  simpa [and_assoc] using h

end State

end Sys2Proof.Machine

namespace Sys2Proof.Proofs

open Sys2Proof Sys2Proof.Machine

/-- Settles O23. A fault's record, and the letter it stops or the tile it marks, are State.benchFault_inRow and
State.benchFault_inList; a trap differs from a watchdog's fault in the cause alone. WS_LIB_LOAD comes down to the signature
(State.wsLibLoad_verified, State.wsLibLoad_refused). -/
theorem benchesFaultAndLoad : Obligations.BenchesFaultAndLoad := by
  intro s dieOf recorded inRow ended inList marked
  have hrow : ∀ {cause bench cycles o p}, inRow bench o p → (cause = 1 → capIn o.captain K.rowBudget < cycles) →
      ended cause bench o p (s.benchFault cause bench cycles) := by
    intro cause bench cycles o p ⟨hb, hr, hwork, hop, hroom, hstart, hno, i, r0, n, htile, hpart⟩ hlong
    obtain ⟨hf, hops, hframe⟩ := State.benchFault_inRow hb hr hwork hop hroom hstart hno htile hpart hlong
    exact ⟨⟨hf.cause, hf.bench, hf.reset, hf.store, hf.event, hf.count⟩, hops, hf.prog, hf.queue, hf.seq, hframe⟩
  have hlist : ∀ {cause bench cycles long o p l}, o.parts = p :: l → inList bench long o →
      (∀ x : Op, long x = (cause != 1 || decide (capIn x.captain K.rowBudget < cycles))) →
      marked cause bench o p (s.benchFault cause bench cycles) := by
    intro cause bench cycles long o p l hpart ⟨hb, hr, hwork, hop⟩ hlong
    obtain ⟨⟨prog, hf⟩, hops, hframe⟩ := State.benchFault_inList hb hr hwork hlong hop hpart
    exact ⟨⟨hf.cause, hf.bench, hf.reset, hf.store, hf.event, hf.count⟩, hops, hf.queue, hf.seq, hframe⟩
  refine ⟨fun bench cycles o p h hlong => ⟨_, rfl, hrow h fun _ => hlong⟩,
    fun bench o p h => ⟨_, rfl, hrow h fun e => absurd e (by decide)⟩,
    fun bench cycles o p l hpart h => ⟨_, rfl, hlist hpart h fun _ => rfl⟩,
    fun bench o p l hpart h => ⟨_, rfl, hlist hpart h fun _ => rfl⟩,
    fun w data h hv => ⟨_, rfl, ?load⟩, fun w data h hv => ⟨_, rfl, ?refused⟩, fun img hload hidle => ⟨_, rfl, ?installed⟩,
    fun hidle => ⟨_, rfl, ?reserved⟩⟩
  case load =>
    rw [State.wsLibLoad_verified h hv]
    have hans := s.libLoad.respond_done_frame w
    have hod : ∀ k, (s.libLoad.respond w [] 0 []).odv k = (s.setOd K.libState 2).odv k := fun k => hans.odv (by decide) k
    refine ⟨(hod _).trans (State.odv_setOd_self ..), hans .ws (by decide), fun k hk => ?_, State.served_respond rfl rfl,
      (s.libLoad_frame.mono rfl).step hans rfl⟩
    rw [hod, State.odv_setOd_other _ _ (by simpa using hk)]
  case refused =>
    rw [State.wsLibLoad_refused h hv]
    split
    · next e =>
      obtain ⟨hans, hframe⟩ := (s.raise Bell.wsLibFail).respond_refused_spec w (code := Abort.signature) (by decide)
      have hbell := hframe .bell (by decide)
      refine ⟨by simpa only [State.answers, State.raise_sent] using hans,
        ((State.raise_evolves s _).frame.mono rfl).step hframe rfl, fun _ => ?_, fun e' => absurd e e'⟩
      rw [hbell]
      exact (State.mem_level_raise ..).2 (.inl rfl)
    · next e =>
      obtain ⟨hans, hframe⟩ := s.respond_refused_spec w (code := Abort.signature) (by decide)
      exact ⟨hans, hframe.mono rfl, fun e' => absurd e' e, fun _ => hframe .bell (by decide)⟩
  case installed =>
    rw [State.libDone_eq hload hidle]
    have hframe := (s.installLib_evolves img).frame
    refine ⟨(State.setLibActive_odv ..).trans (s.installLib_odv img K.libState), rfl, rfl,
      (State.setLibActive_odv ..).trans (s.installLib_odv img K.libVersion), (State.setLibActive_odv ..).trans (s.installLib_odv img K.libPrograms), ?_, fun k hk => ?_, ?_⟩
    · rw [← show (s.installLib img).sec = s.sec from hframe .sec (by decide)]
      rfl
    · simp only [List.mem_cons, List.not_mem_nil, or_false, not_or] at hk
      obtain ⟨hstate, hversion, hprograms⟩ := hk
      rw [State.setLibActive_odv, State.installLib_odv, if_neg hstate, if_neg hprograms, if_neg hversion]
    · exact (hframe.mono rfl).step (State.setLibActive_frame _ img) rfl
  case reserved =>
    rw [State.applyReservation_idle hidle]
    exact ⟨rfl, State.setWs_frame s _⟩

end Sys2Proof.Proofs

/-! SUPPORT. The rows of a Workshop tile (R266, R268, R285): row by row, which row goes to the Landing with what, and what the benches
leave of the state. -/

namespace Sys2Proof.Machine

namespace State

/-! ### What a bench reads -/

/-- Other counts and other bench stores. -/
def setBenches (s : State) (store : List (Nat × List (F32 × Bool))) (meter : List (Nat × Nat)) : State :=
  { s with ws := { s.ws with store := store }, meter := meter }

theorem setBenches_frame (s : State) (store : List (Nat × List (F32 × Bool))) (meter : List (Nat × Nat)) :
    s.sameBut [.meter, .ws] (s.setBenches store meter) :=
  fun f hf => by cases f <;> simp_all [agree, setBenches]

/-- Memory as the consumer of a tile's operands sees it. -/
def tileView (s : State) (o : Op) : State := (s.viewOf o false o.wsNext).viewOf o true o.wsNext

theorem viewOf_setBenches (s : State) (store : List (Nat × List (F32 × Bool))) (meter : List (Nat × Nat)) (o : Op) (isB : Bool) (t : Nat) :
    (s.setBenches store meter).viewOf o isB t = (s.viewOf o isB t).setBenches store meter := by
  unfold viewOf
  generalize List.filter _ _ = l
  induction l generalizing s with
  | nil => rfl
  | cons e l ih =>
    rw [List.foldl_cons, List.foldl_cons, ← ih]
    cases e.space <;> cases e.poison <;> rfl

theorem tileView_setBenches (s : State) (store : List (Nat × List (F32 × Bool))) (meter : List (Nat × Nat)) (o : Op) :
    (s.setBenches store meter).tileView o = (s.tileView o).setBenches store meter := by
  rw [tileView, viewOf_setBenches, viewOf_setBenches]
  rfl

theorem rowA_setBenches (s : State) (store : List (Nat × List (F32 × Bool))) (meter : List (Nat × Nat)) (p : Part) (r : Nat) :
    rowA (s.setBenches store meter) p r = rowA s p r := rfl

theorem wsRowOut_setBenches (s : State) (store : List (Nat × List (F32 × Bool))) (meter : List (Nat × Nat)) (p : Part) (r : Nat)
    (a : List (F32 × Bool)) : wsRowOut (s.setBenches store meter) p r a = wsRowOut s p r a := rfl

end State

/-! ### One row -/

/-- A tile in the hands of a slot's benches: its letter and constituent, its first row, what the store of its first bench meets, the
program, and how many benches share its rows. -/
structure BenchTile where
  op : Op
  slot : Nat
  index : Nat
  part : Part
  first : Nat
  ecc : Nat
  prog : Option WsProg
  benches : Nat

/-- The tile as the slot takes it. -/
def State.benchTile (s : State) (o : Op) (slot i : Nat) (p : Part) (r0 ecc : Nat) : BenchTile :=
  ⟨o, slot, i, p, r0, ecc, wsProgOf s p.letter, max 1 (s.slotBenches slot)⟩

namespace BenchTile

/-- A's row as the bench holds it: an uncorrectable error of its store loses the first sector of the tile's first row (R285). -/
def input (b : BenchTile) (s : State) (j : Nat) : List (F32 × Bool) :=
  let a := rowA (s.tileView b.op) b.part (b.first + j)
  if b.ecc == 2 && j == 0 then (a.zip (List.range a.length)).map fun (y, c) => (y.1, y.2 || c < 8) else a

/-- What the bench writes for row j. -/
def output (b : BenchTile) (s : State) (j : Nat) : RowOut := wsRowOut (s.tileView b.op) b.part (b.first + j) (b.input s j)

/-- The state with row j in its bench's store. -/
def stored (b : BenchTile) (s : State) (j : Nat) : State :=
  { s with ws := { s.ws with store := aset [] s.ws.store (192 * b.slot + j % b.benches) ((b.input s j).take 65536) } }

/-- The state with row j computed: its row arrays written, and what is counted (R266, R285). -/
def computed (b : BenchTile) (s : State) (j : Nat) : State :=
  let out := b.output s j
  let t := (b.stored s j).raWrite (b.part.rowArr 0) (WsProg.raBytes b.prog 0) (b.first + j) out.ra0 out.raPoison
  let t := t.raWrite (b.part.rowArr 1) (WsProg.raBytes b.prog 1) (b.first + j) out.ra1 out.raPoison
  (t.count Ctr.wsEmptyRows (if out.emptyRow then 1 else 0)).count Ctr.wsToppNf out.toppNf

/-- The state after row j: route 0x05 writes D as well (R289). -/
def next (b : BenchTile) (s : State) (j : Nat) : State :=
  if b.part.letter.route = 5 then (b.computed s j).directRow b.part (b.first + j) (b.output s j) else b.computed s j

/-- Row j for the Landing; route 0x05 has none. -/
def landed (b : BenchTile) (s : State) (j : Nat) : List WsRow :=
  if b.part.letter.route = 5 then [] else [⟨b.index, b.first + j, (b.output s j).d⟩]

/-- The first n rows, each computed in the state that the one before it left. -/
def rows (b : BenchTile) (s : State) : Nat → State × List WsRow
  | 0 => (s, [])
  | n + 1 => (b.next (b.rows s n).1 n, (b.rows s n).2 ++ b.landed (b.rows s n).1 n)

theorem wsRowsOut_foldl (s : State) (o : Op) (slot i : Nat) (p : Part) (r0 n ecc : Nat) :
    let b := s.benchTile o slot i p r0 ecc
    s.wsRowsOut o slot i p r0 n ecc = (List.range n).foldl (fun x j => (b.next x.1 j, x.2 ++ b.landed x.1 j)) (s, []) := by
  unfold State.wsRowsOut
  dsimp only
  congr 1
  funext x j
  by_cases h : p.letter.route = 5
  · simp [h, State.benchTile, next, computed, landed, output, stored, input, State.tileView]
  · simp [h, State.benchTile, next, computed, landed, output, stored, input, State.tileView]

theorem wsRowsOut_eq (s : State) (o : Op) (slot i : Nat) (p : Part) (r0 n ecc : Nat) :
    s.wsRowsOut o slot i p r0 n ecc = (s.benchTile o slot i p r0 ecc).rows s n := by
  rw [wsRowsOut_foldl]
  induction n with
  | zero => rfl
  | succ n ih => rw [List.range_succ, List.foldl_append, ih]; rfl

/-! ### All rows -/

/-- The rows that go to the Landing are the tile's, in order. -/
theorem rows_names (b : BenchTile) (s : State) (n : Nat) : (b.rows s n).2.map (fun w => (w.part, w.row)) =
    if b.part.letter.route = 5 then [] else (List.range n).map fun j => (b.index, b.first + j) := by
  induction n with
  | zero => simp [rows]
  | succ n ih =>
    rw [rows, List.map_append, ih, landed]
    split
    · rfl
    · rw [List.range_succ, List.map_append]
      rfl

/-- Units that the benches' writes count in. -/
def units : List Nat := [Ctr.hostWriteDrops, Ctr.wsEmptyRows, Ctr.wsToppNf, Ctr.wsDirectNf]

theorem put_units (s : State) (sp : Space) (f : Mem → Mem) : s.ctrSame units (s.put sp f) := (State.put_ctrSame s sp f).mono (by decide)

theorem count_units (s : State) {u : Nat} (n : Nat) (h : u ∈ units) : s.ctrSame units (s.count u n) :=
  (State.ctrSame_count s u n).mono (by simpa using h)

theorem raWrite_units (s : State) (l : Option Loc) (size r : Nat) (ws : List F32) (poison : Bool) :
    s.ctrSame units (s.raWrite l size r ws poison) := by
  unfold State.raWrite
  split
  · exact .refl _ s
  · next q =>
    split
    · exact .refl _ s
    · have hwords : s.ctrSame units
          ((ws.zip (List.range ws.length)).foldl (fun st (w, i) => st.wr q.space (q.addr + size * r + 4 * i) 4 w.toNat) s) :=
        .foldl (fun t x => put_units t _ _) _ s
      dsimp only
      split
      · exact hwords.trans (put_units _ _ _)
      · exact hwords

theorem directRow_units (s : State) (p : Part) (r : Nat) (out : RowOut) : s.ctrSame units (s.directRow p r out) := by
  unfold State.directRow
  split
  · exact .refl _ s
  · refine .foldl (fun t x => ?_) _ s
    obtain ⟨⟨v, lost⟩, c⟩ := x
    cases lost with
    | false => exact (put_units _ _ _).trans (count_units _ _ (by decide))
    | true =>
      have hfree : t.ctrSame units t.free.2 := .of_meter rfl
      show t.ctrSame units (((t.free.2.wr _ _ 4 _).count Ctr.wsDirectNf _).poison _ _ 4)
      exact ((hfree.trans (put_units _ _ _)).trans (count_units (u := Ctr.wsDirectNf) _ _ (by decide))).trans (put_units _ _ _)

theorem computed_units (b : BenchTile) (s : State) (j : Nat) : s.ctrSame units (b.computed s j) := by
  have hstored : s.ctrSame units (b.stored s j) := .of_meter rfl
  unfold computed
  exact (((hstored.trans (raWrite_units _ _ _ _ _ _)).trans (raWrite_units _ _ _ _ _ _)).trans (count_units _ _ (by decide))).trans
    (count_units _ _ (by decide))

theorem next_units (b : BenchTile) (s : State) (j : Nat) : s.ctrSame units (b.next s j) := by
  unfold next
  split
  · exact (computed_units b s j).trans (directRow_units _ _ _ _)
  · exact computed_units b s j

theorem rows_units (b : BenchTile) (s : State) (n : Nat) : s.ctrSame units (b.rows s n).1 := by
  induction n with
  | zero => exact .refl _ s
  | succ n ih => exact ih.trans (next_units b _ n)

section

variable {b : BenchTile} (h0 : b.part.rowArr 0 = none) (h1 : b.part.rowArr 1 = none) (hroute : b.part.letter.route ≠ 5)

include h0 h1 hroute

/-- A row without row arrays that goes to the Landing changes its bench's store and the Meter. -/
theorem next_plain (s : State) (j : Nat) : ∃ store meter, b.next s j = s.setBenches store meter := by
  refine ⟨(b.next s j).ws.store, (b.next s j).meter, ?_⟩
  rw [next, if_neg hroute, computed, h0, h1]
  rfl

/-- Where no row changes what the next one reads, every row is computed as the first is. -/
theorem rows_plain (hecc : b.ecc ≠ 2) (s : State) (n : Nat) : (∃ store meter, (b.rows s n).1 = s.setBenches store meter) ∧
    (b.rows s n).2.map (·.vals) = (List.range n).map fun j =>
      (wsRowOut (s.tileView b.op) b.part (b.first + j) (rowA (s.tileView b.op) b.part (b.first + j))).d := by
  induction n with
  | zero => exact ⟨⟨_, _, rfl⟩, rfl⟩
  | succ n ih =>
    obtain ⟨⟨store, meter, hs⟩, hvals⟩ := ih
    have hin : b.input (s.setBenches store meter) n = rowA (s.tileView b.op) b.part (b.first + n) := by
      rw [input, State.tileView_setBenches, State.rowA_setBenches]
      simp [hecc]
    have hout : b.output (s.setBenches store meter) n =
        wsRowOut (s.tileView b.op) b.part (b.first + n) (rowA (s.tileView b.op) b.part (b.first + n)) := by
      rw [output, hin, State.tileView_setBenches, State.wsRowOut_setBenches]
    obtain ⟨store', meter', hnext⟩ := next_plain h0 h1 hroute (s.setBenches store meter) n
    refine ⟨⟨store', meter', by rw [rows, hs, hnext]; rfl⟩, ?_⟩
    rw [rows, List.map_append, hvals, hs, landed, if_neg hroute, hout, List.range_succ, List.map_append]
    rfl

end

theorem rows_frame (s : State) (o : Op) (slot i : Nat) (p : Part) (r0 ecc n : Nat) :
    s.sameBut [.attic, .cellar, .larder, .host, .meter, .freeCtr, .ws] ((s.benchTile o slot i p r0 ecc).rows s n).1 := by
  rw [← wsRowsOut_eq]
  exact (State.wsRowsOut_evolves ..).frame

end BenchTile

end Sys2Proof.Machine

/-! SUPPORT. The end of a Workshop tile (R268, R271, R272, R285), and of a tile of the outlier benches (R277, R278). -/

namespace Sys2Proof.Machine

namespace State

/-! ### What a finished tile counts -/

/-- A tile's delivery, the blocks turned for it and its benches' cycles, counted (R258, R268). -/
def tileCounted (s : State) (busy turned : Nat) (es : List Elem) : State :=
  ((s.count Ctr.wsBusy busy).countDelivery (deliveryOf es)).count Ctr.stairTurned turned

theorem tileCounted_frame (s : State) (busy turned : Nat) (es : List Elem) : s.sameBut [.meter] (s.tileCounted busy turned es) :=
  ((count_evolves s _ _).frame.step (countDelivery_evolves _ _).frame rfl).step (count_evolves _ _ _).frame rfl

theorem tileCounted_ctrSame (s : State) (busy turned : Nat) (es : List Elem) :
    s.ctrSame [Ctr.wsBusy, Ctr.porchOperandNf, Ctr.porchMarkers, Ctr.porchPoison, Ctr.stairTurned] (s.tileCounted busy turned es) :=
  (((ctrSame_count s _ _).mono (by decide)).trans ((countDelivery_ctrSame _ _).mono (by decide))).trans ((ctrSame_count _ _ _).mono (by decide))

/-- What the store of a tile's first bench met (R285). -/
def storeMet (s : State) (ecc : Nat) : State :=
  if ecc == 1 then s.count Ctr.wsStoreCe 1 else if ecc == 2 then s.sramUe Ctr.wsStoreUe else s

theorem storeMet_frame (s : State) (ecc : Nat) : s.sameBut [.od, .meter, .freeCtr, .bell] (s.storeMet ecc) := by
  unfold storeMet
  split
  · exact (count_evolves s _ _).frame.mono rfl
  · split
    · exact (sramUe_evolves s _).frame.mono rfl
    · exact .refl _ s

theorem storeMet_frame_clean (s : State) {ecc : Nat} (h : ecc ≠ 2) : s.sameBut [.meter] (s.storeMet ecc) := by
  unfold storeMet
  split
  · exact (count_evolves s _ _).frame
  · rw [if_neg (by simpa using h)]
    exact .refl _ s

theorem storeMet_ce (s : State) : (s.storeMet 1).ctr Ctr.wsStoreCe = (s.ctr Ctr.wsStoreCe + 1) % 2 ^ 64 := by
  rw [show s.storeMet 1 = s.count Ctr.wsStoreCe 1 from rfl, ctr_count, if_pos rfl]

theorem storeMet_ue (s : State) : (s.storeMet 2).ctr Ctr.wsStoreUe = (s.ctr Ctr.wsStoreUe + 1) % 2 ^ 64 := by
  rw [show s.storeMet 2 = s.sramUe Ctr.wsStoreUe from rfl, sramUe_ctr, ctr_count, if_pos rfl]

/-! ### The tile -/

end State

/-- The letter with its next tile's rows lined up for the Landing, and the sectors gone that no later tile uses. -/
def Op.tileEnded (o : Op) (rows : List WsRow) : Op :=
  { o with wsNext := o.wsNext + 1, wsRows := o.wsRows ++ rows, buf := o.buf.filter fun e => o.wsNext < e.tile }

namespace State

/-- A slot's letter whose next tile can end: fewer than two wait for the Landing, its operands are there and legal, and no row
takes longer than WS_ROW_BUDGET (R257, R268, R286). -/
structure TileDue (s : State) (slot : Nat) (o : Op) (p : Part) (i r0 n : Nat) : Prop where
  op : s.opAt (2 + slot) = some o
  tile : wsTileAt o.parts 0 o.wsNext = some (i, r0, n)
  part : o.parts[i]? = some p
  started : o.started = true
  room : o.tilesWaiting < 2
  there : s.visitAwaited o o.wsNext = false
  legal : ∀ e ∈ wsDelivered (s.tileView o) p r0 n, e.badWidth = false
  budget : rowCycles s p ≤ capIn o.captain K.rowBudget

section

variable {s : State} {slot : Nat} {o : Op} {p : Part} {i r0 n : Nat} (h : s.TileDue slot o p i r0 n) (ecc : Nat)

include h

/-- The rows are computed, then what the tile took is counted, then the letter goes on to its next tile. -/
theorem TileDue.wsTileDone_eq : ∃ busy turned es,
    let x := (s.benchTile o slot i p r0 ecc).rows s n
    let t := ((x.1.tileCounted busy turned es).storeMet ecc).setOp (o.tileEnded x.2)
    s.wsTileDone slot ecc = if o.wsNext + 1 == o.wsTiles then t.releaseReads o.station else t := by
  refine ⟨n * rowCycles s p + 16 * s.slotBenches slot, wsTurned p n, wsDelivered (s.tileView o) p r0 n, ?_⟩
  have hlegal : (wsDelivered (s.tileView o) p r0 n).any (·.badWidth) = false := by simpa using h.legal
  have hguard : (!o.started || decide (2 ≤ o.tilesWaiting) || s.visitAwaited o o.wsNext) = false := by
    simp [h.started, h.there, h.room]
  have hbudget : ¬capIn o.captain K.rowBudget < rowCycles s p := Nat.not_lt.2 h.budget
  rw [← BenchTile.wsRowsOut_eq]
  unfold tileView at hlegal
  unfold wsTileDone
  simp only [h.op, h.tile, h.part, hguard, hlegal, hbudget, Bool.false_eq_true, if_false]
  rfl

/-- What the end of a tile leaves (R268, R271, R272, R285). -/
theorem TileDue.wsTileDone_spec :
    let x := (s.benchTile o slot i p r0 ecc).rows s n
    let t := s.wsTileDone slot ecc
    t.lb.ops = s.opsWith o (o.tileEnded x.2) ∧ (ecc = 1 → t.ctr Ctr.wsStoreCe = (s.ctr Ctr.wsStoreCe + 1) % 2 ^ 64) ∧
      (ecc = 2 → t.ctr Ctr.wsStoreUe = (s.ctr Ctr.wsStoreUe + 1) % 2 ^ 64) ∧
      x.1.sameBut [.od, .meter, .freeCtr, .bell, .lb, .porch] t ∧ (ecc ≠ 2 → x.1.sameBut [.meter, .lb, .porch] t) := by
  intro x t
  obtain ⟨busy, turned, es, ht⟩ := h.wsTileDone_eq ecc
  let u := x.1.tileCounted busy turned es
  have hlast : ((u.storeMet ecc).setOp (o.tileEnded x.2)).sameBut [.porch] t := by
    rw [show t = _ from ht]
    split
    · exact (releaseReads_evolves _ _).frame
    · exact .refl _ _
  have hset : (u.storeMet ecc).sameBut [.lb, .porch] t := ((setOp_evolves _ _).frame.mono rfl).step hlast rfl
  have hcount : x.1.sameBut [.meter] u := tileCounted_frame _ _ _ _
  have hctr : ∀ y, y ∉ BenchTile.units → y ∉ [Ctr.wsBusy, Ctr.porchOperandNf, Ctr.porchMarkers, Ctr.porchPoison, Ctr.stairTurned] →
      u.ctr y = s.ctr y := fun y hy hy' => (tileCounted_ctrSame _ _ _ _ y hy').trans (BenchTile.rows_units _ s n y hy)
  have hmeter : ∀ y, t.ctr y = (u.storeMet ecc).ctr y := fun y => congrArg (fun m => aget 0 m y) (hset .meter (by decide))
  refine ⟨?_, fun e => ?_, fun e => ?_, ?_, fun e => ?_⟩
  · have hlb : (u.storeMet ecc).lb = s.lb := (u.storeMet_frame ecc .lb (by decide)).trans
      ((hcount .lb (by decide)).trans (BenchTile.rows_frame s o slot i p r0 ecc n .lb (by decide)))
    rw [← setOp_ops_of_lb hlb (o := o) (o.tileEnded x.2) fun _ => rfl]
    exact congrArg LbState.ops (hlast .lb (by decide))
  · subst e
    rw [hmeter, storeMet_ce, hctr _ (by decide) (by decide)]
  · subst e
    rw [hmeter, storeMet_ue, hctr _ (by decide) (by decide)]
  · exact ((hcount.mono rfl).step (u.storeMet_frame ecc) rfl).step hset rfl
  · exact ((hcount.mono rfl).step (u.storeMet_frame_clean e) rfl).step hset rfl

end

/-! ### The outlier benches -/

theorem outlierDone_eq {s : State} {back : Bool} {o : Op} {r : RoomRun}
    (ho : s.lb.ops.find? (fun x => x.station == (if back then 1 else 0) && x.hasLists && x.started && x.error == 0 && !x.replayWaiting
      && decide (x.outDone < x.tiles)) = some o) (hr : o.room = some r) (wait : Nat) : s.outlierDone back wait =
      ((s.count Ctr.wsOutProducts (outlierCount s o r o.outDone)).count Ctr.wsOutWait wait).setOp { o with outDone := o.outDone + 1 } := by
  unfold outlierDone
  simp only [ho, hr]

end State

end Sys2Proof.Machine

namespace Sys2Proof.Proofs

open Sys2Proof Sys2Proof.Machine

/-- Settles O22. The rows of a tile are computed one after the other (BenchTile.rows); where they write no memory, none changes what the
next one reads (BenchTile.rows_plain). What else the end of the tile does is State.TileDue.wsTileDone_spec. -/
theorem workshopTilesEnd : Obligations.WorkshopTilesEnd := by
  refine ⟨fun s slot ecc o p i r0 n hop htile hpart hstart hroom hthere hlegal hbudget => ⟨_, rfl, ?tile⟩,
    fun s back wait o r ho hr _ => ⟨_, rfl, ?lists⟩⟩
  case tile =>
    have hdue : s.TileDue slot o p i r0 n := ⟨hop, htile, hpart, hstart, hroom, hthere, hlegal, hbudget⟩
    obtain ⟨hops, hce, hue, hframe, hclean⟩ := hdue.wsTileDone_spec ecc
    refine ⟨_, hops, BenchTile.rows_names _ s n, fun ⟨h0, h1⟩ hroute hecc => (BenchTile.rows_plain h0 h1 hroute hecc s n).2, hce, hue,
      ((BenchTile.rows_frame s o slot i p r0 ecc n).mono rfl).step hframe rfl, fun ⟨h0, h1⟩ hroute hecc => ?_⟩
    obtain ⟨store, meter, hrows⟩ := (BenchTile.rows_plain (b := s.benchTile o slot i p r0 ecc) h0 h1 hroute hecc s n).1
    replace hclean := hclean hecc
    rw [hrows] at hclean
    exact ((s.setBenches_frame store meter).mono rfl).step hclean rfl
  case lists =>
    rw [State.outlierDone_eq ho hr]
    refine ⟨State.setOp_ops_of_lb rfl { o with outDone := o.outDone + 1 } fun _ => rfl, ?_,
      (((State.count_evolves s _ _).frame.mono rfl).step (State.count_evolves _ _ _).frame rfl).step (State.setOp_evolves _ _).frame rfl⟩
    exact ((s.counted_one _ _).append (State.counted_one _ _ _) (by simp [Ctr.wsOutProducts, Ctr.wsOutWait])).congr rfl rfl

end Sys2Proof.Proofs

/-! SUPPORT. The registers and cores of Glazia, and what one word of a rule run leaves of them (R343 to R346, R362, R364, R377). -/

namespace Sys2Proof.Machine

/-- A lane as a register holds it: its FP32 bits, with its poison mark in bit 0. -/
def laneCode (p : F32 × Bool) : Nat := 2 * p.1.toNat + (if p.2 then 1 else 0)

theorem laneCode_reads (p : F32 × Bool) : (BitVec.ofNat 32 (laneCode p / 2), bit (laneCode p) 0) = p := by
  obtain ⟨x, b⟩ := p
  have hx : BitVec.ofNat 32 x.toNat = x := by simp
  cases b
  · simp [laneCode, bit, hx]
  · have hhalf : (2 * x.toNat + 1) / 2 = x.toNat := by omega
    simp [laneCode, bit, hx, hhalf]

/-- A lane register written for the elements xs of a vector, v i x being the value of element x in lane i. -/
def putLanes (d : Nat) (v : Nat → GzIn → F32 × Bool) (xs : List GzIn) (m : List (Nat × Nat)) : List (Nat × Nat) :=
  (xs.zip (List.range xs.length)).foldl (fun m x => aset 0 m (64 * d + x.2) (laneCode (v x.2 x.1))) m

theorem putLanes_append (d : Nat) (v : Nat → GzIn → F32 × Bool) (xs : List GzIn) (x : GzIn) (m : List (Nat × Nat)) :
    putLanes d v (xs ++ [x]) m = aset 0 (putLanes d v xs m) (64 * d + xs.length) (laneCode (v xs.length x)) := by
  rw [putLanes, List.length_append, List.length_singleton, List.range_succ, List.zip_append (by simp), List.foldl_append]
  rfl

/-- Each element's lane holds its value, and every other lane is as it was. -/
theorem aget_putLanes (d : Nat) (v : Nat → GzIn → F32 × Bool) {xs : List GzIn} (hlen : xs.length ≤ 64) (m : List (Nat × Nat)) (k : Nat)
    {i : Nat} (hi : i < 64) : aget 0 (putLanes d v xs m) (64 * k + i) =
      if k = d then (match xs[i]? with | some x => laneCode (v i x) | none => aget 0 m (64 * k + i)) else aget 0 m (64 * k + i) := by
  induction xs using List.reverseRecOn with
  | nil => simp [putLanes]
  | append_singleton xs x ih =>
    rw [List.length_append, List.length_singleton] at hlen
    rw [putLanes_append, aget_aset, ih (by omega)]
    by_cases hk : k = d
    · subst hk
      rcases Nat.lt_trichotomy i xs.length with hlt | rfl | hgt
      · rw [if_neg (by omega), List.getElem?_append_left hlt]
      · simp
      · rw [if_neg (by omega), List.getElem?_eq_none (by omega), List.getElem?_eq_none (by simp; omega)]
    · rw [if_neg (by omega), if_neg hk, if_neg hk]

/-- The registers with lane register d written. -/
def GzRegs.withLanes (r : GzRegs) (d : Nat) (v : Nat → GzIn → F32 × Bool) (xs : List GzIn) : GzRegs :=
  { r with lanes := putLanes d v xs r.lanes }

theorem GzRegs.v_withLanes (r : GzRegs) (d : Nat) (v : Nat → GzIn → F32 × Bool) {xs : List GzIn} (hlen : xs.length ≤ 64) (k : Nat) {i : Nat}
    (hi : i < 64) : (r.withLanes d v xs).v k i = if k = d then (match xs[i]? with | some x => v i x | none => r.v k i) else r.v k i := by
  simp only [GzRegs.v, withLanes, aget_putLanes d v hlen r.lanes k hi]
  split
  · split
    · exact laneCode_reads _
    · rfl
  · rfl

/-- The registers with scalar register d written. -/
def GzRegs.withScalar (r : GzRegs) (d : Nat) (x : F32) : GzRegs := { r with scalars := aset 0 r.scalars d x.toNat }

theorem GzRegs.s_withScalar (r : GzRegs) (d : Nat) (x : F32) (k : Nat) : (r.withScalar d x).s k = if k = d then x else r.s k := by
  simp only [GzRegs.s, withScalar, aget_aset]
  split
  · simp
  · rfl

/-- A core past its word. -/
def GzCore.advanced (c : GzCore) : GzCore := { c with pc := c.pc + 1 }

namespace State

/-! ### Cores and registers -/

theorem gzCore_setGzCore (s : State) (core : Nat) (x : GzCore) (k : Nat) :
    (s.setGzCore core x).gzCore k = if k = core ∧ core < s.gz.cores.length then x else s.gzCore k := by
  have e : (s.setGzCore core x).gzCore k = (s.gz.cores.set core x).getD k gzIdleCore := rfl
  rw [e, List.getD_eq_getElem?_getD, List.getElem?_set]
  by_cases hk : core = k
  · subst hk
    by_cases hlt : core < s.gz.cores.length
    · simp [hlt]
    · simp [hlt, gzCore]
  · rw [if_neg hk, if_neg (by simp [Ne.symm hk]), gzCore, List.getD_eq_getElem?_getD]

/-- A core with a grain is one of the cores there are. -/
theorem lt_cores_of_grain {s : State} {core : Nat} {x : Nat × Nat} (h : (s.gzCore core).grain = some x) : core < s.gz.cores.length := by
  by_contra hge
  rw [gzCore, List.getD_eq_getElem?_getD, List.getElem?_eq_none (by omega)] at h
  cases h

theorem gzRegs_place (s : State) (core n : Nat) : (s.gzRegs core n).core = core ∧ (s.gzRegs core n).group = n := by
  rw [gzRegs]
  cases h : s.gz.regs.find? fun r => r.core == core && r.group == n with
  | none => exact ⟨rfl, rfl⟩
  | some r => simpa using List.find?_some h

theorem gzRegs_setGzRegs (s : State) (r : GzRegs) (k m : Nat) :
    (s.setGzRegs r).gzRegs k m = if k = r.core ∧ m = r.group then r else s.gzRegs k m := by
  have e : (s.setGzRegs r).gzRegs k m = ((s.gz.regs.filter (fun x => !(x.core == r.core && x.group == r.group)) ++ [r]).find?
      fun x => x.core == k && x.group == m).getD (s.gzStart k m) := rfl
  rw [e, List.find?_append, List.find?_filter]
  split
  · next h =>
    obtain ⟨rfl, rfl⟩ := h
    rw [List.find?_eq_none.2 fun x _ => by simp; tauto]
    simp
  · next h =>
    have hlast : [r].find? (fun x => x.core == k && x.group == m) = none := by
      rw [List.find?_singleton, if_neg]
      simpa using fun hk hm => h ⟨hk.symm, hm.symm⟩
    rw [hlast, Option.or_none, gzRegs]
    refine congrArg (fun p => (s.gz.regs.find? p).getD _) (funext fun x => ?_)
    by_cases hx : x.core = k ∧ x.group = m
    · obtain ⟨rfl, rfl⟩ := hx
      have hne : (x.core == r.core && x.group == r.group) = false := by simpa using h
      simp [hne]
    · have hx' : (x.core == k && x.group == m) = false := by simpa using hx
      rw [hx']
      simp

theorem setGz_frame (s : State) (x : GzState) : s.sameBut [.gz] { s with gz := x } :=
  fun f hf => by cases f <;> simp_all [agree]

/-- Registers rest on Glazia's state, the objects of the banks and the Cellar. -/
theorem gzRegs_of_frame {s t : State} (h : s.sameBut [.od, .meter, .freeCtr, .bell] t)
    (hod : ∀ j ∈ [K.bankBase, K.bankBytes, K.bankCount, K.gzStep], t.odv j = s.odv j) (k m : Nat) : t.gzRegs k m = s.gzRegs k m := by
  have hgz : t.gz = s.gz := h .gz (by decide)
  have hmem : t.mem .cellar = s.mem .cellar := h .cellar (by decide)
  have hstep : t.stepCounter m = s.stepCounter m := by
    simp only [stepCounter, gzSrc, bankAddr, rd, hmem, hod _ (List.mem_cons_self ..), hod K.bankBytes (by simp), hod K.bankCount (by simp),
      hod K.gzStep (by simp)]
  simp only [gzRegs, gzStart, gzGear, gzGroupAt, hgz, hstep]

/-- An error is recorded in three objects (R564). -/
theorem memRecord_odv (s : State) (k a : Nat) {j : Nat} (h : j ∉ [okey 0x0B300 1, okey 0x0B300 2, okey 0x0B300 3]) :
    (s.memRecord k a).odv j = s.odv j := by
  simp only [List.mem_cons, List.not_mem_nil, or_false, not_or] at h
  obtain ⟨h1, h2, h3⟩ := h
  rw [memRecord, raise_odv, odv_setOd_other _ _ h3, odv_setOd_other _ _ h2, odv_setOd_other _ _ h1]

theorem sramUe_odv (s : State) (unit : Nat) {j : Nat} (h : j ∉ [okey 0x0B300 1, okey 0x0B300 2, okey 0x0B300 3]) :
    (s.sramUe unit).odv j = s.odv j := memRecord_odv _ _ _ h

/-! ### The word a core runs -/

/-- What it says of a core that its next word is known: the core treats a grain, and there are vectors left. -/
theorem gzNext_grain {s : State} {core n gr : Nat} {g : GzGroup} {w : GzWord} (h : s.gzNext core = some (n, g, gr, w)) :
    (s.gzCore core).grain = some (n, gr) := by
  unfold gzNext at h
  dsimp only at h
  split at h
  · cases h
  · next n' gr' hgrain =>
    split at h
    · simp only [Option.some.injEq, Prod.mk.injEq] at h
      obtain ⟨rfl, -, rfl, -⟩ := h
      exact hgrain
    · cases h

theorem gzNext_lt {s : State} {core n gr : Nat} {g : GzGroup} {w : GzWord} (h : s.gzNext core = some (n, g, gr, w)) :
    core < s.gz.cores.length := lt_cores_of_grain (gzNext_grain h)

/-- The word rests on the core's grain and place, not on what it has read. -/
theorem gzNext_setGzCore {s : State} {core : Nat} {x : GzCore} (hlt : core < s.gz.cores.length) (hgrain : x.grain = (s.gzCore core).grain)
    (hvec : x.vec = (s.gzCore core).vec) (hpc : x.pc = (s.gzCore core).pc) : (s.setGzCore core x).gzNext core = s.gzNext core := by
  have hx : (s.setGzCore core x).gzCore core = x := by rw [gzCore_setGzCore, if_pos ⟨rfl, hlt⟩]
  simp only [gzNext, hx, hgrain, hvec, hpc]
  rfl

theorem gzLoaded_place (s : State) (core n : Nat) (g : GzGroup) (gr : Nat) : (s.gzLoaded core n g gr).grain = (s.gzCore core).grain ∧
    (s.gzLoaded core n g gr).vec = (s.gzCore core).vec ∧ (s.gzLoaded core n g gr).pc = (s.gzCore core).pc := by
  unfold gzLoaded
  dsimp only
  split <;> exact ⟨rfl, rfl, rfl⟩

/-! ### What a word leaves -/

/-- In t core `core` is c, its registers of group n are r, no other core or register has changed, and nothing outside the parts fs. -/
structure Moved (s : State) (fs : List Fld) (core n : Nat) (c : GzCore) (r : GzRegs) (t : State) : Prop where
  self : t.gzCore core = c
  regs : t.gzRegs core n = r
  cores : ∀ k, k ≠ core → t.gzCore k = s.gzCore k
  others : ∀ k m, k ≠ core ∨ m ≠ n → t.gzRegs k m = s.gzRegs k m
  frame : s.sameBut fs t

theorem setGzCore_moved {s : State} {core : Nat} (hlt : core < s.gz.cores.length) (n : Nat) (c : GzCore) :
    s.Moved [.gz] core n c (s.gzRegs core n) (s.setGzCore core c) where
  self := by rw [gzCore_setGzCore, if_pos ⟨rfl, hlt⟩]
  regs := rfl
  cores k hk := by rw [gzCore_setGzCore, if_neg fun e => hk e.1]
  others _ _ _ := rfl
  frame := setGz_frame s _

theorem setGzRegs_moved (s : State) {core n : Nat} {r : GzRegs} (hcore : r.core = core) (hgroup : r.group = n) :
    s.Moved [.gz] core n (s.gzCore core) r (s.setGzRegs r) where
  self := rfl
  regs := by rw [gzRegs_setGzRegs, if_pos ⟨hcore.symm, hgroup.symm⟩]
  cores _ _ := rfl
  others k m h := by
    rw [gzRegs_setGzRegs, if_neg]
    rintro ⟨rfl, rfl⟩
    exact h.elim (absurd hcore) (absurd hgroup)
  frame := setGz_frame s _

theorem Moved.trans {s t u : State} {fs : List Fld} {core n : Nat} {c c' : GzCore} {r r' : GzRegs} (h : s.Moved fs core n c r t)
    (g : t.Moved fs core n c' r' u) : s.Moved fs core n c' r' u where
  self := g.self
  regs := g.regs
  cores k hk := (g.cores k hk).trans (h.cores k hk)
  others k m hkm := (g.others k m hkm).trans (h.others k m hkm)
  frame f hf := agree_trans (h.frame f hf) (g.frame f hf)

/-- What changes neither Glazia nor what registers rest on adds its own parts to a move. -/
theorem Moved.andThen {s t u : State} {fs gs : List Fld} {core n : Nat} {c : GzCore} {r : GzRegs} (h : s.Moved fs core n c r t)
    (hframe : t.sameBut gs u) (hgz : Fld.gz ∉ gs) (hregs : ∀ k m, u.gzRegs k m = t.gzRegs k m) : s.Moved (fs ++ gs) core n c r u :=
  have hcores : ∀ k, u.gzCore k = t.gzCore k := fun k => by rw [gzCore, gzCore, show u.gz = t.gz from hframe .gz hgz]
  { self := (hcores core).trans h.self
    regs := (hregs core n).trans h.regs
    cores := fun k hk => (hcores k).trans (h.cores k hk)
    others := fun k m hkm => (hregs k m).trans (h.others k m hkm)
    frame := fun f hf => agree_trans (h.frame f fun hg => hf (List.mem_append_left _ hg)) (hframe f fun hg => hf (List.mem_append_right _ hg)) }

theorem Moved.scalars {s t : State} {fs : List Fld} {core n d : Nat} {c : GzCore} {r : GzRegs} {v : Nat → GzIn → F32 × Bool} {xs : List GzIn}
    (m : s.Moved fs core n c (r.withLanes d v xs) t) (k : Nat) : (t.gzRegs core n).s k = r.s k := by
  rw [m.regs]
  rfl

theorem Moved.lanes {s t : State} {fs : List Fld} {core n d : Nat} {c : GzCore} {r : GzRegs} {v : Nat → GzIn → F32 × Bool} {xs : List GzIn}
    (m : s.Moved fs core n c (r.withLanes d v (xs.take 64)) t) (k i : Nat) (hi : i < 64) : (t.gzRegs core n).v k i =
      if k = d then (match (xs.take 64)[i]? with | some x => v i x | none => r.v k i) else r.v k i := by
  rw [m.regs]
  exact r.v_withLanes d v (List.length_take_le ..) k hi

/-- Registers written and the core past its word. -/
def ranWord (s : State) (core : Nat) (c : GzCore) (r : GzRegs) : State := (s.setGzRegs r).setGzCore core c.advanced

theorem ranWord_moved {s : State} {core n : Nat} {c : GzCore} {r : GzRegs} (hlt : core < s.gz.cores.length) (hcore : r.core = core)
    (hgroup : r.group = n) : s.Moved [.gz] core n c.advanced r (s.ranWord core c r) := by
  have h := (s.setGzRegs_moved hcore hgroup).trans (setGzCore_moved (s := s.setGzRegs r) hlt n c.advanced)
  rwa [(s.setGzRegs_moved hcore hgroup).regs] at h

/-! ### The words -/

section

variable {s : State} {core n gr : Nat} {g : GzGroup} {w : GzWord}

/-- The value of an arithmetic word's lane i, for the element x there (R346). -/
def aluLane (s : State) (g : GzGroup) (r : GzRegs) (w : GzWord) (i : Nat) (x : GzIn) : F32 × Bool :=
  let a := r.operand w.a i w.aS
  let b := if gzArity w.op < 2 then ((0 : F32), false) else r.operand w.b i w.bS
  let c := if gzArity w.op < 3 then ((0 : F32), false) else r.operand w.c i w.cS
  let k := srWord (capIn s.gz.latched K.srSeed) 3 0 g.tensorId (s.odv K.gzStep) (g.globalBase + x.elem)
  (gzAlu w.op k a.1 b.1 c.1, a.2 || b.2 || c.2)

theorem gzExec_ld (h : s.gzNext core = some (n, g, gr, w)) (hop : w.op = 0x10) : s.gzExec core 0x10 =
    let c := s.gzLoaded core n g gr
    s.ranWord core c ((s.gzRegs core n).withLanes w.d (fun _ x => s.gzStream g w.a x) (c.inputs.take 64)) := by
  simp only [gzExec, h, hop]
  rfl

theorem gzExec_st (h : s.gzNext core = some (n, g, gr, w)) (hop : w.op = 0x11) : s.gzExec core 0x11 =
    let c := s.gzLoaded core n g gr
    s.setGzCore core { c with
      pc := c.pc + 1
      staged := c.staged.filter (fun x => x.1 != w.a) ++ [(w.a, (List.range (c.inputs.take 64).length).map fun i =>
        (((s.gzRegs core n).operand w.b i w.bS).1.toNat, ((s.gzRegs core n).operand w.b i w.bS).2))] } := by
  simp only [gzExec, h, hop]
  rfl

theorem gzExec_spowi (h : s.gzNext core = some (n, g, gr, w)) (hop : w.op = 0x20) : s.gzExec core 0x20 =
    let r := s.gzRegs core n
    s.ranWord core (s.gzLoaded core n g gr) (r.withScalar w.d (spowi (r.s w.a) (r.s 16))) := by
  simp only [gzExec, h, hop]
  rfl

/-- A word that is none of LD, ST and SPOWI is arithmetic: on scalars alone, or lane by lane. -/
theorem gzExec_arithmetic (h : s.gzNext core = some (n, g, gr, w)) (hop : w.op ∉ [0x10, 0x11, 0x20]) :
    (w.isScalar = true → s.gzExec core w.op = s.ranWord core (s.gzLoaded core n g gr) ((s.gzRegs core n).withScalar w.d
      (gzAlu w.op 0 ((s.gzRegs core n).s w.a) ((s.gzRegs core n).s w.b) ((s.gzRegs core n).s w.c)))) ∧
    (w.isScalar = false → s.gzExec core w.op = s.ranWord core (s.gzLoaded core n g gr)
      ((s.gzRegs core n).withLanes w.d (s.aluLane g (s.gzRegs core n) w) ((s.gzLoaded core n g gr).inputs.take 64))) := by
  simp only [List.mem_cons, List.not_mem_nil, or_false, not_or] at hop
  obtain ⟨hld, hst, hspowi⟩ := hop
  simp only [gzExec, h, bne_self_eq_false, Bool.false_eq_true, if_false, beq_iff_eq, hld, hst, hspowi]
  exact ⟨fun hs => by rw [if_pos hs]; rfl, fun hs => by rw [if_neg (by simp [hs])]; rfl⟩

theorem gzBody_eq (h : s.gzNext core = some (n, g, gr, w)) (hop : w.op = 0x1E) :
    s.gzBody core = s.ranWord core (s.gzCore core) (s.gzRegs core n) := by
  simp only [gzBody, h, hop]
  rfl

theorem gzAlu_abs (k : Nat) (a b c : F32) :
    gzAlu 0x08 k a b c = if (f32val a).isNaN then f32rnd (f32val a) else BitVec.ofNat 32 (a.toNat % 2 ^ 31) := by
  have e : gzAlu 0x08 k a b c = if (f32val a).isNaN then quietF a else BitVec.ofNat 32 (a.toNat % 2 ^ 31) := rfl
  rw [e]
  split
  · next hnan => rw [quietF, if_pos hnan]
  · rfl

/-- The core's move by a word that writes registers (R345, R346). -/
theorem ranWord_next (h : s.gzNext core = some (n, g, gr, w)) (c : GzCore) {r : GzRegs} (hcore : r.core = (s.gzRegs core n).core)
    (hgroup : r.group = (s.gzRegs core n).group) : s.Moved [.gz] core n c.advanced r (s.ranWord core c r) :=
  ranWord_moved (gzNext_lt h) (hcore.trans (s.gzRegs_place core n).1) (hgroup.trans (s.gzRegs_place core n).2)

/-! ### LD (R346, R364, R377) -/

/-- The core once LD has read stream `a` into lane register `d`, the vector's inputs being those of c. -/
def LoadedLanes (s : State) (core n : Nat) (g : GzGroup) (w : GzWord) (fs : List Fld) (c : GzCore) (t : State) : Prop :=
  s.Moved fs core n c.advanced ((s.gzRegs core n).withLanes w.d (fun _ x => s.gzStream g w.a x) (c.inputs.take 64)) t

theorem gzExec_ld_loaded (h : s.gzNext core = some (n, g, gr, w)) (hop : w.op = 0x10) :
    s.LoadedLanes core n g w [.gz] (s.gzLoaded core n g gr) (s.gzExec core 0x10) := by
  rw [gzExec_ld h hop]
  exact ranWord_next h _ rfl rfl

theorem gzLd_clean (h : s.gzNext core = some (n, g, gr, w)) (hop : w.op = 0x10) {ecc : Nat} (h1 : ecc ≠ 1) (h2 : ecc ≠ 2) (sec : Nat) :
    s.gzLd core ecc sec = s.gzExec core 0x10 := by
  simp only [gzLd, h, hop, bne_self_eq_false, Bool.false_eq_true, if_false, beq_iff_eq, h1, h2]

theorem gzLd_corrected (h : s.gzNext core = some (n, g, gr, w)) (hop : w.op = 0x10) (sec : Nat) :
    s.gzLd core 1 sec = (s.gzExec core 0x10).count Ctr.gzMemCe 1 := by
  simp [gzLd, h, hop]

theorem gzLd_lost (h : s.gzNext core = some (n, g, gr, w)) (hop : w.op = 0x10) (sec : Nat) : s.gzLd core 2 sec =
    let c := s.gzLoaded core n g gr
    ((s.setGzCore core { c with inputs := gzLose w.a sec c.inputs }).gzExec core 0x10).sramUe Ctr.gzMemUe := by
  simp [gzLd, h, hop]

theorem isEmpty_gzLose (a sec : Nat) (xs : List GzIn) : (gzLose a sec xs).isEmpty = xs.isEmpty := by
  cases xs <;> simp [gzLose, List.range_succ_eq_map]

/-- Inputs that the core has read, or may not read yet, stay as an error left them. -/
theorem gzLoaded_lost (h : s.gzNext core = some (n, g, gr, w)) (sec : Nat)
    (hread : (s.gzLoaded core n g gr).inputs ≠ [] ∨ s.gzInBody (s.gzCore core) g = false) :
    let c := s.gzLoaded core n g gr
    let lost := { c with inputs := gzLose w.a sec c.inputs }
    (s.setGzCore core lost).gzLoaded core n g gr = lost := by
  intro c lost
  have hself : (s.setGzCore core lost).gzCore core = lost := (setGzCore_moved (gzNext_lt h) n lost).self
  have hbody : (s.setGzCore core lost).gzInBody lost g = s.gzInBody (s.gzCore core) g := by
    rw [gzInBody, show lost.pc = _ from (s.gzLoaded_place core n g gr).2.2]
    rfl
  have hstay : (lost.inputs.isEmpty && (s.setGzCore core lost).gzInBody lost g) = false := by
    rw [hbody, isEmpty_gzLose]
    rcases hread with hne | hout
    · rw [List.isEmpty_eq_false_iff.2 hne, Bool.false_and]
    · rw [hout, Bool.and_false]
  rw [gzLoaded, hself]
  simp only [hstay, Bool.false_eq_true, if_false]

/-- LD of stream data that an uncorrectable error met: a sector's lanes are poisoned (R377). -/
theorem gzLd_lost_loaded (h : s.gzNext core = some (n, g, gr, w)) (hop : w.op = 0x10) (sec : Nat)
    (hread : (s.gzLoaded core n g gr).inputs ≠ [] ∨ s.gzInBody (s.gzCore core) g = false) :
    let c := s.gzLoaded core n g gr
    s.LoadedLanes core n g w [.gz, .od, .meter, .freeCtr, .bell] { c with inputs := gzLose w.a sec c.inputs } (s.gzLd core 2 sec) := by
  intro c
  rw [gzLd_lost h hop]
  let u := s.setGzCore core { c with inputs := gzLose w.a sec c.inputs }
  have hset : s.Moved [.gz] core n { c with inputs := gzLose w.a sec c.inputs } (s.gzRegs core n) u := setGzCore_moved (gzNext_lt h) n _
  obtain ⟨hgrain, hvec, hpc⟩ := s.gzLoaded_place core n g gr
  have hnext : u.gzNext core = some (n, g, gr, w) := (gzNext_setGzCore (x := { c with inputs := gzLose w.a sec c.inputs }) (gzNext_lt h) hgrain hvec hpc).trans h
  have hexec := gzExec_ld_loaded hnext hop
  rw [LoadedLanes, gzLoaded_lost h sec hread] at hexec
  have hue := (u.gzExec core 0x10).sramUe_evolves Ctr.gzMemUe |>.frame
  exact (hset.trans hexec).andThen (gs := [.od, .meter, .freeCtr, .bell]) (hue.mono rfl) (by decide) fun k m =>
    gzRegs_of_frame (hue.mono rfl) (fun j hj => sramUe_odv _ _ (by revert j; decide)) k m

end

end State

end Sys2Proof.Machine

namespace Sys2Proof.Proofs

open Sys2Proof Sys2Proof.Machine

/-- Settles O27, word by word: each comes down to a write of registers and a core that has moved on (State.ranWord_next), or for ST
to the core alone; LD's error to inputs that it changes first (State.gzLd_lost_loaded). -/
theorem glaziaWordsCompute : Obligations.GlaziaWordsCompute := by
  intro s core n gr g w h c r xs others next one two words lanesOf lanes
  have hnext : ∀ {r' t}, s.Moved [.gz] core n c.advanced r' t → next t := fun m => ⟨m.self, m.frame, m.cores, m.others⟩
  have word : ∀ (cmd : Instr) (op : Nat) (f : F32 → F32 → F32 → Nat → F32), exec cmd s = .next (s.gzExec core op) →
      (∀ a b c k, gzAlu op k a b c = f a b c k) → op ∉ [0x10, 0x11, 0x20] → w.op = op →
      (w.isScalar = true → Completes cmd s fun t => next t ∧ (t.gzRegs core n).lanes = r.lanes ∧
        ∀ k, (t.gzRegs core n).s k = if k = w.d then f (r.s w.a) (r.s w.b) (r.s w.c) 0 else r.s k) ∧
      (w.isScalar = false → Completes cmd s fun t => next t ∧ lanes (fun i x' =>
        let a := r.operand w.a i w.aS
        let b := if gzArity w.op < 2 then ((0 : F32), false) else r.operand w.b i w.bS
        let d := if gzArity w.op < 3 then ((0 : F32), false) else r.operand w.c i w.cS
        let k := srWord (capIn s.gz.latched K.srSeed) 3 0 g.tensorId (s.odv K.gzStep) (g.globalBase + x'.elem)
        (f a.1 b.1 d.1 k, a.2 || b.2 || d.2)) t) := by
    rintro cmd op f hexec hf hop rfl
    obtain rfl : (fun a b c k => gzAlu w.op k a b c) = f := by funext a b c k; exact hf a b c k
    obtain ⟨hscalar, hvector⟩ := State.gzExec_arithmetic h hop
    refine ⟨fun hs => ⟨_, hexec.trans (congrArg _ (hscalar hs)), ?scalar⟩, fun hs => ⟨_, hexec.trans (congrArg _ (hvector hs)), ?vector⟩⟩
    case scalar =>
      have m := State.ranWord_next h c (r := r.withScalar w.d (gzAlu w.op 0 (r.s w.a) (r.s w.b) (r.s w.c))) rfl rfl
      exact ⟨hnext m, by rw [m.regs]; rfl, fun k => by rw [m.regs]; exact r.s_withScalar ..⟩
    case vector =>
      have m := State.ranWord_next h c (r := r.withLanes w.d (s.aluLane g r w) xs) rfl rfl
      exact ⟨hnext m, ⟨m.scalars, m.lanes⟩⟩
  refine ⟨?words, fun ecc sec hop => ⟨fun h1 h2 => ⟨_, rfl, ?clean⟩, fun h1 => ⟨_, rfl, ?corrected⟩, fun h2 hread => ⟨_, rfl, ?lost⟩⟩,
    fun hop => ⟨_, rfl, ?st⟩, fun hop => ⟨_, rfl, ?spowi⟩, fun hop => ⟨_, rfl, ?body⟩⟩
  case words =>
    simp only [words, List.forall_mem_cons, List.not_mem_nil, false_implies, implies_true, and_true]
    exact ⟨word _ _ _ rfl (fun _ _ _ _ => rfl) (by decide),
      word _ _ _ rfl (fun _ _ _ _ => rfl) (by decide),
      word _ _ _ rfl (fun _ _ _ _ => rfl) (by decide),
      word _ _ _ rfl (fun _ _ _ _ => rfl) (by decide),
      word _ _ _ rfl (fun _ _ _ _ => rfl) (by decide),
      word _ _ _ rfl (fun _ _ _ _ => rfl) (by decide),
      word _ _ _ rfl (fun _ _ _ _ => rfl) (by decide),
      word _ _ _ rfl (fun a b c k => State.gzAlu_abs k a b c) (by decide),
      word _ _ _ rfl (fun _ _ _ _ => rfl) (by decide),
      word _ _ _ rfl (fun _ _ _ _ => rfl) (by decide),
      word _ _ _ rfl (fun _ _ _ _ => rfl) (by decide),
      word _ _ _ rfl (fun _ _ _ _ => rfl) (by decide),
      word _ _ _ rfl (fun _ _ _ _ => rfl) (by decide)⟩
  case clean =>
    have m := State.gzExec_ld_loaded h hop
    rw [← State.gzLd_clean h hop h1 h2 sec] at m
    exact ⟨hnext m, ⟨m.scalars, m.lanes⟩⟩
  case corrected =>
    subst h1
    have m := State.gzExec_ld_loaded h hop
    have hcount := (State.count_evolves (s.gzExec core 0x10) Ctr.gzMemCe 1).frame
    have m' := m.andThen (gs := [.meter]) hcount (by decide) fun _ _ => rfl
    rw [← State.gzLd_corrected h hop sec] at m'
    refine ⟨m'.self, ⟨m'.cores, m'.others⟩, ⟨m'.scalars, m'.lanes⟩, ?_, m'.frame⟩
    rw [State.gzLd_corrected h hop]
    exact (State.counted_one _ _ _).congr (m.frame .meter (by decide)).symm rfl
  case lost =>
    subst h2
    have m := State.gzLd_lost_loaded h hop sec hread
    refine ⟨m.self, ⟨m.cores, m.others⟩, ⟨m.scalars, m.lanes⟩, ?_, ?_, m.frame.mono rfl⟩
    · rw [State.gzLd_lost h hop, State.sramUe_ctr, State.ctr_count, if_pos rfl]
      exact congrArg (fun x => (aget 0 x Ctr.gzMemUe + 1) % 2 ^ 64) ((State.gzExec_evolves ..).frame .meter (by decide))
    · rw [State.gzLd_lost h hop]
      exact State.memRecord_level ..
  case st =>
    rw [State.gzExec_st h hop]
    have m := State.setGzCore_moved (State.gzNext_lt h) n
    exact ⟨(m _).frame, (m _).regs, (m _).self⟩
  case spowi =>
    have m := State.ranWord_next h c (r := r.withScalar w.d (spowi (r.s w.a) (r.s 16))) rfl rfl
    rw [State.gzExec_spowi h hop]
    exact ⟨hnext m, by rw [m.regs]; rfl, fun k => by rw [m.regs]; exact r.s_withScalar ..⟩
  case body =>
    have m := State.ranWord_next h (s.gzCore core) (r := r) rfl rfl
    rw [State.gzBody_eq h hop]
    exact ⟨m.self, m.frame, ⟨m.cores, m.others⟩, m.regs⟩

end Sys2Proof.Proofs

/-! SUPPORT. GLAZIA_RULE_LOAD (R348): the rule store and the rules present after an image is installed. -/

namespace Sys2Proof.Machine

/-- A table written at 0 to n − 1. -/
theorem aget_foldl_aset_range (f : Nat → Nat) (n i : Nat) :
    aget 0 ((List.range n).foldl (fun m i => aset 0 m i (f i)) []) i = if i < n then f i else 0 := by
  induction n with
  | zero => rfl
  | succ n ih =>
    rw [List.range_succ, List.foldl_append, List.foldl_cons, List.foldl_nil, aget_aset, ih]
    by_cases h : i = n
    · subst h; simp
    · rw [if_neg h]
      exact if_congr (by omega) rfl rfl

/-- A number made of one bit for each r below n that p names. -/
theorem bit_foldl_two_pow (p : Nat → Bool) (n b : Nat) :
    bit ((List.range n).foldl (fun v r => if p r then v + 2 ^ r else v) 0) b = (decide (b < n) && p b) := by
  induction n generalizing b with
  | zero => simp [bit]
  | succ n ih =>
    rw [List.range_succ, List.foldl_append, List.foldl_cons, List.foldl_nil]
    have hlt : b ≠ n → decide (b < n + 1) = decide (b < n) := fun h => decide_eq_decide.2 (by omega)
    by_cases hb : b = n
    · subst hb
      cases hp : p b with
      | true => simp [State.bit_add_two_pow (c := b) (by rw [ih]; simp)]
      | false => simp [ih, hp]
    · rw [hlt hb, ← ih]
      cases hp : p n with
      | true => simp [State.bit_add_two_pow (c := n) (by rw [ih]; simp), hb]
      | false => rfl

namespace State

theorem gzInstall_word (s : State) (img : List Byte) {i : Nat} (hi : i < 16384) : (s.gzInstall img).gzWord i = imageWord img i := by
  simp only [gzInstall, gzWord, setOd_gz, aget_foldl_aset_range, if_pos hi]

theorem gzInstall_present (s : State) (img : List Byte) {r : Nat} (hr : r < 16) :
    bit ((s.gzInstall img).odv K.gzPresent) r = decide ((gzRule (imageWord img) r).len ≠ 0) := by
  rw [gzInstall, odv_setOd_self, bit_foldl_two_pow (fun r => (gzRule (imageWord img) r).len != 0), decide_eq_true hr, Bool.true_and]
  by_cases h : (gzRule (imageWord img) r).len = 0 <;> simp [h]

theorem gzInstall_od (s : State) (img : List Byte) : s.odSame [K.gzPresent] (s.gzInstall img) := by
  intro k hk
  unfold gzInstall
  generalize List.range 16384 = l
  exact odv_setOd_other _ _ (by simpa using hk)

theorem gzInstall_frame (s : State) (img : List Byte) : s.sameBut [.od, .gz] (s.gzInstall img) := (s.gzInstall_evolves img).frame

/-- GLAZIA_RULE_LOAD's content is the staged image's rules. -/
theorem contentAbort_ruleLoad (s : State) (v : Nat) :
    s.contentAbort 0x06021 v = if gzImageBad (s.domain K.gzImage) then Abort.imageInvalid else 0 := by
  cases h : gzImageBad (s.domain K.gzImage) <;> simp [contentAbort, firstAbort, firstErr, h]

theorem ruleLoad_object : ∃ x, objInfo 0x06021 0 = some x ∧ (x.acc == .rws) = false := by decide +kernel

theorem ruleLoad_plain : isRws 0x06021 0 = false ∧ calValue 0x06021 0 = false := by decide +kernel

theorem ruleLoad_key : okey 0x06021 0 ≠ K.clkEnable ∧ okey 0x06021 0 ≠ K.recipeTail := by decide

/-- An image without a faulty rule is installed. -/
theorem glaziaRuleLoad_sound {s : State} {w : Way} {data : List Byte} (h : s.WriteToContent w 0x06021 0 data)
    (hv : gzImageBad (s.domain K.gzImage) = false) :
    (s.onWay w fun t => t.odWriteObj w 0x06021 0 data) = (s.gzInstall (s.domain K.gzImage)).respond w [] 0 [] := by
  obtain ⟨x, hx, hacc⟩ := ruleLoad_object
  have hok : s.WriteOk w 0x06021 0 data := h.writeOk hx ruleLoad_plain.1 ruleLoad_plain.2 (by rw [contentAbort_ruleLoad, hv]; rfl)
  obtain ⟨henable, htail⟩ := ruleLoad_key
  rw [write_effect hok (by decide)]
  unfold odEffect
  rw [demand_ok hok]
  simp [hx, hacc, henable, htail]

/-- An image with a faulty rule is refused. -/
theorem glaziaRuleLoad_faulty {s : State} {w : Way} {data : List Byte} (h : s.WriteToContent w 0x06021 0 data)
    (hv : gzImageBad (s.domain K.gzImage) = true) :
    (s.onWay w fun t => t.odWriteObj w 0x06021 0 data) = s.respond w [] Abort.imageInvalid [] := by
  obtain ⟨x, hx, -⟩ := ruleLoad_object
  have ha : s.writeValue 0x06021 0 (ofBytes data) = Abort.imageInvalid := by rw [h.writeValue hx, contentAbort_ruleLoad, hv]; rfl
  rw [h.odWriteObj ruleLoad_plain.1 ruleLoad_plain.2, odCommit, ha]
  rfl

end State

end Sys2Proof.Machine

/-! SUPPORT. What the records of finished letters keep, whatever else waits (R189, R211, R222, R361). -/

namespace Sys2Proof.Machine

namespace State

/-- Units that a record counts in. -/
def recordUnits : List Nat := [Ctr.lbErrors, Ctr.lbCtxMiss, Ctr.hostWriteDrops, Ctr.kvFrees, Ctr.kvDeferred, Ctr.bankAdvances]

/-- A step of the records of finished letters: the operations that run are as they were, and so are Glazia, but for a CLOSE that
waits for its record, and the units that no record counts in. -/
structure RecordStep (s t : State) : Prop where
  ops : t.lb.ops = s.lb.ops
  gz : ∃ c, t.gz = { s.gz with closing := c }
  units : s.ctrSame recordUnits t

theorem RecordStep.refl (s : State) : s.RecordStep s := ⟨rfl, ⟨_, rfl⟩, .refl _ s⟩

theorem RecordStep.trans {s t u : State} (h : s.RecordStep t) (g : t.RecordStep u) : s.RecordStep u where
  ops := g.ops.trans h.ops
  gz := by
    obtain ⟨⟨c, hc⟩, ⟨d, hd⟩⟩ := h.gz, g.gz
    exact ⟨d, by rw [hd, hc]⟩
  units := h.units.trans g.units

/-- A step that leaves Glazia alone. -/
theorem RecordStep.of_frame {s t : State} {fs : List Fld} (h : s.sameBut fs t) (hgz : Fld.gz ∉ fs) (hops : t.lb.ops = s.lb.ops)
    (hunits : s.ctrSame recordUnits t) : s.RecordStep t := ⟨hops, ⟨s.gz.closing, h .gz hgz⟩, hunits⟩

/-- A step outside the Letterbox and Glazia. -/
theorem RecordStep.of_outside {s t : State} {fs : List Fld} (h : s.sameBut fs t) (hgz : Fld.gz ∉ fs) (hlb : Fld.lb ∉ fs)
    (hunits : s.ctrSame recordUnits t) : s.RecordStep t := .of_frame h hgz (congrArg LbState.ops (h .lb hlb)) hunits

/-- A step in the Letterbox alone. -/
theorem RecordStep.of_lb {s t : State} (h : s.sameBut [.lb] t) (hops : t.lb.ops = s.lb.ops) : s.RecordStep t :=
  .of_frame h (by decide) hops (.of_meter (h .meter (by decide)))

theorem count_recordStep (s : State) {u : Nat} (h : u ∈ recordUnits) (n : Nat) : s.RecordStep (s.count u n) :=
  .of_outside (count_evolves s u n).frame (by decide) (by decide) ((ctrSame_count s u n).mono (by simpa using h))

theorem retouch_recordStep (s : State) (c : QCtx) : s.RecordStep (s.retouch c) := by
  obtain ⟨hf, -, hcount⟩ := (s.setQueue c).touchCtx_spec c.q
  have hset : s.sameBut [.lb] (s.setQueue c) := (setQueue_evolves s c).frame
  exact .of_frame ((hset.mono (fs := [.attic, .meter, .lb]) rfl).step hf rfl) (by decide) (s.retouch_lb c).1
    ((ctrSame.of_meter (hset .meter (by decide))).trans ((counted_misses_ctrSame hcount).mono (by decide)))

theorem recorded_recordStep (s : State) (c : QCtx) (f : FinRec) : s.RecordStep (s.recorded c f) := by
  obtain ⟨hstore, hstoreUnits⟩ := s.storeRecord_frame c f
  have hcount : ∀ u : State, u.RecordStep (if f.error != 0 then u.count Ctr.lbErrors 1 else u) := fun u => by
    split <;> [exact count_recordStep u (by decide) 1; exact .refl u]
  have hraise : ∀ u : State, u.RecordStep (if f.notify then u.raise c.notifySrc else u) := fun u => by
    split <;> [exact .of_outside (raise_evolves u _).frame (by decide) (by decide) (.of_meter (raise_meter ..)); exact .refl u]
  exact ((((RecordStep.of_outside hstore (by decide) (by decide) (hstoreUnits.mono (by decide))).trans (hcount _)).trans
    (retouch_recordStep _ _)).trans (hraise _)).trans (.of_lb (setLb_sameBut _ _) rfl)

theorem closeAdvance_recordStep (s : State) (f : FinRec) : s.RecordStep (s.closeAdvance f) := by
  have hadvance : ∀ (t : State) (b : Nat), (t.advanceBank b).lb = t.lb ∧ (t.advanceBank b).gz = t.gz := fun t b =>
    ⟨(advanceBank_evolves t b).frame .lb (by decide), (advanceBank_evolves t b).frame .gz (by decide)⟩
  refine ⟨?ops, ?gz, (closeAdvance_ctrSame s f).mono (by decide)⟩
  case ops =>
    unfold closeAdvance
    split
    · rfl
    · split
      · rw [(hadvance _ _).1]
      · rfl
  case gz =>
    unfold closeAdvance
    split
    · exact ⟨_, rfl⟩
    · split
      · exact ⟨none, (hadvance _ _).2⟩
      · exact ⟨_, rfl⟩

theorem unpinAll_recordStep (s : State) (pins : List (Nat × Nat)) : s.RecordStep (s.unpinAll pins) := by
  have h1 := (unpinAll_evolves s pins).frame
  have h2 := (unpinAll_ctrSame s pins).mono (us := recordUnits) (by decide)
  exact .of_outside h1 (by decide) (by decide) h2

theorem writeRecord_recordStep (s : State) (c : QCtx) (f : FinRec) : s.RecordStep (s.writeRecord c f) := by
  have h := ((recorded_recordStep s c f).trans (unpinAll_recordStep _ f.pins)).trans (closeAdvance_recordStep _ f)
  rwa [← writeRecord_eq] at h

theorem setQueue_recordStep (s : State) (c : QCtx) : s.RecordStep (s.setQueue c) := .of_lb (setQueue_evolves s c).frame rfl

/-- A DISABLE that waited completes: the context is written back and leaves the Letterbox (R211). -/
theorem disabled_recordStep (s : State) (c : QCtx) (q : Nat) : s.RecordStep ((s.writeBack c 0).evict q) := by
  have hback := writeBack_frame s c 0
  have hevict : ∀ t : State, t.RecordStep (t.evict q) := fun t => .of_lb (evict_evolves t q).frame rfl
  exact (RecordStep.of_outside hback (by decide) (by decide) (.of_meter (hback .meter (by decide)))).trans (hevict _)

theorem afterRecord_recordStep (s : State) (q : Nat) : s.RecordStep (s.afterRecord q) := by
  unfold afterRecord
  extract_lets u
  have hu : s.RecordStep u := by
    unfold u
    split
    · exact .refl s
    · split <;> [exact setQueue_recordStep s _; exact .refl s]
  clear_value u
  refine hu.trans ?_
  split
  · exact .refl u
  · split <;> [exact disabled_recordStep u _ q; exact .refl u]

theorem drain_recordStep (s : State) (q n : Nat) : s.RecordStep (s.drain q n) := by
  induction n generalizing s with
  | zero => exact .refl s
  | succ n ih =>
    unfold drain
    split
    · exact .refl s
    · next c f _ => exact ((writeRecord_recordStep s c f).trans (afterRecord_recordStep _ q)).trans (ih _)

theorem finish_settle_recordStep (s : State) (f : FinRec) : s.RecordStep (s.finish f).settle :=
  ((RecordStep.of_lb (t := s.inLine f) (setLb_sameBut s _) rfl).trans (drain_recordStep (s.inLine f) _ _)).trans (.of_lb (settle_frame _) rfl)

end State

end Sys2Proof.Machine

/-! SUPPORT. The end of a grain (R359, R367, R374, R377): its coverage, the amax of its group, the next grains and the end of the PIECE. -/

namespace Sys2Proof.Machine

namespace State

/-! ### The running amax (R367) -/

/-- Of Glazia nothing but the running amax of its groups has changed. -/
def AmaxStep (s t : State) : Prop := ∃ a, t.gz = { s.gz with amax := a }

theorem AmaxStep.refl (s : State) : s.AmaxStep s := ⟨_, rfl⟩

theorem AmaxStep.trans {s t u : State} (h : s.AmaxStep t) (g : t.AmaxStep u) : s.AmaxStep u := by
  obtain ⟨⟨a, ha⟩, ⟨b, hb⟩⟩ := h, g
  exact ⟨b, by rw [hb, ha]⟩

theorem AmaxStep.of_gz {s t : State} (h : t.gz = s.gz) : s.AmaxStep t := ⟨_, h⟩

theorem gzAmax_amaxStep (s : State) (n : Nat) (w : F32) (poison : Bool) : s.AmaxStep (s.gzAmax n w poison) := by
  unfold gzAmax
  dsimp only
  split
  · exact .refl s
  · exact ⟨_, rfl⟩

theorem gzWriteAll_gz (s : State) (g : GzGroup) (e : Nat) (rows : List (List (Nat × Bool))) : (s.gzWriteAll g e rows).gz = s.gz :=
  (gzWriteAll_evolves s g e rows).frame .gz (by decide)

theorem gzWriteAll_ctrSame (s : State) (g : GzGroup) (e : Nat) (rows : List (List (Nat × Bool))) :
    s.ctrSame closeUnits (s.gzWriteAll g e rows) := .foldl (fun t _ => gzWrite_ctrSame t _ _ _) _ s

theorem gzCopyGrain_amaxStep (s : State) (n grain : Nat) : s.AmaxStep (s.gzCopyGrain n grain) := by
  unfold gzCopyGrain
  extract_lets g es rows t
  have ht : s.AmaxStep t := .of_gz (gzWriteAll_gz ..)
  refine ht.trans (foldl_rel (R := AmaxStep) .refl (fun _ _ _ => .trans) (fun u r => ?_) rows t)
  split
  · exact gzAmax_amaxStep u n _ _
  · exact .refl u

/-! ### Errors met with a grain (R377) -/

/-- Units that count the memory errors of Glazia. -/
def gzErrorUnits : List Nat := [Ctr.gzMemCe, Ctr.gzMemUe]

/-- What a memory error met with a grain of group n leaves. -/
structure GrainError (s : State) (mem n : Nat) (t : State) : Prop where
  gz : ∃ lost bad, t.gz = { s.gz with lostEntries := lost, badGroups := bad } ∧ (mem = 3 → n ∈ bad)
  units : s.ctrSame gzErrorUnits t
  corrected : mem = 1 → t.ctr Ctr.gzMemCe = (s.ctr Ctr.gzMemCe + 1) % 2 ^ 64
  frame : s.sameBut [.od, .meter, .freeCtr, .gz, .bell] t

theorem gzUe_grainError {s u : State} {mem n : Nat} (hframe : s.sameBut [.gz] u) (hmem : mem ≠ 1)
    (hgz : ∃ lost bad, u.gz = { s.gz with lostEntries := lost, badGroups := bad } ∧ (mem = 3 → n ∈ bad)) :
    s.GrainError mem n (u.sramUe Ctr.gzMemUe) := by
  have hue := (sramUe_evolves u Ctr.gzMemUe).frame
  obtain ⟨lost, bad, hu, hbad⟩ := hgz
  exact {
    gz := ⟨lost, bad, (hue .gz (by decide)).trans hu, hbad⟩
    units := fun k hk => by
      rw [sramUe_ctr, ctrSame_count u Ctr.gzMemUe 1 k fun h => hk (by simp_all [gzErrorUnits])]
      exact ctrSame.of_meter (us := []) (hframe .meter (by decide)) k (by simp)
    corrected := fun h => absurd h hmem
    frame := (hframe.mono rfl).step hue rfl }

theorem gzMemError_spec (s : State) (mem n : Nat) : s.GrainError mem n (s.gzMemError mem n) := by
  unfold gzMemError
  split
  · exact {
      gz := ⟨_, _, rfl, fun h => absurd h (by decide)⟩
      units := (ctrSame_count s _ _).mono (by decide)
      corrected := fun _ => by rw [ctr_count, if_pos rfl]
      frame := (count_evolves s _ _).frame.mono rfl }
  · exact gzUe_grainError (setGz_frame s _) (by decide) ⟨_, _, rfl, fun h => absurd h (by decide)⟩
  · exact gzUe_grainError (setGz_frame s _) (by decide) ⟨_, _, rfl, fun _ => mem_sadd.2 (.inl rfl)⟩
  · next h1 _ h3 =>
    exact {
      gz := ⟨_, _, rfl, fun h => absurd h h3⟩
      units := .refl _ s
      corrected := fun h => absurd h h1
      frame := .refl _ s }

/-! ### Coverage (R357, R367) -/

/-- A grain covered, before anything is written for its group. -/
def covered (s : State) (n grain : Nat) (p : Nat × Nat) : State :=
  { s with gz := { s.gz with covered := sadd s.gz.covered (gzKey n grain), partials := aset (0, 0) s.gz.partials (gzKey n grain) p } }

theorem gzCover_eq (s : State) (n grain : Nat) (p : Nat × Nat) : s.gzCover n grain p = if (s.covered n grain p).gzCoveredAll n then
    (s.covered n grain p).wr .attic (s.gzGroupAt n).amaxAddr 4 (aget 0 s.gz.amax n) else s.covered n grain p := rfl

theorem gzCover_gz (s : State) (n grain : Nat) (p : Nat × Nat) : (s.gzCover n grain p).gz = (s.covered n grain p).gz := by
  rw [gzCover_eq]
  split
  · exact wr_frame _ _ _ _ _ .gz (by decide)
  · rfl

theorem gzCover_frame (s : State) (n grain : Nat) (p : Nat × Nat) : s.sameBut [.attic, .cellar, .larder, .host, .meter, .gz] (s.gzCover n grain p) :=
  (gzCover_evolves s n grain p).frame

/-- The grain that completes a group's coverage has the group's amax written (R367). -/
theorem gzCover_amax {s : State} {n grain : Nat} (h : ∀ k, k < (s.gzGroupAt n).grains → k = grain ∨ gzKey n k ∈ s.gz.covered) (p : Nat × Nat) :
    (s.gzCover n grain p).rd .attic (s.gzGroupAt n).amaxAddr 4 = aget 0 s.gz.amax n % 2 ^ 32 := by
  have hall : (s.covered n grain p).gzCoveredAll n = true := by
    refine List.all_eq_true.2 fun k hk => ?_
    have hk' : gzKey n k ∈ sadd s.gz.covered (gzKey n grain) :=
      mem_sadd.2 ((h k (List.mem_range.1 hk)).imp (fun e => by rw [e]) id)
    simpa [covered] using hk'
  rw [gzCover_eq, if_pos hall, rd_wr_self _ (.inl (by decide))]
  norm_num

/-! ### The grains that wait (R359, R374) -/

/-- Of Glazia nothing but the cores and the grains that no core has taken has changed. -/
def DealStep (s t : State) : Prop := s.sameBut [.gz] t ∧ ∃ cores todo, t.gz = { s.gz with cores := cores, todo := todo }

theorem gzDeal_dealStep (s : State) (core key : Nat) (todo : List Nat) :
    s.DealStep (({ s with gz := { s.gz with todo := todo } } : State).gzDeal core key) := ⟨setGz_frame s _, _, _, rfl⟩

theorem DealStep.trans {s t u : State} (h : s.DealStep t) (g : t.DealStep u) : s.DealStep u := by
  obtain ⟨hf, cores, todo, ht⟩ := h
  obtain ⟨gf, cores', todo', hu⟩ := g
  exact ⟨hf.step gf rfl, cores', todo', by rw [hu, ht]⟩

theorem gzDealAll_dealStep (s : State) (f : Nat) : s.DealStep (s.gzDealAll f) := by
  induction f generalizing s with
  | zero => exact ⟨.refl _ s, _, _, rfl⟩
  | succ f ih =>
    unfold gzDealAll
    split
    · exact (gzDeal_dealStep s _ _ _).trans (ih _)
    · exact ⟨.refl _ s, _, _, rfl⟩

theorem gzDealAll_none {s : State} (h : s.gz.todo = []) (f : Nat) : s.gzDealAll f = s := by
  cases f with
  | zero => rfl
  | succ f => rw [gzDealAll, h]

/-- Core `core` is free, and the grains that wait are dealt. -/
def freed (s : State) (core : Nat) : State := (s.setGzCore core gzIdleCore).gzDealAll 8

theorem freed_dealStep (s : State) (core : Nat) : s.DealStep (s.freed core) :=
  DealStep.trans ⟨(setGzCore_evolves s core _).frame, _, _, rfl⟩ (gzDealAll_dealStep (s.setGzCore core gzIdleCore) 8)

/-- With no grain that waits, the core stays free. -/
theorem freed_idle {s : State} {core : Nat} (hlt : core < s.gz.cores.length) (h : s.gz.todo = []) : ((s.freed core).gzCore core).grain = none := by
  rw [freed, gzDealAll_none (s := s.setGzCore core gzIdleCore) h, (setGzCore_moved hlt 0 gzIdleCore).self]
  rfl

/-! ### A grain done -/

/-- What is done with a grain of group n before it is covered: a frozen one is copied, and its error is met. -/
structure GrainMet (s : State) (mem n : Nat) (t : State) : Prop where
  gz : ∃ amax lost bad, t.gz = { s.gz with amax := amax, lostEntries := lost, badGroups := bad } ∧ (mem = 3 → n ∈ bad) ∧
    (s.gzFrozen n = false → amax = s.gz.amax)
  units : s.ctrSame (gzErrorUnits ++ closeUnits) t
  corrected : mem = 1 → t.ctr Ctr.gzMemCe = (s.ctr Ctr.gzMemCe + 1) % 2 ^ 64
  lb : t.lb = s.lb

theorem grainMet_spec (s : State) (mem n gr : Nat) :
    s.GrainMet mem n ((if s.gzFrozen n then s.gzCopyGrain n gr else s).gzMemError mem n) := by
  have hcopy : ∃ amax, (if s.gzFrozen n then s.gzCopyGrain n gr else s).gz = { s.gz with amax := amax } ∧ (s.gzFrozen n = false → amax = s.gz.amax) := by
    split
    · next h =>
      obtain ⟨amax, e⟩ := gzCopyGrain_amaxStep s n gr
      exact ⟨amax, e, fun h' => by simp [h] at h'⟩
    · exact ⟨_, rfl, fun _ => rfl⟩
  have hunits : s.ctrSame closeUnits (if s.gzFrozen n then s.gzCopyGrain n gr else s) := by
    split <;> [exact gzCopyGrain_ctrSame s n gr; exact .refl _ s]
  have hlb : (if s.gzFrozen n then s.gzCopyGrain n gr else s).lb = s.lb := by
    split <;> [exact (gzCopyGrain_evolves s n gr).frame .lb (by decide); rfl]
  generalize (if s.gzFrozen n then s.gzCopyGrain n gr else s) = r at hcopy hunits hlb ⊢
  obtain ⟨amax, hr, hkept⟩ := hcopy
  have h := gzMemError_spec r mem n
  obtain ⟨lost, bad, hgz, hbad⟩ := h.gz
  exact {
    gz := ⟨amax, lost, bad, by rw [hgz, hr], hbad, hkept⟩
    units := (hunits.mono (List.subset_append_right ..)).trans (h.units.mono (List.subset_append_left ..))
    corrected := fun e => by rw [h.corrected e, hunits _ (by decide)]
    lb := (h.frame .lb (by decide)).trans hlb }

/-- A grain is no longer awaited. -/
def unawaited (s : State) (key : Nat) : State := { s with gz := { s.gz with busy := sdel s.gz.busy key } }

theorem unawaited_gz (s : State) (key : Nat) : (s.unawaited key).gz = { s.gz with busy := sdel s.gz.busy key } := rfl

theorem unawaited_frame (s : State) (key : Nat) : s.sameBut [.gz] (s.unawaited key) := setGz_frame s _

/-- A grain covered and counted, and no longer awaited. -/
structure GrainCounted (s : State) (n gr cycles : Nat) (t : State) : Prop where
  gz : ∃ partials, t.gz = { s.gz with covered := sadd s.gz.covered (gzKey n gr), partials := partials, busy := sdel s.gz.busy (gzKey n gr) }
  units : ∀ k, k ∉ closeUnits → t.ctr k = if k = Ctr.gzBusy then (s.ctr Ctr.gzBusy + cycles) % 2 ^ 64 else s.ctr k
  lb : t.lb = s.lb
  amax : (∀ k, k < (s.gzGroupAt n).grains → k = gr ∨ gzKey n k ∈ s.gz.covered) →
    t.rd .attic (s.gzGroupAt n).amaxAddr 4 = aget 0 s.gz.amax n % 2 ^ 32

theorem grainCounted_spec (s : State) (n gr cycles : Nat) (p : Nat × Nat) :
    s.GrainCounted n gr cycles (((s.gzCover n gr p).count Ctr.gzBusy cycles).unawaited (gzKey n gr)) := by
  have hgz := gzCover_gz s n gr p
  have hunits := gzCover_ctrSame s n gr p
  have hlb : (s.gzCover n gr p).lb = s.lb := gzCover_frame s n gr p .lb (by decide)
  have hamax := gzCover_amax (s := s) (n := n) (grain := gr) (p := p)
  have hframe : (s.gzCover n gr p).sameBut [.meter, .gz] (((s.gzCover n gr p).count Ctr.gzBusy cycles).unawaited (gzKey n gr)) :=
    ((count_evolves _ _ _).frame.mono rfl).step (unawaited_frame _ _) rfl
  have hmeter : (((s.gzCover n gr p).count Ctr.gzBusy cycles).unawaited (gzKey n gr)).meter = ((s.gzCover n gr p).count Ctr.gzBusy cycles).meter :=
    unawaited_frame _ _ .meter (by decide)
  exact {
    gz := ⟨_, by rw [unawaited_gz, count_gz, hgz]; rfl⟩
    units := fun k hk => by
      rw [ctr, hmeter]
      exact (ctr_count ..).trans (by rw [hunits k hk, hunits Ctr.gzBusy (by decide)])
    lb := (hframe .lb (by decide)).trans hlb
    amax := fun hall => by
      have hmem := hframe.mem_other (sp := .attic) (by decide)
      rw [rd, hmem]
      exact hamax hall }

/-- A core's grain done, before its PIECE may end. -/
def grainLeft (s : State) (core cycles mem n gr : Nat) : State :=
  (((((if s.gzFrozen n then s.gzCopyGrain n gr else s).gzMemError mem n).gzCover n gr
    (if s.gzFrozen n then (0, 0) else ((s.gzCore core).sumW, (s.gzCore core).sumD))).count Ctr.gzBusy cycles).unawaited (gzKey n gr)).freed core

/-- The letter of the PIECE ends when no grain is awaited any more. -/
def pieceEnd (s : State) : State :=
  if !s.gz.busy.isEmpty then s
  else
    match s.gzOp with
    | none => s
    | some o =>
      match o.parts with
      | [] => s
      | p :: _ => ((s.dropOp o).finish { finOf o p with part := none, hasCounts := false }).settle

theorem grainDone_model (s : State) (core cycles mem : Nat) : s.grainDone core cycles mem = match (s.gzCore core).grain with
      | none => s
      | some (n, gr) =>
        if 8 ≤ core then s
        else if !s.gzFrozen n && decide ((s.gzCore core).vec < gzVectors (s.gzGroupAt n) gr) then s
        else (s.grainLeft core cycles mem n gr).pieceEnd := rfl

theorem grainDone_eq {s : State} {core n gr : Nat} (hcore : core < 8) (hgrain : (s.gzCore core).grain = some (n, gr))
    (hlast : s.gzFrozen n = false → gzVectors (s.gzGroupAt n) gr ≤ (s.gzCore core).vec) (cycles mem : Nat) :
    s.grainDone core cycles mem = (s.grainLeft core cycles mem n gr).pieceEnd := by
  have hlast' : (!s.gzFrozen n && decide ((s.gzCore core).vec < gzVectors (s.gzGroupAt n) gr)) = false := by
    cases h : s.gzFrozen n with
    | true => rfl
    | false => simpa using hlast h
  rw [grainDone_model, hgrain]
  simp only [hlast', Nat.not_le.2 hcore, if_false, Bool.false_eq_true]

/-! ### GRAIN_DONE (R374) -/

/-- What the end of a grain leaves, before its PIECE may end. -/
structure GrainLeft (s : State) (core cycles mem n gr : Nat) (t : State) : Prop where
  covered : gzKey n gr ∈ t.gz.covered
  kept : ∀ k ∈ s.gz.covered, k ∈ t.gz.covered
  busy : t.gz.busy = sdel s.gz.busy (gzKey n gr)
  idle : s.gz.todo = [] → (t.gzCore core).grain = none
  bad : mem = 3 → n ∈ t.gz.badGroups
  cycles : t.ctr Ctr.gzBusy = (s.ctr Ctr.gzBusy + cycles) % 2 ^ 64
  corrected : mem = 1 → t.ctr Ctr.gzMemCe = (s.ctr Ctr.gzMemCe + 1) % 2 ^ 64
  lb : t.lb = s.lb
  amax : s.gzFrozen n = false → (∀ k, k < (s.gzGroupAt n).grains → k = gr ∨ gzKey n k ∈ s.gz.covered) →
    t.rd .attic (s.gzGroupAt n).amaxAddr 4 = aget 0 s.gz.amax n % 2 ^ 32

/-- The end of a grain, from what each of its steps leaves. -/
theorem grainLeft_of_steps {s u v t : State} {core cycles mem n gr : Nat} (hgrain : (s.gzCore core).grain = some (n, gr))
    (hu : s.GrainMet mem n u) (hv : u.GrainCounted n gr cycles v) (ht : v.DealStep t)
    (hidle : core < v.gz.cores.length → v.gz.todo = [] → (t.gzCore core).grain = none) : s.GrainLeft core cycles mem n gr t := by
  obtain ⟨amax, lost, bad, hugz, hbad, hkept⟩ := hu.gz
  obtain ⟨partials, hvgz⟩ := hv.gz
  obtain ⟨hframe, cores, todo, htgz⟩ := ht
  have hmeter : ∀ k, t.ctr k = v.ctr k := fun k => ctrSame.of_meter (us := []) (hframe .meter (by decide)) k (by simp)
  have hgroup : u.gzGroupAt n = s.gzGroupAt n := by rw [gzGroupAt, hugz, gzGroupAt]
  rw [hugz] at hvgz
  rw [hvgz] at htgz hidle
  exact {
    covered := by rw [htgz]; exact mem_sadd.2 (.inl rfl)
    kept := fun k hk => by rw [htgz]; exact mem_sadd.2 (.inr hk)
    busy := by rw [htgz]
    idle := hidle (lt_cores_of_grain hgrain)
    bad := fun e => by rw [htgz]; exact hbad e
    cycles := by rw [hmeter, hv.units _ (by decide), if_pos rfl, hu.units _ (by decide)]
    corrected := fun e => by rw [hmeter, hv.units _ (by decide), if_neg (by decide), hu.corrected e]
    lb := (hframe .lb (by decide)).trans (hv.lb.trans hu.lb)
    amax := fun hfrozen hall => by
      have hread := hv.amax (by rw [hgroup, hugz]; exact hall)
      rw [hgroup, hugz, hkept hfrozen] at hread
      rw [rd, hframe.mem_other (by decide)]
      exact hread }

theorem grainLeft_spec {s : State} {core n gr : Nat} (hgrain : (s.gzCore core).grain = some (n, gr)) (cycles mem : Nat) :
    s.GrainLeft core cycles mem n gr (s.grainLeft core cycles mem n gr) :=
  grainLeft_of_steps hgrain (s.grainMet_spec mem n gr) (grainCounted_spec _ n gr cycles _) (freed_dealStep _ core) freed_idle

/-- The end of the letter of a PIECE leaves Glazia, but for a CLOSE that waits, and Glazia's units as they are. -/
theorem letterEnd_spec (s : State) (o : Op) (f : FinRec) : let t := ((s.dropOp o).finish f).settle
    t.lb.ops = s.lb.ops.filter (fun x => !x.isSame o) ∧ (∃ c, t.gz = { s.gz with closing := c }) ∧ s.ctrSame (Ctr.clkGates :: recordUnits) t := by
  have hrecord := finish_settle_recordStep (s.dropOp o) f
  have hstop := stopDisabled_evolves { s with lb := { s.lb with ops := s.lb.ops.filter fun x => !x.isSame o } } |>.frame
  have hgz : (s.dropOp o).gz = s.gz := hstop .gz (by decide)
  have hunits : s.ctrSame [Ctr.clkGates] (s.dropOp o) := stopDisabled_ctrSame { s with lb := { s.lb with ops := s.lb.ops.filter fun x => !x.isSame o } }
  refine ⟨hrecord.ops.trans (congrArg LbState.ops (hstop .lb (by decide))), ?_, (hunits.mono (by decide)).trans (hrecord.units.mono (by decide))⟩
  obtain ⟨c, hc⟩ := hrecord.gz
  exact ⟨c, by rw [hc, hgz]⟩

/-- GRAIN_DONE after the grain is left: with grains still awaited nothing more is done, and with the last one the letter ends. -/
structure GrainEnd (s : State) (t : State) : Prop where
  gz : ∃ c, t.gz = { s.gz with closing := c }
  units : s.ctrSame (Ctr.clkGates :: recordUnits) t
  awaited : s.gz.busy ≠ [] → t = s
  ended : s.gz.busy = [] → ∀ o ∈ s.gzOp, o.parts ≠ [] → t.lb.ops = s.lb.ops.filter fun x => !x.isSame o

theorem pieceEnd_ends (s : State) : s.GrainEnd s.pieceEnd := by
  have hstays : (s.gz.busy = [] → ∀ o ∈ s.gzOp, o.parts = []) → s.GrainEnd s := fun hno =>
    ⟨⟨_, rfl⟩, .refl _ s, fun _ => rfl, fun hbusy o ho hp => absurd (hno hbusy o ho) hp⟩
  unfold pieceEnd
  split
  · next hbusy => exact hstays fun hnil => by simp [hnil] at hbusy
  · next hbusy =>
    have hbusy : s.gz.busy = [] := by simpa using hbusy
    split
    · next hop => exact hstays fun _ => by simp [hop]
    · next o hop =>
      split
      · next hparts => exact hstays fun _ => by simp [hop, hparts]
      · obtain ⟨hops, hgz, hunits⟩ := s.letterEnd_spec o _
        refine ⟨hgz, hunits, fun hne => absurd hbusy hne, fun _ o' ho' _ => ?_⟩
        obtain rfl : o = o' := Option.some.inj (hop.symm.trans ho')
        exact hops

theorem grainDone_spec {s : State} {core n gr : Nat} (hcore : core < 8) (hgrain : (s.gzCore core).grain = some (n, gr))
    (hlast : s.gzFrozen n = false → gzVectors (s.gzGroupAt n) gr ≤ (s.gzCore core).vec) (cycles mem : Nat) :
    ∃ u, s.GrainLeft core cycles mem n gr u ∧ u.GrainEnd (s.grainDone core cycles mem) :=
  ⟨_, grainLeft_spec hgrain cycles mem, by rw [grainDone_eq hcore hgrain hlast]; exact pieceEnd_ends _⟩

end State

end Sys2Proof.Machine

/-! SUPPORT. COMMIT (R345, R360, R363 to R367): what it writes of each element, and what the core and the counters are afterwards. -/

namespace Sys2Proof.Machine

/-! ### Runs of stored bytes -/

/-- A chunk of a run of chunks of one length. -/
theorem flatten_chunk {α β : Type} {b : Nat} {f : α → List β} (hf : ∀ x, (f x).length = b) {l : List α} {i : Nat} {x : α}
    (hx : l[i]? = some x) : ((l.map f).flatten.drop (i * b)).take b = f x := by
  induction l generalizing i with
  | nil => simp at hx
  | cons y l ih =>
    rw [List.map_cons, List.flatten_cons]
    cases i with
    | zero =>
      obtain rfl : y = x := by simpa using hx
      rw [Nat.zero_mul, List.drop_zero, List.take_left' (hf y)]
    | succ i =>
      rw [Nat.succ_mul, Nat.add_comm, ← List.drop_drop, List.drop_left' (hf y)]
      exact ih (by simpa using hx)

/-- A part of a run of bytes reads as it was written. -/
theorem Mem.bytes_write_inside (m : Mem) (a j n : Nat) (bs : List Byte) (h : j + n ≤ bs.length) :
    (m.write a bs).bytes (a + j) n = (bs.drop j).take n := by
  induction n generalizing j with
  | zero => simp [Mem.bytes]
  | succ n ih =>
    rw [Mem.bytes, Mem.byte_write_inside m a j bs (by omega), Nat.add_assoc, ih (j + 1) (by omega),
      List.drop_eq_getElem_cons (by omega : j < bs.length), List.take_succ_cons, List.getD_eq_getElem?_getD,
      List.getElem?_eq_getElem (by omega : j < bs.length), Option.getD_some]

/-- The bytes of a run of values of b bytes each. -/
def valueBytes (b : Nat) (vals : List (Nat × Bool)) : List Byte := (vals.map fun v => leBytes b v.1).flatten

theorem valueBytes_length (b : Nat) (vals : List (Nat × Bool)) : (valueBytes b vals).length = vals.length * b := by
  simp [valueBytes, List.length_flatten, Function.comp_def]

/-- A value of a run reads in its place as it was written, cut to its bytes. -/
theorem nat_write_valueBytes (m : Mem) (a b i : Nat) {vals : List (Nat × Bool)} {v : Nat × Bool} (hv : vals[i]? = some v) :
    (m.write a (valueBytes b vals)).nat (a + i * b) b = v.1 % 2 ^ (8 * b) := by
  have hi : i < vals.length := (List.getElem?_eq_some_iff.1 hv).1
  have hroom : i * b + b ≤ (valueBytes b vals).length := by
    rw [valueBytes_length, ← Nat.succ_mul]
    exact Nat.mul_le_mul_right b hi
  have hpow : (256 : Nat) ^ b = 2 ^ (8 * b) := by rw [pow_mul]; norm_num
  rw [Mem.nat, Mem.bytes_write_inside m a (i * b) b _ hroom, valueBytes, flatten_chunk (fun v => leBytes_length b v.1) hv, ofBytes_leBytes_mod, hpow]

namespace State

/-! ### What is written of a slot -/

theorem poison_cellar_frame (s : State) (a n : Nat) : s.sameBut [.cellar] (s.poison .cellar a n) := put_cellar_sameBut s _

theorem cells_poison_cellar (s : State) (a n : Nat) : (s.poison .cellar a n).cellar.cells = s.cellar.cells := Mem.cells_poisonRange ..

/-- Poison marks on values written leave every byte as it is. -/
theorem markValues_spec (a b u : Nat) (l : List ((Nat × Bool) × Nat)) (s : State) :
    let t := l.foldl (fun st (v, i) => if v.2 then (st.poison .cellar (a + i * b) b).count u 1 else st) s
    s.sameBut [.cellar, .meter] t ∧ t.cellar.cells = s.cellar.cells := by
  induction l generalizing s with
  | nil => exact ⟨.refl _ s, rfl⟩
  | cons x l ih =>
    obtain ⟨v, i⟩ := x
    have hone : s.sameBut [.cellar, .meter] (if v.2 then (s.poison .cellar (a + i * b) b).count u 1 else s) ∧
        (if v.2 then (s.poison .cellar (a + i * b) b).count u 1 else s).cellar.cells = s.cellar.cells := by
      split
      · exact ⟨((poison_cellar_frame s _ _).mono rfl).step (count_evolves _ _ _).frame rfl, cells_poison_cellar s _ _⟩
      · exact ⟨.refl _ s, rfl⟩
    obtain ⟨hf, hc⟩ := ih (if v.2 then (s.poison .cellar (a + i * b) b).count u 1 else s)
    exact ⟨hone.1.step hf rfl, hc.trans hone.2⟩

theorem gzWrite_spec (s : State) (e : Nat) (x : GzSlot) (vals : List (Nat × Bool)) : s.sameBut [.cellar, .meter] (s.gzWrite e x vals) ∧
    (s.gzWrite e x vals).cellar.cells = (s.cellar.write (s.gzDst + x.offset + e * x.bytes) (valueBytes x.bytes vals)).cells := by
  obtain ⟨hf, hc⟩ := markValues_spec (s.gzDst + x.offset + e * x.bytes) x.bytes Ctr.gzPoisonState (vals.zip (List.range vals.length))
    (s.wrBytes .cellar (s.gzDst + x.offset + e * x.bytes) (valueBytes x.bytes vals))
  exact ⟨((put_cellar_sameBut s _).mono rfl).step hf rfl, hc⟩

/-- A value written to a slot reads in its element's place (R360). -/
theorem rd_gzWrite (s : State) (e i : Nat) (x : GzSlot) {vals : List (Nat × Bool)} {v : Nat × Bool} (hv : vals[i]? = some v) :
    (s.gzWrite e x vals).rd .cellar (s.gzDst + x.offset + (e + i) * x.bytes) x.bytes = v.1 % 2 ^ (8 * x.bytes) := by
  have hplace : s.gzDst + x.offset + (e + i) * x.bytes = s.gzDst + x.offset + e * x.bytes + i * x.bytes := by ring
  rw [hplace, ← nat_write_valueBytes s.cellar (s.gzDst + x.offset + e * x.bytes) x.bytes i hv]
  exact congrArg ofBytes (Mem.bytes_congr (gzWrite_spec s e x vals).2 _ _)

theorem gzWriteAll_frame (s : State) (g : GzGroup) (e : Nat) (rows : List (List (Nat × Bool))) :
    s.sameBut [.cellar, .meter] (s.gzWriteAll g e rows) := .foldl (fun t _ => (gzWrite_spec t _ _ _).1) _ s

theorem gzWriteAll_single {g : GzGroup} {x : GzSlot} (h : g.slots = [x]) (s : State) (e : Nat) (rows : List (List (Nat × Bool))) :
    s.gzWriteAll g e rows = s.gzWrite e x (rows.map fun r => r.getD 0 (0, false)) := by
  rw [gzWriteAll, h]
  rfl

/-! ### One element (R363, R365) -/

/-- An element kept before its body ran is kept for that reason. -/
theorem gzLane_kept (s : State) (g : GzGroup) (c : GzCore) (inp : GzIn) (i : Nat) (h : inp.kept ≠ 0) : (s.gzLane g c inp i).kept = inp.kept := by
  simp [gzLane, h]

/-- What is staged for the master slot of element i. -/
def stagedMaster (c : GzCore) (i : Nat) : Option (Nat × Bool) := (c.staged.find? fun y => y.1 == 1).bind fun y => y.2[i]?

section

variable {g : GzGroup} {x : GzSlot} {inp : GzIn} {v : Nat × Bool} {vs : List (Nat × Bool)}

/-- Nothing staged for it: an element of a group of one slot keeps what it holds. -/
theorem gzLane_unstaged (hslots : g.slots = [x]) (hinp : inp.slots = v :: vs) {c : GzCore} {i : Nat} (h : stagedMaster c i = none) (s : State) :
    (s.gzLane g c inp i).writes = [(x, v)] := by
  unfold stagedMaster at h
  cases hfind : c.staged.find? fun y => y.1 == 1 with
  | none => simp [gzLane, hslots, hinp, hfind]
  | some z =>
    have hz : z.2[i]? = none := by simpa [hfind] using h
    simp [gzLane, hslots, hinp, hfind, hz]

/-- A value staged for it: an element of a group of one slot takes it, as the slot stores it, unless it is kept. -/
theorem gzLane_staged (hslots : g.slots = [x]) (hinp : inp.slots = v :: vs) {c : GzCore} {i : Nat} {y : Nat × Bool} (h : stagedMaster c i = some y)
    (s : State) : (s.gzLane g c inp i).writes = if (s.gzLane g c inp i).kept = 0 then
      [(x, (gzStore x (s.gzGear g) (BitVec.ofNat 32 y.1)).1, y.2)] else [(x, v)] := by
  unfold stagedMaster at h
  obtain ⟨z, hfind, hz⟩ := Option.bind_eq_some_iff.1 h
  simp [gzLane, hslots, hinp, hfind, hz]

/-- What is written of an element of a group of one slot (R363, R365). -/
theorem gzLane_single (hslots : g.slots = [x]) (hinp : inp.slots = v :: vs) (s : State) (c : GzCore) (i : Nat) :
    ∃ b p, (s.gzLane g c inp i).writes = [(x, b, p)] ∧ ((s.gzLane g c inp i).kept ≠ 0 ∨ stagedMaster c i = none → b = v.1) ∧
      ((s.gzLane g c inp i).kept = 0 → ∀ y, stagedMaster c i = some y → b = (gzStore x (s.gzGear g) (BitVec.ofNat 32 y.1)).1) := by
  cases hstaged : stagedMaster c i with
  | none => exact ⟨v.1, v.2, gzLane_unstaged hslots hinp hstaged s, fun _ => rfl, fun _ y hy => by cases hy⟩
  | some y =>
    have hwrites := gzLane_staged hslots hinp hstaged s
    by_cases hkept : (s.gzLane g c inp i).kept = 0
    · rw [if_pos hkept] at hwrites
      exact ⟨_, _, hwrites, fun h => by simp [hkept] at h, fun _ z hz => by rw [Option.some.inj hz]⟩
    · rw [if_neg hkept] at hwrites
      exact ⟨v.1, v.2, hwrites, fun _ => rfl, fun h => absurd h hkept⟩

end

/-! ### The vector (R345, R365, R366) -/

/-- What COMMIT does with each element of a core's vector. -/
def commitLanes (s : State) (g : GzGroup) (c : GzCore) : List (Nat × GzLane) :=
  (c.inputs.zip (List.range c.inputs.length)).map fun (x, i) => (x.elem, s.gzLane g c x i)

theorem getElem?_commitLanes (s : State) (g : GzGroup) (c : GzCore) {i : Nat} {inp : GzIn} (h : c.inputs[i]? = some inp) :
    (s.commitLanes g c)[i]? = some (inp.elem, s.gzLane g c inp i) := by
  have hi : i < c.inputs.length := (List.getElem?_eq_some_iff.1 h).1
  have hz : (c.inputs.zip (List.range c.inputs.length))[i]? = some (inp, i) :=
    List.getElem?_zip_eq_some.2 ⟨h, by simp [hi]⟩
  rw [commitLanes, List.getElem?_map, hz]
  rfl

/-- The state slots of a vector's elements, written to the target bank. -/
def commitStores (s : State) (g : GzGroup) (gr : Nat) (c : GzCore) : State :=
  s.gzWriteAll g (gr * 65536 + c.vec * 64) ((s.commitLanes g c).map fun y => y.2.writes.map (·.2))

/-- In a group of one slot an element's place holds what is written of it. -/
theorem rd_commitStores {g : GzGroup} {x : GzSlot} (hslots : g.slots = [x]) (s : State) (gr : Nat) (c : GzCore) {i : Nat} {inp : GzIn}
    (hi : c.inputs[i]? = some inp) {b : Nat} {p : Bool} (hw : (s.gzLane g c inp i).writes = [(x, b, p)]) :
    (s.commitStores g gr c).rd .cellar (s.gzDst + x.offset + (gr * 65536 + c.vec * 64 + i) * x.bytes) x.bytes = b % 2 ^ (8 * x.bytes) := by
  rw [commitStores, gzWriteAll_single hslots]
  refine rd_gzWrite s _ i x (v := (b, p)) ?_
  rw [List.getElem?_map, List.getElem?_map, getElem?_commitLanes s g c hi, Option.map_some, Option.map_some, hw]
  rfl

/-- What COMMIT leaves, u being the state with the slots written. -/
structure Committed (s : State) (core n gr : Nat) (g : GzGroup) (c : GzCore) (t : State) : Prop where
  stores : t.cellar = (s.commitStores g gr c).cellar
  counted : t.ctr Ctr.gzElements = (s.ctr Ctr.gzElements + (gzElems g gr c.vec).length) % 2 ^ 64
  vec : (t.gzCore core).vec = c.vec + 1
  pc : (t.gzCore core).pc = (gzRule s.gzWord g.rule).body + 1
  staged : (t.gzCore core).staged = []
  inputs : (t.gzCore core).inputs = []
  grain : (t.gzCore core).grain = some (n, gr)
  frame : s.sameBut [.cellar, .meter, .gz, .bell] t

/-- What COMMIT counts of a vector: its elements, those kept for each reason, and underflows. -/
def countVector (s : State) (elems : Nat) (kept : Nat → Nat) (ufl : Nat) : State :=
  (((((s.count Ctr.gzElements elems).count Ctr.gzKeptMask (kept 1)).count Ctr.gzKeptVoid (kept 2)).count Ctr.gzKeptBadGrad (kept 3)).count
    Ctr.gzKeptNf (kept 4)).count Ctr.gzStoreUfl ufl

theorem countVector_frame (s : State) (elems : Nat) (kept : Nat → Nat) (ufl : Nat) : s.sameBut [.meter] (s.countVector elems kept ufl) :=
  (((((count_evolves s _ _).frame.step (count_evolves _ _ _).frame rfl).step (count_evolves _ _ _).frame rfl).step
    (count_evolves _ _ _).frame rfl).step (count_evolves _ _ _).frame rfl).step (count_evolves _ _ _).frame rfl

theorem countVector_elements (s : State) (elems : Nat) (kept : Nat → Nat) (ufl : Nat) :
    (s.countVector elems kept ufl).ctr Ctr.gzElements = (s.ctr Ctr.gzElements + elems) % 2 ^ 64 := by
  rw [countVector, ctr_count, if_neg (by decide), ctr_count, if_neg (by decide), ctr_count, if_neg (by decide), ctr_count, if_neg (by decide),
    ctr_count, if_neg (by decide), ctr_count, if_pos rfl]

theorem raiseIf_frame (s : State) (b : Bool) (n : Nat) : s.sameBut [.bell] (if b then s.raise n else s) := by
  split <;> [exact (raise_evolves s n).frame; exact .refl _ s]

/-- A vector's bad gradients and poison noted. -/
def noteVector (s : State) (bad pois : Bool) : State :=
  { s with gz := { s.gz with badGrad := s.gz.badGrad || bad, poisonSeen := s.gz.poisonSeen || pois } }

/-- COMMIT, from what each of its steps leaves. -/
theorem committed_of_steps {s v w x : State} {core n gr : Nat} {g : GzGroup} {c c' : GzCore} (hlt : core < s.gz.cores.length)
    (hamax : (s.commitStores g gr c).AmaxStep v) (hv : (s.commitStores g gr c).sameBut [.gz] v) (hw : v.sameBut [.meter] w)
    (hcount : w.ctr Ctr.gzElements = (v.ctr Ctr.gzElements + (gzElems g gr c.vec).length) % 2 ^ 64) (hx : w.sameBut [.bell] x)
    (hc : c'.vec = c.vec + 1 ∧ c'.pc = (gzRule s.gzWord g.rule).body + 1 ∧ c'.staged = [] ∧ c'.inputs = [] ∧ c'.grain = some (n, gr))
    (bad pois : Bool) : s.Committed core n gr g c ((x.setGzCore core c').noteVector bad pois) := by
  have hstores : s.sameBut [.cellar, .meter] (s.commitStores g gr c) := gzWriteAll_frame s _ _ _
  have hunits : (s.commitStores g gr c).ctr Ctr.gzElements = s.ctr Ctr.gzElements := gzWriteAll_ctrSame s _ _ _ _ (by decide)
  have hbefore : (s.commitStores g gr c).sameBut [.meter, .gz, .bell] x := ((hv.mono rfl).step hw rfl).step hx rfl
  have hset : x.sameBut [.gz] (x.setGzCore core c') := (setGzCore_evolves x core c').frame
  have hafter : x.sameBut [.gz] ((x.setGzCore core c').noteVector bad pois) := hset.step (setGz_frame _ _) rfl
  obtain ⟨amax, hvgz⟩ := hamax
  have hxgz : x.gz = v.gz := (hx .gz (by decide)).trans (hw .gz (by decide))
  have hcores : x.gz.cores = s.gz.cores := by
    rw [hxgz, hvgz, show (s.commitStores g gr c).gz = s.gz from hstores .gz (by decide)]
  have hcore : ((x.setGzCore core c').noteVector bad pois).gzCore core = c' :=
    (setGzCore_moved (s := x) (by rw [hcores]; exact hlt) n c').self
  have hmeter : ∀ {a b : State}, b.meter = a.meter → ∀ k, b.ctr k = a.ctr k := fun e k => ctrSame.of_meter (us := []) e k (by simp)
  obtain ⟨hvec, hpc, hstaged, hinputs, hgrain⟩ := hc
  exact {
    stores := (hafter .cellar (by decide)).trans (hbefore .cellar (by decide))
    counted := by
      rw [hmeter (hafter .meter (by decide)), hmeter (hx .meter (by decide)), hcount, hmeter (hv .meter (by decide)),
        hunits]
    vec := by rw [hcore, hvec]
    pc := by rw [hcore, hpc]
    staged := by rw [hcore, hstaged]
    inputs := by rw [hcore, hinputs]
    grain := by rw [hcore, hgrain]
    frame := ((hstores.mono rfl).step hbefore rfl).step hafter rfl }

theorem gzCommit_spec {s : State} {core n gr : Nat} {g : GzGroup} {w : GzWord} (h : s.gzNext core = some (n, g, gr, w)) (hop : w.op = 0x1F) :
    s.Committed core n gr g (s.gzLoaded core n g gr) (s.gzCommit core) := by
  have hgrain : (s.gzLoaded core n g gr).grain = some (n, gr) := (s.gzLoaded_place core n g gr).1.trans (gzNext_grain h)
  unfold gzCommit
  simp -zeta only [h, hop, bne_self_eq_false, Bool.false_eq_true, if_false]
  extract_lets c es ls s0 s1 nOf s2 bad pois s3 s4 sq upd wSum dSum rule c' s5 src
  have hamax : s0.AmaxStep s1 := foldl_rel (R := AmaxStep) .refl (fun _ _ _ => .trans) (fun t _ => gzAmax_amaxStep t n _ _) ls s0
  have hfold : s0.sameBut [.gz] s1 := .foldl (fun t _ => (gzAmax_evolves t n _ _).frame) ls s0
  have hraised : s2.sameBut [.bell] s4 := (raiseIf_frame s2 _ _).step (raiseIf_frame s3 _ _) rfl
  exact committed_of_steps (x := s4) (c' := c') (gzNext_lt h) hamax hfold (countVector_frame s1 _ _ _) (countVector_elements s1 _ _ _) hraised
    ⟨rfl, rfl, rfl, rfl, hgrain⟩ bad pois

end State

end Sys2Proof.Machine

namespace Sys2Proof.Proofs

open Sys2Proof Sys2Proof.Machine

/-- Settles O28, clause by clause: COMMIT by State.gzCommit_spec and what it writes of an element (State.gzLane_single), the end of
a grain by State.grainDone_spec, and the rule load by the image it finds staged. -/
theorem vectorsCommitAndGrainsEnd : Obligations.VectorsCommitAndGrainsEnd := by
  refine ⟨fun s core n gr g w h hop => ⟨_, rfl, ?commit⟩, fun s core cycles mem n gr hcore hgrain hlast => ⟨_, rfl, ?grain⟩,
    fun s w data h => ⟨_, rfl, ?rules⟩⟩
  case commit =>
    have hc := State.gzCommit_spec h hop
    refine ⟨hc.counted, hc.vec, hc.pc, hc.staged, hc.inputs, hc.grain, hc.frame, fun x hslots i inp v vs hi hinp => ?_⟩
    obtain ⟨b, p, hwrites, hkeeps, htakes⟩ := State.gzLane_single hslots hinp s (s.gzLoaded core n g gr) i
    have hread := State.rd_commitStores hslots s gr (s.gzLoaded core n g gr) hi hwrites
    rw [State.rd, show State.mem _ .cellar = _ from hc.stores.symm] at hread
    refine ⟨State.gzLane_kept s g _ inp i, fun hk => hread.trans ?_, fun hk y hy => hread.trans ?_⟩
    · rw [hkeeps hk]
    · rw [htakes hk y hy]
  case grain =>
    obtain ⟨u, hleft, hend⟩ := State.grainDone_spec hcore hgrain hlast cycles mem
    obtain ⟨closing, hgz⟩ := hend.gz
    have hbusy : (s.grainDone core cycles mem).gz.busy = u.gz.busy := by rw [hgz]
    have hcores : (s.grainDone core cycles mem).gzCore core = u.gzCore core := by rw [State.gzCore, hgz]; rfl
    have hop : u.gzOp = s.gzOp := by rw [State.gzOp, hleft.lb]; rfl
    refine ⟨by rw [hgz]; exact hleft.covered, fun k hk => by rw [hgz]; exact hleft.kept k hk, hbusy.trans hleft.busy,
      (hend.units _ (by decide)).trans hleft.cycles, fun h => hcores ▸ hleft.idle h, fun h => (hend.units _ (by decide)).trans (hleft.corrected h),
      fun h => by rw [hgz]; exact hleft.bad h, fun hne => ?awaited, fun hnil o ho hp => ?ended⟩
    case awaited =>
      rw [hend.awaited (hbusy ▸ hne)]
      exact ⟨congrArg LbState.ops hleft.lb, hleft.amax⟩
    case ended =>
      rw [hend.ended (hbusy.symm.trans hnil) o (hop ▸ ho) hp, hleft.lb]
  case rules =>
    beta_reduce
    intro img
    refine ⟨fun hv => ?sound, fun hv => ?faulty⟩
    case sound =>
      rw [State.glaziaRuleLoad_sound h hv]
      have hword := fun {i} => s.gzInstall_word img (i := i)
      have hpresent := fun {r} => s.gzInstall_present img (r := r)
      have hod := s.gzInstall_od img
      have hframe := s.gzInstall_frame img
      generalize s.gzInstall img = u at hword hpresent hod hframe ⊢
      have hans := u.respond_done_frame w
      have hodv : ∀ k, (u.respond w [] 0 []).odv k = u.odv k := fun k => hans.odv (by decide) k
      have hgz : (u.respond w [] 0 []).gz = u.gz := hans .gz (by decide)
      refine ⟨fun i hi => ?_, fun k hk => (hodv k).trans (hod k hk),
        State.served_respond (hframe .sent (by decide)) (hframe .meter (by decide)), fun r hr => ?_, (hframe.mono rfl).step hans rfl⟩
      · rw [State.gzWord, hgz]
        exact hword hi
      · rw [hodv]
        exact hpresent hr
    case faulty =>
      rw [State.glaziaRuleLoad_faulty h hv]
      exact s.respond_refused_spec w (by decide)

end Sys2Proof.Proofs

/-! SUPPORT. The member table (R392, R414, R415, R417): what a member's entry reads after its state or its misses are written. -/

namespace Sys2Proof.Machine

/-- A byte of a number, where it stands in memory. -/
theorem Mem.bits_byte (m : Mem) (a n j : Nat) : bits (m.nat a (n + (1 + j))) (8 * n) 8 = m.nat (a + n) 1 := by
  have hpow : (2 : Nat) ^ (8 * n) = 256 ^ n := by rw [pow_mul]; rfl
  rw [(Mem.nat_parts (k := 1) (j := j) (rfl : m.nat a (n + (1 + j)) = _)).2, bits, hpow]
  rfl

namespace State

section

variable {s t : State} {table m : Nat}

/-- STATE of a member's entry. -/
theorem memberDead_member : memberDead (s.member table m) = (s.rd .attic (table + 16 * m + 9) 1 % 4 == 1) := by
  have hbyte := s.attic.bits_byte (table + 16 * m) 9 6
  have hfield : bits (s.member table m) 72 2 = bits (s.member table m) 72 8 % 4 := by simp only [bits]; omega
  rw [memberDead, hfield]
  exact congrArg (fun x => x % 4 == 1) hbyte

/-- MISSES of a member's entry. -/
theorem memberMisses_member : memberMisses (s.member table m) = s.rd .attic (table + 16 * m + 10) 1 := s.attic.bits_byte (table + 16 * m) 10 5

/-- An entry is what the Attic holds. -/
theorem member_congr (h : t.attic = s.attic) (table m : Nat) : t.member table m = s.member table m := congrArg (fun x => x.nat (table + 16 * m) 16) h

theorem setAttic_sameBut (s : State) (x : Mem) : s.sameBut [.attic] { s with attic := x } := setMem_sameBut s .attic x

theorem setMemberState_frame (s : State) (table m : Nat) (dead : Bool) : s.sameBut [.attic] (s.setMemberState table m dead) := setAttic_sameBut s _

theorem setMisses_frame (s : State) (table m n : Nat) : s.sameBut [.attic] (s.setMisses table m n) := setAttic_sameBut s _

/-- A member whose STATE is written is DEAD or LIVE from then on. -/
theorem memberDead_setMemberState (s : State) (table m : Nat) (dead : Bool) :
    memberDead ((s.setMemberState table m dead).member table m) = dead := by
  have hread : (s.setMemberState table m dead).rd .attic (table + 16 * m + 9) 1 = _ := rd_wr_self s (.inl (by decide)) _ _ _
  rw [memberDead_member, hread]
  generalize s.rd .attic (table + 16 * m + 9) 1 = v
  cases dead
  · have h : (v - v % 4 + 0) % 256 ^ 1 % 4 ≠ 1 := by omega
    simpa using h
  · have h : (v - v % 4 + 1) % 256 ^ 1 % 4 = 1 := by omega
    simpa using h

theorem memberMisses_setMisses (s : State) (table m n : Nat) : memberMisses ((s.setMisses table m n).member table m) = min 255 n := by
  have hread : (s.setMisses table m n).rd .attic (table + 16 * m + 10) 1 = _ := rd_wr_self s (.inl (by decide)) _ _ _
  rw [memberMisses_member, hread]
  exact Nat.mod_eq_of_lt (by omega)

/-- A write of MISSES leaves STATE as it was. -/
theorem memberDead_setMisses (s : State) (table m n : Nat) :
    memberDead ((s.setMisses table m n).member table m) = memberDead (s.member table m) := by
  have hread : (s.setMisses table m n).rd .attic (table + 16 * m + 9) 1 = s.rd .attic (table + 16 * m + 9) 1 :=
    congrArg ofBytes (Mem.bytes_eq_of_byte fun x _ _ => Mem.byte_writeNat_outside s.attic _ (.inl (by omega)))
  rw [memberDead_member, memberDead_member, hread]

end

end State

end Sys2Proof.Machine

/-! SUPPORT. Frames that arrive for a collective letter (R397, R402, R403, R406): a contribution in its slot of the inbox, and the
input that a frame in time goes into. -/

namespace Sys2Proof.Machine

/-- A run whose input of a source is put in place of any before it. -/
theorem PlRun.input?_of_inputs {r r' : PlRun} {i : PlInput} {o c level src : Nat}
    (h : r'.inputs = r.inputs.filter (fun x => !x.is o c level src) ++ [i]) (hi : i.is o c level src = true) :
    r'.input? o c level src = some i := by
  have hnone : (r.inputs.filter fun x => !x.is o c level src).find? (fun x => x.is o c level src) = none :=
    List.find?_eq_none.2 fun x hx => by simpa using (List.mem_filter.1 hx).2
  rw [PlRun.input?, h, List.find?_append, hnone, Option.none_or]
  exact List.find?_cons_of_pos hi

/-- The input of a source as it stands, or one that begins, is that source's. -/
theorem PlRun.input?_getD_is (r : PlRun) (o c level src port : Nat) :
    ((r.input? o c level src).getD (newInput o c level src port)).is o c level src = true := by
  cases h : r.input? o c level src with
  | none => simp [newInput, PlInput.is]
  | some i => exact List.find?_some (p := fun i : PlInput => i.is o c level src) h

namespace State

/-- A frame arrives for the Peloton engine at a port that is UP and secure. -/
theorem inbound_open {s : State} (h : s.awake [11]) {port : Nat} (hup : s.portUp port = true) (hsec : s.insecure port = false)
    (f : State → State) : s.inbound port f = f s := by
  have hstate : (s.odv (K.portState port) == 2) = true := hup
  simp [inbound, hstate, hsec, h.enabled (b := 11) (by simp)]

/-- A command that is a frame's arrival completes with what the frame does. -/
theorem completes_inbound {s : State} (h : s.awake [11]) {port : Nat} (hup : s.portUp port = true) (hsec : s.insecure port = false)
    {c : Instr} {f : State → State} {P : State → Prop} (he : exec c s = .next (s.inbound port f)) (hP : P (f s)) : Completes c s P :=
  ⟨f s, he.trans (congrArg _ (inbound_open h hup hsec f)), hP⟩

theorem setPel_frame (s : State) (x : PelState) : s.sameBut [.pel] { s with pel := x } := fun f hf => by cases f <;> simp_all [agree]

/-- A payload's bytes are counted, the engine being clocked (R424). -/
theorem received_awake {s : State} (h : s.awake [11]) (port n : Nat) : s.received port n = s.count (Ctr.plReceived + port % 2) n := by
  rw [received, demand_awake h fun _ hb => hb]

theorem plReceived_ne {u : Nat} (port : Nat) (h : u ∉ [Ctr.plReceived, Ctr.plReceived + 1]) : Ctr.plReceived + port % 2 ≠ u := by
  rintro rfl
  rcases Nat.mod_two_eq_zero_or_one port with e | e <;> simp [e] at h

/-! ### A frame that is awaited -/

/-- A run waits for a frame: its unit is not formed, and the source is awaited and has not missed its deadline (R406). -/
structure Awaits (s : State) (r : PlRun) (part : Bool) (h : Nat) (u : PlUnit) : Prop where
  run : s.plRun r.slot = some r
  unit : let x := r.locate part (fhPfmt h) (fhSrc h) (fhChunk h); r.unit? x.1 x.2.1 x.2.2 = some u
  undone : u.done = false
  source : fhSrc h ∈ u.sources
  live : fhSrc h ∉ r.gone
  time : s.pastDeadline r u (fhSrc h) = false

/-- A frame has reached the run at a slot: it is one of its source's input. -/
def Reached (t : State) (r : PlRun) (part : Bool) (h : Nat) (b : List Byte) : Prop :=
  let x := r.locate part (fhPfmt h) (fhSrc h) (fhChunk h)
  ∃ r' i, t.plRun r.slot = some r' ∧ r'.input? x.1 x.2.1 x.2.2 (fhSrc h) = some i ∧ (fhFrame h, b) ∈ i.frames ∧ i.count = fhCount h

section

variable {s t : State} {r : PlRun} {u : PlUnit} {part : Bool} {h : Nat} {b : List Byte}

theorem Awaits.congr (hw : s.Awaits r part h u) (hruns : t.pel.runs = s.pel.runs) (htick : t.tick = s.tick) : t.Awaits r part h u where
  run := (plRun_congr hruns r.slot).trans hw.run
  unit := hw.unit
  undone := hw.undone
  source := hw.source
  live := hw.live
  time := by
    have e : t.pastDeadline r u (fhSrc h) = s.pastDeadline r u (fhSrc h) := by rw [pastDeadline, pastDeadline, htick]
    exact e.trans hw.time

theorem Reached.of_runs (hr : s.Reached r part h b) (hruns : t.pel.runs = s.pel.runs) : t.Reached r part h b := by
  obtain ⟨r', i, hrun, hi⟩ := hr
  exact ⟨r', i, (plRun_congr hruns r.slot).trans hrun, hi⟩

/-- A run keeps the inputs that have reached it while it ripens. -/
theorem Reached.ripens (hr : s.Reached r part h b) (hs : s.Ripens r.slot t) : t.Reached r part h b := by
  obtain ⟨r', i, hrun, hin, hi⟩ := hr
  obtain ⟨r'', hrun', hrr⟩ := hs.run r' hrun
  exact ⟨r'', i, hrun', by rwa [PlRun.input?, hrr.inputs], hi⟩

/-- A frame that is awaited goes into its source's input, and the run takes a step (R406). -/
theorem inputFrame_awaited (hw : s.Awaits r part h u) (port : Nat) (b : List Byte) (poison : Bool) :
    ∃ r' i, s.inputFrame r true part h port b poison = (s.setRun r').plStep r.slot ∧ r'.slot = r.slot ∧ r'.stopped = r.stopped ∧
      let x := r.locate part (fhPfmt h) (fhSrc h) (fhChunk h)
      r'.input? x.1 x.2.1 x.2.2 (fhSrc h) = some i ∧ (fhFrame h, b) ∈ i.frames ∧ i.count = fhCount h := by
  obtain ⟨-, hunit, hdone, hsrc, hgone, htime⟩ := hw
  unfold inputFrame
  dsimp only at hunit ⊢
  generalize r.locate part (fhPfmt h) (fhSrc h) (fhChunk h) = x at hunit ⊢
  have hopen : (u.done || !u.sources.contains (fhSrc h) || r.gone.contains (fhSrc h) ||
      ((r.input? x.1 x.2.1 x.2.2 (fhSrc h)).isNone && s.pastDeadline r u (fhSrc h))) = false := by simp [hdone, hsrc, hgone, htime]
  rw [if_neg (by decide), hunit]
  dsimp only
  rw [hopen, if_neg Bool.false_ne_true]
  exact ⟨_, _, rfl, rfl, rfl, PlRun.input?_of_inputs rfl (r.input?_getD_is x.1 x.2.1 x.2.2 (fhSrc h) port),
    List.mem_append_right _ (List.mem_singleton.2 rfl), rfl⟩

theorem inputFrame_reached (hw : s.Awaits r part h u) (port : Nat) (b : List Byte) (poison : Bool) :
    (s.inputFrame r true part h port b poison).Reached r part h b := by
  obtain ⟨r', i, e, hslot, hstop, hi⟩ := inputFrame_awaited hw port b poison
  have hrun : (s.setRun r').plRun r.slot = some r' := plRun_setRun_self hw.run hslot (hstop.trans (plRun_slot hw.run).2)
  rw [e]
  exact Reached.ripens (s := s.setRun r') ⟨r', i, hrun, hi⟩ (plStep_ripens _ _ _)

/-! ### Contributions -/

/-- What waits of a contribution in slot n of the inbox. -/
def frameAt (s : State) (n port h : Nat) (b : List Byte) : PlFrame :=
  { slot := n, header := h, length := b.length, port := port % 2, tick := s.tick }

/-- A contribution in slot n of the inbox: header, payload, and one of its source's credits taken (R402, R403). -/
def landed (s : State) (n port h : Nat) (b : List Byte) (poison : Bool) : State :=
  let k := creditKey (fhGroup h) (fhSrc h)
  let u := ((s.count (Ctr.plReceived + port % 2) b.length).wrBytes .larder (s.slotAddr n) (leBytes 32 h)).wrBytes .larder (s.slotAddr n + 64) b
  { (if poison then u.poison .larder (s.slotAddr n + 64) b.length else u) with
    pel := { s.pel with frames := s.pel.frames ++ [s.frameAt n port h b], granted := aset 0 s.pel.granted k (aget 0 s.pel.granted k - 1) } }

variable {n port : Nat} {poison : Bool}

theorem contribFrame_full (ha : s.awake [11]) (hn : s.freeInbox = none) :
    s.contribFrame port h b poison = s.count (Ctr.plReceived + port % 2) b.length := by
  have e : (s.count (Ctr.plReceived + port % 2) b.length).freeInbox = none := hn
  rw [contribFrame, received_awake ha, e]

theorem contribFrame_landed (ha : s.awake [11]) (hn : s.freeInbox = some n) :
    s.contribFrame port h b poison = ((s.landed n port h b poison).takeFrame (s.frameAt n port h b)).repairedSends := by
  have e : (s.count (Ctr.plReceived + port % 2) b.length).freeInbox = some n := hn
  rw [contribFrame, received_awake ha, e]
  cases poison <;> rfl

theorem landed_frame (s : State) (n port h : Nat) (b : List Byte) (poison : Bool) : s.sameBut [.larder, .meter, .pel] (s.landed n port h b poison) := by
  have hput : ∀ (t : State) (f : Mem → Mem), t.sameBut [.larder] (t.put .larder f) := fun t f => setLarder_sameBut t _
  have hcount : s.sameBut [.larder, .meter] (s.count (Ctr.plReceived + port % 2) b.length) := (count_evolves s _ _).frame.mono rfl
  unfold landed
  extract_lets k u
  have hu : s.sameBut [.larder, .meter] u := (hcount.step (hput _ _) rfl).step (hput _ _) rfl
  refine sameBut.step (t := if poison then u.poison .larder (s.slotAddr n + 64) b.length else u) ?_ (setPel_frame _ _) rfl
  split <;> [exact (hu.mono rfl).step (hput u _) rfl; exact hu.mono rfl]

theorem landed_cells (s : State) (n port h : Nat) (b : List Byte) (poison : Bool) : (s.landed n port h b poison).larder.cells =
    ((s.larder.write (s.slotAddr n) (leBytes 32 h)).write (s.slotAddr n + 64) b).cells := by
  cases poison
  · rfl
  · exact Mem.cells_poisonRange _ _ _

/-- The payload stands in its slot. -/
theorem landed_payload (s : State) (n port h : Nat) (b : List Byte) (poison : Bool) :
    (s.landed n port h b poison).rdBytes .larder (s.slotAddr n + 64) b.length = b :=
  (Mem.bytes_congr (s.landed_cells n port h b poison) _ _).trans (Mem.bytes_write_self _ _ b)

/-- The header stands in its slot. -/
theorem landed_header (s : State) (n port h : Nat) (b : List Byte) (poison : Bool) :
    (s.landed n port h b poison).rdBytes .larder (s.slotAddr n) 32 = leBytes 32 h := by
  have hapart : ∀ m : Mem, (m.write (s.slotAddr n + 64) b).bytes (s.slotAddr n) 32 = m.bytes (s.slotAddr n) 32 := fun m =>
    Mem.bytes_eq_of_byte fun x _ hx => Mem.byte_write_outside m _ x b (.inl (by omega))
  have hself := s.larder.bytes_write_self (s.slotAddr n) (leBytes 32 h)
  rw [leBytes_length] at hself
  exact (Mem.bytes_congr (s.landed_cells n port h b poison) _ _).trans ((hapart _).trans hself)

theorem landed_received (s : State) (n port h : Nat) (b : List Byte) (poison : Bool) :
    (s.landed n port h b poison).ctr (Ctr.plReceived + port % 2) = (s.ctr (Ctr.plReceived + port % 2) + b.length) % 2 ^ 64 := by
  have e : (s.landed n port h b poison).ctr (Ctr.plReceived + port % 2) =
      (s.count (Ctr.plReceived + port % 2) b.length).ctr (Ctr.plReceived + port % 2) := by cases poison <;> rfl
  rw [e, ctr_count, if_pos rfl]

/-- A slot of the inbox keeps its place. -/
theorem landed_slotAddr (s : State) (n port h : Nat) (b : List Byte) (poison : Bool) : (s.landed n port h b poison).slotAddr n = s.slotAddr n :=
  congrArg (· + 32832 * n) ((s.landed_frame n port h b poison).odv (by decide) K.plInboxBase)

theorem repairedSends_none (h : s.pel.voided = []) : s.repairedSends = s := by rw [repairedSends, h, List.foldl_nil]

/-- With neither a running nor a past letter of its TAG a contribution waits in its slot (R397). -/
theorem contribFrame_waits (ha : s.awake [11]) (hn : s.freeInbox = some n) (hvoid : s.pel.voided = [])
    (hrun : s.runOf (fhGroup h) (fhTag h) = none) (hpast : s.pel.hist.find? (fun r => r.group == fhGroup h && r.tag == fhTag h) = none) :
    s.contribFrame port h b poison = s.landed n port h b poison := by
  have hrun' : (s.landed n port h b poison).runOf (fhGroup h) (fhTag h) = none := hrun
  have hpast' : (s.landed n port h b poison).pel.hist.find? (fun r => r.group == fhGroup h && r.tag == fhTag h) = none := hpast
  have hwait : (s.landed n port h b poison).takeFrame (s.frameAt n port h b) = s.landed n port h b poison := by
    rw [takeFrame]
    dsimp only [frameAt]
    rw [hrun', hpast']
  rw [contribFrame_landed ha hn, hwait]
  exact repairedSends_none hvoid

/-- A contribution that its letter awaits leaves its slot and reaches it (R403, R406). -/
theorem contribFrame_reached (ha : s.awake [11]) (hn : s.freeInbox = some n) (hrun : s.runOf (fhGroup h) (fhTag h) = some r)
    (hw : s.Awaits r false h u) : (s.contribFrame port h b poison).Reached r false h b := by
  rw [contribFrame_landed ha hn]
  refine Reached.of_runs ?_ (repairedSends_runs _)
  have hrun' : (s.landed n port h b poison).runOf (fhGroup h) (fhTag h) = some r := hrun
  have hpayload := s.landed_payload n port h b poison
  rw [← s.landed_slotAddr n port h b poison] at hpayload
  rw [takeFrame]
  dsimp only [frameAt]
  rw [hrun']
  dsimp only
  unfold consume
  dsimp only
  rw [hpayload]
  refine inputFrame_reached (hw.congr ?_ ?_) _ _ _
  · rw [(returnCredit_spec _ h).1]
    rfl
  · exact ((returnCredit_evolves _ h).frame .tick (by decide)).trans ((s.landed_frame n port h b poison) .tick (by decide))

end

end State

end Sys2Proof.Machine

/-! SUPPORT. Parts and late frames (R397, R408, R409, R411, R413): what waits, what is counted, and what is added to the carry. -/

namespace Sys2Proof.Machine

namespace State

section

variable {s : State} {r : PlRun} {u : PlUnit} {port h : Nat} {b : List Byte} {poison : Bool}

/-! ### Parts -/

/-- A part that its letter awaits reaches it (R411). -/
theorem partFrame_reached (ha : s.awake [11]) (hrun : s.runOf (fhGroup h) (fhTag h) = some r) (hw : s.Awaits r true h u) :
    (s.partFrame port h b poison).Reached r true h b := by
  have hrun' : (s.count (Ctr.plReceived + port % 2) b.length).runOf (fhGroup h) (fhTag h) = some r := hrun
  rw [partFrame, received_awake ha]
  dsimp only
  rw [hrun']
  exact inputFrame_reached (s := s.count (Ctr.plReceived + port % 2) b.length) (hw.congr rfl rfl) _ _ _

/-- A part before its letter is held until then (R397). -/
theorem partFrame_held (ha : s.awake [11]) (hrun : s.runOf (fhGroup h) (fhTag h) = none) (hended : (fhGroup h, fhTag h) ∉ s.pel.ended) :
    s.partFrame port h b poison = { s.count (Ctr.plReceived + port % 2) b.length with
      pel := { s.pel with early := s.pel.early ++ [⟨h, b, poison, port % 2, s.tick⟩] } } := by
  have hrun' : (s.count (Ctr.plReceived + port % 2) b.length).runOf (fhGroup h) (fhTag h) = none := hrun
  have hended' : (s.count (Ctr.plReceived + port % 2) b.length).pel.ended.contains (fhGroup h, fhTag h) = false := by simpa using hended
  rw [partFrame, received_awake ha]
  dsimp only
  rw [hrun']
  dsimp only
  rw [hended', if_neg Bool.false_ne_true]
  rfl

/-- A part after its letter is late; its last frame is counted (R411). -/
theorem partFrame_late (ha : s.awake [11]) (hrun : s.runOf (fhGroup h) (fhTag h) = none) (hended : (fhGroup h, fhTag h) ∈ s.pel.ended) :
    s.partFrame port h b poison = if fhLast h then (s.count (Ctr.plReceived + port % 2) b.length).count Ctr.plLateDropped 1
      else s.count (Ctr.plReceived + port % 2) b.length := by
  have hrun' : (s.count (Ctr.plReceived + port % 2) b.length).runOf (fhGroup h) (fhTag h) = none := hrun
  have hended' : (s.count (Ctr.plReceived + port % 2) b.length).pel.ended.contains (fhGroup h, fhTag h) = true := by simpa using hended
  rw [partFrame, received_awake ha]
  dsimp only
  rw [hrun']
  dsimp only
  rw [hended', if_pos rfl]

/-! ### Late frames -/

/-- A late input of one frame is whole at once, and is acted on (R408). -/
theorem lateFrame_single {c : Nat} (hlast : fhLast h = true) (hfirst : fhFrame h = 0)
    (hnew : ∀ p ∈ s.pel.lates, ¬(p.1 = (fhGroup h, fhTag h) ∧ p.2.src = fhSrc h ∧ p.2.chunk = c)) :
    s.lateFrame h c b false = s.lateAct (fhGroup h) (fhTag h) c (fhCount h) (fhPfmt h) (fhStep h) b := by
  unfold lateFrame
  extract_lets key mine i0 i rest w x
  have hmine : ∀ p ∈ s.pel.lates, mine p = false := fun p hp => by
    have hp' := hnew p hp
    simp only [mine, key, Bool.and_eq_false_iff, beq_eq_false_iff_ne]
    tauto
  have hi0 : i0 = newInput 0 c 0 (fhSrc h) 0 := by
    have hnone : s.pel.lates.find? mine = none := List.find?_eq_none.2 fun p hp => by simp [hmine p hp]
    simp only [i0, hnone, Option.map_none, Option.getD_none]
  have hrest : rest = s.pel.lates := List.filter_eq_self.2 fun p hp => by simp [hmine p hp]
  have hlast' : i.last = some 0 := by simp [i, addFrame, hlast, hfirst]
  have hframes : i.frames = [(0, b)] := by simp [i, addFrame, hi0, newInput, hfirst]
  have hwhole : i.whole = true := by simp [PlInput.whole, hlast', hframes]
  have hbytes : i.bytes = b := by simp [PlInput.bytes, hlast', hframes]
  have hclean : i.poison = false := by simp [i, addFrame, hi0, newInput]
  have hx : x = s := by
    simp only [x, w, hrest]
  rw [if_pos hwhole, if_neg (by simp [hclean]), hbytes, hx]
  rfl

section

variable {g tag c count pfmt step : Nat} {d : TDesc} (hr : s.pel.hist.find? (fun r => r.group == g && r.tag == tag) = some r) (hd : r.s = some d)

include hr hd

/-- A late chunk that the carry cannot take is dropped and counted (R409, R413). -/
theorem lateAct_dropped
    (hdrop : r.proto = 0x30 ∨ capIn r.captain K.plLatePolicy = 0 ∨ r.chunks r.me ≤ c ∨ 65535 < s.carryN r c + count + r.members) :
    s.lateAct g tag c count pfmt step b = s.count Ctr.plLateDropped 1 := by
  have hdrop' : (r.proto == 0x30 || capIn r.captain K.plLatePolicy == 0 || r.chunks r.me ≤ c || 65535 < s.carryN r c + count + r.members) = true := by
    simpa [or_assoc] using hdrop
  rw [lateAct, hr]
  dsimp only
  rw [hd]
  dsimp only
  rw [if_pos hdrop']

/-- A late chunk is added to the carry of its chunk, and its count to the carry's (R409). -/
theorem lateAct_added (hproto : r.proto ≠ 0x30) (hpolicy : capIn r.captain K.plLatePolicy ≠ 0) (hc : c < r.chunks r.me)
    (hroom : s.carryN r c + count + r.members ≤ 65535) (hcount : count ≠ 0) :
    ∃ cells, s.lateAct g tag c count pfmt step b =
      ((s.wrCells d.space cells).wr (carryCount d c).space (carryCount d c).addr 2 (s.carryN r c + count)).count Ctr.plLateAdded 1 := by
  have hkeep : (r.proto == 0x30 || capIn r.captain K.plLatePolicy == 0 || r.chunks r.me ≤ c || 65535 < s.carryN r c + count + r.members) = false := by
    simp [hproto, hpolicy, hc, hroom]
  have hcount' : (count == 0) = false := by simpa using hcount
  rw [lateAct, hr]
  dsimp only
  rw [hd]
  dsimp only
  rw [if_neg (by simp [hkeep]), if_neg (by simp [hcount'])]
  exact ⟨_, rfl⟩

end

/-- A change of a memory of the part itself is made, and nothing else. -/
theorem put_own {sp : Space} (h : sp ≠ .host) (s : State) (f : Mem → Mem) : s.put sp f = s.setMem sp (f (s.mem sp)) := by
  have e : (sp == .host && s.hostDown) = false := by simp [h]
  rw [put, e, if_neg Bool.false_ne_true]

/-- What adding to a carry in the part's own memory leaves (R409). -/
theorem carried_spec {d : TDesc} (hspace : d.space ≠ .host) (hd : r.s = some d) (s : State) (cells : List Host.Cell) (c : Nat) {n : Nat} (hn : n < 65536) :
    let t := ((s.wrCells d.space cells).wr (carryCount d c).space (carryCount d c).addr 2 n).count Ctr.plLateAdded 1
    t.carryN r c = n ∧ t.ctr Ctr.plLateAdded = (s.ctr Ctr.plLateAdded + 1) % 2 ^ 64 ∧ s.ctrSame [Ctr.plLateAdded] t ∧
      s.sameBut [.attic, .cellar, .larder, .meter] t := by
  extract_lets t
  let v := (s.wrCells d.space cells).wr (carryCount d c).space (carryCount d c).addr 2 n
  have hsub : ∀ sp : Space, sp ≠ .host → Fld.sub [spaceFld sp] [.attic, .cellar, .larder, .meter] = true := fun sp h => by
    cases sp with
    | host => exact absurd rfl h
    | attic | cellar | larder => rfl
  have hstep : ∀ (x : State) (f : Mem → Mem), (x.put d.space f).meter = x.meter ∧ x.sameBut [.attic, .cellar, .larder, .meter] (x.put d.space f) := fun x f => by
    rw [put_own hspace]
    exact ⟨setMem_meter .., sameBut.mono (setMem_sameBut x d.space _) (hsub d.space hspace)⟩
  obtain ⟨hmeter1, hframe1⟩ := hstep s fun m => m.writeCells cells
  obtain ⟨hmeter2, hframe2⟩ := hstep (s.wrCells d.space cells) fun m => m.writeNat (carryCount d c).addr 2 n
  have hmeter : v.meter = s.meter := hmeter2.trans hmeter1
  have hctr : v.ctr Ctr.plLateAdded = s.ctr Ctr.plLateAdded := ctrSame.of_meter (us := []) hmeter _ (by simp)
  have hcarry : t.carryN r c = v.rd (carryCount d c).space (carryCount d c).addr 2 := by
    simp only [carryN, hd]
    exact congrArg (fun m : Mem => m.nat (carryCount d c).addr 2) (count_mem ..)
  have hread : v.rd (carryCount d c).space (carryCount d c).addr 2 = n :=
    (rd_wr_self (s.wrCells d.space cells) (sp := d.space) (.inl hspace) _ _ _).trans (Nat.mod_eq_of_lt hn)
  refine ⟨hcarry.trans hread, ?_, (ctrSame.of_meter hmeter).trans (ctrSame_count v _ 1), (hframe1.step hframe2 rfl).step (count_evolves v _ 1).frame rfl⟩
  rw [ctr_count, if_pos rfl, hctr]

/-- A payload that is counted and dropped. -/
theorem lost_spec (s : State) (port n : Nat) : let t := (s.count (Ctr.plReceived + port % 2) n).count Ctr.plLateDropped 1
    t.ctr (Ctr.plReceived + port % 2) = (s.ctr (Ctr.plReceived + port % 2) + n) % 2 ^ 64 ∧ s.sameBut [.meter] t ∧
      t.ctr Ctr.plLateDropped = (s.ctr Ctr.plLateDropped + 1) % 2 ^ 64 := by
  have hne := plReceived_ne (u := Ctr.plLateDropped) port (by decide)
  refine ⟨?_, (count_evolves s _ n).frame.step (count_evolves _ _ 1).frame rfl, ?_⟩
  · rw [ctr_count, if_neg hne, ctr_count, if_pos rfl]
  · rw [ctr_count, if_pos rfl, ctr_count, if_neg hne.symm]

section

variable {d : TDesc} (ha : s.awake [11]) (hlast : fhLast h = true) (hfirst : fhFrame h = 0)
  (hnew : ∀ p ∈ s.pel.lates, ¬(p.1 = (fhGroup h, fhTag h) ∧ p.2.src = fhSrc h ∧ p.2.chunk = fhChunk h))
  (hr : s.pel.hist.find? (fun r => r.group == fhGroup h && r.tag == fhTag h) = some r) (hd : r.s = some d)

include ha hlast hfirst hnew

theorem lateArrival_single (port : Nat) (b : List Byte) : s.lateArrival port h b false =
    (s.count (Ctr.plReceived + port % 2) b.length).lateAct (fhGroup h) (fhTag h) (fhChunk h) (fhCount h) (fhPfmt h) (fhStep h) b := by
  rw [lateArrival, received_awake ha]
  exact lateFrame_single (s := s.count (Ctr.plReceived + port % 2) b.length) hlast hfirst hnew

include hr hd

/-- A LATE frame that is a whole chunk is counted and dropped where the carry cannot take it (R408, R409). -/
theorem lateArrival_dropped (port : Nat) (b : List Byte) (hdrop : r.proto = 0x30 ∨ capIn r.captain K.plLatePolicy = 0 ∨ r.chunks r.me ≤ fhChunk h ∨
      65535 < s.carryN r (fhChunk h) + fhCount h + r.members) :
    s.lateArrival port h b false = (s.count (Ctr.plReceived + port % 2) b.length).count Ctr.plLateDropped 1 := by
  rw [lateArrival_single ha hlast hfirst hnew]
  exact lateAct_dropped (s := s.count (Ctr.plReceived + port % 2) b.length) hr hd hdrop

/-- Where the carry can, the chunk is added to it (R408, R409). -/
theorem lateArrival_added (port : Nat) (b : List Byte) (hproto : r.proto ≠ 0x30) (hpolicy : capIn r.captain K.plLatePolicy ≠ 0)
    (hc : fhChunk h < r.chunks r.me) (hroom : s.carryN r (fhChunk h) + fhCount h + r.members ≤ 65535) (hcount : fhCount h ≠ 0)
    (hspace : d.space ≠ .host) :
    let t := s.lateArrival port h b false
    t.ctr (Ctr.plReceived + port % 2) = (s.ctr (Ctr.plReceived + port % 2) + b.length) % 2 ^ 64 ∧
      t.carryN r (fhChunk h) = s.carryN r (fhChunk h) + fhCount h ∧ t.ctr Ctr.plLateAdded = (s.ctr Ctr.plLateAdded + 1) % 2 ^ 64 ∧
      s.sameBut [.attic, .cellar, .larder, .meter] t := by
  have hne := plReceived_ne (u := Ctr.plLateAdded) port (by decide)
  obtain ⟨cells, e⟩ := lateAct_added (s := s.count (Ctr.plReceived + port % 2) b.length) (pfmt := fhPfmt h) (step := fhStep h) (b := b)
    hr hd hproto hpolicy hc hroom hcount
  obtain ⟨hcarry, hadded, hunits, hframe⟩ := carried_spec hspace hd (s.count (Ctr.plReceived + port % 2) b.length) cells (fhChunk h)
    (n := s.carryN r (fhChunk h) + fhCount h) (by omega)
  dsimp only
  rw [lateArrival_single ha hlast hfirst hnew, e]
  refine ⟨(hunits _ (by simpa using hne)).trans ?_, hcarry, hadded.trans ?_, ((count_evolves s _ _).frame.mono rfl).step hframe rfl⟩
  · rw [ctr_count, if_pos rfl]
  · rw [ctr_count, if_neg hne.symm]

end

end

end State

end Sys2Proof.Machine

/-! SUPPORT. A CREDIT frame (R403): with it one more frame leaves for its member, or the credit is kept. -/

namespace Sys2Proof.Machine

namespace State

section

variable {s : State} {h : Nat}

/-- The running letters whose work is done are noted so. -/
def settleRuns (s : State) : State := s.pel.runs.foldl (fun st r => st.plSettle r.slot) s

/-- A credit that has come. -/
def credited (s : State) (h : Nat) : State :=
  let k := creditKey (fhGroup h) (fhSrc h)
  { s with pel := { s.pel with credits := aset 0 s.pel.credits k (aget 0 s.pel.credits k + 1) } }

theorem credited_credits (s : State) (h : Nat) : (s.credited h).pel.credits =
    aset 0 s.pel.credits (creditKey (fhGroup h) (fhSrc h)) (aget 0 s.pel.credits (creditKey (fhGroup h) (fhSrc h)) + 1) := rfl

theorem creditArrival_eq (s : State) (h : Nat) : s.creditArrival h = (s.credited h).plPump.settleRuns := rfl

theorem plPumpGo_nil (hq : s.pel.outq = []) (n : Nat) : s.plPumpGo n = s := by
  cases n with
  | zero => rfl
  | succ n => rw [plPumpGo, hq, List.find?_nil]

/-- With nothing waiting to leave, a letter's work may be noted as done, and its threads released (R234). -/
theorem plSettle_frame (hq : s.pel.outq = []) (slot : Nat) : s.sameBut [.lb, .porch] (s.plSettle slot) := by
  unfold plSettle
  split
  · exact .refl _ s
  · rw [hq, List.filter_nil, List.foldl_nil]
    split
    · dsimp only
      split
      · exact .refl _ s
      · exact ((setOp_evolves s _).frame.mono rfl).step (releaseReads_evolves _ _).frame rfl
    · exact .refl _ s

theorem settleRuns_frame (hq : s.pel.outq = []) : s.sameBut [.lb, .porch] s.settleRuns :=
  List.foldlRecOn (motive := fun t => s.sameBut [.lb, .porch] t) _ _ (.refl _ s) fun t ht r _ =>
    ht.step (plSettle_frame ((congrArg PelState.outq (ht .pel (by decide))).trans hq) r.slot) rfl

/-- With nothing waiting to leave, a credit is kept. -/
theorem creditArrival_idle (hq : s.pel.outq = []) : (s.creditArrival h).pel = (s.credited h).pel ∧ s.sameBut [.lb, .pel, .porch] (s.creditArrival h) := by
  have hcredited : s.sameBut [.pel] (s.credited h) := setPel_frame s _
  have hsettled : (s.credited h).sameBut [.lb, .porch] (s.credited h).settleRuns := settleRuns_frame (s := s.credited h) hq
  rw [creditArrival_eq, plPump, plPumpGo_nil (s := s.credited h) hq]
  exact ⟨hsettled .pel (by decide), (hcredited.mono rfl).step hsettled rfl⟩

/-- The one frame that waits leaves with a credit of its member. -/
theorem plPump_single {it : PlItem} {f : Nat × List Byte} {p : Nat} (hq : s.pel.outq = [it]) (hf : it.frames = some [f])
    (hcredit : 0 < aget 0 s.pel.credits (creditKey it.group it.dst)) (hp : s.plPort it.ports it.chunk = some p) (hsec : s.insecure p = false) :
    s.plPump.pel = { s.pel with
      outq := [], credits := aset 0 s.pel.credits (creditKey it.group it.dst) (aget 0 s.pel.credits (creditKey it.group it.dst) - 1) } ∧
    s.plPump.sent = s.sent ++ [.frame (fhOp f.1) it.dst p (leBytes 32 f.1 ++ f.2) []] := by
  have hfind : s.pel.outq.find? (fun it => 0 < aget 0 s.pel.credits (creditKey it.group it.dst)) = some it := by
    rw [hq, List.find?_cons_of_pos (by simpa using hcredit)]
  let u : State := { s with pel := { s.pel with
    credits := aset 0 s.pel.credits (creditKey it.group it.dst) (aget 0 s.pel.credits (creditKey it.group it.dst) - 1) } }
  have hport : u.plPort it.ports it.chunk = some p := hp
  have hsecure : u.insecure p = false := hsec
  have hsend : u.plSend it.ports it.chunk it.dst f =
      (u.send (.frame (fhOp f.1) it.dst p (leBytes 32 f.1 ++ f.2) [])).count (Ctr.plSent + p) f.2.length := by
    rw [plSend, hport]
    dsimp only
    rw [hsecure, if_neg Bool.false_ne_true]
  have hitem : s.plSendItem it = (u.plSend it.ports it.chunk it.dst f).setItem { it with frames := some [] } false := by
    rw [plSendItem, hf]
    rfl
  have hsame : it.same { it with frames := some [] } = true := by simp [PlItem.same]
  have hgone : (s.plSendItem it).pel = { u.pel with outq := [] } := by
    rw [hitem, hsend]
    have hfilter : u.pel.outq.filter (fun x => !x.same { it with frames := some [] }) = [] := by
      rw [show u.pel.outq = [it] from hq]
      simp [hsame]
    exact congrArg (fun q => { u.pel with outq := q }) hfilter
  rw [plPump, plPumpGo, hfind]
  dsimp only
  rw [plPumpGo_nil (by rw [hgone])]
  exact ⟨hgone, by rw [hitem, hsend]; rfl⟩

/-- A credit lets the one frame that waits for it leave. -/
theorem creditArrival_sends {it : PlItem} {f : Nat × List Byte} {p : Nat} (hq : s.pel.outq = [it]) (hf : it.frames = some [f])
    (hg : it.group = fhGroup h) (hdst : it.dst = fhSrc h) (hp : s.plPort it.ports it.chunk = some p) (hsec : s.insecure p = false) :
    (s.creditArrival h).pel.outq = [] ∧
      aget 0 (s.creditArrival h).pel.credits (creditKey (fhGroup h) (fhSrc h)) = aget 0 s.pel.credits (creditKey (fhGroup h) (fhSrc h)) ∧
      (s.creditArrival h).sent = s.sent ++ [.frame (fhOp f.1) it.dst p (leBytes 32 f.1 ++ f.2) []] := by
  have hkey : creditKey it.group it.dst = creditKey (fhGroup h) (fhSrc h) := by rw [hg, hdst]
  have hhas : aget 0 (s.credited h).pel.credits (creditKey it.group it.dst) = aget 0 s.pel.credits (creditKey (fhGroup h) (fhSrc h)) + 1 := by
    rw [hkey, credited_credits, aget_aset_self]
  obtain ⟨hpel, hsent⟩ := plPump_single (s := s.credited h) hq hf (by omega) hp hsec
  have hsettled := settleRuns_frame (s := (s.credited h).plPump) (by rw [hpel])
  have hpel' : (s.creditArrival h).pel = _ := (hsettled .pel (by decide)).trans hpel
  refine ⟨by rw [hpel'], ?_, (hsettled .sent (by decide)).trans hsent⟩
  rw [hpel', hhas, hkey]
  exact aget_aset_self (d := 0)

end

end State

end Sys2Proof.Machine

/-! SUPPORT. Members that are declared dead, expelled, or live again (R414, R415, R417). -/

namespace Sys2Proof.Machine

namespace State

section

variable {s : State} {g m h : Nat}

/-! ### Members that are gone -/

/-- With no letter running, a member that is gone takes with it no more than the chunks that waited for it (R416). -/
theorem memberGone_idle (hruns : s.pel.runs = []) (g m : Nat) : s.sameBut [.meter, .pel] (s.memberGone g m) ∧ s.ctrSame [Ctr.plOrphans] (s.memberGone g m) := by
  let u : State := { s with pel := { s.pel with outq := s.pel.outq.filter fun it => !(it.slot == 8 && it.group == g && it.dst == m) } }
  have e : ∃ n, s.memberGone g m = u.count Ctr.plOrphans n := by
    unfold memberGone
    extract_lets past p v w
    have hw : w.pel.runs = [] := hruns
    rw [hw]
    exact ⟨_, rfl⟩
  obtain ⟨n, e⟩ := e
  have hu : s.sameBut [.pel] u := setPel_frame s _
  rw [e]
  exact ⟨(hu.mono rfl).step (count_evolves u _ n).frame rfl, (ctrSame.of_meter (t := u) rfl).trans (ctrSame_count u _ n)⟩

/-- A member marked DEAD, and PELOTON_DEAD raised. -/
def markedDead (s : State) (g m : Nat) : State := (s.setMemberState (s.groupTable g) m true).raise Bell.pelotonDead

theorem markedDead_spec (s : State) (g m : Nat) : memberDead ((s.markedDead g m).member (s.groupTable g) m) = true ∧
    Bell.pelotonDead ∈ (s.markedDead g m).bell.level ∧ s.sameBut [.attic, .bell] (s.markedDead g m) := by
  refine ⟨?_, (mem_level_raise _ _ _).2 (.inl rfl), ((setMemberState_frame s _ m true).mono rfl).step (raise_evolves _ _).frame rfl⟩
  rw [markedDead, member_congr (raise_attic _ _), memberDead_setMemberState]

/-! ### Notices -/

/-- The letters of a list that belong to a group are stopped (R415). -/
def stopGroup (s : State) (g : Nat) (l : List PlRun) : State :=
  l.foldl (fun st r => if r.group == g && !r.stopped then st.plStop r Err.plExpelled else st) s

theorem plStop_pel (s : State) (r : PlRun) (err : Nat) : (s.plStop r err).pel = { s.pel with
    runs := s.pel.runs.map (fun x => if x.slot == r.slot then { x with stopped := true } else x), outq := s.pel.outq.filter fun it => it.slot != r.slot } := by
  unfold plStop
  dsimp only
  split <;> rfl

/-- A run that goes on after one is stopped went on before, at another slot. -/
theorem mem_runs_plStop {r x : PlRun} {err : Nat} (hx : x ∈ (s.plStop r err).pel.runs) (hgo : x.stopped = false) : x ∈ s.pel.runs ∧ r.slot ≠ x.slot := by
  rw [plStop_pel] at hx
  obtain ⟨y, hy, rfl⟩ := List.mem_map.1 hx
  by_cases hslot : y.slot = r.slot
  · simp [hslot] at hgo
  · have e : (y.slot == r.slot) = false := by simpa using hslot
    simp only [e, Bool.false_eq_true, if_false]
    exact ⟨hy, Ne.symm hslot⟩

/-- A run that goes on after letters of a group are stopped went on before, and is none of them. -/
theorem mem_runs_stopGroup {l : List PlRun} {x : PlRun} (hx : x ∈ (s.stopGroup g l).pel.runs) (hgo : x.stopped = false) :
    x ∈ s.pel.runs ∧ ∀ r ∈ l, r.group = g → r.stopped = false → r.slot ≠ x.slot := by
  induction l generalizing s with
  | nil => exact ⟨hx, fun r hr => absurd hr List.not_mem_nil⟩
  | cons r l ih =>
    rw [stopGroup, List.foldl_cons] at hx
    obtain ⟨hin, hothers⟩ := ih hx
    simp only [List.mem_cons, forall_eq_or_imp]
    split at hin
    · obtain ⟨hmem, hslot⟩ := mem_runs_plStop hin hgo
      exact ⟨hmem, fun _ _ => hslot, hothers⟩
    · next hskip => exact ⟨hin, fun hg hstop => absurd (by simp [hg, hstop]) hskip, hothers⟩

theorem stopGroup_kept (s : State) (g : Nat) (l : List PlRun) : (s.stopGroup g l).pel.expelled = s.pel.expelled ∧ (s.stopGroup g l).bell = s.bell := by
  refine List.foldlRecOn (motive := fun t : State => t.pel.expelled = s.pel.expelled ∧ t.bell = s.bell) _ _ ⟨rfl, rfl⟩ fun t ht r _ => ?_
  split
  · exact ⟨by rw [plStop_pel]; exact ht.1, ((plStop_evolves t r _).frame .bell (by decide)).trans ht.2⟩
  · exact ht

/-- A notice of this module itself expels it from the group and stops the group's letters (R415). -/
theorem noticeArrival_own (hm : fhChunk h = s.cap (K.plGroup (fhGroup h) 2)) :
    fhGroup h ∈ (s.noticeArrival h).pel.expelled ∧ Bell.pelotonExpelled ∈ (s.noticeArrival h).bell.level ∧
      ∀ r ∈ (s.noticeArrival h).pel.runs, r.group = fhGroup h → r.stopped = true := by
  let u := ({ s with pel := { s.pel with expelled := sadd s.pel.expelled (fhGroup h) } } : State).raise Bell.pelotonExpelled
  have e : s.noticeArrival h = u.stopGroup (fhGroup h) u.pel.runs := by
    unfold noticeArrival
    dsimp only
    rw [if_pos (by simpa using hm)]
    rfl
  obtain ⟨hexpelled, hbell⟩ := u.stopGroup_kept (fhGroup h) u.pel.runs
  rw [e, hexpelled, hbell]
  refine ⟨?_, (mem_level_raise _ _ _).2 (.inl rfl), fun r hr hg => ?_⟩
  · rw [show u.pel = _ from raise_pel _ _]
    exact mem_sadd.2 (.inl rfl)
  · by_contra hgo
    obtain ⟨hmem, hnone⟩ := mem_runs_stopGroup hr (by simpa using hgo)
    exact hnone r hmem hg (by simpa using hgo) rfl

/-- A notice of another member makes it DEAD (R415). -/
theorem noticeArrival_other (hm : fhChunk h ≠ s.cap (K.plGroup (fhGroup h) 2)) (hruns : s.pel.runs = []) :
    memberDead ((s.noticeArrival h).member (s.groupTable (fhGroup h)) (fhChunk h)) = true ∧ Bell.pelotonDead ∈ (s.noticeArrival h).bell.level ∧
      s.sameBut [.attic, .meter, .bell, .pel] (s.noticeArrival h) := by
  have e : s.noticeArrival h = (s.markedDead (fhGroup h) (fhChunk h)).memberGone (fhGroup h) (fhChunk h) := by
    unfold noticeArrival
    dsimp only
    rw [if_neg (by simpa using hm)]
    rfl
  obtain ⟨hdead, hbell, hframe⟩ := s.markedDead_spec (fhGroup h) (fhChunk h)
  obtain ⟨hgone, -⟩ := memberGone_idle (s := s.markedDead (fhGroup h) (fhChunk h))
    ((congrArg PelState.runs (hframe .pel (by decide))).trans hruns) (fhGroup h) (fhChunk h)
  have hlevel : ((s.markedDead (fhGroup h) (fhChunk h)).memberGone (fhGroup h) (fhChunk h)).bell = _ := hgone .bell (by decide)
  rw [e, member_congr (hgone .attic (by decide)), hlevel]
  exact ⟨hdead, hbell, (hframe.mono rfl).step hgone rfl⟩

/-! ### Declarations -/

/-- What the declaration of a member as dead leaves, with no letter running (R414). -/
structure DeclaredDead (s : State) (g m : Nat) (t : State) : Prop where
  dead : memberDead (t.member (s.groupTable g) m) = true
  bell : Bell.pelotonDead ∈ t.bell.level
  counted : t.ctr Ctr.plDead = (s.ctr Ctr.plDead + 1) % 2 ^ 64
  frame : s.sameBut [.attic, .meter, .bell, .pel, .sent] t

theorem declareDead_spec (hme : m ≠ s.cap (K.plGroup g 2)) (hlt : m < s.cap (K.plGroup g 1)) (hlive : memberDead (s.member (s.groupTable g) m) = false)
    (hruns : s.pel.runs = []) : s.DeclaredDead g m (s.declareDead g m) ∧
      s.ctrSame [Ctr.plDead, Ctr.plOrphans, Ctr.plSent, Ctr.plSent + 1] (s.declareDead g m) := by
  generalize ht : s.declareDead g m = t
  unfold declareDead at ht
  extract_lets n me table u v at ht
  have hcond : (m == me || n ≤ m || memberDead (s.member table m)) = false := by simp [me, n, table, hme, hlt, hlive]
  rw [hcond, if_neg Bool.false_ne_true] at ht
  obtain ⟨hdead, hbell, hmarked⟩ := s.markedDead_spec g m
  have hu : u = (s.markedDead g m).count Ctr.plDead 1 := rfl
  have hctr : u.ctr Ctr.plDead = (s.ctr Ctr.plDead + 1) % 2 ^ 64 := by
    rw [hu, ctr_count, if_pos rfl, ctrSame.of_meter (us := []) (hmarked .meter (by decide)) _ (by simp)]
  have hunits : s.ctrSame [Ctr.plDead] u := (ctrSame.of_meter (hmarked .meter (by decide))).trans (ctrSame_count _ _ 1)
  have hframe : s.sameBut [.attic, .meter, .bell] u := (hmarked.mono rfl).step (count_evolves _ _ 1).frame rfl
  have hv : u.sameBut [.meter, .sent] v ∧ u.ctrSame [Ctr.plSent, Ctr.plSent + 1] v := by
    refine ⟨sameBut.foldl (fun t x => ?_) _ u, ctrSame.foldl (fun t x => ?_) _ u⟩
    · split <;> [exact .refl _ t; exact (plSend_evolves t _ _ _ _).frame]
    · split <;> [exact .refl _ t; exact plSend_ctrSame (memberPorts_lt t g x) t _ _ _]
  obtain ⟨hnotes, hnoted⟩ := hv
  obtain ⟨hgone, horphans⟩ := memberGone_idle (s := v)
    ((congrArg PelState.runs ((hnotes .pel (by decide)).trans (hframe .pel (by decide)))).trans hruns) g m
  rw [ht] at hgone horphans
  have hsame : t.attic = (s.markedDead g m).attic ∧ t.bell = (s.markedDead g m).bell :=
    ⟨(hgone .attic (by decide)).trans (hnotes .attic (by decide)), (hgone .bell (by decide)).trans (hnotes .bell (by decide))⟩
  refine ⟨⟨?_, ?_, ?_, ((hframe.mono rfl).step hnotes rfl).step hgone rfl⟩,
    ((hunits.mono (by decide)).trans (hnoted.mono (by decide))).trans (horphans.mono (by decide))⟩
  · rw [member_congr hsame.1]; exact hdead
  · rw [hsame.2]; exact hbell
  · rw [horphans _ (by decide), hnoted _ (by decide), hctr]

section

variable (hme : m ≠ s.cap (K.plGroup g 2)) (hlt : m < s.cap (K.plGroup g 1)) (hlive : memberDead (s.member (s.groupTable g) m) = false)
  (hruns : s.pel.runs = []) (hjob : s.ex.job = none)

include hme hlt hlive hruns hjob

/-- A write to a member that ends with an error is its death, with no stream on its way out (R414). -/
theorem uioFailed_spec : s.DeclaredDead g m (s.uioFailed g m) ∧
    s.ctrSame [Ctr.plDead, Ctr.plOrphans, Ctr.plSent, Ctr.plSent + 1] (s.uioFailed g m) := by
  have hspec := declareDead_spec hme hlt hlive hruns
  have hjob' : (s.declareDead g m).ex.job = none := (congrArg ExState.job (hspec.1.frame .ex (by decide))).trans hjob
  have e : s.uioFailed g m = s.declareDead g m := by rw [uioFailed, exportLost, hjob']
  rwa [e]

/-- So is one that times out, which is counted (R414, R546). -/
theorem uioTimeout_spec : s.DeclaredDead g m (s.uioTimeout g m) ∧ (s.uioTimeout g m).ctr Ctr.uioTimeouts = (s.ctr Ctr.uioTimeouts + 1) % 2 ^ 64 := by
  obtain ⟨⟨hdead, hbell, hcounted, hframe⟩, hunits⟩ := uioFailed_spec (s := s.count Ctr.uioTimeouts 1) hme hlt hlive hruns hjob
  refine ⟨⟨hdead, hbell, hcounted.trans ?_, ((count_evolves s _ 1).frame.mono rfl).step hframe rfl⟩, (hunits _ (by decide)).trans ?_⟩
  · rw [ctr_count, if_neg (by decide)]
  · rw [ctr_count, if_pos rfl]

end

/-! ### Commands -/

/-- A member that rejoins is LIVE with no misses, and this module itself is expelled no more (R417). -/
theorem rejoin_spec (s : State) (g m : Nat) : memberDead ((s.rejoin g m).member (s.groupTable g) m) = false ∧
    memberMisses ((s.rejoin g m).member (s.groupTable g) m) = 0 ∧ (m = s.cap (K.plGroup g 2) → g ∉ (s.rejoin g m).pel.expelled) ∧
    s.sameBut [.attic, .pel] (s.rejoin g m) := by
  let u := s.setMemberState (s.groupTable g) m false
  let v := u.setMisses (s.groupTable g) m 0
  have hu : s.sameBut [.attic] u := setMemberState_frame s _ m false
  have hv : s.sameBut [.attic] v := hu.step (setMisses_frame u _ m 0) rfl
  have hdead : memberDead (v.member (s.groupTable g) m) = false := by rw [memberDead_setMisses, memberDead_setMemberState]
  have hmisses : memberMisses (v.member (s.groupTable g) m) = 0 := memberMisses_setMisses u _ m 0
  have e : s.rejoin g m = if m == v.cap (K.plGroup g 2) then { v with pel := { v.pel with expelled := sdel v.pel.expelled g } } else v := rfl
  rw [e, hv.cap (by decide)]
  split
  · exact ⟨hdead, hmisses, fun _ hin => (mem_sdel.1 hin).1 rfl, (hv.mono rfl).step (setPel_frame v _) rfl⟩
  · next hother => exact ⟨hdead, hmisses, fun hm => absurd (by simpa using hm) hother, hv.mono rfl⟩

theorem clearMisses_spec (s : State) (g m : Nat) : memberMisses ((s.clearMisses g m).member (s.groupTable g) m) = 0 ∧
    memberDead ((s.clearMisses g m).member (s.groupTable g) m) = memberDead (s.member (s.groupTable g) m) ∧ s.sameBut [.attic] (s.clearMisses g m) :=
  ⟨s.memberMisses_setMisses _ m 0, s.memberDead_setMisses _ m 0, s.setMisses_frame _ m 0⟩

/-- An accepted write of PELOTON_CMD has the effect of its command, and is answered (R417). -/
theorem plCommandWrite_eq {w : Way} {op : Nat} (hop : op < 16) (hg : g < 16) (hm : m < 65536)
    (hw : s.WriteOk w 0x0C020 0 (leBytes 8 (op + g * 16 + m * 256))) :
    (s.onWay w fun t => t.odWriteObj w 0x0C020 0 (leBytes 8 (op + g % 16 * 16 + m % 65536 * 256))) =
      (if op = 1 then s.rejoin g m else s.clearMisses g m).respond w [] 0 [] := by
  obtain ⟨o, ho, hacc⟩ : ∃ o, objInfo 0x0C020 0 = some o ∧ (o.acc == .rws) = false := by decide +kernel
  have hv : ofBytes (leBytes 8 (op + g * 16 + m * 256)) = op + g * 16 + m * 256 := ofBytes_leBytes 8 _ (by omega)
  have hbits : bits (op + g * 16 + m * 256) 0 4 = op ∧ bits (op + g * 16 + m * 256) 4 4 = g ∧ bits (op + g * 16 + m * 256) 8 16 = m := by
    simp only [bits]
    omega
  obtain ⟨hop', hg', hm'⟩ := hbits
  rw [Nat.mod_eq_of_lt hg, Nat.mod_eq_of_lt hm, write_effect hw (by decide), hv]
  unfold odEffect
  rw [demand_ok hw]
  simp [ho, hacc, plCommand, hop', hg', hm', show okey 0x0C020 0 ≠ K.clkEnable by decide, show okey 0x0C020 0 ≠ K.recipeTail by decide]

end

end State

end Sys2Proof.Machine

namespace Sys2Proof.Proofs

open Sys2Proof Sys2Proof.Machine

/-- Settles O30, clause by clause: a contribution stands in its slot (State.landed) and waits there, or reaches the run that awaits it
(State.contribFrame_reached), as a part does (State.partFrame_reached); a whole late chunk is dropped or added to the carry
(State.lateArrival_dropped, State.lateArrival_added); a credit lets a frame leave (State.creditArrival_sends); notices, failed writes
and PELOTON_CMD change the entry of their member (State.noticeArrival_own, State.uioFailed_spec, State.rejoin_spec). -/
theorem pelotonFramesArrive : Obligations.PelotonFramesArrive := by
  intro s ha member own
  refine ⟨fun port h b pois hup hsec => ?frames, fun g m hme hlt hlive hruns hjob => ?failed, fun w g m hg hm => ⟨fun hw => ?rejoin, fun hw => ?clear⟩⟩
  case frames =>
    intro g tag k here reaches
    have arrive : ∀ {c : Instr} {f : State → State} {P : State → Prop}, exec c s = .next (s.inbound port f) → P (f s) → Completes c s P :=
      State.completes_inbound ha hup hsec
    have hcount : s.sameBut [.meter] (s.count (Ctr.plReceived + port % 2) b.length) := (State.count_evolves s _ _).frame
    have hhere : here (s.count (Ctr.plReceived + port % 2) b.length) := (State.ctr_count ..).trans (if_pos rfl)
    refine ⟨fun n hn hvoid => arrive rfl ⟨?contrib, fun hrun hpast => ?waits⟩, fun hn => arrive rfl ?full,
      arrive rfl ⟨?part, fun hrun hended => ?held, fun hrun hended => ?late⟩,
      fun r d hlast hfirst hclean hnew hr hd => ?lates, fun hq => arrive rfl (State.creditArrival_idle hq),
      fun it f p hq hf hgroup hdst hzero hp hsend => arrive rfl ?sends, fun hm => arrive rfl (State.noticeArrival_own hm),
      fun hm hruns => arrive rfl (State.noticeArrival_other hm hruns)⟩
    case contrib =>
      exact fun r hof hrun u hu hdone hsrc hgone htime => State.contribFrame_reached ha hn hof ⟨hrun, hu, hdone, hsrc, hgone, htime⟩
    case waits =>
      rw [State.contribFrame_waits ha hn hvoid hrun hpast]
      exact ⟨s.landed_received n port h b pois, rfl, aget_aset_self (d := 0), s.landed_header n port h b pois, s.landed_payload n port h b pois,
        s.landed_frame n port h b pois⟩
    case full =>
      rw [State.contribFrame_full ha hn]
      exact ⟨hhere, hcount⟩
    case part =>
      exact fun r hof hrun u hu hdone hsrc hgone htime => State.partFrame_reached ha hof ⟨hrun, hu, hdone, hsrc, hgone, htime⟩
    case held =>
      rw [State.partFrame_held ha hrun hended]
      exact ⟨hhere, rfl, (hcount.mono rfl).step (State.setPel_frame _ _) rfl⟩
    case late =>
      rw [State.partFrame_late ha hrun hended]
      split
      · exact s.lost_spec port b.length
      · exact ⟨hhere, hcount, (State.ctr_count ..).trans (if_neg (State.plReceived_ne port (by decide)).symm)⟩
    case lates =>
      subst hclean
      refine ⟨fun hdrop => arrive rfl ?dropped, fun hproto hpolicy hc hroom hcnt hspace =>
        arrive rfl (State.lateArrival_added ha hlast hfirst hnew hr hd port b hproto hpolicy hc hroom hcnt hspace)⟩
      obtain ⟨hhere', hframe, hdropped⟩ := s.lost_spec port b.length
      rw [State.lateArrival_dropped ha hlast hfirst hnew hr hd port b hdrop]
      exact ⟨hhere', hdropped, hframe⟩
    case sends =>
      obtain ⟨hempty, hcredit, hsent⟩ := State.creditArrival_sends hq hf hgroup hdst hp hsend
      exact ⟨hempty, hcredit.trans (hzero _), hsent⟩
  case failed =>
    obtain ⟨⟨hdead, hbell, hcounted, hframe⟩, htimed⟩ := State.uioTimeout_spec hme hlt hlive hruns hjob
    obtain ⟨⟨hdead', hbell', hcounted', hframe'⟩, -⟩ := State.uioFailed_spec hme hlt hlive hruns hjob
    exact ⟨⟨_, rfl, ⟨hdead, hbell, hcounted, hframe⟩, htimed⟩, _, rfl, hdead', hbell', hcounted', hframe'⟩
  case rejoin =>
    obtain ⟨hdead, hmisses, hexpelled, hframe⟩ := s.rejoin_spec g m
    have hanswer := (s.rejoin g m).respond_done_frame w
    have hattic := hanswer .attic (by decide)
    have hpel : ((s.rejoin g m).respond w [] 0 []).pel = (s.rejoin g m).pel := hanswer .pel (by decide)
    refine ⟨(s.rejoin g m).respond w [] 0 [], congrArg _ ((State.plCommandWrite_eq (by decide) hg hm hw).trans (by rw [if_pos rfl])), ?_, ?_, ?_,
      State.served_respond (hframe .sent (by decide)) (hframe .meter (by decide)), (hframe.mono rfl).step hanswer rfl⟩
    · rw [State.member_congr hattic]; exact hdead
    · rw [State.member_congr hattic]; exact hmisses
    · rw [hpel]; exact hexpelled
  case clear =>
    obtain ⟨hmisses, hdead, hframe⟩ := s.clearMisses_spec g m
    have hanswer := (s.clearMisses g m).respond_done_frame w
    have hattic := hanswer .attic (by decide)
    refine ⟨(s.clearMisses g m).respond w [] 0 [], congrArg _ ((State.plCommandWrite_eq (by decide) hg hm hw).trans (by rw [if_neg (by decide)])), ?_, ?_,
      State.served_respond (hframe .sent (by decide)) (hframe .meter (by decide)), (hframe.mono rfl).step hanswer rfl⟩
    · rw [State.member_congr hattic]; exact hmisses
    · rw [State.member_congr hattic]; exact hdead

end Sys2Proof.Proofs

/-! SUPPORT. What every step keeps: the tables, the Meter's width, and the record of what has left the part. -/

namespace Sys2Proof.Proofs

open Sys2Proof Sys2Proof.Machine

/-- Settles O4: taking the front command from the queue touches no table, and a tick or a command then develops the state by
operations that keep the tables in order and the units 64 bits wide. -/
theorem stepKeepsTables : Obligations.StepKeepsTables := by
  intro s t hstep htables hmeter
  obtain ⟨u, hu, hev⟩ := step_evolves s
  obtain rfl : u = t := Host.Outcome.next.inj (hu.symm.trans hstep)
  exact ⟨hev.tables htables, hev.meter hmeter⟩

/-- Settles O6: no command touches the queue it has left, what has left the part begins with what had, and free values are
only drawn. -/
theorem stepKeepsRecord : Obligations.StepKeepsRecord := by
  intro c rest s t hq hstep
  obtain ⟨u, hu, hev⟩ := step_evolves s
  obtain rfl : u = t := Host.Outcome.next.inj (hu.symm.trans hstep)
  have hpending : u.pending = s.pending.tail := hev.frame .pending (by decide)
  exact ⟨by rw [hpending, hq, List.tail_cons], hev.sent, hev.free⟩

end Sys2Proof.Proofs

/-! SUPPORT. Requests for a reset (R502, R507, R575), the keep-house reset (R503 to R506) and the cold start (R443, R502). -/

namespace Sys2Proof.Machine

/-- A table of which some keys are left out. -/
theorem aget_filter_key {α : Type} {d : α} (p : Nat → Bool) (l : List (Nat × α)) (k : Nat) :
    aget d (l.filter fun x => p x.1) k = if p k then aget d l k else d := by
  induction l with
  | nil => simp [aget]
  | cons x l ih =>
    obtain ⟨a, v⟩ := x
    by_cases hk : k = a
    · subst hk
      cases hp : p k <;> simp [aget, hp, ih]
    · cases hp : p a <;> simp [aget, hp, hk, ih]

/-- A key that a run of writes does not name reads as before. -/
theorem aget_foldl_aset_other {β : Type} {e k : Nat} (d key val : β → Nat) {l : List β} (h : ∀ x ∈ l, key x ≠ k) (m : List (Nat × Nat)) :
    aget e (l.foldl (fun m x => aset (d x) m (key x) (val x)) m) k = aget e m k := by
  induction l generalizing m with
  | nil => rfl
  | cons x l ih =>
    rw [List.foldl_cons, ih fun y hy => h y (List.mem_cons_of_mem _ hy), aget_aset_other (h x List.mem_cons_self).symm]

namespace State

/-! ### Requests -/

/-- The causes of resets asked for are others; nothing else changes. -/
def setResets (s : State) (l : List Nat) : State := { s with pwr := { s.pwr with resets := l } }

theorem setResets_frame (s : State) (l : List Nat) : s.sameBut [.pwr] (s.setResets l) := fun f hf => by cases f <;> simp_all [agree, setResets]

/-- While PWR_GOOD is high and THERMTRIP# is not latched, a reset that is asked for waits for its beginning. -/
theorem askReset_eq {s : State} (hgood : s.pwr.pwrGood = true) (htrip : s.pwr.thermtrip = false) (c : Nat) :
    s.askReset c = s.setResets (s.pwr.resets ++ [c]) := by
  simp [askReset, setResets, hgood, htrip]

theorem powered_pins {s : State} (h : s.powered = true) : s.pwr.pwrGood = true ∧ s.pwr.thermtrip = false := by
  simp only [powered, Bool.and_eq_true, Bool.not_eq_true'] at h
  exact ⟨h.1.1, h.2⟩

/-- An accepted write of RESET_CMD is answered before its reset is asked for (R502). -/
theorem resetCmd_eq {s : State} {w : Way} {data : List Byte} (h : s.WriteOk w 0x01010 0 data) :
    (s.onWay w fun t => t.odWriteObj w 0x01010 0 data) = (s.respond w [] 0 []).askReset (2 + ofBytes data) := by
  rw [onWay_reach h.reach, odWriteObj_ok h, odCommit, h.value]
  rfl

/-- What an accepted write of RESET_CMD leaves. -/
theorem resetCmd_spec {s : State} {w : Way} {data : List Byte} (h : s.WriteOk w 0x01010 0 data) (hp : s.powered = true) :
    let t := s.onWay w fun t => t.odWriteObj w 0x01010 0 data
    t.pwr = { s.pwr with resets := s.pwr.resets ++ [2 + ofBytes data] } ∧ s.served w t ∧ s.sameBut [.pwr, .meter, .sent] t := by
  obtain ⟨hgood, htrip⟩ := powered_pins hp
  have hans := s.respond_done_frame w
  have hpwr : (s.respond w [] 0 []).pwr = s.pwr := hans .pwr (by decide)
  intro t
  have ht : t = (s.respond w [] 0 []).setResets (s.pwr.resets ++ [2 + ofBytes data]) := by
    rw [← hpwr, ← askReset_eq (by rw [hpwr, hgood]) (by rw [hpwr, htrip])]
    exact resetCmd_eq h
  rw [ht]
  exact ⟨by rw [← hpwr]; rfl, served_respond rfl rfl, (hans.mono rfl).step (setResets_frame _ _) rfl⟩

/-- An image that was being written when a reset comes leaves the fuses as they were (R553). -/
theorem tearWrite_ownerKeys (x : SecState) (running : Nat) : (x.tearWrite running).ownerKeys = x.ownerKeys := by
  unfold SecState.tearWrite
  split
  · rfl
  · split <;> rfl

/-! ### The keep-house reset -/

/-- Both ports are DOWN (R503). -/
def portsDown (s : State) : State := ([0, 1] : List Nat).foldl (fun s p => if s.odv (K.portState p) == 0 then s else s.setPort p 0 0 0) s

theorem portsDown_frame (s : State) : s.sameBut [.od, .bell] s.portsDown :=
  .foldl (fun t p => by split <;> [exact .refl _ t; exact (setPort_evolves t p 0 0 0).frame]) _ s

/-- An object that is none of the ports'. -/
theorem portsDown_odv (s : State) {k : Nat} (hk : ∀ p < 2, k / 256 ≠ 0x0B200 + p) : s.portsDown.odv k = s.odv k := by
  have one : ∀ (t : State) (p : Nat), p < 2 → (if t.odv (K.portState p) == 0 then t else t.setPort p 0 0 0).odv k = t.odv k := by
    intro t p hp
    have hstate : k ≠ K.portState p := by rintro rfl; exact hk p hp (by simp only [K.portState, okey]; omega)
    have hwidth : k ≠ K.portWidth p := by rintro rfl; exact hk p hp (by simp only [K.portWidth, okey]; omega)
    have hrate : k ≠ K.portRate p := by rintro rfl; exact hk p hp (by simp only [K.portRate, okey]; omega)
    split
    · rfl
    · rw [odv_setPort, if_neg hrate, if_neg hwidth, if_neg hstate]
  exact (one _ 1 (by decide)).trans (one s 0 (by decide))

/-- A source that is high stays high as the ports go DOWN. -/
theorem mem_level_portsDown {s : State} {n : Nat} (h : n ∈ s.bell.level) : n ∈ s.portsDown.bell.level := by
  have one : ∀ (t : State) (p : Nat), n ∈ t.bell.level → n ∈ (if t.odv (K.portState p) == 0 then t else t.setPort p 0 0 0).bell.level := by
    intro t p ht
    split
    · exact ht
    · exact (mem_level_raise ..).2 (.inr ht)
  exact one _ 1 (one s 0 h)

/-- A part other than the Bellboard is as the reset left it before the level of RECIPE was set anew. -/
theorem keepHouse_lost (s : State) (c : Nat) :
    (s.keepHouse c).larder = Mem.empty ∧ (s.keepHouse c).lb = State.reset.lb ∧ (s.keepHouse c).rooms = State.reset.rooms ∧
      (s.keepHouse c).porch = State.reset.porch ∧ (s.keepHouse c).ws = State.reset.ws ∧ (s.keepHouse c).meter = [] ∧
      (s.keepHouse c).dict.sessions = [] ∧ (s.keepHouse c).pwr = s.pwr.begin 2 s.pwr.keepHouseLow := by
  have hpwr : s.portsDown.pwr = s.pwr := s.portsDown_frame .pwr (by decide)
  have hlevel : ∀ u : State, u.sameBut [.bell] u.recipeLevel := fun u => (recipeLevel_evolves u).frame
  refine ⟨hlevel _ .larder (by decide), hlevel _ .lb (by decide), hlevel _ .rooms (by decide), hlevel _ .porch (by decide),
    hlevel _ .ws (by decide), hlevel _ .meter (by decide), congrArg DictState.sessions (hlevel _ .dict (by decide)), ?_⟩
  have hbegin : (s.keepHouse c).pwr = s.portsDown.pwr.begin 2 s.pwr.keepHouseLow := hlevel _ .pwr (by decide)
  rw [hbegin, hpwr]

/-- What a keep-house reset keeps of parts that it otherwise empties. -/
theorem keepHouse_kept (s : State) (c : Nat) :
    (s.keepHouse c).sec.ownerKeys = s.sec.ownerKeys ∧ (s.keepHouse c).pel.expelled = s.pel.expelled ∧
      (s.keepHouse c).gz.image = s.gz.image := by
  have hlevel : ∀ u : State, u.sameBut [.bell] u.recipeLevel := fun u => (recipeLevel_evolves u).frame
  have hports := s.portsDown_frame
  have hkeys : s.portsDown.sec.ownerKeys = s.sec.ownerKeys := congrArg SecState.ownerKeys (hports .sec (by decide))
  have hexpelled : s.portsDown.pel.expelled = s.pel.expelled := congrArg PelState.expelled (hports .pel (by decide))
  have himage : s.portsDown.gz.image = s.gz.image := congrArg GzState.image (hports .gz (by decide))
  exact ⟨(congrArg SecState.ownerKeys (hlevel _ .sec (by decide))).trans ((tearWrite_ownerKeys ..).trans hkeys),
    (congrArg PelState.expelled (hlevel _ .pel (by decide))).trans hexpelled,
    (congrArg GzState.image (hlevel _ .gz (by decide))).trans himage⟩

/-- An object that is none of the ports' after a keep-house reset (R504, R505). -/
theorem keepHouse_odv (s : State) (c : Nat) {k : Nat} (hk : ∀ p < 2, k / 256 ≠ 0x0B200 + p) :
    (s.keepHouse c).odv k = if k = K.resetCause then c else if keepHouseLost k then odDefault k else s.odv k := by
  have hfilter := aget_filter_key (d := odDefault k) (fun a => !keepHouseLost a) s.portsDown.od k
  have hports : aget (odDefault k) s.portsDown.od k = s.odv k := s.portsDown_odv hk
  have hstep : (s.keepHouse c).odv k =
      if k = K.resetCause then c else aget (odDefault k) (s.portsDown.od.filter fun x => !keepHouseLost x.1) k :=
    ((recipeLevel_evolves _).frame.odv (by decide) k).trans (odv_setOd ..)
  rw [hstep, hfilter, hports]
  cases keepHouseLost k <;> rfl

/-- A latched source that is high stays high (R505). -/
theorem mem_level_keepHouse {s : State} {n : Nat} (c : Nat) (hl : bellLatched n = true) (h : n ∈ s.bell.level) :
    n ∈ (s.keepHouse c).bell.level := by
  have hne : n ≠ Bell.recipe := by rintro rfl; exact absurd hl (by decide)
  exact (mem_level_recipeLevel _ n).2 (.inr ⟨hne, List.mem_filter.2 ⟨mem_level_portsDown h, hl⟩⟩)

/-! ### The cold start -/

/-- An object without a place in the Pilot domain, the fuses or the flash is at its default after a cold start (R443, R502). -/
theorem cold_odv (s : State) (c : Nat) {k : Nat} (hk : k ∉ [K.srcReady, K.pilotSrc, K.plcaId, K.rollback, K.resetCause])
    (hflash : ∀ x ∈ s.dict.savedTrims ++ s.pwr.saved, x.1 ≠ k) : (s.cold c).odv k = odDefault k := by
  have hpilot : ∀ j ∈ [K.srcReady, K.pilotSrc, K.plcaId, K.rollback], j ≠ k := by
    rintro j hj rfl
    exact hk (List.mem_append_left [K.resetCause] hj)
  have hcause : k ≠ K.resetCause := by rintro rfl; exact hk (by simp)
  have hrun := fun {l : List (Nat × Nat)} (hl : ∀ x ∈ l, x.1 ≠ k) (m : List (Nat × Nat)) =>
    aget_foldl_aset_other (e := odDefault k) (fun x : Nat × Nat => odDefault x.1) (fun x => x.1) (fun x => x.2) hl m
  refine (odv_setOd_other _ _ hcause).trans ?_
  refine (hrun (fun x hx => hflash x (List.mem_append_right _ hx)) _).trans ?_
  refine (hrun (fun x hx => hflash x (List.mem_append_left _ hx)) _).trans ?_
  exact aget_foldl_aset_other odDefault id s.odv hpilot []

theorem cold_ownerKeys (s : State) (c : Nat) : (s.cold c).sec.ownerKeys = s.sec.ownerKeys := tearWrite_ownerKeys ..

end State

end Sys2Proof.Machine

namespace Sys2Proof.Proofs

open Sys2Proof Sys2Proof.Machine

/-- Settles O51. A request joins the resets asked for (State.askReset_eq). The keep-house reset is told part by part
(keepHouse_lost, keepHouse_kept, keepHouse_odv, mem_level_keepHouse), and what its frame spares is as it was; of a cold start the
objects alone need a lemma (cold_odv). -/
theorem resetsKeepAndLose : Obligations.ResetsKeepAndLose := by
  intro s defaults cold
  have hcold : ∀ (l : List Nat) (c : Nat), cold c ((s.setResets l).cold c) := fun l c =>
    ⟨rfl, rfl, rfl, rfl, rfl, rfl, rfl, rfl, (s.setResets l).cold_ownerKeys c, rfl, State.odv_setOd_self ..,
      fun k hk hflash => (s.setResets l).cold_odv c hk hflash, rfl, rfl⟩
  refine ⟨fun w hw hp => ⟨_, rfl, State.resetCmd_spec hw hp⟩, fun w hw hp => ⟨_, rfl, State.resetCmd_spec hw hp⟩,
    fun hgood htrip => ⟨_, rfl, ?pin⟩, fun h hh hp => ⟨_, rfl, ?watchdog⟩, fun c hc htrained hretrain => ⟨_, rfl, ?keepHouse⟩,
    fun h4 => ⟨_, rfl, ?coldStart⟩, fun c hc huntrained => ⟨_, rfl, ?untrained⟩, ⟨_, rfl, rfl, ?rise⟩⟩
  case pin =>
    have hpin : s.keepHousePin = { s with pwr := { s.pwr with keepHouseLow := true, resets := s.pwr.resets ++ [2] } } := by
      simp [State.keepHousePin, State.askReset, hgood, htrip]
    rw [hpin]
    exact ⟨rfl, fun f hf => by cases f <;> simp_all [State.agree]⟩
  case watchdog =>
    obtain ⟨hgood, htrip⟩ := State.powered_pins hp
    rw [hp, decide_eq_true hh, State.askReset_eq hgood htrip]
    exact ⟨rfl, s.setResets_frame _⟩
  case keepHouse =>
    have hbegin : s.keepHouseBegin = (s.setResets []).keepHouse c := by
      simp [State.keepHouseBegin, hc, htrained, hretrain, State.setResets]
    rw [hbegin]
    have hframe := ((s.setResets []).keepHouse_evolves c).frame
    obtain ⟨hlarder, hlb, hrooms, hporch, hws, hmeter, hsessions, hpwr⟩ := (s.setResets []).keepHouse_lost c
    obtain ⟨hkeys, hexpelled, himage⟩ := (s.setResets []).keepHouse_kept c
    have hodv := fun k hk => (s.setResets []).keepHouse_odv c (k := k) hk
    exact ⟨hframe .attic (by decide), hframe .cellar (by decide), hframe .host (by decide), hframe .captain (by decide),
      hframe .stoker (by decide), hframe .domains (by decide), hframe .tick (by decide), hkeys, hframe .pending (by decide),
      hframe .tap (by decide), hexpelled, himage, fun n hn h => State.mem_level_keepHouse (s := s.setResets []) c hn h,
      hodv K.swapCount (by decide), hodv K.dirty (by decide), hodv K.resetCause (by decide), hlarder, hlb, hrooms, hporch, hws, hmeter,
      hodv K.clkEnable (by decide), hodv K.bringupStage (by decide), hodv K.pwrState (by decide), hsessions,
      congrArg PwrState.starting hpwr, congrArg PwrState.resets hpwr, congrArg PwrState.inReset hpwr⟩
  case coldStart =>
    have hbegin : s.coldBegin = (s.setResets s.pwr.resets).cold 4 := if_pos (List.contains_iff_mem.2 h4)
    rw [hbegin]
    exact hcold _ 4
  case untrained =>
    have hbegin : s.keepHouseBegin = (s.setResets []).cold 7 := by
      rcases huntrained with h | h <;> simp [State.keepHouseBegin, hc, h, State.setResets]
    rw [hbegin]
    exact hcold _ 7
  case rise => exact fun f hf => by cases f <;> simp_all [State.agree, State.keepHouseRise]

end Sys2Proof.Proofs

/-! SUPPORT. Answers (R452, R455, R459, R465): one message leaves, and of the dictionary only the kept responses change. -/

namespace Sys2Proof.Machine.State

/-- One answer with a code has left to a path (0 the mailbox, p + 1 peer p), and of the dictionary's paths no more than the
responses kept for peers has changed. -/
structure answered (s : State) (path code : Nat) (t : State) : Prop where
  sent : ∃ r, t.sent = s.sent ++ [.response path code r]
  dict : ∃ l, t.dict = { s.dict with peers := l }

theorem sendDatagram_answered (s : State) (p : Nat) (req rsp : List Byte) (code : Nat) :
    s.answered (p + 1) code (s.sendDatagram p req rsp code) :=
  ⟨⟨rsp, rfl⟩, _, rfl⟩

theorem reply_answered (s : State) (p : Nat) (d : List Byte) (code sid : Nat) (key : Option (List Byte)) (body : List Byte) :
    s.answered (p + 1) code (s.reply p d code sid key body) :=
  s.sendDatagram_answered ..

theorem authReply_answered (s : State) (w : Way) (req : List Byte) (code sid : Nat) (key : Option (List Byte)) (body : List Byte) :
    s.answered (w.peer.elim 0 (· + 1)) code (s.authReply w req code sid key body) := by
  cases w with
  | mailbox => exact ⟨⟨_, rfl⟩, s.dict.peers, rfl⟩
  | xaxia p sid' => exact s.reply_answered ..

theorem answer_answered (s : State) (w : Way) (req : List Byte) (code : Nat) (body : List Byte) :
    s.answered (w.peer.elim 0 (· + 1)) code (s.answer w req code body) := by
  cases w with
  | mailbox => exact ⟨⟨_, rfl⟩, s.dict.peers, rfl⟩
  | xaxia p sid =>
    unfold answer
    dsimp only
    split
    · exact ⟨⟨body, rfl⟩, s.dict.peers, rfl⟩
    · exact s.sendDatagram_answered ..

theorem respond_answered (s : State) (w : Way) (req : List Byte) (code : Nat) (body : List Byte) :
    s.answered (w.peer.elim 0 (· + 1)) code (s.respond w req code body) := by
  unfold respond
  dsimp only
  split
  · obtain ⟨hsent, hdict⟩ := (s.count Ctr.odAccesses 1).answer_answered w req code body
    exact ⟨hsent, hdict⟩
  · obtain ⟨hsent, hdict⟩ := ((s.count Ctr.odAccesses 1).count Ctr.odAborts 1).answer_answered w req code body
    exact ⟨hsent, hdict⟩

section

variable {s t : State} {path code : Nat}

theorem answered.held (h : s.answered path code t) : t.dict.held = s.dict.held := by obtain ⟨l, e⟩ := h.dict; rw [e]
theorem answered.sessions (h : s.answered path code t) : t.dict.sessions = s.dict.sessions := by obtain ⟨l, e⟩ := h.dict; rw [e]
theorem answered.transfers (h : s.answered path code t) : t.dict.transfers = s.dict.transfers := by obtain ⟨l, e⟩ := h.dict; rw [e]
theorem answered.copies (h : s.answered path code t) : t.dict.copies = s.dict.copies := by obtain ⟨l, e⟩ := h.dict; rw [e]

theorem answered.sent_length (h : s.answered path code t) : t.sent.length = s.sent.length + 1 := by
  obtain ⟨r, e⟩ := h.sent
  rw [e, List.length_append, List.length_singleton]

end

/-- Held accesses that are all answered: one message each, and nothing that waits is taken out. -/
theorem respond_foldl (body : HeldAccess → List Byte) (l : List HeldAccess) (s : State) :
    let t := l.foldl (fun t h => t.respond h.way h.req 0 (body h)) s
    t.dict.held = s.dict.held ∧ t.sent.length = s.sent.length + l.length ∧ s.sameBut [.meter, .sent, .dict] t := by
  induction l generalizing s with
  | nil => exact ⟨rfl, rfl, .refl _ s⟩
  | cons h l ih =>
    obtain ⟨hheld, hsent, hframe⟩ := ih (s.respond h.way h.req 0 (body h))
    have hone := s.respond_answered h.way h.req 0 (body h)
    refine ⟨hheld.trans hone.held, ?_, (respond_evolves ..).frame.step hframe rfl⟩
    rw [List.foldl_cons, hsent, hone.sent_length, List.length_cons]
    omega

end Sys2Proof.Machine.State

/-! SUPPORT. Writes of objects without behaviour of their own, of RWS objects, and writes that are refused (R432, R435, R583). -/

namespace Sys2Proof.Machine

theorem okey_inj {i j a b : Nat} (ha : a < 256) (hb : b < 256) : okey i a = okey j b ↔ i = j ∧ a = b := by
  simp only [okey]; omega

theorem okey_div {i a : Nat} (ha : a < 256) : okey i a / 256 = i := by simp only [okey]; omega

theorem mem_of_afind {α : Type} {l : List (Nat × α)} {a : Nat} {v : α} (h : afind l a = some v) : (a, v) ∈ l := by
  induction l with
  | nil => cases h
  | cons x l ih =>
    obtain ⟨k, u⟩ := x
    unfold afind at h
    split at h
    · next e =>
      obtain rfl : u = v := Option.some.inj h
      obtain rfl : a = k := by simpa using e
      exact List.mem_cons_self
    · exact List.mem_cons_of_mem _ (ih h)

/-- The objects whose writes are answered in a way of their own are none of the Tandem's. -/
theorem isRws_answeredOwn {idx sub : Nat} (hsub : sub < 256) (hidx : idx ∈ [0x01010, 0x01033, 0x03000, 0x0A000]) : isRws idx sub = false := by
  have hrows : ∀ x ∈ objRows, x.1 / 256 ∈ [0x01010, 0x01033, 0x03000, 0x0A000] → (x.2.acc == .rws) = false := by decide +kernel
  have hfamily : objFamily idx sub = none := by
    fin_cases hidx <;> simp [objFamily]
  have hbase : baseIndex idx = idx := by fin_cases hidx <;> rfl
  have hpll : idx ≠ 0x01100 := by rintro rfl; revert hidx; decide
  unfold isRws objInfo
  rw [hfamily, hbase]
  cases hrow : afind objRows (okey idx sub) with
  | none => rfl
  | some o => simpa [hpll] using hrows _ (mem_of_afind hrow) (by rwa [okey_div hsub])

namespace State

/-- An object without an effect of its own takes the value (R432). -/
theorem odEffect_plain {s : State} {w : Way} {idx sub : Nat} {data : List Byte} (hsub : sub < 256) (hw : s.WriteOk w idx sub data)
    (hp : plainObj idx sub = true) : s.odEffect idx sub (ofBytes data) = s.setOd (okey idx sub) (ofBytes data) := by
  simp only [plainObj, Bool.and_eq_true, Bool.not_eq_true', Bool.and_eq_false_iff, decide_eq_false_iff_not, Option.isSome_iff_exists] at hp
  obtain ⟨⟨⟨⟨⟨o, ho⟩, hrws⟩, hpll⟩, hbell⟩, hlist⟩ := hp
  have hacc : (o.acc == .rws) = false := by simpa [isRws, ho] using hrws
  have hpll' : ¬(0x01100 ≤ idx ∧ idx ≤ 0x01103) := by omega
  have hroute : ¬(0x09400 ≤ idx ∧ idx ≤ 0x097FF) := by omega
  have hvector : ¬(0x09800 ≤ idx ∧ idx ≤ 0x09FFF) := by omega
  simp only [List.contains_eq_mem, decide_eq_false_iff_not, List.mem_cons, List.not_mem_nil, or_false, not_or] at hlist
  unfold odEffect
  rw [demand_ok hw]
  simp [ho, hacc, hlist, hpll', hroute, hvector, K.clkEnable, K.recipeTail, K.bootSlot, K.bringupHold, okey_inj hsub]

/-- An object of the Tandem takes the value in its stoker set (R435). -/
theorem odEffect_rws {s : State} {w : Way} {idx sub : Nat} {data : List Byte} (hw : s.WriteOk w idx sub data) (hr : isRws idx sub = true) :
    s.odEffect idx sub (ofBytes data) = (s.setStk (okey idx sub) (ofBytes data)).setOd K.dirty 1 := by
  unfold odEffect
  rw [demand_ok hw]
  unfold isRws at hr
  cases ho : objInfo idx sub with
  | none => rw [ho] at hr; cases hr
  | some o =>
    rw [ho] at hr
    simp only [hr, if_true]

theorem stk_setStk (s : State) (k v j : Nat) : (s.setStk k v).stk j = if j = k then v else s.stk j := by
  split
  · next e => subst e; exact aget_aset_self
  · next e => exact aget_aset_other (d := odDefault k) e

theorem sameBut.stk {fs : List Fld} {s t : State} (h : s.sameBut fs t) (hf : Fld.stoker ∉ fs) (k : Nat) : t.stk k = s.stk k := by
  have e : t.stoker = s.stoker := h .stoker hf
  simp only [State.stk, e]

/-- A refusal is counted among the accesses and among the aborts (R470). -/
theorem respond_refused_counted (s : State) (w : Way) {code : Nat} (hc : code ≠ 0) :
    s.counted [(Ctr.odAccesses, 1), (Ctr.odAborts, 1)] (s.respond w [] code []) := by
  obtain ⟨b, e⟩ := s.respond_refused w hc
  rw [e]
  have htwo := (s.counted_one Ctr.odAccesses 1).append ((s.count Ctr.odAccesses 1).counted_one Ctr.odAborts 1) (by decide)
  exact htwo.congr rfl rfl

/-- A write that waits for nothing and whose form is right comes to its commit (R583). -/
theorem odWriteObj_commit {s : State} {w : Way} {idx sub : Nat} {data : List Byte}
    (hform : s.writeForm w idx sub ((objInfo idx sub).elim 0 (·.ty)) data = 0) (hclock : s.relocking idx sub = false)
    (htandem : s.odv K.tandemState ≠ 1) (htrims : s.dict.trimBusy = false) :
    s.odWriteObj w idx sub data = s.odCommit w [] idx sub (ofBytes data) data := by
  simp [odWriteObj, odWrite, hform, hclock, htandem, htrims]

/-- A value that is refused changes nothing, but where a library's image does not verify and none is active (R284). -/
theorem odCommit_refused {s : State} {idx sub v : Nat} (hv : s.writeValue idx sub v ≠ 0) (hlib : idx ≠ 0x04062 ∨ s.odv K.libState ≠ 0)
    (w : Way) (data : List Byte) : s.odCommit w [] idx sub v data = s.respond w [] (s.writeValue idx sub v) [] := by
  have hload : (idx == 0x04062 && s.writeValue idx sub v == Abort.signature && s.odv K.libState == 0) = false := by
    rcases hlib with h | h <;> simp [h]
  unfold odCommit
  dsimp only
  rw [if_pos (by simpa using hv), if_neg (by rw [hload]; exact Bool.false_ne_true)]

end State

end Sys2Proof.Machine

namespace Sys2Proof.Proofs

open Sys2Proof Sys2Proof.Machine

/-- Settles O33: past the checks a write comes down to its object's effect (State.write_effect), which is one write of the value
(odEffect_plain) or of the stoker value (odEffect_rws), and an answer. -/
theorem writeStoresValue : Obligations.WriteStoresValue := by
  intro w idx sub data s hsub hw stored
  have hplain : plainObj idx sub = true → stored (s.onWay w fun t => t.odWriteObj w idx sub data) := by
    intro hp
    have hidx : idx ≠ 0x01010 ∧ idx ≠ 0x01033 ∧ idx ≠ 0x03000 ∧ idx ≠ 0x0A000 := by
      refine ⟨?_, ?_, ?_, ?_⟩ <;> rintro rfl <;> simp [plainObj] at hp
    rw [State.write_effect hw hidx, State.odEffect_plain hsub hw hp]
    have hans := (s.setOd (okey idx sub) (ofBytes data)).respond_done_frame w
    have hodv := hans.odv (by decide)
    refine ⟨(hodv _).trans (State.odv_setOd_self ..), fun k hk => ?_, State.served_respond rfl rfl,
      ((State.setOd_evolves s _ _).frame.mono rfl).step hans rfl⟩
    rw [hodv, State.odv_setOd_other _ _ (by simpa using hk)]
  refine ⟨fun hp => ⟨_, rfl, hplain hp⟩, ?quarTail, ?bankCurrent, fun hr => ⟨_, rfl, ?rws⟩⟩
  case quarTail => rintro rfl rfl; exact ⟨_, rfl, hplain (by decide +kernel)⟩
  case bankCurrent => rintro rfl rfl; exact ⟨_, rfl, hplain (by decide +kernel)⟩
  case rws =>
    have hown : idx ∉ [0x01010, 0x01033, 0x03000, 0x0A000] := fun h => by simp [isRws_answeredOwn hsub h] at hr
    rw [State.write_effect hw (by simpa using hown), State.odEffect_rws hw hr]
    have hans := ((s.setStk (okey idx sub) (ofBytes data)).setOd K.dirty 1).respond_done_frame w
    have hodv := hans.odv (by decide)
    have hstk := hans.stk (by decide)
    have hset := s.stk_setStk (okey idx sub) (ofBytes data)
    refine ⟨(hstk _).trans ((hset _).trans (if_pos rfl)), fun j hj => (hstk j).trans ((hset j).trans (if_neg hj)),
      (hodv _).trans (State.odv_setOd_self ..), fun k hk => ?_, State.served_respond rfl rfl,
      (((State.setStk_evolves s _ _).frame.mono rfl).step (State.setOd_evolves _ _ _).frame rfl).step hans rfl⟩
    rw [hodv, State.odv_setOd_other _ _ (by simpa using hk)]
    rfl

/-- Settles O34: whichever step fails, the write is no more than its refusal (State.odCommit_refused), which is two counts and
an answer. -/
theorem refusedWriteChangesNothing : Obligations.RefusedWriteChangesNothing := by
  intro w idx sub data s hreach refused form value
  have hrefused : ∀ code, code ≠ 0 → refused code (s.respond w [] code []) := fun code hc =>
    ⟨(s.respond_refused_spec w hc).2, s.respond_refused_counted w hc, (s.respond_refused_spec w hc).1⟩
  refine ⟨fun hform => ⟨_, rfl, ?form⟩, fun hform hclock htandem htrims hvalue hlib => ⟨_, rfl, ?value⟩⟩
  case form =>
    have hwrite : s.odWriteObj w idx sub data = s.respond w [] form [] := if_pos (by simpa using hform)
    rw [State.onWay_reach hreach, hwrite]
    exact hrefused form hform
  case value =>
    rw [State.onWay_reach hreach, State.odWriteObj_commit hform hclock htandem htrims, State.odCommit_refused hvalue hlib]
    exact hrefused value hvalue

end Sys2Proof.Proofs

/-! SUPPORT. The Tandem's swap and copy (R436, R440, R441), the trims in flash (R447) and CAL_USR_RETRAIN (R449). -/

namespace Sys2Proof.Machine.State

/-! ### Held accesses -/

theorem hold_frame (s : State) (h : HeldAccess) : s.sameBut [.dict] (s.hold h) := (hold_evolves s h).frame

/-- One access more waits for its cause. -/
theorem hold_length (s : State) (h : HeldAccess) :
    ((s.hold h).dict.held.filter fun x => x.cause == h.cause).length = (s.dict.held.filter fun x => x.cause == h.cause).length + 1 := by
  simp [hold]

theorem takeHeld_sent (s : State) (c : Nat) : (s.takeHeld c).2.sent = s.sent := rfl

/-- Where nothing waits for a cause, nothing is taken out. -/
theorem takeHeld_none {s : State} {c : Nat} (h : ∀ x ∈ s.dict.held, x.cause ≠ c) : s.takeHeld c = ([], s) := by
  have hnone : (s.dict.held.filter fun x => x.cause == c) = [] := by simpa using h
  have hall : (s.dict.held.filter fun x => x.cause != c) = s.dict.held := by simpa using h
  rw [takeHeld, hnone, hall]

/-! ### The Tandem -/

/-- An accepted write of TANDEM_SWAP waits for the swap point (R436). -/
theorem tandemSwap_eq {s : State} {w : Way} {data : List Byte} (h : s.WriteOk w 0x03000 0 data) :
    (s.onWay w fun t => t.odWriteObj w 0x03000 0 data) =
      (s.setOd K.tandemState 1).hold ⟨1, 0, w, [], okey 0x03000 0, 0, false, data⟩ := by
  obtain ⟨o, ho, hacc⟩ : ∃ o, objInfo 0x03000 0 = some o ∧ (o.acc == .rws) = false := by decide +kernel
  have heffect : s.odEffect 0x03000 0 (ofBytes data) = s.setOd K.tandemState 1 := by
    unfold odEffect
    rw [demand_ok h]
    simp [ho, hacc, show okey 0x03000 0 ≠ K.clkEnable by decide]
  rw [onWay_reach h.reach, odWriteObj_ok h, odCommit, h.value, heffect]
  rfl

/-- The captain set copied into the stoker set, which no longer differs (R441). -/
def copyTandem (s : State) : State := ({ s with stoker := s.captain }).setOd K.dirty 0

theorem copyTandem_frame (s : State) : s.sameBut [.stoker, .od] s.copyTandem := fun f hf => by cases f <;> simp_all [agree, copyTandem]

theorem copyTandem_odv (s : State) (k : Nat) : s.copyTandem.odv k = if k = K.dirty then 0 else s.odv k :=
  State.odv_setOd { s with stoker := s.captain } ..

theorem tandemCopy_eq {s : State} {w : Way} {data : List Byte} (h : s.WriteOk w 0x03001 0 data) :
    (s.onWay w fun t => t.odWriteObj w 0x03001 0 data) = s.copyTandem.respond w [] 0 [] := by
  obtain ⟨o, ho, hacc⟩ : ∃ o, objInfo 0x03001 0 = some o ∧ (o.acc == .rws) = false := by decide +kernel
  rw [write_effect h (by decide)]
  unfold odEffect
  rw [demand_ok h]
  simp [ho, hacc, show okey 0x03001 0 ≠ K.clkEnable by decide, copyTandem]

/-- The two sets exchanged, with the count, the tick and the flags of a swap (R436). -/
def exchangeTandem (s : State) : State :=
  (((({ s with captain := s.stoker, stoker := s.captain } : State).setOd K.swapCount ((s.odv K.swapCount + 1) % 2 ^ 32)).setOd
    K.swapTick s.tick).setOd K.dirty 0).setOd K.tandemState 0

theorem exchangeTandem_sent (s : State) : s.exchangeTandem.sent = s.sent := by
  simp only [exchangeTandem, setOd_sent]

theorem exchangeTandem_odv (s : State) (k : Nat) : s.exchangeTandem.odv k =
    if k = K.tandemState then 0 else if k = K.dirty then 0 else if k = K.swapTick then s.tick
    else if k = K.swapCount then (s.odv K.swapCount + 1) % 2 ^ 32 else s.odv k := by
  simp only [exchangeTandem, odv_setOd]
  rfl

/-- At the swap point of a pending swap with no held write, the sets are exchanged and every swap that waited is answered. -/
theorem swapPoint_eq {s : State} (hpending : s.odv K.tandemState = 1) (hnone : ∀ h ∈ s.dict.held, h.cause ≠ 0) :
    s.swapPoint = (s.dict.held.filter fun h => h.cause == 1).foldl (fun t h => t.respond h.way h.req 0 []) (s.exchangeTandem.takeHeld 1).2 := by
  obtain ⟨hheld, -, -⟩ := respond_foldl (fun _ => []) (s.dict.held.filter fun h => h.cause == 1) (s.exchangeTandem.takeHeld 1).2
  have hrest := takeHeld_none (s := (s.dict.held.filter fun h => h.cause == 1).foldl (fun t h => t.respond h.way h.req 0 [])
    (s.exchangeTandem.takeHeld 1).2) (c := 0) (by
      rw [hheld]
      exact fun x hx => hnone x (List.mem_filter.1 hx).1)
  unfold swapPoint
  rw [if_neg (by simp [hpending])]
  exact congrArg (fun p : List HeldAccess × State => p.1.foldl applyHeld p.2) hrest

/-! ### The trims and the training results -/

/-- A trim commit runs (R447). -/
def startTrims (s : State) : State := { s with dict := { s.dict with trimBusy := true } }

theorem startTrims_frame (s : State) : s.sameBut [.dict] s.startTrims := fun f hf => by cases f <;> simp_all [agree, startTrims]

theorem calUsrCommit_eq {s : State} {w : Way} {data : List Byte} (h : s.WriteOk w 0x021FF 0 data) :
    (s.onWay w fun t => t.odWriteObj w 0x021FF 0 data) = s.startTrims.respond w [] 0 [] := by
  obtain ⟨o, ho, hacc⟩ : ∃ o, objInfo 0x021FF 0 = some o ∧ (o.acc == .rws) = false := by decide +kernel
  rw [write_effect h (by decide)]
  unfold odEffect
  rw [demand_ok h]
  simp [ho, hacc, startTrims, K.clkEnable, K.recipeTail, okey]

theorem calUsrRetrain_eq {s : State} {w : Way} {data : List Byte} (h : s.WriteOk w 0x02160 0 data) :
    (s.onWay w fun t => t.odWriteObj w 0x02160 0 data) = s.retrain.respond w [] 0 [] := by
  obtain ⟨o, ho, hacc⟩ : ∃ o, objInfo 0x02160 0 = some o ∧ (o.acc == .rws) = false := by decide +kernel
  rw [write_effect h (by decide)]
  unfold odEffect
  rw [demand_ok h]
  simp [ho, hacc, K.clkEnable, K.recipeTail, okey]

/-- Is a key that of a trim (R447)? -/
def isTrim (key : Nat) : Bool := match calOf (key / 256) with | some (_, w) => w == 1 | none => false

/-- The trims as they stand are in flash, and no commit runs (R447). -/
def storeTrims (s : State) : State :=
  { s with dict := { s.dict with trimBusy := false, savedTrims := s.od.filter fun x => isTrim x.1 } }

theorem storeTrims_frame (s : State) : s.sameBut [.dict] s.storeTrims := fun f hf => by cases f <;> simp_all [agree, storeTrims]

theorem calCommitEnd_eq {s : State} (hbusy : s.dict.trimBusy = true) (hnone : ∀ h ∈ s.dict.held, h.cause ≠ 3) :
    s.calCommitEnd = s.storeTrims := by
  have hrest := takeHeld_none (s := s.storeTrims) (c := 3) hnone
  unfold calCommitEnd
  rw [if_neg (by simp [hbusy])]
  exact congrArg (fun p : List HeldAccess × State => p.1.foldl applyHeld p.2) hrest

/-- What the flash holds of a trim is what its object reads. -/
theorem storeTrims_trim (s : State) {idx sub : Nat} {c : CalItem} (hc : calOf idx = some (c, 1)) (hsub : sub < 256) :
    aget 0 s.storeTrims.dict.savedTrims (okey idx sub) = aget 0 s.od (okey idx sub) := by
  have htrim : isTrim (okey idx sub) = true := by simp [isTrim, okey_div hsub, hc]
  exact (aget_filter_key isTrim s.od _).trans (if_pos htrim)

theorem domain_setDomain (s : State) (k j : Nat) (b : List Byte) : (s.setDomain k b).domain j = if j = k then b else s.domain j := by
  split
  · next e => subst e; exact aget_aset_self
  · next e => exact aget_aset_other (d := []) e

/-- A retraining empties both records of the training (R449). -/
theorem retrain_domain (s : State) (k : Nat) :
    s.retrain.domain k = if k = okey 0x02261 0 then [] else if k = okey 0x02260 0 then [] else s.domain k := by
  simp only [← domain_setDomain]
  rfl

theorem sameBut.domain {fs : List Fld} {s t : State} (h : s.sameBut fs t) (hf : Fld.domains ∉ fs) (k : Nat) : t.domain k = s.domain k := by
  have e : t.domains = s.domains := h .domains hf
  simp only [State.domain, e]

end Sys2Proof.Machine.State

namespace Sys2Proof.Proofs

open Sys2Proof Sys2Proof.Machine

/-- Settles O35: a swap waits (State.tandemSwap_eq), its point exchanges the sets and answers whoever waits (State.swapPoint_eq,
State.respond_foldl), and a copy is one update and an answer (State.tandemCopy_eq). -/
theorem tandemSwapExchanges : Obligations.TandemSwapExchanges := by
  intro s
  refine ⟨fun w data hw => ⟨_, rfl, ?swap⟩, fun hpending hnone => ⟨_, rfl, ?point⟩, fun w data hw => ⟨_, rfl, ?copy⟩⟩
  case swap =>
    rw [State.tandemSwap_eq hw]
    have hodv := fun k => (State.hold_odv (s.setOd K.tandemState 1) ⟨1, 0, w, [], okey 0x03000 0, 0, false, data⟩ k).trans (s.odv_setOd _ 1 k)
    exact ⟨(hodv _).trans (if_pos rfl), fun k hk => (hodv k).trans (if_neg (by simpa using hk)), rfl, rfl,
      ((State.setOd_evolves s _ _).frame.mono rfl).step (State.hold_frame _ _) rfl,
      (s.setOd K.tandemState 1).hold_length ⟨1, 0, w, [], okey 0x03000 0, 0, false, data⟩⟩
  case point =>
    rw [State.swapPoint_eq hpending hnone]
    obtain ⟨hheld, hsent, hframe⟩ := State.respond_foldl (fun _ => []) (s.dict.held.filter fun h => h.cause == 1) (s.exchangeTandem.takeHeld 1).2
    have hodv := fun k => (hframe.odv (by decide) k).trans (s.exchangeTandem_odv k)
    refine ⟨hframe .captain (by decide), hframe .stoker (by decide), ?_, ?_, ?_, ?_, fun k hk => ?_, hheld, hsent.trans ?_⟩
    · rw [hodv, if_neg (by decide), if_neg (by decide), if_neg (by decide), if_pos rfl]
    · rw [hodv, if_neg (by decide), if_neg (by decide), if_pos rfl]
    · rw [hodv, if_neg (by decide), if_pos rfl]
    · rw [hodv, if_pos rfl]
    · simp only [List.mem_cons, List.not_mem_nil, or_false, not_or] at hk
      obtain ⟨hcount, htick, hdirty, hstate⟩ := hk
      rw [hodv, if_neg hstate, if_neg hdirty, if_neg htick, if_neg hcount]
    · rw [State.takeHeld_sent, State.exchangeTandem_sent]
  case copy =>
    rw [State.tandemCopy_eq hw]
    have hans := s.copyTandem.respond_done_frame w
    have hodv := fun k => (hans.odv (by decide) k).trans (s.copyTandem_odv k)
    exact ⟨hans .captain (by decide), hans .stoker (by decide), (hodv _).trans (if_pos rfl),
      fun k hk => (hodv k).trans (if_neg (by simpa using hk)), State.served_respond rfl rfl, (s.copyTandem_frame.mono rfl).step hans rfl⟩

/-- Settles O36: the commit's end stores the trims (State.storeTrims_trim) where no write waits for it (State.calCommitEnd_eq);
the two writes are one update and an answer each. -/
theorem trimsCommitAndRetrain : Obligations.TrimsCommitAndRetrain := by
  intro s
  refine ⟨fun w data hw => ⟨_, rfl, ?commit⟩, fun hbusy hnone => ⟨s.storeTrims, ?_, ?stored⟩, fun w data hw => ⟨_, rfl, ?retrain⟩⟩
  case commit =>
    rw [State.calUsrCommit_eq hw]
    have hans := s.startTrims.respond_done_frame w
    exact ⟨congrArg DictState.trimBusy (hans .dict (by decide)), hans .od (by decide), State.served_respond rfl rfl,
      (s.startTrims_frame.mono rfl).step hans rfl⟩
  · exact congrArg Host.Outcome.next (State.calCommitEnd_eq hbusy hnone)
  case stored => exact ⟨rfl, fun idx sub c hc hsub => s.storeTrims_trim hc hsub, rfl, s.storeTrims_frame⟩
  case retrain =>
    rw [State.calUsrRetrain_eq hw]
    have hans := s.retrain.respond_done_frame w
    have hpwr : (s.retrain.respond w [] 0 []).pwr = { s.pwr with retrain := true, trained := false } := hans .pwr (by decide)
    have hdomain := fun k => hans.domain (by decide) k
    exact ⟨(hdomain _).trans (s.retrain_domain _), (hdomain _).trans (s.retrain_domain _), congrArg PwrState.retrain hpwr,
      congrArg PwrState.trained hpwr, State.served_respond rfl rfl, (s.retrain_evolves.frame.mono rfl).step hans rfl⟩

end Sys2Proof.Proofs

/-! SUPPORT. Messages that are executed (R452 to R460) and mailbox commands (R465). -/

namespace Sys2Proof.Machine.State

/-- Noting a sequence number changes no more than the sessions of the dictionary (R459). -/
theorem noteSeq_dict (s : State) (h : Nat) : ∃ l, (s.noteSeq h).dict = { s.dict with sessions := l } := by
  unfold noteSeq
  split
  · exact ⟨_, rfl⟩
  · exact ⟨s.dict.sessions, rfl⟩

theorem noteSeq_frame (s : State) (h : Nat) : s.sameBut [.dict] (s.noteSeq h) := (noteSeq_evolves s h).frame

/-- A message that is executed reaches its handler, with its sequence number noted. -/
theorem xMessage_heard {s : State} {ty p : Nat} {d : List Byte} (h : s.Heard ty p d) (run : Way → List Byte → State → State) :
    s.xMessage ty p d run = run (wayOf p d) (xBody d) (s.noteSeq (ofBytes (d.take 32))) := by
  obtain ⟨hon, hnew, hok⟩ := h
  simp [xMessage, hon, hnew, hok, wayOf]

/-- A mailbox command of a payload that is long enough reaches its handler. -/
theorem mbox_on {s : State} {pay : List Byte} (hon : s.mboxOn = true) (hmin : 4 ≤ pay.length) (hmax : pay.length ≤ 4096)
    (run : Bool → List Byte → State → State) :
    s.mbox pay run = run ((pay.getD 0 0).toNat % 2 == 1) (pay.drop 4) s := by
  simp [mbox, hon, hmin, hmax]

theorem mboxOn_stage {s : State} (h : s.mboxOn = true) : s.odv K.bringupStage ≠ 0 := by
  simp only [mboxOn, Bool.and_eq_true, decide_eq_true_eq] at h
  omega

end Sys2Proof.Machine.State

/-! SUPPORT. Snapshots of the Meter (R462, R524 to R528). -/

namespace Sys2Proof.Machine.State

/-! ### Requests of a snapshot -/

/-- A snapshot's edge is pending, six ticks on if none was, and one access more waits for it; nothing has left, nothing else
has changed (R525, R527). -/
def waitsForEdge (s t : State) : Prop :=
  (∀ e, s.mtr.edge = some e → t.mtr = s.mtr) ∧
    (s.mtr.edge = none → t.mtr = { s.mtr with edge := some (s.tick + 6), cut := none }) ∧ t.sent = s.sent ∧
    (t.dict.held.filter fun h => h.cause == 2).length = (s.dict.held.filter fun h => h.cause == 2).length + 1 ∧
    s.sameBut [.mtr, .dict] t

theorem snapStart_mtr (s : State) : (∀ e, s.mtr.edge = some e → s.snapStart.mtr = s.mtr) ∧
    (s.mtr.edge = none → s.snapStart.mtr = { s.mtr with edge := some (s.tick + 6), cut := none }) := by
  unfold snapStart
  split
  · next x hx => exact ⟨fun _ _ => rfl, fun h => absurd (hx.symm.trans h) (Option.some_ne_none x)⟩
  · next hx => exact ⟨fun e h => absurd (h.symm.trans hx) (Option.some_ne_none e), fun _ => rfl⟩

/-- Starting a snapshot and holding an access for it, from a state in which no more than the sessions differ. -/
theorem waitsForEdge_hold {s u : State} (hframe : s.sameBut [.dict] u) (hheld : u.dict.held = s.dict.held) (h : HeldAccess) (hc : h.cause = 2) :
    s.waitsForEdge (u.snapStart.hold h) := by
  have hmtr : u.mtr = s.mtr := hframe .mtr (by decide)
  have htick : u.tick = s.tick := hframe .tick (by decide)
  have hsent : u.sent = s.sent := hframe .sent (by decide)
  have hstart := (snapStart_evolves u).frame
  have hdict : u.snapStart.dict = u.dict := hstart .dict (by decide)
  obtain ⟨hpending, hnew⟩ := u.snapStart_mtr
  rw [hmtr] at hpending hnew
  rw [htick] at hnew
  refine ⟨hpending, hnew, (hstart .sent (by decide)).trans hsent, ?_, ((hframe.mono rfl).step hstart rfl).step (hold_frame _ _) rfl⟩
  have hlen := u.snapStart.hold_length h
  rwa [hc, hdict, hheld] at hlen

/-- An accepted write of METER_SNAP waits for its edge (R525). -/
theorem meterSnap_eq {s : State} {w : Way} {data : List Byte} (h : s.WriteOk w 0x0A000 0 data) :
    (s.onWay w fun t => t.odWriteObj w 0x0A000 0 data) = s.snapStart.hold ⟨2, 0, w, [], okey 0x0A000 0, 0, false, data⟩ := by
  obtain ⟨o, ho, hacc⟩ : ∃ o, objInfo 0x0A000 0 = some o ∧ (o.acc == .rws) = false := by decide +kernel
  have heffect : s.odEffect 0x0A000 0 (ofBytes data) = s.snapStart := by
    unfold odEffect
    rw [demand_ok h]
    simp [ho, hacc, K.clkEnable, K.recipeTail, okey]
  rw [onWay_reach h.reach, odWriteObj_ok h, odCommit, h.value, heffect]
  rfl

/-- A request of a snapshot that may be made waits for its edge (R460, R462). -/
theorem snapshotReq_ok {s : State} {w : Way} (hsession : s.sessionBad w = false) (hstage : s.odv K.bringupStage ≠ 0)
    (hpower : s.odv K.pwrState ≠ 0) (hown : s.odv (okey 0x0B104 0) = 1 → s.owns w = true) (req : List Byte) :
    s.snapshotReq w req = s.snapStart.hold ⟨2, 2, w, req, 0, 0, false, []⟩ := by
  have hright : (!s.owns w && s.odv (okey 0x0B104 0) == 1) = false := by
    by_cases h : s.odv (okey 0x0B104 0) = 1
    · simp [hown h]
    · simp [h]
  simp [snapshotReq, firstAbort, firstErr, hsession, hstage, hpower, hright]

/-! ### The edge -/

/-- In n ticks a unit stays as it is, but for the ticks at the throttle level and those in which the Bellboard is held
(R475, R509, R534). -/
theorem runTicks_ctr_cases (s : State) {n : Nat} (hn : n ≠ 0) (u : Nat) : (s.runTicks n).ctr u = s.ctr u ∨ u = Ctr.bellHeld ∨
    (u = Ctr.thermTicks + s.odv (okey 0x01051 0) ∧ s.pwr.pwrGood = true ∧ (s.runTicks n).ctr u = (s.ctr u + n) % 2 ^ 64) := by
  by_cases hheld : u = Ctr.bellHeld
  · exact .inr (.inl hheld)
  have hframe := (bellTicks_evolves { s with tick := (s.tick + n) % 2 ^ 64 } n).frame
  have hsame : ({ s with tick := (s.tick + n) % 2 ^ 64 }.bellTicks n).ctr u = s.ctr u := bellTicks_ctrSame _ n u (by simpa using hheld)
  have hpwr : ({ s with tick := (s.tick + n) % 2 ^ 64 }.bellTicks n).pwr = s.pwr := hframe .pwr (by decide)
  have hlevel : ({ s with tick := (s.tick + n) % 2 ^ 64 }.bellTicks n).odv (okey 0x01051 0) = s.odv (okey 0x01051 0) := hframe.odv (by decide) _
  have hrun : s.runTicks n = if s.pwr.pwrGood then
      ({ s with tick := (s.tick + n) % 2 ^ 64 }.bellTicks n).count (Ctr.thermTicks + s.odv (okey 0x01051 0)) n
      else { s with tick := (s.tick + n) % 2 ^ 64 }.bellTicks n := by
    rw [runTicks, if_neg (by simpa using hn)]
    dsimp only
    rw [hpwr, hlevel]
  rw [hrun]
  by_cases hgood : s.pwr.pwrGood = true
  · rw [if_pos hgood, ctr_count, hsame]
    by_cases h : u = Ctr.thermTicks + s.odv (okey 0x01051 0)
    · rw [if_pos h, ← h, hsame]
      exact .inr (.inr ⟨rfl, hgood, rfl⟩)
    · exact .inl (if_neg h)
  · rw [if_neg hgood]
    exact .inl hsame

/-- Past the instant C, nothing that the snapshot shows is taken anew; before it, the units are taken at C = E − 2 (R526). -/
theorem atLeast_cut {s : State} {e : Nat} (h : s.mtr.edge = some e) :
    (e ≤ s.tick + 2 → (s.atLeast e).mtr = s.mtr) ∧
      (s.tick + 2 < e → ∃ x, (s.atLeast e).mtr.cut = some ((s.runTicks (e - 2 - s.tick)).meter, x)) := by
  have hmtr : ∀ (t : State) (n : Nat), (t.runTicks n).mtr = t.mtr := fun t n => (runTicks_evolves t n).frame .mtr (by decide)
  unfold atLeast ticks
  rw [h]
  dsimp only
  refine ⟨fun hpast => ?_, fun hahead => ⟨(s.runTicks (e - 2 - s.tick)).mtr.stats, ?_⟩⟩
  · rw [if_neg (by simp; omega), hmtr]
  · rw [if_pos (by simp; omega), hmtr]
    rfl

theorem snapEdge_eq {s : State} {e : Nat} (h : s.mtr.edge = some e) : ∃ recs,
    s.snapEdge = { ((s.atLeast e).setOd (okey 0x0A001 0) (((s.atLeast e).odv (okey 0x0A001 0) + 1) % 2 ^ 32)).setOd (okey 0x0A002 0) e with
      mtr := ⟨((s.atLeast e).mtr.cut.getD ((s.atLeast e).meter, (s.atLeast e).mtr.stats)).1, (s.atLeast e).mtr.stats, recs, none, none⟩ } := by
  unfold snapEdge
  rw [h]
  exact ⟨_, rfl⟩

theorem snapEdge_odv {s : State} {e : Nat} (h : s.mtr.edge = some e) (k : Nat) : s.snapEdge.odv k =
    if k = okey 0x0A002 0 then e else if k = okey 0x0A001 0 then (s.odv (okey 0x0A001 0) + 1) % 2 ^ 32 else s.odv k := by
  obtain ⟨recs, hsnap⟩ := snapEdge_eq h
  have hodv := (atLeast_evolves s e).frame.odv (by decide)
  rw [hsnap, ← hodv k, ← hodv (okey 0x0A001 0), ← odv_setOd, ← odv_setOd]
  rfl

/-- At the edge every access that waited for it is answered (R462, R527). -/
theorem snapshotEdge_eq {s : State} {e : Nat} (h : s.mtr.edge = some e) : ∃ body : HeldAccess → List Byte,
    s.snapshotEdge = (s.snapEdge.takeHeld 2).1.foldl (fun t h => t.respond h.way h.req 0 (body h)) (s.snapEdge.takeHeld 2).2 := by
  unfold snapshotEdge
  rw [if_neg (by simp [h])]
  exact ⟨_, rfl⟩

end Sys2Proof.Machine.State

namespace Sys2Proof.Proofs

open Sys2Proof Sys2Proof.Machine

/-- Settles O56: a request starts the snapshot and is held (State.waitsForEdge_hold); at the edge the units shown are those of
instant C (State.atLeast_cut, State.runTicks_ctr_cases), and whoever waited is answered (State.snapshotEdge_eq,
State.respond_foldl). -/
theorem snapshotsCopyTheMeter : Obligations.SnapshotsCopyTheMeter := by
  intro s waits
  refine ⟨fun w data hw => ⟨_, rfl, ?write⟩, fun p d hheard hempty hstage hpower hsession hown => ⟨_, rfl, ?message⟩,
    fun pay hon hlen hpower hown => ⟨_, rfl, ?mailbox⟩, fun e he => ⟨_, rfl, ?edge⟩⟩
  case write =>
    rw [State.meterSnap_eq hw]
    exact State.waitsForEdge_hold (.refl _ s) rfl _ rfl
  case message =>
    have hnote := s.noteSeq_frame (ofBytes (d.take 32))
    obtain ⟨l, hdict⟩ := s.noteSeq_dict (ofBytes (d.take 32))
    rw [← hnote.odv (by decide)] at hstage hpower hown
    rw [State.xMessage_heard hheard, hempty, List.isEmpty_nil, if_pos rfl, State.snapshotReq_ok hsession hstage hpower hown]
    exact State.waitsForEdge_hold hnote (by rw [hdict]) _ rfl
  case mailbox =>
    have hbody : pay.drop 4 = [] := List.drop_eq_nil_of_le hlen.le
    rw [State.mbox_on hon hlen.ge (by omega), hbody, List.isEmpty_nil, if_pos rfl,
      State.snapshotReq_ok rfl (State.mboxOn_stage hon) hpower hown]
    exact State.waitsForEdge_hold (.refl _ s) rfl _ rfl
  case edge =>
    obtain ⟨body, hedge⟩ := State.snapshotEdge_eq he
    obtain ⟨recs, hsnap⟩ := State.snapEdge_eq he
    obtain ⟨hpast, hahead⟩ := State.atLeast_cut he
    obtain ⟨hheld, hsent, hans⟩ := State.respond_foldl body (s.snapEdge.takeHeld 2).1 (s.snapEdge.takeHeld 2).2
    have hsnapFrame := (State.snapEdge_evolves s).frame
    have hdict : s.snapEdge.dict = s.dict := hsnapFrame .dict (by decide)
    have hsentBefore : s.snapEdge.sent = s.sent := hsnapFrame .sent (by decide)
    have hwaiting : (s.snapEdge.takeHeld 2).1 = s.dict.held.filter fun h => h.cause == 2 := by rw [State.takeHeld, hdict]
    have hafter : s.snapEdge.sameBut [.dict, .meter, .sent] s.snapshotEdge := by
      rw [hedge]
      exact ((State.takeHeld_evolves s.snapEdge 2).frame.mono rfl).step hans rfl
    have hodv := fun k => (hafter.odv (by decide) k).trans (State.snapEdge_odv he k)
    have hmtr : s.snapshotEdge.mtr = s.snapEdge.mtr := hafter .mtr (by decide)
    have htick : s.snapshotEdge.tick = s.snapEdge.tick := hafter .tick (by decide)
    rw [hwaiting, State.takeHeld_sent, hsentBefore, ← hwaiting, ← hedge] at hsent
    rw [← hedge] at hheld
    refine ⟨?_, ?_, fun c hc he2 => ?_, fun he2 u => ?_, ?_, ?_, fun k hk => ?_, fun h => ?_, ?_, ?_⟩
    · rw [hmtr, hsnap]
    · rw [htick, hsnap]
      exact s.atLeast_tick e
    · rw [hmtr, hsnap, hpast he2, hc]
      rfl
    · obtain ⟨x, hcut⟩ := hahead he2
      rw [hmtr, hsnap, hcut]
      exact s.runTicks_ctr_cases (by omega) u
    · rw [hodv, if_pos rfl]
    · rw [hodv, if_neg (by decide), if_pos rfl]
    · simp only [List.mem_cons, List.not_mem_nil, or_false, not_or] at hk
      rw [hodv, if_neg hk.2, if_neg hk.1]
    · rw [hheld, State.takeHeld, hdict]
      simp
    · rw [hsent, hwaiting]
    · exact (State.snapshotEdge_evolves s).frame.mono rfl

end Sys2Proof.Proofs

/-! SUPPORT. Moves between the power states (R459, R491 to R494, R521), and clocks that start on demand (R486). -/

namespace Sys2Proof.Machine.State

/-! ### The states of the PLLs -/

theorem pllState_setPll (s : State) (p st mhz q : Nat) : (s.setPll p st mhz).pllState q = if q = p then st else s.pllState q := by
  have hmhz : okey (0x01100 + q) 4 ≠ okey (0x01100 + p) 3 := by simp only [okey]; omega
  have hst : okey (0x01100 + q) 4 = okey (0x01100 + p) 4 ↔ q = p := by simp only [okey]; omega
  rw [pllState, setPll, odv_setOd_other _ _ hmhz, odv_setOd, if_congr hst rfl rfl]
  rfl

theorem pllState_setOd (s : State) {k q : Nat} (v : Nat) (hq : q < 4) (hk : noPllKey k) : (s.setOd k v).pllState q = s.pllState q :=
  odv_setOd_other _ _ fun e => hk q hq (by rw [← e, okey_div (by decide)])

theorem pllState_count (s : State) (u n q : Nat) : (s.count u n).pllState q = s.pllState q := rfl

/-- A frequency taken anew leaves every PLL in its state (R477). -/
theorem pllState_retunePlls (s : State) (q : Nat) : s.retunePlls.pllState q = s.pllState q := by
  unfold retunePlls
  generalize ([0, 1, 2, 3] : List Nat) = l
  induction l generalizing s with
  | nil => rfl
  | cons p l ih =>
    rw [List.foldl_cons, ih]
    split
    · rw [pllState_setPll]
      split
      · next e => rw [e]
      · rfl
    · rfl

/-- The object of a key is none of a PLL's, for the objects that the power states set. -/
theorem noPllKey_power : noPllKey K.pwrState ∧ noPllKey K.clkRunning ∧ noPllKey K.wakeCause ∧ noPllKey K.clkEnable := by
  refine ⟨?_, ?_, ?_, ?_⟩ <;> exact noPllKey_of_lt (by decide)

theorem startPll_odSame (s : State) (p : Nat) : s.odSame [K.pllSt p, K.pllMhz p] (s.startPll p) := by
  intro k hk
  have hset := fun (t : State) (mhz : Nat) => setPll_odSame t p 2 mhz k hk
  unfold startPll
  split
  · exact (hset _ _).trans (hset s 0)
  · rfl

theorem startPll_running (s : State) (p : Nat) : (s.startPll p).pllState p ≠ 0 := by
  rw [startPll_pllState]
  split
  · decide
  · next h => exact fun e => h ⟨rfl, e⟩

/-! ### Housekeeping -/

/-- The module has entered Housekeeping: the fast PLLs are off, only the always-on clocks run, and the entry is counted. -/
def inHousekeeping (s t : State) : Prop :=
  t.odv K.pwrState = 1 ∧ t.pllState 0 = 0 ∧ t.pllState 1 = 0 ∧ t.pllState 3 = 0 ∧
    t.odv K.clkRunning = s.odv K.clkRunning % 16 ∧ t.ctr Ctr.pwrHk = (s.ctr Ctr.pwrHk + 1) % 2 ^ 64

theorem odv_enterHousekeeping (s : State) {k : Nat} (hk : noPllKey k) : s.enterHousekeeping.odv k =
    if k = K.pwrState then 1 else if k = K.clkRunning then s.odv K.clkRunning % 16 else s.odv k := by
  unfold enterHousekeeping
  simp only [count_odv, odv_setOd, odv_setPll_other _ _ _ (by decide : (0 : Nat) < 4) hk, odv_setPll_other _ _ _ (by decide : (1 : Nat) < 4) hk,
    odv_setPll_other _ _ _ (by decide : (3 : Nat) < 4) hk, odv_setPll_other _ _ _ (by decide : (0 : Nat) < 4) noPllKey_power.2.1,
    odv_setPll_other _ _ _ (by decide : (1 : Nat) < 4) noPllKey_power.2.1, odv_setPll_other _ _ _ (by decide : (3 : Nat) < 4) noPllKey_power.2.1]

theorem pllState_enterHousekeeping (s : State) {q : Nat} (hq : q < 4) : s.enterHousekeeping.pllState q = if q = 2 then s.pllState 2 else 0 := by
  obtain ⟨hpower, hrunning, -, -⟩ := noPllKey_power
  unfold enterHousekeeping
  dsimp only
  rw [pllState_count, pllState_setOd _ _ hq hpower, pllState_setOd _ _ hq hrunning, pllState_setPll, pllState_setPll, pllState_setPll]
  interval_cases q <;> rfl

theorem setPll_meter (s : State) (p st mhz : Nat) : (s.setPll p st mhz).meter = s.meter := by
  rw [setPll, setOd_meter, setOd_meter]

theorem ctr_enterHousekeeping (s : State) (u : Nat) :
    s.enterHousekeeping.ctr u = if u = Ctr.pwrHk then (s.ctr Ctr.pwrHk + 1) % 2 ^ 64 else s.ctr u := by
  unfold enterHousekeeping
  rw [ctr_count]
  simp only [ctr, setOd_meter, setPll_meter]

theorem enterHousekeeping_in {s u : State} (hod : u.od = s.od) (hctr : u.ctr Ctr.pwrHk = s.ctr Ctr.pwrHk) : s.inHousekeeping u.enterHousekeeping := by
  have hrunning : u.odv K.clkRunning = s.odv K.clkRunning := by simp only [odv, hod]
  refine ⟨?_, ?_, ?_, ?_, ?_, ?_⟩
  · rw [odv_enterHousekeeping _ noPllKey_power.1, if_pos rfl]
  · rw [pllState_enterHousekeeping _ (by decide), if_neg (by decide)]
  · rw [pllState_enterHousekeeping _ (by decide), if_neg (by decide)]
  · rw [pllState_enterHousekeeping _ (by decide), if_neg (by decide)]
  · rw [odv_enterHousekeeping _ noPllKey_power.2.1, if_neg (by decide), if_pos rfl, hrunning]
  · rw [ctr_enterHousekeeping, if_pos rfl, hctr]

/-! ### Pilot -/

/-- What an entry to Pilot leaves (R491, R494). -/
theorem enterPilot_spec (s : State) : s.enterPilot.odv K.pwrState = 0 ∧ s.enterPilot.pllState 2 = 0 ∧ s.enterPilot.odv K.clkRunning = 9 ∧
    s.enterPilot.dict.sessions = [] ∧ s.enterPilot.ctr Ctr.pwrPilot = (s.ctr Ctr.pwrPilot + 1) % 2 ^ 64 := by
  obtain ⟨hpower, hrunning, -, -⟩ := noPllKey_power
  have hodv : ∀ k, s.enterPilot.odv k = (((s.setPll 2 0 0).setOd K.clkRunning 9).setOd K.pwrState 0).odv k := fun k => rfl
  refine ⟨?_, ?_, ?_, rfl, ?_⟩
  · rw [hodv, odv_setOd_self]
  · rw [pllState, hodv]
    change (((s.setPll 2 0 0).setOd K.clkRunning 9).setOd K.pwrState 0).pllState 2 = 0
    rw [pllState_setOd _ _ (by decide) hpower, pllState_setOd _ _ (by decide) hrunning, pllState_setPll, if_pos rfl]
  · rw [hodv, odv_setOd_other _ _ (by decide), odv_setOd_self]
  · exact ((((s.setPll 2 0 0).setOd K.clkRunning 9).setOd K.pwrState 0).counted_one Ctr.pwrPilot 1) Ctr.pwrPilot

/-- What a wake from Pilot leaves (R492). -/
theorem leavePilot_spec {s : State} (h : s.odv K.pwrState = 0) (c : Nat) :
    (s.leavePilot c).odv K.pwrState = 1 ∧ (s.leavePilot c).odv K.wakeCause = c ∧ (s.leavePilot c).pllState 2 = 2 ∧
      (s.leavePilot c).odv K.clkRunning = 15 ∧ (s.leavePilot c).ctr Ctr.pwrHk = (s.ctr Ctr.pwrHk + 1) % 2 ^ 64 := by
  obtain ⟨hpower, hrunning, hcause, -⟩ := noPllKey_power
  have hwake : s.leavePilot c =
      (((((s.setOd K.pwrState 1).setPll 2 2 0).retunePlls.setOd K.clkRunning 15).setOd K.wakeCause c).count Ctr.pwrHk 1) := by
    rw [leavePilot, if_neg (by simp [h])]
  have hmeter : ((s.setOd K.pwrState 1).setPll 2 2 0).retunePlls.meter = s.meter := (retunePlls_evolves _).frame .meter (by decide)
  rw [hwake]
  refine ⟨?_, ?_, ?_, ?_, ?_⟩
  · rw [count_odv, odv_setOd_other _ _ (by decide), odv_setOd_other _ _ (by decide), odv_retunePlls_other _ hpower,
      odv_setPll_other _ _ _ (by decide) hpower, odv_setOd_self]
  · rw [count_odv, odv_setOd_self]
  · rw [pllState_count, pllState_setOd _ _ (by decide) hcause, pllState_setOd _ _ (by decide) hrunning, pllState_retunePlls, pllState_setPll,
      if_pos rfl]
  · rw [count_odv, odv_setOd_other _ _ (by decide), odv_setOd_self]
  · rw [ctr_count, if_pos rfl]
    simp only [ctr, setOd_meter, hmeter]

/-- A module in Pilot wakes for each of its four causes (R492, R521). -/
theorem pilotWake_eq {s : State} {c : Nat} (hp : s.powered = true) (hst : s.odv K.pwrState = 0) (hstage : s.odv K.bringupStage ≠ 0)
    (hc : (c = 1 ∧ s.anyEnabledHigh = true) ∨ c = 2 ∨ (c = 3 ∧ s.pwr.perstLow0 = false) ∨ (c = 4 ∧ s.pwr.perstLow1 = false)) :
    s.pilotWake c = if c = 1 then (s.leavePilot 1).count Ctr.bellWakes 1 else s.leavePilot c := by
  unfold pilotWake
  rw [if_neg (by simp [hp, hst, hstage])]
  rcases hc with ⟨rfl, h⟩ | rfl | ⟨rfl, h⟩ | ⟨rfl, h⟩ <;> simp [*]

/-! ### Requests -/

/-- An accepted write of PWR_STATE_REQ is answered before it is carried out (R492, R502). -/
theorem pwrStateReq_eq {s : State} {w : Way} {data : List Byte} (h : s.WriteOk w 0x01033 0 data) :
    (s.onWay w fun t => t.odWriteObj w 0x01033 0 data) = (s.respond w [] 0 []).pwrReq (ofBytes data) := by
  rw [onWay_reach h.reach, odWriteObj_ok h, odCommit, h.value]
  rfl

theorem respond_done_ctrSame (s : State) (w : Way) : s.ctrSame [Ctr.odAccesses] (s.respond w [] 0 []) := by
  obtain ⟨b, e⟩ := s.respond_done w
  rw [e]
  exact (s.ctrSame_count Ctr.odAccesses 1).trans (.of_meter rfl)

/-- In Service a request for Housekeeping is a write like any other. -/
theorem housekeepingReq_inService {s : State} (h : s.odv K.pwrState = 2) (w : Way) : s.housekeepingReq w = s.odWriteObj w 0x01033 0 [2] := by
  simp [housekeepingReq, h]

theorem pwrReq_housekeeping {s : State} (h : s.odv K.pwrState = 2) : s.pwrReq 2 = s.enterHousekeeping := by
  simp [pwrReq, h]

theorem pwrReq_pilot (s : State) : s.pwrReq 1 = (if s.odv K.pwrState = 2 then s.enterHousekeeping else s).enterPilot := by
  by_cases h : s.odv K.pwrState = 2 <;> simp [pwrReq, h]

theorem pwrReq_service (s : State) : s.pwrReq 3 = (s.setOd K.pwrState 2).startPll 1 := by
  simp [pwrReq]

/-- The answer to a request for a power state stays what left last. -/
theorem respond_done_answers (s : State) (w : Way) {t : State} (h : t.sent = (s.respond w [] 0 []).sent) : s.answers w 0 t := by
  obtain ⟨b, e⟩ := s.respond_done w
  exact ⟨b, by rw [h, e]; rfl⟩

/-! ### Clocks on demand -/

theorem pllOf_lt (b : Nat) : pllOf b < 4 := by
  unfold pllOf
  split_ifs <;> decide

theorem odv_startStation_other (s : State) (b : Nat) {k : Nat} (hr : k ≠ K.clkRunning) (hp : noPllKey k) : (s.startStation b).odv k = s.odv k := by
  unfold startStation
  split
  · rfl
  · rw [count_odv, odv_setOd_other _ _ hr, odv_startPll_other _ (pllOf_lt b) hp]

theorem pllState_startStation {s : State} {b q : Nat} (hq : q < 4) (h : s.pllState q ≠ 0) : (s.startStation b).pllState q ≠ 0 := by
  unfold startStation
  split
  · exact h
  · rw [pllState_count, pllState_setOd _ _ hq noPllKey_power.2.1, startPll_pllState]
    split
    · decide
    · exact h

theorem ctr_startStation (s : State) {b u : Nat} (hu : u ≠ Ctr.clkStarts + b) : (s.startStation b).ctr u = s.ctr u := by
  unfold startStation
  split
  · rfl
  · rw [ctr_count, if_neg hu]
    simp only [ctr, setOd_meter, startPll_meter]

/-- A station's clock runs once it has been started, and every clock that ran still does. -/
theorem bit_startStation (s : State) (b c : Nat) :
    bit ((s.startStation b).odv K.clkRunning) c = (decide (c = b) || bit (s.odv K.clkRunning) c) := by
  unfold startStation
  by_cases h : bit (s.odv K.clkRunning) b = true
  · rw [if_pos h]
    by_cases e : c = b
    · rw [e, h, Bool.or_true]
    · simp [e]
  · rw [if_neg h, count_odv, odv_setOd_self, bit_add_two_pow (by simpa using h)]

/-- What the clocks named leave as they start: nothing of the power state, no PLL off, and no count but their own. -/
theorem startStations_spec {l : List Nat} (hl : ∀ b ∈ l, b < 14) {s : State} (hpll : s.pllState 1 ≠ 0) :
    let t := l.foldl startStation s
    t.odv K.pwrState = s.odv K.pwrState ∧ t.pllState 1 ≠ 0 ∧ t.ctr Ctr.pwrWakeWaits = s.ctr Ctr.pwrWakeWaits ∧
      ∀ c, c ∈ l ∨ bit (s.odv K.clkRunning) c = true → bit (t.odv K.clkRunning) c = true := by
  induction l generalizing s with
  | nil => exact ⟨rfl, hpll, rfl, fun c h => h.resolve_left (by simp)⟩
  | cons b l ih =>
    have hb := hl b List.mem_cons_self
    obtain ⟨hpower, hrun, hctr, hbits⟩ := ih (fun c hc => hl c (List.mem_cons_of_mem _ hc)) (pllState_startStation (b := b) (by decide) hpll)
    refine ⟨hpower.trans (odv_startStation_other s b (by decide) noPllKey_power.1), hrun,
      hctr.trans (ctr_startStation s (by simp only [Ctr.pwrWakeWaits, Ctr.clkStarts]; omega)), fun c hc => hbits c ?_⟩
    rw [bit_startStation]
    rcases hc with hc | hc
    · rcases List.mem_cons.1 hc with rfl | hc
      · exact .inr (by simp)
      · exact .inl hc
    · exact .inr (by simp [hc])

/-- In Service a demand starts the clocks of the enabled stations named. -/
theorem demand_inService {s : State} (h : s.odv K.pwrState = 2) (l : List Nat) :
    s.demand l = (l.filter fun b => bit (s.odv K.clkEnable) b).foldl startStation s := by
  have hwake : s.wake = s := by simp [wake, h]
  unfold demand
  dsimp only
  rw [hwake]
  split
  · next e => rw [List.isEmpty_iff.1 e]; rfl
  · rfl

/-- A demand on a module in Housekeeping, from BS2 on, takes it to Service (R492). -/
theorem wake_eq {s : State} (h : s.odv K.pwrState = 1) (hstage : 2 ≤ s.odv K.bringupStage) :
    s.wake = ((s.setOd K.pwrState 2).count Ctr.pwrWakeWaits 1).startPll 1 := by
  simp [wake, h, hstage]

end Sys2Proof.Machine.State

namespace Sys2Proof.Proofs

open Sys2Proof Sys2Proof.Machine

/-- Settles O52: a request is answered and then carried out (State.pwrStateReq_eq), by one of the entries whose effects are told by
State.enterHousekeeping_in, State.enterPilot_spec and State.leavePilot_spec; a demand starts its stations' clocks one by one
(State.startStations_spec). -/
theorem powerStatesMove : Obligations.PowerStatesMove := by
  intro s inHk allowed
  have hans := fun w => s.respond_done_frame w
  have hreq : ∀ w v, (s.respond w [] 0 []).sameBut [.od, .meter, .dict] ((s.respond w [] 0 []).pwrReq v) := fun w v =>
    (State.pwrReq_evolves _ v).frame
  have hanswers : ∀ w v, s.answers w 0 ((s.respond w [] 0 []).pwrReq v) := fun w v =>
    s.respond_done_answers w (hreq w v .sent (by decide))
  refine ⟨fun hp hst hidle htime => ⟨_, rfl, ?idle⟩, fun w hw hst => ⟨_, rfl, ?housekeeping⟩, fun w hw => ⟨_, rfl, ?pilot⟩,
    fun w hw => ⟨_, rfl, ?service⟩, fun l hl hp hst hstage => ⟨_, rfl, ?wake⟩, fun c hp hst hstage hc => ⟨_, rfl, ?pilotWake⟩,
    fun p sid hp hst hstage hon => ⟨_, rfl, ?wakeFrame⟩⟩
  case idle =>
    have heq : s.hkIdle = s.enterHousekeeping := by simp [State.hkIdle, hp, hst, hidle, htime]
    rw [heq]
    exact ⟨State.enterHousekeeping_in rfl rfl, s.enterHousekeeping_evolves.frame⟩
  case housekeeping =>
    have heq : (s.onWay w fun t => t.housekeepingReq w) = (s.respond w [] 0 []).pwrReq 2 := by
      rw [State.onWay_reach hw.reach, State.housekeepingReq_inService hst, ← State.onWay_reach hw.reach (fun t => t.odWriteObj w 0x01033 0 [2])]
      exact State.pwrStateReq_eq hw
    rw [heq]
    have hsame := hanswers w 2
    rw [State.pwrReq_housekeeping (((hans w).odv (by decide) _).trans hst)] at hsame ⊢
    exact ⟨State.enterHousekeeping_in (hans w .od (by decide)) (s.respond_done_ctrSame w _ (by decide)), hsame,
      ((hans w).mono rfl).step (State.enterHousekeeping_evolves _).frame rfl⟩
  case pilot =>
    have heq : (s.onWay w fun t => t.odWriteObj w 0x01033 0 [1]) = (s.respond w [] 0 []).pwrReq 1 := State.pwrStateReq_eq hw
    have hctr : ∀ c : Prop, ∀ [Decidable c], (if c then (s.respond w [] 0 []).enterHousekeeping else s.respond w [] 0 []).ctr Ctr.pwrPilot =
        s.ctr Ctr.pwrPilot := by
      intro c _
      rw [← s.respond_done_ctrSame w Ctr.pwrPilot (by decide)]
      split
      · rw [State.ctr_enterHousekeeping, if_neg (by decide)]
      · rfl
    have hframe := ((hans w).mono (fs := [.od, .dict, .meter, .sent]) rfl).step (hreq w 1) rfl
    have hsame := hanswers w 1
    rw [heq]
    rw [State.pwrReq_pilot] at hframe hsame ⊢
    obtain ⟨hpower, hpll, hrunning, hsessions, hcount⟩ :=
      (if (s.respond w [] 0 []).odv K.pwrState = 2 then (s.respond w [] 0 []).enterHousekeeping else s.respond w [] 0 []).enterPilot_spec
    rw [hctr] at hcount
    exact ⟨hpower, hpll, hrunning, hsessions, hcount, hsame, hframe⟩
  case service =>
    have heq : (s.onWay w fun t => t.odWriteObj w 0x01033 0 [3]) = (s.respond w [] 0 []).pwrReq 3 := State.pwrStateReq_eq hw
    have hmeter : ((s.respond w [] 0 []).pwrReq 3).meter = (s.respond w [] 0 []).meter := by
      rw [State.pwrReq_service, State.startPll_meter, State.setOd_meter]
    have hserved : s.served w ((s.respond w [] 0 []).pwrReq 3) :=
      ⟨(State.served_respond (w := w) (s := s) rfl rfl).1.congr rfl hmeter, hanswers w 3⟩
    rw [heq]
    rw [State.pwrReq_service] at hserved ⊢
    refine ⟨?_, State.startPll_running _ 1, hserved, fun k hk => ?_, ?_⟩
    · rw [State.odv_startPll_other _ (by decide) State.noPllKey_power.1, State.odv_setOd_self]
    · simp only [List.mem_cons, List.not_mem_nil, or_false, not_or] at hk
      obtain ⟨hpower, hpll⟩ := hk
      rw [State.startPll_odSame _ 1 k (by simpa using hpll), State.odv_setOd_other _ _ hpower]
      exact (hans w).odv (by decide) k
    · exact (((hans w).mono rfl).step (State.setOd_evolves _ _ _).frame rfl).step (State.startPll_evolves _ 1).frame rfl
  case wake =>
    obtain ⟨hpower, hrunning, -, henable⟩ := State.noPllKey_power
    have hwake := State.wake_eq hst hstage
    have hservice : s.wake.odv K.pwrState = 2 := by
      rw [hwake, State.odv_startPll_other _ (by decide) hpower, State.count_odv, State.odv_setOd_self]
    have hclocks : s.wake.odv K.clkEnable = s.odv K.clkEnable := by
      rw [hwake, State.odv_startPll_other _ (by decide) henable, State.count_odv, State.odv_setOd_other _ _ (by decide)]
    have hwaits : s.wake.ctr Ctr.pwrWakeWaits = (s.ctr Ctr.pwrWakeWaits + 1) % 2 ^ 64 := by
      have hone := (s.setOd K.pwrState 2).ctr_count Ctr.pwrWakeWaits 1 Ctr.pwrWakeWaits
      rw [if_pos rfl] at hone
      simpa only [hwake, State.ctr, State.startPll_meter, State.setOd_meter] using hone
    have heq : s.wakeToService l = (l.filter fun b => bit (s.odv K.clkEnable) b).foldl State.startStation s.wake := by
      rw [← hclocks, ← State.demand_inService hservice]
      simp [State.wakeToService, hp]
    obtain ⟨hstate, hpll, hctr, hbits⟩ := State.startStations_spec (l := l.filter fun b => bit (s.odv K.clkEnable) b)
      (fun b hb => hl b (List.mem_of_mem_filter hb)) (s := s.wake) (by rw [hwake]; exact State.startPll_running _ 1)
    refine ⟨?_, ?_, ?_, fun b hb hen => ?_, (State.wakeToService_evolves s l).frame⟩ <;> rw [heq]
    · exact hstate.trans hservice
    · exact hpll
    · exact hctr.trans hwaits
    · exact hbits b (.inl (List.mem_filter.2 ⟨hb, hen⟩))
  case pilotWake =>
    obtain ⟨hpower, hcause, hpll, hrunning, hctr⟩ := State.leavePilot_spec hst c
    have hframe := (State.pilotWake_evolves s c).frame
    rw [State.pilotWake_eq hp hst hstage hc] at hframe ⊢
    split
    · next e =>
      subst e
      refine ⟨hpower, hcause, hpll, hrunning, ?_, ?_⟩
      · rw [State.ctr_count, if_neg (by decide), hctr]
      · exact hframe
    · exact ⟨hpower, hcause, hpll, hrunning, hctr, (State.leavePilot_evolves s c).frame⟩
  case wakeFrame =>
    obtain ⟨hpower, hcause, -, -, -⟩ := State.leavePilot_spec hst 2
    have heq : (s.onWay (.xaxia p sid) fun t => t.housekeepingReq (.xaxia p sid)) = (s.leavePilot 2).respond (.xaxia p sid) [] 0 [] := by
      have hwake : s.pilotWake 2 = s.leavePilot 2 := State.pilotWake_eq hp hst hstage (.inr (.inl rfl))
      have hstage' : 1 ≤ s.odv K.bringupStage := Nat.one_le_iff_ne_zero.2 hstage
      rw [State.onWay_reach (w := .xaxia p sid) hon, State.housekeepingReq, if_pos (by simp [hst, hstage', Way.peer]), hwake]
    rw [heq]
    have hleft := (State.leavePilot_evolves s 2).frame
    have hout := (s.leavePilot 2).respond_done_frame (.xaxia p sid)
    have hsent : (s.leavePilot 2).sent = s.sent := hleft .sent (by decide)
    refine ⟨(hout.odv (by decide) _).trans hpower, (hout.odv (by decide) _).trans hcause, ?_, (hleft.mono rfl).step hout rfl⟩
    obtain ⟨b, hb⟩ := (s.leavePilot 2).respond_done_answers (.xaxia p sid) rfl
    exact ⟨b, by rw [hb, hsent]⟩

end Sys2Proof.Proofs

/-! SUPPORT. Peers on Xaxia, HELLO (R454), NOTIFY (R461) and the segment (R450, R451). -/

namespace Sys2Proof.Machine.State

/-! ### Peers -/

theorem peer_num (s : State) (p : Nat) : (s.peer p).num = p := by
  unfold peer
  cases h : s.dict.peers.find? fun x => x.num == p with
  | none => rfl
  | some x => simpa using List.find?_some h

/-- A peer's record is seen at its own number, and at no other. -/
theorem peer_setPeer (s : State) (x : XPeer) (q : Nat) : (s.setPeer x).peer q = if q = x.num then x else s.peer q := by
  have hkept : (s.dict.peers.filter fun y => y.num != x.num).find? (fun y => y.num == q) =
      if q = x.num then none else s.dict.peers.find? fun y => y.num == q := by
    rw [List.find?_filter]
    split
    · next h => exact List.find?_eq_none.2 fun y _ => by simp [h]
    · next h =>
      congr 1
      funext y
      by_cases hy : y.num = q <;> simp [hy, h]
  unfold peer setPeer
  dsimp only
  rw [List.find?_append, hkept]
  split
  · next h => simp [h]
  · next h => simp [Ne.symm h]

theorem peer_congr {s t : State} (h : t.dict.peers = s.dict.peers) (q : Nat) : t.peer q = s.peer q := by
  simp only [peer, h]

/-- A response is kept for its peer; nothing else of any peer changes (R455). -/
theorem peer_reply (s : State) (p : Nat) (d : List Byte) (code sid : Nat) (key : Option (List Byte)) (body : List Byte) (q : Nat) :
    ∃ l, (s.reply p d code sid key body).peer q = if q = p then { s.peer p with kept := l } else s.peer q := by
  have hset := s.peer_setPeer (q := q) { s.peer p with
    kept := ((s.peer p).kept ++ [(d, rspDatagram d code sid key body)]).drop (((s.peer p).kept ++ [(d, rspDatagram d code sid key body)]).length - 16) }
  rw [show ({ s.peer p with kept := _ } : XPeer).num = p from s.peer_num p] at hset
  exact ⟨_, hset⟩

/-! ### HELLO -/

/-- A message of HELLO's that is no repeat and has a good header. -/
structure Greeted (s : State) (p : Nat) (d : List Byte) : Prop where
  on : s.xaxiaOn = true
  new : s.keptAnswer p d = none
  header : headerBad d = false
  type : xhType (ofBytes (d.take 32)) = 1

/-- The highest major that both sides have, of 2 and 1. -/
def commonMajor (d : List Byte) : Option Nat := ([2, 1] : List Nat).find? fun m => bit (ofBytes ((xBody d).take 2)) m

/-- A peer's version is set, for peer p alone. -/
def setVersion (s : State) (p : Nat) (v : Option (Nat × Nat)) : State := s.setPeer { s.peer p with version := v }

theorem hello_refused {s : State} {p : Nat} {d : List Byte} (h : s.Greeted p d) (hm : commonMajor d = none) :
    s.hello p d = (s.setVersion p none).reply p d Abort.version 0 none [] := by
  unfold commonMajor at hm
  unfold hello
  simp only [h.on, h.new, h.header, h.type, hm]
  rfl

theorem hello_short {s : State} {p m : Nat} {d : List Byte} (h : s.Greeted p d) (hm : commonMajor d = some m) (hlen : (xBody d).length ≠ 18) :
    s.hello p d = s.reply p d Abort.badLength 0 none [] := by
  unfold commonMajor at hm
  unfold hello
  simp only [h.on, h.new, h.header, h.type, hm]
  simp [hlen]

theorem hello_agreed {s : State} {p m : Nat} {d : List Byte} (h : s.Greeted p d) (hm : commonMajor d = some m) (hlen : (xBody d).length = 18) :
    ∃ body, s.hello p d =
      (s.setVersion p (some (m, min ((xBody d).getD (2 + m) 0).toNat ((minorOf m).getD 0)))).reply p d 0 0 none body := by
  unfold commonMajor at hm
  unfold hello
  simp only [h.on, h.new, h.header, h.type, hm]
  simp only [hlen]
  exact ⟨_, rfl⟩

/-- What a HELLO leaves once it is answered: the version chosen, one response, and every other peer as it was. -/
theorem setVersion_reply (s : State) (p : Nat) (v : Option (Nat × Nat)) (d : List Byte) (code : Nat) (body : List Byte) :
    let t := (s.setVersion p v).reply p d code 0 none body
    (t.peer p).version = v ∧ (∃ r, t.sent = s.sent ++ [.response (p + 1) code r]) ∧ (∀ q, q ≠ p → t.peer q = s.peer q) ∧
      s.sameBut [.dict, .sent] t := by
  intro t
  have hset : ∀ q, (s.setVersion p v).peer q = if q = p then { s.peer p with version := v } else s.peer q := by
    intro q
    have h := s.peer_setPeer { s.peer p with version := v } q
    rwa [show ({ s.peer p with version := v } : XPeer).num = p from s.peer_num p] at h
  have hpeer := (s.setVersion p v).peer_reply p d code 0 none body
  refine ⟨?_, ⟨_, rfl⟩, fun q hq => ?_, ((setPeer_evolves s _).frame.mono rfl).step (reply_evolves ..).frame rfl⟩
  · obtain ⟨l, hl⟩ := hpeer p
    rw [hl, if_pos rfl, hset, if_pos rfl]
  · obtain ⟨l, hl⟩ := hpeer q
    rw [hl, if_neg hq, hset, if_neg hq]

/-! ### NOTIFY -/

/-- A NOTIFY datagram leaves, is counted and numbered, and its source is marked (R461). -/
theorem sendNotify_spec (s : State) (n : Nat) : (s.sendNotify n).dict.notifySeq = (s.dict.notifySeq + 1) % 2 ^ 32 ∧
    n ∈ (s.sendNotify n).bell.notified ∧ s.counted [(Ctr.xaNotifySent, 1)] (s.sendNotify n) ∧
    ∃ b, (s.sendNotify n).sent = s.sent ++ [.frame 0x20 (s.odv (okey 0x0B110 0)) (s.odv (okey 0x0B111 0)) b []] :=
  ⟨rfl, mem_sadd.2 (.inl rfl), s.counted_one Ctr.xaNotifySent 1, _, rfl⟩

end Sys2Proof.Machine.State

namespace Sys2Proof.Proofs

open Sys2Proof Sys2Proof.Machine

/-- Settles O41: with a common major the version is set and the answer is success, unless the body is short, and with none it is
forgotten (State.hello_agreed, State.hello_short, State.hello_refused). -/
theorem helloNegotiates : Obligations.HelloNegotiates := by
  intro p d s hon hnew hheader htype b majors theirs res short
  have hg : s.Greeted p d := ⟨hon, hnew, hheader, htype⟩
  refine ⟨s.hello p d, rfl, ?_⟩
  have hres : res = (State.commonMajor d).map fun m => (m, min (theirs m) ((minorOf m).getD 0)) := by
    show (if bit majors 2 then _ else _) = Option.map _ (([2, 1] : List Nat).find? fun m => bit majors m)
    cases h2 : bit majors 2 <;> cases h1 : bit majors 1 <;> simp [h1, h2, minorOf]
  cases hm : State.commonMajor d with
  | none =>
    rw [hm] at hres
    have hlong : ¬short := fun h => by have hsome := h.1; simp [hres] at hsome
    have hspec := s.setVersion_reply p none d Abort.version []
    rw [State.hello_refused hg hm, hres]
    obtain ⟨hversion, hsent, hothers, hframe⟩ := hspec
    exact ⟨fun h => absurd h hlong, fun _ => hversion, fun h => absurd h hlong, fun _ => hsent, hothers, hframe⟩
  | some m =>
    rw [hm] at hres
    by_cases hlen : (xBody d).length = 18
    · have hlong : ¬short := fun h => h.2 hlen
      obtain ⟨body, heq⟩ := State.hello_agreed hg hm hlen
      rw [heq, hres]
      obtain ⟨hversion, hsent, hothers, hframe⟩ := s.setVersion_reply p (some (m, min (theirs m) ((minorOf m).getD 0))) d 0 body
      exact ⟨fun h => absurd h hlong, fun _ => hversion, fun h => absurd h hlong, fun _ => hsent, hothers, hframe⟩
    · have hshort : short := ⟨by simp [hres], hlen⟩
      rw [State.hello_short hg hm hlen]
      have hpeer := s.peer_reply p d Abort.badLength 0 none []
      refine ⟨fun _ => ?_, fun h => absurd hshort h, fun _ => ⟨_, rfl⟩, fun h => absurd hshort h, fun q hq => ?_,
        (State.reply_evolves ..).frame.mono rfl⟩
      · obtain ⟨l, hl⟩ := hpeer p
        rw [hl, if_pos rfl]
      · obtain ⟨l, hl⟩ := hpeer q
        rw [hl, if_neg hq]

/-- Settles O43: a NOTIFY that is due is one datagram (State.sendNotify_spec), and one that is not changes nothing. -/
theorem notifyAndSegment : Obligations.NotifyAndSegment := by
  intro s
  refine ⟨fun n hon hnew => ⟨s.sendNotify n, ?_, ?first⟩, fun n hoff => ⟨s, ?_, rfl⟩, fun n hon hsent hrep => ⟨s.sendNotify n, ?_, ?again⟩,
    fun hon hid => ⟨_, rfl, ?beacon⟩, fun p hon => ⟨_, rfl, ?solicitation⟩⟩
  · exact congrArg Host.Outcome.next (if_pos (by simp [hon, hnew]))
  case first =>
    obtain ⟨hseq, hnoted, hcounted, hdatagram⟩ := s.sendNotify_spec n
    exact ⟨hseq, hnoted, hcounted, hdatagram, (s.sendNotify_evolves n).frame⟩
  · exact congrArg Host.Outcome.next (if_neg (by rcases hoff with h | h <;> simp [h]))
  · exact congrArg Host.Outcome.next (if_pos (by simp [hon, hsent, hrep]))
  case again =>
    obtain ⟨hseq, -, hcounted, -⟩ := s.sendNotify_spec n
    exact ⟨hseq, hcounted, (s.sendNotify_evolves n).frame⟩
  case beacon =>
    have hlost : s.plcaFallback = s.setOd (okey 0x0B107 0) ((s.odv (okey 0x0B107 0) + 1) % 2 ^ 32) := if_pos (by simp [hon, hid])
    rw [hlost]
    exact ⟨s.odv_setOd_self .., fun k hk => s.odv_setOd_other _ (by simpa using hk), (State.setOd_evolves s _ _).frame⟩
  case solicitation =>
    have hanswer : s.neighbour p linkLocal = s.send (.frame 0x21 p 0 (leBytes 6 macValue) []) := if_pos (by simp [hon])
    rw [hanswer]
    exact ⟨rfl, (State.send_evolves s _).frame⟩

end Sys2Proof.Proofs

/-! SUPPORT. Authentication (R458, R459, R467): a session allocated, opened, refused and closed. -/

namespace Sys2Proof.Machine

namespace State

/-! ### Sequence numbers -/

/-- Noting a sequence number leaves every session its identifier, its peer and whether it is open. -/
theorem noteSeq_sessions (s : State) (h : Nat) : ∃ f : Session → Session,
    (∀ x, (f x).isOpen = x.isOpen ∧ (f x).id = x.id ∧ (f x).peer = x.peer) ∧ (s.noteSeq h).dict.sessions = s.dict.sessions.map f := by
  unfold noteSeq
  split
  · exact ⟨_, fun x => by split <;> exact ⟨rfl, rfl, rfl⟩, rfl⟩
  · exact ⟨id, fun _ => ⟨rfl, rfl, rfl⟩, (List.map_id _).symm⟩

theorem noteSeq_openSessions (s : State) (h : Nat) : (s.noteSeq h).openSessions = s.openSessions := by
  obtain ⟨f, hf, hmap⟩ := s.noteSeq_sessions h
  have hopen : ((fun x : Session => x.isOpen) ∘ f) = fun x => x.isOpen := funext fun x => (hf x).1
  rw [openSessions, hmap, List.filter_map, hopen, List.length_map, openSessions]

theorem noteSeq_sessions_length (s : State) (h : Nat) : (s.noteSeq h).dict.sessions.length = s.dict.sessions.length := by
  obtain ⟨f, -, hmap⟩ := s.noteSeq_sessions h
  rw [hmap, List.length_map]

theorem noteSeq_peer (s : State) (h q : Nat) : (s.noteSeq h).peer q = s.peer q := by
  obtain ⟨l, hdict⟩ := s.noteSeq_dict h
  exact peer_congr (by rw [hdict]) q

/-- A message outside a session notes nothing. -/
theorem noteSeq_outside {h : Nat} (hs : xhSession h = false) (s : State) : s.noteSeq h = s := by simp [noteSeq, hs]

theorem ownerHash_congr {s t : State} (h : t.sec = s.sec) : t.ownerHash = s.ownerHash := by simp only [ownerHash, h]

/-! ### The phases -/

section

variable {s : State} {w : Way} {b : List Byte} (hstage : s.odv K.bringupStage ≠ 0) (hpower : s.odv K.pwrState ≠ 0)
include hstage hpower

/-- A peer that is locked out is answered AUTH_FAILED in every phase (R458). -/
theorem bodyAuth_locked (hlocked : s.lockedOut w = true) (phase : Nat) (req : List Byte) (sid : Nat) :
    s.bodyAuth phase w req b sid = s.authReply w req Abort.authFailed sid (s.wayKey w) [] := by
  unfold bodyAuth
  rw [if_neg (by simp [hstage, hpower]), if_pos hlocked]

variable (hfree : s.lockedOut w = false)
include hfree

theorem bodyAuth_start (hphase : (b.getD 0 0).toNat = 1) (req : List Byte) (sid : Nat) :
    s.bodyAuth 1 w req b sid = s.authStart w req b := by
  unfold bodyAuth
  rw [if_neg (by simp [hstage, hpower]), if_neg (by simp [hfree]), if_neg (by rw [hphase]; decide)]
  rfl

theorem bodyAuth_proof (hphase : (b.getD 0 0).toNat = 2) (req : List Byte) (sid : Nat) :
    s.bodyAuth 2 w req b sid = s.authProof w req b sid := by
  unfold bodyAuth
  rw [if_neg (by simp [hstage, hpower]), if_neg (by simp [hfree]), if_neg (by rw [hphase]; decide)]
  rfl

theorem bodyAuth_end (hphase : (b.getD 0 0).toNat = 3) (req : List Byte) (sid : Nat) :
    s.bodyAuth 3 w req b sid = s.authEnd w req := by
  unfold bodyAuth
  rw [if_neg (by simp [hstage, hpower]), if_neg (by simp [hfree]), if_neg (by rw [hphase]; decide)]
  rfl

end

/-- START allocates a session that is not open yet, and is answered with success. -/
theorem authStart_spec {s : State} {b : List Byte} (hlen : b.length = 34) (hrole : (b.getD 1 0).toNat = 1) (hopen : s.openSessions < 4)
    (howner : s.ownerHash.isSome = true) (w : Way) (req : List Byte) :
    (∃ x, (s.authStart w req b).dict.sessions = s.dict.sessions ++ [x] ∧ x.isOpen = false ∧ x.peer = w.peer) ∧
      ∃ r, (s.authStart w req b).sent = s.sent ++ [.response (w.peer.elim 0 (· + 1)) 0 r] := by
  have hdrawn : ∃ x sid body, s.authStart w req b =
      (s.freshSid.2.free32.2.setSessions (s.dict.sessions ++ [x])).authReply w req 0 sid none body ∧ x.isOpen = false ∧ x.peer = w.peer := by
    have howner' : s.ownerHash.isNone = false := by simpa using howner
    unfold authStart
    dsimp only
    rw [if_neg (by simp only [firstAbort, firstErr, hlen, hrole, howner', Nat.not_le.2 hopen]; decide)]
    exact ⟨_, _, _, rfl, rfl, rfl⟩
  obtain ⟨x, sid, body, heq, hclosed, hpeer⟩ := hdrawn
  have hans := (s.freshSid.2.free32.2.setSessions (s.dict.sessions ++ [x])).authReply_answered w req 0 sid none body
  rw [heq]
  exact ⟨⟨x, hans.sessions, hclosed, hpeer⟩, hans.sent⟩

/-- With four sessions open a START is refused. -/
theorem authStart_limit {s : State} {b : List Byte} (hlen : b.length = 34) (hrole : (b.getD 1 0).toNat = 1) (hopen : 4 ≤ s.openSessions)
    (w : Way) (req : List Byte) : s.authStart w req b = s.authReply w req Abort.sessionLimit 0 none [] := by
  have herr : firstAbort [(b.length != 34, Abort.badLength), ((b.getD 1 0).toNat != 1, Abort.badEncoding),
      (decide (4 ≤ s.openSessions), Abort.sessionLimit), (s.ownerHash.isNone, Abort.noOwnerKey)] = Abort.sessionLimit := by
    simp only [firstAbort, firstErr, hlen, hrole, hopen]; rfl
  unfold authStart
  rw [herr]
  rfl

/-- The session a PROOF of a way names: allocated, not open (R458). -/
def startedSession (s : State) (w : Way) (sid : Nat) : Option Session :=
  s.dict.sessions.find? fun x => !x.isOpen && x.id == sid && decide (x.peer = w.peer)

/-- What a PROOF signs and its signature, as they are checked under the owner's key. -/
def proofGood (s : State) (x : Session) (b : List Byte) : Bool :=
  Config.signatureOk 2 (s.ownerHash.getD [] ++ proofDigest x ++ (b.drop 1).take 512)

/-- A session as a PROOF opens it, with the key made of the PROOF's secret. -/
def openedBy (x : Session) (b : List Byte) : Session :=
  { x with isOpen := true, key := sessionKeyOf x (Config.decrypt (b.drop 513)), lastSeq := 0 }

section

variable {s : State} {w : Way} {sid : Nat} {x : Session} {b : List Byte} (hx : s.startedSession w sid = some x) (hlen : b.length = 1025)
include hx hlen

theorem authProof_limit (hopen : 4 ≤ s.openSessions) (req : List Byte) :
    s.authProof w req b sid = s.authReply w req Abort.sessionLimit sid none [] := by
  unfold startedSession at hx
  simp [authProof, hx, hlen, hopen]

/-- A PROOF whose signature verifies opens its session. -/
theorem authProof_good (hopen : s.openSessions < 4) (hgood : s.proofGood x b = true) (req : List Byte) : s.authProof w req b sid =
    (s.setSessions ((s.dict.sessions.filter fun y => y.id != sid) ++ [openedBy x b])).authReply w req 0 sid
      (if w.peer.isNone then none else some (openedBy x b).key) [] := by
  unfold startedSession at hx
  unfold proofGood at hgood
  unfold authProof
  rw [hx]
  dsimp only
  rw [if_neg (by simp [hlen]), if_neg (by omega), if_neg (by rw [hgood]; decide)]
  rfl

/-- One whose signature does not verify discards it. -/
theorem authProof_bad (hopen : s.openSessions < 4) (hbad : s.proofGood x b = false) (req : List Byte) :
    s.authProof w req b sid = (s.proofFailed w x).authReply w req Abort.authFailed sid none [] := by
  unfold startedSession at hx
  unfold proofGood at hbad
  unfold authProof
  rw [hx]
  dsimp only
  rw [if_neg (by simp [hlen]), if_neg (by omega), if_pos (by rw [hbad]; decide)]

end

/-- A failed PROOF of a peer is counted, and its session is gone. -/
theorem proofFailed_spec (s : State) (p sid : Nat) (x : Session) :
    (∀ y ∈ (s.proofFailed (.xaxia p sid) x).dict.sessions, y.id ≠ x.id) ∧ s.counted [(Ctr.xaAuthFailures, 1)] (s.proofFailed (.xaxia p sid) x) := by
  refine ⟨fun y hy => ?_, (s.counted_one Ctr.xaAuthFailures 1).congr rfl rfl⟩
  have hkept : y ∈ s.dict.sessions.filter fun y => y.id != x.id := hy
  simpa using (List.mem_filter.1 hkept).2

/-- END in an open session closes it. -/
theorem authEnd_open {s : State} {p sid : Nat} (h : s.owns (.xaxia p sid) = true) (req : List Byte) : s.authEnd (.xaxia p sid) req =
    (s.setSessions (s.dict.sessions.filter fun x => x.id != sid)).reply p req 0 sid (s.sessionKey sid) [] := by
  simp [authEnd, h]

end State

/-- Where no check aborts, each has passed. -/
theorem firstAbort_eq_zero {l : List (Bool × Nat)} (h : firstAbort l = 0) (hl : ∀ x ∈ l, x.2 ≠ 0) : ∀ x ∈ l, x.1 = false := by
  induction l with
  | nil => simp
  | cons c l ih =>
    obtain ⟨bad, e⟩ := c
    cases bad with
    | true => exact absurd h (hl _ List.mem_cons_self)
    | false => exact List.forall_mem_cons.2 ⟨rfl, ih h fun x hx => hl x (List.mem_cons_of_mem _ hx)⟩

namespace State

/-- The session a message that is executed names is open (R459). -/
theorem Heard.owns {s : State} {ty p : Nat} {d : List Byte} (h : s.Heard ty p d) (hs : xhSession (ofBytes (d.take 32)) = true)
    (hid : xhSid (ofBytes (d.take 32)) ≠ 0) : (s.noteSeq (ofBytes (d.take 32))).owns (wayOf p d) = true := by
  obtain ⟨-, -, hok⟩ := h
  have hsession := firstAbort_eq_zero hok (by simp [Abort.badHeader, Abort.version, Abort.unknownType, Abort.badMac, Abort.replay, Abort.sessionUnknown])
    (xhSession (ofBytes (d.take 32)) && (s.xSession (ofBytes (d.take 32))).isNone, Abort.sessionUnknown) (by simp)
  obtain ⟨y, hy⟩ : ∃ y, s.xSession (ofBytes (d.take 32)) = some y := by
    rw [← Option.isSome_iff_exists]
    simpa [hs] using hsession
  have hmem := List.mem_of_find?_eq_some hy
  have hnamed := List.find?_some hy
  obtain ⟨f, hf, hmap⟩ := s.noteSeq_sessions (ofBytes (d.take 32))
  obtain ⟨hopen, hfid, hpeer⟩ := hf y
  rw [wayOf, hs, if_pos rfl, State.owns, hmap, Bool.and_eq_true, List.any_eq_true]
  exact ⟨by simpa using hid, f y, List.mem_map_of_mem hmem, by rw [hopen, hfid, hpeer]; exact hnamed⟩

/-- A started session is still found once a sequence number is noted. -/
theorem noteSeq_startedSession {s : State} {w : Way} {sid : Nat} (h : Nat)
    (hx : ∃ x ∈ s.dict.sessions, x.isOpen = false ∧ x.id = sid ∧ x.peer = w.peer) : ∃ y, (s.noteSeq h).startedSession w sid = some y := by
  obtain ⟨x, hmem, hclosed, hid, hpeer⟩ := hx
  obtain ⟨f, hf, hmap⟩ := s.noteSeq_sessions h
  obtain ⟨hfopen, hfid, hfpeer⟩ := hf x
  rw [← Option.isSome_iff_exists, startedSession, List.find?_isSome]
  exact ⟨f x, hmap ▸ List.mem_map_of_mem hmem, by simp [hfopen, hfid, hfpeer, hclosed, hid, hpeer]⟩

theorem mboxAuth_start {b : List Byte} (hphase : (b.getD 0 0).toNat = 1) (s : State) : s.mboxAuth b = s.bodyAuth 1 .mailbox [] b 0 := by
  simp only [mboxAuth, hphase]

/-- A lockout that ends forgets the failed proofs of its peer (R458). -/
theorem authLockoutEnd_spec {s : State} {p : Nat} (h : (s.peer p).locked = true) :
    ((s.authLockoutEnd p).peer p).locked = false ∧ ((s.authLockoutEnd p).peer p).fails = [] := by
  have heq : s.authLockoutEnd p = s.setPeer { s.peer p with locked := false, fails := [] } := if_pos h
  have hpeer : (s.setPeer { s.peer p with locked := false, fails := [] }).peer p = { s.peer p with locked := false, fails := [] } := by
    rw [peer_setPeer, if_pos (s.peer_num p).symm]
  rw [heq, hpeer]
  exact ⟨rfl, rfl⟩

end State

end Sys2Proof.Machine

namespace Sys2Proof.Proofs

open Sys2Proof Sys2Proof.Machine

/-- Settles O42. A message is noted and then its phase runs (State.bodyAuth_start, State.bodyAuth_proof, State.bodyAuth_end), with the
outcomes of State.authStart_spec, State.authProof_good, State.authProof_bad and State.authEnd_open; every refusal is an answer that
leaves the sessions alone (State.bodyAuth_locked, State.authStart_limit, State.authProof_limit). -/
theorem authOpensAndClosesSessions : Obligations.AuthOpensAndClosesSessions := by
  intro s up
  have hnote := fun d : List Byte => s.noteSeq_frame (ofBytes (d.take 32))
  have hstage : ∀ d : List Byte, up → (s.noteSeq (ofBytes (d.take 32))).odv K.bringupStage ≠ 0 := fun d hup => by
    rw [(hnote d).odv (by decide)]; exact hup.1
  have hpower : ∀ d : List Byte, up → (s.noteSeq (ofBytes (d.take 32))).odv K.pwrState ≠ 0 := fun d hup => by
    rw [(hnote d).odv (by decide)]; exact hup.2
  have hlock : ∀ p (d : List Byte), (s.noteSeq (ofBytes (d.take 32))).lockedOut (wayOf p d) = (s.peer p).locked := fun p d =>
    congrArg XPeer.locked (s.noteSeq_peer _ p)
  have hsent : ∀ d : List Byte, (s.noteSeq (ofBytes (d.take 32))).sent = s.sent := fun d => hnote d .sent (by decide)
  refine ⟨fun p d hheard hup hlen hphase hrole hopen howner hfree => ⟨_, rfl, ?start⟩,
    fun p d x hheard hup hout hlen hphase hfind hfree hopen => ⟨_, rfl, ?proof⟩,
    fun p d hheard hup hin hid hphase hfree => ⟨_, rfl, ?close⟩, fun p d code cmd hheard hup hcase => ?refused,
    fun pay hon hup hlen hphase hrole hopen howner => ⟨_, rfl, ?mailbox⟩,
    fun sid => ⟨_, rfl, fun x => ?startTimeout, (State.authStartTimeout_evolves s sid).frame⟩,
    fun sid => ⟨_, rfl, fun x => ?idle, (State.sessionIdle_evolves s sid).frame⟩,
    fun p hlocked => ⟨_, rfl, ?unlock⟩⟩
  case start =>
    rw [State.xMessage_heard hheard, State.bodyAuth_start (hstage d hup) (hpower d hup) ((hlock p d).trans hfree) hphase]
    obtain ⟨⟨x, hsessions, hclosed, hpeer⟩, r, hr⟩ := State.authStart_spec (s := s.noteSeq (ofBytes (d.take 32))) hlen hrole
      (by rwa [State.noteSeq_openSessions]) (by rwa [State.ownerHash_congr (hnote d .sec (by decide))]) (wayOf p d) d
    refine ⟨⟨x, ?_, hclosed, hpeer⟩, ?_, ⟨r, ?_⟩, ((hnote d).mono rfl).step (State.authStart_evolves ..).frame rfl⟩
    · rw [hsessions, List.getLast?_concat]
    · rw [hsessions, List.length_append, s.noteSeq_sessions_length, List.length_singleton]
    · rw [hr, hsent]
      rfl
  case proof =>
    have hstarted : s.startedSession (wayOf p d) (xhSid (ofBytes (d.take 32))) = some x := hfind
    have hfound := List.find?_some hfind
    simp only [Bool.and_eq_true, Bool.not_eq_true', beq_iff_eq, decide_eq_true_eq] at hfound
    obtain ⟨⟨-, hid⟩, hpeer⟩ := hfound
    have hsame : s.noteSeq (ofBytes (d.take 32)) = s := State.noteSeq_outside hout s
    have hfree' := (hlock p d).trans hfree
    rw [hsame] at hfree'
    rw [State.xMessage_heard hheard, hsame, State.bodyAuth_proof hup.1 hup.2 hfree' hphase]
    refine ⟨fun hgood => ?_, fun hbad => ?_⟩
    · rw [State.authProof_good hstarted hlen hopen hgood]
      exact ⟨⟨State.openedBy x (xBody d), by rw [(State.authReply_answered ..).sessions]; exact List.mem_append_right _ List.mem_cons_self,
        rfl, rfl, hpeer, rfl⟩, ((State.setSessions_evolves s _).frame.mono rfl).step (State.authReply_evolves ..).frame rfl⟩
    · rw [State.authProof_bad hstarted hlen hopen hbad]
      obtain ⟨hgone, hcounted⟩ := s.proofFailed_spec p (if xhSession (ofBytes (d.take 32)) then xhSid (ofBytes (d.take 32)) else 0) x
      have hans := (s.proofFailed (wayOf p d) x).authReply_answered (wayOf p d) d Abort.authFailed (xhSid (ofBytes (d.take 32))) none []
      have hframe := (State.authReply_evolves (s.proofFailed (wayOf p d) x) (wayOf p d) d Abort.authFailed (xhSid (ofBytes (d.take 32))) none []).frame
      exact ⟨by rw [hans.sessions]; exact hgone, hcounted.congr rfl (hframe .meter (by decide)),
        ((State.proofFailed_evolves ..).frame.mono rfl).step hframe rfl⟩
  case close =>
    have hway : wayOf p d = .xaxia p (xhSid (ofBytes (d.take 32))) := by simp [wayOf, hin]
    have howns := hheard.owns hin hid
    rw [hway] at howns
    rw [State.xMessage_heard hheard, State.bodyAuth_end (hstage d hup) (hpower d hup) ((hlock p d).trans hfree) hphase, hway,
      State.authEnd_open howns]
    refine ⟨fun y hy => ?_, (((hnote d).mono rfl).step (State.setSessions_evolves _ _).frame rfl).step (State.reply_evolves ..).frame rfl⟩
    rw [(State.reply_answered ..).sessions] at hy
    simpa using (List.mem_filter.1 hy).2
  case refused =>
    have hrefused : ∀ sid key, let t := (s.noteSeq (ofBytes (d.take 32))).authReply (wayOf p d) d code sid key []
        t.dict.sessions = (s.noteSeq (ofBytes (d.take 32))).dict.sessions ∧ (∃ r, t.sent = s.sent ++ [.response (p + 1) code r]) ∧
          s.sameBut [.dict, .sent] t := by
      intro sid key t
      have hans := (s.noteSeq (ofBytes (d.take 32))).authReply_answered (wayOf p d) d code sid key []
      obtain ⟨r, hr⟩ := hans.sent
      rw [hsent] at hr
      exact ⟨hans.sessions, ⟨r, hr⟩, ((hnote d).mono rfl).step (State.authReply_evolves ..).frame rfl⟩
    rcases hcase with ⟨hlocked, rfl, hcmd⟩ | ⟨hfree, hopen, rfl, ⟨rfl, hphase, hlen, hrole⟩ | ⟨rfl, hphase, hlen, hx⟩⟩
    · have hall := fun n => State.bodyAuth_locked (hstage d hup) (hpower d hup) ((hlock p d).trans hlocked) n (b := xBody d) d
        (xhSid (ofBytes (d.take 32)))
      simp only [List.mem_cons, List.not_mem_nil, or_false] at hcmd
      rcases hcmd with rfl | rfl | rfl <;>
      · refine ⟨_, rfl, ?_⟩
        rw [State.xMessage_heard hheard, hall]
        exact hrefused ..
    · refine ⟨_, rfl, ?_⟩
      rw [State.xMessage_heard hheard, State.bodyAuth_start (hstage d hup) (hpower d hup) ((hlock p d).trans hfree) hphase,
        State.authStart_limit hlen hrole (by rwa [State.noteSeq_openSessions])]
      exact hrefused ..
    · refine ⟨_, rfl, ?_⟩
      obtain ⟨y, hy⟩ := State.noteSeq_startedSession (w := wayOf p d) (ofBytes (d.take 32)) hx
      rw [State.xMessage_heard hheard, State.bodyAuth_proof (hstage d hup) (hpower d hup) ((hlock p d).trans hfree) hphase,
        State.authProof_limit hy hlen (by rwa [State.noteSeq_openSessions])]
      exact hrefused ..
  case mailbox =>
    have hbody : (pay.drop 4).length = 34 := by rw [List.length_drop, hlen]
    rw [State.mbox_on hon (by omega) (by omega), State.mboxAuth_start hphase, State.bodyAuth_start hup.1 hup.2 rfl hphase]
    obtain ⟨⟨x, hsessions, -, -⟩, hr⟩ := State.authStart_spec (s := s) hbody hrole hopen howner .mailbox []
    refine ⟨?_, hr, (State.authStart_evolves ..).frame.mono rfl⟩
    rw [hsessions, List.length_append, List.length_singleton]
  case startTimeout =>
    simp [State.authStartTimeout, State.setSessions]
  case idle =>
    simp [State.sessionIdle, State.setSessions]
  case unlock =>
    obtain ⟨hfree, hfails⟩ := State.authLockoutEnd_spec hlocked
    exact ⟨hfree, hfails, (State.authLockoutEnd_evolves s p).frame⟩

end Sys2Proof.Proofs

/-! SUPPORT. Block transfers over Xaxia (R430, R456, R457). -/

namespace Sys2Proof.Machine.State

theorem wayOf_peer (p : Nat) (d : List Byte) : (wayOf p d).peer = some p := rfl

theorem blockLimit_wayOf (p : Nat) (d : List Byte) : blockLimit (wayOf p d) = 1024 := rfl

/-- An access whose station runs, or that needs none, starts no clock. -/
theorem demand_running {s : State} {l : List Nat} (h : l = [] ∨ s.awake l) : s.demand l = s := by
  rcases h with h | h
  · rw [h]; rfl
  · exact demand_awake h fun _ hb => hb

/-- What a DOMAIN object reads rests on the objects, the DOMAIN values and the Meter's shadows. -/
theorem domainRead_congr {fs : List Fld} {s t : State} (h : s.sameBut fs t) (hod : Fld.od ∉ fs) (hdomains : Fld.domains ∉ fs)
    (hmtr : Fld.mtr ∉ fs) (key : Nat) : t.domainRead key = s.domainRead key := by
  have hm : t.mtr = s.mtr := h .mtr hmtr
  simp only [domainRead, meterShadow, entryStats, h.odv hod, h.domain hdomains, hm]

/-! ### Reading -/

/-- A copy of a DOMAIN value is kept for whoever took it, in place of an older one (R456). -/
def keepCopy (s : State) (c : ReadCopy) : State :=
  { s with dict := { s.dict with copies := (s.dict.copies.filter fun x => !(x.key == c.key && decide (x.peer = c.peer))) ++ [c] } }

theorem keepCopy_frame (s : State) (c : ReadCopy) : s.sameBut [.dict] (s.keepCopy c) := fun f hf => by cases f <;> simp_all [agree, keepCopy]

/-- A block read at offset 0 takes a copy of the present value and is answered. -/
theorem blockRead_first {s : State} {w : Way} {idx sub len : Nat} (hform : s.blockForm w idx sub false = 0)
    (hrun : s.demand (stationsHolding idx sub) = s) (hpos : 0 < len) (hmax : len ≤ blockLimit w) (req : List Byte) : ∃ body,
    s.blockRead w req idx sub 0 len = (s.keepCopy ⟨okey idx sub, w.peer, s.domainRead (okey idx sub)⟩).respond w req 0 body := by
  unfold blockRead
  dsimp only
  rw [hform, hrun, if_neg (by decide), if_neg (by simp; omega)]
  exact ⟨_, rfl⟩

theorem bodyBlockRead_eq {b : List Byte} (hlen : b.length = 14) (s : State) (w : Way) (req : List Byte) : s.bodyBlockRead w req b =
    s.blockRead w req (objOf b).1 (objOf b).2 (ofBytes ((b.drop 4).take 8)) (ofBytes ((b.drop 12).take 2)) := by
  simp [bodyBlockRead, hlen]

/-! ### Writing -/

theorem bodyBlockPhase_begin {b : List Byte} (hphase : (b.getD 4 0).toNat = 1) (hlen : b.length = 13) (s : State) (w : Way) (req : List Byte) :
    s.bodyBlockPhase 1 w req b = s.blockBegin w req (objOf b).1 (objOf b).2 (ofBytes (b.drop 5)) := by
  unfold bodyBlockPhase bodyBlockWrite
  rw [hphase]
  simp [hlen]

theorem bodyBlockPhase_segment {b : List Byte} (hphase : (b.getD 4 0).toNat = 2) (hlen : 15 < b.length) (s : State) (w : Way) (req : List Byte) :
    s.bodyBlockPhase 2 w req b =
      s.blockSegment w req (objOf b).1 (objOf b).2 (ofBytes ((b.drop 5).take 8)) (ofBytes ((b.drop 13).take 2)) (b.drop 15) := by
  have hlong : ¬b.length - 5 < 10 := by omega
  unfold bodyBlockPhase bodyBlockWrite
  rw [hphase]
  simp [bodyShort, hlong]

theorem bodyBlockPhase_end {b : List Byte} (hphase : (b.getD 4 0).toNat = 3) (hlen : b.length = 9) (s : State) (w : Way) (req : List Byte) :
    s.bodyBlockPhase 3 w req b = s.blockEnd w req (objOf b).1 (objOf b).2 (ofBytes (b.drop 5)) := by
  unfold bodyBlockPhase bodyBlockWrite
  rw [hphase]
  simp [hlen]

/-- A transfer joins those under way, and no expiry of one before it is told any more (R457). -/
def openTransfer (s : State) (x : Transfer) : State :=
  { s with dict := { s.dict with
    transfers := s.dict.transfers ++ [x], expired := s.dict.expired.filter fun y => !(y.1 == x.key && decide (y.2 = x.peer)) } }

theorem openTransfer_frame (s : State) (x : Transfer) : s.sameBut [.dict] (s.openTransfer x) := fun f hf => by
  cases f <;> simp_all [agree, openTransfer]

theorem blockBegin_ok {s : State} {w : Way} {idx sub size : Nat} (hform : s.blockForm w idx sub true = 0)
    (hsize : size ≤ (objInfo idx sub).elim 0 (·.size)) (hfree : ∀ x ∈ s.dict.transfers, x.key ≠ okey idx sub) (req : List Byte) :
    s.blockBegin w req idx sub size = (s.openTransfer ⟨okey idx sub, w.peer, size, []⟩).respond w req 0 [] := by
  have hfits : ((objInfo idx sub).elim false fun o => decide (o.size < size)) = false := by
    cases h : objInfo idx sub with
    | none => rfl
    | some o => rw [h] at hsize; simpa using hsize
  have hidle : (s.dict.transfers.any fun t => t.key == okey idx sub) = false := by simpa using hfree
  unfold blockBegin
  dsimp only
  rw [hform, hfits, hidle]
  rfl

/-- The open transfer of a way on an object. -/
def transferOf (s : State) (w : Way) (key : Nat) : Option Transfer := s.dict.transfers.find? fun t => t.key == key && decide (t.peer = w.peer)

theorem findTransfer_open {s : State} {w : Way} {key : Nat} {x : Transfer} (h : s.transferOf w key = some x) :
    s.findTransfer w key = (some x, 0, s) := by
  unfold transferOf at h
  simp only [findTransfer, h]

/-- A transfer has grown by a segment (R457). -/
def putTransfer (s : State) (x : Transfer) : State := { s with dict := { s.dict with transfers := s.dict.transfers ++ [x] } }

theorem putTransfer_frame (s : State) (x : Transfer) : s.sameBut [.dict] (s.putTransfer x) := fun f hf => by
  cases f <;> simp_all [agree, putTransfer]

theorem blockSegment_ok {s : State} {w : Way} {idx sub off len : Nat} {x : Transfer} {data : List Byte} (hform : s.blockForm w idx sub true = 0)
    (hx : s.transferOf w (okey idx sub) = some x) (hoff : off = x.data.length) (hlen : len = data.length) (hpos : 0 < len)
    (hmax : len ≤ blockLimit w) (hfits : x.data.length + len ≤ x.size) (req : List Byte) :
    s.blockSegment w req idx sub off len data =
      ((s.dropTransfer (okey idx sub)).putTransfer { x with data := x.data ++ data }).respond w req 0 [] := by
  unfold blockSegment
  dsimp only
  rw [hform, if_neg (by decide), findTransfer_open hx]
  dsimp only
  rw [if_neg (by simp; omega), if_neg (by simp; omega)]
  rfl

theorem blockEnd_ok {s : State} {w : Way} {idx sub crc : Nat} {x : Transfer} (hform : s.blockForm w idx sub true = 0)
    (hx : s.transferOf w (okey idx sub) = some x) (hwhole : x.data.length = x.size) (hcrc : crc32c x.data = crc) (htoken : idx ≠ 0x0B031)
    (req : List Byte) :
    s.blockEnd w req idx sub crc = ((s.dropTransfer (okey idx sub)).domainEffect idx x.data).respond w req 0 [] := by
  unfold blockEnd
  dsimp only
  rw [hform, if_neg (by decide), findTransfer_open hx]
  simp [firstAbort, firstErr, hwhole, hcrc, htoken]

/-- A DOMAIN object without an effect of its own takes the value. -/
theorem domainEffect_plain {s : State} {idx : Nat} (hrun : s.demand (stationsHolding idx 0) = s) (htoken : idx ≠ 0x0B031) (hspdm : idx ≠ 0x0B040)
    (data : List Byte) : s.domainEffect idx data = s.setDomain (okey idx 0) data := by
  simp [domainEffect, hrun, htoken, hspdm]

theorem dropTransfer_frame (s : State) (key : Nat) : s.sameBut [.dict] (s.dropTransfer key) := (dropTransfer_evolves s key).frame

theorem mem_dropTransfer {s : State} {key : Nat} {y : Transfer} (h : y ∈ (s.dropTransfer key).dict.transfers) : y.key ≠ key := by
  have hkept : y ∈ s.dict.transfers.filter fun t => t.key != key := h
  simpa using (List.mem_filter.1 hkept).2

/-- A transfer that times out is dropped and remembered (R457). -/
theorem blockTimeout_eq {s : State} {i j : Nat} {x : Transfer} (h : s.dict.transfers.find? (fun t => t.key == okey i j) = some x) :
    s.blockTimeout i j = { s.dropTransfer (okey i j) with dict := { (s.dropTransfer (okey i j)).dict with
      expired := (s.dropTransfer (okey i j)).dict.expired ++ [(okey i j, x.peer)] } } := by
  simp only [blockTimeout, h]

end Sys2Proof.Machine.State

namespace Sys2Proof.Proofs

open Sys2Proof Sys2Proof.Machine

/-- Settles O40: each message that fits does the one thing its phase is for and is answered (State.blockRead_first,
State.blockBegin_ok, State.blockSegment_ok, State.blockEnd_ok), and noting its sequence number touches neither transfers nor values. -/
theorem blockTransfers : Obligations.BlockTransfers := by
  intro p d s b idx sub key run u w mine
  have hnote : s.sameBut [.dict] u := s.noteSeq_frame _
  obtain ⟨l, hdict⟩ := s.noteSeq_dict (ofBytes (d.take 32))
  have htransfers : u.dict.transfers = s.dict.transfers := by rw [hdict]
  have hsent : u.sent = s.sent := hnote .sent (by decide)
  have hfound : ∀ x, s.dict.transfers.find? mine = some x → u.transferOf w key = some x := fun x hfind =>
    (congrArg (List.find? mine) htransfers).trans hfind
  have hanswered : ∀ {v : State} body, u.sameBut [.dict] v → (∃ r, (v.respond w d 0 body).sent = s.sent ++ [.response (p + 1) 0 r]) ∧
      s.sameBut [.dict, .meter, .sent] (v.respond w d 0 body) := by
    intro v body hv
    obtain ⟨r, hr⟩ := (v.respond_answered w d 0 body).sent
    have hbefore : v.sent = s.sent := (hv .sent (by decide)).trans hsent
    exact ⟨⟨r, hr.trans (by rw [hbefore]; rfl)⟩, ((hnote.step hv rfl).mono rfl).step (State.respond_evolves ..).frame rfl⟩
  refine ⟨fun hheard hlen hform hrun hoff hpos hmax => ⟨_, rfl, ?read⟩, fun hheard hlen hphase hform hsize hfree => ⟨_, rfl, ?begin⟩,
    fun x hheard hlen hphase hform hfind hoff hcount hmax hfits => ⟨_, rfl, ?segment⟩,
    fun x hheard hlen hphase hform hrun hsub hfind hwhole hcrc htoken hspdm => ⟨_, rfl, ?finish⟩,
    fun i j x hfind => ⟨_, rfl, ?timeout⟩, fun i j q => ⟨_, rfl, fun c => ?expiry, (State.copyExpiry_evolves s i j q).frame⟩⟩
  case read =>
    have hdemand : u.demand (stationsHolding idx sub) = u :=
      State.demand_running (hrun.imp id fun h => hnote.awake (by decide) (by decide) h)
    have hvalue : u.domainRead key = s.domainRead key := State.domainRead_congr hnote (by decide) (by decide) (by decide) key
    obtain ⟨body, heq⟩ := State.blockRead_first hform hdemand hpos hmax d
    have hcopies := (State.respond_answered (u.keepCopy ⟨key, w.peer, u.domainRead key⟩) w d 0 body).copies
    have hkept : ReadCopy.mk key w.peer (u.domainRead key) ∈ (u.keepCopy ⟨key, w.peer, u.domainRead key⟩).dict.copies :=
      List.mem_append_right _ (List.mem_singleton_self _)
    rw [State.xMessage_heard hheard, State.bodyBlockRead_eq hlen, hoff, heq]
    exact ⟨⟨_, hcopies ▸ hkept, rfl, rfl, hvalue⟩, hanswered body (u.keepCopy_frame _)⟩
  case begin =>
    have heq := State.blockBegin_ok hform hsize (by rwa [htransfers]) d
    have hopen := (State.respond_answered (u.openTransfer ⟨key, some p, ofBytes (b.drop 5), []⟩) w d 0 []).transfers
    rw [State.xMessage_heard hheard, State.bodyBlockPhase_begin hphase hlen, heq]
    exact ⟨hopen.trans (congrArg (· ++ _) htransfers), (hanswered [] (u.openTransfer_frame _)).2⟩
  case segment =>
    have hpos : 0 < (b.drop 15).length := by rw [List.length_drop]; omega
    have heq := State.blockSegment_ok hform (hfound x hfind) hoff hcount (by rwa [hcount]) (by rwa [hcount]) (by rwa [hcount]) d
    have hgrown := (State.respond_answered ((u.dropTransfer key).putTransfer { x with data := x.data ++ b.drop 15 }) w d 0 []).transfers
    rw [State.xMessage_heard hheard, State.bodyBlockPhase_segment hphase hlen, heq]
    exact ⟨by rw [hgrown]; exact List.mem_append_right _ (List.mem_singleton_self _),
      hanswered [] ((u.dropTransfer_frame key).step (State.putTransfer_frame _ _) rfl)⟩
  case finish =>
    have hdrop := u.dropTransfer_frame key
    have hdemand : (u.dropTransfer key).demand (stationsHolding idx 0) = u.dropTransfer key := State.demand_running <| by
      rw [← hsub]
      exact hrun.imp id fun h => (hnote.step hdrop rfl).awake (by decide) (by decide) h
    have hkey : okey idx 0 = key := by rw [← hsub]
    have heq := State.blockEnd_ok hform (hfound x hfind) hwhole hcrc htoken d
    rw [State.domainEffect_plain hdemand htoken hspdm, hkey] at heq
    have hbefore : s.sameBut [.dict] (u.dropTransfer key) := hnote.step hdrop rfl
    have hanswer := State.respond_answered ((u.dropTransfer key).setDomain key x.data) w d 0 []
    have hrespond := (State.respond_evolves ((u.dropTransfer key).setDomain key x.data) w d 0 []).frame
    have hdomain : ∀ j, (((u.dropTransfer key).setDomain key x.data).respond w d 0 []).domain j = if j = key then x.data else s.domain j := fun j => by
      rw [hrespond.domain (by decide), State.domain_setDomain, hbefore.domain (by decide)]
    rw [State.xMessage_heard hheard, State.bodyBlockPhase_end hphase hlen, heq]
    exact ⟨(hdomain key).trans (if_pos rfl), fun j hj => (hdomain j).trans (if_neg hj),
      fun y hy => State.mem_dropTransfer (s := u) (hanswer.transfers ▸ hy),
      ((hbefore.mono rfl).step (State.setDomain_evolves _ _ _).frame rfl).step hrespond rfl⟩
  case timeout =>
    refine ⟨?_, ?_, (State.blockTimeout_evolves s i j).frame⟩
    · rw [State.blockTimeout_eq hfind]
      exact fun y hy => State.mem_dropTransfer (s := s) hy
    · rw [State.blockTimeout_eq hfind]
      exact List.mem_append_right _ (List.mem_singleton_self _)
  case expiry =>
    simp [State.copyExpiry, imp_iff_not_or]

end Sys2Proof.Proofs
